-- ==== Sys2Proof/Word.lean ====
section
/-! DEFINITION. The word types of the module (R5 to R7): registers are 32 bits, device time is a 64-bit
count of TAI nanoseconds. -/
namespace Sys2Proof

/-- A 32-bit register or Tister word (R6). -/
abbrev Word := BitVec 32

/-- One byte (R6). -/
abbrev Byte := BitVec 8

/-- Device time in ns, a 64-bit counter (R7, R323). -/
abbrev Time := BitVec 64

/-- Number of a general register g0 to g31 (04, "What an activation sees"). -/
abbrev GReg := Fin 32

/-- Number of a predicate p0 to p7 (04, "What an activation sees"). -/
abbrev PReg := Fin 8

/-- Severities of Skein records, most important first (R368). -/
inductive Severity | critical | error | warning | notice | trace
  deriving DecidableEq, Repr, Inhabited

end Sys2Proof
end

