-- ==== Sys2Proof/Config.lean ====
section
/-! DEFINITION. What the spec leaves open: opaque free values, applied to the counter `free` of State
or to the operands they depend on. Nothing in Lean can prove a value of them. -/
namespace Sys2Proof.Config

/-- A value the spec gives no way to compute (log entry 3): random challenges, session identifiers, session
keys, pose filter results. The argument is State's counter `free`. -/
opaque freeWord : Nat → Word

/-- A free 64-bit value (log entry 3). -/
opaque freeTime : Nat → Time

/-- A free truth value (log entry 3). -/
opaque freeBool : Nat → Bool

/-- The code of the `n`th cause of a day-state change in its record and event: the spec names the causes and gives them
no numbers (log entry 3). -/
opaque causeCode : Nat → Word

/-- CODE of a record whose event is counted or reported by no register that the spec names (R368, log entry 3). -/
opaque openCode : Nat → BitVec 16

/-- Severity of a record whose severity the spec does not name (log entry 3). -/
opaque openSeverity : Nat → Severity

/-- Whether the baseband microcode of a set (by its MANIFEST_ID) differs from the running one (R388, log entry 3). -/
opaque microDiffers : BitVec 64 → Bool

/-- Whether a set (by its MANIFEST_ID) migrates the `n`th settings record: 0 Tally, 1 load switches, 2 GNSS, 3 relay chain, 4 Skein,
5 panel (R391, log entry 3). -/
opaque migrates : BitVec 64 → Nat → Bool

/-- The way round that a sweep of exactly half a revolution takes (R153 names the shorter way; log entry 3). -/
opaque halfTurnForward : Bool

/-- The step of a conversion code in the unit of a mode (by its code), in 2^-32: the spec gives ranges and no code scale (R178,
log entry 3). -/
opaque ainUnit : Nat → Nat

/-- The value that the data bits of a good sensor-port frame stand for, by port, and PSI5 slot or SENT channel: the spec decodes the frames
and gives the data no scale (R189, R190, log entry 3). -/
opaque portValue : Nat → Nat → Nat → Word

/-- The normalised innovation squared of a measurement, by the free counter, its value and its declared noise: the filter that gives it is
fixed-function hardware whose numerics the spec does not state (R221, R222, log entry 3). -/
opaque innovation : Nat → Word → Word → Word

/-- HEADING of a pose-history entry from the heading, and SPEED from the velocities (R223, R227): the spec gives the units and no rounding
(log entry 3). -/
opaque headingUnits : Word → BitVec 16
opaque speedUnits : Word → Word → BitVec 16

/-- A noise baseline (AGC gain or floor, 0.01 dB) after one more clean epoch: R244 says when it learns and not how (log entry 3). -/
opaque noiseBaseline : Int → Int → Int

/-- The lever arm of R229 where its formula gives no finite number (a pole, an infinite or NaN lever), as offsets of latitude and longitude in 10^-7 degrees: of a latitude (10^-7 degrees), a heading
(360/65,536 degrees), LEVER_FWD and LEVER_LEFT (log entry 3). -/
opaque leverArm : Int → Nat → Word → Word → Int × Int

/-- Grey level of a pixel of the DUSK asset with its record list (0), and of the HOLD_CAUSE screen (1), from what they show (SOURCE, CODE and
UTC day of each record; HOLD_CAUSE): pictures and a font that the spec does not give (R407, log entry 3). -/
opaque assetPixel : Nat → List (Byte × BitVec 16 × Nat) → Nat → Nat

/-- Whether an ECDSA P-256 signature, (r, s) in 64 bytes, over a SHA-256 digest verifies against an uncompressed public key of 65 bytes (R166,
R174, R378): the spec names the scheme and gives no computation of it (log entry 6). -/
opaque ecdsaVerifies : BitVec 520 → BitVec 256 → List Byte → Bool

/-- The Erjor root key that verifies manifests, installed at manufacture (R382, log entry 3). -/
opaque erjorRoot : BitVec 520

/-- Whether the unit is a PTS-VX96-L, with a panel in its lid, or else a PTS-VX96-B (R1, R71: ID_DEVICE.VARIANT is fitted; log
entry 87). -/
opaque lidPanel : Bool

/-- ID_DEVICE.VARIANT (R2, R71): 0x1 PTS-VX96-B, 0x2 PTS-VX96-L, no other value. -/
def variant : BitVec 4 := if lidPanel then 2 else 1

/-- ID_SERIAL, the serial number of the unit (R71). -/
opaque serial : BitVec 64

/-- ETH_MAC, the module's MAC address (R349). -/
opaque mac : BitVec 48

/-- The value of a byte of data SRAM that nothing has written (log entry 4). -/
def sramDefault : Byte := 0

end Sys2Proof.Config
end

