-- ==== Sys2Proof/Types.lean ====
section
/-! DEFINITION. The data that commands carry and that State holds: requests, samples, frames, and the records
of a cop (program bundle). Most record layouts inside a cop's sections are given by field, not by byte (R166),
so a cop stands here as its records (log entry 7). -/
namespace Sys2Proof

/-- The two compute lanes (01). -/
inductive Lane | a | b
  deriving DecidableEq, Repr

/-- The other lane. -/
def Lane.other : Lane → Lane
  | .a => .b
  | .b => .a

/-- SEV code of a record (R368): 0 is the most important. -/
def Severity.code : Severity → Nat
  | .critical => 0 | .error => 1 | .warning => 2 | .notice => 3 | .trace => 4

/-- Status of a signal sample (R96). -/
inductive SigStatus | valid | stale | unaligned | late | substituted | quarantined
  deriving DecidableEq, Repr

/-- Status codes (R96). -/
def SigStatus.code : SigStatus → Word
  | .valid => 0 | .stale => 1 | .unaligned => 2 | .late => 3 | .substituted => 4 | .quarantined => 5

/-- One history sample of a signal (R95): VALUE, STAMP, STATUS, and the instant at which it landed, by which R99
judges whether an activation may use it. `spin` marks a sample that a Spindle task wrote (R84). -/
structure Sample where
  value : Word
  stamp : Time
  status : SigStatus
  landed : Time
  spin : Bool := false
  deriving DecidableEq, Repr

/-- Writer classes of a signal (R96), with what names the writer exactly (R97, R363). -/
inductive Writer
  | none | task (n : Nat) | analog | shaft | port | strike | ply | position (output : Nat) | can | hank (ch : Nat) | imu
  deriving DecidableEq, Repr

/-- WRITER codes of a signal entry (R96); 0x00 where no writer is declared. -/
def Writer.code : Writer → Byte
  | .none => 0x00 | .task _ => 0x01 | .analog => 0x02 | .shaft => 0x03 | .port => 0x04 | .strike => 0x05
  | .ply => 0x06 | .position _ => 0x07 | .can => 0x08 | .hank _ => 0x09 | .imu => 0x0A

/-- A requester of the register engine (R60, R69): host session slots 0 to 3, and 4 for the service port, numbered as
HANK_SELF.SLOT. -/
abbrev Requester := Fin 5

/-- The header of a Hank request as it matters after its MAC has verified (R353): who sent it, its sequence number, the
device time at which it arrived, and the version it names (VER_MAJ in bits 15:8, VER_MIN in bits 7:0). -/
structure Req where
  who : Requester
  seq : Word
  at_ : Time
  ver : BitVec 16 := 0x0204
  deriving DecidableEq, Repr

/-- NAK codes (R366). -/
inductive NakCode
  | badType | badLength | auth | version | noSession | noSlot | badAddr | wrongState | locked | badValue
  | badOffset | loadOwned | busyStep | noStandby | badMask | busy | noChannel
  deriving DecidableEq, Repr

/-- The 2 B code of a NAK (R366). -/
def NakCode.code : NakCode → BitVec 16
  | .badType => 0x0001 | .badLength => 0x0002 | .auth => 0x0003 | .version => 0x0004 | .noSession => 0x0005
  | .noSlot => 0x0006 | .badAddr => 0x0007 | .wrongState => 0x0008 | .locked => 0x0009 | .badValue => 0x000A
  | .badOffset => 0x000B | .loadOwned => 0x000C | .busyStep => 0x000D | .noStandby => 0x000E
  | .badMask => 0x000F | .busy => 0x0010 | .noChannel => 0x0011

/-- A reply (R354, R366): ACK with its payload as words, ACK with the DROPPED flag (R353, R364), NAK with its code and detail, BUSY with
RETRY_MS. -/
inductive Reply
  | ack (words : List Word)
  | ackDropped
  | nak (c : NakCode) (detail : Word)
  | busy (retryMs : Nat)
  deriving DecidableEq, Repr

/-- An output channel: a load switch LSW0 to LSW47 or a solenoid channel SOL0 to SOL31 (R167). -/
inductive Chan | lsw (n : Nat) | sol (n : Nat)
  deriving DecidableEq, Repr

/-- Fallback of a signal handle (R101). -/
inductive Fallback | pass | hold | const (v : Word)
  deriving DecidableEq, Repr

/-- A signal handle of a task (R79, R101). -/
structure SigHandle where
  signal : Nat
  fallback : Fallback := .pass
  deriving DecidableEq, Repr

/-- SIGNALS record (R95 to R100, R166). TYPE by its code; MAX_AGE in µs, 0 disables. -/
structure SigDecl where
  index : Nat
  type : Nat
  writer : Writer
  depth : Nat := 4
  maxAgeUs : Nat := 0
  deriving DecidableEq, Repr

/-- BOBBINS record (R102 to R106): size, policy, producer and consumer. Producer and consumer kinds are the codes of
BOB_CFG (R109); the task numbers matter where the kind is 1. -/
structure BobDecl where
  number : Nat
  size : Nat
  dropNew : Bool
  producer : Nat
  consumer : Nat
  producerTask : Nat := 0
  consumerTask : Nat := 0
  deriving DecidableEq, Repr

/-- TASKS record (R79). Lengths of time in the units of R79. -/
structure TaskDecl where
  spindle : Nat
  priority : Nat
  arrival : Bool := false
  period : Nat := 1
  offset : Nat := 0
  bobbin : Nat := 0
  spacingUs : Nat := 1
  settleUs : Nat := 0
  deadlineUs : Nat := 0
  budget : Nat := 1
  entry : Nat := 0
  keepBase : Nat := 0
  keepSize : Nat := 0
  scratchBase : Nat := 0
  scratchSize : Nat := 0
  sigs : List SigHandle := []
  loops : List (Nat × Nat) := []
  outs : List Chan := []
  bobs : List Nat := []
  onTrapStop : Bool := false
  deriving DecidableEq, Repr

/-- CODE section of one Spindle (R166): its instruction image, and the base and words of its constants region. -/
structure SpindleImage where
  spindle : Nat
  code : List Word := []
  constBase : Nat := 0
  consts : List Word := []
  deriving DecidableEq, Repr

/-- Loop TYPE (R143). -/
inductive LoopType | p | pi | pd | pid
  deriving DecidableEq, Repr

/-- Nesting role (R143). -/
inductive Nest | single | outer | inner | member
  deriving DecidableEq, Repr

/-- Source of the bumpless start value (R143, R150). -/
inductive Readback | none | pwmDuty | solCurrent | solPair
  deriving DecidableEq, Repr

/-- A signal that a Twist unit reads by itself, with its fallback (R157). -/
structure UnitSig where
  signal : Nat
  fallback : Fallback := .pass
  deriving DecidableEq, Repr

/-- TWIST loop record (R143); binary32 fields as their words, RB_CH_A and RB_CH_B as output handles of the stepping task. -/
structure LoopDecl where
  unit : Nat
  loop : Nat
  type : LoopType := .p
  nest : Nest := .single
  k : Nat := 1
  member : Nat := 0
  link : Nat := 0
  kp : Word := 0
  kiH : Word := 0
  kd : Word := 0
  n : Word := 0x3F800000
  h : Word := 0
  b : Word := 0x3F800000
  c : Word := 0
  ktH : Word := 0
  outHi : Word := 0
  outLo : Word := 0
  rate : Word := 0
  readback : Readback := .none
  rbA : Nat := 0
  rbB : Nat := 0
  rbScale : Word := 0x3F800000
  pvSig : Option UnitSig := none
  spSig : Option UnitSig := none
  ffSig : Option UnitSig := none
  rcEn : Bool := false
  rcTable : Nat := 0
  deriving DecidableEq, Repr

/-- TWIST table record (R151). -/
structure TableDecl where
  unit : Nat
  table : Nat
  en : Bool := true
  loop : Nat
  angle : UnitSig
  lead : Nat
  gamma : Word
  rho : Word
  alpha : Word
  tmax : Word
  deriving DecidableEq, Repr

/-- An extracted field of a CAN filter program (R337). -/
structure CanField where
  start : Nat
  width : Nat
  bigEndian : Bool := false
  signed : Bool := false
  signal : Nat
  scale : Option (Word × Word) := none
  deriving DecidableEq, Repr

/-- What a PLY filter packs (R338): the source, its KIND or the field that gives it, the field that gives SRC_TIME, and its value fields. -/
structure CanPly where
  bobbin : Nat
  sync : Bool
  kind : Option CanField := none        -- the field that gives KIND, in place of the constant `sync`
  srcTime : Option (CanField × CanField) := none
  values : List CanField := []
  deriving DecidableEq, Repr

/-- One filter pair with its action (R335). -/
structure CanFilter where
  mask : Word
  mat : Word
  queue : Option (Fin 2) := none
  extract : List CanField := []
  ply : Option CanPly := none
  deriving DecidableEq, Repr

/-- Bit timing of one phase (R334), with the values themselves, not the register codes. -/
structure BitTiming where
  brp : Nat
  tseg1 : Nat
  tseg2 : Nat
  sjw : Nat
  deriving DecidableEq, Repr

/-- CAN section record of one controller (R334, R335, R340 to R343). -/
structure CanDecl where
  ctrl : Nat
  nbt : BitTiming
  dbt : BitTiming
  tdc : Bool := false
  sspOffset : Nat := 0
  fd : Bool := true
  listen : Bool := false
  autoRec : Bool := false
  txById : Bool := false
  txTimeoutMs : Nat := 100
  filters : List CanFilter := []
  feeds : List (Nat × Nat) := []
  deriving DecidableEq, Repr

/-- A CAN frame as it lies on the bus (R333, R336). -/
structure CanFrame where
  id : Word
  fdf : Bool := false
  brs : Bool := false
  esi : Bool := false
  dlc : Nat
  data : List Byte := []
  deriving DecidableEq, Repr

/-- OUTPUTS record of a channel (R167, R282): KIND 0 SW, 1 PWM, 2 SOL; currents in mA, durations in 0.1 ms; its number among the
section's records, and whether a field of it holds no code of its own. -/
structure OutDecl where
  chan : Chan
  kind : Nat := 0
  iNom : Nat := 0
  iInrush : Nat := 0
  tInrush : Nat := 0
  iPeak : Nat := 0
  tPeak : Nat := 0
  iHold : Nat := 0
  dutyMax : Word := 0x7FFFFFFF
  freq : Nat := 0
  neutral : Bool := false
  shutOn : Bool := false
  armOrder : Nat := 0
  shutOrder : Nat := 0
  deferMax : Nat := 1
  quenchFast : Bool := false
  r20 : Nat := 0
  coilTmax : Nat := 0
  record : Nat := 0
  odd : Bool := false
  deriving DecidableEq, Repr

/-- KIND PWM: a load switch driven through its input pin (R167). -/
def OutDecl.pwm (d : OutDecl) : Bool := decide (d.kind = 1)

/-- Profile record (R288). -/
structure ProfileDecl where
  number : Nat
  peak : Nat
  riseMaxUs : Nat
  tPeakUs : Nat
  hold : Nat
  tHoldMs : Nat
  stay : Bool
  detect : Bool
  dip : Nat
  tFallMaxUs : Nat
  record : Nat := 0
  odd : Bool := false
  deriving DecidableEq, Repr

/-- What a Ply source measures (R212). -/
inductive PlyRole
  | imuInt | imuExt | wheel (n : Nat) | gnssPos | gnssHdg | steer | generic
  deriving DecidableEq, Repr

/-- PLY source record (R212). -/
structure PlySource where
  number : Nat
  bobbin : Option Nat := none
  signals : List Nat := []
  mapped : Bool := false
  role : PlyRole := .generic
  angles : List Bool := [false]
  latencyNs : Nat
  validityNs : Nat
  horizonNs : Nat
  frameNs : Nat := 100000
  driftTenthPpm : Nat := 1
  resNs : Nat := 1
  ko : Nat := 0
  kr : Nat := 0
  noise : List Word := []
  gate : Word := 0
  qn : Nat := 1
  outs : List (Option Nat) := []
  statSig : Option Nat := none
  deriving DecidableEq, Repr

/-- Yield channel record (R228). -/
structure YieldDecl where
  flowSig : Nat
  delaySig : Nat
  widthSig : Nat
  periodMs : Nat
  bobbin : Nat
  leverFwd : Word
  leverLeft : Word
  deriving DecidableEq, Repr

/-- PLY section (R216, R221, R223, R225): the pose signals in the order of R223, none where the cop declares none. -/
structure PlyDecl where
  periodMs : Nat := 1
  delayUs : Nat := 10
  aidDiv : Nat := 1
  posTimeoutMs : Nat := 1000
  primaryInt : Bool := true
  sources : List PlySource := []
  pose : List (Option Nat) := []
  exclLo : Option Nat := none
  exclHi : Option Nat := none
  yields : List YieldDecl := []
  deriving DecidableEq, Repr

/-- STRIKE channel record (R196 to R201). -/
structure StrikeDecl where
  ch : Nat
  ed : Nat
  nfShift : Nat
  initFloor : Nat
  kThr : Nat
  tMin : Nat
  tMax : Nat
  pre : Nat
  dead : Nat
  templates : List (Nat × Nat × List Int) := []
  deriving DecidableEq, Repr

/-- A Strike rate output (R206). -/
structure RateDecl where
  signal : Nat
  chMask : Word
  classMask : BitVec 5
  w : Nat
  factor : Word
  deriving DecidableEq, Repr

/-- Modes of an analog input (R178), numbered by their codes. -/
inductive AinMode | off | v5 | v10 | ma | res | dig | freq
  deriving DecidableEq, Repr

/-- PORTS record of an analog input (R178, R179): D and the supply that feeds the sensor. DIG threshold in 0.1 V. -/
structure AinDecl where
  input : Nat
  mode : AinMode
  signal : Nat
  d : Nat := 1
  supply : Option Nat := none
  thrTenthV : Nat := 10
  stopNs : Nat := 1000000000
  deriving DecidableEq, Repr

/-- PORTS record of a shaft track (R184): its SHF inputs, A, the optional quadrature partner B and the optional index Z, and its
fields. -/
structure ShaftDecl where
  track : Nat
  a : Nat
  b : Option Nat := none
  z : Option Nat := none
  teeth : Nat
  n : Nat
  filterNs : Nat
  rateHz : Nat
  stopNs : Nat
  indexTooth : Nat := 0
  angleSig : Nat
  speedSig : Nat
  deriving DecidableEq, Repr

/-- One PSI5 slot (R189). -/
structure Psi5Slot where
  startNs : Nat
  lengthNs : Nat
  signal : Nat
  sampleOffsetNs : Int := 0
  bits : Nat := 10
  crc : Bool := false
  deriving DecidableEq, Repr

/-- PORTS record of a sensor port (R188 to R190): mode code of SEN_STAT; the PSI5 schedule; of SENT the tick, each fast channel's signal
with its data nibbles, the slow format (0 none, 1 short, 2 enhanced) and the slow signals by message ID. -/
structure SensorDecl where
  port : Nat
  mode : Nat
  periodNs : Nat := 228000
  offsetNs : Nat := 0
  slots : List Psi5Slot := []
  tickNs : Nat := 3000
  fast : List (Nat × Nat) := []
  slowFormat : Nat := 0
  slow : List (Nat × Nat) := []
  sentOffsetNs : Int := 0
  deriving DecidableEq, Repr

/-- PORTS record of a supply output (R193): 5 V or 10 V. -/
structure SupDecl where
  sup : Nat
  tenV : Bool
  deriving DecidableEq, Repr

/-- Kinds of a Hank stream channel (R363). -/
inductive StreamKind | bobbinOut (b : Nat) | bobbinIn (b : Nat) | signalsIn
  deriving DecidableEq, Repr

/-- A stream channel declaration (R363). -/
structure StreamDecl where
  chan : Nat
  kind : StreamKind
  deriving DecidableEq, Repr

/-- A gate control list entry (R348): 8 gate states and an interval. -/
structure GateEntry where
  gates : BitVec 8
  intervalNs : Nat
  deriving DecidableEq, Repr

/-- PORTS record of an Ethernet port (R346 to R348). -/
structure EthDecl where
  port : Nat
  slave : Bool := false
  pvid : Nat := 1
  pcp : Nat := 0
  limit : Nat := 524288
  gcl : List GateEntry := []
  deriving DecidableEq, Repr

/-- A VLAN with its member ports (R347). -/
structure VlanDecl where
  vid : Nat
  members : List Nat
  deriving DecidableEq, Repr

/-- A static MAC table entry (R347). -/
structure MacStatic where
  addr : BitVec 48
  port : Nat
  deriving DecidableEq, Repr

/-- PANEL section (R395): geometry, and whether every asset fits (R172, 0x0705). -/
structure PanelDecl where
  width : Nat
  height : Nat
  line : Nat
  vblank : Nat
  assetsFit : Bool := true
  deriving DecidableEq, Repr

/-- A barrier group (R138): its number and its participants. -/
structure BarrierDecl where
  group : Nat
  tasks : List Nat
  deriving DecidableEq, Repr

/-- A cop (program bundle) as its records (R165, R166). -/
structure Cop where
  format : Nat := 3
  minIsa : Nat := 1
  sigdictFmt : Nat := 2
  copId : BitVec 64 := 0
  detRequest : Bool := false
  detStrict : Bool := false
  autoarm : Bool := false
  armOk : Option Nat := none
  pauseOk : Option Nat := none
  locks : BitVec 5 := 0
  sections : List Nat := [1, 2, 3, 7, 15]
  images : List SpindleImage := []
  tasks : List TaskDecl := []
  barriers : List BarrierDecl := []
  signals : List SigDecl := []
  bobbins : List BobDecl := []
  loops : List LoopDecl := []
  tables : List TableDecl := []
  bindings : List (Nat × List Nat) := []
  can : List CanDecl := []
  outputs : List OutDecl := []
  profiles : List ProfileDecl := []
  ply : PlyDecl := {}
  strike : List StrikeDecl := []
  rates : List RateDecl := []
  strikeBobbin : Option Nat := none
  captureBobbin : Option Nat := none
  panel : Option PanelDecl := none
  ain : List AinDecl := []
  shafts : List ShaftDecl := []
  sensors : List SensorDecl := []
  sups : List SupDecl := []
  streams : List StreamDecl := []
  eth : List EthDecl := []
  vlans : List VlanDecl := []
  macs : List MacStatic := []
  deriving DecidableEq, Repr

/-- HELLO (R357): the first message offers a range of versions, the second completes the opening. `authOk` is the verdict
on chains, signatures and key agreement of that step (log entry 6). -/
structure HelloMsg where
  complete : Bool
  lo : BitVec 16
  hi : BitVec 16
  authOk : Bool
  port : Nat
  deriving DecidableEq, Repr

/-- One record of a Signals in stream (R363). -/
structure StreamRecord where
  signal : Nat
  value : Word
  stamp : Time
  deriving DecidableEq, Repr

/-- Payload of a host STREAM (R363, R248). -/
inductive StreamPayload
  | entry (bytes : List Byte)
  | records (rs : List StreamRecord)
  | rtcm (bytes : List Byte)
  deriving DecidableEq, Repr

/-- A PSI5 reply as it lies on the line (R189): whether every bit was a Manchester bit, and the bits after the start bits in the order of
transmission, data and then parity or CRC. -/
structure Psi5Frame where
  manchester : Bool := true
  data : List Bool
  check : List Bool
  deriving DecidableEq, Repr

/-- A SENT frame as its pulses lie on the line (R190): the calibration pulse in ns, and the nibble pulses in ticks: status, data, CRC. A
pause pulse carries nothing. -/
structure SentFrame where
  calNs : Nat
  pulses : List Nat
  deriving DecidableEq, Repr

/-- A channel's measurement at an epoch (R238): pseudorange in mm, and what the position engine adds for the checks of R242: the residual
against its clock model in mm, and the satellite's elevation in 0.01°. -/
structure GnssMeas where
  ch : Nat
  pseudorange : Int
  codePhase : Word
  carrier : BitVec 64
  doppler : Word
  cn0 : Word
  slip : Bool
  resid : Option Int := none
  elev : Int := 0
  deriving DecidableEq, Repr

/-- AGC gain and noise floor of the four paths at an epoch, in 0.01 dB, path 2a + b (R233, R242). -/
structure GnssFronts where
  agc : List Int := []
  floor : List Int := []
  deriving DecidableEq, Repr

/-- A solution of the position engine for one epoch (R246, R249): MODE 0 none, 1 standalone, 2 with corrections; the ambiguity ratio; the
values of its outputs; what it keeps for a checkpoint (R250): clock model, ambiguities, and navigation data received (almanac or
ephemeris, key, bytes); the UTC parameters it has received: TAI − UTC, announced leap second and its day (R329). -/
structure Solution where
  epoch : Time
  mode : Nat
  ratio : Word := 0
  svUsed : Nat
  outputs : List (Nat × Word)
  hdgFixed : Bool
  baselineMm : Nat
  clock : List Word := []
  ambig : List (Nat × Word) := []
  nav : List (Bool × Nat × List Byte) := []
  utc : Option (BitVec 8 × BitVec 2 × BitVec 16) := none
  deriving DecidableEq, Repr

/-- An Ethernet frame at a port (R346, R347). -/
structure EthFrame where
  src : BitVec 48
  dst : BitVec 48
  vlan : Option (Nat × Nat) := none
  length : Nat
  fcsOk : Bool := true
  subscribed : Bool := false
  payload : List Byte := []
  deriving DecidableEq, Repr

/-- Clock sources and derived domains (R20), domains numbered as in R332. -/
inductive ClockMon
  | ref | rco | lko | rtc | mainPll (d : Fin 10) | fallbackPll (d : Fin 10)
  deriving DecidableEq, Repr

/-- Where a Tister instruction runs: its Spindle, and the guard predicate of its word (R110, R113). -/
structure Slot where
  sp : Fin 64
  p : PReg := 0
  deriving DecidableEq, Repr

/-- One waveform of the table (R399): its key and its 2-bit codes, frame by frame. -/
structure WaveEntry where
  mode : Nat
  age : Nat
  band : Nat
  src : Nat
  dst : Nat
  codes : List (BitVec 2)
  deriving DecidableEq, Repr

/-- Waveform table part 0x05 (R399): thresholds and entries. -/
structure WaveTable where
  modes : Nat := 3
  ages : Nat := 1
  bandT : List Int := []
  ageT : List Nat := []
  entries : List WaveEntry := []
  deriving DecidableEq, Repr

end Sys2Proof
end

