-- ==== Sys2Proof/Syntax.lean ====
section
/-! DEFINITION. The commands of the module: one constructor per row of the table of operations and events, in its
order. A timed event carries the device time `t` at which it occurs, a host request its header `r` (requester, sequence
number, arrival instant), a Tister instruction the Spindle it runs on and its guard predicate. -/
namespace Sys2Proof

/-- The commands (rows of the table). -/
inductive Instr
  /-- VBAT_QUALIFIED (R29). VBAT stays at or above 8.6 V for 10 ms, so the always-on supervisor releases the logic supplies and a power-on DAWN begins. -/
  | vbatQualified (t : Time)
  /-- KL15_RISING (R25). KL15 rises in MIDNIGHT and starts DAWN. -/
  | kl15Rising (t : Time)
  /-- WAKE_LINE_ASSERTED (R25). One of WAKE0 to WAKE3 is asserted through its 1 ms filter in MIDNIGHT and starts DAWN. -/
  | wakeLineAsserted (t : Time) (line : Fin 4)
  /-- RTC_ALARM (R25). The real-time clock alarm fires in MIDNIGHT and starts DAWN. -/
  | rtcAlarm (t : Time)
  /-- KL15_LOW_200MS (R27). KL15 has stayed low for 200 ms: DUSK starts, or, during DAWN, the fall is latched and checked when DAWN ends. -/
  | kl15Low200ms (t : Time)
  /-- MIDNIGHT_PENDING_WAKE (R27). On entering MIDNIGHT the module finds KL15 high as a pending wake and starts DAWN within 10 ms. -/
  | midnightPendingWake (t : Time)
  /-- RESET_N_ASSERTED (R51). RESET_N is held low for at least 10 µs and causes a warm reset that runs DAWN. -/
  | resetNAsserted (t : Time)
  /-- LOGIC_SUPPLIES_UP (R29). The logic supplies reach regulation, and the output die logic is powered with all channels off unless the start is a warm reset. -/
  | logicSuppliesUp (t : Time)
  /-- REF_PLLS_LOCKED (R29). The REF PLLs lock and the clock monitors start; the Sundial starts, flagged UNSET, and is loaded from the real-time clock. -/
  | refPllsLocked (t : Time) (refOk : Bool)
  /-- SELF_TEST_COMPLETE (R30). Both lanes have been self-tested in turn, and the lane chosen takes the Whorl or DAWN stops in the hold with cause NO_LANE. -/
  | selfTestComplete (t : Time) (passA passB imuOk panelFitted : Bool)
  /-- DISTAFF_BOOTED (R29). The Distaff has booted from the firmware slot that the update journal names, and the GNSS baseband starts searching. -/
  | distaffBooted (t : Time)
  /-- JOURNAL_RECOVERY (R392). The outcome of the update journal is applied and the load-switch retry state is restored from journal memory. -/
  | journalRecovery (t : Time)
  /-- COP_READ_DONE (R29). The stored cop has been read from the selected cop-store slot into the lane that will be active, and validation starts. -/
  | copReadDone (t : Time)
  /-- COP_VALIDATION_DONE (R172). Validation of a cop completes and either passes it or refuses it with a code, which updates COP_STATUS and decides between the standby copy and the DAWN hold. -/
  | copValidationDone (t : Time) (c : Cop)
  /-- STANDBY_COPY_DONE (R301). The validated image copied into the other lane has verified or failed, so that lane becomes COLD or FAILED and MORNING is entered. -/
  | standbyCopyDone (t : Time) (ok : Bool)
  /-- ARM (R35). Host ARM in MORNING takes the module to NOON or AFTERNOON. -/
  | arm (r : Req)
  /-- AUTOARM (R36). At a major-frame boundary in MORNING, a cop with AUTOARM arms itself once its ARM_OK signal is VALID and non-zero. -/
  | autoarm (t : Time)
  /-- ARM_OUTPUT_START (R35). Outputs are first driven at the first major-frame boundary that lies at least 1 ms after ARM, with switch-ons claimed in the declared order. -/
  | armOutputStart (t : Time)
  /-- DISARM (R37). DISARM takes the module from NOON or AFTERNOON to MORNING and takes outputs to their shutdown states. -/
  | disarm (r : Req)
  /-- DUSK_STEP_DONE (R38). One step of the DUSK sequence completes and the next starts; after the last step the module enters MIDNIGHT. -/
  | duskStepDone (t : Time)
  /-- DUSK_TIMEOUT (R38). DUSK is not complete at 1,500 ms, so an ERROR is written, all outputs are cut and the module enters MIDNIGHT. -/
  | duskTimeout (t : Time)
  /-- HOLDUP_START (R414). VBAT stays below 4.5 V for 1 ms, so all channels switch off, the Tally admits nothing, and the hold-up steps run. -/
  | holdupStart (t : Time)
  /-- HOLDUP_EXHAUSTED (R25). VBAT has been lost beyond the hold-up energy and the module is power off. -/
  | holdupExhausted (t : Time)
  /-- HU_READY (R415). The hold-up storage becomes full and PWR_STAT.HU_READY is set. -/
  | huReady (t : Time) (ms : Nat)
  /-- HELLO (R357). A HELLO message opens a session, or completes it in its second exchange, by version choice, certificate checks and key agreement. -/
  | hello (r : Req) (m : HelloMsg)
  /-- REG_RD (R356). The register engine reads one register and returns its value. -/
  | regRd (r : Req) (addr : Word)
  /-- REG_WR (R356). The register engine writes one register that has no behaviour of its own, subject to address, access-code and lock checks. -/
  | regWr (r : Req) (addr v : Word)
  /-- REG_WRM (R356). The register engine changes exactly the masked bits of a register in one access and returns the result. -/
  | regWrm (r : Req) (addr mask v : Word)
  /-- BLOCK_RD (R355). The register engine reads up to 350 contiguous registers or window words in ascending order without interleaving. -/
  | blockRd (r : Req) (addr : Word) (count : Nat) (win : Nat)
  /-- BLOCK_WR (R355). The register engine writes up to 350 contiguous registers or window words in ascending order without interleaving. -/
  | blockWr (r : Req) (addr : Word) (win : Nat) (words : List Word)
  /-- COP_LOAD_BEGIN (R425). BEGIN selects a cop-store slot, marks it WRITING and erases it, or takes over a stale load. -/
  | copLoadBegin (r : Req) (total : Nat) (digest : BitVec 256)
  /-- COP_LOAD_DATA (R169). DATA writes cop bytes at the next expected offset, drawing flash programming bursts through Tally claims. -/
  | copLoadData (r : Req) (offset : Nat) (bytes : List Byte)
  /-- COP_LOAD_COMMIT (R171). COMMIT checks the length and digest, writes the commit record and starts validation. -/
  | copLoadCommit (r : Req)
  /-- COP_LOAD_REVERT (R168). REVERT selects the other cop-store slot if it holds a VALID or PENDING cop. -/
  | copLoadRevert (r : Req)
  /-- COP_LOAD_ABORT (R168). ABORT ends a WRITING load and leaves the slot selected and incomplete. -/
  | copLoadAbort (r : Req)
  /-- FUNC_REINIT (R54). FUNC_REINIT re-initialises the functions that a 64-bit mask selects and reports DONE and PENDING masks. -/
  | funcReinit (r : Req) (mask : BitVec 64)
  /-- FUNC_RESTART_DONE (R54). A re-initialised function that was PENDING is running again, for an Ethernet port at link-up or after 200 ms. -/
  | funcRestartDone (t : Time) (fn : Fin 45)
  /-- WARM_RESET (R56). Hank WARM_RESET starts a warm-reset DAWN after its reply has left. -/
  | warmReset (r : Req)
  /-- ACTIVATE (R385). ACTIVATE accepts a STAGED manifest for activation by pause, handover or AUTO, or refuses it. -/
  | activate (r : Req) (id : BitVec 64) (mode : Nat)
  /-- STREAM_HOST_WRITE (R363). A host STREAM on a Bobbin-in or Signals-in channel, or on channel 0 for RTCM, is written and acknowledged. -/
  | streamHostWrite (r : Req) (chan : Nat) (p : StreamPayload)
  /-- STREAM_SUBSCRIBE (R364). A STREAM with SUB or UNSUB subscribes or unsubscribes the session to a Bobbin-out channel. -/
  | streamSubscribe (r : Req) (chan : Nat) (sub : Bool)
  /-- STREAM_OUT_SEND (R364). An entry of a subscribed Bobbin-out channel is popped and sent to the host once, unacknowledged. -/
  | streamOutSend (t : Time) (chan : Nat)
  /-- HANK_AUTH_FAIL (R359). A message with a wrong MAC is discarded unanswered and counted in HANK_AUTH_FAIL. -/
  | hankAuthFail (t : Time)
  /-- DISTAFF_QUEUE_SERVICE (R361). The Distaff takes the next queued request, in order of class priority and rotation, and executes it. -/
  | distaffQueueService (t : Time) (serviceUs : Nat)
  /-- DISTAFF_WATCHDOG_MISS (R361). The Distaff misses its watchdog for 500 ms and is re-initialised alone, and its queued requests are dropped. -/
  | distaffWatchdogMiss (t : Time)
  /-- HANK_SESSION_TIMEOUT (R359). A session closes after 60 s without a valid request. -/
  | hankSessionTimeout (t : Time) (who : Requester)
  /-- SERVICE_FRAME_BAD (R421). A service-port frame with a bad CRC, or over-long, is discarded like a lost datagram. -/
  | serviceFrameBad (t : Time)
  /-- SYS_CTRL_DUSK (R72). Writing SYS_CTRL.DUSK 1 starts DUSK where a transition allows it, and otherwise the write is refused WRONG_STATE. -/
  | sysCtrlDusk (r : Req)
  /-- SYS_CTRL_HOLD_OFF (R32). Writing SYS_CTRL.HOLD_OFF in the DAWN hold switches held outputs and supplies off in shutdown order and ends limp drive. -/
  | sysCtrlHoldOff (r : Req)
  /-- SYS_CTRL_STAY_DAWN (R56). Writing SYS_CTRL.STAY_DAWN makes the next warm-reset DAWN stop in the hold with cause HOST_HOLD. -/
  | sysCtrlStayDawn (r : Req) (on : Bool)
  /-- SYS_LOCK_SET (R63). Writing 1 to a SYS_LOCK bit sets a lock that lasts until a warm or power reset. -/
  | sysLockSet (r : Req) (bits : BitVec 5)
  /-- COUNTER_SAT_CLEAR (R67). Writing 1 to a counter's SAT bit clears SAT and sets the count to zero. -/
  | counterSatClear (r : Req) (addr : Word)
  /-- LO_REGISTER_READ (R66). A read of a 64-bit LO register returns bits 31:0 and captures bits 63:32 into the requester's shadow. -/
  | loRegisterRead (r : Req) (addr : Word)
  /-- LO_REGISTER_WRITE (R66). A write to a writable 64-bit LO register is staged. -/
  | loRegisterWrite (r : Req) (addr v : Word)
  /-- HI_REGISTER_WRITE (R66). A write to the HI register commits both halves of a staged 64-bit value together. -/
  | hiRegisterWrite (r : Req) (addr v : Word)
  /-- IND_CTRL_WRITE (R70). A write to IND_CTRL selects the window and auto-increment and resets IND_ADDR to zero. -/
  | indCtrlWrite (r : Req) (v : Word)
  /-- IND_DATA_READ (R70). A read of IND_DATA reads the window word at IND_ADDR, with range and timeout checks and auto-increment. -/
  | indDataRead (r : Req)
  /-- IND_DATA_WRITE (R70). A write of IND_DATA writes the window word at IND_ADDR, with range and timeout checks and auto-increment. -/
  | indDataWrite (r : Req) (v : Word)
  /-- TRIPLICATE_SCRUB (R64). Once per major frame in the LKO domain, each triplicated field is scrubbed and a minority copy is corrected, counted and recorded. -/
  | triplicateScrub (t : Time)
  /-- TASK_RELEASE_PERIODIC (R80). At a device-time grid instant, a PERIODIC task is released with that instant as ti. -/
  | taskReleasePeriodic (t : Time) (task : Nat)
  /-- TASK_RELEASE_ARRIVAL (R81). An ARRIVAL task is released for the next entry of its Bobbin once SPACING has passed, with the entry's stamp as ti. -/
  | taskReleaseArrival (t : Time) (task : Nat)
  /-- ACTIVATION_START (R82). The highest-priority ready activation on a Spindle starts with cleared registers and scratch region, and is charged dispatch. -/
  | activationStart (t : Time) (sp : Fin 64)
  /-- SIG_WAIT_RESUME (R84). A sig.rd that waited for its writer resumes once the writer has completed every activation with ti at or before the reader's ti. -/
  | sigWaitResume (t : Time) (sp : Fin 64)
  /-- BARRIER_RESUME (R138). Participants waiting at bar n resume once every participant has executed bar n for the same ti. -/
  | barrierResume (t : Time) (group : Fin 16) (ti : Time)
  /-- ADD (R115). Integer add, wrapping. -/
  | add (x : Slot) (d a b : GReg)
  /-- SUB (R115). Integer subtract, wrapping. -/
  | sub (x : Slot) (d a b : GReg)
  /-- MUL (R115). Low 32 bits of the integer product. -/
  | mul (x : Slot) (d a b : GReg)
  /-- MULH (R115). High 32 bits of the signed 64-bit product. -/
  | mulh (x : Slot) (d a b : GReg)
  /-- MULHU (R115). High 32 bits of the unsigned 64-bit product. -/
  | mulhu (x : Slot) (d a b : GReg)
  /-- DIV (R115). Signed division rounded toward zero. -/
  | div (x : Slot) (d a b : GReg)
  /-- DIVU (R115). Unsigned division. -/
  | divu (x : Slot) (d a b : GReg)
  /-- REM (R116). Signed remainder. -/
  | rem (x : Slot) (d a b : GReg)
  /-- REMU (R116). Unsigned remainder. -/
  | remu (x : Slot) (d a b : GReg)
  /-- AND (R115). Bitwise AND. -/
  | and_ (x : Slot) (d a b : GReg)
  /-- OR (R115). Bitwise OR. -/
  | or_ (x : Slot) (d a b : GReg)
  /-- XOR (R115). Bitwise XOR. -/
  | xor (x : Slot) (d a b : GReg)
  /-- ANDN (R115). A AND NOT B. -/
  | andn (x : Slot) (d a b : GReg)
  /-- SHL (R115). Shift left by B[4:0]. -/
  | shl (x : Slot) (d a b : GReg)
  /-- SHR (R115). Logical shift right by B[4:0]. -/
  | shr (x : Slot) (d a b : GReg)
  /-- SRA (R115). Arithmetic shift right by B[4:0]. -/
  | sra (x : Slot) (d a b : GReg)
  /-- ROL (R115). Rotate left by B[4:0]. -/
  | rol (x : Slot) (d a b : GReg)
  /-- MIN (R115). Signed minimum. -/
  | min (x : Slot) (d a b : GReg)
  /-- MAX (R115). Signed maximum. -/
  | max (x : Slot) (d a b : GReg)
  /-- MINU (R115). Unsigned minimum. -/
  | minu (x : Slot) (d a b : GReg)
  /-- MAXU (R115). Unsigned maximum. -/
  | maxu (x : Slot) (d a b : GReg)
  /-- CLZ (R115). Count of leading zero bits. -/
  | clz (x : Slot) (d a : GReg)
  /-- POPC (R115). Count of set bits. -/
  | popc (x : Slot) (d a : GReg)
  /-- ADDI (R117). Add a sign-extended immediate. -/
  | addi (x : Slot) (d a : GReg) (imm : BitVec 13)
  /-- ANDI (R117). AND with a zero-extended immediate. -/
  | andi (x : Slot) (d a : GReg) (imm : BitVec 13)
  /-- ORI (R117). OR with a zero-extended immediate. -/
  | ori (x : Slot) (d a : GReg) (imm : BitVec 13)
  /-- XORI (R117). XOR with a zero-extended immediate. -/
  | xori (x : Slot) (d a : GReg) (imm : BitVec 13)
  /-- SHLI (R117). Shift left by an immediate amount. -/
  | shli (x : Slot) (d a : GReg) (sh : BitVec 5)
  /-- SHRI (R117). Logical shift right by an immediate amount. -/
  | shri (x : Slot) (d a : GReg) (sh : BitVec 5)
  /-- SRAI (R117). Arithmetic shift right by an immediate amount. -/
  | srai (x : Slot) (d a : GReg) (sh : BitVec 5)
  /-- ROLI (R117). Rotate left by an immediate amount. -/
  | roli (x : Slot) (d a : GReg) (sh : BitVec 5)
  /-- MOVI (R117). Load a sign-extended immediate. -/
  | movi (x : Slot) (d : GReg) (imm : BitVec 13)
  /-- LDC (R128). Load a word from the constants region by index. -/
  | ldc (x : Slot) (d : GReg) (imm : BitVec 13)
  /-- LDW (R128). Load a 32-bit word from data SRAM, with alignment and bounds traps. -/
  | ldw (x : Slot) (d a : GReg) (imm : BitVec 13)
  /-- LDH (R128). Load a sign-extended halfword. -/
  | ldh (x : Slot) (d a : GReg) (imm : BitVec 13)
  /-- LDHU (R128). Load a zero-extended halfword. -/
  | ldhu (x : Slot) (d a : GReg) (imm : BitVec 13)
  /-- LDB (R128). Load a sign-extended byte. -/
  | ldb (x : Slot) (d a : GReg) (imm : BitVec 13)
  /-- LDBU (R128). Load a zero-extended byte. -/
  | ldbu (x : Slot) (d a : GReg) (imm : BitVec 13)
  /-- STW (R128). Store a 32-bit word to data SRAM. -/
  | stw (x : Slot) (data a : GReg) (imm : BitVec 13)
  /-- STH (R128). Store a halfword. -/
  | sth (x : Slot) (data a : GReg) (imm : BitVec 13)
  /-- STB (R128). Store a byte. -/
  | stb (x : Slot) (data a : GReg) (imm : BitVec 13)
  /-- QADD (R118). Saturating fixed-point add. -/
  | qadd (x : Slot) (d a b : GReg)
  /-- QSUB (R118). Saturating fixed-point subtract. -/
  | qsub (x : Slot) (d a b : GReg)
  /-- QNEG (R118). Saturating negate. -/
  | qneg (x : Slot) (d a : GReg)
  /-- QABS (R118). Saturating absolute value. -/
  | qabs (x : Slot) (d a : GReg)
  /-- QMUL16 (R118). Q16.16 product, rounded and saturated. -/
  | qmul16 (x : Slot) (d a b : GReg)
  /-- QMUL31 (R118). Q1.31 product, rounded and saturated. -/
  | qmul31 (x : Slot) (d a b : GReg)
  /-- QSHL (R118). Saturating left shift. -/
  | qshl (x : Slot) (d a b : GReg)
  /-- FADD (R119). binary32 add. -/
  | fadd (x : Slot) (d a b : GReg)
  /-- FSUB (R119). binary32 subtract. -/
  | fsub (x : Slot) (d a b : GReg)
  /-- FMUL (R119). binary32 multiply. -/
  | fmul (x : Slot) (d a b : GReg)
  /-- FDIV (R119). binary32 divide, correctly rounded. -/
  | fdiv (x : Slot) (d a b : GReg)
  /-- FSQRT (R119). binary32 square root, correctly rounded. -/
  | fsqrt (x : Slot) (d a : GReg)
  /-- FFMA (R119). Fused multiply-add, rounded once, written to D. -/
  | ffma (x : Slot) (d a b : GReg)
  /-- FMIN (R119). binary32 minimum under R75. -/
  | fmin (x : Slot) (d a b : GReg)
  /-- FMAX (R119). binary32 maximum under R75. -/
  | fmax (x : Slot) (d a b : GReg)
  /-- FABS (R119). Clear the sign bit. -/
  | fabs (x : Slot) (d a : GReg)
  /-- FNEG (R119). Invert the sign bit. -/
  | fneg (x : Slot) (d a : GReg)
  /-- F2I (R120). Convert binary32 to int32. -/
  | f2i (x : Slot) (d a : GReg)
  /-- I2F (R120). Convert int32 to binary32. -/
  | i2f (x : Slot) (d a : GReg)
  /-- F2Q16 (R120). Convert binary32 to Q16.16. -/
  | f2q16 (x : Slot) (d a : GReg)
  /-- Q162F (R120). Convert Q16.16 to binary32. -/
  | q162f (x : Slot) (d a : GReg)
  /-- F2Q31 (R120). Convert binary32 to Q1.31. -/
  | f2q31 (x : Slot) (d a : GReg)
  /-- Q312F (R120). Convert Q1.31 to binary32. -/
  | q312f (x : Slot) (d a : GReg)
  /-- IEQ (R121). Integer equal compare into a predicate. -/
  | ieq (x : Slot) (d : PReg) (a b : GReg)
  /-- INE (R121). Integer not-equal compare. -/
  | ine (x : Slot) (d : PReg) (a b : GReg)
  /-- ILT (R121). Signed less-than compare. -/
  | ilt (x : Slot) (d : PReg) (a b : GReg)
  /-- IGE (R121). Signed greater-or-equal compare. -/
  | ige (x : Slot) (d : PReg) (a b : GReg)
  /-- ILTU (R121). Unsigned less-than compare. -/
  | iltu (x : Slot) (d : PReg) (a b : GReg)
  /-- IGEU (R121). Unsigned greater-or-equal compare. -/
  | igeu (x : Slot) (d : PReg) (a b : GReg)
  /-- IEQI (R121). Equal compare with an immediate. -/
  | ieqi (x : Slot) (d : PReg) (a : GReg) (imm : BitVec 13)
  /-- INEI (R121). Not-equal compare with an immediate. -/
  | inei (x : Slot) (d : PReg) (a : GReg) (imm : BitVec 13)
  /-- ILTI (R121). Less-than compare with an immediate. -/
  | ilti (x : Slot) (d : PReg) (a : GReg) (imm : BitVec 13)
  /-- IGEI (R121). Greater-or-equal compare with an immediate. -/
  | igei (x : Slot) (d : PReg) (a : GReg) (imm : BitVec 13)
  /-- FEQ (R122). Floating equal compare. -/
  | feq (x : Slot) (d : PReg) (a b : GReg)
  /-- FNE (R122). Floating not-equal compare. -/
  | fne (x : Slot) (d : PReg) (a b : GReg)
  /-- FLT (R122). Floating less-than compare. -/
  | flt (x : Slot) (d : PReg) (a b : GReg)
  /-- FLE (R122). Floating less-or-equal compare. -/
  | fle (x : Slot) (d : PReg) (a b : GReg)
  /-- FGT (R122). Floating greater-than compare. -/
  | fgt (x : Slot) (d : PReg) (a b : GReg)
  /-- FGE (R122). Floating greater-or-equal compare. -/
  | fge (x : Slot) (d : PReg) (a b : GReg)
  /-- FUN (R122). Floating unordered compare. -/
  | fun (x : Slot) (d : PReg) (a b : GReg)
  /-- PAND (R123). Predicate AND. -/
  | pand (x : Slot) (d a b : PReg)
  /-- POR (R123). Predicate OR. -/
  | por (x : Slot) (d a b : PReg)
  /-- PXOR (R123). Predicate XOR. -/
  | pxor (x : Slot) (d a b : PReg)
  /-- PANDN (R123). Predicate A AND NOT B. -/
  | pandn (x : Slot) (d a b : PReg)
  /-- PNOT (R123). Predicate NOT. -/
  | pnot (x : Slot) (d a : PReg)
  /-- PMOV (R123). Predicate copy. -/
  | pmov (x : Slot) (d a : PReg)
  /-- BR (R124). Forward branch by an immediate count. -/
  | br (x : Slot) (imm : BitVec 13)
  /-- LOOP (R125). Open a counted loop body, or skip it when the count is zero or the guard is false, with a LOOPMAX trap. -/
  | loop (x : Slot) (a : GReg) (imm : BitVec 13)
  /-- NEXT (R126). End of a loop body: iterate again or fall through. -/
  | next_ (x : Slot)
  /-- BRK (R126). Leave the innermost loop at once. -/
  | brk (x : Slot)
  /-- END (R126). Complete the activation, popping an unpopped releasing entry. -/
  | end_ (x : Slot)
  /-- TRAP (R127). Raise the TRAP cause with the program's own code. -/
  | trap (x : Slot) (imm : BitVec 13)
  /-- BAR (R138). Arrive at barrier group n and wait for the other participants. -/
  | bar (x : Slot) (n : Fin 16)
  /-- TIME_TI (R74). Read a half of the task instant ti. -/
  | timeTi (x : Slot) (d : GReg) (hi : Bool)
  /-- TIME_NOW (R137). Read the running device time through a per-activation shadow. -/
  | timeNow (x : Slot) (d : GReg) (hi : Bool)
  /-- SIG_RD (R83). Read the value of the newest sample stamped at or before ti, waiting for Spindle writers and applying the fallback. -/
  | sigRd (x : Slot) (d : GReg) (h : Byte) (ix : GReg)
  /-- SIG_ST (R129). Read the status of the same sample. -/
  | sigSt (x : Slot) (d : GReg) (h : Byte) (ix : GReg)
  /-- SIG_AGE (R129). Read ti minus the stamp of the same sample. -/
  | sigAge (x : Slot) (d : GReg) (h : Byte) (ix : GReg)
  /-- SIG_WR (R130). Write a signal sample stamped ti, with status VALID or SUBSTITUTED. -/
  | sigWr (x : Slot) (ix : GReg) (h : Byte) (st : BitVec 4) (a : GReg)
  /-- BOB_PUSH (R131). Push an entry to a Bobbin and report whether it was accepted. -/
  | bobPush (x : Slot) (d : PReg) (b : Fin 16) (addr len : GReg)
  /-- BOB_POP (R131). Copy and remove the head entry of a Bobbin. -/
  | bobPop (x : Slot) (d : GReg) (b : Fin 16) (addr len : GReg)
  /-- BOB_PEEK (R131). Read a field of the head descriptor without removing it. -/
  | bobPeek (x : Slot) (d : GReg) (b : Fin 16) (sel : BitVec 5)
  /-- LAW_IN (R133). Stage a loop input. -/
  | lawIn (x : Slot) (l : BitVec 6) (sel : BitVec 4) (a : GReg)
  /-- LAW_STEP (R145). Run one Twist step of a loop, cascade or min-select group, including initialisation and repetitive learning. -/
  | lawStep (x : Slot) (l : BitVec 6)
  /-- LAW_OUT (R133). Read a result of the loop's latest step. -/
  | lawOut (x : Slot) (d : GReg) (l : BitVec 6) (sel : BitVec 4)
  /-- OUT_SW (R135). Command a load switch on or off, which claims or returns current through the Tally. -/
  | outSw (x : Slot) (h : BitVec 6) (a : GReg)
  /-- OUT_PWM (R276). Set the duty of a KIND PWM load switch, claiming or releasing current. -/
  | outPwm (x : Slot) (h : BitVec 6) (a : GReg)
  /-- OUT_SOL_CUR (R285). Set the regulated current of a solenoid channel, claiming I_HOLD on first switch-on. -/
  | outSolCur (x : Slot) (h : BitVec 6) (a : GReg)
  /-- OUT_SOL_PROF (R286). Start a profile on a solenoid channel, or ignore the command while a profile runs. -/
  | outSolProf (x : Slot) (h : BitVec 6) (a : GReg)
  /-- OUT_SOL_REL (R286). RELEASE a solenoid channel at once, abandoning profiles and queued peaks. -/
  | outSolRel (x : Slot) (h : BitVec 6)
  /-- BOBBIN_WAIT_RESUME (R106). A producer that held an entry under WAIT places it once contiguous space exists. -/
  | bobbinWaitResume (t : Time) (bob : Nat)
  /-- TWI_RC_CLEAR (R164). A repetitive table is cleared to +0.0 with PREV UNSET between two steps of its loop. -/
  | twiRcClear (r : Req) (unit table : Nat)
  /-- ADC_SLOT (R177). A 2,500 ns ADC slot converts its input or a stolen calibration reference, and a window that ends writes its sample. -/
  | adcSlot (t : Time) (a : Fin 12) (code : BitVec 16) (cal : Option (Int × Int))
  /-- ADC_CAL_AGE_EXPIRED (R183). ADC_CAL_AGE passes 10 s, so CALOLD is set and a WARNING is written. -/
  | adcCalAgeExpired (t : Time) (a : Fin 12)
  /-- AIN_BURDEN_OPEN (R178). An MA-mode input current above 25 mA opens the burden for 100 ms and sets BURDEN. -/
  | ainBurdenOpen (t : Time) (input : Fin 96)
  /-- AIN_BURDEN_CLOSE (R178). After 100 ms the MA burden closes again. -/
  | ainBurdenClose (t : Time) (input : Fin 96)
  /-- FREQ_EDGE (R180). A rising edge of a FREQ-mode input is stamped on the TIM clock. -/
  | freqEdge (t : Time) (input : Fin 96)
  /-- SHAFT_EDGE (R184). A shaft edge that has held its level for FILTER is accepted and advances the tooth count, or a shorter pulse counts as a glitch. -/
  | shaftEdge (t : Time) (track : Fin 16) (heldNs : Nat) (reverse : Bool)
  /-- SHAFT_INDEX_EDGE (R187). An index edge sets the tooth to INDEX_TOOTH and checks the teeth counted. -/
  | shaftIndexEdge (t : Time) (track : Fin 16)
  /-- SHAFT_GRID_SAMPLE (R185). At each grid instant a shaft track writes its angle and speed signals. -/
  | shaftGridSample (t : Time) (track : Fin 16)
  /-- SHAFT_STOP (R186). No edge for STOP_TIME: speed becomes +0.0 and STOPPED is set. -/
  | shaftStop (t : Time) (track : Fin 16)
  /-- PSI5_SYNC_PULSE (R189). A PSI5 port sends a sync pulse at its scheduled device-time instant. -/
  | psi5SyncPulse (t : Time) (port : Fin 12)
  /-- PSI5_FRAME (R189). A PSI5 slot reply frame is decoded and writes a sample, or an error is counted. -/
  | psi5Frame (t : Time) (port : Fin 12) (slot : Fin 4) (startBit : Time) (f : Psi5Frame)
  /-- SENT_FRAME (R190). A SENT frame is decoded and writes its samples, or an error is counted. -/
  | sentFrame (t : Time) (port : Fin 12) (calPulse : Time) (f : SentFrame)
  /-- PORT_SUPPLY_OVERCURRENT (R191). A port supply above 120 mA switches off and its signals are rewritten QUARANTINED. -/
  | portSupplyOvercurrent (t : Time) (port : Fin 12)
  /-- PORT_SUPPLY_RETRY (R191). A switched-off port supply retries after 100 ms. -/
  | portSupplyRetry (t : Time) (port : Fin 12)
  /-- SUP_CURRENT_LIMIT (R193). A SUP that meets its 130 mA limit turns off and its fed inputs are written QUARANTINED. -/
  | supCurrentLimit (t : Time) (sup : Fin 16)
  /-- SUP_RETRY (R193). A faulted SUP retries after 100 ms. -/
  | supRetry (t : Time) (sup : Fin 16)
  /-- SUP_SETTLED (R193). 5 ms after a SUP switches on, inputs fed by it stop being written QUARANTINED. -/
  | supSettled (t : Time) (sup : Fin 16)
  /-- IMU_SAMPLE (R194). The internal IMU samples at a 500 µs grid instant and writes six signals. -/
  | imuSample (t : Time) (values : List Word) (temp : BitVec 16) (fullScale : Bool)
  /-- STRIKE_SAMPLE (R197). A Strike channel sample updates the baseline, envelope, floor and detection state. -/
  | strikeSample (t : Time) (ch : Fin 32) (code : BitVec 14)
  /-- STRIKE_FLOOR_HOLD (R198). No quiet block for 1 s: the floor is held, FLOORHOLD is set and a WARNING is written. -/
  | strikeFloorHold (t : Time) (ch : Fin 32)
  /-- STRIKE_WINDOW_CAPTURED (R200). A 64-sample capture window completes and is queued for classification. -/
  | strikeWindowCaptured (t : Time) (ch : Fin 32)
  /-- STRIKE_CLASSIFY_DONE (R201). A classifier engine finishes a window and counts it in its bin by class. -/
  | strikeClassifyDone (t : Time) (engine : Fin 4)
  /-- STRIKE_BIN_CLOSE (R203). 200 µs after a bin ends it closes, pushes its Bobbin entry and writes the rate signals. -/
  | strikeBinClose (t : Time)
  /-- STRIKE_FAULT_ENTER (R208). A baseline outside the band for 10 ms puts a channel in FAULT. -/
  | strikeFaultEnter (t : Time) (ch : Fin 32)
  /-- STRIKE_FAULT_LEAVE (R208). After 100 ms back in the band the channel leaves FAULT with the floor reset. -/
  | strikeFaultLeave (t : Time) (ch : Fin 32)
  /-- PLY_SAMPLE_ENTRY (R213). Ply takes a SAMPLE entry from a source Bobbin, maps its stamp, and counts it late where it misses an issued epoch. -/
  | plySampleEntry (t : Time) (source : Fin 64)
  /-- PLY_SYNC (R214). A SYNC entry updates or re-anchors a MAPPED source's clock model. -/
  | plySync (t : Time) (source : Fin 64)
  /-- PLY_EPOCH (R216). Ply issues an epoch: selection, fusion, gating and pose signals, with aiding every AID_DIV epochs. -/
  | plyEpoch (t : Time) (tk : Time)
  /-- PLY_LATEFLAG_EVAL (R220). At the end of each device-time second, LATEFLAG is set or cleared per source. -/
  | plyLateflagEval (t : Time)
  /-- POSE_HISTORY_APPEND (R227). At each 10 ms instant, Ply appends a pose-history entry in the Spool. -/
  | poseHistoryAppend (t : Time)
  /-- YIELD_RECORD_CLOSE (R228). A yield record closes at each multiple of PERIOD and its placement instants are computed. -/
  | yieldRecordClose (t : Time) (ch : Fin 4)
  /-- YIELD_RECORD_PUSH (R229). Once the pose entry at or after PLACE_END exists, the yield record is placed and pushed. -/
  | yieldRecordPush (t : Time) (ch : Fin 4)
  /-- GNSS_AIDING_APPLY (R241). The baseband applies received aiding to its channels' oscillators as a feed-forward rate. -/
  | gnssAidingApply (t : Time)
  /-- GNSS_AIDING_TIMEOUT (R15). No aiding within 100 ms of the last aided update: the baseband drops the held rate. -/
  | gnssAidingTimeout (t : Time)
  /-- GNSS_MEAS_EPOCH (R238). At each 50 ms epoch, TRACK channel measurements are latched, consistency checks run and the Sundial offset is measured. -/
  | gnssMeasEpoch (t : Time) (meas : List GnssMeas) (fronts : GnssFronts) (offset : Option Int)
  /-- GNSS_EXCLUSION_RELEASE (R242). An exclusion is released after 30 s in which the channel passes every check. -/
  | gnssExclusionRelease (t : Time) (ch : Fin 256)
  /-- GNSS_SPOOF_CLEAR (R243). SPOOF clears after 60 s with no failed check. -/
  | gnssSpoofClear (t : Time)
  /-- POSITION_SOLUTION (R246). The position engine completes a solution for an epoch and writes its outputs. -/
  | positionSolution (t : Time) (sol : Solution)
  /-- SEARCH_CELL_FOUND (R239). A search engine finds and verifies a cell and hands the satellite to a channel in PULLIN. -/
  | searchCellFound (t : Time) (engine : Fin 32) (ch : Fin 256)
  /-- SEARCH_DWELL_DONE (R239). A search dwell completes and the engine moves on over code phases and Doppler bins. -/
  | searchDwellDone (t : Time) (engine : Fin 32)
  /-- CHANNEL_PULLIN_END (R237). A PULLIN channel locks into TRACK, and an L5-band channel may be started by handover. -/
  | channelPullinEnd (t : Time) (ch : Fin 256) (handover : Option (Fin 256))
  /-- CHANNEL_COAST_ENTER (R237). Prompt C/N0 below 20 dB-Hz for 100 ms puts a channel in COAST. -/
  | channelCoastEnter (t : Time) (ch : Fin 256)
  /-- CHANNEL_COAST_TIMEOUT (R237). A coasting channel returns to IDLE after 10 s aided or 1 s unaided and the satellite is searched again. -/
  | channelCoastTimeout (t : Time) (ch : Fin 256) (engine : Option (Fin 32))
  /-- CHANNEL_RELOCK (R237). A COAST channel whose power returns relocks through PULLIN without search. -/
  | channelRelock (t : Time) (ch : Fin 256)
  /-- ANTENNA_BIAS_SHORT (R234). Bias current above 130 mA reports SHORT and switches the bias off. -/
  | antennaBiasShort (t : Time) (ant : Fin 2)
  /-- ANTENNA_BIAS_RETRY (R234). A shorted antenna bias retries after 1 s with a new claim. -/
  | antennaBiasRetry (t : Time) (ant : Fin 2)
  /-- ANTENNA_OPEN (R234). Bias current below 2 mA reports OPEN and writes a WARNING. -/
  | antennaOpen (t : Time) (ant : Fin 2)
  /-- RTCM_FRAME (R248). An RTCM frame on stream channel 0 is checked and buffered for the position engine, or counted. -/
  | rtcmFrame (t : Time) (bytes : List Byte) (crcOk : Bool) (msg : Nat)
  /-- TALLY_QUEUE_ADMIT (R256). The head claim of a supply queue is admitted once every check holds and stagger has passed. -/
  | tallyQueueAdmit (t : Time) (supply : Fin 5)
  /-- TALLY_CLAIM_REFUSED (R258). A claim whose wait limit expires is refused, counted and recorded. -/
  | tallyClaimRefused (t : Time) (supply : Fin 5) (ch : Chan)
  /-- TALLY_TRANSIENT_END (R255). A claim's transient time T ends and its instantaneous part falls to its continuous part. -/
  | tallyTransientEnd (t : Time) (supply : Fin 5) (index : Nat)
  /-- VBAT_CLAIM_WAIT_WARN (R259). A VBAT claim waiting more than 1 s writes one WARNING. -/
  | vbatClaimWaitWarn (t : Time) (index : Nat)
  /-- LSW_LIMIT_ENGAGE (R268). A load-switch channel's current reaches its limit and is held there. -/
  | lswLimitEngage (t : Time) (ch : Fin 48) (current : BitVec 16)
  /-- LSW_TRIP (R268). The limit stays engaged for 150 µs: the channel trips off and starts back-off, or becomes EXHAUSTED. -/
  | lswTrip (t : Time) (ch : Fin 48)
  /-- LSW_THERMAL_LATCH (R269). A junction at 170 °C latches the channel off. -/
  | lswThermalLatch (t : Time) (ch : Fin 48)
  /-- LSW_THERMAL_RELEASE (R269). A junction at 140 °C releases the latch, and the channel may restart under R270. -/
  | lswThermalRelease (t : Time) (ch : Fin 48)
  /-- LSW_BACKOFF_END (R270). A back-off ends and the channel restarts with a fresh claim if commanded on and retries remain. -/
  | lswBackoffEnd (t : Time) (ch : Fin 48)
  /-- LSW_CLEAR (R272). LSW_CLEAR empties a channel's retry window, clears EXH and TRIP, and reclaims if commanded on. -/
  | lswClear (r : Req) (ch : BitVec 6)
  /-- LSW_LIMP_EN (R277). Writing LSW_LIMP.EN in the DAWN hold starts limp drive. -/
  | lswLimpEn (r : Req)
  /-- LSW_DIR_MAP_WRITE (R277). A DIR map write is stored, or refused when no stored record exists. -/
  | lswDirMapWrite (r : Req) (v : Word)
  /-- LSW_RETRY_MAX_WRITE (R279). A new retry limit takes effect at once and is saved in the calibration store. -/
  | lswRetryMaxWrite (r : Req) (v : Word)
  /-- DIR_INPUT_HIGH (R277). Under limp drive, a mapped DIR input goes high, claims current and drives the channel. -/
  | dirInputHigh (t : Time) (dir : Fin 16)
  /-- DIR_INPUT_LOW_100MS (R277). DIR stays low for 100 ms and the limp channel's claim is returned. -/
  | dirInputLow100ms (t : Time) (dir : Fin 16)
  /-- PWM_PERIOD_START (R276). At a PWM period start a new duty takes effect. -/
  | pwmPeriodStart (t : Time) (ch : Chan) (current : BitVec 16) (cal : Option (BitVec 16))
  /-- PWM_UNDRIVEN_SETTLE (R278). A KIND PWM channel not driven for 20 ms settles to on or off at its next period end. -/
  | pwmUndrivenSettle (t : Time) (ch : Fin 48)
  /-- BANK_UNDERVOLTAGE (R274). VLOAD below 6.0 V for 50 µs turns the bank and its solenoid groups off and returns their claims. -/
  | bankUndervoltage (t : Time) (bank : Fin 4)
  /-- BANK_UV_RESTART (R275). VLOAD at or above 7.5 V for 2 ms restarts the bank with claims in ARM_ORDER. -/
  | bankUvRestart (t : Time) (bank : Fin 4) (halfVolts : BitVec 7)
  /-- BANK_OVERVOLTAGE (R412). VLOAD above 40 V for 50 µs turns the bank off and sets OV. -/
  | bankOvervoltage (t : Time) (bank : Fin 4)
  /-- BANK_OV_RESTART (R412). VLOAD at or below 36 V for 2 ms restarts the bank under R275. -/
  | bankOvRestart (t : Time) (bank : Fin 4)
  /-- SOL_RISE_DONE (R289). A profile's current reaches P_PEAK and PEAK begins; NOMOVE is set if no dip was seen. -/
  | solRiseDone (t : Time) (ch : Fin 32)
  /-- SOL_ARMATURE_MOVE (R290). The current dips P_DIP below its running maximum and the movement time is recorded. -/
  | solArmatureMove (t : Time) (ch : Fin 32)
  /-- SOL_RISE_TIMEOUT (R289). P_RISE_MAX passes without reaching peak: NORISE, release and ERROR. -/
  | solRiseTimeout (t : Time) (ch : Fin 32)
  /-- SOL_PEAK_END (R289). P_TPEAK after admission FALL begins, the group stops being peak-busy and its queue head submits. -/
  | solPeakEnd (t : Time) (ch : Fin 32)
  /-- SOL_FALL_DONE (R289). The current reaches P_HOLD + 2 % and HOLD begins, or the profile ends if untimed. -/
  | solFallDone (t : Time) (ch : Fin 32)
  /-- SOL_FALL_TIMEOUT (R289). P_TFALL_MAX passes and HOLD starts anyway with a WARNING. -/
  | solFallTimeout (t : Time) (ch : Fin 32)
  /-- SOL_HOLD_END (R289). A timed hold ends and the channel turns off or stays at P_HOLD. -/
  | solHoldEnd (t : Time) (ch : Fin 32)
  /-- SOL_DEFER_EXPIRED (R292). A queued peak not admitted within DEFER_MAX is refused and recorded. -/
  | solDeferExpired (t : Time) (ch : Fin 32)
  /-- SOL_LOW_SIDE_TRIP (R295). A low-side current limit turns the channel off and sets TRIP. -/
  | solLowSideTrip (t : Time) (ch : Fin 32)
  /-- SOL_HIGH_SIDE_TRIP (R295). A high-side current limit turns the whole group off and sets HSTRIP. -/
  | solHighSideTrip (t : Time) (group : Fin 8)
  /-- SOL_CLEAR (R295). SOL_CLEAR clears TRIP, HSTRIP, NORISE and UV of a channel. -/
  | solClear (r : Req) (ch : BitVec 5)
  /-- NEUTRAL_RAMP_END (R297). A NEUTRAL ramp reaches 0 A, and the channel turns off and returns its claim. -/
  | neutralRampEnd (t : Time) (ch : Fin 32)
  /-- SOL_CAL_OLD (R293). No qualifying period for 10 s sets CALOLD. -/
  | solCalOld (t : Time) (ch : Fin 32)
  /-- SOL_COIL_ESTIMATE (R294). After a stable span of 20 ms, coil resistance and temperature are estimated and flags are set. -/
  | solCoilEstimate (t : Time) (ch : Fin 32) (milliOhm : Nat)
  /-- PGND_FAULT (R416). PGND more than 1.0 V from GND for 1 ms turns every solenoid group off. -/
  | pgndFault (t : Time)
  /-- PGND_RECOVER (R416). The offset below 0.5 V for 2 ms makes the groups available again. -/
  | pgndRecover (t : Time)
  /-- WHORL_RENEWAL (R304). At a major-frame boundary the active lane renews the lease, and a checkpoint still uncommitted is skipped. -/
  | whorlRenewal (t : Time)
  /-- CHECKPOINT_CAPTURE (R309). Once the last activation before F completes, the checkpoint of frame F is written to a Spool slot. -/
  | checkpointCapture (t : Time)
  /-- CHECKPOINT_COMMIT (R311). The slot's commit word is written and it becomes the committed checkpoint. -/
  | checkpointCommit (t : Time)
  /-- COMPARATOR_MISMATCH (R12). A shadow comparison mismatch fail-stops the lane and releases the Whorl at once. -/
  | comparatorMismatch (t : Time) (lane : Lane)
  /-- ECC_UNCORRECTABLE (R305). An uncorrectable ECC error fail-stops the lane and releases the Whorl. -/
  | eccUncorrectable (t : Time) (lane : Lane)
  /-- LEASE_EXPIRY (R305). LK_LEASE cycles pass without renewal, so the gate closes and the lane fails. -/
  | leaseExpiry (t : Time)
  /-- LANE_CTRL_YIELD (R316). YIELD makes the active lane commit the next checkpoint and then release the Whorl. -/
  | laneCtrlYield (r : Req)
  /-- FAILED_SUPPLY_OFF (R260). The failed lane's supply switch reports off and its 1,800 mA is returned. -/
  | failedSupplyOff (t : Time) (lane : Lane)
  /-- LEASE_GUARD_END (R305). LK_GUARD cycles after release end, so the standby may be granted the Whorl. -/
  | leaseGuardEnd (t : Time)
  /-- STANDBY_WAKE_DONE (R312). The waking lane has locked clocks, exited retention and verified its image. -/
  | standbyWakeDone (t : Time)
  /-- CHECKPOINT_RESTORED (R312). The waking lane has restored the committed checkpoint. -/
  | checkpointRestored (t : Time)
  /-- WHORL_GRANT (R312). At the next frame boundary the Whorl is granted, the gate opens and the lane becomes ACTIVE. -/
  | whorlGrant (t : Time)
  /-- LK_TIMING_WRITE (R306). A write of LK_LEASE or LK_GUARD takes effect at the next renewal, or is refused when out of range. -/
  | lkTimingWrite (r : Req) (guard : Bool) (v : Word)
  /-- COLD_LANE_SCRUB (R303). Every 10 s the COLD lane's image is scrubbed and its supplies are tested, and a fault makes it FAILED. -/
  | coldLaneScrub (t : Time) (corrected : Nat) (fault : Bool)
  /-- CLOCK_MONITOR_FAIL (R319). A clock monitor fails its source and the domains switch source or stop. -/
  | clockMonitorFail (t : Time) (m : ClockMon)
  /-- CLOCK_RETURN_MAIN (R321). After 10 s of good REF and main PLL, a domain returns to its main PLL. -/
  | clockReturnMain (t : Time) (d : Fin 10)
  /-- CLK_SRC_WRITE (R321). CLK_SRC.FORCE holds a domain on its fallback PLL and STAY keeps a fallen-back domain there. -/
  | clkSrcWrite (r : Req) (v : Word)
  /-- SUNDIAL_GNSS_TIMEOUT (R324). No usable GNSS time for 2 s takes the Sundial to HOLDOVER. -/
  | sundialGnssTimeout (t : Time)
  /-- SUNDIAL_STEP (R327). A pending step is applied at the next whole-second boundary after its PPS edge. -/
  | sundialStep (t : Time)
  /-- PPS_EDGE (R330). PPS0 and PPS1 rise at each whole second of the counter. -/
  | ppsEdge (t : Time)
  /-- PPS_PULSE_END (R330). A PPS pulse ends after WIDTH. -/
  | ppsPulseEnd (t : Time) (pin : Bool)
  /-- SUN_PPS_CFG_WRITE (R330). A PPS configuration write is applied, or refused with BAD_VALUE when WIDTH is out of range. -/
  | sunPpsCfgWrite (r : Req) (v : Word)
  /-- RTC_UPDATE (R324). While LOCKED, the real-time clock is written from the counter every 60 s. -/
  | rtcUpdate (t : Time)
  /-- LEAP_SECOND (R329). SUN_UTC changes at the end of the announced UTC day. -/
  | leapSecond (t : Time)
  /-- GPTP_SYNC_SEND (R331). Two-step Sync is sent every 125 ms where the Sundial state allows. -/
  | gptpSyncSend (t : Time)
  /-- GPTP_ANNOUNCE_SEND (R331). Announce is sent every 1 s with the clockClass of the Sundial state. -/
  | gptpAnnounceSend (t : Time)
  /-- GPTP_PEER_DELAY (R331). A peer delay request is answered and peer delay is measured every 1 s. -/
  | gptpPeerDelay (t : Time) (port : Fin 8) (delayNs : Nat)
  /-- GPTP_ANNOUNCE_RECEIVED (R331). An Announce received from another node is ignored for the best master choice. -/
  | gptpAnnounceReceived (t : Time) (port : Fin 8) (priority1 : Byte)
  /-- CAN_FRAME_RECEIVED (R335). A received CAN frame is filtered and queued, extracted, passed to Ply, diverted to updates or discarded. -/
  | canFrameReceived (t : Time) (ctrl : Fin 16) (sof : Time) (f : CanFrame)
  /-- CAN_RX_HELD_DELIVER (R339). A held received frame is delivered once its Bobbin has room. -/
  | canRxHeldDeliver (t : Time) (ctrl : Fin 16)
  /-- CAN_TX_BUFFER_LOAD (R340). An empty transmit buffer loads the head entry of its feed, or discards a bad entry. -/
  | canTxBufferLoad (t : Time) (ctrl : Fin 16) (buf : Fin 3)
  /-- CAN_FRAME_TRANSMITTED (R341). A transmit buffer's frame completes on the bus and the buffer frees. -/
  | canFrameTransmitted (t : Time) (ctrl : Fin 16) (buf : Fin 3)
  /-- CAN_TX_TIMEOUT (R341). A frame loaded for TX_TIMEOUT is discarded with a WARNING. -/
  | canTxTimeout (t : Time) (ctrl : Fin 16) (buf : Fin 3)
  /-- CAN_PROTOCOL_ERROR (R342). A protocol error updates the error counters and may enter error-passive or bus-off. -/
  | canProtocolError (t : Time) (ctrl : Fin 16) (tx data : Bool) (code : BitVec 3) (tec rec_ : BitVec 9)
  /-- CAN_RECOVER (R342). CAN_CTRL.RECOVER starts bus-off recovery. -/
  | canRecover (r : Req) (ctrl : Fin 16)
  /-- CAN_BUS_OFF_RECOVERED (R342). Recovery completes after 128 occurrences of 11 recessive bits. -/
  | canBusOffRecovered (t : Time) (ctrl : Fin 16)
  /-- CAN_INTEGRATED (R344). After 11 consecutive recessive bits the controller joins the bus. -/
  | canIntegrated (t : Time) (ctrl : Fin 16)
  /-- CAN_LISTEN_WRITE (R343). CAN_CTRL.LISTEN requests a change into or out of listen-only. -/
  | canListenWrite (r : Req) (ctrl : Fin 16) (on : Bool)
  /-- CAN_LISTEN_APPLY (R343). A pending listen-only change takes effect at bus idle. -/
  | canListenApply (t : Time) (ctrl : Fin 16)
  /-- ETH_FRAME_RECEIVED (R347). A received Ethernet frame is checked, learned and queued for forwarding, or dropped. -/
  | ethFrameReceived (t : Time) (port : Fin 10) (f : EthFrame)
  /-- ETH_FRAME_EGRESS (R348). An egress queue starts a frame that completes before its gate closes. -/
  | ethFrameEgress (t : Time) (port : Fin 10)
  /-- GATE_LIST_ADVANCE (R348). A gate control list moves to its next entry at the end of an interval. -/
  | gateListAdvance (t : Time) (port : Fin 8)
  /-- ETH_LINK_DOWN (R350). A port loses link and discards its queued frames. -/
  | ethLinkDown (t : Time) (port : Fin 8)
  /-- ETH_LINK_UP (R350). A port's link comes up. -/
  | ethLinkUp (t : Time) (port : Fin 8) (sqi : BitVec 3)
  /-- MAC_ENTRY_AGEING (R347). A learned MAC table entry ages out after 300 s. -/
  | macEntryAgeing (t : Time) (addr : BitVec 48)
  /-- SKEIN_RECORD_RECEIVE (R372). The writer numbers a raised record, snapshots its trigger registers and buffers it, or drops it when full. -/
  | skeinRecordReceive (t : Time)
  /-- SKEIN_FLASH_WRITE (R373). A buffered record is placed in a ring slot by severity and written to flash, and the head pointers advance. -/
  | skeinFlashWrite (t : Time)
  /-- SKN_CTRL_NEWCHAL (R376). A new random challenge is issued. -/
  | sknCtrlNewchal (r : Req)
  /-- SKEIN_CHALLENGE_EXPIRY (R376). A challenge expires 60 s after NEWCHAL. -/
  | skeinChallengeExpiry (t : Time)
  /-- SKN_CTRL_CLEAR (R375). CLEAR checks the staged token and starts a clear, or writes a WARNING. -/
  | sknCtrlClear (r : Req)
  /-- SKEIN_CLEAR_DONE (R376). A clear has erased the records and written its CRITICAL clear record. -/
  | skeinClearDone (t : Time)
  /-- SKN_KEY_WRITE (R375). A write of the clear public key writes a WARNING record. -/
  | sknKeyWrite (r : Req) (n : Fin 16) (v : Word)
  /-- IBYAR_MANIFEST (R382). A manifest segment is received, and a complete manifest is verified, stored and forwarded. -/
  | ibyarManifest (t : Time) (id : BitVec 64) (segment : Nat) (bytes : List Byte)
  /-- IBYAR_CHUNK (R382). A chunk is checked against its digest, stored, acknowledged and forwarded, or discarded. -/
  | ibyarChunk (t : Time) (id : BitVec 64) (index : Nat) (bytes : List Byte)
  /-- IBYAR_ACK (R382). A downstream ACK marks a chunk or segment as stored downstream. -/
  | ibyarAck (t : Time) (id : BitVec 64) (index : Nat) (segment : Bool)
  /-- IBYAR_REQUEST (R381). A downstream REQUEST causes the wanted chunk or segment to be sent. -/
  | ibyarRequest (t : Time) (id : BitVec 64) (index : Nat) (segment : Bool)
  /-- IBYAR_REQUEST_TIMEOUT (R382). No new chunk for 500 ms sends REQUEST for the lowest missing index. -/
  | ibyarRequestTimeout (t : Time)
  /-- IBYAR_RESEND_TIMEOUT (R382). An unacknowledged chunk is resent after 200 ms, or every 10 s after DN_LOST. -/
  | ibyarResendTimeout (t : Time) (id : BitVec 64) (index : Nat)
  /-- UPDATE_STAGING_DONE (R384). The staging checks complete and the step becomes STAGED, or stays VERIFIED with REFUSE. -/
  | updateStagingDone (t : Time) (libOk : Bool)
  /-- ACTIVATION_BOUNDARY (R386). At frame boundary B, SWITCHING is written, checkpoint B is committed and the pause or handover proceeds. -/
  | activationBoundary (t : Time)
  /-- PAUSE_REBOOT_DONE (R386). The Distaff and position engine have rebooted from the new slot and the shared parts are loaded. -/
  | pauseRebootDone (t : Time)
  /-- PAUSE_RESTORE_DONE (R386). The cop is loaded and checkpoint B is restored. -/
  | pauseRestoreDone (t : Time)
  /-- PAUSE_GATE_OPEN (R386). At a frame boundary the gate opens and TRIAL is written. -/
  | pauseGateOpen (t : Time)
  /-- HANDOVER_BOOT_DONE (R387). The UPDATING standby has booted the new image and loaded the cop. -/
  | handoverBootDone (t : Time) (ok : Bool)
  /-- HANDOVER_RESTORE_DONE (R387). The standby has restored checkpoint B. -/
  | handoverRestoreDone (t : Time)
  /-- WHORL_TRANSFER (R387). In one LKO cycle the old gate closes and the new gate opens, and shared parts change bank. -/
  | whorlTransfer (t : Time)
  /-- TRIAL_HEALTH_OK (R389). All health conditions have held for 10 s, so HEALTH_OK is set and the commit begins. -/
  | trialHealthOk (t : Time)
  /-- UPD_CTRL_CONFIRM (R389). Host confirmation in TRIAL. -/
  | updCtrlConfirm (r : Req)
  /-- UPD_CTRL_REJECT (R389). Host rejection in TRIAL counts as failed health and starts a revert. -/
  | updCtrlReject (r : Req)
  /-- UPD_CTRL_RESTAGE (R390). Every chunk of a reverted set is re-verified so it may be activated again. -/
  | updCtrlRestage (r : Req)
  /-- TRIAL_EXPIRED (R389). TRIAL_S passes without HEALTH_OK, which counts as failed health and starts a revert. -/
  | trialExpired (t : Time)
  /-- UPDATE_COMMIT_DONE (R390). COMMITTED is written and the new set is copied into the standby. -/
  | updateCommitDone (t : Time) (copyOk : Bool)
  /-- SETTINGS_MIGRATION_DONE (R391). The new set has written migrated copies of its settings records. -/
  | settingsMigrationDone (t : Time) (ok : Bool)
  /-- PNL_REQ_GO (R404). A panel update request is queued, or refused or answered BUSY. -/
  | pnlReqGo (r : Req) (mode : BitVec 2) (w : BitVec 11) (h : BitVec 10)
  /-- PANEL_FRAME_BOUNDARY (R405). At a panel frame boundary, running updates advance and pending non-overlapping updates start. -/
  | panelFrameBoundary (t : Time) (temp : BitVec 8)
  /-- PANEL_UPDATE_COMPLETE (R406). After its last frame an update commits its region to the flash panel store. -/
  | panelUpdateComplete (t : Time) (index : Nat)
  /-- PANEL_RAILS_UP (R396). After the rail claim is admitted, the rails finish their ordered start-up. -/
  | panelRailsUp (t : Time)
  /-- PANEL_RAIL_IDLE (R396). After 1 s with no update the rails discharge and the claim is released. -/
  | panelRailIdle (t : Time)
  /-- PANEL_RAIL_FAULT (R398). A rail outside ±5 % for 100 µs discharges all rails and abandons running updates. -/
  | panelRailFault (t : Time)
  /-- PANEL_TABLE_LOAD (R400). The waveform table is checked at load and refused when it is unbalanced or invalid. -/
  | panelTableLoad (t : Time) (w : WaveTable)
  /-- PANEL_RECOVERY (R408). An interrupted update's journal record is resolved, the region is cleared with balance restored and the image is redrawn. -/
  | panelRecovery (t : Time) (flashHasGen : Bool)
  /-- PNL_VCOM_WRITE (R397). A VCOM code is set, or refused above 280. -/
  | pnlVcomWrite (r : Req) (v : Word)
  /-- TALLY_LIMIT_WRITE (R265). A Tally limit write is stored for the next DAWN, or refused with BAD_VALUE. -/
  | tallyLimitWrite (r : Req) (index : Nat) (v : Word)
  /-- PLATE_HOT (R418). The mounting plate above 95 °C sets HOT and writes a WARNING each hour. -/
  | plateHot (t : Time) (temp : BitVec 8)
  /-- HOLDUP_STEPS_COMPLETE (R414). The hold-up steps of R39 finish; if VBAT has returned meanwhile, a power-on DAWN follows with SYS_RESET_CAUSE.HOLDUP set. -/
  | holdupStepsComplete (t : Time) (vbatBack : Bool)
  /-- DISTAFF_ENTRY_WAIT_WARNING (R361). A Distaff queue entry has waited more than 100 ms, and a WARNING goes to the Skein, at most once per second. -/
  | distaffEntryWaitWarning (t : Time)
  /-- ANTENNA_BIAS_OK (R234). The bias current of an antenna reported OPEN rises back into range, the state returns to OK and a WARNING is written. -/
  | antennaBiasOk (t : Time) (ant : Fin 2)
  /-- SPACING_CHANGE_APPLY (R236). At a channel's next code period boundary, a changed early-late spacing takes effect without breaking lock. -/
  | spacingChangeApply (t : Time) (ch : Fin 256)
  deriving DecidableEq, Repr

end Sys2Proof
end

