-- ==== Sys2Proof/Machine/State.lean ====
section
/-! DEFINITION. The whole state of the module as plain data, the reasons a command can stop, and the state after
reset. Every field cites the rule that names it. Maps keyed by a number (channel, index, address) are lists of pairs in
one canonical form: keys rising, no entry equal to what an unlisted key reads as. -/
namespace Sys2Proof.Machine

/-- Faults: none. Every error the spec describes is a reply, a trap of an activation, a record or a state, so no command
of the model stops with a fault (safe: nothing is cut short). -/
inductive Fault
  deriving DecidableEq, Repr

/-- Refusals. -/
inductive Refusal
  /-- Raised by an arm of `exec` whose command has no meaning yet; safe, since no claim about it can be proved. -/
  | notModelled (mnemonic : String)
  deriving DecidableEq, Repr

/-- A canonical map from numbers: keys strictly rising, no default entry. -/
abbrev SMap (α : Type) := List (Nat × α)

/-- An event counter (R67): SAT and 31 bits of count. -/
structure Counter where
  sat : Bool := false
  count : BitVec 31 := 0
  deriving DecidableEq, Repr

/-- A triplicated field (R64): its three stored copies. -/
structure Trip (w : Nat) where
  c0 : BitVec w
  c1 : BitVec w
  c2 : BitVec w
  deriving DecidableEq, Repr

/-- All three copies at one value (R64). -/
def Trip.of {w : Nat} (v : BitVec w) : Trip w := ⟨v, v, v⟩

/-- Day states (R24). -/
inductive DayState | midnight | dawn | morning | noon | afternoon | dusk
  deriving DecidableEq, Repr

/-- DAY_STATE.STATE codes (R24). -/
def DayState.code : DayState → BitVec 4
  | .midnight => 0 | .dawn => 1 | .morning => 2 | .noon => 3 | .afternoon => 4 | .dusk => 5

/-- The step of DAWN that has to finish next (R29); `done` outside DAWN's steps. -/
inductive DawnStep | supplies | plls | selfTest | distaff | journal | copRead | validation | copy | done
  deriving DecidableEq, Repr

/-- What brought a change of day state (R24, R25). The spec names causes and gives them no codes. -/
inductive DayCause
  | powerOn | warmReset | resetN | kl15 | wake | rtc | kl15Pending | validated | hold | arm | autoarm | disarm
  | switchOver | standbyLost | lastLane | kl15Low | sysDusk | duskDone | vbatLost
  deriving DecidableEq, Repr

/-- Day state, system control and the supplies (02, 03, 23). -/
structure Sys where
  powered : Bool := false          -- VBAT holds the logic supplies or the always-on domain up (R29, R39)
  state : DayState := .dawn        -- DAY_STATE.STATE
  hold : Bool := false             -- DAY_STATE.HOLD
  holdCause : BitVec 8 := 0        -- DAY_STATE.HOLD_CAUSE
  refusal : BitVec 16 := 0         -- DAY_STATE.REFUSAL
  dawn : DawnStep := .supplies     -- R29
  warm : Bool := false             -- this DAWN started by a warm reset (R31)
  held : Bool := false             -- outputs hold states carried over (R28, R31, R32)
  stayDawn : Bool := false         -- SYS_CTRL.STAY_DAWN
  holdOff : Bool := false          -- SYS_CTRL.HOLD_OFF
  duskStep : Nat := 0              -- the step of R38 that runs, 1 to 5; 0 outside DUSK
  kl15 : Bool := true              -- level of KL15 (R27; log entry 2)
  dawnAt : Time := 0               -- device time at the start of this DAWN (R27)
  kl15Latched : Bool := false      -- a 200 ms fall latched during DAWN (R27)
  kl15Pending : Bool := false      -- KL15 found high on entry to MIDNIGHT (R27)
  cause : BitVec 4 := 0            -- SYS_RESET_CAUSE.CAUSE
  line : BitVec 4 := 0             -- SYS_RESET_CAUSE.LINE
  holdupFlag : Bool := false       -- SYS_RESET_CAUSE.HOLDUP
  holdupRun : Bool := false        -- the steps of R39 run
  holdupDone : Bool := false       -- they have finished, VBAT still away (R414)
  lock : Trip 5 := .of 0           -- SYS_LOCK
  onTime : BitVec 64 := 0          -- SYS_ON_TIME, µs
  subNs : Nat := 0                 -- ns below the last counted µs
  armedAt : Option Time := none    -- acknowledgement of ARM while outputs are not yet driven (R35)
  driving : Bool := false          -- outputs have been started since ARM (R35)
  autoarmDone : Bool := false      -- AUTOARM has acted since MORNING was entered (R36)
  disarmPending : Bool := false    -- a DISARM that fell into a switch-over gap (R37)
  disarmedAt : Option Time := none -- instant at which the latest DISARM took effect (R37)
  ov : BitVec 4 := 0               -- PWR_STAT.OV
  hot : Bool := false              -- PWR_STAT.HOT
  pgnd : Bool := false             -- PWR_STAT.PGND
  huLow : Bool := false            -- PWR_STAT.HU_LOW
  huReady : Bool := false          -- PWR_STAT.HU_READY
  tplate : BitVec 8 := 0           -- PWR_MEAS.TPLATE
  huMs : BitVec 8 := 0             -- PWR_MEAS.HU_MS
  hotWarnedAt : Option Time := none  -- last hourly WARNING of R418
  offAt : Option Time := none      -- instant at which VBAT was lost beyond hold-up, none while it stands (R40, R57)
  deriving DecidableEq, Repr

/-- What the register engine keeps per requester (R66, R69). -/
structure PerReq where
  taskSel : BitVec 10 := 0
  bobSel : BitVec 7 := 0
  twiSel : BitVec 9 := 0
  ainSel : BitVec 7 := 0
  shfSel : BitVec 4 := 0
  senSel : BitVec 4 := 0
  stkSel : BitVec 5 := 0
  plySel : BitVec 6 := 0
  lswSel : BitVec 6 := 0
  solSel : BitVec 5 := 0
  ethSel : BitVec 4 := 0
  trigSel : BitVec 6 := 0
  pnlPos : Word := 0
  indWin : BitVec 4 := 0
  indAinc : Bool := false
  indAddr : Word := 0
  indTmo : Bool := false
  indRange : Bool := false
  shadow : Word := 0                    -- HI half captured by the last LO read (R66)
  staged : Option (Nat × Word) := none  -- a staged LO write (R66)
  deriving DecidableEq, Repr

/-- A Hank session slot (R357 to R360) with its reply cache (R52), newest reply first. -/
structure Session where
  isOpen : Bool := false
  half : Bool := false            -- step 2 sent, step 3 awaited (R357)
  major : BitVec 8 := 0
  minor : BitVec 8 := 0
  ident : Word := 0
  key : Word := 0
  port : Nat := 0
  evtSev : BitVec 3 := 2          -- HANK_SELF.EVT_SEV
  lastValid : Time := 0
  evtNo : Word := 0                -- SEQ of its next EVENT or STREAM, modulo 2^32 (R68, R353)
  outst : Nat := 0
  byResponder : Bool := false     -- opened with the service responder (R367)
  cache : List (Word × Reply) := []
  deriving DecidableEq, Repr

/-- An entry of the Distaff queue (R361): its class (0 health, 1 Hank, 2 validate, 3 update, 4 Skein), the header of the request, the
request, and when it entered. -/
structure DistaffEntry where
  cls : Nat
  req : Req
  cmd : Instr
  since : Time
  deriving DecidableEq, Repr

/-- A request that the Distaff has served in the last second (R361, R71): when it was done, its service time in µs, its wait in ns. -/
structure Served where
  done : Time
  us : Nat
  waitNs : Nat
  deriving DecidableEq, Repr

/-- The Distaff as its queue shows it (R361): what waits, oldest first, and what it has served lately, newest first. -/
structure Distaff where
  queue : List DistaffEntry := []
  rotation : Nat := 0              -- class whose turn it is in the rotation: 0 validate, 1 update, 2 Skein
  served : List Served := []
  depthWarnedAt : Option Time := none
  waitWarnedAt : Option Time := none
  deriving DecidableEq, Repr

/-- What has left the module towards the outside, newest first (model's transcript, log entry 5). -/
inductive Sent
  | reply (who : Requester) (seq : Word) (r : Reply)
  | replyNoSession (who : Requester) (seq : Word)
  | event (who : Requester) (n code : Nat) (args : List Word)
  | stream (who : Requester) (n chan : Nat) (desc : List Word) (bytes : List Byte)
  | gptpSync (at_ : Time) (timeBase : BitVec 16) (phaseChange : Int)
  | gptpAnnounce (clockClass timeSource : Nat) (utc : Nat) (priority1 priority2 : Byte)
  | gptpPdelay (port : Nat)
  | psi5Sync (port : Nat) (at_ : Time)
  | ethFrame (port : Nat) (f : EthFrame)
  | canFrame (ctrl : Nat) (f : CanFrame)
  | aiding (stamp : Time) (dopplers : List (Nat × Word))
  | ibyarAck (id : BitVec 64) (index : Nat) (segment : Bool)
  | ibyarRequest (id : BitVec 64) (index : Nat) (segment : Bool)
  | ibyarChunk (id : BitVec 64) (index : Nat) (bytes : List Byte)
  | ibyarManifest (id : BitVec 64) (segment : Nat) (bytes : List Byte)
  deriving DecidableEq, Repr

/-- A FUNC_REINIT whose reply is outstanding (R54, R55): its request, none once its session has closed; the functions selected; those
not running again yet; those whose restart follows the reply; ports that have no link 200 ms on (R350). -/
structure Reinit where
  req : Option Req
  mask : BitVec 64
  todo : BitVec 64
  late : BitVec 64
  noLink : BitVec 64 := 0
  deriving DecidableEq, Repr

/-- Functions of R53 that restart, and the requests that wait for them. -/
structure Func where
  restarting : BitVec 64 := 0
  waits : List Reinit := []
  deriving DecidableEq, Repr

/-- Hank endpoint (19). -/
structure Hank where
  sessions : SMap Session := []
  subs : SMap Nat := []            -- subscriber slot + 1 of each Bobbin out channel (R364)
  authWarnedAt : Option Time := none
  deriving DecidableEq, Repr

/-- State of a cop-store slot, with its code (COP_STATUS.SLOT_STATE). -/
inductive SlotState | empty | writing | committed | valid | pending | refused
  deriving DecidableEq, Repr

/-- A cop-store slot (R168, R169): its state, the load in progress, and the bytes written. -/
structure CopSlot where
  state : SlotState := .empty
  total : Nat := 0
  next : Nat := 0
  digest : BitVec 256 := 0
  badDigest : Bool := false        -- COMMIT found another digest than BEGIN named (R168, R172)
  bytes : List Byte := []
  commit : Bool := false           -- the 64 B commit record is present (R169)
  migrated : Bool := false
  copy : Option Cop := none        -- the format 3 copy beside a format 2 original (R175)
  reading : Option Cop := none     -- what its sections have been read as (log entry 7)
  signed : Bool := false
  deriving DecidableEq, Repr

/-- The cop store and the cop's status (08). -/
structure CopStore where
  s0 : CopSlot := {}
  s1 : CopSlot := {}
  sel : Bool := false
  loading : Bool := false          -- a load runs: the selected slot is WRITING (R170)
  owner : Option Requester := none -- the session that owns it, none once that session has closed
  lastData : Time := 0
  burst : Option Nat := none       -- the flash burst that a DATA has claimed and waits for (R169)
  validating : Bool := false
  valSlot : Bool := false          -- the slot under validation
  refusal : BitVec 16 := 0         -- COP_STATUS.REFUSAL
  detail : Word := 0               -- COP_DETAIL
  running : Option Cop := none     -- the running cop
  det : Bool := false
  hover : Bool := false
  dissMw : Nat := 0                -- TALLY_PROOF.DISS
  lastValid : Option Cop := none   -- last validated cop, as the calibration store keeps it (R32, R277)
  candidate : Option Cop := none   -- a validated cop awaiting the standby copy (R301)
  candDet : Bool := false
  candHover : Bool := false
  candDiss : Nat := 0
  deriving DecidableEq, Repr

/-- What a Spindle or task waits for (R84, R138). -/
inductive Wait
  | signal (d : GReg) (sel : Nat) (handle : Nat)
  | law (handle : Nat)
  | barrier (group : Nat)
  deriving DecidableEq, Repr

/-- An open loop body (R125): where its loop stands, where its matching next stands, iterations left. -/
structure LoopFrame where
  start : BitVec 14
  next : BitVec 14
  left : Nat
  deriving DecidableEq, Repr

/-- What sig.rd, sig.st and sig.age of one handle return in one activation (R130). -/
structure Picked where
  value : Word
  status : Word
  age : Word
  deriving DecidableEq, Repr

/-- A running activation (R73, R74, R82, R90, R130, R137). -/
structure Activation where
  task : Nat
  ti : Time
  start : Time
  regs : Vector Word 32 := Vector.replicate 32 0
  preds : Vector Bool 8 := Vector.replicate 8 false
  pc : BitVec 14 := 0
  charged : Nat := 0
  loops : List LoopFrame := []
  nowShadow : Word := 0
  picked : SMap Picked := []        -- what each handle returned (R130)
  passed : List Nat := []           -- barrier groups passed (R138)
  wait : Option Wait := none
  deriving DecidableEq, Repr

/-- A task (R80, R81, R86, R87). `pending` holds the ti and the instant of every release not yet completed, oldest first;
the head is the running activation's when one runs. -/
structure TaskState where
  pending : List (Time × Time) := []
  stopped : Bool := false
  lastRelease : Option Time := none
  doneTi : Option Time := none       -- ti of the latest completed activation (R84)
  entries : List (Bool × Bool) := []  -- per released entry: its release stands, it is still in the Bobbin (R81)
  missWarned : Bool := false
  outside : Bool := false            -- results outside R41 since a drop (R86)
  maxResp : Word := 0
  deriving DecidableEq, Repr

/-- A signal's history ring (R98): its samples, newest stamp first, the oldest stamp it has lost (R85), the ti of
activations that have read it with their start instants, by which a sample that lands is late, and how many were (R83). -/
structure SigRing where
  samples : List Sample := []
  lost : Option Time := none
  reads : List (Time × Time) := []
  lates : Nat := 0
  deriving DecidableEq, Repr

/-- A Bobbin entry (R103). -/
structure BobEntry where
  stamp : Time
  seq : BitVec 16
  aux : BitVec 16
  bytes : List Byte
  deriving DecidableEq, Repr

/-- A Bobbin (R102 to R106): entries oldest first with their offsets, pointers with lap bits, the entries a WAIT producer
holds, oldest first, the producer's sequence number, and the host request (slot, SEQ) whose wait has been counted (R364). -/
structure Bob where
  entries : List (Nat × BobEntry) := []
  wptr : Nat := 0
  wlap : Bool := false
  rptr : Nat := 0
  rlap : Bool := false
  seq : BitVec 16 := 0
  held : List BobEntry := []
  waitFor : Option (Nat × Word) := none
  hiwat : Nat := 0
  deriving DecidableEq, Repr

/-- Why a loop is due to initialise (R149). -/
inductive InitCause | arm | switchOver | auto
  deriving DecidableEq, Repr

/-- State of a Twist loop (R133, R143 to R147). -/
structure LoopSt where
  sp : Word := 0
  pv : Word := 0
  ff : Word := 0
  man : Word := 0
  mode : Word := 0
  trk : Word := 0
  ulim : Word := 0x7F800000
  llim : Word := 0xFF800000
  i : Word := 0
  d : Word := 0
  edPrev : Word := 0
  u : Word := 0
  va : Word := 0
  e : Word := 0
  rc : Word := 0
  flags : Word := 0
  modeIn : Nat := 0
  init : Option InitCause := some .arm
  atHi : Bool := false
  atLo : Bool := false
  deriving DecidableEq, Repr

/-- State of a repetitive table (R151): PREV, and the bins, +0.0 where unlisted. -/
structure TableSt where
  prev : Option Nat := none
  bins : SMap Word := []
  deriving DecidableEq, Repr

/-- A sample held by Ply for a source (R213, R217). -/
structure PlySample where
  stamp : Time
  landed : Time
  values : List Word
  ok : Bool                           -- upstream status VALID or SUBSTITUTED
  aligned : Bool                      -- the source was not UNALIGNED when it was mapped
  deriving DecidableEq, Repr

/-- A Ply source (R214, R215, R219, R220, R222). -/
structure PlySrcSt where
  anchorS : Int := 0
  anchorD : Int := 0
  rate : Int := 0
  anchored : Bool := false
  good : Nat := 0
  u0 : Nat := 0
  ts : Time := 0
  unal : Bool := false
  quar : Bool := false
  fails : Nat := 0
  passes : Nat := 0
  contrib : Bool := false
  lateflag : Bool := false
  lateSec : Nat := 0
  lateAt : List Time := []            -- epochs counted late (R219)
  unc : Word := 0
  samples : List PlySample := []
  taken : List Time := []             -- stamps taken from the signals of a SIGNAL source, while their ring holds them
  deriving DecidableEq, Repr

/-- A yield record waiting for its placement (R228, R229). -/
structure YieldPending where
  tEnd : Time
  mass : Word
  width : Word
  startNs : Int
  endNs : Int
  delayUs : Word
  flags : BitVec 6
  placed : Bool                  -- a good τ has been read (R229)
  deriving DecidableEq, Repr

/-- A yield channel (R228). -/
structure YieldSt where
  sums : List (Nat × Word × Bool) := []  -- mass and FLOWSUB of each record not yet closed, by its T_END in ns
  nextJ : Option Nat := none     -- next 10 ms instant to be summed, ns
  lastTau : Option Word := none  -- last good τ
  prevTau : Option (Option Word × Bool) := none  -- τ and DELAYSUB of the record before (R229)
  pend : List YieldPending := []
  deriving DecidableEq, Repr

/-- A pose-history entry (R227). -/
structure PoseEntry where
  stamp : Time
  lat : Word
  lon : Word
  hgt : Word
  heading : BitVec 16
  speed : BitVec 16
  status : BitVec 8
  fix : BitVec 8
  deriving DecidableEq, Repr

/-- Ply's own state (R216, R221, R223, R226): the 19 filter states as words, the latest pose in the order of R223. -/
structure PlySt where
  srcs : SMap PlySrcSt := []
  since : Time := 0                    -- the lane took the Whorl, or Ply was re-initialised
  lastIssued : Option Time := none
  issuedAt : List (Time × Time) := []  -- epochs issued and the instant of issue, newest first (R219)
  epochsSec : Nat := 0
  excl : BitVec 64 := 0
  poseStatus : SigStatus := .quarantined
  filter : List Word := []
  pose : List Word := []
  lastTen : Option PoseEntry := none   -- pose of the latest epoch on the 10 ms grid (R227)
  fix : Nat := 0
  lastGnssPos : Option Time := none
  primaryInt : Option Bool := none     -- primary IMU in force where it is not the declared one (R221)
  calCount : Nat := 0                  -- epochs since the last live calibration (R224)
  aidCount : Nat := 0
  yields : SMap YieldSt := []
  yieldStat : Word := 0
  deriving DecidableEq, Repr

/-- Position engine of the active lane (R246, R248 to R250). -/
structure PosSt where
  fix : Nat := 0
  svUsed : Nat := 0
  hdgValid : Bool := false
  corrAt : Option Time := none
  rtcm : List (List Byte) := []
  rtcmBytes : Nat := 0
  basePos : Option (List Byte) := none  -- message 1005 or 1006 in force
  ambFixed : Bool := false
  eph : SMap (List Byte) := []          -- ephemerides, by their key (R248, R250)
  almanac : SMap (List Byte) := []
  clock : List Word := []               -- clock model
  ambig : List (Nat × Word) := []       -- ambiguities
  lastPos : Option (Word × Word) := none  -- LAT and LON of the last VALID position
  ttffMs : Word := 0
  searchFrom : Option Time := none
  deriving DecidableEq, Repr

/-- States of a CAN controller, with the codes of CAN_STAT.STATE (R351). -/
inductive CanState | off | integrating | errorActive | errorPassive | busOff | recovering
  deriving DecidableEq, Repr

/-- A received frame that waits for room in its Bobbin (R339). -/
structure CanHeld where
  bobbin : Nat
  entry : BobEntry
  deriving DecidableEq, Repr

/-- A CAN FD controller (R333 to R345). -/
structure CanSt where
  state : CanState := .off
  tec : BitVec 9 := 0
  rec_ : BitVec 9 := 0
  bufs : SMap CanFrame := []
  held : List CanHeld := []
  listenCtrl : Bool := false
  listen : Bool := false
  loadedAt : SMap Time := []          -- when each buffer was loaded (R341)
  attempt : Option Nat := none        -- buffer whose frame is in arbitration (R341)
  lastErr : Word := 0
  deriving DecidableEq, Repr

/-- What the active lane computes with (01, 04 to 07, 11, 12, 18): cleared when a lane is released, filled from the
checkpoint when the next one takes over. -/
structure Core where
  tasks : SMap TaskState := []
  acts : SMap Activation := []
  sram : List Host.Cell := []
  signals : SMap SigRing := []
  bobs : SMap Bob := []
  loops : SMap LoopSt := []
  tables : SMap TableSt := []
  barriers : List (Nat × Time × Nat) := []       -- (group, ti, task) arrivals (R138)
  broken : List (Nat × Time) := []               -- barriers whose partner trapped or is stopped (R138)
  ply : PlySt := {}
  pos : PosSt := {}
  can : SMap CanSt := []
  lastTrap : Word := 0                           -- SPN_LAST_TRAP
  loadBusy : SMap Nat := []                      -- steps used per unit in this major frame (TWI_LOAD)
  badprof : List Nat := []                       -- channels whose BADPROF WARNING has been written since ARM (R287)
  deriving DecidableEq, Repr

/-- A checkpoint's content (R310). -/
structure Image where
  stopped : SMap Bool := []
  keep : List Host.Cell := []
  signals : SMap Sample := []
  loops : SMap LoopSt := []
  tables : SMap TableSt := []
  ply : PlySt := {}
  pos : PosSt := {}
  deriving DecidableEq, Repr

/-- What a task's part of a pending checkpoint was at the boundary, saved before its first later write (R309). -/
structure SavedTask where
  stopped : Bool
  keep : List Host.Cell
  signals : SMap Sample
  loops : SMap LoopSt
  tables : SMap TableSt
  deriving DecidableEq, Repr

/-- A Spool checkpoint slot (R310, R311): its header (state format, COP_ID, frame), content, size, and whether its commit word verifies. -/
structure SpoolSlot where
  format : Nat := 5
  copId : BitVec 64 := 0
  frame : Time := 0
  image : Image := {}
  size : BitVec 22 := 0
  committed : Bool := false
  deriving DecidableEq, Repr

/-- The Spool (R308 to R311) with the checkpoint in progress and the pose history (R227). -/
structure Spool where
  s0 : SpoolSlot := {}
  s1 : SpoolSlot := {}
  due : Option Time := none           -- boundary F whose capture has not been made
  saved : SMap SavedTask := []
  plyAt : PlySt := {}                 -- Ply's and the position engine's state at that boundary (R309, R310)
  posAt : PosSt := {}
  written : Option Bool := none       -- slot captured and not yet committed
  history : List PoseEntry := []      -- newest first, at most 25,600
  deriving DecidableEq, Repr

/-- Lane states with the codes of LANE_STAT (R300). -/
inductive LaneState | active | cold | waking | failed | updating
  deriving DecidableEq, Repr

/-- One lane (R300, R302). -/
structure LaneSt where
  state : LaneState := .waking
  mgmt : Bool := false                -- MANAGEMENT grade
  cause : BitVec 4 := 0
  clocks : Bool := false              -- its clocks run
  slot : Bool := false                -- firmware slot of its image, true for the new set
  deriving DecidableEq, Repr

/-- Progress of a switch-over (R312). -/
structure Switch where
  failed : Lane
  cause : BitVec 4
  releasedAt : Time
  guardOver : Bool := false
  supplyOff : Bool := false
  wakeAdmitted : Bool := false
  awake : Bool := false
  restored : Option Time := none      -- F restored, zero for none (R315)
  noCkpt : Bool := false
  deriving DecidableEq, Repr

/-- Lanes and lease keeper (16). -/
structure Lanes where
  la : LaneSt := {}
  lb : LaneSt := {}
  holder : Option Lane := none        -- lane that holds the Whorl
  gate : Bool := false                -- its gate is open; only the holder's gate can be (R43)
  lastHolder : Lane := .a             -- LANE_STAT.HOLDER
  noCkpt : Bool := false
  lease : Trip 14 := .of 12000
  guard : Trip 14 := .of 4000
  leaseIn : BitVec 14 := 12000        -- values in force since the last renewal (R306)
  guardIn : BitVec 14 := 4000
  remain : Nat := 0                   -- LKO cycles left, in ns (LK_REMAIN)
  lastGap : BitVec 16 := 0
  yieldAt : Option Time := none       -- instant of a YIELD accepted, Whorl not yet released (R316)
  yieldBy : Bool := false             -- asked by FUNC_REINIT bit 44 (R315)
  switch : Option Switch := none
  gapOccupancy : SMap Nat := []       -- CAN buffer occupancy kept by the gate (R345)
  deriving DecidableEq, Repr

/-- Owner of a Tally claim (R255, R259). A flash burst names who programs (0 cop loads, 1 the update engine, 2 the Skein, 3 the panel) and its
own number, since each burst claims by itself. -/
inductive Owner
  | chan (c : Chan) | logic | run (l : Lane) | mgmt (l : Lane) | wake (l : Lane) | flash (who n : Nat) | panel
  | antenna (n : Nat) | port (n : Nat) | sup (n : Nat)
  deriving DecidableEq, Repr

/-- A claim (R255): continuous part, transient part with its duration, and what INST holds after it. mA and ns. -/
structure Claim where
  owner : Owner
  c : Nat
  x : Nat := 0
  tNs : Nat := 0
  rest : Nat := 0
  deriving DecidableEq, Repr

/-- An admitted claim, with the instant of admission and whether its transient still runs. -/
structure Admitted where
  claim : Claim
  since : Time
  transient : Bool
  deriving DecidableEq, Repr

/-- A queued claim (R257, R258): the instant from which its wait limit runs, and whether its WARNING has been written. -/
structure Queued where
  claim : Claim
  since : Time
  warned : Bool := false
  deriving DecidableEq, Repr

/-- One ledger with its queue (R253, R256). -/
structure Ledger where
  admitted : List Admitted := []
  queue : List Queued := []
  lastLsw : Option Time := none
  above : List (Nat × Nat) := []       -- intervals with INST above CONT_LIMIT, ns, newest first
  overSince : Option Nat := none
  deriving DecidableEq, Repr

/-- Tally (13): ledgers 0 to 3 for VLOAD1 to VLOAD4 and 4 for VBAT, stored limits and limits in force. -/
structure Tally where
  ledgers : SMap Ledger := []
  limit0 : Trip 32 := .of 0xC81C212C
  limit1 : Trip 32 := .of 0xC81C212C
  limit2 : Trip 32 := .of 0xC81C212C
  limit3 : Trip 32 := .of 0xC81C212C
  total : Trip 11 := .of 1200
  stagger : Trip 32 := .of 0x0A0A0A0A
  waitMax : Trip 14 := .of 1000
  in0 : Word := 0xC81C212C
  in1 : Word := 0xC81C212C
  in2 : Word := 0xC81C212C
  in3 : Word := 0xC81C212C
  inTotal : BitVec 11 := 1200
  inStagger : Word := 0x0A0A0A0A
  inWait : BitVec 14 := 1000
  bursts : Nat := 0                  -- flash bursts claimed so far, which numbers them (R259)
  deriving DecidableEq, Repr

/-- Who drives a load switch's pin (LSW_STAT.SRC). -/
inductive PinSrc | lane | lanePwm | dir | held
  deriving DecidableEq, Repr

/-- A load-switch channel (R268 to R278). `retries` holds the SYS_ON_TIME of each retry consumed. -/
structure Lsw where
  cmd : Bool := false
  on : Bool := false
  trip : Bool := false
  therm : Bool := false
  exh : Bool := false
  limit : Option Time := none         -- current limit engaged since (R268)
  retries : List (BitVec 64) := []
  backoff : Option (BitVec 64) := none  -- back-off deadline, SYS_ON_TIME µs (R270, R273)
  restartDue : Bool := false          -- an admission of this channel's claim consumes a retry (R270)
  duty : BitVec 11 := 0               -- LSW_DUTY
  applied : BitVec 11 := 0            -- duty in force (R276)
  pin : Bool := false                 -- level of the input pin
  src : PinSrc := .lane
  tj : BitVec 16 := 0
  current : BitVec 16 := 0
  dirMap : BitVec 6 := 0              -- LSW_DIR_MAP
  deriving DecidableEq, Repr

/-- SOL_STAT.PHASE (R299), with its codes. -/
inductive SolPhase | off | cur | rise | peak | fall | hold | neutral | groupQ | tallyQ
  deriving DecidableEq, Repr

/-- A solenoid channel (R283 to R298). Currents in mA. -/
structure Sol where
  phase : SolPhase := .off
  profile : BitVec 4 := 0             -- latest profile started
  asked : BitVec 4 := 0               -- the profile whose peak waits (R287)
  setpoint : Nat := 0                 -- set-point in force
  nextSet : Option Nat := none        -- applied at the next PWM period start (R283)
  measured : BitVec 16 := 0
  since : Time := 0                   -- start of the phase
  admittedAt : Time := 0              -- admission of the peak (R289)
  arrived : Time := 0                 -- arrival of the waiting command (R292)
  prevPhase : SolPhase := .off        -- state kept while a peak waits (R258)
  peakWait : Bool := false            -- the waiting claim is that of a peak
  peak : Nat := 0
  peakNs : Nat := 0
  holdMa : Nat := 0
  badprof : Bool := false
  calold : Bool := false
  nomove : Bool := false
  clamp : Bool := false
  coilhot : Bool := false
  coilfault : Bool := false
  uv : Bool := false
  hstrip : Bool := false
  trip : Bool := false
  norise : Bool := false
  moved : Bool := false
  move : BitVec 16 := 0xFFFF
  resume : Nat := 0                   -- set-point resumed at a restart (R296)
  wasCur : Bool := false              -- last in CUR regulation when the bank went off (R296)
  tcoil : BitVec 16 := 0
  res : BitVec 16 := 0
  gain : BitVec 16 := 0
  calAt : Option Time := none
  calWait : Nat := 0                  -- periods still to pass before one may be taken for calibration (R293)
  coilAt : Option Time := none        -- latest estimate of the coil (R294)
  deriving DecidableEq, Repr

/-- The output dies (14, 15). -/
structure Outs where
  lsw : SMap Lsw := []
  sol : SMap Sol := []
  groupQ : SMap (List Nat) := []      -- channels waiting in each group's queue (R291)
  busy : BitVec 8 := 0                -- peak-busy groups
  gap : Trip 32 := .of 0              -- SOL_GAP
  uv : BitVec 4 := 0                  -- banks in under-voltage
  vload : SMap (BitVec 7) := []       -- VLOAD in 0.5 V
  stood : BitVec 4 := 0               -- VLOADs that have stayed at or above 7.5 V for 2 ms, and not below 6.0 V since (R275)
  retryMax : BitVec 16 := 0x3333      -- LSW_RETRY_MAX
  limp : Bool := false                -- limp drive active (R277)
  limpEn : Bool := false
  dir : BitVec 16 := 0                -- levels of DIR0 to DIR15
  laneQuiet : Option Time := none     -- no lane has driven since (R278)
  newBank : Bool := false             -- parameter bank in force (R388)
  deriving DecidableEq, Repr

/-- An analog input (R178 to R180). -/
structure Ain where
  sum : Nat := 0
  taken : Nat := 0
  spoiled : Bool := false             -- a conversion of the window fell while the burden was open
  high : Bool := true                 -- every conversion of the window at or above the band (DIG)
  low : Bool := true
  dig : Bool := false
  code : BitVec 16 := 0
  window : Nat := 0                   -- number of the window in progress, and its slots seen
  seen : Nat := 0
  burdenAt : Option Time := none      -- instant at which the burden opened
  overF : Bool := false
  openF : Bool := false
  burdenF : Bool := false
  supF : Bool := false
  edge : Option Time := none
  period : Nat := 0
  gain : Int := 65536                 -- coefficients the current window started with (R183)
  off : Int := 0
  deriving DecidableEq, Repr

/-- An ADC (R182, R183). -/
structure Adc where
  ref : Nat := 0                      -- reference converted next, 0 to 4
  gain : Int := 65536
  off : Int := 0
  lastSteal : Option Nat := none      -- slot number of the last steal
  rotatedAt : Option Time := none
  windowStart : Option Nat := none    -- first slot of the 64-slot window watched for ADC_CAL_SKIP
  windowHit : Bool := false
  calOld : Bool := false
  deriving DecidableEq, Repr

/-- A shaft track (R184 to R187). -/
structure Shaft where
  tooth : Nat := 0
  edge : Option Time := none
  period : Nat := 0                   -- T, ns
  periods : List Nat := []            -- the last N tooth periods, newest first
  revs : Word := 0
  reverse : Bool := false
  indexed : Bool := false
  stopped : Bool := false
  bin : BitVec 10 := 0
  edges : Nat := 0                    -- accepted edges since DAWN
  sinceIndex : Nat := 0
  deriving DecidableEq, Repr

/-- A sensor port (R188 to R192). -/
structure Sensor where
  power : Bool := false
  short : Bool := false
  degraded : Bool := false
  lastErr : BitVec 6 := 0
  sync : Option Time := none
  syncOn : Nat := 0                   -- elapsed ns at the last sync pulse (R192)
  offAt : Time := 0                   -- instant of the last switch-off on overcurrent
  syncDev : Word := 0
  calNs : Option Nat := none          -- SENT calibration pulse of the frame before (R190)
  status : List (Bool × Bool) := []   -- bits 3 and 2 of the SENT status nibbles of a slow message in progress, newest first (R190)
  deriving DecidableEq, Repr

/-- The front ends (09). -/
structure Inputs where
  ain : SMap Ain := []
  adc : SMap Adc := []
  shaft : SMap Shaft := []
  sensor : SMap Sensor := []
  supOn : BitVec 16 := 0
  supFault : BitVec 16 := 0
  supYoung : BitVec 16 := 0           -- less than 5 ms past switch-on (R193)
  supAt : SMap Time := []             -- last switch-on or switch-off of each output
  imuTemp : BitVec 16 := 0
  imuFail : Bool := false
  imuRun : Bool := false
  deriving DecidableEq, Repr

/-- A capture window of a Strike channel (R200): detection stamp, samples so far oldest first, samples still to take. -/
structure StkWindow where
  ch : Nat
  cap : Bool := false                 -- its channel was the one captured at the detection (R210)
  stamp : Time
  samples : List Int
  left : Nat
  deriving DecidableEq, Repr

/-- A Strike channel (R197 to R200, R208). -/
structure StkCh where
  b : Int := 0
  env : Int := 0
  nf : Int := 0
  thr : Int := 0
  armed : Bool := true
  dead : Nat := 0
  ys : List Int := []                 -- the latest samples of y, newest first
  sumEnv : Int := 0                   -- of the block in progress
  inBlock : Nat := 0
  busyBlock : Bool := false
  quietAt : Option Time := none       -- end of the last quiet block
  floorHold : Bool := false
  fault : Bool := false
  faultAt : Time := 0                 -- instant at which FAULT was entered
  outSince : Option Time := none      -- baseline outside the band since, inside since (R208)
  inSince : Option Time := none
  last : Option Time := none          -- instant of the latest sample (R196)
  windows : List StkWindow := []      -- in capture
  queue : List StkWindow := []        -- captured, waiting for the engine
  deriving DecidableEq, Repr

/-- Counts of one bin (R203): 160 counters by 5 × channel + class, their SAT bits, and the FAULT and PARTIAL bits. -/
structure StkBin where
  index : Nat
  counts : SMap Nat := []
  sat : SMap Bool := []
  faults : Word := 0
  partialBin : Bool := false
  deriving DecidableEq, Repr

/-- The Strike unit (10). -/
structure Strike where
  run : Bool := false
  chans : SMap StkCh := []
  openBins : List StkBin := []
  history : List StkBin := []         -- closed bins, newest first, at most 100
  lastBin : Option Nat := none        -- index of the latest bin closed
  heldEntries : List BobEntry := []   -- closed entries held under WAIT (R205)
  lost : Nat := 0                     -- entries lost since the last delivered one
  capEn : Bool := false
  capCh : BitVec 5 := 0
  capUse : BitVec 5 := 0              -- channel captured since the last detection (R210)
  startAt : Time := 0
  deriving DecidableEq, Repr

/-- A GNSS tracking channel (R235 to R238, R251). -/
structure GnssCh where
  state : BitVec 2 := 0
  signal : BitVec 4 := 0
  sv : BitVec 8 := 0
  ant : Bool := false
  spacing : BitVec 5 := 0
  slip : Bool := false
  excl : Bool := false
  suspect : Bool := false
  cn0 : Word := 0
  doppler : Word := 0
  codePhase : Word := 0
  carrier : BitVec 64 := 0
  lockMs : Word := 0
  aid : Word := 0
  cause : BitVec 3 := 0
  since : Time := 0
  exclAt : Time := 0
  aided : Bool := false
  aidNew : Bool := false              -- an aided update has come since the last epoch (R242)
  dopFails : Nat := 0                 -- consecutive aided updates off by more than DOP_TOL
  suspectAt : Option Time := none     -- when it was flagged SPOOF_SUSPECT (R243)
  pseudorange : Int := 0              -- mm (R238)
  resid : Option Int := none          -- mm, against the receiver clock model
  elev : Int := 0                     -- 0.01°
  cn0s : List Nat := []               -- C/N0 at the last 20 epochs, newest first
  deriving DecidableEq, Repr

/-- A search engine (R239): busy, signal, satellite, antenna, code phase and Doppler bin in work. -/
structure GnssEngine where
  busy : Bool := false
  signal : BitVec 4 := 0
  sv : BitVec 8 := 0
  ant : Bool := false
  phase : Nat := 0
  bin : Nat := 0
  window : Nat := 0                   -- R240: 0 cold, 1 warm, 2 aided
  deriving DecidableEq, Repr

/-- A satellite that tracking has lost (R237, R240): when, and whether by a COAST timeout. -/
structure LostSat where
  signal : BitVec 4
  sv : BitVec 8
  ant : Bool
  since : Time
  coast : Bool
  deriving DecidableEq, Repr

/-- The GNSS baseband (12). -/
structure Gnss where
  cfg : Word := 0x51C751FF            -- GNS_CFG
  run : Bool := false
  bias0 : Bool := true
  bias1 : Bool := true
  ant0 : BitVec 2 := 0
  ant1 : BitVec 2 := 0
  jam : BitVec 4 := 0
  clkFail : Bool := false
  spoof : Bool := false
  cn0pat : Bool := false
  chans : SMap GnssCh := []
  engines : SMap GnssEngine := []
  aidAt : Option Time := none         -- stamp of the last aided update
  aiding : Bool := false
  lastFail : Option Time := none      -- last epoch on which a check failed (R243)
  cn0At : Option Time := none
  otherAt : Option Time := none       -- last failure of a check other than the C/N0 pattern (R243)
  shortAt : SMap Time := []           -- last SHORT of each antenna bias (R234)
  received : Option (Time × List (Nat × Word)) := none  -- aiding received and not yet applied: stamp, channel and L1 Doppler (R225, R241)
  lost : List LostSat := []           -- satellites to be searched again, oldest first (R237, R240)
  suspectSats : List (BitVec 4 × BitVec 8 × Bool) := []  -- signal, satellite, antenna flagged SPOOF_SUSPECT (R242)
  median : Option Int := none         -- median residual of the epoch before, mm (R242)
  cn0Since : SMap Time := []          -- since when an antenna's C/N0 spread stays below 3 dB-Hz
  badSince : SMap Time := []          -- since when a path departs from its noise baseline
  base : SMap (Int × Int) := []       -- noise baselines, AGC gain and floor, by path (R244)
  baseEpochs : Nat := 0               -- epochs with no failed check since DAWN, up to the 60 s of learning
  baseWait : Nat := 0                 -- epochs since the last update of the baselines
  hdgCfg : Word := 0                  -- POS_HDG_CFG
  microNew : Bool := false            -- baseband microcode in force (R388)
  deriving DecidableEq, Repr

/-- Source of a derived domain, with the codes of CLK_STAT (R317, R332). -/
inductive ClkSrc | main | fallback | direct | stopped
  deriving DecidableEq, Repr

/-- The clock unit (17). -/
structure Clock where
  src : SMap ClkSrc := []
  refFail : Bool := false
  rcoFail : Bool := false
  lkoFail : Bool := false
  rtcFail : Bool := false
  mainFail : BitVec 10 := 0
  fbFail : BitVec 10 := 0
  failAt : SMap Time := []            -- last failure of each main PLL, and of REF at 10 (R321)
  force : BitVec 10 := 0
  stay : BitVec 10 := 0
  deriving DecidableEq, Repr

/-- Sundial states (R324). -/
inductive SunState | unset | locked | holdover
  deriving DecidableEq, Repr

/-- The Sundial, PPS, gPTP and the real-time clock (17, 02 R40). -/
structure Sundial where
  run : Bool := false
  time : Time := 0
  phase30 : Bool := false             -- next direct-RCO step is 30 ns (R323)
  rateAcc : Int := 0
  state : SunState := .unset
  known : Bool := false
  invalid : Bool := false
  stepFlag : Bool := false
  leapAnn : BitVec 2 := 0
  leapMjd : BitVec 16 := 0
  taiUtc : BitVec 8 := 0
  err0 : Nat := 0
  holdAt : Time := 0
  hasErr : Bool := false
  offset : Word := 0
  rate : Word := 0
  storedRate : Word := 0
  pendingStep : Option Int := none
  stepArmed : Bool := false           -- the PPS edge of the step's boundary has been issued (R327)
  jumpOffsets : List Int := []        -- offsets since a jump, newest first (R326)
  jumped : Bool := false
  backSlew : Bool := false            -- slewing back an offset below −1 ms (R325)
  stepSpan : Option (Time × Time) := none  -- counter before and after the latest step (R196, R203)
  lastPps : Option Time := none       -- whole second whose PPS edge has been issued (R48, R330)
  lastUsable : Option Time := none
  pps0 : Bool := false
  pps1 : Bool := false
  ppsEnd : Option Time := none
  ppsCfg : Word := 0x00271003         -- SUN_PPS_CFG
  ptpCfg : Word := 0x00F8F601         -- SUN_PTP
  tbi : BitVec 16 := 0                -- timeBaseIndicator
  gmPhase : Int := 0                  -- lastGmPhaseChange, ns
  pdelay : SMap Nat := []
  rtcValid : Bool := false
  rtc : Time := 0
  deriving DecidableEq, Repr

/-- A frame in an egress queue of the Ethernet switch (R347). -/
structure EthQueued where
  pcp : Nat
  frame : EthFrame
  deriving DecidableEq, Repr

/-- One switch port (R346 to R350). -/
structure EthPort where
  link : Bool := false
  sqi : BitVec 3 := 0
  queue : List EthQueued := []
  gclAt : Option Nat := none          -- entry in force, none while no list runs
  gclSince : Time := 0
  retrain : Option Time := none       -- the link retrains since (R350)
  deriving DecidableEq, Repr

/-- A learned MAC entry (R347). -/
structure MacEntry where
  addr : BitVec 48
  port : Nat
  seen : Time
  deriving DecidableEq, Repr

/-- The Ethernet switch (18). -/
structure Eth where
  ports : SMap EthPort := []
  macs : List MacEntry := []
  cfg : List EthDecl := []            -- configuration in force (R347, R56)
  vlans : List VlanDecl := []
  statics : List MacStatic := []
  deriving DecidableEq, Repr

/-- A record as a block raises it (R368, R369): severity, source, code, arguments, flags, and the event's instant. -/
structure Raised where
  sev : Severity
  source : BitVec 8
  code : BitVec 16
  args : List Word
  devtime : Time
  known : Bool
  holdover : Bool
  invalid : Bool
  utc : BitVec 8
  clear : Bool := false
  addrs : List Word := []             -- registers that its trigger names (R371)
  deriving DecidableEq, Repr

/-- A numbered Skein record (R368). -/
structure Record where
  seq : BitVec 64
  ev : Raised
  snaps : List (Word × Word)
  trunc : Bool
  deriving DecidableEq, Repr

/-- A trigger entry (R371). -/
structure Trigger where
  en : Bool := false
  count : BitVec 4 := 0
  source : BitVec 8 := 0
  code : BitVec 16 := 0
  addrs : SMap Word := []
  deriving DecidableEq, Repr

/-- The Skein event recorder (20). -/
structure Skein where
  raised : List Raised := []          -- raised, not yet taken by the writer, oldest first
  buffer : List Record := []          -- oldest first, at most 256
  ring : SMap Record := []
  seq : BitVec 64 := 0
  clrRes : BitVec 3 := 0
  clearing : Bool := false
  lastBeforeClear : BitVec 64 := 0
  chal : Option (Word × Word × Word × Word) := none
  chalAt : Time := 0
  token : SMap Word := []
  key : SMap Word := []
  triggers : SMap Trigger := []
  burst : Option Nat := none          -- the flash burst that the next record waits for (R259)
  deriving DecidableEq, Repr

/-- Journal steps, with the codes of UPD_STAT.STEP (R383). -/
inductive UpdStep | none | receiving | verified | staged | switching | trial | committed | reverted
  deriving DecidableEq, Repr

/-- The settings that the calibration store holds, by record (R254, R279, R252, R393, R371, R376, R397): Tally, load switches, GNSS,
relay chain, Skein, panel. -/
structure Settings where
  limits : List (Trip 32)
  total : Trip 11
  waitMax : Trip 14
  retryMax : BitVec 16
  dirMaps : SMap (BitVec 6)
  gnssCfg : Word
  hdgCfg : Word
  chain : Word
  upIp : Word
  dnIp : Word
  skeinKey : SMap Word
  triggers : SMap Trigger
  vcom : BitVec 9
  deriving DecidableEq, Repr

/-- A part of a manifest (R378). -/
structure Part where
  type : Nat
  format : Nat
  first : Nat
  length : Nat
  digest : BitVec 256
  deriving DecidableEq, Repr

/-- A manifest as its bytes spell it (R378): MFR_KEY with its first byte in the most significant place, zero where it carries none. -/
structure Manifest where
  id : BitVec 64
  target : BitVec 16
  issues : Byte
  hostConfirm : Bool
  ckptFmt : Nat
  trialS : Nat
  fw : BitVec 31
  chunks : Nat
  parts : List Part
  digests : List (BitVec 256)
  mfrKey : BitVec 520
  segments : Nat
  deriving DecidableEq, Repr

/-- A manifest being relayed or received (R382). -/
structure Relay where
  id : BitVec 64
  man : Option Manifest := none           -- the manifest, once it is wholly held and, for Patus, verified
  segs : SMap (List Byte) := []           -- segments held
  chunks : SMap (List Byte) := []         -- chunks stored
  waiting : List (Nat × List Byte) := []  -- chunks held until the manifest is complete
  newAt : Time := 0                       -- the last new chunk or segment, or REQUEST
  dnAcked : List Nat := []
  sentAt : SMap Time := []                -- when each chunk was last sent downstream
  resends : SMap Nat := []
  deriving DecidableEq, Repr

/-- A flash burst of the update engine that waits for admission, by its number: its chunk or segment is acknowledged once it is admitted
(R382). -/
structure Burst where
  n : Nat
  id : BitVec 64
  index : Nat
  segment : Bool
  deriving DecidableEq, Repr

/-- The update engine (21). -/
structure Upd where
  step : UpdStep := .none
  man : Option Manifest := none
  held : List Nat := []
  relays : List Relay := []
  bursts : List Burst := []
  refuse : BitVec 4 := 0
  dnLost : Bool := false
  healthOk : Bool := false
  confirmed : Bool := false
  migrated : Bool := false
  mode : BitVec 2 := 0
  trialEnd : Time := 0
  trialFrom : Time := 0
  critical : Bool := false            -- a CRITICAL record since TRIAL began
  runFw : BitVec 31 := 0              -- ID_FW without SLOT
  oldFw : BitVec 31 := 0              -- that of the set kept until COMMITTED (R388)
  slot : Bool := false                -- running firmware slot, true for B
  activating : Option (BitVec 2) := none
  pauseReady : Nat := 0               -- progress of a pause: 1 boundary, 2 rebooted, 3 restored
  handReady : Nat := 0                -- progress of a handover: 1 booting, 2 booted, 3 boundary, 4 restored
  boundary : Option Time := none      -- boundary B of a pause or handover whose checkpoint is not committed yet (R386, R387)
  holdCauseAt : BitVec 8 := 0
  lastHandoverEnd : Option Time := none
  revertedBlocked : Bool := false     -- a reverted set not yet restaged
  mfrKey : BitVec 520 := 0            -- the active manifest's manufacturer key, zero for none (R174)
  oldMfrKey : BitVec 520 := 0           -- that of the set kept until COMMITTED
  revertHand : Bool := false          -- the transfer in progress is a revert by handover (R390)
  kept : Option Settings := none      -- original copies of the settings records while a set is on trial (R391)
  chain : Word := 0x40000000          -- UPD_CHAIN
  upIp : Word := 0
  dnIp : Word := 0
  deriving DecidableEq, Repr

/-- Per-pixel work of a running panel update (R402, R406): the frame it has reached and its length in frames. -/
structure PanelJob where
  x : Nat
  y : Nat
  w : Nat
  h : Nat
  mode : Nat
  band : Nat := 0
  gen : Nat := 0
  frame : Nat := 0
  frames : Nat := 0
  target : SMap Nat := []
  rebal : SMap Nat := []              -- rebalance frames plus one of each rebalanced pixel, by pixel index
  src : SMap Nat := []                -- grey levels that a clear starts from (R408)
  stage : Nat := 0                    -- 0 update, 1 clear, 2 redraw of a recovery (R408)
  asset : Option Nat := none          -- 0 the DUSK asset, 1 the HOLD_CAUSE screen (R407)
  text : List (Byte × BitVec 16 × Nat) := []  -- what it shows: SOURCE, CODE and UTC day of each record, or HOLD_CAUSE
  ages : SMap Nat := []               -- age band by tile
  table : WaveTable := {}             -- table recorded for it (R388)
  burst : Option Nat := none          -- the flash burst that its region waits for (R259)
  deriving DecidableEq, Repr

/-- The display controller (22). -/
structure Panel where
  fitted : Bool := false
  temp : BitVec 8 := 0
  band : BitVec 3 := 0
  dcsat : Bool := false
  railf : Bool := false
  notable : Bool := false
  cold : Bool := false
  coldWarnedAt : Option Time := none
  rails : Bool := false
  railClaim : Bool := false           -- the rail claim has been submitted
  idleFrom : Option Time := none
  railFaultAt : Option Time := none
  vcom : BitVec 9 := 0
  dcThr : BitVec 13 := 64
  table : WaveTable := {}
  nextTable : Option WaveTable := none  -- loaded for the staged set (R388)
  oldTable : Option WaveTable := none   -- kept until COMMITTED (R388)
  geom : Option PanelDecl := none
  pendingPlane : SMap Nat := []
  committed : SMap Nat := []
  ledger : SMap Int := []
  stress : SMap Nat := []
  flashLedger : SMap Int := []
  gen : Nat := 0
  jobs : List PanelJob := []          -- running
  queue : List PanelJob := []         -- pending, oldest first
  journal : List PanelJob := []       -- journal records of updates not completed (R406)
  recovering : List PanelJob := []    -- stages of R408 in work
  hold : Bool := false                -- updates held for a handover (R387)
  deriving DecidableEq, Repr

/-- The machine. -/
structure State where
  sys : Sys := {}
  reqs : SMap PerReq := []
  counters : SMap Counter := []       -- every register marked "counter" (R67), by address and index
  hank : Hank := {}
  distaff : Distaff := {}
  func : Func := {}
  store : CopStore := {}
  core : Core := {}
  spool : Spool := {}
  emergency : SpoolSlot := {}         -- emergency checkpoint in flash (R39), for diagnostic readout only
  lanes : Lanes := {}
  tally : Tally := {}
  outs : Outs := {}
  inputs : Inputs := {}
  strike : Strike := {}
  gnss : Gnss := {}
  clock : Clock := {}
  sun : Sundial := {}
  eth : Eth := {}
  skein : Skein := {}
  upd : Upd := {}
  panel : Panel := {}
  sent : List Sent := []              -- messages that have left the module, newest first (log entry 5)
  free : Nat := 0                     -- the model's own counter of free values used (log entry 3)
  pending : List Instr := []          -- commands waiting, first in, first out
  deriving DecidableEq, Repr

/-- Answers of a command. -/
abbrev Result := Host.Outcome State Fault Refusal

/-- The module before VBAT arrives (R9, R24, R29): every register at its power-reset value, no supply, nothing pending.
DAWN starts with VBAT_QUALIFIED; DAY_STATE reads 0x1 by its Reset column. -/
def State.reset : State := {}

end Sys2Proof.Machine
end

