-- ==== Sys2Proof/Machine/Bits.lean ====
section
/-! DEFINITION. Bit fields, signs, sparse canonical maps and byte order, used by every block. -/
namespace Sys2Proof.Machine

/-- Bits `hi:lo` of a word as a number (R5). -/
def field {w : Nat} (v : BitVec w) (hi lo : Nat) : Nat := (v.toNat >>> lo) % 2 ^ (hi + 1 - lo)

/-- Bit `n` of a word. -/
def bit {w : Nat} (v : BitVec w) (n : Nat) : Bool := v.getLsbD n

/-- A number placed at bit `lo` of a register. -/
def at32 (n lo : Nat) : Word := BitVec.ofNat 32 n <<< lo

/-- A truth value as a bit of a register. -/
def flag (b : Bool) (lo : Nat) : Word := if b then (1 : Word) <<< lo else 0

/-- 1 for true, 0 for false, as a Tister word. -/
def boolWord (b : Bool) : Word := if b then 1 else 0

/-- The word of an integer, modulo 2^32. -/
def wordOf (i : Int) : Word := BitVec.ofInt 32 i

/-- An immediate extended by its sign (R117). -/
def sext13 (imm : BitVec 13) : Word := imm.signExtend 32

/-- An immediate extended by zeros (R117). -/
def zext13 (imm : BitVec 13) : Word := imm.zeroExtend 32

/-- `i` held between two limits (R75: saturation). -/
def clampInt (lo hi i : Int) : Int := if i < lo then lo else if hi < i then hi else i

/-- An integer held at the int32 limits, as a word (R75). -/
def sat32 (i : Int) : Word := wordOf (clampInt (-2147483648) 2147483647 i)

/-- Bits 31:0 of a 64-bit value (R66). -/
def lo32 (t : BitVec 64) : Word := t.truncate 32

/-- Bits 63:32 of a 64-bit value (R66). -/
def hi32 (t : BitVec 64) : Word := (t >>> 32).truncate 32

/-- A 64-bit value from its halves. -/
def join64 (hi lo : Word) : BitVec 64 := hi ++ lo

/-- A value at most the largest of 32 bits ("holds at 0xFFFF_FFFF"). -/
def hold32 (n : Nat) : Word := if n < 4294967296 then BitVec.ofNat 32 n else 0xFFFFFFFF

/-- The least significant byte first (R6). -/
def bytesOf : Nat → Nat → List Byte
  | 0, _ => []
  | k + 1, v => BitVec.ofNat 8 v :: bytesOf k (v / 256)

/-- The number that bytes spell, least significant first (R6). -/
def ofBytes : List Byte → Nat
  | [] => 0
  | b :: r => b.toNat + 256 * ofBytes r

/-- Rounding of num / den to the nearest integer, ties to even (den positive). -/
def roundDiv (num : Int) (den : Nat) : Int :=
  let q := num / (den : Int)
  let r := num - q * (den : Int)
  if 2 * r < (den : Int) then q
  else if (den : Int) < 2 * r then q + 1
  else if q % 2 = 0 then q else q + 1

/-- The value of key `k`, `d` where the map lists none. -/
def SMap.get {α : Type} (m : SMap α) (d : α) (k : Nat) : α :=
  match m with
  | [] => d
  | (k', v) :: r => if k' = k then v else SMap.get r d k

/-- The value of key `k`, none where the map lists none. -/
def SMap.find {α : Type} (m : SMap α) (k : Nat) : Option α :=
  match m with
  | [] => none
  | (k', v) :: r => if k' = k then some v else SMap.find r k

/-- The map without key `k`. -/
def SMap.drop {α : Type} (m : SMap α) (k : Nat) : SMap α :=
  match m with
  | [] => []
  | (k', v) :: r => if k' = k then SMap.drop r k else (k', v) :: SMap.drop r k

/-- Insertion of a key at its place, replacing an entry of that key. -/
def SMap.insert {α : Type} (m : SMap α) (k : Nat) (v : α) : SMap α :=
  match m with
  | [] => [(k, v)]
  | (k', v') :: r =>
    if k < k' then (k, v) :: (k', v') :: r
    else if k = k' then (k, v) :: r
    else (k', v') :: SMap.insert r k v

/-- Key `k` set to `v`: the entry goes where `v` is what an unlisted key reads as. -/
def SMap.put {α : Type} [DecidableEq α] (m : SMap α) (d : α) (k : Nat) (v : α) : SMap α :=
  if v = d then SMap.drop m k else SMap.insert m k v

/-- Key `k` changed by `f`. -/
def SMap.modify {α : Type} [DecidableEq α] (m : SMap α) (d : α) (k : Nat) (f : α → α) : SMap α :=
  SMap.put m d k (f (SMap.get m d k))

/-- The canonical form of a map whose unlisted keys read as `d`: keys strictly rising, no entry equal to `d`. -/
def SMap.wf {α : Type} [DecidableEq α] (m : SMap α) (d : α) : Bool :=
  match m with
  | [] => true
  | [(_, v)] => !decide (v = d)
  | (k, v) :: (k', v') :: r => decide (k < k') && !decide (v = d) && SMap.wf ((k', v') :: r) d

/-- Bit `n` of a vector set to `b`. -/
def setBit {w : Nat} (v : BitVec w) (n : Nat) (b : Bool) : BitVec w :=
  if b then v ||| (1#w <<< n) else v &&& ~~~(1#w <<< n)

/-- The majority of three copies, bit by bit (R64). -/
def Trip.vote {w : Nat} (t : Trip w) : BitVec w := (t.c0 &&& t.c1) ||| (t.c0 &&& t.c2) ||| (t.c1 &&& t.c2)

/-- Whether the copies disagree (R64). -/
def Trip.split {w : Nat} (t : Trip w) : Bool := !(decide (t.c0 = t.c1) && decide (t.c1 = t.c2))

end Sys2Proof.Machine
end

