-- ==== Sys2Proof/Machine/Binary32.lean ====
section
/-! DEFINITION. binary32 arithmetic as R75 gives it: IEEE 754 single precision, round to nearest with ties to even only,
subnormals kept, every NaN result the canonical 0x7FC0_0000. Finite values are taken as exact dyadic numbers, the
operation is done exactly, and one rounding ends it. -/
namespace Sys2Proof.Machine

/-- The canonical NaN (R75). -/
def nan : Word := 0x7FC00000

/-- Sign, exponent field and fraction of a binary32 word. -/
def fSign (v : Word) : Bool := bit v 31
def fExp (v : Word) : Nat := field v 30 23
def fFrac (v : Word) : Nat := field v 22 0

/-- NaN, infinity, zero. -/
def isNan (v : Word) : Bool := fExp v = 255 && fFrac v ≠ 0
def isInf (v : Word) : Bool := fExp v = 255 && fFrac v = 0
def isZero (v : Word) : Bool := fExp v = 0 && fFrac v = 0

/-- The signed integer significand of a finite word; its value is this times 2 to the power `fScale`. -/
def fMant (v : Word) : Int :=
  let m : Int := if fExp v = 0 then (fFrac v : Int) else ((8388608 + fFrac v : Nat) : Int)
  if fSign v then -m else m

/-- The binary exponent of the unit of `fMant`. -/
def fScale (v : Word) : Int := (if fExp v = 0 then 1 else (fExp v : Int)) - 150

/-- A word from its sign, with infinity or zero magnitude. -/
def fInf (neg : Bool) : Word := if neg then 0xFF800000 else 0x7F800000
def fZero (neg : Bool) : Word := if neg then 0x80000000 else 0

/-- Nearest-even quotient of a natural number by a power of two, with a sticky bit for what lies below. -/
def rneShift (m sh : Nat) (sticky : Bool) : Nat :=
  if sh = 0 then m
  else
    let q := m >>> sh
    let r := m % 2 ^ sh
    let half := 2 ^ (sh - 1)
    if r < half then q
    else if half < r || sticky then q + 1
    else if q % 2 = 0 then q else q + 1

/-- The binary32 word nearest to (−1)^neg × m × 2^e, ties to even; `sticky` says that the exact magnitude lies a little
above m × 2^e, by less than its unit (the callers keep at least two bits below the rounding place then). -/
def fRound (neg : Bool) (m : Nat) (e : Int) (sticky : Bool := false) : Word :=
  if m = 0 then fZero neg
  else
    let top : Int := (Nat.log2 m : Int) + e            -- value lies in [2^top, 2^(top+1))
    let unit : Int := if top < -126 then -149 else top - 23
    let q : Nat :=
      if unit ≤ e then m <<< (e - unit).toNat else rneShift m (unit - e).toNat sticky
    -- q counts units; 2^24 units carry into the next binade
    let q' : Nat := if q = 16777216 then 8388608 else q
    let unit' : Int := if q = 16777216 then unit + 1 else unit
    if 104 < unit' then fInf neg
    else
      let biased : Nat := if q' < 8388608 then 0 else (unit' + 150).toNat
      let body : Nat := biased * 8388608 + (q' % 8388608)
      (if neg then 0x80000000 else 0) ||| BitVec.ofNat 32 body

/-- Rounding of the exact dyadic number i × 2^e; zero takes the sign given. -/
def fOfInt (i : Int) (e : Int) (zeroNeg : Bool) : Word :=
  if i = 0 then fZero zeroNeg else fRound (i < 0) i.natAbs e

/-- Rounding of the exact quotient num / den (den positive); zero gives +0. -/
def fOfRat (num : Int) (den : Nat) : Word :=
  if num = 0 || den = 0 then 0
  else
    let sh : Nat := 64 + Nat.log2 den
    let n := num.natAbs <<< sh
    fRound (num < 0) (n / den) (-(sh : Int)) (n % den ≠ 0)

/-- A finite word as an exact integer at unit 2^e, where e is at most its scale. -/
def atScale (v : Word) (e : Int) : Int := fMant v * ((2 ^ (fScale v - e).toNat : Nat) : Int)

/-- fadd (R75, R119). -/
def fadd (a b : Word) : Word :=
  if isNan a || isNan b then nan
  else if isInf a then (if isInf b && fSign a != fSign b then nan else a)
  else if isInf b then b
  else if isZero a && isZero b then fZero (fSign a && fSign b)
  else
    let e := min (fScale a) (fScale b)
    fOfInt (atScale a e + atScale b e) e false

/-- fneg (R119): the sign bit inverted; a NaN gives the canonical NaN. -/
def fneg (a : Word) : Word := if isNan a then nan else a ^^^ 0x80000000

/-- fabs (R119). -/
def fabs (a : Word) : Word := if isNan a then nan else a &&& 0x7FFFFFFF

/-- fsub (R119). -/
def fsub (a b : Word) : Word := if isNan b then nan else fadd a (b ^^^ 0x80000000)

/-- fmul (R119). -/
def fmul (a b : Word) : Word :=
  let neg := fSign a != fSign b
  if isNan a || isNan b then nan
  else if isInf a || isInf b then (if isZero a || isZero b then nan else fInf neg)
  else fOfInt (fMant a * fMant b) (fScale a + fScale b) neg

/-- fdiv (R119): correctly rounded, IEEE results for zero divisors. -/
def fdiv (a b : Word) : Word :=
  let neg := fSign a != fSign b
  if isNan a || isNan b then nan
  else if isInf a then (if isInf b then nan else fInf neg)
  else if isInf b then fZero neg
  else if isZero b then (if isZero a then nan else fInf neg)
  else if isZero a then fZero neg
  else
    let n := (fMant a).natAbs <<< 64
    let d := (fMant b).natAbs
    fRound neg (n / d) (fScale a - fScale b - 64) (n % d ≠ 0)

/-- The integer square root by bisection on the bits below 2^k. -/
def isqrtBits : Nat → Nat → Nat → Nat
  | 0, _, r => r
  | k + 1, n, r =>
    let c := r + 2 ^ k
    isqrtBits k n (if c * c ≤ n then c else r)

/-- fsqrt (R119): correctly rounded; −0 gives −0, other negative values NaN. -/
def fsqrt (a : Word) : Word :=
  if isNan a then nan
  else if isZero a then a
  else if fSign a then nan
  else if isInf a then a
  else
    let e := fScale a
    let sh : Nat := if e % 2 = 0 then 60 else 61
    let n := (fMant a).natAbs <<< sh
    let r := isqrtBits 48 n 0
    fRound false r ((e - sh) / 2) (r * r ≠ n)

/-- ffma (R119): A × B + D rounded once. -/
def ffma (a b d : Word) : Word :=
  let neg := fSign a != fSign b
  if isNan a || isNan b || isNan d then nan
  else if isInf a || isInf b then
    if isZero a || isZero b then nan
    else if isInf d && fSign d != neg then nan
    else fInf neg
  else if isInf d then d
  else
    let pz := isZero a || isZero b
    if pz && isZero d then fZero (neg && fSign d)
    else
      let ep := fScale a + fScale b
      let e := min ep (fScale d)
      let p := fMant a * fMant b * ((2 ^ (ep - e).toNat : Nat) : Int)
      fOfInt (p + atScale d e) e false

/-- The order of two words that are not NaN, as an integer: less, equal and greater as the keys compare. Both zeros have
key 0. -/
def fKey (v : Word) : Int :=
  let m : Int := ((v &&& 0x7FFFFFFF).toNat : Int)
  if fSign v then -m else m

/-- A < B and A ≤ B and A = B under IEEE ordering, false on NaN (R122). -/
def flt (a b : Word) : Bool := !isNan a && !isNan b && fKey a < fKey b
def fle (a b : Word) : Bool := !isNan a && !isNan b && fKey a ≤ fKey b
def feq (a b : Word) : Bool := !isNan a && !isNan b && fKey a = fKey b

/-- Whether `a` comes before `b` in the order of fmin and fmax, which puts −0 below +0 (R75). -/
def fBelow (a b : Word) : Bool := fKey a < fKey b || (fKey a = fKey b && fSign a && !fSign b)

/-- fmin (R75): the non-NaN operand when exactly one is NaN. -/
def fmin (a b : Word) : Word :=
  if isNan a then (if isNan b then nan else b)
  else if isNan b then a
  else if fBelow b a then b else a

/-- fmax (R75). -/
def fmax (a b : Word) : Word :=
  if isNan a then (if isNan b then nan else b)
  else if isNan b then a
  else if fBelow a b then b else a

/-- The nearest integer, ties to even, to a finite word times 2^k. -/
def fToInt (v : Word) (k : Nat) : Int :=
  let e := fScale v + k
  if 0 ≤ e then fMant v * ((2 ^ e.toNat : Nat) : Int)
  else
    let q := rneShift (fMant v).natAbs (-e).toNat false
    if fSign v then -(q : Int) else (q : Int)

/-- binary32 to a 32-bit fixed-point word with k fraction bits (R75, R120): nearest, ties to even, saturated, NaN gives 0. -/
def f2fix (k : Nat) (v : Word) : Word :=
  if isNan v then 0
  else if isInf v then (if fSign v then 0x80000000 else 0x7FFFFFFF)
  else sat32 (fToInt v k)

/-- A 32-bit fixed-point word with k fraction bits to binary32 (R75, R120). -/
def fix2f (k : Nat) (v : Word) : Word := fOfInt v.toInt (-(k : Int)) false

/-- An exact integer to binary32, rounded once. -/
def i2fInt (i : Int) : Word := fOfInt i 0 false

end Sys2Proof.Machine
end

