-- ==== Sys2Proof/Machine/Ops.lean ====
section
/-! DEFINITION. The operations every block shares: counters, records, replies and events, the passing of device time, the
change of the day state, and free values. -/
namespace Sys2Proof.Machine

/-! ### Orders -/

/-- A list in the order of a comparison; equal members keep their order. -/
def sortBy {α : Type} (le : α → α → Bool) (l : List α) : List α :=
  l.foldr (fun x r => r.takeWhile (fun y => !le x y) ++ x :: r.dropWhile fun y => !le x y) []

/-! ### Free values -/

/-- The next free word (log entry 3): a value the spec does not give. -/
def nextFree (s : State) : Word × State := (Config.freeWord s.free, { s with free := s.free + 1 })

/-- The next free truth value (log entry 3). -/
def nextBool (s : State) : Bool × State := (Config.freeBool s.free, { s with free := s.free + 1 })

/-! ### Records (R368, R369) -/

/-- The registers that the enabled trigger entries matching a record name, in their declared order (R371). -/
def trigAddrs (s : State) (source : BitVec 8) (code : BitVec 16) : List Word :=
  s.skein.triggers.flatMap fun e =>
    if e.2.en && decide (e.2.source = source) && decide (e.2.code = code) then
      (List.range e.2.count.toNat).map fun k => SMap.get e.2.addrs 0 k
    else []

/-- A record as a block raises it: severity, source block, code (offset of the register that reports the event), arguments, and
the time stamps of the event (R368). -/
def makeRecord (sev : Severity) (source : BitVec 8) (code : BitVec 16) (args : List Word) (s : State) : Raised :=
  { sev := sev, source := source, code := code, args := args, devtime := s.sun.time, known := s.sun.known
    holdover := s.sun.state = .holdover, invalid := s.sun.invalid, utc := s.sun.taiUtc, addrs := trigAddrs s source code }

/-- A record is raised to the Skein writer, which takes it with SKEIN_RECORD_RECEIVE. A CRITICAL record during a trial is
remembered (R389). -/
def raise (sev : Severity) (source : BitVec 8) (code : BitVec 16) (args : List Word) (s : State) : State :=
  { s with
    skein := { s.skein with raised := s.skein.raised ++ [makeRecord sev source code args s] }
    upd := { s.upd with critical := s.upd.critical || (sev = .critical && s.upd.step = .trial) } }

/-! ### Counters (R67) -/

/-- Where the counter at an address, for a selected channel, stands in the counter map. -/
def ckey (addr idx : Nat) : Nat := addr + 0x200000 * idx

/-- The counter at an address for index `idx`. -/
def counter (s : State) (addr idx : Nat) : Counter := SMap.get s.counters {} (ckey addr idx)

/-- The word a counter reads as: SAT in bit 31, the count below (R67). -/
def Counter.word (c : Counter) : Word := flag c.sat 31 ||| c.count.zeroExtend 32

/-- One event counted, and whether this event sets SAT (R67). -/
def Counter.inc (c : Counter) : Counter × Bool :=
  if c.count = 0x7FFFFFFF then ({ c with sat := true }, !c.sat) else ({ c with count := c.count + 1 }, false)

/-- An event counts; setting SAT writes one NOTICE that names the register (R67). -/
def bump (addr idx : Nat) (s : State) : State :=
  let (c, full) := (counter s addr idx).inc
  let s := { s with counters := SMap.put s.counters {} (ckey addr idx) c }
  if full then raise .notice (BitVec.ofNat 8 (addr / 65536)) (BitVec.ofNat 16 addr) [BitVec.ofNat 32 addr] s else s

/-- `n` events count. -/
def bumps (addr idx : Nat) : Nat → State → State
  | 0, s => s
  | n + 1, s => bumps addr idx n (bump addr idx s)

/-- Writing 1 to SAT clears SAT and the count (R67). -/
def clearCounter (addr idx : Nat) (s : State) : State :=
  { s with counters := SMap.drop s.counters (ckey addr idx) }

/-- Counters whose address lies in `[lo, hi)` go back to zero. -/
def dropCounters (lo hi : Nat) (s : State) : State :=
  { s with counters := s.counters.filter fun e => !(decide (lo ≤ e.1 % 0x200000) && decide (e.1 % 0x200000 < hi)) }

/-! ### Time -/

/-- `dt` ns pass on every clock of the module: SYS_ON_TIME, the lease and the real-time clock (log entry 1). -/
def elapse (dt : Nat) (s : State) : State :=
  let us := s.sys.subNs + dt
  { s with
    sys := { s.sys with onTime := s.sys.onTime + BitVec.ofNat 64 (us / 1000), subNs := us % 1000 }
    lanes := { s.lanes with remain := s.lanes.remain - dt }
    sun := { s.sun with rtc := if s.sun.rtcValid then s.sun.rtc + BitVec.ofNat 64 dt else s.sun.rtc } }

/-- Device time reaches the instant `t` of a command: the counter never moves backward (R48, R323). While the Sundial does not
run, only the real-time clock of the always-on domain moves (R40, log entry 1). -/
def advanceTo (t : Time) (s : State) : State :=
  if s.sun.run then
    if s.sun.time < t then elapse (t.toNat - s.sun.time.toNat) { s with sun := { s.sun with time := t } } else s
  else if s.sun.rtcValid && decide (s.sun.rtc < t) then { s with sun := { s.sun with rtc := t } }
  else s

/-- One TIM cycle of an idle module (R323, log entry 1): 10 ns, or 20 ns and 30 ns alternately on direct RCO, with a step of
10 ns inserted or withheld as the rate correction (0.001 ppm) asks. -/
def tick (s : State) : State :=
  if !s.sun.run then s
  else
    let direct := SMap.get s.clock.src .main 9 = .direct
    let base : Nat := if direct then (if s.sun.phase30 then 30 else 20) else 10
    let acc : Int := s.sun.rateAcc + s.sun.rate.toInt * (base / 10 : Nat)
    let step : Nat := if 1000000000 ≤ acc then base + 10 else if acc ≤ -1000000000 then base - 10 else base
    let acc' : Int := if 1000000000 ≤ acc then acc - 1000000000 else if acc ≤ -1000000000 then acc + 1000000000 else acc
    elapse base { s with sun := { s.sun with
      time := s.sun.time + BitVec.ofNat 64 step, rateAcc := acc'
      phase30 := if direct then !s.sun.phase30 else s.sun.phase30 } }

/-! ### Lanes -/

/-- Whether a lane is ACTIVE (R61, R300). -/
def laneActive (s : State) : Bool := s.lanes.holder.isSome

/-- One lane. -/
def lane (s : State) : Lane → LaneSt
  | .a => s.lanes.la
  | .b => s.lanes.lb

/-- One lane replaced. -/
def setLane (l : Lane) (x : LaneSt) (s : State) : State :=
  match l with
  | .a => { s with lanes := { s.lanes with la := x } }
  | .b => { s with lanes := { s.lanes with lb := x } }

/-- The number of a lane in registers and records: 0 A, 1 B (R316). -/
def Lane.num : Lane → Nat
  | .a => 0
  | .b => 1

/-- Whether outputs obey the active lane: NOON or AFTERNOON, its gate open, outputs started since ARM (R24, R35, R43), LKO running, without
which the dies keep their last states (R21). -/
def drives (s : State) : Bool :=
  s.lanes.gate && !s.clock.lkoFail && s.sys.driving && (decide (s.sys.state = .noon) || decide (s.sys.state = .afternoon))

/-- Whether the lane that is not ACTIVE stands by in COLD. -/
def standbyCold (s : State) : Bool :=
  match s.lanes.holder with
  | some l => decide ((lane s l.other).state = .cold)
  | none => false

/-- Whether the standby serves ARM for NOON: COLD, or UPDATING for a handover boot (R35). -/
def standbyReady (s : State) : Bool :=
  match s.lanes.holder with
  | some l => decide ((lane s l.other).state = .cold) ||
      (decide ((lane s l.other).state = .updating) && (lane s l.other).clocks)
  | none => false

/-! ### Sessions, replies and events (R52, R357 to R365) -/

/-- The session in a slot. -/
def session (s : State) (who : Requester) : Session := SMap.get s.hank.sessions {} who.val

/-- A session replaced. -/
def setSession (who : Requester) (x : Session) (s : State) : State :=
  { s with hank := { s.hank with sessions := SMap.put s.hank.sessions {} who.val x } }

/-- A session closes: its slot, its subscriptions, its reply cache and its requests in flight go, and a load it owns has no owner left
(R359, R362, R364, R170). -/
def closeSession (who : Requester) (s : State) : State :=
  { s with
    hank := { s.hank with
      sessions := SMap.drop s.hank.sessions who.val
      subs := s.hank.subs.filter fun e => !decide (e.2 = who.val + 1) }
    distaff := { s.distaff with queue := s.distaff.queue.filter fun e => !(decide (e.cls ≠ 1) && decide (e.req.who = who)) }
    func := { s.func with waits := s.func.waits.map fun w => { w with req := w.req.filter fun r => !decide (r.who = who) } }
    store := { s.store with owner := s.store.owner.filter fun w => !decide (w = who) } }

/-- Every session closes (R359: warm reset, switch-over). -/
def closeAllSessions (s : State) : State :=
  { s with
    hank := { s.hank with sessions := [], subs := [] }
    distaff := { s.distaff with queue := [] }
    func := { s.func with waits := [] }
    store := { s.store with owner := none } }

/-- Whether a function of R53 is being re-initialised (R54). -/
def restarts (s : State) (fn : Nat) : Bool := bit s.func.restarting fn

/-- A message leaves the module (log entry 5). -/
def send (m : Sent) (s : State) : State := { s with sent := m :: s.sent }

/-- An EVENT to one slot, if a session is open there, numbered by that session's own counter (R353, R365). -/
def eventTo (who : Requester) (code : Nat) (args : List Word) (s : State) : State :=
  let x := session s who
  if x.isOpen && !x.byResponder then
    send (.event who x.evtNo.toNat code args) (setSession who { x with evtNo := x.evtNo + 1 } s)
  else s

/-- An EVENT to every open session (R365). -/
def event (code : Nat) (args : List Word) (s : State) : State :=
  eventTo 4 code args (eventTo 3 code args (eventTo 2 code args (eventTo 1 code args (eventTo 0 code args s))))

/-- Whether NET runs, and from its main PLL: on its fallback PLL external links drop (R322). -/
def netStopped (s : State) : Bool := decide (SMap.get s.clock.src .main 3 = .stopped)
def netMain (s : State) : Bool := decide (SMap.get s.clock.src .main 3 = .main)

/-- Whether the service responder serves the service port (R367): no lane is ACTIVE. -/
def responder (s : State) : Bool := !laneActive s

/-- Whether a request from this requester reaches a server (R349, R367, R322, R421). -/
def reachable (who : Requester) (s : State) : Bool :=
  s.sys.powered && decide (s.sys.state ≠ .midnight) && !netStopped s &&
    (decide (who = 4) || (laneActive s && netMain s))

/-- How many replies the cache holds: 256, or 16 in the service responder (R52, R367). -/
def cacheDepth (x : Session) : Nat := if x.byResponder then 16 else 256

/-- The cached reply to a sequence number. -/
def cached (x : Session) (seq : Word) : Option Reply := (x.cache.find? fun e => decide (e.1 = seq)).map (·.2)

/-- A reply leaves: it is sent and, unless BUSY, kept in the cache (R52, R360); BUSY counts in HANK_BUSY and is sent to a 1.x
session as NAK 0x0010 (R354). -/
def answer (r : Req) (rep : Reply) (s : State) : State :=
  let x := session s r.who
  match rep with
  | .busy ms =>
    let out : Reply := if x.major = 1 then .nak .busy (BitVec.ofNat 32 ms) else .busy ms
    send (.reply r.who r.seq out) (bump 0x001E0014 0 s)
  | _ =>
    send (.reply r.who r.seq rep)
      (setSession r.who { x with cache := ((r.seq, rep) :: x.cache).take (cacheDepth x) } s)

/-- Requests that a session may have in execution at once: 256, or 16 in 1.x and in the service responder (R358, R360, R367). -/
def outLimit (x : Session) : Nat := if x.byResponder || decide (x.major = 1) then 16 else 256

/-- Whether a request with this sequence number is in execution for a session (R52, R360). -/
def inFlight (s : State) (who : Requester) (seq : Word) : Bool :=
  s.distaff.queue.any (fun e => decide (e.cls ≠ 1) && decide (e.req.who = who) && decide (e.req.seq = seq))
    || s.func.waits.any fun w => match w.req with
      | some r => decide (r.who = who) && decide (r.seq = seq)
      | none => false

/-- RETRY_MS (R361): QDEPTH times the mean service time over the last 100 ms, from 1 ms to 1,000 ms. -/
def retryMs (s : State) : Nat :=
  let l := s.distaff.served.filter fun e => decide (s.sun.time.toNat < e.done.toNat + 100000000)
  let mean := (l.map (·.us)).sum / l.length
  min 1000 (max 1 (s.distaff.queue.length * mean / 1000))

/-- A request that reaches no server: a frame for the lane counts in ETH_NOLANE while none is ACTIVE (R349). -/
def unserved (who : Requester) (s : State) : State :=
  if decide (who ≠ 4) && s.sys.powered && !laneActive s then bump 0x00120014 0 s else s

/-- A request meets its server (R52, R353, R358 to R360, R367): it must reach one and name an open session; a cached reply is returned
and not executed again, and one still in execution is not started again; a version other than the session's is refused; a 1.x
session has only its subset, and so has the service responder; beyond the outstanding limit it is answered BUSY. `k` is what its
server does with it. -/
def meetServer (r : Req) (in1x responderToo : Bool) (k : State → State) (s0 : State) : State :=
  let s := advanceTo r.at_ s0
  if !reachable r.who s then unserved r.who s
  else
    let x := session s r.who
    if !x.isOpen then send (.replyNoSession r.who r.seq) s
    else
      let s := setSession r.who { x with lastValid := s.sun.time } s
      match cached x r.seq with
      | some rep => send (.reply r.who r.seq rep) (bump 0x001E0018 0 s)
      | none =>
        if inFlight s r.who r.seq then s
        else if decide (r.ver ≠ x.major ++ x.minor) then answer r (.nak .version 0x0204) s
        else if !in1x && decide (x.major = 1) then answer r (.nak .badType 0) s
        else if !responderToo && responder s then answer r (.nak .wrongState 0) s
        else if outLimit x ≤ x.outst then answer r (.busy (retryMs s)) s
        else k s

/-- A request of the register engine or the Hank endpoint, executed as it is met. `f` is the request itself, `g` what follows once its
ACK has left (R362). -/
def serveThen (r : Req) (in1x responderToo : Bool) (f : State → Reply × State) (g : State → State) (s : State) : State :=
  meetServer r in1x responderToo (fun s =>
    match f s with
    | (.ack l, s) => g (answer r (.ack l) s)
    | (rep, s) => answer r rep s) s

/-- A request with nothing to follow its reply. -/
def serve (r : Req) (in1x responderToo : Bool) (f : State → Reply × State) (s : State) : State :=
  serveThen r in1x responderToo f id s

/-! ### Day state (R24, R25) -/

/-- The code of a cause in a day-state record: the spec names no numbers (log entry 3). -/
def DayCause.word : DayCause → Word
  | .powerOn => Config.causeCode 0
  | .warmReset => Config.causeCode 1
  | .resetN => Config.causeCode 2
  | .kl15 => Config.causeCode 3
  | .wake => Config.causeCode 4
  | .rtc => Config.causeCode 5
  | .kl15Pending => Config.causeCode 6
  | .validated => Config.causeCode 7
  | .hold => Config.causeCode 8
  | .arm => Config.causeCode 9
  | .autoarm => Config.causeCode 10
  | .disarm => Config.causeCode 11
  | .switchOver => Config.causeCode 12
  | .standbyLost => Config.causeCode 13
  | .lastLane => Config.causeCode 14
  | .kl15Low => Config.causeCode 15
  | .sysDusk => Config.causeCode 16
  | .duskDone => Config.causeCode 17
  | .vbatLost => Config.causeCode 18

/-- The day state changes: a NOTICE, or a WARNING where a fault caused it or it leads into the hold, with the old state, the
new state and the cause, and an EVENT to every session (R24, R365). -/
def toDay (new : DayState) (cause : DayCause) (fault : Bool) (s : State) : State :=
  let args : List Word := [s.sys.state.code.zeroExtend 32, new.code.zeroExtend 32, cause.word]
  event 1 args (raise (if fault then .warning else .notice) 0x01 0x0000 args
    { s with sys := { s.sys with state := new } })

/-! ### Per-requester state (R69) -/

/-- What the register engine keeps for a requester. -/
def perReq (s : State) (who : Requester) : PerReq := SMap.get s.reqs {} who.val

/-- The same, replaced. -/
def setPerReq (who : Requester) (p : PerReq) (s : State) : State :=
  { s with reqs := SMap.put s.reqs {} who.val p }

/-! ### Cop records -/

/-- The running cop's declaration of a signal. -/
def sigDecl (c : Cop) (index : Nat) : Option SigDecl := c.signals.find? fun d => decide (d.index = index)

/-- The running cop's declaration of an output channel. -/
def outDecl (c : Cop) (ch : Chan) : Option OutDecl := c.outputs.find? fun d => decide (d.chan = ch)

/-- The running cop, or the empty one where none runs. -/
def cop (s : State) : Cop := s.store.running.getD {}

/-- A task's declaration. -/
def taskDecl (s : State) (n : Nat) : Option TaskDecl := (cop s).tasks[n]?

/-- Whether the active lane runs at the FULL grade: at the MANAGEMENT grade its Spindles, Twist units and Ply stand still (R302). -/
def fullGrade (s : State) : Bool :=
  match s.lanes.holder with
  | some l => !(lane s l).mgmt
  | none => false

/-- Whether the active lane's own clocks stand still (R319): it then renews nothing and starts nothing. -/
def laneStopped (s : State) : Bool :=
  [0, 1, 2].any fun d => decide (SMap.get s.clock.src .main d = .stopped)

/-- The active lane's tasks, inputs and fusion run: its gate open, its clocks running, at the FULL grade, in a day state of R24 (R302,
R319, R386). -/
def running (s : State) : Bool :=
  s.lanes.gate && fullGrade s && !laneStopped s && (decide (s.sys.state = .morning) || decide (s.sys.state = .noon) || decide (s.sys.state = .afternoon)
    || (decide (s.sys.state = .dusk) && decide (s.sys.duskStep ≤ 1)))

/-- A SYS_LOCK bit in force (R63, R64). -/
def lockedBit (s : State) (n : Nat) : Bool := bit s.sys.lock.vote n

/-- Whether `ns` have passed since an instant. -/
def passed (s : State) (from_ : Time) (ns : Nat) : Bool := decide (from_.toNat + ns ≤ s.sun.time.toNat)

end Sys2Proof.Machine
end

