-- ==== Sys2Proof/Machine/Memory.lean ====
section
/-! DEFINITION. Data SRAM of the Spindles (R77, R78): 128 KiB each, private, least significant byte first, kept as cells
keyed by Spindle × 0x2_0000 + local address; an unlisted cell reads as `Config.sramDefault`. -/
namespace Sys2Proof.Machine

/-- Key of a local address of a Spindle. -/
def memKey (sp addr : Nat) : Nat := sp * 0x20000 + addr

/-- One byte of data SRAM. -/
def readByte (s : State) (sp addr : Nat) : Byte := SMap.get s.core.sram Config.sramDefault (memKey sp addr)

/-- `n` bytes of data SRAM. -/
def readBytes (s : State) (sp addr : Nat) : Nat → List Byte
  | 0 => []
  | n + 1 => readByte s sp addr :: readBytes s sp (addr + 1) n

/-- Cells with bytes written from a key on, in canonical form. -/
def putCells (m : List Host.Cell) (k : Nat) : List Byte → List Host.Cell
  | [] => m
  | b :: r => putCells (SMap.put m Config.sramDefault k b) (k + 1) r

/-- Bytes stored in data SRAM. -/
def writeBytes (sp addr : Nat) (bs : List Byte) (s : State) : State :=
  { s with core := { s.core with sram := putCells s.core.sram (memKey sp addr) bs } }

/-- The canonical form of the memory. -/
def Memory.wf (s : State) : Bool := SMap.wf s.core.sram Config.sramDefault

/-- Whether `n` bytes at `addr` lie wholly in a region. -/
def inside (base size addr n : Nat) : Bool := decide (base ≤ addr) && decide (addr + n ≤ base + size)

/-- The code image of a Spindle. -/
def image (c : Cop) (sp : Nat) : SpindleImage := (c.images.find? fun i => decide (i.spindle = sp)).getD { spindle := sp }

/-- Whether a task may write `n` bytes at `addr`: its keep or its scratch region (R77). -/
def mayWrite (d : TaskDecl) (addr n : Nat) : Bool :=
  inside d.keepBase d.keepSize addr n || inside d.scratchBase d.scratchSize addr n

/-- Whether a task may read `n` bytes at `addr`: its regions and its Spindle's constants (R77). -/
def mayRead (c : Cop) (d : TaskDecl) (addr n : Nat) : Bool :=
  let i := image c d.spindle
  mayWrite d addr n || inside i.constBase (4 * i.consts.length) addr n

/-- Cells of a region, for a checkpoint (R310). -/
def cellsIn (m : List Host.Cell) (lo n : Nat) : List Host.Cell :=
  m.filter fun c => decide (lo ≤ c.1) && decide (c.1 < lo + n)

/-- The constants regions of the running cop in data SRAM, as the cop load writes them (R77, R128). -/
def loadConstants (s : State) : State :=
  (cop s).images.foldl (fun s im => writeBytes im.spindle im.constBase (im.consts.flatMap fun w => bytesOf 4 w.toNat) s) s

end Sys2Proof.Machine
end

