-- ==== Sys2Proof/Machine/Store.lean ====
section
/-! DEFINITION. The signal store (R83 to R85, R95 to R101, R314). -/
namespace Sys2Proof.Machine

/-- A signal's ring. -/
def ring (s : State) (index : Nat) : SigRing := SMap.get s.core.signals {} index

/-- A signal's ring, replaced. -/
def setRing (index : Nat) (r : SigRing) (s : State) : State :=
  { s with core := { s.core with signals := SMap.put s.core.signals {} index r } }

/-- A sample put at its place by stamp, newest first; an equal stamp replaces (R98). -/
def placeSample (x : Sample) : List Sample → List Sample
  | [] => [x]
  | y :: r =>
    if y.stamp < x.stamp then x :: y :: r
    else if y.stamp = x.stamp then x :: r
    else y :: placeSample x r

/-- The smaller of a stamp and what has been lost before (R85). -/
def lose (t : Time) : Option Time → Option Time
  | none => some t
  | some l => some (if t < l then t else l)

/-- A sample landed in a ring of a given depth, and whether it was discarded (R98). -/
def SigRing.land (depth : Nat) (x : Sample) (r : SigRing) : SigRing × Bool :=
  let all := placeSample x r.samples
  if all.length ≤ depth then ({ r with samples := all }, false)
  else match all.getLast? with
    | some o => ({ r with samples := all.dropLast, lost := lose o.stamp r.lost }, decide (o.stamp = x.stamp))
    | none => (r, false)

/-- The 16 B of a signal entry or history sample, least significant byte first (R6, R95). -/
def sampleBytes (d : SigDecl) (x : Sample) : List Byte :=
  bytesOf 4 x.value.toNat ++ bytesOf 8 x.stamp.toNat ++ bytesOf 2 x.status.code.toNat ++ [BitVec.ofNat 8 d.type, d.writer.code]

/-- The start instant of a release: ti + SETTLE, and for an ARRIVAL task no earlier than the release (R82). -/
def startInstant (d : TaskDecl) (r : Time × Time) : Time :=
  let st := r.1 + BitVec.ofNat 64 (d.settleUs * 1000)
  if d.arrival && decide (st < r.2) then r.2 else st

/-- Whether a sample that lands at `now` is late for an activation that has read the signal (R83). -/
def SigRing.isLate (r : SigRing) (stamp now : Time) : Bool :=
  r.reads.any fun e => decide (stamp ≤ e.1) && decide (e.2 < now)

/-- Whether it is late for an activation that reads the signal, has reached its start instant and has not completed (R83): its task's
handles name the signal. -/
def lateForTask (s : State) (index : Nat) (stamp now : Time) : Bool :=
  (cop s).tasks.zipIdx.any fun e => (e.1.sigs.any fun h => decide (h.signal = index)) &&
    (SMap.get s.core.tasks {} e.2).pending.any fun r => decide (stamp ≤ r.1) && decide (startInstant e.1 r < now)

/-- A record that a signal's source has become QUARANTINED or UNALIGNED (R42); the spec names neither its severity nor its register. -/
def sourceRecord (index : Nat) (st : SigStatus) (s : State) : State :=
  raise (Config.openSeverity 10) 0x08 (Config.openCode 10) [BitVec.ofNat 32 index, st.code] s

/-- Whether a status takes its source out of R41's guarantee (R41, R42). -/
def SigStatus.departs : SigStatus → Bool
  | .quarantined | .unaligned => true
  | _ => false

/-- The record of R42 where the newest sample of a signal departs from the guarantee and the one before it did not. -/
def noteDeparture (index : Nat) (was : List Sample) (st : SigStatus) (s : State) : State :=
  if SigStatus.departs st && decide ((was.head?.map (·.status)) ≠ some st) then sourceRecord index st s else s

/-- A record that a sample is LATE (R42, R83); the spec names neither its severity nor its register. -/
def lateRecord (index : Nat) (stamp : Time) (s : State) : State :=
  raise (Config.openSeverity 0) 0x08 (Config.openCode 0) [BitVec.ofNat 32 index, lo32 stamp, hi32 stamp] s

/-- Whether a writer is a Spindle task. -/
def byTask : Writer → Bool
  | .task _ => true
  | _ => false

/-- A sample reaches the store (R97, R98, R83): from any source but the declared writer it is discarded and counted in
SIG_FOREIGN; one older than a full ring counts in SIG_DISCARD; one late for an activation is marked LATE, counted and recorded; a source
that becomes QUARANTINED or UNALIGNED is recorded (R42). The delivery path is open with the lane's gate (R11). -/
def land (index : Nat) (w : Writer) (value : Word) (stamp : Time) (status : SigStatus) (s : State) : State :=
  if !laneActive s || (!byTask w && !s.lanes.gate) then s
  else match sigDecl (cop s) index with
  | none => bump 0x00080020 0 s
  | some d =>
    if d.writer ≠ w then bump 0x00080020 0 s
    else
      let r := ring s index
      let was := r.samples
      let late := !byTask w && (r.isLate stamp s.sun.time || lateForTask s index stamp s.sun.time)
      let r := if late then { r with lates := r.lates + 1 } else r
      let x : Sample := { value := value, stamp := stamp, status := if late then .late else status
                          landed := s.sun.time, spin := byTask w }
      let (r, gone) := r.land d.depth x
      if gone then bump 0x00080024 0 (setRing index r s)
      else
        let s := setRing index r s
        if late then lateRecord index stamp s else noteDeparture index was status s

/-- The newest sample of a signal is rewritten QUARANTINED with its value (R191, R398), with the record of R42. -/
def quarantineNewest (index : Nat) (s : State) : State :=
  match (ring s index).samples with
  | [] => s
  | x :: rest => noteDeparture index (x :: rest) .quarantined
      (setRing index { ring s index with samples := { x with status := .quarantined } :: rest } s)

/-- The newest entry of a signal turns STALE: its writer is re-initialised or stopped (R100). -/
def staleNewest (index : Nat) (s : State) : State :=
  let r := ring s index
  match r.samples with
  | [] => s
  | x :: rest => setRing index { r with samples := { x with status := .stale } :: rest } s

/-- The same for several signals. -/
def staleAll (l : List Nat) (s : State) : State := l.foldl (fun s i => staleNewest i s) s

/-- Signals of the running cop that a writer writes. -/
def writtenBy (c : Cop) (p : Writer → Bool) : List Nat := (c.signals.filter fun d => p d.writer).map (·.index)

/-- Whether a read as of `ti` may use a sample (R99): it landed at or before the start instant, or a Spindle task wrote it that the reader
waited for (R84). A task waits for no activation of its own, but its earlier ones have completed (R82); what this activation itself has
written, stamped `ti`, is no such sample (`own`: the reader writes the signal; DEDUCED, log entry 91). -/
def usable (own : Bool) (ti start : Time) (x : Sample) : Bool :=
  (x.spin && !(own && decide (x.stamp = ti))) || decide (x.landed ≤ start)

/-- What a read selects (R83 to R85, R314): value, status and stamp, and whether R85 made it LATE: the oldest sample kept, where the ring
has overwritten one stamped at or before ti and holds none that may be used. -/
def select (own : Bool) (r : SigRing) (ti start : Time) : Word × SigStatus × Option Time × Bool :=
  match r.samples.find? fun x => decide (x.stamp ≤ ti) && usable own ti start x with
  | some x => (x.value, x.status, some x.stamp, false)
  | none =>
    match r.lost, r.samples.getLast? with
    | some l, some x => if l ≤ ti then (x.value, .late, some x.stamp, true) else (0, .stale, none, false)
    | _, _ => (0, .stale, none, false)

/-- The age test (R100). -/
def aged (maxAgeUs : Nat) (ti : Time) (v : Word × SigStatus × Option Time) : Word × SigStatus × Option Time :=
  match v.2.2 with
  | some st =>
    if maxAgeUs ≠ 0 && decide (st.toNat + maxAgeUs * 1000 < ti.toNat) then (v.1, .stale, some st) else v
  | none => v

/-- The fallback of a handle (R101): value and status; the stamp stays that of the sample selected, from which sig.age counts (R129). -/
def fallbackOn (own : Bool) (fb : Fallback) (r : SigRing) (ti start : Time) (v : Word × SigStatus × Option Time) :
    Word × SigStatus × Option Time :=
  if v.2.1 = .stale || v.2.1 = .unaligned || v.2.1 = .quarantined then
    match fb with
    | .pass => v
    | .const c => (c, .substituted, v.2.2)
    | .hold =>
      match r.samples.find? fun x => decide (x.stamp ≤ ti) && usable own ti start x && decide (x.status = .valid) with
      | some x => (x.value, .substituted, v.2.2)
      | none => v
  else v

/-- ti − STAMP in ns, holding at 0xFFFF_FFFF (R129); none where no sample or a later stamp gives no difference. -/
def ageOf (ti : Time) : Option Time → Option Word
  | some st => if st ≤ ti then some (hold32 (ti.toNat - st.toNat)) else none
  | none => none

/-- An activation's read is remembered for R83: of those that started before this one, the latest ti is enough. -/
def noteRead (ti start : Time) (l : List (Time × Time)) : List (Time × Time) :=
  let old := l.filter fun e => decide (e.2 < start)
  let top := old.foldl (fun (m : Option (Time × Time)) e => match m with
    | some x => if x.1 < e.1 then some e else some x
    | none => some e) none
  (ti, start) :: top.toList ++ l.filter fun e => decide (start ≤ e.2) && decide (ti < e.1)

/-- One read of a signal as of `ti` by an activation with a start instant (R83, R85, R99 to R101, R129): the value, status
and age, with the record of a LATE read. A free value stands for an age that the spec does not state (log entry 3). `reader` is the task
that reads, none for a block of the lane. -/
def readSignal (reader : Option Nat) (index : Nat) (fb : Fallback) (ti start : Time) (s : State) : Picked × State :=
  let r := ring s index
  let own := match reader, (sigDecl (cop s) index).map SigDecl.writer with
    | some n, some (Writer.task m) => decide (n = m)
    | _, _ => false
  let sel := select own r ti start
  let maxAge := ((sigDecl (cop s) index).map (·.maxAgeUs)).getD 0
  let v := fallbackOn own fb r ti start (aged maxAge ti (sel.1, sel.2.1, sel.2.2.1))
  let taskWriter := ((sigDecl (cop s) index).map (fun d => byTask d.writer)).getD false
  let s := if taskWriter then s else setRing index { r with reads := noteRead ti start r.reads } s
  let s := if sel.2.2.2 then lateRecord index (sel.2.2.1.getD 0) s else s
  match ageOf ti v.2.2 with
  | some a => ({ value := v.1, status := v.2.1.code, age := a }, s)
  | none => let (f, s) := nextFree s; ({ value := v.1, status := v.2.1.code, age := f }, s)

/-- Whether a task has released activations with ti at or before `ti` not yet completed (R84). An entry of an ARRIVAL writer that SPACING
still holds in its Bobbin is no activation yet and is not waited for (DEDUCED, log entry 91). -/
def behind (s : State) (task : Nat) (ti : Time) : Bool :=
  (SMap.get s.core.tasks {} task).pending.any fun e => decide (e.1 ≤ ti)

/-- Whether a read of a signal by task `reader` has to wait for the signal's writer (R84). A task does not wait for itself, which could
never end (DEDUCED, log entry 91). -/
def mustWait (s : State) (reader index : Nat) (ti : Time) : Bool :=
  match (sigDecl (cop s) index).map SigDecl.writer with
  | some (Writer.task n) => n ≠ reader && behind s n ti
  | _ => false

/-- A status that a reader inside the module takes as usable: VALID or SUBSTITUTED. -/
def goodStatus (st : Word) : Bool := decide (st = SigStatus.valid.code) || decide (st = SigStatus.substituted.code)

end Sys2Proof.Machine
end

