-- ==== Sys2Proof/Machine/Bobbin.lean ====
section
/-! DEFINITION. Bobbins (R102 to R109). -/
namespace Sys2Proof.Machine

/-- The running cop's declaration of a Bobbin. -/
def bobDecl (s : State) (b : Nat) : Option BobDecl := (cop s).bobbins.find? fun d => decide (d.number = b)

/-- A Bobbin. -/
def bob (s : State) (b : Nat) : Bob := SMap.get s.core.bobs {} b

/-- A Bobbin, replaced. -/
def setBob (b : Nat) (x : Bob) (s : State) : State :=
  { s with core := { s.core with bobs := SMap.put s.core.bobs {} b x } }

/-- Bytes an entry takes in the ring: its descriptor and its payload padded to 16 B (R103). -/
def entrySize (n : Nat) : Nat := 16 + (n + 15) / 16 * 16

/-- Bytes occupied, pads included (BOB_FILL). -/
def Bob.fill (size : Nat) (b : Bob) : Nat :=
  if b.entries.isEmpty then 0
  else if b.rptr < b.wptr then b.wptr - b.rptr
  else size - b.rptr + b.wptr

/-- Where an entry of `es` bytes fits, and whether a pad stands before it (R104). The pad is written only together with an entry that
then fits at offset 0: where it does not, pointers and ring stay as they are (DEDUCED, log entry 92). -/
def Bob.spot (size es : Nat) (b : Bob) : Option (Nat × Bool) :=
  if b.entries.isEmpty then (if es ≤ size then some (0, false) else none)
  else if b.wlap = b.rlap then
    if es ≤ size - b.wptr then some (b.wptr, false)
    else if es ≤ b.rptr then some (0, true) else none
  else if es ≤ b.rptr - b.wptr then some (b.wptr, false) else none

/-- An entry placed (R104, R105): the write pointer goes behind it, and wraps with its lap bit at the ring's end. -/
def Bob.place (size : Nat) (e : BobEntry) (b : Bob) : Option Bob :=
  let es := entrySize e.bytes.length
  match b.spot size es with
  | none => none
  | some (at_, pad) =>
    let lap := if pad then !b.wlap else b.wlap
    let w := at_ + es
    let b := { b with
      entries := b.entries ++ [(at_, e)]
      wptr := if w = size then 0 else w
      wlap := if w = size then !lap else lap }
    some { b with hiwat := max b.hiwat (b.fill size) }

/-- The head entry taken (R104): pads behind it are skipped, and an emptied Bobbin restarts at offset 0. -/
def Bob.take (b : Bob) : Option (BobEntry × Bob) :=
  match b.entries with
  | [] => none
  | [(_, e)] => some (e, { b with entries := [], wptr := 0, rptr := 0, rlap := b.wlap })
  | (o, e) :: (o', e') :: r =>
    some (e, { b with entries := (o', e') :: r, rptr := o', rlap := if o' ≤ o then !b.rlap else b.rlap })

/-- An entry offered to a Bobbin (R103 to R106): placed, or dropped and counted under DROP_NEW, or held and counted under
WAIT. Every entry offered takes a sequence number (log entry 9). The result says whether it was placed. The way into the lane is open
with its gate (R11). -/
def offer (b : Nat) (stamp : Time) (aux : BitVec 16) (bytes : List Byte) (s : State) : Bool × State :=
  match (if laneActive s && s.lanes.gate then bobDecl s b else none) with
  | none => (false, s)
  | some d =>
    let x := bob s b
    let e : BobEntry := { stamp := stamp, seq := x.seq, aux := aux, bytes := bytes }
    let x := { x with seq := x.seq + 1 }
    match (if x.held.isEmpty then x.place d.size e else none) with
    | some x => (true, setBob b x s)
    | none =>
      if d.dropNew then (false, bump 0x001D0018 b (setBob b x s))
      else (false, bump 0x001D001C b (setBob b { x with held := x.held ++ [e] } s))

/-- LOST in the header of a Strike bin entry, written when the entry is delivered (R204, R205). -/
def withLost (lost : Nat) (e : BobEntry) : BobEntry :=
  { e with bytes := e.bytes.take 4 ++ bytesOf 4 (hold32 lost).toNat ++ e.bytes.drop 8 }

/-- The oldest bin entry that the Strike unit holds is placed once it fits (R106, R205). -/
def strikeDeliver (b : Nat) (s : State) : State :=
  match bobDecl s b, s.strike.heldEntries with
  | some d, e :: r =>
    let x := bob s b
    match x.place d.size { withLost s.strike.lost e with seq := x.seq } with
    | some x => setBob b { x with seq := x.seq + 1 } { s with strike := { s.strike with heldEntries := r, lost := 0 } }
    | none => s
  | _, _ => s

/-- Marks the first entry that a task's releases know to be in the Bobbin as taken (R81). -/
def markTaken : List (Bool × Bool) → List (Bool × Bool)
  | [] => []
  | (l, true) :: r => (l, false) :: r
  | (l, false) :: r => (l, false) :: markTaken r

/-- The task that a Bobbin's entries release (R81). -/
def arrivalTask (s : State) (b : Nat) : Option Nat :=
  (cop s).tasks.findIdx? fun d => d.arrival && decide (d.bobbin = b)

/-- A task, replaced. -/
def setTask (n : Nat) (x : TaskState) (s : State) : State :=
  { s with core := { s.core with tasks := SMap.put s.core.tasks {} n x } }

/-- A task. -/
def taskOf (s : State) (n : Nat) : TaskState := SMap.get s.core.tasks {} n

/-- The head entry of a Bobbin is taken by its consumer (R102, R104); the task it releases no longer finds it there. -/
def popBob (b : Nat) (s : State) : Option BobEntry × State :=
  match (bob s b).take with
  | none => (none, s)
  | some (e, x) =>
    let s := setBob b x s
    match arrivalTask s b with
    | some n => let t := taskOf s n; (some e, setTask n { t with entries := markTaken t.entries } s)
    | none => (some e, s)

end Sys2Proof.Machine
end

