-- ==== Sys2Proof/Machine/Operands.lean ====
section
/-! DEFINITION. Operand forms of Tister instructions: registers and predicates with their hard-wired members, immediates,
handles (R73, R110, R113, R129). -/
namespace Sys2Proof.Machine

/-- A general register: g0 reads zero. -/
def Activation.getG (a : Activation) (r : GReg) : Word := if r = 0 then 0 else a.regs[r]

/-- A general register written: writes to g0 are discarded. -/
def Activation.setG (r : GReg) (v : Word) (a : Activation) : Activation :=
  if r = 0 then a else { a with regs := a.regs.set r v }

/-- A predicate: p0 is always true. -/
def Activation.getP (a : Activation) (p : PReg) : Bool := if p = 0 then true else a.preds[p]

/-- A predicate written: writes to p0 are discarded. -/
def Activation.setP (p : PReg) (b : Bool) (a : Activation) : Activation :=
  if p = 0 then a else { a with preds := a.preds.set p b }

/-- The next instruction. -/
def Activation.step (a : Activation) : Activation := { a with pc := a.pc + 1 }

/-- The handle that a signal instruction names: imm[7:0], plus the index register when that is not g0 (R129). -/
def Activation.handle (a : Activation) (h : Byte) (ix : GReg) : Nat := h.toNat + (a.getG ix).toNat

/-- The address of a load or store: gA + sign-extended imm, modulo 2^32 (R128). -/
def Activation.address (a : Activation) (r : GReg) (imm : BitVec 13) : Word := a.getG r + sext13 imm

end Sys2Proof.Machine
end

