-- ==== Sys2Proof/Machine/Flags.lean ====
section
/-! DEFINITION. What sets predicates and flags: the comparisons of R121 and R122, predicate logic (R123), and the flags word
of a Twist step (R162). No arithmetic instruction sets a flag (R76). -/
namespace Sys2Proof.Machine

/-- Signed order. -/
def cmpLt (a b : Word) : Bool := a.slt b

/-- Unsigned order. -/
def cmpLtu (a b : Word) : Bool := decide (a.toNat < b.toNat)

/-- Floating equality by IEEE 754: −0 equals +0, false with a NaN (R122). -/
def cmpFeq (a b : Word) : Bool := feq a b

/-- Unordered: at least one NaN (R122). -/
def cmpFun (a b : Word) : Bool := isNan a || isNan b

/-- The flags of a Twist step (R162). -/
structure TwistFlags where
  hi : Bool := false
  lo : Bool := false
  rate : Bool := false
  nanhold : Bool := false
  inited : Bool := false
  rcoff : Bool := false
  rcskip : Bool := false
  modebad : Bool := false
  caschold : Bool := false
  limx : Bool := false
  sel : Nat := 0
  learned : Bool := false
  innerLo : Bool := false
  innerHi : Bool := false
  deriving DecidableEq, Repr

/-- The flags word returned by law.out selector 4 (R162). -/
def TwistFlags.word (f : TwistFlags) : Word :=
  flag f.hi 0 ||| flag f.lo 1 ||| flag f.rate 2 ||| flag f.nanhold 3 ||| flag f.inited 4 ||| flag f.rcoff 5
    ||| flag f.rcskip 6 ||| flag f.modebad 7 ||| flag f.caschold 8 ||| flag f.limx 9 ||| at32 f.sel 10
    ||| flag f.learned 13 ||| flag f.innerLo 14 ||| flag f.innerHi 15

end Sys2Proof.Machine
end

