-- ==== Sys2Proof/Machine/Spindle.lean ====
section
/-! DEFINITION. Activations on Spindles: releases, start, end, traps and waits (R73, R80 to R90, R138), and the frame in
which every Tister instruction runs (R90, R113). -/
namespace Sys2Proof.Machine

/-- The activation on a Spindle, replaced. -/
def setAct (sp : Nat) (a : Activation) (s : State) : State :=
  { s with core := { s.core with acts := SMap.insert s.core.acts sp a } }

/-- The Spindle becomes free. -/
def dropAct (sp : Nat) (s : State) : State :=
  { s with core := { s.core with acts := SMap.drop s.core.acts sp } }

/-! ### Releases (R80, R81, R86) -/

/-- The declaration of a task; an undeclared number stands for a task that can never run. -/
def declOf (s : State) (n : Nat) : TaskDecl := (taskDecl s n).getD { spindle := 64, priority := 0 }

/-- A release with its ti: the sixteenth pending one is dropped, counted and recorded (R86). -/
def release (n : Nat) (ti : Time) (arrival : Bool) (s : State) : State :=
  let t := taskOf s n
  let t := { t with lastRelease := some s.sun.time }
  if 15 ≤ t.pending.length then
    raise .error 0x08 0x0014 [BitVec.ofNat 32 n, lo32 ti, hi32 ti]
      (bump 0x00080014 0 (setTask n
        { t with outside := true, entries := if arrival then t.entries ++ [(false, true)] else t.entries } s))
  else
    setTask n { t with
      pending := t.pending ++ [(ti, s.sun.time)]
      entries := if arrival then t.entries ++ [(true, true)] else t.entries } s

/-- Whether device time stands on a PERIODIC task's grid (R80). -/
def onGrid (d : TaskDecl) (t : Time) : Bool := decide (t.toNat % (d.period * 100000) = d.offset * 100000)

/-! ### End of an activation (R81, R86, R87) -/

/-- The head entry of a Bobbin is discarded. -/
def discardHead (b : Nat) (s : State) : State :=
  match (bob s b).take with
  | some (_, x) => setBob b x s
  | none => s

/-- The entries of dropped releases at the head of the list leave the Bobbin (R81: the releasing entry stands at its head). -/
def clearDropped (b : Nat) : List (Bool × Bool) → State → List (Bool × Bool) × State
  | (false, inBob) :: r, s => clearDropped b r (if inBob then discardHead b s else s)
  | l, s => (l, s)

/-- Every released entry leaves the Bobbin: the releases behind it are discarded (R87). -/
def clearReleased (b : Nat) : List (Bool × Bool) → State → State
  | (_, inBob) :: r, s => clearReleased b r (if inBob then discardHead b s else s)
  | [], s => s

/-- An activation ends: an unpopped releasing entry is popped, the response is taken, and a completion after ti + DEADLINE
counts, the first of a task after ARM with a WARNING (R81, R86, R94). -/
def finish (sp : Nat) (a : Activation) (s : State) : State :=
  let d := declOf s a.task
  let s := dropAct sp s
  let t := taskOf s a.task
  let (es, s) := match t.entries with
    | (_, inBob) :: r => clearDropped d.bobbin r (if inBob then discardHead d.bobbin s else s)
    | [] => ([], s)
  let resp := s.sun.time.toNat - a.ti.toNat
  let t := { t with
    entries := es, pending := t.pending.tail, doneTi := some a.ti
    maxResp := if t.maxResp.toNat < resp then hold32 resp else t.maxResp }
  if d.deadlineUs * 1000 < resp then
    let s := bump 0x00080010 0 (setTask a.task { t with missWarned := true } s)
    if t.missWarned then s
    else raise .warning 0x08 0x0010 [BitVec.ofNat 32 a.task, lo32 a.ti, hi32 a.ti] s
  else setTask a.task t s

/-! ### Traps (R87) and barriers (R138) -/

/-- Participants of a barrier group. -/
def participants (s : State) (g : Nat) : List Nat :=
  (((cop s).barriers.find? fun b => decide (b.group = g)).map (·.tasks)).getD []

/-- Whether every participant has executed the barrier for a ti. -/
def barrierFull (s : State) (g : Nat) (ti : Time) : Bool :=
  (participants s g).all fun n => s.core.barriers.contains (g, ti, n)

/-- Whether a partner has trapped or is stopped, so that the barrier cannot complete for a ti. -/
def barrierBroken (s : State) (g : Nat) (ti : Time) : Bool :=
  !barrierFull s g ti &&
    (s.core.broken.contains (g, ti) || (participants s g).any fun n => (taskOf s n).stopped)

/-- A task stops until the next ARM: pending releases are discarded and its signals turn STALE (R87). -/
def stopTask (n : Nat) (s : State) : State :=
  let d := declOf s n
  let t := taskOf s n
  let s := clearReleased d.bobbin t.entries s
  staleAll (writtenBy (cop s) fun w => decide (w = .task n))
    (setTask n { t with stopped := true, pending := [], entries := [] } s)

/-- A trap of one activation: counted, stored, recorded with task, cause, pc, ti and, for TRAP, the immediate; it ends the
activation, and its barrier groups not yet passed are broken for its ti (R87, R138, R369). An activation that a trap ends counts as
completed for SPN_DLMISS, its WARNING and MAXRESP (DEDUCED, log entry 92). -/
def trapOne (sp cause : Nat) (args : List Word) (a : Activation) (s : State) : State :=
  let d := declOf s a.task
  let groups := ((cop s).barriers.filter fun b => b.tasks.contains a.task && !a.passed.contains b.group
      && !barrierFull s b.group a.ti).map fun b => (b.group, a.ti)
  let s := bump 0x00080018 0 s
  let s := { s with core := { s.core with
    lastTrap := at32 cause 28 ||| at32 a.task 14 ||| a.pc.zeroExtend 32
    barriers := s.core.barriers.filter fun e => !(decide (e.2.1 = a.ti) && decide (e.2.2 = a.task))
    broken := s.core.broken ++ groups } }
  let s := raise .error 0x08 0x0018
    ([BitVec.ofNat 32 a.task, BitVec.ofNat 32 cause, a.pc.zeroExtend 32, lo32 a.ti, hi32 a.ti] ++ args) s
  let s := finish sp a s
  if d.onTrapStop then stopTask a.task s else s

/-- An activation that waits at a barrier which cannot complete, with its Spindle. -/
def stuckAtBarrier (s : State) : Option (Nat × Activation) :=
  s.core.acts.find? fun e => match e.2.wait with
    | some (.barrier g) => barrierBroken s g e.2.ti
    | _ => false

/-- Participants that wait at a broken barrier raise the BARRIER trap, one after another (R138). -/
def breakBarriers : Nat → State → State
  | 0, s => s
  | n + 1, s => match stuckAtBarrier s with
    | some (sp, a) => breakBarriers n (trapOne sp 6 [] a s)
    | none => s

/-- A trap with all that follows from it; there are 64 Spindles. -/
def trap (sp cause : Nat) (args : List Word) (a : Activation) (s : State) : State :=
  breakBarriers 64 (trapOne sp cause args a s)

/-! ### The frame of an instruction -/

/-- A Tister instruction on a Spindle (R87, R90, R111 to R113, R140; log entry 10). `level` is its Tister level, `legal` says
that its fields are a defined encoding, `charge` is its full charge. Nothing happens on a Spindle that runs no activation or
waits. `f` gets the activation with its charge taken and its pc still at this instruction; a false guard only goes on. -/
def onSpindle (x : Slot) (level charge : Nat) (legal : Bool) (f : Activation → State → State) (s : State) : Result :=
  .next <|
  match SMap.find s.core.acts x.sp.val with
  | none => s
  | some a =>
    if a.wait.isSome then s
    else if !legal || decide ((cop s).minIsa < level) then trap x.sp.val 7 [] a s
    else if (declOf s a.task).budget < a.charged + charge then trap x.sp.val 5 [] a s
    else
      let a := { a with charged := a.charged + charge }
      if a.getP x.p then f a s else setAct x.sp.val a.step s

/-- The same for an instruction that changes only the activation. -/
def onRegs (x : Slot) (level charge : Nat) (f : Activation → Activation) (s : State) : Result :=
  onSpindle x level charge true (fun a s => setAct x.sp.val (f a).step s) s

/-- A result of two source registers into a register. -/
def intoG (x : Slot) (level charge : Nat) (d a b : GReg) (f : Word → Word → Word) (s : State) : Result :=
  onRegs x level charge (fun y => y.setG d (f (y.getG a) (y.getG b))) s

/-- A result of one source register into a register. -/
def intoG1 (x : Slot) (level charge : Nat) (d a : GReg) (f : Word → Word) (s : State) : Result :=
  onRegs x level charge (fun y => y.setG d (f (y.getG a))) s

/-- A comparison of two source registers into a predicate. -/
def intoP (x : Slot) (level charge : Nat) (d : PReg) (a b : GReg) (f : Word → Word → Bool) (s : State) : Result :=
  onRegs x level charge (fun y => y.setP d (f (y.getG a) (y.getG b))) s

/-- A combination of predicates into a predicate. -/
def intoPP (x : Slot) (d a b : PReg) (f : Bool → Bool → Bool) (s : State) : Result :=
  onRegs x 1 1 (fun y => y.setP d (f (y.getP a) (y.getP b))) s

end Sys2Proof.Machine
end

