-- ==== Sys2Proof/Machine/Alu.lean ====
section
/-! DEFINITION. Meanings of the integer, fixed-point, floating-point, conversion, compare and predicate instructions
(R75, R76, R115 to R123, R140). Results depend on the operand bits alone. -/
namespace Sys2Proof.Machine

/-- High word of the signed product. -/
def mulHigh (a b : Word) : Word := wordOf (a.toInt * b.toInt / 4294967296)

/-- High word of the unsigned product. -/
def mulHighU (a b : Word) : Word := BitVec.ofNat 32 (a.toNat * b.toNat / 4294967296)

/-- Shift amount: bits 4:0 of an operand (R75). -/
def amount (b : Word) : Nat := b.toNat % 32

/-- Leading zeros among the low `n` bits. -/
def leadingZeros (a : Word) : Nat → Nat
  | 0 => 0
  | n + 1 => if bit a n then 0 else leadingZeros a n + 1

/-- Set bits among the low `n` bits. -/
def setBits (a : Word) : Nat → Nat
  | 0 => 0
  | n + 1 => (if bit a n then 1 else 0) + setBits a n

/-- Product of a fixed-point format with `k` fraction bits: exact, rounded to nearest even, saturated (R75). -/
def qmul (k : Nat) (a b : Word) : Word := sat32 (roundDiv (a.toInt * b.toInt) (2 ^ k))

/-- add: A + B, wrapping (R115). -/
def execAdd (x : Slot) (d a b : GReg) (s : State) : Result := intoG x 1 1 d a b (· + ·) s

/-- sub: A − B, wrapping (R115). -/
def execSub (x : Slot) (d a b : GReg) (s : State) : Result := intoG x 1 1 d a b (· - ·) s

/-- mul: low 32 bits of A × B (R115). -/
def execMul (x : Slot) (d a b : GReg) (s : State) : Result := intoG x 1 2 d a b (· * ·) s

/-- mulh: high 32 bits of the signed product (R115). -/
def execMulh (x : Slot) (d a b : GReg) (s : State) : Result := intoG x 1 2 d a b mulHigh s

/-- mulhu: high 32 bits of the unsigned product (R115). -/
def execMulhu (x : Slot) (d a b : GReg) (s : State) : Result := intoG x 1 2 d a b mulHighU s

/-- div: signed quotient toward zero; by zero 0; 0x8000_0000 by −1 gives 0x8000_0000 (R75, R115). -/
def execDiv (x : Slot) (d a b : GReg) (s : State) : Result := intoG x 1 18 d a b BitVec.sdiv s

/-- divu: unsigned quotient; by zero 0 (R75, R115). -/
def execDivu (x : Slot) (d a b : GReg) (s : State) : Result := intoG x 1 18 d a b (· / ·) s

/-- rem: A − div(A, B) × B (R115, R116). -/
def execRem (x : Slot) (d a b : GReg) (s : State) : Result := intoG x 1 18 d a b (fun p q => p - BitVec.sdiv p q * q) s

/-- remu: A − divu(A, B) × B (R115, R116). -/
def execRemu (x : Slot) (d a b : GReg) (s : State) : Result := intoG x 1 18 d a b (fun p q => p - p / q * q) s

/-- and: A and B (R115). -/
def execAnd (x : Slot) (d a b : GReg) (s : State) : Result := intoG x 1 1 d a b (· &&& ·) s

/-- or: A or B (R115). -/
def execOr (x : Slot) (d a b : GReg) (s : State) : Result := intoG x 1 1 d a b (· ||| ·) s

/-- xor: A xor B (R115). -/
def execXor (x : Slot) (d a b : GReg) (s : State) : Result := intoG x 1 1 d a b (· ^^^ ·) s

/-- andn: A and not B (R115). -/
def execAndn (x : Slot) (d a b : GReg) (s : State) : Result := intoG x 1 1 d a b (fun p q => p &&& ~~~q) s

/-- shl: A shifted left by B[4:0] (R115). -/
def execShl (x : Slot) (d a b : GReg) (s : State) : Result := intoG x 1 1 d a b (fun p q => p <<< amount q) s

/-- shr: A shifted right by B[4:0], zero fill (R115). -/
def execShr (x : Slot) (d a b : GReg) (s : State) : Result := intoG x 1 1 d a b (fun p q => p >>> amount q) s

/-- sra: A shifted right by B[4:0], sign fill (R115). -/
def execSra (x : Slot) (d a b : GReg) (s : State) : Result := intoG x 1 1 d a b (fun p q => p.sshiftRight (amount q)) s

/-- rol: A rotated left by B[4:0]; level T3 (R115). -/
def execRol (x : Slot) (d a b : GReg) (s : State) : Result := intoG x 3 1 d a b (fun p q => p.rotateLeft (amount q)) s

/-- min: signed minimum (R115). -/
def execMin (x : Slot) (d a b : GReg) (s : State) : Result := intoG x 1 1 d a b (fun p q => if cmpLt q p then q else p) s

/-- max: signed maximum (R115). -/
def execMax (x : Slot) (d a b : GReg) (s : State) : Result := intoG x 1 1 d a b (fun p q => if cmpLt p q then q else p) s

/-- minu: unsigned minimum (R115). -/
def execMinu (x : Slot) (d a b : GReg) (s : State) : Result := intoG x 1 1 d a b (fun p q => if cmpLtu q p then q else p) s

/-- maxu: unsigned maximum (R115). -/
def execMaxu (x : Slot) (d a b : GReg) (s : State) : Result := intoG x 1 1 d a b (fun p q => if cmpLtu p q then q else p) s

/-- clz: leading zero bits of A, 0 to 32; level T3 (R115). -/
def execClz (x : Slot) (d a : GReg) (s : State) : Result := intoG1 x 3 1 d a (fun p => BitVec.ofNat 32 (leadingZeros p 32)) s

/-- popc: set bits of A, 0 to 32; level T3 (R115). -/
def execPopc (x : Slot) (d a : GReg) (s : State) : Result := intoG1 x 3 1 d a (fun p => BitVec.ofNat 32 (setBits p 32)) s

/-- addi: A + sign-extended imm (R117). -/
def execAddi (x : Slot) (d a : GReg) (imm : BitVec 13) (s : State) : Result := intoG1 x 1 1 d a (fun p => p + sext13 imm) s

/-- andi: A and zero-extended imm (R117). -/
def execAndi (x : Slot) (d a : GReg) (imm : BitVec 13) (s : State) : Result := intoG1 x 1 1 d a (fun p => p &&& zext13 imm) s

/-- ori: A or zero-extended imm (R117). -/
def execOri (x : Slot) (d a : GReg) (imm : BitVec 13) (s : State) : Result := intoG1 x 1 1 d a (fun p => p ||| zext13 imm) s

/-- xori: A xor zero-extended imm (R117). -/
def execXori (x : Slot) (d a : GReg) (imm : BitVec 13) (s : State) : Result := intoG1 x 1 1 d a (fun p => p ^^^ zext13 imm) s

/-- shli: shift left by imm[4:0] (R117). -/
def execShli (x : Slot) (d a : GReg) (sh : BitVec 5) (s : State) : Result := intoG1 x 1 1 d a (fun p => p <<< sh.toNat) s

/-- shri: logical shift right by imm[4:0] (R117). -/
def execShri (x : Slot) (d a : GReg) (sh : BitVec 5) (s : State) : Result := intoG1 x 1 1 d a (fun p => p >>> sh.toNat) s

/-- srai: arithmetic shift right by imm[4:0] (R117). -/
def execSrai (x : Slot) (d a : GReg) (sh : BitVec 5) (s : State) : Result := intoG1 x 1 1 d a (fun p => p.sshiftRight sh.toNat) s

/-- roli: rotate left by imm[4:0]; level T3 (R117). -/
def execRoli (x : Slot) (d a : GReg) (sh : BitVec 5) (s : State) : Result := intoG1 x 3 1 d a (fun p => p.rotateLeft sh.toNat) s

/-- movi: sign-extended imm (R117). -/
def execMovi (x : Slot) (d : GReg) (imm : BitVec 13) (s : State) : Result := intoG1 x 1 1 d 0 (fun _ => sext13 imm) s

/-- qadd: A + B, saturated (R118). -/
def execQadd (x : Slot) (d a b : GReg) (s : State) : Result := intoG x 1 1 d a b (fun p q => sat32 (p.toInt + q.toInt)) s

/-- qsub: A − B, saturated (R118). -/
def execQsub (x : Slot) (d a b : GReg) (s : State) : Result := intoG x 1 1 d a b (fun p q => sat32 (p.toInt - q.toInt)) s

/-- qneg: −A, saturated (R118). -/
def execQneg (x : Slot) (d a : GReg) (s : State) : Result := intoG1 x 1 1 d a (fun p => sat32 (-p.toInt)) s

/-- qabs: abs(A), saturated (R118). -/
def execQabs (x : Slot) (d a : GReg) (s : State) : Result := intoG1 x 1 1 d a (fun p => sat32 (p.toInt.natAbs : Int)) s

/-- qmul16: Q16.16 product, rounded at bit 16, saturated (R118). -/
def execQmul16 (x : Slot) (d a b : GReg) (s : State) : Result := intoG x 1 2 d a b (qmul 16) s

/-- qmul31: Q1.31 product, rounded at bit 31, saturated; level T2 (R118). -/
def execQmul31 (x : Slot) (d a b : GReg) (s : State) : Result := intoG x 2 2 d a b (qmul 31) s

/-- qshl: A × 2^B[4:0], saturated (R118). -/
def execQshl (x : Slot) (d a b : GReg) (s : State) : Result := intoG x 1 1 d a b (fun p q => sat32 (p.toInt * (2 ^ amount q : Nat))) s

/-- fadd: binary32 (R75, R119). -/
def execFadd (x : Slot) (d a b : GReg) (s : State) : Result := intoG x 2 4 d a b fadd s

/-- fsub: binary32 (R75, R119). -/
def execFsub (x : Slot) (d a b : GReg) (s : State) : Result := intoG x 2 4 d a b fsub s

/-- fmul: binary32 (R75, R119). -/
def execFmul (x : Slot) (d a b : GReg) (s : State) : Result := intoG x 2 4 d a b fmul s

/-- fdiv: binary32 (R75, R119). -/
def execFdiv (x : Slot) (d a b : GReg) (s : State) : Result := intoG x 3 14 d a b fdiv s

/-- fmin: binary32 (R75, R119). -/
def execFmin (x : Slot) (d a b : GReg) (s : State) : Result := intoG x 2 2 d a b fmin s

/-- fmax: binary32 (R75, R119). -/
def execFmax (x : Slot) (d a b : GReg) (s : State) : Result := intoG x 2 2 d a b fmax s

/-- fsqrt: binary32 (R75, R119). -/
def execFsqrt (x : Slot) (d a : GReg) (s : State) : Result := intoG1 x 3 14 d a fsqrt s

/-- fabs: binary32 (R75, R119). -/
def execFabs (x : Slot) (d a : GReg) (s : State) : Result := intoG1 x 2 1 d a fabs s

/-- fneg: binary32 (R75, R119). -/
def execFneg (x : Slot) (d a : GReg) (s : State) : Result := intoG1 x 2 1 d a fneg s

/-- ffma: A × B + D, rounded once, into D; level T3 (R119). -/
def execFfma (x : Slot) (d a b : GReg) (s : State) : Result :=
  onRegs x 3 5 (fun y => y.setG d (ffma (y.getG a) (y.getG b) (y.getG d))) s

/-- f2i: conversion (R75, R120). -/
def execF2i (x : Slot) (d a : GReg) (s : State) : Result := intoG1 x 2 3 d a (f2fix 0) s

/-- i2f: conversion (R75, R120). -/
def execI2f (x : Slot) (d a : GReg) (s : State) : Result := intoG1 x 2 3 d a (fix2f 0) s

/-- f2q16: conversion (R75, R120). -/
def execF2q16 (x : Slot) (d a : GReg) (s : State) : Result := intoG1 x 2 3 d a (f2fix 16) s

/-- q162f: conversion (R75, R120). -/
def execQ162f (x : Slot) (d a : GReg) (s : State) : Result := intoG1 x 2 3 d a (fix2f 16) s

/-- f2q31: conversion (R75, R120). -/
def execF2q31 (x : Slot) (d a : GReg) (s : State) : Result := intoG1 x 2 3 d a (f2fix 31) s

/-- q312f: conversion (R75, R120). -/
def execQ312f (x : Slot) (d a : GReg) (s : State) : Result := intoG1 x 2 3 d a (fix2f 31) s

/-- ieq: A = B (R121). -/
def execIeq (x : Slot) (d : PReg) (a b : GReg) (s : State) : Result := intoP x 1 1 d a b (fun p q => decide (p = q)) s

/-- ine: A ≠ B (R121). -/
def execIne (x : Slot) (d : PReg) (a b : GReg) (s : State) : Result := intoP x 1 1 d a b (fun p q => decide (p ≠ q)) s

/-- ilt: A < B, signed (R121). -/
def execIlt (x : Slot) (d : PReg) (a b : GReg) (s : State) : Result := intoP x 1 1 d a b cmpLt s

/-- ige: A ≥ B, signed (R121). -/
def execIge (x : Slot) (d : PReg) (a b : GReg) (s : State) : Result := intoP x 1 1 d a b (fun p q => !cmpLt p q) s

/-- iltu: A < B, unsigned (R121). -/
def execIltu (x : Slot) (d : PReg) (a b : GReg) (s : State) : Result := intoP x 1 1 d a b cmpLtu s

/-- igeu: A ≥ B, unsigned (R121). -/
def execIgeu (x : Slot) (d : PReg) (a b : GReg) (s : State) : Result := intoP x 1 1 d a b (fun p q => !cmpLtu p q) s

/-- ieqi: A = imm, sign-extended (R121). -/
def execIeqi (x : Slot) (d : PReg) (a : GReg) (imm : BitVec 13) (s : State) : Result :=
  onRegs x 1 1 (fun y => y.setP d (decide (y.getG a = sext13 imm))) s

/-- inei: A ≠ imm, sign-extended (R121). -/
def execInei (x : Slot) (d : PReg) (a : GReg) (imm : BitVec 13) (s : State) : Result :=
  onRegs x 1 1 (fun y => y.setP d (decide (y.getG a ≠ sext13 imm))) s

/-- ilti: A < imm, signed, sign-extended (R121). -/
def execIlti (x : Slot) (d : PReg) (a : GReg) (imm : BitVec 13) (s : State) : Result :=
  onRegs x 1 1 (fun y => y.setP d (cmpLt (y.getG a) (sext13 imm))) s

/-- igei: A ≥ imm, signed, sign-extended (R121). -/
def execIgei (x : Slot) (d : PReg) (a : GReg) (imm : BitVec 13) (s : State) : Result :=
  onRegs x 1 1 (fun y => y.setP d (!cmpLt (y.getG a) (sext13 imm))) s

/-- feq: A = B; level T2 (R122). -/
def execFeq (x : Slot) (d : PReg) (a b : GReg) (s : State) : Result := intoP x 2 2 d a b cmpFeq s

/-- fne: not (A = B); level T2 (R122). -/
def execFne (x : Slot) (d : PReg) (a b : GReg) (s : State) : Result := intoP x 2 2 d a b (fun p q => !cmpFeq p q) s

/-- flt: A < B; level T2 (R122). -/
def execFlt (x : Slot) (d : PReg) (a b : GReg) (s : State) : Result := intoP x 2 2 d a b flt s

/-- fle: A ≤ B; level T2 (R122). -/
def execFle (x : Slot) (d : PReg) (a b : GReg) (s : State) : Result := intoP x 2 2 d a b fle s

/-- fgt: A > B; level T2 (R122). -/
def execFgt (x : Slot) (d : PReg) (a b : GReg) (s : State) : Result := intoP x 2 2 d a b (fun p q => flt q p) s

/-- fge: A ≥ B; level T2 (R122). -/
def execFge (x : Slot) (d : PReg) (a b : GReg) (s : State) : Result := intoP x 2 2 d a b (fun p q => fle q p) s

/-- fun: unordered; level T2 (R122). -/
def execFun (x : Slot) (d : PReg) (a b : GReg) (s : State) : Result := intoP x 2 2 d a b cmpFun s

/-- pand: A and B (R123). -/
def execPand (x : Slot) (d a b : PReg) (s : State) : Result := intoPP x d a b (· && ·) s

/-- por: A or B (R123). -/
def execPor (x : Slot) (d a b : PReg) (s : State) : Result := intoPP x d a b (· || ·) s

/-- pxor: A xor B (R123). -/
def execPxor (x : Slot) (d a b : PReg) (s : State) : Result := intoPP x d a b Bool.xor s

/-- pandn: A and not B (R123). -/
def execPandn (x : Slot) (d a b : PReg) (s : State) : Result := intoPP x d a b (fun p q => p && !q) s

/-- pnot: not A (R123). -/
def execPnot (x : Slot) (d a : PReg) (s : State) : Result := intoPP x d a 0 (fun p _ => !p) s

/-- pmov: A (R123). -/
def execPmov (x : Slot) (d a : PReg) (s : State) : Result := intoPP x d a 0 (fun p _ => p) s

end Sys2Proof.Machine
end

