-- ==== Sys2Proof/Machine/Tally.lean ====
section
/-! DEFINITION. The ledgers of the Tally (R253 to R261): sums, admission checks, queues. What an admission does to the load
that claimed stands in Loads.lean. -/
namespace Sys2Proof.Machine

/-- Ledger of a supply: 0 to 3 for VLOAD1 to VLOAD4, 4 for VBAT (R253). -/
def ledger (s : State) (k : Nat) : Ledger := SMap.get s.tally.ledgers {} k
def setLedger (k : Nat) (l : Ledger) (s : State) : State :=
  { s with tally := { s.tally with ledgers := SMap.put s.tally.ledgers {} k l } }

/-- The limit word in force of a VLOAD supply (R254). -/
def limitWord (s : State) : Nat → Word
  | 0 => s.tally.in0
  | 1 => s.tally.in1
  | 2 => s.tally.in2
  | _ => s.tally.in3

/-- CONT_LIMIT and PEAK_LIMIT in mA, PEAK_TIME in ns (R253, R265). -/
def contLimit (s : State) (k : Nat) : Nat := field (limitWord s k) 11 0 * 100
def peakLimit (s : State) (k : Nat) : Nat := field (limitWord s k) 23 12 * 100
def peakTimeNs (s : State) (k : Nat) : Nat := field (limitWord s k) 31 24 * 100000

/-- TALLY_STAGGER of a supply in ns. -/
def staggerNs (s : State) (k : Nat) : Nat := field s.tally.inStagger (8 * k + 7) (8 * k) * 50000

/-- What an admitted claim contributes to INST, at an instant (R255). -/
def instAt (a : Admitted) (t : Nat) : Nat :=
  if a.transient && decide (t < a.since.toNat + a.claim.tNs) then a.claim.x else a.claim.rest

/-- What it contributes to INST as the ledger stands. -/
def instOf (a : Admitted) : Nat := if a.transient then a.claim.x else a.claim.rest

/-- What it contributes to CONT: c, or x while a transient longer than PEAK_TIME runs (R255). -/
def contOf (peakNs : Nat) (a : Admitted) : Nat :=
  if a.transient && decide (peakNs < a.claim.tNs) then a.claim.x else a.claim.c

/-- CONT and INST of a list of admitted claims. -/
def contSum (peakNs : Nat) (l : List Admitted) : Nat := (l.map (contOf peakNs)).sum
def instSum (l : List Admitted) : Nat := (l.map instOf).sum

/-- CONT(s) and INST(s) (R253); for VBAT, INST is the sum of continuous and transient parts. -/
def contS (s : State) (k : Nat) : Nat := contSum (peakTimeNs s k) (ledger s k).admitted
def instS (s : State) (k : Nat) : Nat := instSum (ledger s k).admitted

/-- The VBAT sum (R253). -/
def vbatSum (s : State) : Nat := instS s 4

/-- Intervals from each start to the next at which a list of claims exceeds a limit, and whether it does so for ever. -/
def overAhead (l : List Admitted) (limit : Nat) : List Nat → List (Nat × Nat) × Bool
  | [] => ([], false)
  | [t] => ([], decide (limit < (l.map fun a => instAt a t).sum))
  | t :: t' :: r =>
    let rest := overAhead l limit (t' :: r)
    if limit < (l.map fun a => instAt a t).sum then ((t, t') :: rest.1, rest.2) else rest

/-- How much of an interval lies in the 100 ms that end at `e`. -/
def overlap (e : Nat) (i : Nat × Nat) : Nat := min i.2 e - max i.1 (e - 100000000)

/-- Whether, in every 100 ms, INST stands above CONT_LIMIT for at most PEAK_TIME (R253), from `now` on with these claims. -/
def peakTimeHolds (s : State) (k : Nat) (l : List Admitted) : Bool :=
  let now := s.sun.time.toNat
  let ends := ((l.filter (·.transient)).map fun a => a.since.toNat + a.claim.tNs).filter fun e => decide (now < e)
  let (ahead, ever) := overAhead l (contLimit s k) (now :: sortBy (fun a b => a ≤ b) ends)
  let g := ledger s k
  let past := match g.overSince with
    | some t => (t, now) :: g.above
    | none => g.above
  let all := past ++ ahead
  !ever && (all.all fun i => decide ((all.map (overlap i.2)).sum ≤ peakTimeNs s k))

/-- The sum of CONT of the VLOAD supplies other than `k`. -/
def contOthers (s : State) (k : Nat) : Nat :=
  (((List.range 4).filter fun j => decide (j ≠ k)).map (contS s)).sum

/-- A claim as it stands right after admission. -/
def admittedNow (s : State) (c : Claim) : Admitted :=
  { claim := c, since := s.sun.time, transient := decide (0 < c.tNs) }

/-- The lane whose running, managing or wake claim an owner is: a lane holds one of them at a time (R259). -/
def laneOf : Owner → Option Lane
  | .run l | .mgmt l | .wake l => some l
  | _ => none

/-- Whether a claim takes the place of another: the same channel or draw (R255), or another grade of the same lane (R259, R260). -/
def sameLoad (a b : Owner) : Bool := decide (a = b) || ((laneOf a).isSome && decide (laneOf a = laneOf b))

/-- The admitted claims with a new one in place of the held one (R255). -/
def withClaim (s : State) (k : Nat) (c : Claim) : List Admitted :=
  ((ledger s k).admitted.filter fun a => !sameLoad a.claim.owner c.owner) ++ [admittedNow s c]

/-- Whether an owner is a load switch. -/
def ownsLsw : Owner → Bool
  | .chan (.lsw _) => true
  | _ => false

/-- Whether every check of R253 and the stagger of R256 hold with a claim added; nothing fits during hold-up (R261, R414), nor while LKO has
failed, whose domain the Tally is in (R21). -/
def fits (s : State) (k : Nat) (c : Claim) : Bool :=
  let l := withClaim s k c
  if s.sys.holdupRun || s.clock.lkoFail then false
  else if k = 4 then decide (instSum l ≤ 5000)
  else
    decide (contSum (peakTimeNs s k) l ≤ contLimit s k) && decide (instSum l ≤ peakLimit s k)
      && decide (contSum (peakTimeNs s k) l + contOthers s k ≤ s.tally.inTotal.toNat * 100)
      && peakTimeHolds s k l
      && (!(ownsLsw c.owner && decide (0 < c.tNs)) || match (ledger s k).lastLsw with
        | some t => decide (t.toNat + staggerNs s k ≤ s.sun.time.toNat)
        | none => true)

/-- The record of times above CONT_LIMIT, brought up to date after a change of a ledger (R253). -/
def trackOver (k : Nat) (s : State) : State :=
  let g := ledger s k
  let now := s.sun.time.toNat
  let above := decide (contLimit s k < instSum g.admitted)
  let keep := g.above.filter fun i => decide (now ≤ i.2 + 100000000)
  let g := match g.overSince with
    | some t => if above then { g with above := keep } else { g with above := (t, now) :: keep, overSince := none }
    | none => { g with above := keep, overSince := if above then some now else none }
  if k = 4 then s else setLedger k g s

/-- A claim enters the ledger. -/
def enter (k : Nat) (c : Claim) (s : State) : State :=
  let g := ledger s k
  let l := if ownsLsw c.owner && decide (0 < c.tNs) then some s.sun.time else g.lastLsw
  trackOver k (setLedger k { g with admitted := withClaim s k c, lastLsw := l } s)

/-- An owner's admitted claim is returned to a ledger (R255). -/
def giveBack (k : Nat) (o : Owner) (s : State) : State :=
  let g := ledger s k
  trackOver k (setLedger k { g with admitted := g.admitted.filter fun a => !decide (a.claim.owner = o) } s)

/-- An owner's queued claim leaves the queue (R257). -/
def unqueue (k : Nat) (o : Owner) (s : State) : State :=
  let g := ledger s k
  setLedger k { g with queue := g.queue.filter fun q => !decide (q.claim.owner = o) } s

/-- Whether an owner holds an admitted claim, or has one queued. -/
def holds (s : State) (k : Nat) (o : Owner) : Bool := (ledger s k).admitted.any fun a => decide (a.claim.owner = o)
def waits (s : State) (k : Nat) (o : Owner) : Bool := (ledger s k).queue.any fun q => decide (q.claim.owner = o)

/-- The supply of a channel: bank b is fed by VLOAD(b+1) (R266, R280). -/
def bankOf : Chan → Nat
  | .lsw n => n / 12
  | .sol n => n / 8

/-- A channel in an argument of a record: as CHANNEL of an OUTPUTS record (R167). -/
def chanWord : Chan → Word
  | .lsw n => BitVec.ofNat 32 n
  | .sol n => BitVec.ofNat 32 (0x8000 + n)

/-- An owner in an argument of a record; for an internal draw the spec names no number (log entry 3). -/
def ownerWord : Owner → Word
  | .chan c => chanWord c
  | .logic => Config.causeCode 100
  | .run l => Config.causeCode (101 + Lane.num l)
  | .mgmt l => Config.causeCode (103 + Lane.num l)
  | .wake l => Config.causeCode (105 + Lane.num l)
  | .flash who _ => Config.causeCode (160 + who)
  | .panel => Config.causeCode 108
  | .antenna n => Config.causeCode (110 + n)
  | .port n => Config.causeCode (120 + n)
  | .sup n => Config.causeCode (140 + n)

/-- A refusal is counted and recorded with the channel, the supply and the sums (R258). -/
def recordRefusal (k : Nat) (o : Owner) (s : State) : State :=
  raise .error 0x04 0x0044
    [ownerWord o, BitVec.ofNat 32 k, BitVec.ofNat 32 (contS s k), BitVec.ofNat 32 (instS s k)] (bump 0x00040044 0 s)

/-- A claim takes the place of the owner's queued one, keeping its time of entry (R257). -/
def replaceQueued (k : Nat) (c : Claim) (s : State) : State :=
  let g := ledger s k
  setLedger k { g with queue := g.queue.map fun q => if q.claim.owner = c.owner then { q with claim := c } else q } s

/-- A claim joins a queue and the deferral counts (R257); the standby wake stands at the head of the VBAT queue (R260). -/
def enqueue (k : Nat) (c : Claim) (s : State) : State :=
  let g := ledger s k
  let q : Queued := { claim := c, since := s.sun.time }
  let front := match c.owner with
    | .wake _ => true
    | _ => false
  bump 0x00040040 0 (setLedger k { g with queue := if front then q :: g.queue else g.queue ++ [q] } s)

/-- A steady draw on VBAT, in mA. -/
def drawClaim (o : Owner) (mA : Nat) : Claim := { owner := o, c := mA, rest := mA }

/-- The fixed VBAT claims (R259). -/
def logicClaim : Claim := drawClaim .logic 1300
def runClaim (l : Lane) : Claim := drawClaim (.run l) 1800
def mgmtClaim (l : Lane) : Claim := drawClaim (.mgmt l) 600
def wakeClaim (l : Lane) : Claim := { drawClaim (.wake l) 1800 with x := 2000, tNs := 1000000 }
def flashClaim (who n : Nat) : Claim := { owner := .flash who n, c := 0, x := 150, tNs := 1000000 }
def panelClaim : Claim := { drawClaim .panel 250 with x := 400, tNs := 2000000 }
def antennaClaim (n : Nat) : Claim := drawClaim (.antenna n) 100

/-- PWM_DUTY_MAX of a declaration as a share of the nominal current: Q1.31, all ones being full on (R167). -/
def dutyPart (d : OutDecl) : Nat :=
  if d.dutyMax = 0x7FFFFFFF then d.iNom else (d.iNom * d.dutyMax.toNat + 2147483647) / 2147483648

/-- A load switch's claim (R255). -/
def lswClaim (d : OutDecl) : Claim :=
  { owner := .chan d.chan, c := if d.pwm then dutyPart d else d.iNom, x := d.iInrush, tNs := d.tInrush * 100000, rest := d.iNom }

/-- A solenoid channel's claims: regulation, and a peak (R255). -/
def solHoldClaim (d : OutDecl) : Claim := { owner := .chan d.chan, c := d.iHold, rest := d.iHold }
def solPeakClaim (d : OutDecl) : Claim :=
  { owner := .chan d.chan, c := d.iHold, x := d.iPeak, tNs := d.tPeak * 100000, rest := d.iHold }

/-- Whether a claim is the lane's own: an output channel's, or a flash burst of its Distaff or update engine (R264, log entry 101). -/
def byLane : Owner → Bool
  | .chan _ => true
  | .flash who _ => decide (who < 2)
  | _ => false

/-- Every queued claim of the lane is discarded and counted (R264). -/
def discardQueued (k : Nat) (s : State) : State :=
  let g := ledger s k
  bumps 0x00040048 0 (g.queue.filter fun q => byLane q.claim.owner).length
    (setLedger k { g with queue := g.queue.filter fun q => !byLane q.claim.owner } s)

/-- Every deferred claim is discarded, as hold-up begins (R261, R414). -/
def discardAll (k : Nat) (s : State) : State := setLedger k { ledger s k with queue := [] } s

/-- Flash bursts that wait leave the queue: whoever programs has given them up. -/
def unflash (who : Nat) (s : State) : State :=
  let g := ledger s 4
  setLedger 4 { g with queue := g.queue.filter fun q => match q.claim.owner with
    | .flash w _ => decide (w ≠ who)
    | _ => true } s

end Sys2Proof.Machine
end

