-- ==== Sys2Proof/Machine/Baseband.lean ====
section
/-! DEFINITION. Channels and search engines of the GNSS baseband, as an admitted antenna bias finds them (R232 to R240). -/
namespace Sys2Proof.Machine

/-! ### Signals, channels, engines -/

/-- L1-band signals, the only ones searched (R239), and those of them that GNS_CFG.SIG_EN enables. -/
def l1Signals : List Nat := [0, 2, 4, 6, 8]
def searched (s : State) : List Nat := l1Signals.filter fun c => bit s.gnss.cfg c
def isL1 (c : BitVec 4) : Bool := l1Signals.contains c.toNat

/-- The L5-band signal that is started by handover from an L1-band one (R237). -/
def l5Of (c : BitVec 4) : Option (BitVec 4) :=
  match c.toNat with
  | 0 => some 1
  | 2 => some 3
  | 4 => some 5
  | 6 => some 7
  | _ => none

/-- Code length of a signal in half-chips (R232, R239). -/
def halfChips (c : BitVec 4) : Nat :=
  match c.toNat with
  | 2 => 8184
  | 4 => 4092
  | 0 | 6 | 8 => 2046
  | _ => 20460

/-- Doppler bins of a search window at the selected bin width (R239, R240). -/
def windowBins (s : State) (window : Nat) : Nat :=
  let hz := if bit s.gnss.cfg 16 then 500 else 250
  if window = 0 then 12000 / hz else if window = 1 then 3000 / hz else 3

/-- Half-chips of a search window (R240). -/
def windowPhases (window : Nat) (c : BitVec 4) : Nat := if window = 2 then 17 else halfChips c

/-- A channel, and a search engine. -/
def gch (s : State) (n : Nat) : GnssCh := SMap.get s.gnss.chans {} n
def setGch (n : Nat) (x : GnssCh) (s : State) : State :=
  { s with gnss := { s.gnss with chans := SMap.put s.gnss.chans {} n x } }
def eng (s : State) (n : Nat) : GnssEngine := SMap.get s.gnss.engines {} n
def setEng (n : Nat) (x : GnssEngine) (s : State) : State :=
  { s with gnss := { s.gnss with engines := SMap.put s.gnss.engines {} n x } }

/-- SPACING of a signal's band in GNS_CFG (R236). -/
def spacingOf (s : State) (c : BitVec 4) : BitVec 5 :=
  if isL1 c then BitVec.ofNat 5 (field s.gnss.cfg 21 17) else BitVec.ofNat 5 (field s.gnss.cfg 26 22)

/-- State of an antenna input (GNS_ANT), and its change, which writes a WARNING (R234). -/
def antState (s : State) (n : Nat) : BitVec 2 := if n = 0 then s.gnss.ant0 else s.gnss.ant1
def setAnt (n : Nat) (v : BitVec 2) (s : State) : State :=
  if antState s n = v then s
  else raise .warning 0x14 0x0004 [BitVec.ofNat 32 n, v.zeroExtend 32]
    { s with gnss := if n = 0 then { s.gnss with ant0 := v } else { s.gnss with ant1 := v } }

/-- Whether an antenna input is biased: no search starts while its claim is deferred (R234). -/
def biased (s : State) (n : Nat) : Bool := decide (antState s n = 1) || decide (antState s n = 2)

/-- Whether the baseband samples (R245). -/
def samples (s : State) : Bool := s.gnss.run && !s.gnss.clkFail

/-- Whether a pose is usable: VALID or SUBSTITUTED (R225, R240). -/
def poseUsable (s : State) : Bool := decide (s.core.ply.poseStatus = .valid) || decide (s.core.ply.poseStatus = .substituted)

/-- Number of an antenna. -/
def antOf (a : Bool) : Nat := if a then 1 else 0

/-- Whether a warm search is possible (R240): time and an almanac known, and a position, of which the spec does not say how the engine
judges its 100 km (log entry 3). -/
def warmSearch (s : State) : Bool × State :=
  if s.sun.known && !s.core.pos.almanac.isEmpty && s.core.pos.lastPos.isSome then nextBool s else (false, s)

/-- The satellite to be searched again that an engine takes: the oldest one on a biased antenna whose signal is enabled. -/
def wanted (s : State) : Option LostSat := s.gnss.lost.find? fun l => biased s (antOf l.ant) && bit s.gnss.cfg l.signal.toNat

/-- Whether a lost satellite has the aided window of R240. -/
def aidedWindow (s : State) (l : LostSat) : Bool :=
  l.coast || (decide (s.sun.time.toNat ≤ l.since.toNat + 10000000000) && poseUsable s)

/-- An idle engine takes a satellite, from the active lane's position engine, whose command path its gate opens (R14): one that tracking
has lost, or another, which of them the spec leaves to the position engine (log entry 3). -/
def engageEngine (e : Nat) (s : State) : State :=
  let l := searched s
  if (eng s e).busy || !samples s || !s.lanes.gate then s
  else match wanted s with
  | some x =>
    let (warm, s) := warmSearch s
    setEng e { busy := true, signal := x.signal, sv := x.sv, ant := x.ant, window := if aidedWindow s x then 2 else if warm then 1 else 0 }
      { s with gnss := { s.gnss with lost := s.gnss.lost.erase x } }
  | none =>
    if l.isEmpty || !(biased s 0 || biased s 1) then s
    else
      let (w, s) := nextFree s
      let (warm, s) := warmSearch s
      let ant := if biased s 0 && biased s 1 then bit w 31 else biased s 1
      setEng e { busy := true, signal := BitVec.ofNat 4 (l.getD (field w 7 0 % l.length) 0)
                 sv := BitVec.ofNat 8 (field w 15 8), ant := ant, window := if warm then 1 else 0 } s

/-- Every idle engine takes a satellite (R29, R234, R240). -/
def engageAll (s : State) : State := (List.range 32).foldl (fun s e => engageEngine e s) s

/-- The satellites that channels track, in their L1 band, go to be searched again as tracking stops (R240, R245). -/
def lostAll (s : State) : List LostSat :=
  s.gnss.lost ++ s.gnss.chans.filterMap fun e =>
    if e.2.state = 0 || !isL1 e.2.signal then none
    else some { signal := e.2.signal, sv := e.2.sv, ant := e.2.ant, since := s.sun.time, coast := false }

/-- Tracking and search stop: all channels IDLE (R245). -/
def baseStop (s : State) : State :=
  { s with gnss := { s.gnss with
    lost := lostAll s, chans := [], engines := [], aiding := false, aidAt := none, received := none, median := none } }

/-- The baseband starts, or restarts: all channels IDLE (R29, R245, R388). -/
def restartBaseband (s : State) : State := engageAll (baseStop s)

end Sys2Proof.Machine
end

