-- ==== Sys2Proof/Machine/Container.lean ====
section
/-! DEFINITION. Digests, and a cop as its bytes (R6, R165 to R168, R282, R288): header, section directory, the OUTPUTS records, SIGNATURE. -/
namespace Sys2Proof.Machine

/-! ### SHA-256 (R165, R168, R378; the function is FIPS 180-4's, log entry 95) -/

/-- Bytes as a number, most significant first, as SHA-256 takes them. -/
def bigEndian (l : List Byte) : Nat := l.foldl (fun n b => 256 * n + b.toNat) 0

/-- The round constants. -/
def shaK : List Word :=
  [0x428A2F98, 0x71374491, 0xB5C0FBCF, 0xE9B5DBA5, 0x3956C25B, 0x59F111F1, 0x923F82A4, 0xAB1C5ED5, 0xD807AA98, 0x12835B01, 0x243185BE,
    0x550C7DC3, 0x72BE5D74, 0x80DEB1FE, 0x9BDC06A7, 0xC19BF174, 0xE49B69C1, 0xEFBE4786, 0x0FC19DC6, 0x240CA1CC, 0x2DE92C6F, 0x4A7484AA]
  ++ [0x5CB0A9DC, 0x76F988DA, 0x983E5152, 0xA831C66D, 0xB00327C8, 0xBF597FC7, 0xC6E00BF3, 0xD5A79147, 0x06CA6351, 0x14292967, 0x27B70A85,
    0x2E1B2138, 0x4D2C6DFC, 0x53380D13, 0x650A7354, 0x766A0ABB, 0x81C2C92E, 0x92722C85, 0xA2BFE8A1, 0xA81A664B, 0xC24B8B70, 0xC76C51A3]
  ++ [0xD192E819, 0xD6990624, 0xF40E3585, 0x106AA070, 0x19A4C116, 0x1E376C08, 0x2748774C, 0x34B0BCB5, 0x391C0CB3, 0x4ED8AA4A, 0x5B9CCA4F,
    0x682E6FF3, 0x748F82EE, 0x78A5636F, 0x84C87814, 0x8CC70208, 0x90BEFFFA, 0xA4506CEB, 0xBEF9A3F7, 0xC67178F2]

/-- The eight working words. -/
structure Sha where
  a : Word
  b : Word
  c : Word
  d : Word
  e : Word
  f : Word
  g : Word
  h : Word

/-- The initial words. -/
def Sha.start : Sha :=
  ⟨0x6A09E667, 0xBB67AE85, 0x3C6EF372, 0xA54FF53A, 0x510E527F, 0x9B05688C, 0x1F83D9AB, 0x5BE0CD19⟩

/-- `n` more words of the message schedule, newest first. -/
def shaSchedule : Nat → List Word → List Word
  | 0, l => l
  | n + 1, l =>
    let w15 := l.getD 14 0
    let w2 := l.getD 1 0
    let s0 := w15.rotateRight 7 ^^^ w15.rotateRight 18 ^^^ (w15 >>> 3)
    let s1 := w2.rotateRight 17 ^^^ w2.rotateRight 19 ^^^ (w2 >>> 10)
    shaSchedule n ((l.getD 15 0 + s0 + l.getD 6 0 + s1) :: l)

/-- One round. -/
def Sha.round (x : Sha) (kw : Word × Word) : Sha :=
  let s1 := x.e.rotateRight 6 ^^^ x.e.rotateRight 11 ^^^ x.e.rotateRight 25
  let ch := (x.e &&& x.f) ^^^ (~~~x.e &&& x.g)
  let t1 := x.h + s1 + ch + kw.1 + kw.2
  let s0 := x.a.rotateRight 2 ^^^ x.a.rotateRight 13 ^^^ x.a.rotateRight 22
  let maj := (x.a &&& x.b) ^^^ (x.a &&& x.c) ^^^ (x.b &&& x.c)
  ⟨t1 + (s0 + maj), x.a, x.b, x.c, x.d + t1, x.e, x.f, x.g⟩

/-- One block of 64 bytes. -/
def Sha.block (x : Sha) (l : List Byte) : Sha :=
  let w := (List.range 16).map fun k => BitVec.ofNat 32 (bigEndian ((l.drop (4 * k)).take 4))
  let y := (List.zip shaK (shaSchedule 48 w.reverse).reverse).foldl Sha.round x
  ⟨x.a + y.a, x.b + y.b, x.c + y.c, x.d + y.d, x.e + y.e, x.f + y.f, x.g + y.g, x.h + y.h⟩

/-- `n` blocks. -/
def Sha.blocks : Nat → List Byte → Sha → Sha
  | 0, _, x => x
  | n + 1, l, x => Sha.blocks n (l.drop 64) (x.block (l.take 64))

/-- The SHA-256 digest of a list of bytes, its first byte in the most significant place. -/
def sha256 (l : List Byte) : BitVec 256 :=
  let n := l.length
  let m := l ++ 0x80 :: List.replicate ((119 - n % 64) % 64) 0 ++ (bytesOf 8 (8 * n)).reverse
  let x := Sha.blocks (m.length / 64) m Sha.start
  x.a ++ x.b ++ x.c ++ x.d ++ x.e ++ x.f ++ x.g ++ x.h

/-! ### Header and directory (R165, R166) -/

/-- `n` bytes at an offset, and as a number, least significant first (R6). -/
def slice (l : List Byte) (at_ n : Nat) : List Byte := (l.drop at_).take n
def leAt (l : List Byte) (at_ n : Nat) : Nat := ofBytes (slice l at_ n)

/-- Whether bytes are all zero. -/
def zeros (l : List Byte) : Bool := l.all fun b => decide (b = 0)

/-- A directory entry (R165). -/
structure DirEntry where
  type : Nat
  offset : Nat
  length : Nat
  records : Nat
  reserved : Bool            -- its reserved bytes are zero
  deriving DecidableEq, Repr

/-- The directory as the header gives it: SECTIONS entries from DIR_OFFSET on. -/
def directory (l : List Byte) : List DirEntry :=
  (List.range (leAt l 36 2)).map fun k =>
    let at_ := leAt l 40 4 + 16 * k
    { type := leAt l at_ 1, offset := leAt l (at_ + 4) 4, length := leAt l (at_ + 8) 4, records := leAt l (at_ + 12) 4
      reserved := zeros (slice l (at_ + 1) 3) }

/-- A section's bytes; none where the directory has no such type. -/
def sectionOf (l : List Byte) (type : Nat) : Option (List Byte) :=
  ((directory l).find? fun e => decide (e.type = type)).map fun e => slice l e.offset e.length

/-- Whether MAGIC, the reserved header bytes and TOTAL_LEN are right (0x0101). -/
def magicOk (l : List Byte) : Bool :=
  decide (64 ≤ l.length) && decide (leAt l 0 4 = 0x42504F43) && decide (leAt l 32 4 = l.length)
    && zeros (slice l 29 3) && zeros (slice l 38 2) && zeros (slice l 44 20)

/-- The digest and the (r, s) of SIGNATURE (R166). -/
def signatureOf (l : List Byte) : Option (BitVec 256 × List Byte) :=
  (sectionOf l 15).bind fun b => if b.length = 96 then some (BitVec.ofNat 256 (bigEndian (b.take 32)), b.drop 32) else none

/-- Whether the signature verifies against the cop key (R174). -/
def signatureOk (l : List Byte) (key : BitVec 520) : Bool :=
  match signatureOf l with
  | some g => Config.ecdsaVerifies key g.1 g.2
  | none => false

/-- Whether the digest in SIGNATURE is that of all bytes before it (0x0102). -/
def digestOk (l : List Byte) : Bool :=
  match (directory l).find? fun e => decide (e.type = 15), signatureOf l with
  | some e, some g => decide (sha256 (l.take e.offset) = g.1)
  | _, _ => false

/-- Section types of R166, and those that are mandatory. -/
def sectionTypes : List Nat := [1, 2, 3, 4, 5, 6, 7, 8, 9, 10, 11, 15]
def mandatory : List Nat := [1, 2, 3, 7, 15]

/-- Whether sections follow one another on 64 B boundaries from an offset on, SIGNATURE last, all within the cop (R165). -/
def inOrder (total : Nat) : Nat → List DirEntry → Bool
  | _, [] => true
  | from_, e :: r => decide (from_ ≤ e.offset) && decide (e.offset % 64 = 0) && decide (e.offset + e.length ≤ total) && e.reserved
      && (decide (e.type ≠ 15) || r.isEmpty) && inOrder total (e.offset + e.length) r

/-- Whether the directory is as R165 and R166 say (0x0106): 5 to 12 entries, within the cop and clear of the sections, every mandatory
type, none unknown or repeated, sections in order without overlap. -/
def sectionsOk (l : List Byte) : Bool :=
  let d := directory l
  let t := d.map (·.type)
  let lo := leAt l 40 4
  let hi := lo + 16 * d.length
  decide (5 ≤ d.length) && decide (d.length ≤ 12) && decide (64 ≤ lo) && decide (hi ≤ l.length)
    && (d.all fun e => decide (e.offset + e.length ≤ lo) || decide (hi ≤ e.offset))
    && (mandatory.all fun k => t.contains k) && (t.all fun k => sectionTypes.contains k) && decide (t.eraseDups = t)
    && inOrder l.length 64 d

/-- A signal index of the header: none with bit 31 set. -/
def headerSignal (l : List Byte) (at_ : Nat) : Option Nat := if 0x80000000 ≤ leAt l at_ 4 then none else some (leAt l at_ 4)

/-! ### OUTPUTS records (R167, R282, R288) -/

/-- Bit `n` of a number. -/
def natBit (v n : Nat) : Bool := decide (v / 2 ^ n % 2 = 1)

/-- Whether a record is a profile record: KIND 3 (R288). -/
def isProfile (b : List Byte) : Bool := decide (leAt b 2 1 = 3)

/-- An output's record from its 64 bytes (R167, R282); `odd` marks a KIND that contradicts CHANNEL, a code beyond its field's, or a
reserved byte that is not zero. -/
def outputOf (record : Nat) (b : List Byte) : OutDecl :=
  let ch := leAt b 0 2
  let isSol := natBit ch 15
  let kind := leAt b 2 1
  { chan := if isSol then .sol (ch % 256) else .lsw (ch % 256)
    kind := kind
    iNom := leAt b 4 4
    iInrush := leAt b 8 4 % 0x100000
    tInrush := leAt b 8 4 / 0x100000
    iPeak := leAt b 12 4 % 0x100000
    tPeak := leAt b 12 4 / 0x100000
    iHold := leAt b 16 4
    dutyMax := BitVec.ofNat 32 (leAt b 20 4)
    freq := leAt b 24 2
    neutral := decide (leAt b 26 1 ≠ 0)
    shutOn := decide (leAt b 27 1 ≠ 0)
    armOrder := leAt b 28 1
    shutOrder := leAt b 29 1
    deferMax := leAt b 30 2
    quenchFast := natBit (leAt b 3 1) 0
    r20 := leAt b 32 4
    coilTmax := leAt b 36 2
    record := record
    odd := decide (isSol ≠ decide (kind = 2)) || decide (2 < kind) || decide (1 < leAt b 26 1) || decide (1 < leAt b 27 1)
      || decide (1 < leAt b 3 1) || decide (ch % 0x8000 ≠ ch % 256) || (!isSol && (decide (leAt b 3 1 ≠ 0) || !zeros (slice b 32 6)))
      || !zeros (slice b 38 26) }

/-- A profile record from its 64 bytes (R288). -/
def profileRecord (record : Nat) (b : List Byte) : ProfileDecl :=
  { number := leAt b 0 2 % 0x8000
    peak := leAt b 4 4
    riseMaxUs := leAt b 8 4
    tPeakUs := leAt b 12 4
    hold := leAt b 16 4
    tHoldMs := leAt b 20 4
    stay := decide (leAt b 24 1 = 1)
    detect := natBit (leAt b 25 1) 0
    dip := leAt b 26 2
    tFallMaxUs := leAt b 28 4
    record := record
    odd := !natBit (leAt b 0 2) 15 || decide (1 < leAt b 24 1) || decide (1 < leAt b 25 1) || decide (leAt b 3 1 ≠ 0)
      || !zeros (slice b 32 32) }

/-- The records of a section of 64 B records, with their numbers. -/
def records64 (b : List Byte) : List (Nat × List Byte) :=
  (List.range (b.length / 64)).map fun k => (k, slice b (64 * k) 64)

/-! ### The cop that a slot's bytes hold -/

/-- A cop as the Distaff reads it from a slot: header, directory and OUTPUTS from the bytes; the records of the other sections, whose
fields the spec gives without their places in a record, as `c` brings them (log entry 7). -/
def readCop (l : List Byte) (c : Cop) : Cop :=
  let attr := leAt l 16 4
  let outs := records64 ((sectionOf l 7).getD [])
  { c with
    format := leAt l 4 2
    minIsa := leAt l 6 1
    sigdictFmt := leAt l 7 1
    copId := BitVec.ofNat 64 (leAt l 8 8)
    detRequest := natBit attr 0
    detStrict := natBit attr 1
    autoarm := natBit attr 2
    armOk := headerSignal l 20
    pauseOk := headerSignal l 24
    locks := BitVec.ofNat 5 (leAt l 28 1)
    sections := (directory l).map (·.type)
    outputs := (outs.filter fun r => !isProfile r.2).map fun r => outputOf r.1 r.2
    profiles := (outs.filter fun r => isProfile r.2).map fun r => profileRecord r.1 r.2 }

/-- Whether a section is long enough for `n` bytes of records; an absent one holds none. -/
def roomFor (l : List Byte) (type n : Nat) : Bool := decide (n ≤ ((sectionOf l type).map (·.length)).getD 0)

/-- Whether `c` can be what the bytes hold: as many records as their sections have bytes for (R166). -/
def fitsBytes (l : List Byte) (c : Cop) : Bool :=
  roomFor l 2 (128 * c.tasks.length) && decide (((sectionOf l 3).map (·.length)).getD 0 = 16 * c.signals.length)
    && decide (((sectionOf l 4).map (·.length)).getD 0 = 8 * c.bobbins.length)
    && roomFor l 5 (256 * c.loops.length + 64 * c.tables.length)
    && roomFor l 1 ((c.images.map fun i => 4 * (i.code.length + i.consts.length)).sum)

end Sys2Proof.Machine
end

