-- ==== Sys2Proof/Machine/Relay.lean ====
section
/-! DEFINITION. Manifests as their bytes spell them (R378, R379), what the relay holds of them (R382), and the update journal's step
(R383). -/
namespace Sys2Proof.Machine

/-! ### Update journal (R383) -/

/-- Codes of UPD_STAT.STEP. -/
def UpdStep.code : UpdStep → Nat
  | .none => 0
  | .receiving => 1
  | .verified => 2
  | .staged => 3
  | .switching => 4
  | .trial => 5
  | .committed => 6
  | .reverted => 7

/-- A journal step is written, with its EVENT (R383). -/
def setStep (st : UpdStep) (s : State) : State :=
  event 3 [BitVec.ofNat 32 st.code] { s with upd := { s.upd with step := st } }

/-! ### Manifests (R378, R379) -/

/-- Part code of the module (ID_DEVICE.PART), and bit of its issue, C, in ISSUES (R71, R378). -/
def patus : BitVec 16 := 0x5696
def issueBit : Nat := 2

/-- A digest in a list of bytes. -/
def digestAt (l : List Byte) (at_ : Nat) : BitVec 256 := BitVec.ofNat 256 (bigEndian (slice l at_ 32))

/-- MANIFEST_ID: the first 8 B of SHA-256 over the whole manifest, least significant byte first (R6, R381). -/
def manifestId (l : List Byte) : BitVec 64 :=
  let d := sha256 l
  BitVec.ofNat 64 (ofBytes ((List.range 8).map fun k => d.extractLsb' (248 - 8 * k) 8))

/-- Bytes that the signatures stand behind, and of the whole manifest, as its header counts them. -/
def signedBytes (l : List Byte) : Nat := 96 + 48 * leAt l 20 1 + 32 * leAt l 16 4
def manifestBytes (l : List Byte) : Nat := signedBytes l + (if zeros (slice l 24 65) then 64 else 128)

/-- Segments of a manifest, of 4 KiB each (R381). -/
def segmentsOf (l : List Byte) : Nat := (manifestBytes l + 4095) / 4096

/-- A part entry. -/
def partAt (l : List Byte) (k : Nat) : Part :=
  let at_ := 96 + 48 * k
  { type := leAt l at_ 1, format := leAt l (at_ + 1) 1, first := leAt l (at_ + 4) 4, length := leAt l (at_ + 8) 4
    digest := digestAt l (at_ + 16) }

/-- A manifest from its bytes: none where its length, MAGIC, version, FLAGS, reserved header bytes, CHUNKS, TRIAL_S or MANIFEST_ID is not as
R378 and R381 say (log entry 101). -/
def parseManifest (id : BitVec 64) (l : List Byte) : Option Manifest :=
  let secs := leAt l 10 2
  if 96 ≤ l.length && decide (l.length = manifestBytes l) && decide (l.length ≤ 2097152) && decide (leAt l 0 4 = 0x52594249)
      && decide (leAt l 4 1 = 1) && decide (leAt l 5 1 < 2) && zeros (slice l 21 3) && zeros (slice l 89 7) && decide (1 ≤ leAt l 16 4)
      && (decide (secs = 0) || (decide (10 ≤ secs) && decide (secs ≤ 3600))) && decide (manifestId l = id) then
    some {
      id := id, target := BitVec.ofNat 16 (leAt l 6 2), issues := BitVec.ofNat 8 (leAt l 8 1)
      hostConfirm := decide (leAt l 5 1 = 1), ckptFmt := leAt l 9 1, trialS := secs
      fw := BitVec.ofNat 31 (leAt l 12 4 / 2), chunks := leAt l 16 4
      parts := (List.range (leAt l 20 1)).map (partAt l)
      digests := (List.range (leAt l 16 4)).map fun k => digestAt l (96 + 48 * leAt l 20 1 + 32 * k)
      mfrKey := BitVec.ofNat 520 (bigEndian (slice l 24 65)), segments := segmentsOf l }
  else none

/-- Whether the signatures of a manifest verify: ERJOR_SIG under the Erjor root, and MFR_SIG under MFR_KEY where it carries one (R378,
R382). -/
def manifestSigned (l : List Byte) (m : Manifest) : Bool :=
  let n := signedBytes l
  Config.ecdsaVerifies Config.erjorRoot (sha256 (l.take n)) (slice l n 64)
    && (decide (m.mfrKey = 0) || Config.ecdsaVerifies m.mfrKey (sha256 (l.take (n + 64))) (slice l (n + 64) 64))

/-- Whether a chunk is the one that a manifest lists (R382). -/
def Manifest.lists (m : Manifest) (index : Nat) (bytes : List Byte) : Bool :=
  match m.digests[index]? with
  | some d => decide (sha256 bytes = d)
  | none => false

/-- Whether a part, as its chunks hold it, matches its digest (R378, R384): it starts on a chunk and runs over the chunks that follow. -/
def partMatches (chunks : SMap (List Byte)) (p : Part) : Bool :=
  let n := (p.length + 4095) / 4096
  let bytes := (List.range n).flatMap fun k => SMap.get chunks [] (p.first + k)
  decide (p.length ≤ bytes.length) && decide (sha256 (bytes.take p.length) = p.digest)

/-! ### What the relay holds (R382) -/

/-- A manifest's entry in the relay. -/
def relayOf (s : State) (id : BitVec 64) : Option Relay := s.upd.relays.find? fun r => decide (r.id = id)
def setRelay (r : Relay) (s : State) : State :=
  let l := s.upd.relays
  let l := if l.any fun x => decide (x.id = r.id) then l.map fun x => if x.id = r.id then r else x else l ++ [r]
  { s with upd := { s.upd with relays := l } }
def dropRelay (id : BitVec 64) (s : State) : State :=
  { s with upd := { s.upd with
    relays := s.upd.relays.filter fun r => decide (r.id ≠ id), bursts := s.upd.bursts.filter fun b => decide (b.id ≠ id) } }

/-- The bytes of a manifest that is wholly held. -/
def Relay.bytes (r : Relay) : Option (List Byte) :=
  match SMap.find r.segs 0 with
  | none => none
  | some h =>
    let n := segmentsOf h
    if (List.range n).all fun k => (SMap.find r.segs k).isSome then
      some (((List.range n).flatMap fun k => SMap.get r.segs [] k).take (manifestBytes h))
    else none

/-- The set in flight is VERIFIED once every chunk is stored (R383). -/
def completeSet (s : State) : State :=
  match s.upd.step, s.upd.man with
  | .receiving, some m =>
    if decide (m.chunks ≤ s.upd.held.length) && !s.upd.bursts.any fun b => decide (b.id = m.id) && !b.segment then setStep .verified s
    else s
  | _, _ => s

/-- A burst of the update engine is admitted: its chunk or segment is stored and acknowledged upstream (R382). -/
def burstDone (n : Nat) (s : State) : State :=
  match s.upd.bursts.find? fun b => decide (b.n = n) with
  | some b =>
    completeSet (send (.ibyarAck b.id b.index b.segment)
      { s with upd := { s.upd with bursts := s.upd.bursts.filter fun b => decide (b.n ≠ n) } })
  | none => s

/-- A burst that will not be programmed: its chunk or segment is not held, so it is requested again (R382). -/
def loseBurst (s : State) (b : Burst) : State :=
  let mine := !b.segment && decide (s.upd.man.map Manifest.id = some b.id)
  let s := { s with upd := { s.upd with
    bursts := s.upd.bursts.filter fun c => decide (c.n ≠ b.n)
    held := if mine then s.upd.held.filter fun k => decide (k ≠ b.index) else s.upd.held } }
  match relayOf s b.id with
  | some r =>
    setRelay (if b.segment then { r with segs := SMap.drop r.segs b.index } else { r with chunks := SMap.drop r.chunks b.index }) s
  | none => s

/-- Every burst of the update engine that waits is lost: with its lane (R264), or with power. -/
def loseBursts (s : State) : State := s.upd.bursts.foldl loseBurst s

end Sys2Proof.Machine
end

