-- ==== Sys2Proof/Machine/Loads.lean ====
section
/-! DEFINITION. Loads behind the Tally: what an admitted claim switches on, how a command becomes a claim, and how channels are
switched off (R255 to R260, R268 to R278, R283 to R298). -/
namespace Sys2Proof.Machine

/-! ### Channels -/

def lsw (s : State) (n : Nat) : Lsw := SMap.get s.outs.lsw {} n
def setLsw (n : Nat) (x : Lsw) (s : State) : State :=
  { s with outs := { s.outs with lsw := SMap.put s.outs.lsw {} n x } }
def sol (s : State) (n : Nat) : Sol := SMap.get s.outs.sol {} n
def setSol (n : Nat) (x : Sol) (s : State) : State :=
  { s with outs := { s.outs with sol := SMap.put s.outs.sol {} n x } }

/-- The declaration a channel is driven by: the running cop's, else the last validated cop's (R32, R277). -/
def chanDecl (s : State) (c : Chan) : Option OutDecl :=
  match outDecl (cop s) c with
  | some d => some d
  | none => s.store.lastValid.bind fun l => outDecl l c

/-- Whether a bank is off: under-voltage or over-voltage, and for solenoid groups a PGND offset (R274, R296, R412, R416). -/
def bankDown (s : State) (b : Nat) : Bool := bit s.outs.uv b || bit s.sys.ov b
def groupDown (s : State) (c : Nat) : Bool := bankDown s (c / 8) || s.sys.pgnd

/-- Class figures of a load switch by its place in the bank (R266), in mA: rating, least and greatest current limit. -/
def lswRating (n : Nat) : Nat := if n % 12 = 0 then 20000 else if n % 12 < 4 then 8000 else 2500
def lswLimit (n : Nat) : Nat := if n % 12 = 0 then 54000 else if n % 12 < 4 then 22000 else 9000
def lswLimitMax (n : Nat) : Nat := if n % 12 = 0 then 66000 else if n % 12 < 4 then 28000 else 11000

/-- Whether a load switch is in current limit now: its limit engaged no longer ago than a trip takes at most (R268); a limit that engaged
before and did not trip has released (log entry 100). -/
def inLimit (s : State) (x : Lsw) : Bool :=
  match x.limit with
  | some l => decide (s.sun.time.toNat ≤ l.toNat + 200000)
  | none => false

/-- Whether device time stands on the start of a PWM period of `freq` Hz, shifted by `quarter` quarter-periods: the first ns at or after a
multiple of the period, and the shift (R276, R283). -/
def periodStart (s : State) (freq quarter : Nat) : Bool :=
  decide ((4 * s.sun.time.toNat * freq + 4000000000 - quarter * 1000000000) % 4000000000 < 4 * freq)

/-- Retries consumed in the last 10 s of SYS_ON_TIME (R270). -/
def retryCount (s : State) (x : Lsw) : Nat :=
  (x.retries.filter fun t => decide (s.sys.onTime.toNat < t.toNat + 10000000)).length

/-- LSW_RETRY_MAX of a channel's bank (R279). -/
def retryMax (s : State) (n : Nat) : Nat := field s.outs.retryMax (4 * (n / 12) + 3) (4 * (n / 12))

/-- Whether a channel waits out a back-off or a latch or is EXHAUSTED, so that its commands submit no claim (R272). -/
def lswWaiting (x : Lsw) : Bool := x.backoff.isSome || x.therm || x.exh

/-- Phases in which a profile runs, a waiting peak among them (R287). -/
def profileRuns (x : Sol) : Bool :=
  match x.phase with
  | .rise | .peak | .fall | .hold | .groupQ => true
  | .tallyQ => x.peakWait
  | _ => false

/-- Whether a solenoid channel conducts: in a running phase, or at its previous current while a claim waits (R257, R299). -/
def solOn (x : Sol) : Bool :=
  match x.phase with
  | .off => false
  | .groupQ | .tallyQ => decide (x.prevPhase = .cur)
  | _ => true

/-- The profile a channel names, with its clamps to the channel's declared figures (R288). -/
def profileOf (s : State) (n : Nat) : Option ProfileDecl := (cop s).profiles.find? fun p => decide (p.number = n)
def clampedPeak (d : OutDecl) (p : ProfileDecl) : Nat := min p.peak d.iPeak
def clampedTime (d : OutDecl) (p : ProfileDecl) : Nat := min p.tPeakUs (d.tPeak * 100)
def clampedHold (d : OutDecl) (p : ProfileDecl) : Nat := min p.hold d.iHold
def wasClamped (d : OutDecl) (p : ProfileDecl) : Bool :=
  decide (d.iPeak < p.peak) || decide (d.tPeak * 100 < p.tPeakUs) || decide (d.iHold < p.hold)

/-! ### What an admission does -/

/-- A load switch's claim is admitted: the switch turns on; a restart consumes its retry (R270). -/
def lswAdmitted (n : Nat) (s : State) : State :=
  let x := lsw s n
  setLsw n { x with
    on := true, pin := true, restartDue := false, trip := false, limit := none
    retries := if x.restartDue then
        s.sys.onTime :: x.retries.filter fun t => decide (s.sys.onTime.toNat < t.toNat + 10000000)
      else x.retries } s

/-- A peak is admitted: RISE starts and the group is peak-busy (R289, R291). -/
def peakAdmitted (n : Nat) (s : State) : State :=
  let x := sol s n
  let s := { s with outs := { s.outs with busy := setBit s.outs.busy (n / 4) true } }
  match chanDecl s (.sol n), profileOf s x.asked.toNat with
  | some d, some p =>
    setSol n { x with
      profile := x.asked, phase := .rise, peakWait := false, admittedAt := s.sun.time, since := s.sun.time, clamp := wasClamped d p
      peak := clampedPeak d p, peakNs := clampedTime d p * 1000, holdMa := clampedHold d p
      setpoint := clampedPeak d p, moved := false, move := if p.detect then 0xFFFF else x.move } s
  | _, _ => s

/-- A regulation claim is admitted: the channel conducts from its next period start (R283, R285). -/
def curAdmitted (n : Nat) (s : State) : State :=
  let x := sol s n
  setSol n { x with phase := .cur, since := s.sun.time } s

/-- An antenna bias is admitted: the input is on and the search starts (R234), and for ANT0 the time to first fix runs from here (R247). -/
def antAdmitted (n : Nat) (s : State) : State :=
  let s := engageAll (setAnt n 1 s)
  if n = 0 then { s with core := { s.core with pos := { s.core.pos with searchFrom := some s.sun.time } } } else s

/-- A wake claim is admitted: a switch-over's wake starts (R312), or at a handover's boundary the other lane rises to FULL (R260, R302, R387). -/
def wakeAdmit (l : Lane) (s : State) : State :=
  match s.lanes.switch with
  | some w => { s with lanes := { s.lanes with switch := some { w with wakeAdmitted := true } } }
  | none =>
    let x := lane s l
    if x.state = .updating || x.state = .waking then setLane l { x with mgmt := false, clocks := true } s else s

/-- The claim of a lane at the MANAGEMENT grade is admitted: an UPDATING lane starts its clocks (R259, R387). -/
def mgmtAdmit (l : Lane) (s : State) : State :=
  let x := lane s l
  if x.state = .updating then setLane l { x with clocks := true } s else s

/-- The claim of a lane at the FULL grade is admitted: a lane under test starts its clocks (R259, R260). -/
def runAdmit (l : Lane) (s : State) : State :=
  let x := lane s l
  if x.state = .waking then setLane l { x with clocks := true } s else s

/-- What an admitted claim does to its load. -/
def onAdmitted (o : Owner) (s : State) : State :=
  match o with
  | .chan (.lsw n) => lswAdmitted n s
  | .chan (.sol n) => if (sol s n).peakWait then peakAdmitted n s else curAdmitted n s
  | .wake l => wakeAdmit l s
  | .mgmt l => mgmtAdmit l s
  | .run l => runAdmit l s
  | .flash who n => if who = 1 then burstDone n s else s
  | .antenna n => antAdmitted n s
  | .port n =>
    let x := SMap.get s.inputs.sensor {} n
    { s with inputs := { s.inputs with sensor := SMap.put s.inputs.sensor {} n { x with power := true, short := false } } }
  | .sup n => { s with inputs := { s.inputs with
      supOn := setBit s.inputs.supOn n true, supFault := setBit s.inputs.supFault n false
      supYoung := setBit s.inputs.supYoung n true, supAt := SMap.insert s.inputs.supAt n s.sun.time } }
  | _ => s

/-- What a refusal does to its load: the channel stays off or at its previous current (R258). -/
def onRefused (o : Owner) (s : State) : State :=
  match o with
  | .chan (.lsw n) => setLsw n { lsw s n with restartDue := false } s
  | .chan (.sol n) =>
    let x := sol s n
    setSol n { x with phase := x.prevPhase, peakWait := false } s
  | .panel => { s with panel := { s.panel with railClaim := false } }
  | _ => s

/-- A claim is submitted (R256 to R258): admitted where it fits and nothing is queued before it, in the place of the owner's own
queued claim where one waits, refused where the queue is full, else queued. During hold-up it is discarded (R261). -/
def submit (k : Nat) (c : Claim) (s : State) : State :=
  if s.sys.holdupRun then onRefused c.owner s
  else if waits s k c.owner then replaceQueued k c s
  else if (ledger s k).queue.isEmpty && fits s k c then onAdmitted c.owner (enter k c s)
  else if 32 ≤ (ledger s k).queue.length then onRefused c.owner (recordRefusal k c.owner s)
  else enqueue k c s

/-! ### Flash bursts (R169, R259, R372, R406) -/

/-- Asks for the flash burst that the work of `who` needs; `cur` is one it waits for already. Answers whether it is admitted, else the one
to wait for (none where the Tally refused it). -/
def burst (who : Nat) (cur : Option Nat) (s : State) : Bool × Option Nat × State :=
  match cur with
  | some n => (!waits s 4 (.flash who n), if waits s 4 (.flash who n) then some n else none, s)
  | none =>
    let n := s.tally.bursts
    let s := submit 4 (flashClaim who n) { s with tally := { s.tally with bursts := n + 1 } }
    (holds s 4 (.flash who n), if waits s 4 (.flash who n) then some n else none, s)

/-- A flash burst of the update engine for a chunk or a segment (R259, R382): acknowledged upstream once it is admitted, lost where the Tally
refuses it. -/
def relayBurst (id : BitVec 64) (index : Nat) (segment : Bool) (s : State) : State :=
  let b : Burst := { n := s.tally.bursts, id := id, index := index, segment := segment }
  let s := submit 4 (flashClaim 1 b.n)
    { s with tally := { s.tally with bursts := b.n + 1 }, upd := { s.upd with bursts := s.upd.bursts ++ [b] } }
  if holds s 4 (.flash 1 b.n) || waits s 4 (.flash 1 b.n) then s else loseBurst s b

/-! ### Solenoid group queue (R291) -/

/-- Whether a group can take a peak: not peak-busy, and no peak of it waits. -/
def groupFree (s : State) (g : Nat) : Bool :=
  !bit s.outs.busy g && (SMap.get s.outs.groupQ [] g).isEmpty
    && !(List.range 4).any fun i => decide ((sol s (4 * g + i)).phase = .tallyQ) && (sol s (4 * g + i)).peakWait

/-- A channel's peak claim goes to the Tally. -/
def submitPeak (n : Nat) (s : State) : State :=
  match chanDecl s (.sol n) with
  | some d =>
    let x := sol s n
    submit (n / 8) (solPeakClaim d) (setSol n { x with phase := .tallyQ, peakWait := true } s)
  | none => s

/-- While its group can take a peak, the head of the group queue submits its claim (R291); a head refused at once lets the next
move up, and a queue holds at most three. -/
def pumpGroup (g : Nat) : Nat → State → State
  | 0, s => s
  | fuel + 1, s =>
    match SMap.get s.outs.groupQ [] g with
    | n :: r =>
      if groupDown s n then s
      else
        let s' := { s with outs := { s.outs with groupQ := SMap.put s.outs.groupQ [] g r } }
        if !bit s.outs.busy g
            && !(List.range 4).any fun i => decide ((sol s (4 * g + i)).phase = .tallyQ) && (sol s (4 * g + i)).peakWait then
          pumpGroup g fuel (submitPeak n s')
        else s
    | [] => s

/-- The group stops being peak-busy where this channel made it so. -/
def endBusy (n : Nat) (s : State) : State :=
  match (sol s n).phase with
  | .rise | .peak => { s with outs := { s.outs with busy := setBit s.outs.busy (n / 4) false } }
  | _ => s

/-! ### Switching off -/

/-- A load switch turns off and its claim returns (R255, R263). -/
def lswOff (n : Nat) (s : State) : State :=
  let k := n / 12
  let x := lsw s n
  unqueue k (.chan (.lsw n)) (giveBack k (.chan (.lsw n))
    (setLsw n { x with on := false, pin := false, limit := none, restartDue := false, applied := 0, current := 0 } s))

/-- A solenoid channel turns off: a profile or a waiting peak is abandoned, its claims return, and its group goes on (R286). -/
def solOff (n : Nat) (s : State) : State :=
  let k := n / 8
  let g := n / 4
  let s := endBusy n s
  let x := sol s n
  let s := setSol n { x with
    phase := .off, prevPhase := .off, peakWait := false, setpoint := 0, nextSet := none, measured := 0 } s
  let s := { s with outs := { s.outs with
    groupQ := SMap.put s.outs.groupQ [] g ((SMap.get s.outs.groupQ [] g).filter fun m => decide (m ≠ n)) } }
  pumpGroup g 4 (unqueue k (.chan (.sol n)) (giveBack k (.chan (.sol n)) s))

/-- A NEUTRAL channel abandons any profile and ramps to 0 A (R297). -/
def solNeutral (n : Nat) (s : State) : State :=
  let k := n / 8
  let g := n / 4
  let x := sol s n
  if x.phase = .off then s
  else
    let s := endBusy n s
    let s := setSol n { x with phase := .neutral, prevPhase := .off, peakWait := false, nextSet := none, since := s.sun.time } s
    let s := { s with outs := { s.outs with
      groupQ := SMap.put s.outs.groupQ [] g ((SMap.get s.outs.groupQ [] g).filter fun m => decide (m ≠ n)) } }
    unqueue k (.chan (.sol n)) s

/-- Whether a channel's gap state is NEUTRAL (R297, R299). -/
def isNeutral (s : State) (n : Nat) : Bool := bit s.outs.gap.vote n

/-! ### Switching on -/

/-- A load switch's command is on: unless it waits, is exhausted, conducts already or its bank is off, a claim goes to the Tally
(R272, R275). -/
def lswClaimOn (n : Nat) (s : State) : State :=
  let x := lsw s n
  match chanDecl s (.lsw n) with
  | none => s
  | some d =>
    if lswWaiting x || x.on || bankDown s (n / 12) || waits s (n / 12) (.chan (.lsw n)) then s
    else submit (n / 12) (lswClaim d) s

/-- A restart after a trip or a latch: its claim consumes a retry when it is admitted (R270). -/
def lswRestart (n : Nat) (s : State) : State :=
  lswClaimOn n (setLsw n { lsw s n with restartDue := true } s)

/-- A channel becomes EXHAUSTED (R271). -/
def lswExhaust (n : Nat) (s : State) : State :=
  raise .error 0x05 0x0004 [BitVec.ofNat 32 n] (setLsw n { lsw s n with exh := true, backoff := none } s)

/-- A trip, or what counts as one (R268, R270, R271, R274): off, counted, recorded, and a back-off of 100 ms × 2^n or
exhaustion. -/
def lswTripNow (n : Nat) (s : State) : State :=
  let s := lswOff n s
  let x := lsw s n
  let c := retryCount s x
  let s := raise .warning 0x05 0x0014 [BitVec.ofNat 32 n] (bump 0x00050014 n (setLsw n { x with trip := true } s))
  if retryMax s n ≤ c then lswExhaust n s
  else
    let x := lsw s n
    setLsw n { x with backoff := some (s.sys.onTime + BitVec.ofNat 64 (100000 * 2 ^ c)) } s

/-- A channel submits its hold claim, or is refused (R285); a command that replaces the claim keeps this instant (R258). -/
def solClaimHold (n : Nat) (s : State) : State :=
  match chanDecl s (.sol n) with
  | some d =>
    let x := sol s n
    submit (n / 8) (solHoldClaim d) (setSol n { x with phase := .tallyQ, prevPhase := .off, peakWait := false, arrived := s.sun.time } s)
  | none => s

/-! ### Banks (R274, R275, R296) -/

/-- The solenoid side of a bank going off (R296): profiles are abandoned, queued peaks refused (R258, R292), and what was in CUR
regulation resumes at the restart. -/
def solBankOff (n : Nat) (s : State) : State :=
  let x := sol s n
  if x.phase = .off then s else
  let waiting := decide (x.phase = .groupQ) || (decide (x.phase = .tallyQ) && x.peakWait)
  let s := if waiting && decide (x.phase = .tallyQ) then recordRefusal (n / 8) (.chan (.sol n)) s else s
  let s := if waiting then
      raise .error 0x06 0x001C [chanWord (.sol n), BitVec.ofNat 32 (n / 4),
        BitVec.ofNat 32 (s.sun.time.toNat - x.arrived.toNat)] (bump 0x0006001C n s)
    else s
  let cur := decide (x.phase = .cur) || (decide (x.phase = .tallyQ) && !x.peakWait)
      || (waiting && decide (x.prevPhase = .cur))
  let ran := match x.phase with
    | .rise | .peak | .fall | .hold => true
    | _ => false
  let keep := x.nextSet.getD x.setpoint
  let s := solOff n s
  let y := sol s n
  if cur then setSol n { y with wasCur := decide (keep ≠ 0), resume := keep } s
  else setSol n { y with wasCur := false, resume := 0, uv := y.uv || ran || waiting } s

/-- Every channel of a bank turns off (R274, R412); `trips` says that a load switch in current limit counts as tripped. -/
def bankOff (b : Nat) (trips : Bool) (s : State) : State :=
  let s := (List.range 12).foldl (fun s i =>
    let n := 12 * b + i
    if trips && inLimit s (lsw s n) then lswTripNow n s else lswOff n s) s
  (List.range 8).foldl (fun s i => solBankOff (8 * b + i) s) s

/-- A channel's claim at the restart of its bank (R275, R296). -/
def restartChan (c : Chan) (s : State) : State :=
  match c with
  | .lsw n => if (lsw s n).cmd then lswClaimOn n s else s
  | .sol n =>
    let x := sol s n
    if x.wasCur && decide (x.phase = .off) then
      solClaimHold n (setSol n { x with wasCur := false, nextSet := some x.resume } s)
    else s

/-- Declared channels of a bank in ARM_ORDER, and of everything in SHUT_ORDER (R35, R38, R275). -/
def armOrder (c : Cop) (b : Nat) : List Chan :=
  (sortBy (fun p q => p.armOrder ≤ q.armOrder) (c.outputs.filter fun d => decide (bankOf d.chan = b))).map (·.chan)
def shutOrder (c : Cop) : List OutDecl := sortBy (fun p q => p.shutOrder ≤ q.shutOrder) c.outputs

/-- The cop whose declarations order a bank's restart or a shutdown: the running one, else the last validated one (R32). -/
def orderCop (s : State) : Cop := s.store.running.getD (s.store.lastValid.getD {})

/-- A bank that is no longer off restarts: claims in ARM_ORDER, then the group queues (R275, R296). -/
def bankRestart (b : Nat) (s : State) : State :=
  if bankDown s b then s
  else
    let s := (armOrder (orderCop s) b).foldl (fun s c => restartChan c s) s
    pumpGroup (2 * b + 1) 4 (pumpGroup (2 * b) 4 s)

/-! ### Gap, shutdown, everything off (R278, R297, R298, R414) -/

/-- A solenoid channel as a gap begins: what waits goes back to the state before it, and a NEUTRAL channel ramps where that is asked. -/
def gapSol (neutral : Bool) (n : Nat) (s : State) : State :=
  let x := sol s n
  let s := match x.phase with
    | .groupQ | .tallyQ => setSol n { x with phase := x.prevPhase, peakWait := false } s
    | _ => s
  if neutral && isNeutral s n then solNeutral n s else s

/-- A load switch as a gap begins: a conducting one is held. A restart whose claim was queued is discarded with it (R264); one that waits
for its bank still consumes its retry (R275). -/
def gapLsw (n : Nat) (s : State) : State :=
  let x := lsw s n
  setLsw n { x with src := if x.on then .held else x.src, restartDue := x.restartDue && bankDown s (n / 12) } s

/-- What the closing of the gate does to outputs (R278, R297, R264): pins are held, NEUTRAL channels ramp, and what the failed lane
had queued, its flash bursts among it, is discarded and counted. -/
def gapOutputs (neutral : Bool) (s : State) : State :=
  let inGroups := ((List.range 32).filter fun n => decide ((sol s n).phase = .groupQ)).length
  let s := (List.range 5).foldl (fun s k => discardQueued k s) (bumps 0x00040048 0 inGroups s)
  let s := loseBursts { s with store := { s.store with burst := none } }
  let s := { s with outs := { s.outs with groupQ := [], laneQuiet := some s.sun.time } }
  let s := (List.range 32).foldl (fun s n => gapSol neutral n s) s
  (List.range 48).foldl (fun s n => gapLsw n s) s

/-- One declared channel goes to its shutdown state (R37, R38, R276, R298). -/
def shutChan (d : OutDecl) (s : State) : State :=
  match d.chan with
  | .lsw n =>
    let x := lsw s n
    if d.shutOn then
      lswClaimOn n (setLsw n (if d.pwm then { x with
        cmd := true, src := .lanePwm, duty := BitVec.ofInt 11 (roundDiv d.dutyMax.toNat 2097152) } else { x with cmd := true }) s)
    else lswOff n (setLsw n { x with cmd := false, duty := 0 } s)
  | .sol n => if isNeutral s n then solNeutral n s else solOff n s

/-- Outputs go to their declared shutdown states in SHUT_ORDER (R37, R38); with LKO failed the dies keep their last states (R21). -/
def shutDeclared (s : State) : State :=
  if s.clock.lkoFail then s else (shutOrder (orderCop s)).foldl (fun s d => shutChan d s) s

/-- Every load switch off, and every solenoid channel. -/
def allOff (s : State) : State :=
  (List.range 32).foldl (fun s n => solOff n s)
    ((List.range 48).foldl (fun s n => lswOff n (setLsw n { lsw s n with cmd := false } s)) s)

/-- Held outputs are switched off in the shutdown order of the last validated cop, else in ascending number (R32, R298); with LKO failed
the dies keep their last states (R21). -/
def switchOffHeld (s : State) : State :=
  if s.clock.lkoFail then s
  else
  let s := (shutOrder (s.store.lastValid.getD {})).foldl (fun s d => match d.chan with
    | .lsw n => lswOff n (setLsw n { lsw s n with cmd := false } s)
    | .sol n => if isNeutral s n then solNeutral n s else solOff n s) s
  (List.range 32).foldl (fun s n => if decide ((sol s n).phase = .neutral) then s else solOff n s)
    ((List.range 48).foldl (fun s n => lswOff n (setLsw n { lsw s n with cmd := false } s)) s)

/-! ### Limp drive (R277) -/

/-- Whether a mapped channel follows its DIR input: in the hold, by AUTO with cause NO_LANE, or by LSW_LIMP.EN. -/
def limpChan (s : State) (n : Nat) : Bool :=
  bit (lsw s n).dirMap 4 && s.sys.hold && s.outs.limp
    && (s.outs.limpEn || (decide (s.sys.holdCause = 5) && bit (lsw s n).dirMap 5))

/-- A mapped channel takes the level of its DIR input: claimed at the first high level. -/
def limpFollow (n : Nat) (s : State) : State :=
  if !limpChan s n || s.clock.lkoFail then s
  else
    let x := lsw s n
    if bit s.outs.dir (field x.dirMap 3 0) then lswClaimOn n (setLsw n { x with cmd := true, src := .dir, pin := true } s)
    else lswOff n (setLsw n { x with cmd := false, src := .dir } s)

/-- Limp drive starts. -/
def limpStart (s : State) : State :=
  (List.range 48).foldl (fun s n => limpFollow n s) { s with outs := { s.outs with limp := true } }

/-- Limp drive ends: EN clears, and what DIR inputs drove goes off. -/
def limpEnd (s : State) : State :=
  if !s.outs.limp then s
  else
    let s := (List.range 48).foldl (fun s n =>
      if limpChan s n && !s.clock.lkoFail then lswOff n (setLsw n { lsw s n with cmd := false, src := .lane } s) else s) s
    { s with outs := { s.outs with limp := false, limpEn := false } }

end Sys2Proof.Machine
end

