-- ==== Sys2Proof/Machine/Sundial.lean ====
section
/-! DEFINITION. The Sundial (R323 to R331): its start, its states, offsets from GNSS time, steps, PPS, the real-time clock,
leap seconds and gPTP. -/
namespace Sys2Proof.Machine

/-! ### States -/

/-- A whole second in ns. -/
def second : Nat := 1000000000

/-- Codes of SUN_STAT.STATE. -/
def SunState.code : SunState → Nat
  | .unset => 0
  | .locked => 1
  | .holdover => 2

/-- Whether TIM runs from its main PLL (R324). -/
def timMain (s : State) : Bool := decide (SMap.get s.clock.src .main 9 = .main)

/-- Growth of the error estimate in HOLDOVER: 50 ns/s, or 10 ms/s while INVALID (R328). -/
def errNow (s : State) : Nat :=
  let dt := s.sun.time.toNat - s.sun.holdAt.toNat
  s.sun.err0 + (if s.sun.invalid then dt / 100 else dt * 50 / second)

/-- SUN_ERR: no estimate before the first GNSS time, the present estimate while LOCKED, the growing one in HOLDOVER (R328,
R332). -/
def sunErr (s : State) : Word :=
  if !s.sun.hasErr then 0xFFFFFFFF
  else match s.sun.state with
    | .holdover => hold32 (errNow s)
    | .locked => hold32 s.sun.err0
    | .unset => 0xFFFFFFFF

/-- The Sundial starts at the REF step of a DAWN from power-off or MIDNIGHT: loaded from a valid real-time clock with KNOWN set,
else from 0 (R324). -/
def startSundial (s : State) : State :=
  if s.sun.run then s
  else
    { s with sun :=
      { ({} : Sundial) with
        run := true, time := if s.sun.rtcValid then s.sun.rtc else 0, known := s.sun.rtcValid
        rate := s.sun.storedRate, storedRate := s.sun.storedRate, taiUtc := s.sun.taiUtc
        leapAnn := s.sun.leapAnn, leapMjd := s.sun.leapMjd, rtcValid := s.sun.rtcValid, rtc := s.sun.rtc
        ppsCfg := s.sun.ppsCfg, ptpCfg := s.sun.ptpCfg, invalid := !timMain s } }

/-- HOLDOVER begins (R324, R328): the error grows from the estimate at entry. -/
def enterHoldover (s : State) : State :=
  { s with sun := { s.sun with state := .holdover, holdAt := s.sun.time, backSlew := false } }

/-- HOLDOVER on a loss of GNSS time (R324): only from LOCKED. -/
def loseGnss (s : State) : State := if s.sun.state = .locked then enterHoldover s else s

/-- INVALID is set: the estimate grows at the new rate from here (R324, R328). -/
def setInvalid (s : State) : State :=
  if s.sun.invalid then s
  else { s with sun := { s.sun with
    err0 := if s.sun.state = .holdover then errNow s else s.sun.err0, holdAt := s.sun.time, invalid := true } }

/-- LOCKED is entered with an offset (R324, R325): INVALID clears where TIM is on its main PLL; an offset above 1 ms becomes a
pending step, one below −1 ms is slewed back. KNOWN sets where no step has to come first. -/
def enterLocked (o : Int) (s : State) : State :=
  let step := decide (1000000 < o)
  { s with sun := { s.sun with
    state := .locked, invalid := s.sun.invalid && !timMain s, jumped := false, jumpOffsets := []
    pendingStep := if step then some o else none, stepArmed := false
    backSlew := decide (o < -1000000), known := s.sun.known || !step } }

/-- The correction that steers the counter and the error estimate while LOCKED: the spec bounds the slew and gives no value for
either (R325, R328; log entry 3). -/
def steer (s : State) : State :=
  let (r, s) := nextFree s
  let (e, s) := nextFree s
  { s with sun := { s.sun with rate := r, storedRate := r, err0 := e.toNat, hasErr := true } }

/-- An offset beyond ±1 ms while LOCKED is a time jump (R326). -/
def timeJump (o : Int) (s : State) : State :=
  raise .error 0x03 0x0010 [sat32 o]
    (enterHoldover { s with sun := { s.sun with jumped := true, jumpOffsets := [], pendingStep := none } })

/-- Whether 20 consecutive offsets agree within 1 µs (R326). -/
def offsetsAgree (l : List Int) : Bool :=
  decide (20 ≤ l.length) && l.all fun a => l.all fun b => decide (a - b ≤ 1000)

/-- The offset o measured at an epoch with usable GNSS time (R324 to R326). -/
def gnssOffset (o : Int) (s : State) : State :=
  let s := { s with sun := { s.sun with offset := sat32 o, lastUsable := some s.sun.time } }
  match s.sun.state with
  | .locked =>
    if s.sun.pendingStep.isSome then s
    else if s.sun.backSlew && decide (o < -1000000) then steer s
    else if decide (1000000 < o) || decide (o < -1000000) then timeJump o s
    else steer { s with sun := { s.sun with backSlew := false } }
  | _ =>
    if s.sun.jumped then
      let l := (o :: s.sun.jumpOffsets).take 20
      let s := { s with sun := { s.sun with jumpOffsets := l } }
      if offsetsAgree l then steer (enterLocked o s) else s
    else steer (enterLocked o s)

/-- An epoch without usable GNSS time breaks a run of consecutive offsets (R326). -/
def gnssNone (s : State) : State := { s with sun := { s.sun with jumpOffsets := [] } }

/-- SUNDIAL_GNSS_TIMEOUT: no usable GNSS time for 2 s takes LOCKED to HOLDOVER (R324). -/
def execSundialGnssTimeout (t : Time) (s : State) : Result :=
  let s := advanceTo t s
  .next <|
  match s.sun.lastUsable with
  | some l => if l.toNat + 2 * second ≤ s.sun.time.toNat then loseGnss s else s
  | none => s

/-! ### PPS and steps (R327, R330) -/

/-- SUN_PPS_CFG.WIDTH in ns, and the enables. -/
def ppsWidth (s : State) : Nat := field s.sun.ppsCfg 26 8 * 1000
def ppsEn (s : State) (pin : Nat) : Bool := bit s.sun.ppsCfg pin

/-- Whether device time stands on a whole second. -/
def onSecond (s : State) : Bool := decide (s.sun.time.toNat % second = 0)

/-- PPS_EDGE: at each whole second of the counter both enabled outputs rise, once (R48, R330); the STEP flag clears, and a pending
step may follow (R327). -/
def execPpsEdge (t : Time) (s : State) : Result :=
  let s := advanceTo t s
  .next <|
  if !s.sun.run || !onSecond s || decide (s.sun.lastPps = some s.sun.time) then s
  else { s with sun := { s.sun with
    pps0 := ppsEn s 0, pps1 := ppsEn s 1, ppsEnd := some (s.sun.time + BitVec.ofNat 64 (ppsWidth s))
    lastPps := some s.sun.time, stepFlag := false, stepArmed := s.sun.pendingStep.isSome } }

/-- PPS_PULSE_END: a pulse ends after WIDTH, or 1 µs before the next edge after a step (R327, R330). -/
def execPpsPulseEnd (t : Time) (pin : Bool) (s : State) : Result :=
  let s := advanceTo t s
  .next <|
  match s.sun.ppsEnd with
  | some e =>
    if s.sun.time < e then s
    else if pin then { s with sun := { s.sun with pps1 := false } }
    else { s with sun := { s.sun with pps0 := false } }
  | none => s

/-- o rounded to 10 ns (R327). -/
def round10 (o : Int) : Int := 10 * roundDiv o 10

/-- SUNDIAL_STEP: after the PPS edge for N the counter is set to N + o; the interval is flagged, counted and written as a NOTICE
with the counter before and after (R327, R331, R370). -/
def execSundialStep (t : Time) (s : State) : Result :=
  let s := advanceTo t s
  .next <|
  match s.sun.pendingStep with
  | none => s
  | some o =>
    if !s.sun.stepArmed || !onSecond s then s
    else
      let before := s.sun.time
      let after : Time := before + BitVec.ofInt 64 (round10 o)
      let next := (after.toNat / second + 1) * second
      let ends := s.sun.ppsEnd.map fun e => BitVec.ofNat 64 (min (after.toNat + (e.toNat - before.toNat)) (next - 1000))
      let s := { s with sun := { s.sun with
        time := after, pendingStep := none, stepArmed := false, stepFlag := true, known := true, ppsEnd := ends, stepSpan := some (before, after)
        lastPps := if after.toNat % second = 0 then some after else s.sun.lastPps
        tbi := s.sun.tbi + 1, gmPhase := round10 o } }
      raise .notice 0x03 0x0020 [lo32 before, hi32 before, lo32 after, hi32 after] (bump 0x00030020 0 s)

/-! ### Real-time clock and leap seconds (R324, R329) -/

/-- While LOCKED the real-time clock is written from the counter (R324); a failed one stays invalid (R319). -/
def saveRtc (s : State) : State :=
  if s.sun.state = .locked && !s.clock.rtcFail then { s with sun := { s.sun with rtc := s.sun.time, rtcValid := true } } else s

/-- RTC_UPDATE (R324). -/
def execRtcUpdate (t : Time) (s : State) : Result := .next (saveRtc (advanceTo t s))

/-- TAI − UTC after the announced leap second. -/
def utcAfterLeap (s : State) : BitVec 8 :=
  if s.sun.leapAnn = 1 then s.sun.taiUtc + 1 else if s.sun.leapAnn = 2 then s.sun.taiUtc - 1 else s.sun.taiUtc

/-- The device time at which the announced UTC day ends: the epoch day 0 is MJD 40587. -/
def leapInstant (s : State) : Nat :=
  ((s.sun.leapMjd.toNat + 1 - 40587) * 86400 + (utcAfterLeap s).toNat) * second

/-- LEAP_SECOND: SUN_UTC changes at the end of the announced UTC day; the counter does not (R329). -/
def execLeapSecond (t : Time) (s : State) : Result :=
  let s := advanceTo t s
  .next <|
  if s.sun.leapAnn = 0 || decide (s.sun.time.toNat < leapInstant s) then s
  else { s with sun := { s.sun with taiUtc := utcAfterLeap s, leapAnn := 0, leapMjd := 0 } }

/-! ### gPTP (R331) -/

/-- Whether the instance runs, and whether it sends Sync and Announce: LOCKED, or HOLDOVER without INVALID. -/
def ptpRuns (s : State) : Bool := s.sun.run && bit s.sun.ptpCfg 0 && netMain s
def ptpSends (s : State) : Bool := ptpRuns s && !s.sun.invalid && !decide (s.sun.state = .unset)

/-- GPTP_SYNC_SEND, with timeBaseIndicator and lastGmPhaseChange (R331). -/
def execGptpSyncSend (t : Time) (s : State) : Result :=
  let s := advanceTo t s
  .next (if ptpSends s then send (.gptpSync s.sun.time s.sun.tbi s.sun.gmPhase) s else s)

/-- GPTP_ANNOUNCE_SEND: clockClass 6 from GPS while LOCKED, 7 from the internal oscillator in HOLDOVER, with the priorities of SUN_PTP
(R331). -/
def execGptpAnnounceSend (t : Time) (s : State) : Result :=
  let s := advanceTo t s
  .next <|
  if !ptpSends s then s
  else
    let prio := fun (hi lo : Nat) => BitVec.ofNat 8 (field s.sun.ptpCfg hi lo)
    if s.sun.state = .locked then send (.gptpAnnounce 6 0x20 s.sun.taiUtc.toNat (prio 15 8) (prio 23 16)) s
    else send (.gptpAnnounce 7 0xA0 s.sun.taiUtc.toNat (prio 15 8) (prio 23 16)) s

/-- GPTP_PEER_DELAY: a peer delay is measured and requests are answered in every Sundial state (R331). -/
def execGptpPeerDelay (t : Time) (port : Fin 8) (delayNs : Nat) (s : State) : Result :=
  let s := advanceTo t s
  .next <|
  if ptpRuns s then
    send (.gptpPdelay port.val) { s with sun := { s.sun with pdelay := SMap.put s.sun.pdelay 0 port.val delayNs } }
  else s

/-- GPTP_ANNOUNCE_RECEIVED: ignored for the best master choice (R331). -/
def execGptpAnnounceReceived (t : Time) (_port : Fin 8) (_priority1 : Byte) (s : State) : Result :=
  .next (advanceTo t s)

end Sys2Proof.Machine
end

