-- ==== Sys2Proof/Machine/Gnss.lean ====
section
/-! DEFINITION. The GNSS baseband and the position engine (R232 to R252, R15). -/
namespace Sys2Proof.Machine

/-- Antenna biases are claimed where GNS_ANT enables them (R234, R259). -/
def claimBias (n : Nat) (s : State) : State :=
  if holds s 4 (.antenna n) || waits s 4 (.antenna n) then s else submit 4 (antennaClaim n) s

/-- A bias goes off and its claim returns; engines that searched on its antenna turn to the other (R234). -/
def dropBias (n : Nat) (v : BitVec 2) (s : State) : State :=
  let s := setAnt n v (unqueue 4 (.antenna n) (giveBack 4 (.antenna n) s))
  engageAll { s with gnss := { s.gnss with engines := s.gnss.engines.filter fun e => !(e.2.busy && decide (antOf e.2.ant = n)) } }

/-! ### Aiding (R15, R225, R241) -/

/-- The L1 Doppler scaled to a signal's band, rounded once (R241). -/
def scaleAid (c : BitVec 4) (v : Word) : Word :=
  let by_ := fun (num : Int) => if isNan v || isInf v then v
    else fOfRat (fMant v * num * ((2 ^ (fScale v).toNat : Nat) : Int)) (1575420 * 2 ^ (-(fScale v)).toNat)
  if !isL1 c then by_ 1176450 else if c = 4 then by_ 1561098 else v

/-- GNSS_AIDING_APPLY: the aiding received from the active lane's Ply drives the oscillators of the channels it names, excluded ones apart,
from its stamp on (R14, R225, R241, R242). -/
def execGnssAidingApply (t : Time) (s : State) : Result :=
  let s := advanceTo t s
  .next <|
  match s.gnss.received with
  | none => s
  | some (stamp, l) =>
    if !samples s || !s.lanes.gate then s
    else
      l.foldl (fun s e =>
        let x := gch s e.1
        if x.excl || decide (x.state = 0) then s
        else setGch e.1 { x with aid := scaleAid x.signal e.2, aided := true, aidNew := true } s)
        { s with gnss := { s.gnss with aidAt := some stamp, aiding := true, received := none } }

/-- GNSS_AIDING_TIMEOUT: 100 ms after the last aided update the held rate is dropped (R15). -/
def execGnssAidingTimeout (t : Time) (s : State) : Result :=
  let s := advanceTo t s
  .next <|
  match s.gnss.aidAt with
  | some a =>
    if s.gnss.aiding && decide (a.toNat + 100000000 ≤ s.sun.time.toNat) then
      (List.range 256).foldl (fun s n => let x := gch s n; setGch n { x with aid := 0, aided := false } s)
        { s with gnss := { s.gnss with aiding := false } }
    else s
  | none => s

/-! ### Measurement epochs and checks (R238, R242 to R244) -/

/-- A channel in TRACK latches its measurement (R238). -/
def latch (m : GnssMeas) (s : State) : State :=
  let x := gch s m.ch
  if x.state = 2 then
    setGch m.ch { x with
      pseudorange := m.pseudorange, codePhase := m.codePhase, carrier := m.carrier, doppler := m.doppler, cn0 := m.cn0, slip := m.slip
      resid := m.resid, elev := m.elev, cn0s := (m.cn0.toNat :: x.cn0s).take 20
      lockMs := hold32 ((s.sun.time.toNat - x.since.toNat) / 1000000) } s
  else s

/-- A channel is excluded by a check: a new exclusion counts and writes a WARNING, and its aiding ends (R225, R242). -/
def exclude (cause : Nat) (addr : Nat) (n : Nat) (s : State) : State :=
  let x := gch s n
  let s := setGch n { x with excl := true, exclAt := s.sun.time, cause := setBit x.cause cause true, aid := 0, aided := false } s
  if x.excl then s
  else raise .warning 0x14 (BitVec.ofNat 16 addr) [BitVec.ofNat 32 n, BitVec.ofNat 32 cause] (bump addr 0 s)

/-- Which satellite a channel tracks, on which antenna. -/
def satOf (x : GnssCh) : BitVec 4 × BitVec 8 × Bool := (x.signal, x.sv, x.ant)

/-- A channel whose residual jumped: SPOOF_SUSPECT, excluded and dropped to IDLE; its satellite is remembered and, in the L1 band, searched
again (R242). -/
def suspect (n : Nat) (s : State) : State :=
  let s := exclude 2 0x00140018 n s
  let x := gch s n
  let s := setGch n { x with suspect := true, suspectAt := some s.sun.time, state := 0 } s
  { s with gnss := { s.gnss with
    suspectSats := satOf x :: s.gnss.suspectSats.filter fun y => !decide (y = satOf x)
    lost := if isL1 x.signal then
        s.gnss.lost ++ [{ signal := x.signal, sv := x.sv, ant := x.ant, since := s.sun.time, coast := false }] else s.gnss.lost } }

/-- Channels in TRACK, and those flagged SPOOF_SUSPECT within the last second. -/
def tracking (s : State) : Nat := (s.gnss.chans.filter fun e => decide (e.2.state = 2)).length
def suspects (s : State) : Nat := (s.gnss.chans.filter fun e => match e.2.suspectAt with
  | some f => decide (s.sun.time.toNat ≤ f.toNat + second)
  | none => false).length

/-- Whether an instant lies within the last 10 s. -/
def within10s (s : State) : Option Time → Bool
  | some t => decide (s.sun.time.toNat ≤ t.toNat + 10 * second)
  | none => false

/-- SPOOF is set with an ERROR; GNSS time is unusable from here (R243, R324). -/
def setSpoof (s : State) : State :=
  if s.gnss.spoof then s
  else raise .error 0x14 0x0008 [] (loseGnss { s with gnss := { s.gnss with spoof := true } })

/-- The median; of an even number the mean of the two in the middle, down to whole mm (DEDUCED, log entry 99). -/
def medianOf (l : List Int) : Int :=
  let l := sortBy (fun a b => a ≤ b) l
  (l.getD ((l.length - 1) / 2) 0 + l.getD (l.length / 2) 0) / 2

/-- The measurements of channels in TRACK, the only ones an epoch has (R238). -/
def tracked (s : State) (l : List GnssMeas) : List GnssMeas := l.filter fun m => decide ((gch s m.ch).state = 2)

/-- Channels whose inter-frequency difference departs from the satellite's smoothed ionospheric estimate by more than 10 m (R242); how the
estimate is smoothed the spec does not say, so it is a free value in mm (log entry 3). -/
def ifreqFails (l : List GnssMeas) (s : State) : List Nat × State :=
  l.foldl (fun r a =>
    let x := gch r.2 a.ch
    match l.find? fun b => decide (l5Of x.signal = some (gch r.2 b.ch).signal) && decide ((gch r.2 b.ch).sv = x.sv)
        && decide ((gch r.2 b.ch).ant = x.ant) with
    | some b =>
      let (w, s) := nextFree r.2
      if 10000 < (b.pseudorange - a.pseudorange - w.toInt).natAbs then (r.1 ++ [a.ch, b.ch], s) else (r.1, s)
    | none => r) ([], s)

/-- The Doppler check of a channel (R242): while the pose is VALID, its count of aided updates off by more than DOP_TOL, scaled to its band.
An update is judged at the epoch that follows it (DEDUCED, log entry 99). -/
def dopplerCheck (m : GnssMeas) (s : State) : State :=
  let x := gch s m.ch
  if !x.aidNew then s
  else
    let tol := scaleAid x.signal (i2fInt (field s.gnss.cfg 15 10))
    let off := decide (s.core.ply.poseStatus = .valid) && flt tol (fabs (fsub m.doppler x.aid))
    setGch m.ch { x with aidNew := false, dopFails := if off then x.dopFails + 1 else 0 } s
def dopplerFails (l : List GnssMeas) (s : State) : List Nat := (l.map (·.ch)).filter fun n => decide (3 ≤ (gch s n).dopFails)

/-- Channels whose residual jumps: by more than 30 m against the median jump, or with the median residual, which jumps by more than 150 m
(R242; of such a common jump, channels that moved by more than 30 m have jumped: DEDUCED, log entry 99). -/
def clockFails (l : List GnssMeas) (s : State) : List Nat :=
  let jumps := l.filterMap fun m => match m.resid, (gch s m.ch).resid with
    | some r, some r0 => some (m.ch, r - r0)
    | _, _ => none
  let mid := medianOf (jumps.map (·.2))
  let common := match s.gnss.median with
    | some m0 => decide (150000 < (medianOf (l.filterMap (·.resid)) - m0).natAbs)
    | none => false
  (jumps.filter fun j => decide (30000 < (j.2 - mid).natAbs) || (common && decide (30000 < j.2.natAbs))).map (·.1)

/-- The C/N0 pattern of an antenna at this epoch (R242): at least six channels above 15°, their spread below 3 dB-Hz, or all of them risen by
more than 8 dB-Hz within 1 s. -/
def cn0High (s : State) (l : List GnssMeas) (ant : Bool) : List GnssMeas :=
  l.filter fun m => decide (1500 < m.elev) && decide ((gch s m.ch).ant = ant)
def cn0Flat (l : List Nat) : Bool := decide (6 ≤ l.length) && l.all fun a => l.all fun b => decide (a < b + 300)
def cn0Risen (s : State) (l : List GnssMeas) : Bool :=
  decide (6 ≤ l.length) && l.all fun m => (gch s m.ch).cn0s.any fun c => decide (c + 800 < m.cn0.toNat)

/-- Since when the spread of an antenna stays below 3 dB-Hz. -/
def watchFlat (l : List GnssMeas) (ant : Bool) (s : State) : State :=
  let m := s.gnss.cn0Since
  let m := if cn0Flat ((cn0High s l ant).map fun m => m.cn0.toNat) then SMap.insert m (antOf ant) ((SMap.find m (antOf ant)).getD s.sun.time)
    else SMap.drop m (antOf ant)
  { s with gnss := { s.gnss with cn0Since := m } }

/-- Whether a watched span has lasted. -/
def lasted (s : State) (m : SMap Time) (k ns : Nat) : Bool :=
  match SMap.find m k with
  | some t => passed s t ns
  | none => false

/-- Whether a path departs from its noise baseline, once that is learned (R242, R244). -/
def noisy (f : GnssFronts) (s : State) (k : Nat) : Bool :=
  match SMap.find s.gnss.base k with
  | some (a, n) => decide (1200 ≤ s.gnss.baseEpochs) && (decide (f.agc.getD k 0 + 600 < a) || decide (n + 300 < f.floor.getD k 0))
  | none => false

/-- Since when each path does so. -/
def watchNoise (f : GnssFronts) (s : State) : State :=
  (List.range 4).foldl (fun s k =>
    let m := s.gnss.badSince
    let m := if noisy f s k then SMap.insert m k ((SMap.find m k).getD s.sun.time) else SMap.drop m k
    { s with gnss := { s.gnss with badSince := m } }) s

/-- The baselines learn from an epoch: from each clean one of the first 60 s, then from 1 in 64 while JAM is clear (R18, R244). -/
def learnNoise (f : GnssFronts) (clean : Bool) (s : State) : State :=
  let g := s.gnss
  let young := decide (g.baseEpochs < 1200)
  let now := if young then clean else decide (63 ≤ g.baseWait) && decide (g.jam = 0)
  { s with gnss := { g with
    base := if now then (List.range 4).foldl (fun m k =>
        let o := (SMap.find m k).getD (f.agc.getD k 0, f.floor.getD k 0)
        SMap.insert m k (Config.noiseBaseline o.1 (f.agc.getD k 0), Config.noiseBaseline o.2 (f.floor.getD k 0))) g.base else g.base
    baseEpochs := if young && clean then g.baseEpochs + 1 else g.baseEpochs
    baseWait := if now then 0 else g.baseWait + 1 } }

/-- The C/N0 pattern check: the rise with flat spread, or a flat spread that has lasted 5 s (R242). -/
def cn0Pattern (risen : Bool) (s : State) : Bool :=
  risen || lasted s s.gnss.cn0Since 0 (5 * second) || lasted s s.gnss.cn0Since 1 (5 * second)

/-- JAM: the front ends whose noise has been out of its band for 1 s (R242). -/
def jamBits (s : State) : BitVec 4 := (List.range 4).foldl (fun m k => setBit m k (lasted s s.gnss.badSince k second)) 0

/-- The channels that fail a check are excluded or become suspects (R242). -/
def flagFails (ifr dop clk : List Nat) (s : State) : State :=
  clk.foldl (fun s n => suspect n s) (dop.foldl (fun s n => exclude 1 0x00140014 n s) (ifr.foldl (fun s n => exclude 0 0x00140010 n s) s))

/-- What the checks of one epoch leave behind, and the noise baselines of a clean one (R242 to R244). -/
def noteChecks (f : GnssFronts) (l : List GnssMeas) (other pat : Bool) (jam : BitVec 4) (s : State) : State :=
  learnNoise f (!other && !pat) { s with gnss := { s.gnss with
    cn0pat := pat, jam := jam, median := if (l.filterMap (·.resid)).isEmpty then none else some (medianOf (l.filterMap (·.resid)))
    cn0At := if pat then some s.sun.time else s.gnss.cn0At
    otherAt := if other then some s.sun.time else s.gnss.otherAt
    lastFail := if other || pat then some s.sun.time else s.gnss.lastFail } }

/-- SPOOF: the C/N0 pattern and another check within 10 s, or more than half of the channels that were tracked suspects (R243). -/
def judgeSpoof (before : Nat) (s : State) : State :=
  if (within10s s s.gnss.cn0At && within10s s s.gnss.otherAt) || decide (before < 2 * suspects s) then setSpoof s else s

/-- The consistency checks of an epoch (R242 to R244), over the measurements of the channels in TRACK. -/
def runChecks (l : List GnssMeas) (f : GnssFronts) (s : State) : State :=
  let before := tracking s
  let clk := clockFails l s
  let risen := cn0Risen s (cn0High s l false) || cn0Risen s (cn0High s l true)
  let x := ifreqFails l (l.foldl (fun s m => latch m s) s)
  let s := l.foldl (fun s m => dopplerCheck m s) x.2
  let dop := dopplerFails l s
  let s := watchNoise f (watchFlat l true (watchFlat l false s))
  let pat := cn0Pattern risen s
  let jam := jamBits s
  judgeSpoof before (noteChecks f l (!(x.1.isEmpty && dop.isEmpty && clk.isEmpty) || decide (jam ≠ 0)) pat jam (flagFails x.1 dop clk s))

/-- GNSS_MEAS_EPOCH: at a multiple of 50 ms the TRACK channels are latched, the checks run, and the Sundial's offset is measured
where the position engine has a fix and SPOOF is clear (R238, R242, R243, R324). -/
def execGnssMeasEpoch (t : Time) (meas : List GnssMeas) (fronts : GnssFronts) (offset : Option Int) (s : State) : Result :=
  let s := advanceTo t s
  .next <|
  if !samples s || decide (s.sun.time.toNat % 50000000 ≠ 0) then s
  else
    let l := tracked s meas
    let s := (List.range 256).foldl (fun s n => let x := gch s n; setGch n { x with slip := false } s) s
    let s := engageAll (runChecks l fronts s)
    match offset with
    | some o => if laneActive s && decide (1 ≤ s.core.pos.fix) && !s.gnss.spoof then gnssOffset o s else gnssNone s
    | none => gnssNone s

/-- GNSS_EXCLUSION_RELEASE: after 30 s in which the channel passes every check (R242); a suspect's time runs from its
reacquisition. -/
def execGnssExclusionRelease (t : Time) (ch : Fin 256) (s : State) : Result :=
  let s := advanceTo t s
  let x := gch s ch.val
  .next <|
  if x.excl && decide (x.exclAt.toNat + 30 * second ≤ s.sun.time.toNat) && !(x.suspect && decide (x.state = 0)) then
    let s := setGch ch.val { x with excl := false, suspect := false, suspectAt := none, cause := 0 } s
    { s with gnss := { s.gnss with suspectSats := s.gnss.suspectSats.filter fun y => !decide (y = satOf x) } }
  else s

/-- GNSS_SPOOF_CLEAR: after 60 s in which no check fails, with a NOTICE (R243). -/
def execGnssSpoofClear (t : Time) (s : State) : Result :=
  let s := advanceTo t s
  let quiet := match s.gnss.lastFail with
    | some f => decide (f.toNat + 60 * second ≤ s.sun.time.toNat)
    | none => true
  .next <|
  if s.gnss.spoof && quiet then raise .notice 0x14 0x0008 [] { s with gnss := { s.gnss with spoof := false } } else s

/-! ### Position engine (R246, R248, R249) -/

/-- Output codes that are heading outputs (R246); BASELINE is judged with them (log entry 35). -/
def headingCode (n : Nat) : Bool := n = 0x0C || n = 0x0D || n = 0x0E || n = 0x10

/-- POS_HDG_CFG.BASE_LEN, and whether heading is computed at all (R246). -/
def baseLen (s : State) : Nat := field s.gnss.hdgCfg 12 0
def headingOn (s : State) : Bool := decide (500 ≤ baseLen s) && decide (baseLen s ≤ 5000)

/-- Whether corrections are younger than the default CORR_MAXAGE of 10 s (R249). -/
def corrFresh (s : State) : Bool := within10s s s.core.pos.corrAt

/-- A position-engine output lands in the signal that declares its code (R246). -/
def landOutput (stamp : Time) (posOk hdgOk : Bool) (e : Nat × Word) (s : State) : State :=
  match (cop s).signals.find? fun d => decide (d.writer = .position e.1) with
  | some d =>
    if headingCode e.1 && !headingOn s then s
    else land d.index (.position e.1) e.2 stamp
      (if (if headingCode e.1 then hdgOk else posOk) then .valid else .quarantined) s
  | none => s

/-- FIX of a solution (R249): standalone where corrections are too old; a float solution is fixed once the ambiguity ratio exceeds 3.0, and
stays so while its ambiguities stand. -/
def fixOf (s : State) (sol : Solution) : Nat :=
  if sol.mode = 0 then 0
  else if sol.mode = 1 || !corrFresh s then 1
  else if s.core.pos.ambFixed || flt 0x40400000 sol.ratio then 3 else 2

/-- CORR_AGE in s, binary32; a free value before the first correction (R246, log entry 3). -/
def corrAge (s : State) : Word × State :=
  match s.core.pos.corrAt with
  | some c => (fOfRat (s.sun.time.toNat - c.toNat : Nat) second, s)
  | none => nextFree s

/-- The outputs of a solution (R246): FIX, SV_USED, CORR_AGE and BASELINE are those of the solution itself. -/
def outputsOf (sol : Solution) (fix : Nat) (age : Word) : List (Nat × Word) :=
  (sol.outputs.filter fun e => !([0x08, 0x09, 0x0F, 0x10] : List Nat).contains e.1)
    ++ [(0x08, BitVec.ofNat 32 fix), (0x09, BitVec.ofNat 32 sol.svUsed), (0x0F, age), (0x10, fOfRat sol.baselineMm 1000)]

/-- Navigation data that the engine has decoded (R250). -/
def takeNav (l : List (Bool × Nat × List Byte)) (p : PosSt) : PosSt :=
  l.foldl (fun p e => if e.1 then { p with almanac := SMap.insert p.almanac e.2.1 e.2.2 }
    else { p with eph := SMap.insert p.eph e.2.1 e.2.2 }) p

/-- The value that a list of outputs gives a code. -/
def outputAt (l : List (Nat × Word)) (code : Nat) : Option Word := (l.find? fun e => decide (e.1 = code)).map (·.2)

/-- POSITION_SOLUTION: the engine's state and outputs for an epoch (R246, R247, R249, R250), with the UTC parameters received (R329). -/
def execPositionSolution (t : Time) (sol : Solution) (s : State) : Result :=
  let s := advanceTo t s
  .next <|
  if !laneActive s || !s.gnss.run then s
  else
    let fix := fixOf s sol
    let clean := !s.gnss.spoof && !s.gnss.clkFail
    let posOk := clean && decide (1 ≤ fix) && decide (5 ≤ sol.svUsed)
    let hdgOk := clean && sol.hdgFixed && headingOn s
      && decide (sol.baselineMm ≤ baseLen s + 20) && decide (baseLen s ≤ sol.baselineMm + 20)
    let (age, s) := corrAge s
    let p := takeNav sol.nav s.core.pos
    let first := if posOk then p.searchFrom else none
    let s := { s with
      core := { s.core with pos := { p with
        fix := fix, svUsed := sol.svUsed, hdgValid := hdgOk, ambFixed := decide (fix = 3), rtcm := [], rtcmBytes := 0
        clock := sol.clock, ambig := sol.ambig
        lastPos := match outputAt sol.outputs 1, outputAt sol.outputs 2 with
          | some a, some b => if posOk then some (a, b) else p.lastPos
          | _, _ => p.lastPos
        ttffMs := match first with
          | some f => hold32 ((s.sun.time.toNat - f.toNat) / 1000000)
          | none => p.ttffMs
        searchFrom := if posOk then none else p.searchFrom } }
      sun := match sol.utc with
        | some u => { s.sun with taiUtc := u.1, leapAnn := u.2.1, leapMjd := u.2.2 }
        | none => s.sun }
    (outputsOf sol fix age).foldl (fun s e => landOutput sol.epoch posOk hdgOk e s) s

/-- Classes of an RTCM message number (R248): base position, other messages used, ignored. -/
def rtcmBase (n : Nat) : Bool := n = 1005 || n = 1006
def rtcmUsed (n : Nat) : Bool :=
  rtcmBase n || (1074 ≤ n && n ≤ 1077) || (1094 ≤ n && n ≤ 1097) || (1114 ≤ n && n ≤ 1117) || (1124 ≤ n && n ≤ 1127)
    || n = 1019 || n = 1042 || n = 1044 || n = 1046

/-- Messages that carry observations, by which the age of corrections is counted (R248, R249). -/
def rtcmObs (n : Nat) : Bool :=
  (1074 ≤ n && n ≤ 1077) || (1094 ≤ n && n ≤ 1097) || (1114 ≤ n && n ≤ 1117) || (1124 ≤ n && n ≤ 1127)

/-- Ephemeris messages, and the key that a frame's message number and satellite give (R248; the place of the satellite number PRESUMED: RTCM
3.x, log entry 99). -/
def rtcmEph (n : Nat) : Bool := n = 1019 || n = 1042 || n = 1044 || n = 1046
def ephKey (bytes : List Byte) (msg : Nat) : Nat := 64 * msg + (bytes.getD 4 0).toNat % 16 * 4 + (bytes.getD 5 0).toNat / 64

/-- A correction frame reaches the position engine (R248, R249); a change of base position resets all ambiguities. -/
def takeRtcm (bytes : List Byte) (crcOk : Bool) (msg : Nat) (s : State) : State :=
  let p := s.core.pos
  if !crcOk || decide (65536 < p.rtcmBytes + bytes.length) then bump 0x0016000C 0 s
  else if !rtcmUsed msg then bump 0x00160010 0 s
  else
    let moved := rtcmBase msg && p.basePos.isSome && decide (p.basePos ≠ some bytes)
    bump 0x00160008 0 { s with core := { s.core with pos := { p with
      rtcm := p.rtcm ++ [bytes], rtcmBytes := p.rtcmBytes + bytes.length
      corrAt := if rtcmObs msg then some s.sun.time else p.corrAt
      basePos := if rtcmBase msg then some bytes else p.basePos
      eph := if rtcmEph msg then SMap.insert p.eph (ephKey bytes msg) bytes else p.eph
      ambig := if moved then [] else p.ambig
      ambFixed := p.ambFixed && !moved } } }

/-- RTCM_FRAME (R248): only an active lane has a position engine. -/
def execRtcmFrame (t : Time) (bytes : List Byte) (crcOk : Bool) (msg : Nat) (s : State) : Result :=
  let s := advanceTo t s
  .next (if laneActive s then takeRtcm bytes crcOk msg s else s)

/-! ### Search and tracking (R235 to R240) -/

/-- The group of a signal on an antenna in the order of allocation (R235): 0 first. -/
def groupOf (c : BitVec 4) (ant : Bool) : Nat := 2 * antOf ant + (if isL1 c then 0 else 1)

/-- The lowest group that has a channel. -/
def lowestGroup (s : State) : Nat := (s.gnss.chans.map fun e => if e.2.state = 0 then 0 else groupOf e.2.signal e.2.ant).foldl max 0

/-- Whether channel `n` may take a satellite of a group (R235): it is IDLE, or no channel is and, the lowest group giving way first, it is the
lowest satellite of that group. -/
def mayTake (s : State) (n g : Nat) : Bool :=
  let x := gch s n
  let low := lowestGroup s
  decide (x.state = 0)
    || ((List.range 256).all (fun k => decide ((gch s k).state ≠ 0)) && decide (groupOf x.signal x.ant = low) && decide (g < low)
        && s.gnss.chans.all fun e => decide (groupOf e.2.signal e.2.ant ≠ low) || decide (x.elev ≤ e.2.elev))

/-- A channel takes a satellite in PULLIN (R237); one that was flagged SPOOF_SUSPECT is reacquired excluded and unaided (R242). -/
def assign (n : Nat) (c : BitVec 4) (sv : BitVec 8) (ant : Bool) (phase : Word) (s : State) : State :=
  let bad := s.gnss.suspectSats.contains (c, sv, ant)
  setGch n { state := 1, signal := c, sv := sv, ant := ant, spacing := spacingOf s c, since := s.sun.time, codePhase := phase
             excl := bad, suspect := bad, cause := if bad then 4 else 0, exclAt := s.sun.time } s

/-- SEARCH_CELL_FOUND: a verified cell hands the satellite to a channel in PULLIN, and the engine goes on (R14, R235, R237, R239). -/
def execSearchCellFound (t : Time) (engine : Fin 32) (ch : Fin 256) (s : State) : Result :=
  let s := advanceTo t s
  let e := eng s engine.val
  .next <|
  if !samples s || !e.busy || !s.lanes.gate || !mayTake s ch.val (groupOf e.signal e.ant) then s
  else engageEngine engine.val (setEng engine.val {} (assign ch.val e.signal e.sv e.ant 0 s))

/-- SEARCH_DWELL_DONE: the engine moves on by 64 code phases, then by one Doppler bin, and after its window takes another satellite
(R239, R240). -/
def execSearchDwellDone (t : Time) (engine : Fin 32) (s : State) : Result :=
  let s := advanceTo t s
  let e := eng s engine.val
  .next <|
  if !samples s || !e.busy then s
  else if e.phase + 64 < windowPhases e.window e.signal then setEng engine.val { e with phase := e.phase + 64 } s
  else if e.bin + 1 < windowBins s e.window then setEng engine.val { e with phase := 0, bin := e.bin + 1 } s
  else engageEngine engine.val (setEng engine.val {} s)

/-- The code phase of an L5-band signal from that of the L1-band one, in 2^-16 chip: its chips are a tenth, of B1I a fifth, as long, and its
code runs over 10,230 of them (R232, R237). -/
def handPhase (c : BitVec 4) (v : Word) : Word := BitVec.ofNat 32 (v.toNat * (if c = 4 then 5 else 10) % (10230 * 65536))

/-- CHANNEL_PULLIN_END: PULLIN ends in TRACK with SLIP set, and the position engine may start a channel on the satellite's L5-band signal by
handover, with the code phase (R14, R235, R237, R238). -/
def execChannelPullinEnd (t : Time) (ch : Fin 256) (handover : Option (Fin 256)) (s : State) : Result :=
  let s := advanceTo t s
  let x := gch s ch.val
  .next <|
  if !samples s || decide (x.state ≠ 1) then s
  else
    let s := setGch ch.val { x with state := 2, slip := true, since := s.sun.time
                                    exclAt := if x.suspect then s.sun.time else x.exclAt } s
    match handover, l5Of x.signal with
    | some h, some c =>
      if h = ch || !s.lanes.gate || !bit s.gnss.cfg c.toNat || !mayTake s h.val (groupOf c x.ant) then s
      else assign h.val c x.sv x.ant (handPhase x.signal x.codePhase) s
    | _, _ => s

/-- CHANNEL_COAST_ENTER (R237). -/
def execChannelCoastEnter (t : Time) (ch : Fin 256) (s : State) : Result :=
  let s := advanceTo t s
  let x := gch s ch.val
  .next (if samples s && decide (x.state = 2) then setGch ch.val { x with state := 3, since := s.sun.time } s else s)

/-- CHANNEL_COAST_TIMEOUT: 10 s aided, or 1 s unaided, end in IDLE; an L1-band satellite goes to a search engine with the narrow window,
the one named where it is idle, else the first that is (R237, R240). -/
def execChannelCoastTimeout (t : Time) (ch : Fin 256) (engine : Option (Fin 32)) (s : State) : Result :=
  let s := advanceTo t s
  let x := gch s ch.val
  let limit := if x.aided then 10 * second else second
  .next <|
  if !samples s || decide (x.state ≠ 3) || decide (s.sun.time.toNat < x.since.toNat + limit) then s
  else
    let s := setGch ch.val { x with state := 0, aid := 0, aided := false } s
    if !isL1 x.signal then s
    else
      let l : LostSat := { signal := x.signal, sv := x.sv, ant := x.ant, since := s.sun.time, coast := true }
      let s := { s with gnss := { s.gnss with lost := l :: s.gnss.lost } }
      engageAll (match engine with
        | some e => engageEngine e.val s
        | none => s)

/-- CHANNEL_RELOCK: a COAST channel relocks through PULLIN (R237). -/
def execChannelRelock (t : Time) (ch : Fin 256) (s : State) : Result :=
  let s := advanceTo t s
  let x := gch s ch.val
  .next (if samples s && decide (x.state = 3) then setGch ch.val { x with state := 1, since := s.sun.time } s else s)

/-- SPACING_CHANGE_APPLY: the band's spacing takes effect in a channel (R236). -/
def execSpacingChangeApply (t : Time) (ch : Fin 256) (s : State) : Result :=
  let s := advanceTo t s
  let x := gch s ch.val
  .next (if decide (x.state ≠ 0) then setGch ch.val { x with spacing := spacingOf s x.signal } s else s)

/-! ### Antenna bias (R234) -/

/-- ANTENNA_BIAS_SHORT: above 130 mA the bias switches off and its claim returns. -/
def execAntennaBiasShort (t : Time) (ant : Fin 2) (s : State) : Result :=
  let s := advanceTo t s
  .next <|
  if biased s ant.val then
    dropBias ant.val 3 { s with gnss := { s.gnss with shortAt := SMap.insert s.gnss.shortAt ant.val s.sun.time } }
  else s

/-- ANTENNA_BIAS_RETRY: a shorted bias retries every 1 s with a new claim, while GNS_ANT enables it; deferred, the input reads 0. -/
def execAntennaBiasRetry (t : Time) (ant : Fin 2) (s : State) : Result :=
  let s := advanceTo t s
  let due := match SMap.find s.gnss.shortAt ant.val with
    | some x => decide (x.toNat + second ≤ s.sun.time.toNat)
    | none => false
  .next <|
  if decide (antState s ant.val = 3) && due && (if ant.val = 0 then s.gnss.bias0 else s.gnss.bias1) then
    let s := claimBias ant.val { s with gnss := { s.gnss with shortAt := SMap.insert s.gnss.shortAt ant.val s.sun.time } }
    if waits s 4 (.antenna ant.val) then setAnt ant.val 0 s else s
  else s

/-- ANTENNA_OPEN: below 2 mA; the bias stays on. -/
def execAntennaOpen (t : Time) (ant : Fin 2) (s : State) : Result :=
  let s := advanceTo t s
  .next (if antState s ant.val = 1 then setAnt ant.val 2 s else s)

/-- ANTENNA_BIAS_OK: an OPEN input is OK again. -/
def execAntennaBiasOk (t : Time) (ant : Fin 2) (s : State) : Result :=
  let s := advanceTo t s
  .next (if antState s ant.val = 2 then setAnt ant.val 1 s else s)

end Sys2Proof.Machine
end

