-- ==== Sys2Proof/Machine/Code.lean ====
section
/-! DEFINITION. Tister words (R110 to R140): the instruction a 32-bit word encodes, its Tister level and its charge, by which
the Spindle knows each loop's end (R125) and validation judges a cop's code (R112). -/
namespace Sys2Proof.Machine

/-- An instruction whose fields meet a condition, none otherwise (R111). -/
def when (c : Bool) (i : Instr) : Option Instr := if c then some i else none

/-- The instruction a word encodes on a Spindle, none for a word that is not a defined encoding (R110, R111, R114). -/
def decodeTister (sp : Fin 64) (w : Word) : Option Instr :=
  let x : Slot := { sp := sp, p := Fin.ofNat 8 (field w 25 23) }
  let df := field w 22 18
  let af := field w 17 13
  let bf := field w 12 8
  let fn := field w 7 0
  let imm : BitVec 13 := w.truncate 13
  let d : GReg := Fin.ofNat 32 df
  let a : GReg := Fin.ofNat 32 af
  let b : GReg := Fin.ofNat 32 bf
  let pd : Bool := df < 8
  let dp : PReg := Fin.ofNat 8 df
  let ap : PReg := Fin.ofNat 8 af
  let bp : PReg := Fin.ofNat 8 bf
  let sh : BitVec 5 := w.truncate 5
  let h : Byte := w.truncate 8
  let l : BitVec 6 := w.truncate 6
  let sel : BitVec 4 := BitVec.ofNat 4 (field w 9 6)
  match field w 31 26 with
  | 0x01 => match fn with
    | 0x00 => some (.add x d a b)
    | 0x01 => some (.sub x d a b)
    | 0x02 => some (.mul x d a b)
    | 0x03 => some (.mulh x d a b)
    | 0x04 => some (.mulhu x d a b)
    | 0x05 => some (.div x d a b)
    | 0x06 => some (.divu x d a b)
    | 0x07 => some (.rem x d a b)
    | 0x08 => some (.remu x d a b)
    | 0x10 => some (.and_ x d a b)
    | 0x11 => some (.or_ x d a b)
    | 0x12 => some (.xor x d a b)
    | 0x13 => some (.andn x d a b)
    | 0x14 => some (.shl x d a b)
    | 0x15 => some (.shr x d a b)
    | 0x16 => some (.sra x d a b)
    | 0x17 => some (.rol x d a b)
    | 0x18 => some (.min x d a b)
    | 0x19 => some (.max x d a b)
    | 0x1A => some (.minu x d a b)
    | 0x1B => some (.maxu x d a b)
    | 0x1C => when (b = 0) (.clz x d a)
    | 0x1D => when (b = 0) (.popc x d a)
    | _ => none
  | 0x02 => some (.addi x d a imm)
  | 0x03 => some (.andi x d a imm)
  | 0x04 => some (.ori x d a imm)
  | 0x05 => some (.xori x d a imm)
  | 0x06 => if field w 12 7 ≠ 0 then none else match field w 6 5 with
    | 0 => some (.shli x d a sh)
    | 1 => some (.shri x d a sh)
    | 2 => some (.srai x d a sh)
    | _ => some (.roli x d a sh)
  | 0x07 => when (af = 0) (.movi x d imm)
  | 0x08 => when (af = 0) (.ldc x d imm)
  | 0x09 => some (.ldw x d a imm)
  | 0x0A => some (.ldh x d a imm)
  | 0x0B => some (.ldhu x d a imm)
  | 0x0C => some (.ldb x d a imm)
  | 0x0D => some (.ldbu x d a imm)
  | 0x0E => some (.stw x d a imm)
  | 0x0F => some (.sth x d a imm)
  | 0x10 => some (.stb x d a imm)
  | 0x11 => match fn with
    | 0x00 => some (.qadd x d a b)
    | 0x01 => some (.qsub x d a b)
    | 0x02 => when (b = 0) (.qneg x d a)
    | 0x03 => when (b = 0) (.qabs x d a)
    | 0x04 => some (.qmul16 x d a b)
    | 0x05 => some (.qmul31 x d a b)
    | 0x06 => some (.qshl x d a b)
    | _ => none
  | 0x12 => match fn with
    | 0x00 => some (.fadd x d a b)
    | 0x01 => some (.fsub x d a b)
    | 0x02 => some (.fmul x d a b)
    | 0x03 => some (.fdiv x d a b)
    | 0x04 => when (b = 0) (.fsqrt x d a)
    | 0x05 => some (.ffma x d a b)
    | 0x06 => some (.fmin x d a b)
    | 0x07 => some (.fmax x d a b)
    | 0x08 => when (b = 0) (.fabs x d a)
    | 0x09 => when (b = 0) (.fneg x d a)
    | _ => none
  | 0x13 => match fn with
    | 0x00 => when (b = 0) (.f2i x d a)
    | 0x01 => when (b = 0) (.i2f x d a)
    | 0x02 => when (b = 0) (.f2q16 x d a)
    | 0x03 => when (b = 0) (.q162f x d a)
    | 0x04 => when (b = 0) (.f2q31 x d a)
    | 0x05 => when (b = 0) (.q312f x d a)
    | _ => none
  | 0x14 => match fn with
    | 0x00 => when pd (.ieq x dp a b)
    | 0x01 => when pd (.ine x dp a b)
    | 0x02 => when pd (.ilt x dp a b)
    | 0x03 => when pd (.ige x dp a b)
    | 0x04 => when pd (.iltu x dp a b)
    | 0x05 => when pd (.igeu x dp a b)
    | _ => none
  | 0x15 => when pd (.ieqi x dp a imm)
  | 0x16 => when pd (.inei x dp a imm)
  | 0x17 => when pd (.ilti x dp a imm)
  | 0x18 => when pd (.igei x dp a imm)
  | 0x19 => match fn with
    | 0x00 => when pd (.feq x dp a b)
    | 0x01 => when pd (.fne x dp a b)
    | 0x02 => when pd (.flt x dp a b)
    | 0x03 => when pd (.fle x dp a b)
    | 0x04 => when pd (.fgt x dp a b)
    | 0x05 => when pd (.fge x dp a b)
    | 0x06 => when pd (.fun x dp a b)
    | _ => none
  | 0x1A => match fn with
    | 0x00 => when (pd && af < 8 && bf < 8) (.pand x dp ap bp)
    | 0x01 => when (pd && af < 8 && bf < 8) (.por x dp ap bp)
    | 0x02 => when (pd && af < 8 && bf < 8) (.pxor x dp ap bp)
    | 0x03 => when (pd && af < 8 && bf < 8) (.pandn x dp ap bp)
    | 0x04 => when (pd && af < 8 && bf = 0) (.pnot x dp ap)
    | 0x05 => when (pd && af < 8 && bf = 0) (.pmov x dp ap)
    | _ => none
  | 0x1B => when (df = 0 && af = 0 && imm ≠ 0) (.br x imm)
  | 0x1C => when (df = 0 && (af = 0 || imm ≠ 0)) (.loop x a imm)
  | 0x1D => if df ≠ 0 || af ≠ 0 || bf ≠ 0 then none else match fn with
    | 0x00 => some (.next_ x)
    | 0x01 => some (.brk x)
    | 0x02 => some (.end_ x)
    | _ => none
  | 0x1E => when (df = 0 && af = 0) (.trap x imm)
  | 0x1F => when (df = 0 && af = 0 && field w 12 4 = 0) (.bar x (Fin.ofNat 16 (field w 3 0)))
  | 0x20 => if af ≠ 0 then none else match field w 12 1 with
    | 0 => some (.timeTi x d (bit w 0))
    | 1 => some (.timeNow x d (bit w 0))
    | _ => none
  | 0x21 => when (field w 12 8 = 0) (.sigRd x d h a)
  | 0x22 => when (field w 12 8 = 0) (.sigSt x d h a)
  | 0x23 => when (field w 12 8 = 0) (.sigAge x d h a)
  | 0x24 => when (field w 12 8 = 0 || field w 12 8 = 4) (.sigWr x d h (BitVec.ofNat 4 (field w 11 8)) a)
  | 0x25 =>
    let n : Fin 16 := Fin.ofNat 16 (field w 3 0)
    match field w 7 4 with
    | 0x0 => when pd (.bobPush x dp n a b)
    | 0x4 => some (.bobPop x d n a b)
    | 0x8 => when (bf = 0 && af ≤ 4) (.bobPeek x d n (BitVec.ofNat 5 af))
    | _ => none
  | 0x26 => when (df = 0 && field w 12 9 = 0) (.lawIn x l sel a)
  | 0x27 => when (df = 0 && af = 0 && field w 12 6 = 0) (.lawStep x l)
  | 0x28 => when (af = 0 && field w 12 10 = 0 && field w 9 6 ≤ 4) (.lawOut x d l sel)
  | 0x29 => when (df = 0 && field w 12 6 = 0) (.outSw x l a)
  | 0x2A => when (df = 0 && field w 12 6 = 0) (.outPwm x l a)
  | 0x2B => if df ≠ 0 then none else match field w 12 6 with
    | 0 => some (.outSolCur x l a)
    | 1 => some (.outSolProf x l a)
    | 2 => when (af = 0) (.outSolRel x l)
    | _ => none
  | _ => none

/-! ### Encoding (R110) -/

/-- A word from its fields (R110): opcode, guard, D, A and the low 13 bits. -/
def asm (op : Nat) (p : PReg) (d a low : Nat) : Word :=
  BitVec.ofNat 32 (op * 0x4000000 + p.val * 0x800000 + d * 0x40000 + a * 0x2000 + low)

/-- The word of a Tister instruction (R110, R115 to R136); no other command has one. -/
def encodeTister (i : Instr) : Option Word :=
  match i with
  | .add x d a b => some (asm 0x01 x.p d.val a.val (b.val * 256 + 0))
  | .sub x d a b => some (asm 0x01 x.p d.val a.val (b.val * 256 + 1))
  | .mul x d a b => some (asm 0x01 x.p d.val a.val (b.val * 256 + 2))
  | .mulh x d a b => some (asm 0x01 x.p d.val a.val (b.val * 256 + 3))
  | .mulhu x d a b => some (asm 0x01 x.p d.val a.val (b.val * 256 + 4))
  | .div x d a b => some (asm 0x01 x.p d.val a.val (b.val * 256 + 5))
  | .divu x d a b => some (asm 0x01 x.p d.val a.val (b.val * 256 + 6))
  | .rem x d a b => some (asm 0x01 x.p d.val a.val (b.val * 256 + 7))
  | .remu x d a b => some (asm 0x01 x.p d.val a.val (b.val * 256 + 8))
  | .and_ x d a b => some (asm 0x01 x.p d.val a.val (b.val * 256 + 16))
  | .or_ x d a b => some (asm 0x01 x.p d.val a.val (b.val * 256 + 17))
  | .xor x d a b => some (asm 0x01 x.p d.val a.val (b.val * 256 + 18))
  | .andn x d a b => some (asm 0x01 x.p d.val a.val (b.val * 256 + 19))
  | .shl x d a b => some (asm 0x01 x.p d.val a.val (b.val * 256 + 20))
  | .shr x d a b => some (asm 0x01 x.p d.val a.val (b.val * 256 + 21))
  | .sra x d a b => some (asm 0x01 x.p d.val a.val (b.val * 256 + 22))
  | .rol x d a b => some (asm 0x01 x.p d.val a.val (b.val * 256 + 23))
  | .min x d a b => some (asm 0x01 x.p d.val a.val (b.val * 256 + 24))
  | .max x d a b => some (asm 0x01 x.p d.val a.val (b.val * 256 + 25))
  | .minu x d a b => some (asm 0x01 x.p d.val a.val (b.val * 256 + 26))
  | .maxu x d a b => some (asm 0x01 x.p d.val a.val (b.val * 256 + 27))
  | .clz x d a => some (asm 0x01 x.p d.val a.val 28)
  | .popc x d a => some (asm 0x01 x.p d.val a.val 29)
  | .addi x d a imm => some (asm 0x02 x.p d.val a.val imm.toNat)
  | .andi x d a imm => some (asm 0x03 x.p d.val a.val imm.toNat)
  | .ori x d a imm => some (asm 0x04 x.p d.val a.val imm.toNat)
  | .xori x d a imm => some (asm 0x05 x.p d.val a.val imm.toNat)
  | .shli x d a sh => some (asm 0x06 x.p d.val a.val (0 + sh.toNat))
  | .shri x d a sh => some (asm 0x06 x.p d.val a.val (32 + sh.toNat))
  | .srai x d a sh => some (asm 0x06 x.p d.val a.val (64 + sh.toNat))
  | .roli x d a sh => some (asm 0x06 x.p d.val a.val (96 + sh.toNat))
  | .movi x d imm => some (asm 0x07 x.p d.val 0 imm.toNat)
  | .ldc x d imm => some (asm 0x08 x.p d.val 0 imm.toNat)
  | .ldw x d a imm => some (asm 0x09 x.p d.val a.val imm.toNat)
  | .ldh x d a imm => some (asm 0x0A x.p d.val a.val imm.toNat)
  | .ldhu x d a imm => some (asm 0x0B x.p d.val a.val imm.toNat)
  | .ldb x d a imm => some (asm 0x0C x.p d.val a.val imm.toNat)
  | .ldbu x d a imm => some (asm 0x0D x.p d.val a.val imm.toNat)
  | .stw x d a imm => some (asm 0x0E x.p d.val a.val imm.toNat)
  | .sth x d a imm => some (asm 0x0F x.p d.val a.val imm.toNat)
  | .stb x d a imm => some (asm 0x10 x.p d.val a.val imm.toNat)
  | .qadd x d a b => some (asm 0x11 x.p d.val a.val (b.val * 256 + 0))
  | .qsub x d a b => some (asm 0x11 x.p d.val a.val (b.val * 256 + 1))
  | .qneg x d a => some (asm 0x11 x.p d.val a.val 2)
  | .qabs x d a => some (asm 0x11 x.p d.val a.val 3)
  | .qmul16 x d a b => some (asm 0x11 x.p d.val a.val (b.val * 256 + 4))
  | .qmul31 x d a b => some (asm 0x11 x.p d.val a.val (b.val * 256 + 5))
  | .qshl x d a b => some (asm 0x11 x.p d.val a.val (b.val * 256 + 6))
  | .fadd x d a b => some (asm 0x12 x.p d.val a.val (b.val * 256 + 0))
  | .fsub x d a b => some (asm 0x12 x.p d.val a.val (b.val * 256 + 1))
  | .fmul x d a b => some (asm 0x12 x.p d.val a.val (b.val * 256 + 2))
  | .fdiv x d a b => some (asm 0x12 x.p d.val a.val (b.val * 256 + 3))
  | .fsqrt x d a => some (asm 0x12 x.p d.val a.val 4)
  | .ffma x d a b => some (asm 0x12 x.p d.val a.val (b.val * 256 + 5))
  | .fmin x d a b => some (asm 0x12 x.p d.val a.val (b.val * 256 + 6))
  | .fmax x d a b => some (asm 0x12 x.p d.val a.val (b.val * 256 + 7))
  | .fabs x d a => some (asm 0x12 x.p d.val a.val 8)
  | .fneg x d a => some (asm 0x12 x.p d.val a.val 9)
  | .f2i x d a => some (asm 0x13 x.p d.val a.val 0)
  | .i2f x d a => some (asm 0x13 x.p d.val a.val 1)
  | .f2q16 x d a => some (asm 0x13 x.p d.val a.val 2)
  | .q162f x d a => some (asm 0x13 x.p d.val a.val 3)
  | .f2q31 x d a => some (asm 0x13 x.p d.val a.val 4)
  | .q312f x d a => some (asm 0x13 x.p d.val a.val 5)
  | .ieq x d a b => some (asm 0x14 x.p d.val a.val (b.val * 256 + 0))
  | .ine x d a b => some (asm 0x14 x.p d.val a.val (b.val * 256 + 1))
  | .ilt x d a b => some (asm 0x14 x.p d.val a.val (b.val * 256 + 2))
  | .ige x d a b => some (asm 0x14 x.p d.val a.val (b.val * 256 + 3))
  | .iltu x d a b => some (asm 0x14 x.p d.val a.val (b.val * 256 + 4))
  | .igeu x d a b => some (asm 0x14 x.p d.val a.val (b.val * 256 + 5))
  | .ieqi x d a imm => some (asm 0x15 x.p d.val a.val imm.toNat)
  | .inei x d a imm => some (asm 0x16 x.p d.val a.val imm.toNat)
  | .ilti x d a imm => some (asm 0x17 x.p d.val a.val imm.toNat)
  | .igei x d a imm => some (asm 0x18 x.p d.val a.val imm.toNat)
  | .feq x d a b => some (asm 0x19 x.p d.val a.val (b.val * 256 + 0))
  | .fne x d a b => some (asm 0x19 x.p d.val a.val (b.val * 256 + 1))
  | .flt x d a b => some (asm 0x19 x.p d.val a.val (b.val * 256 + 2))
  | .fle x d a b => some (asm 0x19 x.p d.val a.val (b.val * 256 + 3))
  | .fgt x d a b => some (asm 0x19 x.p d.val a.val (b.val * 256 + 4))
  | .fge x d a b => some (asm 0x19 x.p d.val a.val (b.val * 256 + 5))
  | .fun x d a b => some (asm 0x19 x.p d.val a.val (b.val * 256 + 6))
  | .pand x d a b => some (asm 0x1A x.p d.val a.val (b.val * 256 + 0))
  | .por x d a b => some (asm 0x1A x.p d.val a.val (b.val * 256 + 1))
  | .pxor x d a b => some (asm 0x1A x.p d.val a.val (b.val * 256 + 2))
  | .pandn x d a b => some (asm 0x1A x.p d.val a.val (b.val * 256 + 3))
  | .pnot x d a => some (asm 0x1A x.p d.val a.val 4)
  | .pmov x d a => some (asm 0x1A x.p d.val a.val 5)
  | .br x imm => some (asm 0x1B x.p 0 0 imm.toNat)
  | .loop x a imm => some (asm 0x1C x.p 0 a.val imm.toNat)
  | .next_ x => some (asm 0x1D x.p 0 0 0)
  | .brk x => some (asm 0x1D x.p 0 0 1)
  | .end_ x => some (asm 0x1D x.p 0 0 2)
  | .trap x imm => some (asm 0x1E x.p 0 0 imm.toNat)
  | .bar x n => some (asm 0x1F x.p 0 0 n.val)
  | .timeTi x d hi => some (asm 0x20 x.p d.val 0 hi.toNat)
  | .timeNow x d hi => some (asm 0x20 x.p d.val 0 (2 + hi.toNat))
  | .sigRd x d h ix => some (asm 0x21 x.p d.val ix.val h.toNat)
  | .sigSt x d h ix => some (asm 0x22 x.p d.val ix.val h.toNat)
  | .sigAge x d h ix => some (asm 0x23 x.p d.val ix.val h.toNat)
  | .sigWr x ix h st a => some (asm 0x24 x.p ix.val a.val (st.toNat * 256 + h.toNat))
  | .bobPush x d n a b => some (asm 0x25 x.p d.val a.val (b.val * 256 + n.val))
  | .bobPop x d n a b => some (asm 0x25 x.p d.val a.val (b.val * 256 + 64 + n.val))
  | .bobPeek x d n sel => some (asm 0x25 x.p d.val sel.toNat (128 + n.val))
  | .lawIn x l sel a => some (asm 0x26 x.p 0 a.val (sel.toNat * 64 + l.toNat))
  | .lawStep x l => some (asm 0x27 x.p 0 0 l.toNat)
  | .lawOut x d l sel => some (asm 0x28 x.p d.val 0 (sel.toNat * 64 + l.toNat))
  | .outSw x l a => some (asm 0x29 x.p 0 a.val l.toNat)
  | .outPwm x l a => some (asm 0x2A x.p 0 a.val l.toNat)
  | .outSolCur x l a => some (asm 0x2B x.p 0 a.val l.toNat)
  | .outSolProf x l a => some (asm 0x2B x.p 0 a.val (64 + l.toNat))
  | .outSolRel x l => some (asm 0x2B x.p 0 0 (128 + l.toNat))
  | _ => none

/-- Whether a word opens a loop body or ends one. -/
def isLoop (w : Word) : Bool := decide (field w 31 26 = 0x1C) && (decodeTister 0 w).isSome
def isNext (w : Word) : Bool := decide (field w 31 26 = 0x1D) && decide (field w 7 0 = 0) && (decodeTister 0 w).isSome

/-- How many instructions lie from a loop to its matching next, the code behind the loop given (R125). -/
def matchNext : List Word → Nat → Option Nat
  | [], _ => none
  | w :: r, depth =>
    if isNext w then (if depth = 0 then some 1 else (matchNext r (depth - 1)).map (· + 1))
    else if isLoop w then (matchNext r (depth + 1)).map (· + 1)
    else (matchNext r depth).map (· + 1)

/-- Where the next that matches the loop at `pc` stands in a Spindle's code (R125). -/
def loopEnd (code : List Word) (pc : BitVec 14) : Option (BitVec 14) :=
  (matchNext (code.drop (pc.toNat + 1)) 0).map fun n => pc + BitVec.ofNat 14 n

end Sys2Proof.Machine
end

