-- ==== Sys2Proof/Machine/Control.lean ====
section
/-! DEFINITION. Meanings of the memory, control-flow, trap, barrier and time instructions (R74, R77, R78, R113, R124 to R128,
R137, R138). -/
namespace Sys2Proof.Machine

/-! ### Local memory (R77, R78, R128) -/

/-- A load of `n` bytes: BOUNDS outside the task's readable regions, else ALIGN, else the value in its register, extended by
`ext` (R77, R128). -/
def loadInto (x : Slot) (n : Nat) (d a : GReg) (imm : BitVec 13) (ext : Nat → Word) (s : State) : Result :=
  onSpindle x 1 2 true (fun y s =>
    let addr := (y.address a imm).toNat
    if !mayRead (cop s) (declOf s y.task) addr n then trap x.sp.val 3 [] y s
    else if addr % n ≠ 0 then trap x.sp.val 2 [] y s
    else setAct x.sp.val (y.setG d (ext (ofBytes (readBytes s x.sp.val addr n)))).step s) s

/-- A store of the low `n` bytes of a register: BOUNDS outside the task's own regions, the constants among them, else ALIGN
(R77, R78, R128). -/
def storeFrom (x : Slot) (n : Nat) (data a : GReg) (imm : BitVec 13) (s : State) : Result :=
  onSpindle x 1 1 true (fun y s =>
    let addr := (y.address a imm).toNat
    if !mayWrite (declOf s y.task) addr n then trap x.sp.val 3 [] y s
    else if addr % n ≠ 0 then trap x.sp.val 2 [] y s
    else setAct x.sp.val y.step (writeBytes x.sp.val addr (bytesOf n (y.getG data).toNat) s)) s

/-- ldw (R128). -/
def execLdw (x : Slot) (d a : GReg) (imm : BitVec 13) (s : State) : Result :=
  loadInto x 4 d a imm (BitVec.ofNat 32) s

/-- ldh, sign-extended (R128). -/
def execLdh (x : Slot) (d a : GReg) (imm : BitVec 13) (s : State) : Result :=
  loadInto x 2 d a imm (fun n => (BitVec.ofNat 16 n).signExtend 32) s

/-- ldhu, zero-extended (R128). -/
def execLdhu (x : Slot) (d a : GReg) (imm : BitVec 13) (s : State) : Result :=
  loadInto x 2 d a imm (fun n => (BitVec.ofNat 16 n).zeroExtend 32) s

/-- ldb, sign-extended (R128). -/
def execLdb (x : Slot) (d a : GReg) (imm : BitVec 13) (s : State) : Result :=
  loadInto x 1 d a imm (fun n => (BitVec.ofNat 8 n).signExtend 32) s

/-- ldbu, zero-extended (R128). -/
def execLdbu (x : Slot) (d a : GReg) (imm : BitVec 13) (s : State) : Result :=
  loadInto x 1 d a imm (fun n => (BitVec.ofNat 8 n).zeroExtend 32) s

/-- stw (R128). -/
def execStw (x : Slot) (data a : GReg) (imm : BitVec 13) (s : State) : Result := storeFrom x 4 data a imm s

/-- sth (R128). -/
def execSth (x : Slot) (data a : GReg) (imm : BitVec 13) (s : State) : Result := storeFrom x 2 data a imm s

/-- stb (R128). -/
def execStb (x : Slot) (data a : GReg) (imm : BitVec 13) (s : State) : Result := storeFrom x 1 data a imm s

/-- ldc: the word at the constants region's base + 4 × imm; an index beyond the region traps BOUNDS (R128). -/
def execLdc (x : Slot) (d : GReg) (imm : BitVec 13) (s : State) : Result :=
  onSpindle x 1 2 true (fun y s =>
    let i := image (cop s) (declOf s y.task).spindle
    if i.consts.length ≤ imm.toNat then trap x.sp.val 3 [] y s
    else
      setAct x.sp.val (y.setG d (BitVec.ofNat 32
        (ofBytes (readBytes s x.sp.val (i.constBase + 4 * imm.toNat) 4)))).step s) s

/-! ### Control flow (R124 to R127) -/

/-- br: forward by imm, counted from the br itself; imm 0 is no defined encoding (R124). -/
def execBr (x : Slot) (imm : BitVec 13) (s : State) : Result :=
  onSpindle x 1 2 (decide (imm ≠ 0)) (fun y s => setAct x.sp.val { y with pc := y.pc + imm.zeroExtend 14 } s) s

/-- loop (R113, R125): the count is imm, or the register held against imm as its maximum, past which it traps LOOPMAX; a count
of zero or a false guard passes the matching next. A loop without a next is no defined code. -/
def execLoop (x : Slot) (a : GReg) (imm : BitVec 13) (s : State) : Result :=
  let ends := fun (y : Activation) => loopEnd (image (cop s) x.sp.val).code y.pc
  .next <|
  match SMap.find s.core.acts x.sp.val with
  | none => s
  | some y =>
    if y.wait.isSome then s
    else match ends y with
    | none => trap x.sp.val 7 [] y s
    | some e =>
      if a ≠ 0 && imm = 0 then trap x.sp.val 7 [] y s
      else if (declOf s y.task).budget < y.charged + 2 then trap x.sp.val 5 [] y s
      else
        let y := { y with charged := y.charged + 2 }
        let count := if a = 0 then imm.toNat else (y.getG a).toNat
        if !y.getP x.p then setAct x.sp.val { y with pc := e + 1 } s
        else if a ≠ 0 && imm.toNat < count then trap x.sp.val 4 [] y s
        else if count = 0 then setAct x.sp.val { y with pc := e + 1 } s
        else setAct x.sp.val { y with loops := { start := y.pc, next := e, left := count } :: y.loops }.step s

/-- next: another iteration, for which the loop instruction is charged its 2 again, or out of the body (R125). Outside every
body it is no defined code. -/
def execNext (x : Slot) (s : State) : Result :=
  onSpindle x 1 0 true (fun y s =>
    match y.loops with
    | [] => trap x.sp.val 7 [] y s
    | f :: r =>
      if f.left ≤ 1 then setAct x.sp.val { y with loops := r }.step s
      else if (declOf s y.task).budget < y.charged + 2 then trap x.sp.val 5 [] { y with pc := f.start } s
      else setAct x.sp.val { y with
        charged := y.charged + 2, loops := { f with left := f.left - 1 } :: r, pc := f.start + 1 } s) s

/-- brk: out of the innermost body, behind its next (R126). -/
def execBrk (x : Slot) (s : State) : Result :=
  onSpindle x 1 2 true (fun y s =>
    match y.loops with
    | [] => trap x.sp.val 7 [] y s
    | f :: r => setAct x.sp.val { y with loops := r, pc := f.next + 1 } s) s

/-- end: the activation completes (R126). -/
def execEnd (x : Slot) (s : State) : Result :=
  onSpindle x 1 1 true (fun y s => finish x.sp.val y s) s

/-- trap: cause TRAP, its immediate in the record (R127). -/
def execTrap (x : Slot) (imm : BitVec 13) (s : State) : Result :=
  onSpindle x 1 1 true (fun y s => trap x.sp.val 1 [zext13 imm] y s) s

/-- bar n: the activation waits for every participant of its ti, or traps BARRIER where a partner has trapped or is stopped;
level T2 (R138). -/
def execBar (x : Slot) (n : Fin 16) (s : State) : Result :=
  onSpindle x 2 4 true (fun y s =>
    if barrierBroken s n.val y.ti then trap x.sp.val 6 [] y s
    else
      setAct x.sp.val { y with wait := some (.barrier n.val) }
        { s with core := { s.core with barriers := (n.val, y.ti, y.task) :: s.core.barriers } }) s

/-- BARRIER_RESUME: once every participant has executed bar n for a ti, those waiting go on (R138). -/
def execBarrierResume (t : Time) (group : Fin 16) (ti : Time) (s : State) : Result :=
  let s := advanceTo t s
  .next <|
  if barrierFull s group.val ti then
    { s with core := { s.core with
      acts := s.core.acts.map fun e =>
        if e.2.wait = some (.barrier group.val) ∧ e.2.ti = ti then
          (e.1, { e.2 with wait := none, passed := group.val :: e.2.passed, pc := e.2.pc + 1 })
        else e
      barriers := s.core.barriers.filter fun b => !(decide (b.1 = group.val) && decide (b.2.1 = ti)) } }
  else s

/-- time.ti: a half of ti (R74, R137). -/
def execTimeTi (x : Slot) (d : GReg) (hi : Bool) (s : State) : Result :=
  onRegs x 1 1 (fun y => y.setG d (if hi then hi32 y.ti else lo32 y.ti)) s

/-- time.now: device time bits 31:0 with bits 63:32 captured, or the captured half (R74, R137). -/
def execTimeNow (x : Slot) (d : GReg) (hi : Bool) (s : State) : Result :=
  onSpindle x 1 6 true (fun y s =>
    if hi then setAct x.sp.val (y.setG d y.nowShadow).step s
    else setAct x.sp.val ({ y with nowShadow := hi32 s.sun.time }.setG d (lo32 s.sun.time)).step s) s

end Sys2Proof.Machine
end

