-- ==== Sys2Proof/Machine/Signals.lean ====
section
/-! DEFINITION. Meanings of the signal and Bobbin instructions (R83 to R85, R97 to R106, R129 to R132). -/
namespace Sys2Proof.Machine

/-- Selectors of a signal read: VALUE, status code, age. -/
def Picked.pick (p : Picked) : Nat → Word
  | 0 => p.value
  | 1 => p.status
  | _ => p.age

/-- A read of a signal handle whose charge is taken (R84, R129, R130): HANDLE outside the task's list; the same sample for every
read of one handle in one activation; else a wait where the signal's writer is behind; else the sample is selected. -/
def readHandle (sp : Nat) (d : GReg) (sel handle : Nat) (y : Activation) (s : State) : State :=
  match (declOf s y.task).sigs[handle]? with
  | none => trap sp 8 [] { y with wait := none } s
  | some h =>
    match SMap.find y.picked handle with
    | some p => setAct sp (({ y with wait := none }.setG d (p.pick sel)).step) s
    | none =>
      if mustWait s y.task h.signal y.ti then setAct sp { y with wait := some (.signal d sel handle) } s
      else
        let (p, s) := readSignal (some y.task) h.signal h.fallback y.ti y.start s
        setAct sp (({ y with wait := none, picked := SMap.insert y.picked handle p }.setG d (p.pick sel)).step) s

/-- A signal read instruction. -/
def readInto (x : Slot) (level : Nat) (d : GReg) (h : Byte) (ix : GReg) (sel : Nat) (s : State) : Result :=
  onSpindle x level 20 true (fun y s => readHandle x.sp.val d sel (y.handle h ix) y s) s

/-- sig.rd (R129). -/
def execSigRd (x : Slot) (d : GReg) (h : Byte) (ix : GReg) (s : State) : Result := readInto x 1 d h ix 0 s

/-- sig.st (R129). -/
def execSigSt (x : Slot) (d : GReg) (h : Byte) (ix : GReg) (s : State) : Result := readInto x 1 d h ix 1 s

/-- sig.age; level T2 (R129). -/
def execSigAge (x : Slot) (d : GReg) (h : Byte) (ix : GReg) (s : State) : Result := readInto x 2 d h ix 2 s

/-- sig.wr: writes source A with STAMP = ti and status VALID or SUBSTITUTED, any other status code being no defined encoding
(R129, R130); the store keeps or refuses it (R97, R98). -/
def execSigWr (x : Slot) (ix : GReg) (h : Byte) (st : BitVec 4) (a : GReg) (s : State) : Result :=
  onSpindle x 1 12 (decide (st = 0) || decide (st = 4)) (fun y s =>
    match (declOf s y.task).sigs[y.handle h ix]? with
    | none => trap x.sp.val 8 [] y s
    | some g =>
      setAct x.sp.val y.step
        (land g.signal (.task y.task) (y.getG a) y.ti (if st = 0 then .valid else .substituted) s)) s

/-- Whether `n` bytes at an address lie in the task's keep or scratch region; no bytes leave none (R132). -/
def bufferOk (d : TaskDecl) (addr n : Nat) : Bool := decide (n = 0) || mayWrite d addr n

/-- bob.push: an entry of g[len] bytes from g[addr], with STAMP = ti; the predicate tells whether it was accepted (R106, R131,
R132). -/
def execBobPush (x : Slot) (d : PReg) (b : Fin 16) (addr len : GReg) (s : State) : Result :=
  onSpindle x 1 100 true (fun y s =>
    let dl := declOf s y.task
    match dl.bobs[b.val]? with
    | none => trap x.sp.val 8 [] y s
    | some n =>
      let at_ := (y.getG addr).toNat
      let k := (y.getG len).toNat
      if 1408 < k || !bufferOk dl at_ k then trap x.sp.val 3 [] y s
      else
        let (ok, s) := offer n y.ti 0 (readBytes s x.sp.val at_ k) s
        setAct x.sp.val (y.setP d ok).step s) s

/-- bob.pop: at most g[len] payload bytes of the head entry to g[addr], the entry removed, its LENGTH in the destination;
0xFFFF_FFFF on an empty Bobbin (R131, R132). Its memory range is the g[len] bytes of the buffer, whatever the entry's length, on an empty
Bobbin too (DEDUCED, log entry 92). -/
def execBobPop (x : Slot) (d : GReg) (b : Fin 16) (addr len : GReg) (s : State) : Result :=
  onSpindle x 1 110 true (fun y s =>
    let dl := declOf s y.task
    match dl.bobs[b.val]? with
    | none => trap x.sp.val 8 [] y s
    | some n =>
      let at_ := (y.getG addr).toNat
      let k := (y.getG len).toNat
      if !bufferOk dl at_ k then trap x.sp.val 3 [] y s
      else match popBob n s with
        | (none, s) => setAct x.sp.val (y.setG d 0xFFFFFFFF).step s
        | (some e, s) =>
          setAct x.sp.val (y.setG d (BitVec.ofNat 32 e.bytes.length)).step
            (writeBytes x.sp.val at_ (e.bytes.take k) s)) s

/-- Fields of a head descriptor by bob.peek's selector (R131). -/
def BobEntry.peek (e : BobEntry) : Nat → Word
  | 0 => BitVec.ofNat 32 e.bytes.length
  | 1 => e.seq.zeroExtend 32
  | 2 => e.aux.zeroExtend 32
  | 3 => lo32 e.stamp
  | _ => hi32 e.stamp

/-- bob.peek: a field of the head descriptor, 0xFFFF_FFFF on an empty Bobbin; a selector above 4 is no defined encoding
(R131). -/
def execBobPeek (x : Slot) (d : GReg) (b : Fin 16) (sel : BitVec 5) (s : State) : Result :=
  onSpindle x 1 10 (decide (sel.toNat ≤ 4)) (fun y s =>
    match (declOf s y.task).bobs[b.val]? with
    | none => trap x.sp.val 8 [] y s
    | some n =>
      match (bob s n).entries with
      | [] => setAct x.sp.val (y.setG d 0xFFFFFFFF).step s
      | (_, e) :: _ => setAct x.sp.val (y.setG d (e.peek sel.toNat)).step s) s

/-- BOBBIN_WAIT_RESUME: a producer under WAIT places its held entry once contiguous space exists, the Strike unit its oldest
one (R106, R205). -/
def execBobbinWaitResume (t : Time) (b : Nat) (s : State) : Result :=
  let s := advanceTo t s
  .next <|
  match bobDecl s b, (bob s b).held with
  | some d, e :: r =>
    match { bob s b with held := r }.place d.size e with
    | some x => setBob b x s
    | none => s
  | _, _ => if s.lanes.gate && decide ((cop s).strikeBobbin = some b) then strikeDeliver b s else s

end Sys2Proof.Machine
end

