-- ==== Sys2Proof/Machine/Twist.lean ====
section
/-! DEFINITION. Twist units: what a step computes (R141 to R158), the law instructions (R133, R134), and the clear of a
repetitive table (R164). Every operation is one binary32 operation in the order written (R142). -/
namespace Sys2Proof.Machine

/-- Key of a loop and of a table: unit × 64 + loop, unit × 16 + table. -/
def loopKey (unit loop : Nat) : Nat := unit * 64 + loop
def tableKey (unit table : Nat) : Nat := unit * 16 + table

/-- Declarations of loops and tables. -/
def loopDecl (c : Cop) (unit loop : Nat) : Option LoopDecl :=
  c.loops.find? fun d => decide (d.unit = unit) && decide (d.loop = loop)
def tableDecl (c : Cop) (unit table : Nat) : Option TableDecl :=
  c.tables.find? fun d => decide (d.unit = unit) && decide (d.table = table)

/-- Loop and table state. -/
def loopSt (s : State) (k : Nat) : LoopSt := SMap.get s.core.loops {} k
def setLoop (k : Nat) (x : LoopSt) (s : State) : State :=
  { s with core := { s.core with loops := SMap.put s.core.loops {} k x } }
def tableSt (s : State) (k : Nat) : TableSt := SMap.get s.core.tables {} k
def setTable (k : Nat) (x : TableSt) (s : State) : State :=
  { s with core := { s.core with tables := SMap.put s.core.tables {} k x } }

/-- Spindles bound to a unit (R91). -/
def bound (c : Cop) (unit : Nat) : List Nat := ((c.bindings.find? fun b => decide (b.1 = unit)).map (·.2)).getD []

/-- The derived values tf, ad, bd and rstep (R144). -/
def hasD (d : LoopDecl) : Bool := decide (d.type = .pd) || decide (d.type = .pid)
def hasI (d : LoopDecl) : Bool := decide (d.type = .pi) || decide (d.type = .pid)
def tf (d : LoopDecl) : Word := if (hasD d) then fdiv (fdiv d.kd d.kp) d.n else 0
def ad (d : LoopDecl) : Word := if (hasD d) then fdiv (tf d) (fadd (tf d) d.h) else 0
def bd (d : LoopDecl) : Word := if (hasD d) then fdiv d.kd (fadd (tf d) d.h) else 0
def rstep (d : LoopDecl) : Word := if flt 0 d.rate then fmul d.rate d.h else fInf false

/-- The mode in force and modebad: a staged mode outside 0 to 2 leaves the previous one (R147). -/
def LoopSt.modeNow (st : LoopSt) : Nat × Bool :=
  if st.mode.toNat ≤ 2 then (st.mode.toNat, false) else (st.modeIn, true)

/-- The activation that steps a loop: its task, what the task declares, ti and the start instant. -/
structure Stepper where
  task : Nat
  decl : TaskDecl
  ti : Time
  start : Time

/-- The readback value of an output handle's channel, from its die (R143, R150); a handle that the task does not declare, which
validation refuses (R160), reads +0.0. -/
def dieValue (s : State) (by_ : Stepper) (handle : Nat) : Word :=
  match by_.decl.outs[handle]? with
  | some (.lsw n) => fOfRat (SMap.get s.outs.lsw {} n).duty.toNat 1024
  | some (.sol n) => fOfRat (SMap.get s.outs.sol {} n).measured.toNat 1000
  | none => 0

/-- u0 for an initialisation (R149, R150). -/
def startValue (s : State) (by_ : Stepper) (d : LoopDecl) (st : LoopSt) (c : InitCause) : Word :=
  match c with
  | .auto => st.u
  | _ =>
    match d.readback with
    | .none => if c = .switchOver then st.u else 0
    | .pwmDuty | .solCurrent => fmul d.rbScale (dieValue s by_ d.rbA)
    | .solPair => fmul d.rbScale (fsub (dieValue s by_ d.rbA) (dieValue s by_ d.rbB))

/-- Whether a loop's pending initialisation is due in a step of this mode (R149). -/
def LoopSt.due (st : LoopSt) (mode : Nat) : Option InitCause :=
  match st.init with
  | some .auto => if mode = 0 then some .auto else none
  | c => c

/-- After a step in MANUAL or TRACK the first step in AUTO initialises; an initialisation already pending stays (R149). -/
def LoopSt.afterMode (st : LoopSt) (mode : Nat) : LoopSt :=
  { st with modeIn := mode, init := if mode ≠ 0 && st.init.isNone then some .auto else st.init }

/-- Output limits of a step: hi, lo and limx (R145). -/
def limits (d : LoopDecl) (ulim llim : Word) : Word × Word × Bool :=
  let hi := fmin d.outHi ulim
  let lo := fmax d.outLo llim
  if flt hi lo then (hi, hi, true) else (hi, lo, false)

/-- A value clamped between limits. -/
def clampF (v lo hi : Word) : Word := fmin (fmax v lo) hi

/-- One step of a loop on given inputs (R145 to R149, R155), without its table: the loop's new state and flags, and whether the
step was held. `u0` is the start value of an initialisation that is due. -/
def stepLoop (d : LoopDecl) (st : LoopSt) (sp pv ff man trk ulim llim : Word) (mode : Nat) (modebad : Bool)
    (rc : Word) (u0 : Option Word) (omitKi : Bool) : LoopSt × TwistFlags × Bool :=
  let (hi, lo, limx) := limits d ulim llim
  let e := fsub sp pv
  let ep := fsub (fmul d.b sp) pv
  let ed := fsub (fmul d.c sp) pv
  let (u, dd, edPrev, i) := match u0 with
    | some u0 =>
      let u := clampF u0 lo hi
      (u, (0 : Word), ed, fsub (fsub (fsub u (fmul d.kp ep)) ff) rc)
    | none => (st.u, st.d, st.edPrev, st.i)
  let dd := if (hasD d) then fadd (fmul (ad d) dd) (fmul (bd d) (fsub ed edPrev)) else dd
  let va := fadd (fadd (fadd (fadd (fmul d.kp ep) i) dd) ff) rc
  let v := if mode = 0 then va else if mode = 1 then man else trk
  let held := if mode = 0 then isNan sp || isNan pv || isNan ff || isNan va else isNan v
  if held then
    let f : TwistFlags := { nanhold := true, modebad := modebad, limx := limx }
    ({ st with flags := f.word }.afterMode mode, f, true)
  else
    let vr := if mode = 2 then v else fmin (fmax v (fsub u (rstep d))) (fadd u (rstep d))
    let un := clampF vr lo hi
    let ki := if omitKi then i else fadd i (fmul d.kiH e)
    let inew := if mode = 0 && (hasI d) then fadd ki (fmul d.ktH (fsub un va)) else i
    let f : TwistFlags :=
      { hi := feq un hi, lo := feq un lo, rate := !feq vr v, inited := u0.isSome, modebad := modebad, limx := limx }
    (({ st with
        i := inew, d := dd, edPrev := ed, u := un, va := va, e := e, rc := rc, flags := f.word
        init := if u0.isSome then none else st.init
        atHi := feq un hi, atLo := feq un lo }).afterMode mode, f, false)

/-! ### Repetitive tables (R151 to R153) -/

/-- Whether the swept way from PREV to θ goes forward, and how many bins it enters: the shorter way round. -/
def sweep (prev θ : Nat) : Bool × Nat :=
  let n := (θ + 1024 - prev) % 1024
  if n < 512 then (true, n) else if n = 512 then (Config.halfTurnForward, 512) else (false, 1024 - n)

/-- BETA (R151). -/
def beta (d : TableDecl) : Word := fsub 0x3F800000 (fadd d.alpha d.alpha)

/-- The learned value of one bin, from the table before the step (R153). -/
def learnBin (d : TableDecl) (bins : SMap Word) (e : Word) (j : Nat) : Word :=
  let at_ := fun k => SMap.get bins 0 (k % 1024)
  let sm := fadd (fadd (fmul d.alpha (at_ (j + 1023))) (fmul (beta d) (at_ j))) (fmul d.alpha (at_ (j + 1)))
  clampF (fadd (fmul d.rho sm) (fmul d.gamma e)) (fneg d.tmax) d.tmax

/-- Bins learned: at most 16, nearest θ, from `k` bins behind θ. -/
def learnBins (d : TableDecl) (old : SMap Word) (e : Word) (fwd : Bool) (θ : Nat) : Nat → SMap Word → SMap Word
  | 0, m => m
  | k + 1, m =>
    let j := (if fwd then θ + 1024 - k else θ + k) % 1024
    learnBins d old e fwd θ k (SMap.put m 0 j (learnBin d old e j))

/-- What the angle signal says (R152): the bin, none where its status is bad. -/
def readAngle (d : TableDecl) (by_ : Stepper) (s : State) : Option Nat × State :=
  let (p, s) := readSignal (some by_.task) d.angle.signal d.angle.fallback by_.ti by_.start s
  (if goodStatus p.status then some (field p.value 9 0) else none, s)

/-- A table after a step that was not held: PREV, the learned bins, and whether bins were learned or skipped (R153). A sweep of more than
16 bins is clipped, flagged and counted where learning takes place, and only there (DEDUCED, log entry 94). -/
def afterStep (d : TableDecl) (t : TableSt) (θ : Option Nat) (mode : Nat) (st : LoopSt) : TableSt × Bool × Bool :=
  match θ with
  | none => ({ t with prev := none }, false, false)
  | some b =>
    match t.prev with
    | none => ({ t with prev := some b }, false, false)
    | some p =>
      let (fwd, n) := sweep p b
      if mode = 0 && feq st.u st.va && 0 < n then
        ({ prev := some b, bins := learnBins d t.bins st.e fwd b (min n 16) t.bins }, true, decide (16 < n))
      else ({ t with prev := some b }, false, false)

/-- The table in use of a loop (R151): bound to it, declared and with EN set. -/
def tableOf (c : Cop) (d : LoopDecl) : Option TableDecl :=
  if d.rcEn then (tableDecl c d.unit d.rcTable).bind fun t => if t.en then some t else none else none

/-- What a step reads of its table (R152): the declaration, the bin, and the repetitive contribution. -/
structure TableRead where
  table : Option TableDecl := none
  θ : Option Nat := none
  rc : Word := 0

/-- The angle is read as of ti, and the contribution before this step's learning (R152). -/
def readTable (d : LoopDecl) (by_ : Stepper) (s : State) : TableRead × State :=
  match tableOf (cop s) d with
  | none => ({}, s)
  | some t =>
    let (θ, s) := readAngle t by_ s
    let rc : Word := match θ with
      | some b => SMap.get (tableSt s (tableKey d.unit d.rcTable)).bins 0 ((b + t.lead) % 1024)
      | none => 0
    ({ table := some t, θ := θ, rc := rc }, s)

/-- What follows a step for its table (R152, R153): the table learns, and the flags say so; a held step changes nothing. -/
def learnTable (d : LoopDecl) (r : TableRead) (held : Bool) (mode : Nat) (st : LoopSt) (f : TwistFlags) (s : State) : TwistFlags × State :=
  match r.table with
  | none => (f, s)
  | some t =>
    if held then (f, s)
    else
      let k := tableKey d.unit d.rcTable
      let (x, learned, skip) := afterStep t (tableSt s k) r.θ mode st
      let s := setTable k x s
      ({ f with rcoff := r.θ.isNone, learned := learned, rcskip := skip }, if skip then bump 0x00090014 0 s else s)

/-! ### A law.step (R145, R154 to R157) -/

/-- A signal that a unit reads by itself. Where none is named it is +0.0: so R154 says of an inner loop's ff, and so the model reads PV_SIG
and SP_SIG (DESIGN CHOICE, log entry 94). -/
def readUnit (u : Option UnitSig) (by_ : Stepper) (s : State) : Word × State :=
  match u with
  | some g => let (p, s) := readSignal (some by_.task) g.signal g.fallback by_.ti by_.start s; (p.value, s)
  | none => (0, s)

/-- A held step counts (R146). -/
def countHeld (held : Bool) (s : State) : State := if held then bump 0x00090010 0 s else s

/-- One step of a SINGLE loop on its staged inputs, with its table (R145, R152, R153). -/
def stepSingle (d : LoopDecl) (by_ : Stepper) (s : State) : State :=
  let k := loopKey d.unit d.loop
  let (r, s) := readTable d by_ s
  let st := loopSt s k
  let (mode, bad) := st.modeNow
  let u0 := (st.due mode).map (startValue s by_ d st)
  let (st', f, held) := stepLoop d st st.sp st.pv st.ff st.man st.trk st.ulim st.llim mode bad r.rc u0 false
  let (f, s) := learnTable d r held mode st' f s
  countHeld held (setLoop k { st' with flags := f.word } s)

/-- Whether the outer loop of a cascade runs in a step: its phase is anchored to device time (R154); `p` is the period of the stepping task,
in ns. -/
def outerRuns (inner : LoopDecl) (p : Nat) (ti : Time) : Bool := decide (ti.toNat / p % inner.k = 0)

/-- The stepping period of an activation, in ns. -/
def Stepper.periodNs (by_ : Stepper) : Nat := by_.decl.period * 100000

/-- The outer loop of a cascade on a step on which it runs (R154, R155): TRACK to the inner loop's pv outside AUTO; the integral term of e is
left out, with caschold, where the inner loop's previous step ended at a limit. -/
def stepOuter (d : LoopDecl) (by_ : Stepper) (mode : Nat) (bad : Bool) (pv : Word) (limited : Bool) (s : State) :
    (LoopSt × TwistFlags × Bool) × State :=
  let so := loopSt s (loopKey d.unit d.loop)
  let (r, s) := readTable d by_ s
  let omode := if mode = 0 then 0 else 2
  let u0 := (so.due omode).map (startValue s by_ d so)
  let (so', f, held) := stepLoop d so so.sp so.pv so.ff so.man pv so.ulim so.llim omode bad r.rc u0 limited
  let (f, s) := learnTable d r held omode so' f s
  (({ so' with modeIn := mode }, { f with caschold := limited && !held }, held), s)

/-- The inner step of a cascade, with the mode and the MANUAL and TRACK values of the pair and the setpoint `isp` that the outer loop left;
`o` is the outer loop with its flags and whether it was held (R154, R157). -/
def stepInner (d inner : LoopDecl) (by_ : Stepper) (m : Nat × Bool) (x : Word × Word) (isp : Word) (o : LoopSt × TwistFlags × Bool)
    (pv ff : Word) (s : State) : State :=
  let ki := loopKey inner.unit inner.loop
  let (r, s) := readTable inner by_ s
  let si := loopSt s ki
  let ui := (si.due m.1).map (startValue s by_ inner si)
  let y := stepLoop inner { si with sp := isp } isp pv ff x.1 x.2 (fInf false) (fInf true) m.1 m.2 r.rc ui false
  let (fi, s) := learnTable inner r y.2.2 m.1 y.1 y.2.1 s
  let fo := o.2.1
  let f : TwistFlags := { fo with
    rate := fo.rate || fi.rate, nanhold := fo.nanhold || fi.nanhold, inited := fo.inited || fi.inited
    rcoff := fo.rcoff || fi.rcoff, rcskip := fo.rcskip || fi.rcskip, learned := fo.learned || fi.learned
    limx := fo.limx || fi.limx, innerLo := fi.lo, innerHi := fi.hi }
  countHeld (y.2.2 || o.2.2) (setLoop ki y.1 (setLoop (loopKey d.unit d.loop) { o.1 with flags := f.word } s))

/-- One step of a cascade, named by its outer loop (R154, R155). Bits 1:0 of the flags word are the outer loop's; on a step on which it does
not run they are clear. The step counts once in TWI_NANHOLD where either loop is held (DEDUCED, log entry 94). -/
def stepCascade (d : LoopDecl) (inner : LoopDecl) (by_ : Stepper) (s : State) : State :=
  let (pv, s) := readUnit inner.pvSig by_ s
  let (ff, s) := readUnit inner.ffSig by_ s
  let so := loopSt s (loopKey d.unit d.loop)
  let si := loopSt s (loopKey inner.unit inner.loop)
  let m := so.modeNow
  let runs := outerRuns inner by_.periodNs by_.ti
  if runs then
    let x := stepOuter d by_ m.1 m.2 pv (si.atHi || si.atLo) s
    stepInner d inner by_ m (so.man, so.trk) x.1.1.u x.1 pv ff x.2
  else stepInner d inner by_ m (so.man, so.trk) si.sp (so.afterMode m.1, { modebad := m.2 }, false) pv ff s

/-- A member of a min-select group as one step evaluates it (R156). -/
structure MemberEval where
  d : LoopDecl
  st : LoopSt
  ff : Word
  e : Word
  ep : Word
  ed : Word
  i : Word
  dd : Word
  va : Word
  w : Word

/-- Evaluation of one member before the selection; `u` is the group's output that an initialisation starts from. -/
def evalMember (d : LoopDecl) (st : LoopSt) (sp pv ff u : Word) (init : Bool) : MemberEval :=
  let e := fsub sp pv
  let ep := fsub (fmul d.b sp) pv
  let ed := fsub (fmul d.c sp) pv
  let (dd, edPrev, i) :=
    if init then ((0 : Word), ed, fsub (fsub (fsub u (fmul d.kp ep)) ff) 0) else (st.d, st.edPrev, st.i)
  let dd := if (hasD d) then fadd (fmul (ad d) dd) (fmul (bd d) (fsub ed edPrev)) else dd
  let va := fadd (fadd (fadd (fadd (fmul d.kp ep) i) dd) ff) 0
  { d := d, st := st, ff := ff, e := e, ep := ep, ed := ed, i := i, dd := dd, va := va
    w := fmin (fmax va d.outLo) d.outHi }

/-- The lowest w over members whose va is not NaN, the lowest index on a tie. -/
def selectMember : List MemberEval → Option MemberEval → Option MemberEval
  | [], b => b
  | m :: r, b =>
    if isNan m.va then selectMember r b
    else match b with
      | none => selectMember r (some m)
      | some x => selectMember r (if flt m.w x.w then some m else some x)

/-- The inputs of the members behind the head, read as of ti (R156). -/
def readMembers (by_ : Stepper) : List LoopDecl → State → List (LoopDecl × Word × Word × Word) × State
  | [], s => ([], s)
  | d :: r, s =>
    let (sp, s) := readUnit d.spSig by_ s
    let (pv, s) := readUnit d.pvSig by_ s
    let (ff, s) := readUnit d.ffSig by_ s
    let (l, s) := readMembers by_ r s
    ((d, sp, pv, ff) :: l, s)

/-- A member after the group's step: the winner in AUTO back-calculates, the others track; a member whose va is NaN keeps its
state, and its initialisation stays pending (R149, R156). u and flags are the group's and stand with the head: those of the other members
are never written and read as at cop load (DESIGN CHOICE, log entry 94). -/
def memberAfter (mode sel : Nat) (u : Word) (m : MemberEval) : LoopSt :=
  if isNan m.va then
    { m.st with init := if m.st.init.isSome then some .auto else m.st.init }.afterMode mode
  else
    let win := decide (m.d.member = sel) && decide (mode = 0)
    let i := if win then
        (if (hasI m.d) then fadd (fadd m.i (fmul m.d.kiH m.e)) (fmul m.d.ktH (fsub u m.va)) else m.i)
      else fsub (fsub (fsub u (fmul m.d.kp m.ep)) m.dd) m.ff
    { m.st with i := i, d := m.dd, edPrev := m.ed, va := m.va, e := m.e, rc := 0, init := none }.afterMode mode

/-- One step of a min-select group, named by its head (R156): held where every member's va is NaN, or man or trk in the mode that needs it
(R146); a held step too is one after which a return to AUTO initialises every member (R149). -/
def stepGroup (d : LoopDecl) (by_ : Stepper) (s : State) : State :=
  let others := sortBy (fun p q => p.member ≤ q.member) <| (cop s).loops.filter fun m =>
    decide (m.unit = d.unit) && decide (m.nest = .member) && decide (m.link = d.loop) && decide (m.loop ≠ d.loop)
  let (ins, s) := readMembers by_ others s
  let kh := loopKey d.unit d.loop
  let h := loopSt s kh
  let (mode, bad) := h.modeNow
  let (hi, lo, limx) := limits d h.ulim h.llim
  let u0 := (h.due mode).map (startValue s by_ d h)
  let u := match u0 with
    | some v => clampF v lo hi
    | none => h.u
  let evalOf := fun (m : LoopDecl) (sp pv ff : Word) =>
    let st := loopSt s (loopKey m.unit m.loop)
    evalMember m st sp pv ff u (st.due mode).isSome
  let ms := evalOf d h.sp h.pv h.ff :: ins.map fun q => evalOf q.1 q.2.1 q.2.2.1 q.2.2.2
  let best := selectMember ms none
  let v := if mode = 0 then (best.map (·.w)).getD nan else if mode = 1 then h.man else h.trk
  let anyNan := ms.any fun m => isNan m.va
  if isNan v || best.isNone then
    let f : TwistFlags := { nanhold := true, modebad := bad, limx := limx }
    let s := ms.foldl (fun s m => setLoop (loopKey m.d.unit m.d.loop) (m.st.afterMode mode) s) s
    countHeld true (setLoop kh { loopSt s kh with flags := f.word } s)
  else
    let vr := if mode = 2 then v else fmin (fmax v (fsub u (rstep d))) (fadd u (rstep d))
    let un := clampF vr lo hi
    let sel := (best.map fun m => m.d.member).getD 0
    let f : TwistFlags :=
      { hi := feq un hi, lo := feq un lo, rate := !feq vr v, nanhold := anyNan, inited := u0.isSome
        modebad := bad, limx := limx, sel := sel }
    let s := ms.foldl (fun s m => setLoop (loopKey m.d.unit m.d.loop) (memberAfter mode sel un m) s) s
    setLoop kh { loopSt s kh with u := un, flags := f.word } s

/-- Signals that a unit reads in a step of a loop (R152, R154, R156, R157): an outer loop's angle only where that loop runs. -/
def unitSignals (c : Cop) (d : LoopDecl) (by_ : Stepper) : List Nat :=
  let of_ := fun (u : Option UnitSig) => (u.map (·.signal)).toList
  let angle := fun (d : LoopDecl) => ((tableOf c d).map (·.angle.signal)).toList
  match d.nest with
  | .outer => match loopDecl c d.unit d.link with
    | some i => of_ i.pvSig ++ of_ i.ffSig ++ angle i ++ if outerRuns i by_.periodNs by_.ti then angle d else []
    | none => angle d
  | .member => (c.loops.filter fun m => decide (m.unit = d.unit) && decide (m.nest = .member)
      && decide (m.link = d.loop) && decide (m.loop ≠ d.loop)).flatMap fun m => of_ m.spSig ++ of_ m.pvSig ++ of_ m.ffSig
  | _ => angle d

/-- One step of the loop that a handle names, by its nesting role. -/
def runLoop (d : LoopDecl) (by_ : Stepper) (s : State) : State :=
  let s := { s with core := { s.core with loadBusy := SMap.modify s.core.loadBusy 0 d.unit (· + 1) } }
  match d.nest with
  | .outer => match loopDecl (cop s) d.unit d.link with
    | some i => stepCascade d i by_ s
    | none => stepSingle d by_ s
  | .member => stepGroup d by_ s
  | _ => stepSingle d by_ s

/-- The loop a handle names. -/
def handleLoop (s : State) (y : Activation) (l : Nat) : Option LoopDecl :=
  match (declOf s y.task).loops[l]? with
  | some (u, n) => some ((loopDecl (cop s) u n).getD { unit := u, loop := n })
  | none => none

/-- law.step once its charge is taken: it waits where a signal the unit reads has a writer behind (R84, R157). -/
def stepHandle (sp l : Nat) (y : Activation) (s : State) : State :=
  match handleLoop s y l with
  | none => trap sp 8 [] { y with wait := none } s
  | some d =>
    let by_ : Stepper := { task := y.task, decl := declOf s y.task, ti := y.ti, start := y.start }
    if (unitSignals (cop s) d by_).any fun g => mustWait s y.task g y.ti then
      setAct sp { y with wait := some (.law l) } s
    else
      setAct sp { y with wait := none }.step (runLoop d by_ s)

/-- law.in: a staged input (R133, R134); selectors above 7 are no defined encoding. -/
def execLawIn (x : Slot) (l : BitVec 6) (sel : BitVec 4) (a : GReg) (s : State) : Result :=
  onSpindle x 1 2 (decide (sel.toNat ≤ 7)) (fun y s =>
    match handleLoop s y l.toNat with
    | none => trap x.sp.val 8 [] y s
    | some d =>
      let k := loopKey d.unit d.loop
      let st := loopSt s k
      let v := y.getG a
      let st := match sel.toNat with
        | 0 => { st with sp := v }
        | 1 => { st with pv := v }
        | 2 => { st with ff := v }
        | 3 => { st with man := v }
        | 4 => { st with mode := v }
        | 5 => { st with trk := v }
        | 6 => { st with ulim := v }
        | _ => { st with llim := v }
      setAct x.sp.val y.step (setLoop k st s)) s

/-- Charge of a law.step: 48 + 100 × (s − 1), s the Spindles bound to the loop's unit (R91). -/
def lawCharge (s : State) (x : Slot) (l : BitVec 6) : Nat :=
  match SMap.find s.core.acts x.sp.val with
  | some y => match handleLoop s y l.toNat with
    | some d => 48 + 100 * ((bound (cop s) d.unit).length - 1)
    | none => 48
  | none => 48

/-- law.step (R133, R141). -/
def execLawStep (x : Slot) (l : BitVec 6) (s : State) : Result :=
  onSpindle x 1 (lawCharge s x l) true (fun y s => stepHandle x.sp.val l.toNat y s) s

/-- What law.out reads: u of the actuator, the inner loop's for a cascade; e, i, rc and the flags of the named loop
(R133, R154, R156). -/
def lawResult (s : State) (d : LoopDecl) (sel : Nat) : Word :=
  let st := loopSt s (loopKey d.unit d.loop)
  match sel with
  | 0 => if d.nest = .outer then (loopSt s (loopKey d.unit d.link)).u else st.u
  | 1 => st.e
  | 2 => st.i
  | 3 => st.rc
  | _ => st.flags

/-- law.out: a result of the loop's latest step (R133, R134); selectors above 4 are no defined encoding. -/
def execLawOut (x : Slot) (d : GReg) (l : BitVec 6) (sel : BitVec 4) (s : State) : Result :=
  onSpindle x 1 2 (decide (sel.toNat ≤ 4)) (fun y s =>
    match handleLoop s y l.toNat with
    | none => trap x.sp.val 8 [] y s
    | some dl => setAct x.sp.val (y.setG d (lawResult s dl sel.toNat)).step s) s

/-- SIG_WAIT_RESUME: an activation that waited for a writer reads once the writer has caught up (R84). -/
def execSigWaitResume (t : Time) (sp : Fin 64) (s : State) : Result :=
  let s := advanceTo t s
  .next <|
  match SMap.find s.core.acts sp.val with
  | some y =>
    match y.wait with
    | some (.signal d sel h) => readHandle sp.val d sel h y s
    | some (.law l) => stepHandle sp.val l y s
    | _ => s
  | none => s

end Sys2Proof.Machine
end

