-- ==== Sys2Proof/Machine/Tasks.lean ====
section
/-! DEFINITION. Releases and starts of activations (R73, R78, R80 to R82, R86), and the part of a pending checkpoint that a
task's start puts aside (R309). -/
namespace Sys2Proof.Machine

/-- Loops that a declared handle brings into a step: itself, an outer's inner, a head's members. -/
def loopGroup (c : Cop) (h : Nat × Nat) : List Nat :=
  loopKey h.1 h.2 :: match loopDecl c h.1 h.2 with
    | some d => match d.nest with
      | .outer => [loopKey d.unit d.link]
      | .member => (c.loops.filter fun m => decide (m.unit = d.unit) && decide (m.nest = .member)
          && decide (m.link = d.loop)).map fun m => loopKey m.unit m.loop
      | _ => []
    | none => []

/-- Loops that a task's handles bring into its steps, and the tables that serve them, an inner loop's too (R151, R158). -/
def taskLoops (c : Cop) (d : TaskDecl) : List Nat := d.loops.flatMap (loopGroup c)
def taskTables (c : Cop) (d : TaskDecl) : List Nat :=
  ((c.tables.filter fun t => (taskLoops c d).contains (loopKey t.unit t.loop)).map fun t => tableKey t.unit t.table)

/-- The newest sample of a ring with a stamp before F (R309). -/
def newestBefore (r : SigRing) (f : Time) : Option Sample := r.samples.find? fun x => decide (x.stamp < f)

/-- Signals at their newest entry before F (R310). -/
def signalsBefore (s : State) (f : Time) (l : List Nat) (m : SMap Sample) : SMap Sample :=
  l.foldl (fun m i => match newestBefore (ring s i) f with
    | some x => SMap.insert m i x
    | none => m) m

/-- A task's part of a checkpoint, as it stands (R309, R310). -/
def taskPart (s : State) (n : Nat) (f : Time) : SavedTask :=
  let d := declOf s n
  { stopped := (taskOf s n).stopped
    keep := cellsIn s.core.sram (memKey d.spindle d.keepBase) d.keepSize
    signals := signalsBefore s f (writtenBy (cop s) fun w => decide (w = .task n)) []
    loops := (taskLoops (cop s) d).foldl (fun m k => SMap.insert m k (loopSt s k)) []
    tables := (taskTables (cop s) d).foldl (fun m k => SMap.insert m k (tableSt s k)) [] }

/-- Before its first activation with ti at or after a due boundary F, a task's part is put aside (R309). -/
def saveDue (n : Nat) (ti : Time) (s : State) : State :=
  match s.spool.due with
  | some f =>
    if f ≤ ti && (SMap.find s.spool.saved n).isNone then
      { s with spool := { s.spool with saved := SMap.insert s.spool.saved n (taskPart s n f) } }
    else s
  | none => s

/-- Whether tasks are released: the lane runs, and no boundary B behind which it makes no release has come (R386, R387). -/
def releases (s : State) : Bool := running s && s.upd.boundary.isNone

/-- TASK_RELEASE_PERIODIC: at a grid instant the task is released with that instant as ti, once (R80, R86). A stopped task gets
no release (R87). -/
def execTaskReleasePeriodic (t : Time) (task : Nat) (s : State) : Result :=
  let s := advanceTo t s
  .next <|
  match taskDecl s task with
  | none => s
  | some d =>
    let x := taskOf s task
    if !releases s || d.arrival || x.stopped || !onGrid d s.sun.time || decide (x.lastRelease = some s.sun.time) then s
    else release task s.sun.time false s

/-- TASK_RELEASE_ARRIVAL: the task is released for its Bobbin's next entry, SPACING after the release before (R81). -/
def execTaskReleaseArrival (t : Time) (task : Nat) (s : State) : Result :=
  let s := advanceTo t s
  .next <|
  match taskDecl s task with
  | none => s
  | some d =>
    let x := taskOf s task
    let spaced := match x.lastRelease with
      | some l => decide (l.toNat + d.spacingUs * 1000 ≤ s.sun.time.toNat)
      | none => true
    match (bob s d.bobbin).entries[(x.entries.filter (·.2)).length]? with
    | none => s
    | some (_, e) =>
      if !releases s || !d.arrival || x.stopped || !spaced then s else release task e.stamp true s

/-- The ready task of highest PRIORITY on a Spindle (R82): number, release, start instant. -/
def readyTask (s : State) (sp : Nat) : Option (Nat × TaskDecl × Time × Time) :=
  ((cop s).tasks.zipIdx).foldl (fun best e =>
    let d := e.1
    match (taskOf s e.2).pending with
    | [] => best
    | r :: _ =>
      let st := startInstant d r
      if d.spindle = sp && decide (st ≤ s.sun.time) then
        match best with
        | some b => if d.priority < b.2.1.priority then some (e.2, d, r.1, st) else best
        | none => some (e.2, d, r.1, st)
      else best) none

/-- ACTIVATION_START: a free Spindle starts its ready activation of highest PRIORITY with cleared registers and scratch, charged
40 cycles for dispatch and one per 64 B of scratch (R73, R78, R82, R90). -/
def execActivationStart (t : Time) (sp : Fin 64) (s : State) : Result :=
  let s := advanceTo t s
  .next <|
  if !running s || (SMap.find s.core.acts sp.val).isSome then s
  else match readyTask s sp.val with
  | none => s
  | some (n, d, ti, start) =>
    let s := saveDue n ti s
    let s := writeBytes sp.val d.scratchBase (List.replicate d.scratchSize 0) s
    setAct sp.val
      { task := n, ti := ti, start := start, pc := BitVec.ofNat 14 d.entry
        charged := 40 + (d.scratchSize + 63) / 64 } s

end Sys2Proof.Machine
end

