-- ==== Sys2Proof/Machine/Whorl.lean ====
section
/-! DEFINITION. What a loss or a change of the active lane means to the whole module: release of the Whorl, checkpoints, the
DAWN hold, the start of DUSK and of a warm-reset DAWN, and the journal steps of an update (R24 to R38, R51, R56, R304 to R316,
R383, R388, R390). -/
namespace Sys2Proof.Machine

/-- One major frame in ns; whether device time stands on a boundary (R7, R304). -/
def frameNs : Nat := 1000000
def atFrame (s : State) : Bool := decide (s.sun.time.toNat % frameNs = 0)

/-- One LKO cycle in ns (R7). -/
def lkoNs : Nat := 125

/-! ### Update journal (R388 to R391) -/

/-- The shared parts change over together, to the new set or back (R49, R388): die parameter bank, microcode (a differing one
restarts the baseband), waveform table. -/
def switchParts (toNew : Bool) (s : State) : State :=
  let differs := match s.upd.man with
    | some m => Config.microDiffers m.id
    | none => false
  let p := s.panel
  let s := { s with
    outs := { s.outs with newBank := !s.outs.newBank }
    panel := if toNew then { p with table := p.nextTable.getD p.table, oldTable := some p.table, nextTable := none }
      else { p with table := p.oldTable.getD p.table, oldTable := none } }
  if differs then
    let s := { s with gnss := { s.gnss with microNew := !s.gnss.microNew } }
    if s.gnss.run then restartBaseband s else s
  else s

/-- The settings as the calibration store holds them now (R391). -/
def settings (s : State) : Settings :=
  { limits := [s.tally.limit0, s.tally.limit1, s.tally.limit2, s.tally.limit3, s.tally.stagger]
    total := s.tally.total, waitMax := s.tally.waitMax, retryMax := s.outs.retryMax
    dirMaps := s.outs.lsw.foldl (fun m e => SMap.put m 0 e.1 e.2.dirMap) []
    gnssCfg := s.gnss.cfg, hdgCfg := s.gnss.hdgCfg, chain := s.upd.chain, upIp := s.upd.upIp, dnIp := s.upd.dnIp
    skeinKey := s.skein.key, triggers := s.skein.triggers, vcom := s.panel.vcom }

/-- The original copy of one settings record is in force again. -/
def restoreRecord (k : Settings) (n : Nat) (s : State) : State :=
  match n with
  | 0 =>
    let at_ := fun i => k.limits.getD i (.of 0)
    { s with tally := { s.tally with
      limit0 := at_ 0, limit1 := at_ 1, limit2 := at_ 2, limit3 := at_ 3, total := k.total, stagger := at_ 4, waitMax := k.waitMax } }
  | 1 => { s with outs := { s.outs with
      retryMax := k.retryMax
      lsw := (List.range 48).foldl (fun m n => SMap.put m {} n { SMap.get m {} n with dirMap := SMap.get k.dirMaps 0 n }) s.outs.lsw } }
  | 2 => { s with gnss := { s.gnss with cfg := k.gnssCfg, hdgCfg := k.hdgCfg } }
  | 3 => { s with upd := { s.upd with chain := k.chain, upIp := k.upIp, dnIp := k.dnIp } }
  | 4 => { s with skein := { s.skein with key := k.skeinKey, triggers := k.triggers } }
  | _ => { s with panel := { s.panel with vcom := k.vcom } }

/-- A set that reverts loses what was written to migrated copies on trial (R391). -/
def restoreSettings (s : State) : State :=
  match s.upd.kept, s.upd.man with
  | some k, some m =>
    let s := (List.range 6).foldl (fun s n => if Config.migrates m.id n then restoreRecord k n s else s) s
    { s with upd := { s.upd with kept := none } }
  | _, _ => s

/-- The active lane's image is that of the running firmware slot. -/
def holderSlot (s : State) : State :=
  match s.lanes.holder with
  | some l => setLane l { lane s l with slot := s.upd.slot } s
  | none => s

/-- The new set runs from here: ID_FW changes and TRIAL begins with a full window (R71, R386, R387, R389). -/
def beginTrial (s : State) : State :=
  let m := s.upd.man
  let secs := match m with
    | some m => if m.trialS = 0 then 120 else m.trialS
    | none => 120
  let s := { s with upd := { s.upd with
    oldFw := s.upd.runFw, runFw := (m.map Manifest.fw).getD s.upd.runFw, slot := !s.upd.slot
    oldMfrKey := s.upd.mfrKey, mfrKey := (m.map Manifest.mfrKey).getD s.upd.mfrKey
    trialFrom := s.sun.time, trialEnd := s.sun.time + BitVec.ofNat 64 (secs * second)
    critical := false, healthOk := false, confirmed := false, migrated := false, kept := some (settings s)
    activating := none, pauseReady := 0, handReady := 0, boundary := none } }
  setStep .trial (holderSlot { s with panel := { s.panel with hold := false } })

/-- The old set runs again (R389, R390): its identity and shared parts are back and the revert counts. -/
def oldSetBack (s : State) : State :=
  let s := restoreSettings s
  holderSlot (switchParts false { bump 0x001C0028 0 s with
    upd := { s.upd with
      runFw := s.upd.oldFw, mfrKey := s.upd.oldMfrKey, slot := !s.upd.slot, revertedBlocked := true, healthOk := false, mode := 0
      activating := none, pauseReady := 0, handReady := 0, revertHand := false, boundary := none }
    panel := { s.panel with hold := false } })

/-- A switch that cannot complete is given up before any part has changed over: the old set goes on (R49, R390, log entry 40). -/
def abandonSwitch (s : State) : State :=
  setStep .reverted { bump 0x001C0028 0 s with
    upd := { s.upd with
      revertedBlocked := true, mode := 0, activating := none, pauseReady := 0, handReady := 0, revertHand := false
      boundary := none }
    panel := { s.panel with hold := false } }

/-! ### Lanes -/

/-- A lane's claims, running, managing or waking (R259). -/
def returnLane (l : Lane) (s : State) : State :=
  unqueue 4 (.wake l) (unqueue 4 (.mgmt l) (unqueue 4 (.run l)
    (giveBack 4 (.wake l) (giveBack 4 (.mgmt l) (giveBack 4 (.run l) s)))))

/-- A lane fails: its supply is switched off and its fault is kept (R300, R316). -/
def failLane (l : Lane) (cause : BitVec 4) (s : State) : State :=
  setLane l { lane s l with state := .failed, mgmt := false, cause := cause, clocks := false } s

/-- The module notes that an accepted YIELD is dropped: the other lane has left COLD (R315). -/
def dropYield (s : State) : State :=
  if s.lanes.yieldAt.isSome then
    raise .warning 0x18 0x0004 [BitVec.ofNat 32 (Lane.num s.lanes.lastHolder)]
      { s with lanes := { s.lanes with yieldAt := none, yieldBy := false } }
  else s

/-- Entries that a lane's Bobbins lose (R108). -/
def lostEntries (b : Bob) : Nat := b.entries.length + b.held.length

/-- The state of the lane's program, inputs and controllers goes with the lane: what its Bobbins and the CAN controllers for them (R339),
its correction buffer and CAN buffers held is lost and counted; the counters of the per-lane blocks restart (R61, R108, R250, R313, R345). -/
def dropCore (s : State) : State :=
  let c := s.core
  let s := dropCounters 0x00080000 0x000B0000 (dropCounters 0x00100000 0x00120000
    (dropCounters 0x00160000 0x00170000 (dropCounters 0x001D0000 0x001F0000 s)))
  let s := c.bobs.foldl (fun s e => bumps 0x001D0018 e.1 (lostEntries e.2) s) s
  let s := c.can.foldl (fun s e => e.2.held.foldl (fun s h => bump 0x001D0018 h.bobbin s) s) s
  let s := bumps 0x0016000C 0 c.pos.rtcm.length s
  let kept : SMap Nat := c.can.foldl (fun m e => SMap.put m 0 e.1 e.2.bufs.length) []
  { s with core := {}, lanes := { s.lanes with gapOccupancy := kept } }

/-! ### Checkpoints (R309 to R311) -/

/-- The committed checkpoint's slot: the newest F whose commit word verifies. -/
def committedSlot (s : State) : Option Bool :=
  match s.spool.s0.committed, s.spool.s1.committed with
  | false, false => none
  | true, false => some false
  | false, true => some true
  | true, true => some (decide (s.spool.s0.frame < s.spool.s1.frame))

/-- A slot. -/
def spoolSlot (s : State) (b : Bool) : SpoolSlot := if b then s.spool.s1 else s.spool.s0
def setSpoolSlot (b : Bool) (x : SpoolSlot) (s : State) : State :=
  { s with spool := if b then { s.spool with s1 := x } else { s.spool with s0 := x } }

/-- What of Ply's state a checkpoint holds (R226), and of the position engine's (R250); the first epoch of the new lane sends aiding (R15),
whatever AID_DIV, which is at most 100. -/
def plyKept (p : PlySt) : PlySt :=
  { p with
    srcs := p.srcs.map fun e => (e.1, { e.2 with samples := [], lateAt := [], taken := [] })
    since := 0, lastIssued := none, issuedAt := [], lastTen := none, aidCount := 100, yields := [], yieldStat := 0 }
def posKept (p : PosSt) : PosSt := { p with rtcm := [], rtcmBytes := 0, searchFrom := none }

/-- Bytes of a checkpoint of the running cop (R310). -/
def checkpointSize (c : Cop) : Nat :=
  64 + 65536 + 196608 + 16 * c.tasks.length + (c.tasks.map (·.keepSize)).sum
    + 16 * (c.signals.filter fun d => byTask d.writer).length + 64 * c.loops.length + 4160 * c.tables.length

/-- The checkpoint of frame F: each task's part as it was put aside, or as it stands (R309, R310). -/
def buildImage (f : Time) (s : State) : Image :=
  let parts := (List.range (cop s).tasks.length).map fun n => (n, (SMap.find s.spool.saved n).getD (taskPart s n f))
  let add := fun {α : Type} (m m' : SMap α) => m'.foldl (fun m e => SMap.insert m e.1 e.2) m
  { stopped := parts.foldl (fun m p => SMap.put m false p.1 p.2.stopped) []
    keep := parts.foldl (fun m p => add m p.2.keep) []
    signals := parts.foldl (fun m p => add m p.2.signals) []
    loops := parts.foldl (fun m p => add m p.2.loops) []
    tables := parts.foldl (fun m p => add m p.2.tables) []
    ply := s.spool.plyAt, pos := s.spool.posAt }

/-- Whether every activation with ti before F has completed (R309). -/
def quietBefore (f : Time) (s : State) : Bool :=
  s.core.tasks.all fun e => e.2.pending.all fun p => decide (f ≤ p.1)

/-- A due checkpoint is written to the slot that does not hold the committed one (R309, R311). -/
def captureDue (s : State) : State :=
  match s.spool.due with
  | some f =>
    let b := match committedSlot s with
      | some c => !c
      | none => false
    let s := setSpoolSlot b { copId := (cop s).copId, frame := f, image := buildImage f s, size := BitVec.ofNat 22 (checkpointSize (cop s)) } s
    { s with spool := { s.spool with due := none, saved := [], plyAt := {}, posAt := {}, written := some b } }
  | none => s

/-- The commit word of the slot just written (R311). -/
def commitWritten (s : State) : State :=
  match s.spool.written with
  | some b =>
    let s := setSpoolSlot b { spoolSlot s b with committed := true } s
    { s with spool := { s.spool with written := none } }
  | none => s

/-- A checkpoint of boundary F written and committed in one go, where the lane makes no release at or after F (R38, R386, R387). -/
def checkpointNow (s : State) : State :=
  commitWritten (captureDue { s with spool := { s.spool with
    due := some s.sun.time, saved := [], plyAt := plyKept s.core.ply, posAt := posKept s.core.pos } })

/-- A new lane's state from a checkpoint, or from cop load where none is committed (R313 to R315): the constants that the retained image
holds (R77, R301); loops initialise from readback. -/
def restoreImage (im : Image) (s : State) : State :=
  let keys := (cop s).loops.map fun d => loopKey d.unit d.loop
  loadConstants { s with core := { ({} : Core) with
    tasks := im.stopped.foldl (fun m e => SMap.put m {} e.1 { ({} : TaskState) with stopped := e.2 }) []
    sram := im.keep
    signals := im.signals.foldl (fun m e => SMap.insert m e.1 { samples := [e.2] }) []
    loops := keys.foldl (fun m k => SMap.put m {} k { SMap.get im.loops {} k with init := some .switchOver }) []
    tables := im.tables, ply := im.ply, pos := im.pos } }

/-- The image to restore, with its F, and whether there is none (R315). -/
def imageToRestore (s : State) : Image × Time × Bool :=
  match committedSlot s with
  | some b => ((spoolSlot s b).image, (spoolSlot s b).frame, false)
  | none => ({}, 0, true)

/-! ### Hold, DUSK, warm reset -/

/-- The DAWN hold is entered (R24, R32): a WARNING, the cause, and for a refusal its code. Outputs stay as they are. -/
def enterHold (cause : BitVec 8) (refusal : BitVec 16) (why : DayCause) (s : State) : State :=
  let live := decide (s.sys.state ≠ .dawn)
  let s := toDay .dawn why true s
  let s := { s with sys := { s.sys with
    hold := true, holdCause := cause, refusal := if cause = 3 || cause = 4 then refusal else 0, dawn := .done
    held := s.sys.held || live, driving := false, armedAt := none, disarmPending := false } }
  if cause = 5 && (s.outs.lsw.any fun e => bit e.2.dirMap 4 && bit e.2.dirMap 5) then limpStart s else s

/-- DUSK starts at its first step (R38). -/
def enterDusk (why : DayCause) (s : State) : State :=
  let s := limpEnd s
  let s := toDay .dusk why false s
  { s with sys := { s.sys with
    hold := false, holdCause := 0, refusal := 0, holdOff := false, duskStep := 1, dawn := .done, kl15Latched := false
    driving := false, armedAt := none, disarmPending := false } }

/-- R27: KL15 low when DAWN reaches MORNING or the hold ends in DUSK, where it fell during DAWN for 200 ms, or the start was power-on
or KL15 rising. -/
def kl15Ends (s : State) : Bool :=
  !s.sys.kl15 && (s.sys.kl15Latched || decide (s.sys.cause = 0) || decide (s.sys.cause = 3))

/-- DAWN reaches the hold, or DUSK instead (R25, R27). -/
def reachHold (cause : BitVec 8) (refusal : BitVec 16) (s : State) : State :=
  if kl15Ends s then enterDusk .kl15Low s else enterHold cause refusal .hold s

/-- A DAWN starts (R24, R25, R29, R71): its cause, and nothing of the previous day. -/
def startDawn (code line : BitVec 4) (warm fault : Bool) (why : DayCause) (s : State) : State :=
  let s := toDay .dawn why fault s
  { s with sys := { s.sys with
    hold := false, holdCause := 0, refusal := 0, holdOff := false, dawn := .supplies, warm := warm
    held := warm, duskStep := 0, kl15Latched := false, kl15Pending := false, cause := code, line := line
    dawnAt := s.sun.time, armedAt := none, driving := false, autoarmDone := false, disarmPending := false } }

/-- CAN buffers loaded in the lane are discarded and counted (R344). -/
def dropCanBuffers (s : State) : State :=
  s.core.can.foldl (fun s e => bumps (0x0010001C + 0x1000 * e.1) 0 e.2.bufs.length s) s

/-- Counters that a warm reset leaves: those of the lane and Spool registers (R316) and of the Skein (R51), and UPD_REVERTS where the reset
carries a revert out, which counts there (R390). -/
def countsOn (reverted : Bool) (addr : Nat) : Bool :=
  (decide (0x00180000 ≤ addr) && decide (addr < 0x001B0000)) || (reverted && decide (addr = 0x001C0028))

/-- Registers whose description names no other value after a warm reset than the one of the Reset column (R9): counters, what the register
engine keeps per requester, CLK_SRC, SUN_PTP, STK_CAPTURE, PNL_DC_THR, the latched faults of inputs and ports, shaft tracks. Stored
values, and what R51, R193 and R316 preserve, stay (log entry 89). -/
def resetRegs (s : State) : State :=
  { s with
    counters := s.counters.filter fun e => countsOn (decide (s.upd.step = .reverted)) (e.1 % 0x200000)
    reqs := []
    clock := { s.clock with force := 0, stay := 0 }
    sun := { s.sun with ptpCfg := ({} : Sundial).ptpCfg }
    strike := { s.strike with capEn := false, capCh := 0, capUse := 0 }
    panel := { s.panel with dcThr := ({} : Panel).dcThr }
    inputs := { s.inputs with
      ain := s.inputs.ain.foldl (fun m e => SMap.put m {} e.1 { e.2 with overF := false, openF := false, burdenF := false, supF := false, code := 0 }) []
      sensor := s.inputs.sensor.foldl (fun m e => SMap.put m {} e.1 { e.2 with lastErr := 0, syncDev := 0 }) []
      shaft := [] } }

/-- A warm reset (R9, R31, R51, R56, R264, R316): lanes, Spool, SET locks, CAN controllers, sessions and day state are reset; outputs,
Skein, journal, flash, Sundial and Ethernet forwarding are kept; what was queued in the Tally and in solenoid groups is
discarded and counted. It takes effect in every state but MIDNIGHT; steps of hold-up that run still complete (R414). `fault`: a fault
brings it (R24). -/
def warmResetBy (fault : Bool) (code : BitVec 4) (why : DayCause) (s : State) : State :=
  if !s.sys.powered || decide (s.sys.state = .midnight) then s
  else
    let s := gapOutputs false (limpEnd (dropCanBuffers (resetRegs s)))
    let s := returnLane .b (returnLane .a s)
    let s := closeAllSessions { s with
      core := {}, spool := {}, distaff := {}, func := {}
      lanes := { s.lanes with
        la := { s.lanes.la with state := .waking, mgmt := false, clocks := false }
        lb := { s.lanes.lb with state := .waking, mgmt := false, clocks := false }
        holder := none, gate := false, remain := 0, yieldAt := none, yieldBy := false, switch := none, gapOccupancy := [] }
      store := { s.store with running := none, candidate := none, validating := false, loading := false, owner := none }
      strike := { s.strike with run := false }
      upd := { s.upd with activating := none, pauseReady := 0, handReady := 0, revertHand := false, boundary := none }
      panel := { s.panel with hold := false }
      sys := { s.sys with lock := .of 0 } }
    startDawn code 0 true fault why s

/-- A warm reset by WARM_RESET or RESET_N. -/
def warmReset (code : BitVec 4) (why : DayCause) (s : State) : State := warmResetBy false code why s

/-! ### Release of the Whorl (R28, R305, R312, R315) -/

/-- DISARM takes effect (R37): MORNING, with outputs to their declared shutdown states. -/
def disarmNow (s : State) : State :=
  let s := toDay .morning .disarm false s
  shutDeclared { s with sys := { s.sys with
    driving := false, armedAt := none, disarmPending := false, held := false, disarmedAt := some s.sun.time } }

/-- A DISARM that coincided with a gap (R37): one accepted in it takes effect, one just before it has its shutdown states applied
again, since the gap states may have replaced them. -/
def lateDisarm (s : State) : State :=
  if !s.sys.disarmPending then s
  else match s.sys.state with
  | .noon | .afternoon => disarmNow s
  | .morning => shutDeclared { s with sys := { s.sys with disarmPending := false } }
  | _ => { s with sys := { s.sys with disarmPending := false } }

/-- Whether a DISARM took effect in the major frame in which its lane loses the gate: the two coincide (R37, DEDUCED, log entry 79). -/
def disarmCoincides (s : State) : Bool :=
  decide (s.sys.state = .morning) && match s.sys.disarmedAt with
    | some d => !passed s d frameNs
    | none => false

/-- Whether the other lane can take the Whorl: COLD, or UPDATING (in a revert by handover, WAKING) once the handover has passed its
boundary (R315). -/
def canTake (s : State) (l : Lane) : Bool :=
  match (lane s l).state with
  | .cold => true
  | .updating | .waking => decide (3 ≤ s.upd.handReady)
  | _ => false

/-- No lane is left (R25, R27, R28, R32): the DAWN hold with cause NO_LANE, or DUSK where a DAWN so reaches the hold with KL15 low; DUSK
goes on. -/
def lastLaneFailed (s : State) : State :=
  match s.sys.state with
  | .midnight | .dusk => s
  | .dawn => if s.sys.hold then enterHold 5 0 .lastLane s else if kl15Ends s then enterDusk .kl15Low s else enterHold 5 0 .lastLane s
  | _ => enterHold 5 0 .lastLane s

/-- The Whorl is released (R305): the gate closes and the lane fails in the same cycle, outputs take their gap states, and the standby
starts its wake at the head of the VBAT queue; NOON becomes AFTERNOON at once (R25). -/
def releaseWhorl (l : Lane) (cause : BitVec 4) (s : State) : State :=
  let o := l.other
  let takes := canTake s o
  let woken := holds s 4 (.wake o)
  let s := { s with sys := { s.sys with disarmPending := s.sys.disarmPending || disarmCoincides s } }
  let s := failLane l cause (dropCore s)
  let s := closeAllSessions { s with
    lanes := { s.lanes with holder := none, gate := false, remain := 0, yieldAt := none, yieldBy := false, switch := none },
    spool := { s.spool with due := none, saved := [], written := none, plyAt := {}, posAt := {} } }
  let s := gapOutputs true s
  if takes then
    let x := lane s o
    let s := setLane o { x with state := .waking, mgmt := false } s
    let w : Switch := { failed := l, cause := cause, releasedAt := s.sun.time, wakeAdmitted := woken }
    let s := { s with lanes := { s.lanes with switch := some w } }
    let s := if woken then s else submit 4 (wakeClaim o) s
    if s.sys.state = .noon then toDay .afternoon .switchOver true s else s
  else lastLaneFailed s

end Sys2Proof.Machine
end

