-- ==== Sys2Proof/Machine/Lanes.lean ====
section
/-! DEFINITION. Lanes, the lease and switch-over (R300 to R316). -/
namespace Sys2Proof.Machine

/-- A write that would change a field that a SET lock guards is refused as a whole and counted (R63). -/
def guarded (lock : Nat) (changes : Bool) (f : State → Reply × State) (s : State) : Reply × State :=
  if lockedBit s lock && changes then (.nak .locked 0, bump 0x00010014 0 s) else f s

/-- The controllers that the running cop declares join the bus: error-active counters at zero, integrating (R344, R345); listen-only
where declared or while CANC runs on its fallback PLL (R343). -/
def canJoin (s : State) : State :=
  let weak := decide (SMap.get s.clock.src .main 4 = .fallback)
  let gone := decide (SMap.get s.clock.src .main 4 = .stopped)
  (cop s).can.foldl (fun s d =>
    if gone then s
    else
      let x : CanSt := { state := .integrating, listen := d.listen || weak }
      { s with core := { s.core with can := SMap.insert s.core.can d.ctrl x } }) s

/-- NOON loses its standby without a release (R25). -/
def standbyLost (s : State) : State :=
  if s.sys.state = .noon then toDay .afternoon .standbyLost true s else s

/-- LANE_STAT.GRADE and the lane's clocks (R302). -/
def setGrade (l : Lane) (mgmt : Bool) (s : State) : State := setLane l { lane s l with mgmt := mgmt, clocks := true } s

/-! ### Renewals and checkpoints -/

/-- Whether a boundary's checkpoint has been begun or written. -/
def frameTaken (s : State) : Bool :=
  decide (s.spool.due = some s.sun.time)
    || (s.spool.s0.committed && decide (s.spool.s0.frame = s.sun.time))
    || (s.spool.s1.committed && decide (s.spool.s1.frame = s.sun.time))

/-- A boundary's checkpoint becomes due, or is skipped and counted where the one before is still uncommitted (R309). -/
def checkpointDue (s : State) : State :=
  if !running s || frameTaken s then s
  else if s.spool.due.isSome || s.spool.written.isSome then bump 0x00190010 0 s
  else { s with spool := { s.spool with
    due := some s.sun.time, saved := [], plyAt := plyKept s.core.ply, posAt := posKept s.core.pos } }

/-- The steps that each Twist unit has used become those of the frame just ended (TWI_LOAD, R163). -/
def turnLoad (s : State) : State :=
  let last := (List.range 8).filterMap fun u => (SMap.find s.core.loadBusy u).map fun n => (u + 8, n)
  { s with core := { s.core with loadBusy := last } }

/-- A YIELD that has waited for its boundary releases the Whorl with cause YIELD, while the other lane is COLD (R315, R316). -/
def yieldNow (f : Time) (s : State) : State :=
  match s.lanes.yieldAt, s.lanes.holder with
  | some y, some h => if decide (y < f) && standbyCold s then releaseWhorl h 4 s else s
  | _, _ => s

/-- Whether the active lane's Distaff runs and its command path is open: not re-initialised, nor rebooted by a pause (R14, R55, R386). -/
def distaffRuns (s : State) : Bool :=
  s.sys.powered && laneActive s && !restarts s 43 && !laneStopped s && s.lanes.gate

/-- The clock source that a lane finds for its own domains when it locks its PLLs (R317). -/
def freshSrc (s : State) : ClkSrc := if !s.clock.refFail then .main else if !s.clock.rcoFail then .fallback else .stopped

/-- A lane's own domains, SPN, DST, MEM and CANC, as its clocks start (R300, R312, R317, R332). -/
def freshLaneClocks (s : State) : State :=
  [0, 1, 2, 4].foldl (fun s d => { s with clock := { s.clock with
    src := SMap.put s.clock.src .main d (freshSrc s), mainFail := setBit s.clock.mainFail d false
    fbFail := setBit s.clock.fbFail d false } }) s

/-- WHORL_RENEWAL: at a major-frame boundary the active lane restarts its lease, with the LK_LEASE and LK_GUARD written meanwhile
(R304, R306), and the boundary's checkpoint is due (R309). A lane whose gate is closed, or a failed LKO, renews nothing (R21,
R304). -/
def execWhorlRenewal (t : Time) (s : State) : Result :=
  let s := advanceTo t s
  .next <|
  if !atFrame s || !laneActive s || !s.lanes.gate || s.clock.lkoFail || laneStopped s then s
  else
    let s := { s with lanes := { s.lanes with
      leaseIn := s.lanes.lease.vote, guardIn := s.lanes.guard.vote, remain := s.lanes.lease.vote.toNat * lkoNs } }
    let s := checkpointDue (turnLoad s)
    if running s then s else yieldNow s.sun.time s

/-- CHECKPOINT_CAPTURE: once the last activation with ti before F has completed, the checkpoint of F is written (R309, R310). -/
def execCheckpointCapture (t : Time) (s : State) : Result :=
  let s := advanceTo t s
  .next <|
  match s.spool.due with
  | some f => if laneActive s && s.lanes.gate && s.spool.written.isNone && quietBefore f s then captureDue s else s
  | none => s

/-- Checkpoint B of a pause is committed: the gate closes, with the gap states of outputs, and sessions close (R386). -/
def pauseClose (s : State) : State :=
  let s := gapOutputs true { s with
    sys := { s.sys with disarmPending := disarmCoincides s }, lanes := { s.lanes with gate := false, remain := 0 } }
  closeAllSessions { s with upd := { s.upd with pauseReady := 1, boundary := none } }

/-- Checkpoint B of a handover, or of a revert by handover, is committed (R260, R387, R390): the active lane drops to the MANAGEMENT grade
and so returns 1,200 mA, and the wake claim of the other lane is submitted, which starts its clocks or takes it to FULL. -/
def handoverDrop (s : State) : State :=
  match s.lanes.holder with
  | none => s
  | some l =>
    let o := l.other
    let s := enter 4 (mgmtClaim l) (setLane l { lane s l with mgmt := true } s)
    let x := lane s o
    let s := setLane o { x with state := if x.state = .cold then .waking else x.state } s
    let s := submit 4 (wakeClaim o) s
    { s with upd := { s.upd with handReady := 3, boundary := none } }

/-- What waits for a committed checkpoint: behind boundary B the pause or handover goes on (R386, R387); else an accepted YIELD releases the
Whorl (R316). -/
def afterCommit (f : Time) (s : State) : State :=
  if s.upd.boundary = some f then (if s.upd.handReady = 3 then handoverDrop s else pauseClose s) else yieldNow f s

/-- CHECKPOINT_COMMIT: the commit word makes the slot the committed checkpoint (R311), and what waited for it goes on. -/
def execCheckpointCommit (t : Time) (s : State) : Result :=
  let s := advanceTo t s
  .next <|
  match s.spool.written with
  | some b => if laneActive s && s.lanes.gate then afterCommit (spoolSlot s b).frame (commitWritten s) else s
  | none => s

/-! ### Faults and releases -/

/-- A lane that boots a new image, or wakes for a revert by handover, fails (R387, R390): before SWITCHING the step stays STAGED and the
day follows R25; after it the update cannot go on, so it is reverted by a warm reset, which a fault brings (R24, log entry 40). The
handover ends here, so its 60 s of rest begin (R23). -/
def updatingFailed (l : Lane) (cause : BitVec 4) (s : State) : State :=
  let s := failLane l cause { s with upd := { s.upd with lastHandoverEnd := some s.sun.time } }
  if s.upd.revertHand then warmResetBy true 1 .warmReset (oldSetBack s)
  else if 3 ≤ s.upd.handReady then warmResetBy true 1 .warmReset (abandonSwitch s)
  else
    standbyLost { s with
      upd := { s.upd with activating := none, handReady := 0, mode := 0 }, panel := { s.panel with hold := false } }

/-- A lane is fail-stopped (R12, R88, R305, R315): the holder releases the Whorl, a waking standby was the last lane, a lane that
executes nothing finds no fault this way. -/
def laneFault (l : Lane) (cause : BitVec 4) (s : State) : State :=
  if s.lanes.holder = some l then releaseWhorl l cause s
  else match s.lanes.switch with
  | some w =>
    if l = w.failed.other then
      let s := unqueue 4 (.wake l) (failLane l cause s)
      lastLaneFailed { s with core := {}, lanes := { s.lanes with switch := none } }
    else s
  | none =>
    if (decide ((lane s l).state = .updating) || (decide ((lane s l).state = .waking) && laneActive s)) && (lane s l).clocks then updatingFailed l cause s else s

/-- COMPARATOR_MISMATCH (R12, R305): cause COMPARE. -/
def execComparatorMismatch (t : Time) (l : Lane) (s : State) : Result := .next (laneFault l 1 (advanceTo t s))

/-- ECC_UNCORRECTABLE (R88, R305): cause ECC. -/
def execEccUncorrectable (t : Time) (l : Lane) (s : State) : Result := .next (laneFault l 2 (advanceTo t s))

/-- LEASE_EXPIRY: the lease has run out without a renewal, cause HANG (R305); a failed LKO releases nothing (R307). -/
def execLeaseExpiry (t : Time) (s : State) : Result :=
  let s := advanceTo t s
  .next <|
  match s.lanes.holder with
  | some l => if s.lanes.gate && decide (s.lanes.remain = 0) && !s.clock.lkoFail then releaseWhorl l 3 s else s
  | none => s

/-- Acceptance of a YIELD: refused NO_STANDBY unless the other lane is COLD (R55, R316). -/
def acceptYield (byMask : Bool) (s : State) : Reply × State :=
  if standbyCold s then
    (.ack [], { s with lanes := { s.lanes with yieldAt := some s.sun.time, yieldBy := byMask } })
  else (.nak .noStandby 0, s)

/-- LANE_CTRL_YIELD (R316). -/
def execLaneCtrlYield (r : Req) (s : State) : Result := .next (serve r true true (acceptYield false) s)

/-- FAILED_SUPPLY_OFF: a failed lane's supply switch reports off and its claims return (R259, R260). -/
def execFailedSupplyOff (t : Time) (l : Lane) (s : State) : Result :=
  let s := advanceTo t s
  .next <|
  if (lane s l).state = .failed then
    let s := returnLane l s
    match s.lanes.switch with
    | some w => if w.failed = l then { s with lanes := { s.lanes with switch := some { w with supplyOff := true } } } else s
    | none => s
  else s

/-! ### Switch-over (R312) -/

/-- LEASE_GUARD_END: LK_GUARD cycles have passed since the release (R305); a failed LKO grants nothing (R307). -/
def execLeaseGuardEnd (t : Time) (s : State) : Result :=
  let s := advanceTo t s
  .next <|
  match s.lanes.switch with
  | some w =>
    if decide (w.releasedAt.toNat + s.lanes.guardIn.toNat * lkoNs ≤ s.sun.time.toNat) && !s.clock.lkoFail then
      { s with lanes := { s.lanes with switch := some { w with guardOver := true } } }
    else s
  | none => s

/-- STANDBY_WAKE_DONE: with its wake claim admitted the lane has locked its clocks and verified its image (R312). -/
def execStandbyWakeDone (t : Time) (s : State) : Result :=
  let s := advanceTo t s
  .next <|
  match s.lanes.switch with
  | some w =>
    if w.wakeAdmitted then
      let s := setGrade w.failed.other false s
      { s with lanes := { s.lanes with switch := some { w with awake := true } } }
    else s
  | none => s

/-- CHECKPOINT_RESTORED: the committed checkpoint is in the waking lane, or none is (R312, R314, R315). -/
def execCheckpointRestored (t : Time) (s : State) : Result :=
  let s := advanceTo t s
  .next <|
  match s.lanes.switch with
  | some w =>
    if w.awake && w.restored.isNone then
      let (im, f, none_) := imageToRestore s
      let s := restoreImage im s
      { s with lanes := { s.lanes with switch := some { w with restored := some f, noCkpt := none_ } } }
    else s
  | none => s

/-- What a new active lane finds to do (R37, R315, R389): a pending DISARM, DUSK at its final checkpoint, a set on trial that has
failed, or a switch of sets that completes. -/
def afterTake (s : State) : State :=
  let s := lateDisarm s
  let s := if s.sys.state = .dusk then { s with sys := { s.sys with duskStep := 2 } } else s
  let old := match s.lanes.holder with
    | some l => decide ((lane s l).slot ≠ s.upd.slot)
    | none => false
  match s.upd.step with
  | .trial => if old then oldSetBack (setStep .reverted s) else warmResetBy true 1 .warmReset (oldSetBack (setStep .reverted s))
  | .switching => if old then beginTrial (switchParts true s) else abandonSwitch s
  | .reverted => if s.upd.revertHand then oldSetBack s else s
  | _ => s

/-- Functions of R53 that are no part of a lane: Ethernet ports, GNSS baseband, Strike, sensor ports, panel, Skein writer. -/
def sharedFunctions : BitVec 64 := 0x0000_03FF_F9FF_0000

/-- A lane takes the Whorl: its gate opens and its lease runs, on the clocks it has locked (R43,
R304, R317). -/
def takeWhorl (l : Lane) (s : State) : State :=
  let s := freshLaneClocks (setLane l { lane s l with state := .active, mgmt := false, clocks := true } s)
  let p := s.core.ply
  { s with
    core := { s.core with ply := { p with since := s.sun.time } }
    func := { s.func with restarting := s.func.restarting &&& sharedFunctions }
    lanes := { s.lanes with
      holder := some l, gate := true, lastHolder := l, leaseIn := s.lanes.lease.vote, guardIn := s.lanes.guard.vote
      remain := s.lanes.lease.vote.toNat * lkoNs } }

/-- A service-port session of the service responder closes when a lane becomes ACTIVE (R367). -/
def closeResponder (s : State) : State := if (session s 4).byResponder then closeSession 4 s else s

/-- LKO cycles from a release to now, as LANE_LAST_GAP holds them. -/
def gapCycles (from_ : Time) (s : State) : Nat := (s.sun.time.toNat - from_.toNat) / lkoNs

/-- WHORL_GRANT: at a frame boundary, after guard, wake and restore, the gate opens and the lane is ACTIVE; the switch-over counts and
writes its CRITICAL record with failed lane, cause, F and gap (R312 to R316, R345). -/
def execWhorlGrant (t : Time) (s : State) : Result :=
  let s := advanceTo t s
  .next <|
  match s.lanes.switch with
  | some w =>
    match w.restored with
    | some f =>
      if !atFrame s || s.clock.lkoFail || !w.guardOver || !w.awake then s
      else
        let gap := gapCycles w.releasedAt s
        let occ := s.lanes.gapOccupancy
        let s := takeWhorl w.failed.other s
        let s := { s with
          lanes := { s.lanes with switch := none, noCkpt := w.noCkpt, gapOccupancy := [], lastGap := BitVec.ofNat 16 (min gap 65535) } }
        let s := occ.foldl (fun s e => bumps (0x0010001C + 0x1000 * e.1) 0 e.2 s) (closeResponder s)
        let s := if running s then canJoin s else s
        let s := raise .critical 0x18 0x0014
          [BitVec.ofNat 32 (Lane.num w.failed), w.cause.zeroExtend 32, lo32 f, hi32 f, hold32 gap] (bump 0x00180014 0 s)
        engageAll (afterTake s)
    | none => s
  | none => s

/-- A write of LK_LEASE or LK_GUARD (R306, R316): guarded by SYS_LOCK.WHORL, refused out of range, in force from the next renewal. -/
def writeLk (guard : Bool) (v : Word) (s : State) : Reply × State :=
  let x : BitVec 14 := v.truncate 14
  let old := if guard then s.lanes.guard.vote else s.lanes.lease.vote
  guarded 4 (decide (x ≠ old)) (fun s =>
    if guard then
      if decide (4000 ≤ x.toNat) && decide (x.toNat ≤ 8000) then (.ack [], { s with lanes := { s.lanes with guard := .of x } })
      else (.nak .badValue 0, s)
    else
      if decide (9000 ≤ x.toNat) && decide (x.toNat ≤ 12000) then (.ack [], { s with lanes := { s.lanes with lease := .of x } })
      else (.nak .badValue 0, s)) s

/-- LK_TIMING_WRITE (R306, R316). -/
def execLkTimingWrite (r : Req) (guard : Bool) (v : Word) (s : State) : Result :=
  .next (serve r true true (writeLk guard v) s)

/-- COLD_LANE_SCRUB: the COLD lane's image is scrubbed; a fault makes it FAILED with cause SCRUB, drops an accepted YIELD and costs
NOON its standby (R303, R315). -/
def execColdLaneScrub (t : Time) (corrected : Nat) (fault : Bool) (s : State) : Result :=
  let s := advanceTo t s
  .next <|
  match s.lanes.holder with
  | some h =>
    if standbyCold s then
      let s := bumps 0x00180018 0 corrected s
      if fault then standbyLost (dropYield (failLane h.other 5 s)) else s
    else s
  | none => s

end Sys2Proof.Machine
end

