-- ==== Sys2Proof/Machine/Outputs.lean ====
section
/-! DEFINITION. Meanings of the output instructions (R24, R35, R135, R136), and what their commands do at the dies (R272, R276,
R285 to R287, R291, R295 to R297). -/
namespace Sys2Proof.Machine

/-- A lane's switch command (R272): CMD is recorded, on claims, off removes a queued claim and switches off. -/
def laneSwitch (n : Nat) (on : Bool) (s : State) : State :=
  let s := setLsw n { lsw s n with cmd := on, src := .lane } s
  if on then lswClaimOn n s
  else if lswWaiting (lsw s n) then s else lswOff n s

/-- Duty in 1/1,024, ties to even, clamped to 0.0 to 1.0, NaN giving 0.0 (R135, R276). -/
def dutyOf (v : Word) : BitVec 11 :=
  if isNan v then 0 else BitVec.ofInt 11 (clampInt 0 1024 (f2fix 10 v).toInt)

/-- A lane's duty command (R276): stored for readback, applied at the next period start; the first non-zero duty claims. -/
def laneDuty (n : Nat) (v : Word) (s : State) : State :=
  let d := dutyOf v
  let s := setLsw n { lsw s n with duty := d, cmd := decide (d ≠ 0), src := .lanePwm } s
  if d ≠ 0 then lswClaimOn n s else unqueue (n / 12) (.chan (.lsw n)) (setLsw n { lsw s n with restartDue := false } s)

/-- A current in A as whole mA, not below zero, NaN giving 0 (R135). -/
def milliAmps (v : Word) : Nat :=
  if isNan v || fSign v then 0
  else if isInf v then 1000000
  else if 0 ≤ fScale v then (fMant v * 1000 * (2 ^ (fScale v).toNat : Nat)).toNat
  else (roundDiv (fMant v * 1000) (2 ^ (-fScale v).toNat)).toNat

/-- An ignored command counts (R287). -/
def ignoreSol (n : Nat) (s : State) : State := bump 0x00060018 n s

/-- A lane's CUR command (R285, R287, R295 to R297), in mA. -/
def laneCur (n mA : Nat) (s : State) : State :=
  let x := sol s n
  match chanDecl s (.sol n) with
  | none => s
  | some d =>
    let v := min mA d.iHold
    if x.trip || x.hstrip then s
    else if profileRuns x then ignoreSol n s
    else
      let x := { x with uv := false }
      if groupDown s n then
        setSol n { x with resume := v, wasCur := decide (v ≠ 0) } s
      else match x.phase with
        | .cur => setSol n { x with nextSet := some v } s
        | .neutral => setSol n { x with phase := .cur, nextSet := some v } s
        | .tallyQ =>
          if v = 0 then unqueue (n / 8) (.chan (.sol n)) (setSol n { x with phase := .off, nextSet := none } s)
          else setSol n { x with nextSet := some v } s
        | _ => if v = 0 then setSol n x s else solClaimHold n (setSol n { x with nextSet := some v, arrived := s.sun.time } s)

/-- A PROF for an undeclared profile (R287): ignored, BADPROF, and one WARNING per channel per ARM. -/
def badProfile (n : Nat) (s : State) : State :=
  let s := ignoreSol n (setSol n { sol s n with badprof := true } s)
  if s.core.badprof.contains n then s
  else raise .warning 0x06 0x0004 [chanWord (.sol n)] { s with core := { s.core with badprof := n :: s.core.badprof } }

/-- A lane's PROF command (R257, R286, R287, R291, R296). -/
def laneProf (n : Nat) (v : Word) (s : State) : State :=
  let x := sol s n
  if x.trip || x.hstrip then s
  else if profileRuns x then ignoreSol n s
  else match (if v.toNat < 16 then profileOf s v.toNat else none) with
  | none => badProfile n s
  | some _ =>
    let curWaits := decide (x.phase = .tallyQ)
    let prev : SolPhase := match x.phase with
      | .cur | .neutral => .cur
      | _ => .off
    let y := { x with
      asked := BitVec.ofNat 4 v.toNat, prevPhase := prev, uv := false, wasCur := false, nextSet := if prev = .cur then x.nextSet else none
      arrived := if curWaits then x.arrived else s.sun.time }
    if groupDown s n || !groupFree s (n / 4) then
      let s := if curWaits then unqueue (n / 8) (.chan (.sol n)) s else s
      let s := setSol n { y with phase := .groupQ } s
      { s with outs := { s.outs with
        groupQ := SMap.put s.outs.groupQ [] (n / 4) (SMap.get s.outs.groupQ [] (n / 4) ++ [n]) } }
    else submitPeak n (setSol n y s)

/-- A lane's RELEASE (R286, R295). -/
def laneRel (n : Nat) (s : State) : State :=
  let s := solOff n s
  let x := sol s n
  setSol n { x with uv := false, wasCur := false, resume := 0 } s

/-- Whether commands of load switches are only recorded: after ARM, before outputs are first driven (R35, R272, log entry 61). -/
def recordsOnly (s : State) : Bool :=
  s.lanes.gate && s.sys.armedAt.isSome && (decide (s.sys.state = .noon) || decide (s.sys.state = .afternoon))

/-- The frame of an output instruction (R135, R136): HANDLE outside the task's list; the gate discards a command while the lane does
not drive (R24), but for the record of a load switch's command after ARM (`note`). -/
def onOutput (x : Slot) (h : BitVec 6) (f note : Chan → Activation → State → State) (s : State) : Result :=
  onSpindle x 1 8 true (fun y s =>
    match (declOf s y.task).outs[h.toNat]? with
    | none => trap x.sp.val 8 [] y s
    | some c => setAct x.sp.val y.step (if drives s then f c y s else if recordsOnly s then note c y s else s)) s

/-- Nothing is recorded. -/
def noNote (_ : Chan) (_ : Activation) (s : State) : State := s

/-- out.sw: 0 commands off, any other value on (R135). -/
def execOutSw (x : Slot) (h : BitVec 6) (a : GReg) (s : State) : Result :=
  onOutput x h (fun c y s => match c with
    | .lsw n => laneSwitch n (decide (y.getG a ≠ 0)) s
    | .sol _ => s) (fun c y s => match c with
    | .lsw n => setLsw n { lsw s n with cmd := decide (y.getG a ≠ 0) } s
    | .sol _ => s) s

/-- out.pwm (R135, R276). -/
def execOutPwm (x : Slot) (h : BitVec 6) (a : GReg) (s : State) : Result :=
  onOutput x h (fun c y s => match c with
    | .lsw n => laneDuty n (y.getG a) s
    | .sol _ => s) (fun c y s => match c with
    | .lsw n => setLsw n { lsw s n with duty := dutyOf (y.getG a), cmd := decide (dutyOf (y.getG a) ≠ 0) } s
    | .sol _ => s) s

/-- out.sol CUR (R135, R285). -/
def execOutSolCur (x : Slot) (h : BitVec 6) (a : GReg) (s : State) : Result :=
  onOutput x h (fun c y s => match c with
    | .sol n => laneCur n (milliAmps (y.getG a)) s
    | .lsw _ => s) noNote s

/-- out.sol PROF (R135, R286). -/
def execOutSolProf (x : Slot) (h : BitVec 6) (a : GReg) (s : State) : Result :=
  onOutput x h (fun c y s => match c with
    | .sol n => laneProf n (y.getG a) s
    | .lsw _ => s) noNote s

/-- out.sol REL (R135, R286). -/
def execOutSolRel (x : Slot) (h : BitVec 6) (s : State) : Result :=
  onOutput x h (fun c _ s => match c with
    | .sol n => laneRel n s
    | .lsw _ => s) noNote s

end Sys2Proof.Machine
end

