-- ==== Sys2Proof/Machine/LoadSwitch.lean ====
section
/-! DEFINITION. Meanings of the Tally's events, the load-switch channels, the banks and the DIR inputs (13, 14, R412). An event
that stands for the end of a time has an effect only once that time has passed. -/
namespace Sys2Proof.Machine

/-! ### Tally -/

/-- TALLY_QUEUE_ADMIT: the head of a queue is admitted once every check holds (R256, R257). -/
def execTallyQueueAdmit (t : Time) (supply : Fin 5) (s : State) : Result :=
  let s := advanceTo t s
  let k := supply.val
  .next <|
  match (ledger s k).queue with
  | q :: r =>
    if fits s k q.claim then
      onAdmitted q.claim.owner (enter k q.claim (setLedger k { ledger s k with queue := r } s))
    else s
  | [] => s

/-- A waiting peak is refused at the end of its DEFER_MAX: SOL_DEFER_FAIL and an ERROR with channel, group and time waited; the
channel keeps its previous current and the queue moves up (R258, R292). -/
def refusePeak (n : Nat) (s : State) : State :=
  let k := n / 8
  let g := n / 4
  let x := sol s n
  let s := if x.phase = .tallyQ then recordRefusal k (.chan (.sol n)) (unqueue k (.chan (.sol n)) s) else s
  let s := raise .error 0x06 0x001C
    [chanWord (.sol n), BitVec.ofNat 32 g, BitVec.ofNat 32 (s.sun.time.toNat - x.arrived.toNat)] (bump 0x0006001C n s)
  let s := setSol n { x with phase := x.prevPhase, peakWait := false } s
  pumpGroup g 4 { s with outs := { s.outs with
    groupQ := SMap.put s.outs.groupQ [] g ((SMap.get s.outs.groupQ [] g).filter fun m => decide (m ≠ n)) } }

/-- DEFER_MAX of a channel in ns (R292). -/
def deferNs (s : State) (n : Nat) : Nat := ((chanDecl s (.sol n)).map (·.deferMax)).getD 1 * 100000

/-- TALLY_CLAIM_REFUSED: a queued claim has waited its limit: TALLY_WAIT_MAX for a load switch, DEFER_MAX for a solenoid channel
(R258). -/
def execTallyClaimRefused (t : Time) (supply : Fin 5) (ch : Chan) (s : State) : Result :=
  let s := advanceTo t s
  let k := supply.val
  .next <|
  match (ledger s k).queue.find? fun q => decide (q.claim.owner = .chan ch) with
  | none => s
  | some q =>
    match ch with
    | .lsw n =>
      if passed s q.since (max s.tally.inWait.toNat 1 * 1000000) then
        onRefused (.chan (.lsw n)) (recordRefusal k (.chan ch) (unqueue k (.chan ch) s))
      else s
    | .sol n =>
      if (sol s n).peakWait then (if passed s (sol s n).arrived (deferNs s n) then refusePeak n s else s)
      else if passed s q.since (deferNs s n) then
        onRefused (.chan (.sol n)) (recordRefusal k (.chan ch) (unqueue k (.chan ch) s))
      else s

/-- TALLY_TRANSIENT_END: the transient part of an admitted claim ends, and a claim without another part leaves the ledger (R255). -/
def execTallyTransientEnd (t : Time) (supply : Fin 5) (index : Nat) (s : State) : Result :=
  let s := advanceTo t s
  let k := supply.val
  .next <|
  match (ledger s k).admitted[index]? with
  | none => s
  | some a =>
    if a.transient && passed s a.since a.claim.tNs then
      let l := (ledger s k).admitted.set index { a with transient := false }
      trackOver k (setLedger k { ledger s k with
        admitted := l.filter fun b => !(decide (b.claim.c = 0) && decide (b.claim.rest = 0) && !b.transient) } s)
    else s

/-- VBAT_CLAIM_WAIT_WARN: a VBAT claim that has waited more than 1 s writes one WARNING (R259). -/
def execVbatClaimWaitWarn (t : Time) (index : Nat) (s : State) : Result :=
  let s := advanceTo t s
  .next <|
  match (ledger s 4).queue[index]? with
  | none => s
  | some q =>
    if !q.warned && decide (q.since.toNat + 1000000000 < s.sun.time.toNat) then
      raise .warning 0x04 0x0040 [ownerWord q.claim.owner, 4]
        (setLedger 4 { ledger s 4 with queue := (ledger s 4).queue.set index { q with warned := true } } s)
    else s

/-! ### Load switches -/

/-- LSW_LIMIT_ENGAGE: a conducting channel whose current reaches its limit, in 10 mA, is held there: within the range of its class, whatever
it overshot to (R266, R268). -/
def execLswLimitEngage (t : Time) (ch : Fin 48) (current : BitVec 16) (s : State) : Result :=
  let s := advanceTo t s
  let x := lsw s ch.val
  .next <|
  if x.on && decide (lswLimit ch.val ≤ 10 * current.toNat) then
    setLsw ch.val { x with limit := some s.sun.time, current := BitVec.ofNat 16 (min current.toNat (lswLimitMax ch.val / 10)) } s
  else s

/-- LSW_TRIP: the limit has stayed engaged for 150 µs (R268, R270, R271). -/
def execLswTrip (t : Time) (ch : Fin 48) (s : State) : Result :=
  let s := advanceTo t s
  .next <|
  match (lsw s ch.val).limit with
  | some l => if passed s l 150000 then lswTripNow ch.val s else s
  | none => s

/-- LSW_THERMAL_LATCH: off, THERM, a WARNING; no trip and no retry (R269). -/
def execLswThermalLatch (t : Time) (ch : Fin 48) (s : State) : Result :=
  let s := advanceTo t s
  let n := ch.val
  .next <|
  if (lsw s n).therm then s
  else
    let s := lswOff n s
    raise .warning 0x05 0x0004 [BitVec.ofNat 32 n] (setLsw n { lsw s n with therm := true, tj := 2720 } s)

/-- What happens when the later of back-off and latch ends (R270, R271). `always` says that exhaustion does not ask for CMD. -/
def lswWaitOver (n : Nat) (always : Bool) (s : State) : State :=
  let x := lsw s n
  if x.exh then s
  else if (always || x.cmd) && decide (retryMax s n ≤ retryCount s x) then lswExhaust n s
  else if lswWaiting x then s
  else if x.cmd then lswRestart n s
  else s

/-- LSW_THERMAL_RELEASE: the latch ends (R269 to R271). -/
def execLswThermalRelease (t : Time) (ch : Fin 48) (s : State) : Result :=
  let s := advanceTo t s
  let n := ch.val
  .next <|
  if (lsw s n).therm then lswWaitOver n true (setLsw n { lsw s n with therm := false, tj := 2240 } s) else s

/-- LSW_BACKOFF_END: the back-off deadline of SYS_ON_TIME has come (R270, R271). -/
def execLswBackoffEnd (t : Time) (ch : Fin 48) (s : State) : Result :=
  let s := advanceTo t s
  let n := ch.val
  .next <|
  match (lsw s n).backoff with
  | some d =>
    if d.toNat ≤ s.sys.onTime.toNat then lswWaitOver n false (setLsw n { lsw s n with backoff := none, trip := false } s)
    else s
  | none => s

/-- LSW_CLEAR for a channel (R272). -/
def clearLsw (n : Nat) (s : State) : State :=
  lswIfOn (setLsw n { lsw s n with retries := [], exh := false, trip := false, backoff := none, restartDue := false } s)
where
  lswIfOn (s : State) : State := if (lsw s n).cmd && !(lsw s n).therm then lswClaimOn n s else s

/-! ### DIR inputs (R277) -/

/-- DIR_INPUT_HIGH. -/
def execDirInputHigh (t : Time) (dir : Fin 16) (s : State) : Result :=
  let s := advanceTo t s
  let s := { s with outs := { s.outs with dir := setBit s.outs.dir dir.val true } }
  .next <| (List.range 48).foldl (fun s n =>
    if decide (field (lsw s n).dirMap 3 0 = dir.val) then limpFollow n s else s) s

/-- DIR_INPUT_LOW_100MS. -/
def execDirInputLow100ms (t : Time) (dir : Fin 16) (s : State) : Result :=
  let s := advanceTo t s
  let s := { s with outs := { s.outs with dir := setBit s.outs.dir dir.val false } }
  .next <| (List.range 48).foldl (fun s n =>
    if decide (field (lsw s n).dirMap 3 0 = dir.val) then limpFollow n s else s) s

/-! ### PWM periods (R276, R278, R283, R293) -/

/-- A load switch's period starts: the commanded duty is applied, and a duty of 0 releases the claim. -/
def lswPeriod (n : Nat) (current : BitVec 16) (s : State) : State :=
  let x := lsw s n
  match chanDecl s (.lsw n) with
  | some d =>
    if !d.pwm || !x.on || decide (x.src = .held) || !periodStart s d.freq 0 then s
    else if x.duty = 0 then lswOff n s
    else setLsw n { x with applied := x.duty, current := current } s
  | none => s

/-- Whether the period just ended qualifies for the gain correction of a channel (R293): it held its current while no other channel of the
group conducted, and none of the 63 periods before was used. -/
def calQualifies (s : State) (n : Nat) : Bool :=
  let x := sol s n
  (decide (x.phase = .cur) || decide (x.phase = .hold)) && x.nextSet.isNone && decide (x.calWait = 0)
    && (List.range 4).all fun i => decide (4 * (n / 4) + i = n) || !solOn (sol s (4 * (n / 4) + i))

/-- A solenoid channel's period starts, shifted by its place in the group: the mean current of the last period is measured, a new set-point
takes effect, and new calibration coefficients of a qualifying period apply; a channel at 0 A without current returns its claim (R18, R283,
R285, R293). -/
def solPeriod (n : Nat) (current : BitVec 16) (cal : Option (BitVec 16)) (s : State) : State :=
  if !((chanDecl s (.sol n)).map fun d => periodStart s d.freq (n % 4)).getD false then s
  else
    let x := sol s n
    let x := { x with measured := current, calWait := x.calWait - 1 }
    let x := match cal with
      | some g => if calQualifies s n then { x with gain := g, calAt := some s.sun.time, calold := false, calWait := 63 } else x
      | none => x
    match x.phase with
    | .cur =>
      let x := match x.nextSet with
        | some v => { x with setpoint := v, nextSet := none, since := s.sun.time }
        | none => x
      let s := setSol n x s
      if x.setpoint = 0 && decide (current = 0) then solOff n s else s
    | _ => setSol n x s

/-- PWM_PERIOD_START. -/
def execPwmPeriodStart (t : Time) (ch : Chan) (current : BitVec 16) (cal : Option (BitVec 16)) (s : State) : Result :=
  let s := advanceTo t s
  .next <|
  match ch with
  | .lsw n => lswPeriod n current s
  | .sol n => solPeriod n current cal s

/-- PWM_UNDRIVEN_SETTLE: a KIND PWM channel that no lane has driven for more than 20 ms, held since the gate closed, stands from its next
period end on, if its last duty was 0.5 or more and its PWM_DUTY_MAX is full on, else off (R278). -/
def execPwmUndrivenSettle (t : Time) (ch : Fin 48) (s : State) : Result :=
  let s := advanceTo t s
  let n := ch.val
  .next <|
  match s.outs.laneQuiet, chanDecl s (.lsw n) with
  | some q, some d =>
    let x := lsw s n
    if d.pwm && x.on && decide (x.src = .held) && decide (q.toNat + 20000000 < s.sun.time.toNat) && periodStart s d.freq 0 then
      if 512 ≤ x.duty.toNat && decide (d.dutyMax = 0x7FFFFFFF) then
        setLsw n { x with applied := 1024, src := .held, pin := true } s
      else
        let s := lswOff n s
        setLsw n { lsw s n with src := .held } s
    else s
  | _, _ => s

/-! ### Banks (R274, R275, R412) -/

/-- Whether the output dies are powered: in every day state but MIDNIGHT (R38, R40). -/
def diesOn (s : State) : Bool := s.sys.powered && decide (s.sys.state ≠ .midnight)

/-- BANK_UNDERVOLTAGE; while the dies are off only the level of VLOAD changes. -/
def execBankUndervoltage (t : Time) (bank : Fin 4) (s : State) : Result :=
  let s := advanceTo t s
  let b := bank.val
  let s := { s with outs := { s.outs with stood := setBit s.outs.stood b false } }
  .next <|
  if bit s.outs.uv b || !diesOn s then s
  else
    bankOff b true (raise .warning 0x05 0x002C [BitVec.ofNat 32 b] (bump 0x0005002C 0
      { s with outs := { s.outs with uv := setBit s.outs.uv b true } }))

/-- BANK_UV_RESTART; while the dies are off only the level of VLOAD changes. -/
def execBankUvRestart (t : Time) (bank : Fin 4) (halfVolts : BitVec 7) (s : State) : Result :=
  let s := advanceTo t s
  let b := bank.val
  .next <|
  let s := { s with outs := { s.outs with vload := SMap.put s.outs.vload 0 b halfVolts, stood := setBit s.outs.stood b true } }
  if bit s.outs.uv b && diesOn s then
    bankRestart b { s with outs := { s.outs with uv := setBit s.outs.uv b false } }
  else s

/-- BANK_OVERVOLTAGE. -/
def execBankOvervoltage (t : Time) (bank : Fin 4) (s : State) : Result :=
  let s := advanceTo t s
  let b := bank.val
  .next <|
  if bit s.sys.ov b || !diesOn s then s
  else
    bankOff b false (raise .warning 0x01 0x0060 [BitVec.ofNat 32 b]
      { s with sys := { s.sys with ov := setBit s.sys.ov b true } })

/-- BANK_OV_RESTART. -/
def execBankOvRestart (t : Time) (bank : Fin 4) (s : State) : Result :=
  let s := advanceTo t s
  let b := bank.val
  .next <|
  if bit s.sys.ov b then bankRestart b { s with sys := { s.sys with ov := setBit s.sys.ov b false } } else s

end Sys2Proof.Machine
end

