-- ==== Sys2Proof/Machine/Inputs.lean ====
section
/-! DEFINITION. Analog inputs, shafts, sensor ports, supply outputs and the IMU (09, R176 to R195). The instant of a command is
the capture instant of its conversion, edge or frame, and a sample lands with the command (log entry 11). -/
namespace Sys2Proof.Machine

/-- The cop that sets the front ends up: the running one, or after a warm reset the one validated last (R178, R193). -/
def setup (s : State) : Cop :=
  match s.store.running with
  | some c => c
  | none => if s.sys.warm then s.store.lastValid.getD {} else {}

/-- Whether the front ends run at an instant: every day state but MIDNIGHT, device time not past it (R195). -/
def frontAt (t : Time) (s : State) : Bool :=
  s.sys.powered && s.sun.run && decide (s.sys.state ≠ .midnight) && decide (s.sun.time = t)

/-! ### Analog inputs (R177 to R183) -/

def ain (s : State) (i : Nat) : Ain := SMap.get s.inputs.ain {} i
def setAin (i : Nat) (x : Ain) (s : State) : State :=
  { s with inputs := { s.inputs with ain := SMap.put s.inputs.ain {} i x } }
def adc (s : State) (a : Nat) : Adc := SMap.get s.inputs.adc {} a
def setAdc (a : Nat) (x : Adc) (s : State) : State :=
  { s with inputs := { s.inputs with adc := SMap.put s.inputs.adc {} a x } }
def ainDecl (s : State) (i : Nat) : Option AinDecl := (setup s).ain.find? fun d => decide (d.input = i)

/-- Mode codes (R178). -/
def modeCode : AinMode → Nat
  | .off => 0
  | .v5 => 1
  | .v10 => 2
  | .ma => 3
  | .res => 4
  | .dig => 5
  | .freq => 6

/-- Whether a mode needs conversions (R179, R180). -/
def converts : AinMode → Bool
  | .off | .freq => false
  | _ => true

/-- One ADC slot, and one round over the eight inputs, in ns (R177). -/
def slotNs : Nat := 2500
def roundNs : Nat := 20000

/-- The window that a slot at `t` belongs to, and whether it is the window's last (R179). -/
def windowOf (d p t : Nat) : Nat := (t - p * slotNs + (d * roundNs - 1)) / (d * roundNs)
def lastOf (d p t : Nat) : Bool := decide ((t - p * slotNs) % (d * roundNs) = 0)

/-- Whether a slot may be stolen for a reference conversion (R182). -/
def qualifies (x : Adc) (d : Option AinDecl) (p t : Nat) : Bool :=
  (match x.lastSteal with
    | some l => decide (l + 64 ≤ t / slotNs)
    | none => true)
  && match d with
    | none => true
    | some d => !converts d.mode || (decide (2 ≤ d.d) && !lastOf d.d p t)

/-- A reference conversion, and new coefficients after the fifth (R182, R183). -/
def stealSlot (n : Nat) (now : Time) (cal : Option (Int × Int)) (x : Adc) : Adc :=
  let x := { x with lastSteal := some n }
  if x.ref = 4 then
    let (g, o) := cal.getD (x.gain, x.off)
    { x with ref := 0, gain := g, off := o, rotatedAt := some now, calOld := false }
  else { x with ref := x.ref + 1 }

/-- The watch over windows of 64 slots, aligned to device time, without a qualifying slot: whether this slot completes one (R182,
log entry 12). -/
def watchSkip (n : Nat) (hit : Bool) (x : Adc) : Adc × Bool :=
  let x := if n % 64 = 0 then { x with windowStart := some n, windowHit := hit } else { x with windowHit := x.windowHit || hit }
  if n % 64 = 63 then ({ x with windowStart := none }, decide (x.windowStart = some (n - 63)) && !x.windowHit) else (x, false)

/-- A corrected conversion sum over `k` conversions in units of 2^-48 of the mode's unit (R179): gain in 2^-16, offset in codes of
2^-16. -/
def corrected (mode sum k : Nat) (gain off : Int) : Int := (sum * gain + k * off) * (Config.ainUnit mode : Int)

/-- Whether a quantity given as num / (k × 2^48) stands above or below `c` hundredths. -/
def aboveC (num : Int) (k c : Nat) : Bool := decide (((c * k * 2 ^ 48 : Nat) : Int) < num * 100)
def belowC (num : Int) (k c : Nat) : Bool := decide (num * 100 < ((c * k * 2 ^ 48 : Nat) : Int))

/-- Over-range and open limits of a mode (R178). -/
def overRange (m : AinMode) (num : Int) (k : Nat) : Bool :=
  match m with
  | .v5 => aboveC num k 525
  | .v10 => aboveC num k 1050
  | .ma => aboveC num k 2100
  | _ => false
def openRange (m : AinMode) (num : Int) (k : Nat) : Bool :=
  match m with
  | .ma => belowC num k 360
  | .res => aboveC num k 550000
  | _ => false

/-- Whether the supply that an input declares makes its samples QUARANTINED: faulted, or not yet on for 5 ms (R178, R193). -/
def supBad (s : State) (d : AinDecl) : Bool :=
  match d.supply with
  | some n => bit s.inputs.supFault n || bit s.inputs.supYoung n || !bit s.inputs.supOn n
  | none => false
def supFaulted (s : State) (d : AinDecl) : Bool :=
  match d.supply with
  | some n => bit s.inputs.supFault n
  | none => false

/-- Time since the last edge, or since DAWN where there was none. -/
def sinceEdge (edge : Option Time) (s : State) : Nat := s.sun.time.toNat - (edge.getD s.sys.dawnAt).toNat

/-- The speed rule of R186 as a frequency `unit × n / (teeth × P)`, with P the span of the last N periods and T the last one, all in
10 ns: none where the spec states no value. -/
def speedRule (unit teeth n p t d stop : Nat) : Option Word :=
  if stop ≤ d then some 0
  else if t = 0 then none
  else if t < d then some (fOfRat unit (teeth * d))
  else if p = 0 then none else some (fOfRat (unit * n) (teeth * p))

/-- The value of a FREQ input (R180): TEETH = 1, N = 1, in Hz. -/
def freqValue (s : State) (d : AinDecl) (x : Ain) : Option Word :=
  speedRule 100000000 1 1 (x.period / 10) (x.period / 10) (sinceEdge x.edge s / 10) (d.stopNs / 10)

/-- A word, or a free value where the spec states none. -/
def orFree (v : Option Word) (s : State) : Word × State :=
  match v with
  | some v => (v, s)
  | none => nextFree s

/-- A window ends: its sample is written (R178 to R180). -/
def endWindow (i : Nat) (d : AinDecl) (s : State) : State :=
  let x := ain s i
  let num := corrected (modeCode d.mode) x.sum x.taken x.gain x.off
  let outRange := overRange d.mode num x.taken
  let open_ := openRange d.mode num x.taken
  let dig := if x.high then true else if x.low then false else x.dig
  let s := setAin i { x with
    overF := x.overF || outRange, openF := x.openF || open_, supF := x.supF || supFaulted s d
    dig := if d.mode = .dig then dig else x.dig } s
  let bad := outRange || open_ || supBad s d || (decide (d.mode = .ma) && x.spoiled)
  let (v, s) := match d.mode with
    | .freq => orFree (freqValue s d x) s
    | .dig => (boolWord dig, s)
    | _ => (fOfRat num (x.taken * 2 ^ 48), s)
  land d.signal .analog v s.sun.time (if bad then .quarantined else .valid) s

/-- A slot of an input in a mode: the window's state with this slot, stolen or converted (R179, R183). -/
def inWindow (d : AinDecl) (w : Nat) (stolen : Bool) (code : BitVec 16) (c : Adc) (x : Ain) : Ain :=
  let x := if x.seen = 0 || x.window ≠ w then
      { x with window := w, seen := 0, sum := 0, taken := 0, spoiled := false, high := true, low := true
               gain := c.gain, off := c.off }
    else x
  if stolen then { x with seen := x.seen + 1 }
  else
    let v := corrected (modeCode d.mode) code.toNat 1 x.gain x.off
    { x with
      seen := x.seen + 1, sum := x.sum + code.toNat, taken := x.taken + 1, code := code
      spoiled := x.spoiled || x.burdenAt.isSome
      high := x.high && !belowC v 1 (d.thrTenthV * 10 + 20)
      low := x.low && !aboveC v 1 (d.thrTenthV * 10 - 20) }

/-- Whether a window that ends at `t` contains a step of device time (R177). -/
def steppedIn (d t : Nat) (s : State) : Bool :=
  match s.sun.stepSpan with
  | some (_, after) => decide (t < after.toNat + d * roundNs) && decide (after.toNat ≤ t)
  | none => false

/-- ADC_SLOT: a slot converts its input, or is stolen for the next reference; a window that ends with all its slots writes its
sample (R177 to R183). -/
def execAdcSlot (t : Time) (a : Fin 12) (code : BitVec 16) (cal : Option (Int × Int)) (s : State) : Result :=
  let s := advanceTo t s
  .next <|
  if !frontAt t s || decide (t.toNat % slotNs ≠ 0) then s
  else
    let n := t.toNat / slotNs
    let p := n % 8
    let i := 8 * a.val + p
    let d := ainDecl s i
    let hit := qualifies (adc s a) d p t.toNat
    let old := adc s a
    let (x, skip) := watchSkip n hit (if hit then stealSlot n t cal old else old)
    let s := setAdc a x s
    let s := if skip then bump 0x000C0014 a s else s
    let s := if hit then s else setAin i { ain s i with code := code } s
    match d with
    | none => s
    | some d =>
      if d.mode = .off then s
      else
        let y := inWindow d (windowOf d.d p t.toNat) hit code old (ain s i)
        let s := setAin i y s
        if lastOf d.d p t.toNat then
          let s := if y.seen = d.d && !steppedIn d.d t.toNat s then endWindow i d s else s
          setAin i { ain s i with seen := 0 } s
        else s

/-- ADC_CAL_AGE_EXPIRED: no rotation for 10 s sets CALOLD, with one WARNING (R183). -/
def execAdcCalAgeExpired (t : Time) (a : Fin 12) (s : State) : Result :=
  let s := advanceTo t s
  let x := adc s a
  .next <|
  if x.calOld || !passed s (x.rotatedAt.getD s.sys.dawnAt) (10 * second) then s
  else raise .warning 0x0C 0x000C [BitVec.ofNat 32 a.val] (setAdc a { x with calOld := true } s)

/-- AIN_BURDEN_OPEN: above 25 mA the burden opens and AIN_FAULT.BURDEN sets (R178). -/
def execAinBurdenOpen (t : Time) (input : Fin 96) (s : State) : Result :=
  let s := advanceTo t s
  .next <|
  match ainDecl s input with
  | some d =>
    let x := ain s input
    if d.mode = .ma && x.burdenAt.isNone then setAin input { x with burdenAt := some s.sun.time, burdenF := true } s else s
  | none => s

/-- AIN_BURDEN_CLOSE: after 100 ms (R178). -/
def execAinBurdenClose (t : Time) (input : Fin 96) (s : State) : Result :=
  let s := advanceTo t s
  .next <|
  match (ain s input).burdenAt with
  | some b => if passed s b 100000000 then setAin input { ain s input with burdenAt := none } s else s
  | none => s

/-- FREQ_EDGE: a rising edge stamped on the TIM clock (R180). -/
def execFreqEdge (t : Time) (input : Fin 96) (s : State) : Result :=
  let s := advanceTo t s
  .next <|
  match ainDecl s input with
  | some d =>
    if d.mode = .freq && frontAt t s then
      let x := ain s input
      let p := match x.edge with
        | some e => t.toNat - e.toNat
        | none => 0
      setAin input { x with edge := some t, period := p } s
    else s
  | none => s

/-! ### Shafts (R184 to R187) -/

def shaft (s : State) (k : Nat) : Shaft := SMap.get s.inputs.shaft {} k
def setShaft (k : Nat) (x : Shaft) (s : State) : State :=
  { s with inputs := { s.inputs with shaft := SMap.put s.inputs.shaft {} k x } }
def shaftDecl (s : State) (k : Nat) : Option ShaftDecl := (setup s).shafts.find? fun d => decide (d.track = k)

/-- The tooth after an accepted edge, and the revolution count (R185, R187): the first edge of a track without Z is tooth 0. -/
def nextTooth (d : ShaftDecl) (reverse : Bool) (x : Shaft) : Nat × Word :=
  if x.edges = 0 && d.z.isNone then (0, x.revs)
  else if reverse then (if x.tooth = 0 then (d.teeth - 1, x.revs - 1) else (x.tooth - 1, x.revs))
  else if d.teeth ≤ x.tooth + 1 then (0, x.revs + 1)
  else (x.tooth + 1, x.revs)

/-- SHAFT_EDGE: a rising edge of A with its stamp and the time for which the input then stayed at its new level; a pulse shorter than
FILTER is rejected and counted (R184, R185, R187). -/
def execShaftEdge (t : Time) (track : Fin 16) (heldNs : Nat) (reverse : Bool) (s : State) : Result :=
  let s := advanceTo t s
  .next <|
  match shaftDecl s track with
  | none => s
  | some d =>
    if !frontAt t s then s
    else if heldNs < d.filterNs then bump 0x000E0014 track s
    else
      let x := shaft s track
      let rev := d.b.isSome && reverse
      let (n, revs) := nextTooth d rev x
      let p := match x.edge with
        | some e => t.toNat - e.toNat
        | none => 0
      setShaft track { x with
        tooth := n, revs := revs, edge := some t, period := p, reverse := rev, stopped := false
        periods := if p = 0 then x.periods else (p :: x.periods).take d.n
        edges := x.edges + 1, sinceIndex := x.sinceIndex + 1 } s

/-- SHAFT_INDEX_EDGE: n := INDEX_TOOTH; at a later index a wrong number of teeth is counted and written as a WARNING (R187). -/
def execShaftIndexEdge (t : Time) (track : Fin 16) (s : State) : Result :=
  let s := advanceTo t s
  .next <|
  match shaftDecl s track with
  | none => s
  | some d =>
    if d.z.isNone then s
    else
      let x := shaft s track
      let s' := setShaft track { x with tooth := d.indexTooth, indexed := true, sinceIndex := 0 } s
      if !frontAt t s then s
      else if x.indexed && decide (x.sinceIndex ≠ d.teeth) then
        raise .warning 0x0E 0x0010 [BitVec.ofNat 32 track.val, BitVec.ofNat 32 x.sinceIndex] (bump 0x000E0010 track s')
      else s'

/-- θ of R185, in bins; the clamp through f keeps it inside the current tooth. -/
def theta (d : ShaftDecl) (x : Shaft) (since : Nat) : Nat :=
  let t := x.period / 10
  let f := min since (t - 1)
  let num : Int := if x.reverse then x.tooth * t - f else x.tooth * t + f
  ((1024 * num / (d.teeth * t : Nat)) % 1024).toNat

/-- SHAFT_GRID_SAMPLE: an angle and a speed, both stamped with the grid instant (R185 to R187). -/
def execShaftGridSample (t : Time) (track : Fin 16) (s : State) : Result :=
  let s := advanceTo t s
  .next <|
  match shaftDecl s track with
  | none => s
  | some d =>
    if !frontAt t s || decide (t.toNat % (second / d.rateHz) ≠ 0) then s
    else
      let x := shaft s track
      let since := sinceEdge x.edge s / 10
      let (b, s) : BitVec 10 × State :=
        if x.stopped then (x.bin, s)
        else if x.period < 10 then let (f, s) := nextFree s; (f.truncate 10, s)
        else (BitVec.ofNat 10 (theta d x since), s)
      let p := if x.periods.length < d.n then 0 else x.periods.sum / 10
      let speed := if x.stopped then some 0
        else (speedRule 6000000000 d.teeth d.n p (x.period / 10) since (d.stopNs / 10)).map fun v =>
          if x.reverse && !isZero v then fneg v else v
      let (v, s) := orFree speed s
      let s := setShaft track { x with bin := b } s
      let known := if d.z.isSome then x.indexed else decide (2 ≤ x.edges)
      let angle : Word := (x.revs <<< 10) ||| b.zeroExtend 32
      land d.speedSig .shaft v t .valid
        (land d.angleSig .shaft angle t (if known then .valid else .quarantined) s)

/-- SHAFT_STOP: STOP_TIME without an edge: speed +0.0, θ held (R186). -/
def execShaftStop (t : Time) (track : Fin 16) (s : State) : Result :=
  let s := advanceTo t s
  .next <|
  match shaftDecl s track with
  | some d => if d.stopNs ≤ sinceEdge (shaft s track).edge s then setShaft track { shaft s track with stopped := true } s else s
  | none => s

/-! ### Sensor ports (R188 to R192) -/

def sensor (s : State) (p : Nat) : Sensor := SMap.get s.inputs.sensor {} p
def setSensor (p : Nat) (x : Sensor) (s : State) : State :=
  { s with inputs := { s.inputs with sensor := SMap.put s.inputs.sensor {} p x } }
/-- Whether the SEN domain runs (R322). -/
def senRuns (s : State) : Bool := decide (SMap.get s.clock.src .main 7 ≠ .stopped)
def sensorDecl (s : State) (p : Nat) : Option SensorDecl := (setup s).sensors.find? fun d => decide (d.port = p)

/-- Whether a port runs PSI5 (SEN_STAT.MODE 1 or 2) or SENT (3). -/
def psi5Port (d : SensorDecl) : Bool := d.mode = 1 || d.mode = 2
def sentPort (d : SensorDecl) : Bool := d.mode = 3

/-- The VBAT claims of a port and of a SUP (R259). -/
def portClaim (d : SensorDecl) : Claim := drawClaim (.port d.port) (if psi5Port d then 100 else 40)
def supClaim (d : SupDecl) : Claim := drawClaim (.sup d.sup) (if d.tenV then 150 else 80)

/-- Signals that a port writes. -/
def portSignals (d : SensorDecl) : List Nat := d.slots.map (·.signal) ++ d.fast.map (·.1) ++ d.slow.map (·.2)

/-- ns of TIM time since power-on. -/
def elapsedNs (s : State) : Nat := s.sys.onTime.toNat * 1000 + s.sys.subNs

/-- PSI5_SYNC_PULSE: at a scheduled instant at least PERIOD of elapsed time after the pulse before (R189, R192); the deviation lies
within ±0.5 µs, or ±1 % of PERIOD in DEGRADED, and the spec states no value for it (log entry 3). -/
def execPsi5SyncPulse (t : Time) (port : Fin 12) (s : State) : Result :=
  let s := advanceTo t s
  .next <|
  match sensorDecl s port with
  | none => s
  | some d =>
    let x := sensor s port
    let due := decide (t.toNat % d.periodNs = d.offsetNs % d.periodNs)
    let spaced := x.sync.isNone || decide (x.syncOn + d.periodNs ≤ elapsedNs s)
    if frontAt t s && senRuns s && psi5Port d && x.power && due && spaced then
      let (f, s) := nextFree s
      let dev := f.toNat % (1 + (if x.degraded then d.periodNs / 100 else 500))
      send (.psi5Sync port.val t) (setSensor port { x with
        sync := some t, syncOn := elapsedNs s, syncDev := BitVec.ofNat 32 (max dev x.syncDev.toNat) } s)
    else s

/-- A frame error: counted, kept in SEN_LASTERR, no sample (R191). -/
def frameError (port slot code : Nat) (s : State) : State :=
  bump 0x000D000C port (setSensor port { sensor s port with lastErr := BitVec.ofNat 6 (16 * (slot % 4) + code % 16) } s)

/-- Whether a start bit falls into a slot's window, which is 1 % wider at both ends in DEGRADED (R189, R192). -/
def inSlot (sync start : Time) (degraded : Bool) (w : Psi5Slot) : Bool :=
  let lo := w.startNs - (if degraded then w.startNs / 100 else 0)
  let hi := w.startNs + w.lengthNs + (if degraded then (w.startNs + w.lengthNs) / 100 else 0)
  decide (sync.toNat + lo ≤ start.toNat) && decide (start.toNat < sync.toNat + hi)

/-- A cyclic redundancy check over bits in order, most significant first: width, polynomial below its leading term, seed (PRESUMED, log
entry 96). -/
def crcOf (w poly seed : Nat) (l : List Bool) : Nat :=
  l.foldl (fun r b => let v := (2 * r + b.toNat) % 2 ^ w; if 2 ^ (w - 1) ≤ r then v ^^^ poly else v) seed

/-- Bits of a number, most significant first, and back. -/
def bitsOf (n v : Nat) : List Bool := ((List.range n).map fun k => v.testBit k).reverse
def ofBits (l : List Bool) : Nat := l.foldl (fun n b => 2 * n + b.toNat) 0

/-- Whether the parity bit, or the 3-bit CRC, of a PSI5 reply is right: even parity; 1 + x + x³ from all ones (PRESUMED: the PSI5
specification that R188 names, log entry 96). -/
def psi5CheckOk (f : Psi5Frame) : Bool :=
  match f.check with
  | [p] => decide (((p :: f.data).filter id).length % 2 = 0)
  | c => decide (crcOf 3 3 7 (f.data ++ [false, false, false]) = ofBits c)

/-- The error of a PSI5 reply, by its code, none of a good one (R189, R191): Manchester, length, parity or CRC, in this order (log entry
96). -/
def psi5Error (w : Psi5Slot) (f : Psi5Frame) : Option Nat :=
  if !f.manchester then some 3
  else if f.data.length ≠ w.bits || f.check.length ≠ (if w.crc then 3 else 1) then some 5
  else if !psi5CheckOk f then some 2 else none

/-- PSI5_FRAME (R189, R191): a good frame in its slot writes one sample stamped sync + SAMPLE_OFFSET; the least significant bit is sent
first (PRESUMED, log entry 96). -/
def execPsi5Frame (t : Time) (port : Fin 12) (slot : Fin 4) (startBit : Time) (f : Psi5Frame) (s : State) : Result :=
  let s := advanceTo t s
  .next <|
  match sensorDecl s port, (sensor s port).sync with
  | some d, some y =>
    if !psi5Port d || !(sensor s port).power || !senRuns s then s
    else match d.slots[slot.val]? with
    | none => frameError port slot 1 s
    | some w =>
      if !inSlot y startBit (sensor s port).degraded w then frameError port slot 1 s
      else match psi5Error w f with
        | some c => frameError port slot c s
        | none =>
          land w.signal .port (Config.portValue port slot (ofBits f.data.reverse)) (y + BitVec.ofInt 64 w.sampleOffsetNs) .valid
            (bump 0x000D0008 port s)
  | _, _ => s

/-- The nibbles of a SENT frame's pulses: 12 to 27 ticks stand for 0 to 15 (PRESUMED: SAE J2716, log entry 96). -/
def nibblesOf (l : List Nat) : Option (List Nat) :=
  l.mapM fun p => if decide (12 ≤ p) && decide (p ≤ 27) then some (p - 12) else none

/-- The 4-bit CRC of the recommended implementation: x⁴ + x³ + x² + 1 from 5, with a nibble of zeros appended (PRESUMED: SAE J2716, log
entry 96). -/
def sentCrc (l : List Nat) : Nat := crcOf 4 13 5 ((l ++ [0]).flatMap (bitsOf 4))

/-- Whether a calibration pulse lies within ±25 % of 56 nominal ticks, and within 1.5625 % of the one before (R190). -/
def calibrationOk (d : SensorDecl) (before : Option Nat) (cal : Nat) : Bool :=
  decide (3 * 56 * d.tickNs ≤ 4 * cal) && decide (4 * cal ≤ 5 * 56 * d.tickNs) && match before with
    | some b => decide (64 * (cal - b) ≤ b) && decide (64 * (b - cal) ≤ b)
    | none => true

/-- The error of a SENT frame, by its code, else its nibbles: tick, nibble, length, CRC, in this order (R190, R191, log entry 96). -/
def sentDecode (d : SensorDecl) (before : Option Nat) (f : SentFrame) : Except Nat (List Nat) :=
  if !calibrationOk d before f.calNs then .error 4
  else match nibblesOf f.pulses with
  | none => .error 3
  | some l =>
    let data := (l.drop 1).dropLast
    if l.length ≠ (d.fast.map (·.2)).sum + 2 then .error 5
    else if sentCrc data ≠ l.getLastD 0 then .error 2 else .ok l

/-- A slow message that the status bits of the latest frames complete, oldest first: ID and data (R190; its layout PRESUMED: SAE J2716, log
entry 96). -/
def slowMessage (format : Nat) (l : List (Bool × Bool)) : Option (Nat × Nat) :=
  let b3 := l.map (·.1)
  let b2 := l.map (·.2)
  let part := fun (x : List Bool) (from_ n : Nat) => ofBits ((x.drop from_).take n)
  if format = 1 then
    if decide (l.length = 16) && b3.headD false && !(b3.drop 1).any id
        && decide (sentCrc [part b2 0 4, part b2 4 4, part b2 8 4] = part b2 12 4) then
      some (part b2 0 4, part b2 4 8)
    else none
  else if format = 2 then
    let message := ((b2.drop 6).zip (b3.drop 6)).flatMap fun e => [e.1, e.2]
    if decide (l.length = 18) && (b3.take 6).all id && !b3.getD 6 true && !b3.getD 12 true && !b3.getD 17 true
        && decide (crcOf 6 25 21 (message ++ List.replicate 6 false) = part b2 0 6) then
      if b3.getD 7 false then some (part b3 8 4, part b3 13 4 * 4096 + part b2 6 12)
      else some (part b3 8 4 * 16 + part b3 13 4, part b2 6 12)
    else none
  else none

/-- The fast channels of a frame's data nibbles: signal, number of the channel, value of its nibbles (R190). -/
def fastChannels : Nat → List (Nat × Nat) → List Nat → List (Nat × Nat × Nat)
  | _, [], _ => []
  | k, (g, n) :: r, l => (g, k, (l.take n).foldl (fun v x => 16 * v + x) 0) :: fastChannels (k + 1) r (l.drop n)

/-- SENT_FRAME (R190, R191): its samples, those of the fast channels and of a slow message that it completes, are stamped at the start of
the calibration pulse minus SAMPLE_OFFSET. -/
def execSentFrame (t : Time) (port : Fin 12) (calPulse : Time) (f : SentFrame) (s : State) : Result :=
  let s := advanceTo t s
  .next <|
  match sensorDecl s port with
  | some d =>
    let x := sensor s port
    if !sentPort d || !x.power || !senRuns s then s
    else match sentDecode d x.calNs f with
      | .error c => frameError port 0 c (setSensor port { x with calNs := some f.calNs, status := [] } s)
      | .ok l =>
        let stamp := calPulse - BitVec.ofInt 64 d.sentOffsetNs
        let st := ((l.headD 0).testBit 3, (l.headD 0).testBit 2) :: x.status
        let st := st.take (if d.slowFormat = 1 then 16 else 18)
        let slow := slowMessage d.slowFormat st.reverse
        let s := bump 0x000D0008 port (setSensor port { x with calNs := some f.calNs, status := if slow.isSome then [] else st } s)
        let s := (fastChannels 0 d.fast (l.drop 1)).foldl (fun s e =>
          land e.1 .port (Config.portValue port e.2.1 e.2.2) stamp .valid s) s
        match slow with
        | some (id, v) => (d.slow.filter fun e => decide (e.1 = id)).foldl (fun s e =>
            land e.2 .port (Config.portValue port (16 + id) v) stamp .valid s) s
        | none => s
  | none => s

/-- The signals of a port are rewritten QUARANTINED with their last values: its supply is off (R191). -/
def portDark (port : Nat) (s : State) : State :=
  match sensorDecl s port with
  | some d => (portSignals d).foldl (fun s i => quarantineNewest i s) s
  | none => s

/-- PORT_SUPPLY_OVERCURRENT: above 120 mA the port supply switches off and its claim returns; its signals are rewritten QUARANTINED
(R191). -/
def execPortSupplyOvercurrent (t : Time) (port : Fin 12) (s : State) : Result :=
  let s := advanceTo t s
  let x := sensor s port
  .next <|
  if !x.power then s
  else
    portDark port (giveBack 4 (.port port.val)
      (setSensor port { x with power := false, short := true, offAt := s.sun.time, sync := none, calNs := none, status := [] } s))

/-- PORT_SUPPLY_RETRY: every 100 ms the port claims its supply again (R191). -/
def execPortSupplyRetry (t : Time) (port : Fin 12) (s : State) : Result :=
  let s := advanceTo t s
  let x := sensor s port
  .next <|
  match sensorDecl s port with
  | some d =>
    if x.short && !x.power && passed s x.offAt 100000000 && !waits s 4 (.port port.val) then submit 4 (portClaim d) s else s
  | none => s

/-! ### Supply outputs (R193) -/

/-- SUP_CURRENT_LIMIT: a SUP that meets its limit turns off and its claim returns. -/
def execSupCurrentLimit (t : Time) (sup : Fin 16) (s : State) : Result :=
  let s := advanceTo t s
  .next <|
  if !bit s.inputs.supOn sup then s
  else giveBack 4 (.sup sup.val) { s with inputs := { s.inputs with
    supOn := setBit s.inputs.supOn sup false, supFault := setBit s.inputs.supFault sup true
    supYoung := setBit s.inputs.supYoung sup false, supAt := SMap.insert s.inputs.supAt sup s.sun.time } }

/-- SUP_RETRY: every 100 ms the output claims its supply again. -/
def execSupRetry (t : Time) (sup : Fin 16) (s : State) : Result :=
  let s := advanceTo t s
  .next <|
  match (setup s).sups.find? fun d => decide (d.sup = sup.val) with
  | some d =>
    if bit s.inputs.supFault sup && !bit s.inputs.supOn sup && passed s (SMap.get s.inputs.supAt 0 sup) 100000000
        && !waits s 4 (.sup sup.val) then submit 4 (supClaim d) s else s
  | none => s

/-- SUP_SETTLED: 5 ms after switch-on the inputs it feeds are trusted. -/
def execSupSettled (t : Time) (sup : Fin 16) (s : State) : Result :=
  let s := advanceTo t s
  .next <|
  if bit s.inputs.supOn sup && passed s (SMap.get s.inputs.supAt 0 sup) 5000000 then
    { s with inputs := { s.inputs with supYoung := setBit s.inputs.supYoung sup false } }
  else s

/-- Sensor-port and SUP supplies go off with the held outputs (R33, R193): the signals of a port that was on turn QUARANTINED (R191), and
nothing that a current limit had switched off retries. -/
def suppliesOff (s : State) : State :=
  let s := (List.range 12).foldl (fun s n =>
    let x := sensor s n
    let s := unqueue 4 (.port n) (giveBack 4 (.port n)
      (setSensor n { x with power := false, short := false, sync := none, calNs := none, status := [] } s))
    if x.power then portDark n s else s) s
  let s := (List.range 16).foldl (fun s n => unqueue 4 (.sup n) (giveBack 4 (.sup n) s)) s
  { s with inputs := { s.inputs with supOn := 0, supYoung := 0, supFault := 0 } }

/-! ### IMU (R194) -/

/-- Whether the IMU samples: its self-test is over and the SEN domain runs (IMU_STAT.RUN, R195, R322). -/
def imuSamples (s : State) : Bool := s.sys.powered && s.sun.run && s.inputs.imuRun && senRuns s && decide (s.sys.state ≠ .midnight)

/-- IMU_SAMPLE: six signals at each multiple of 500 µs, in the order of their declarations; QUARANTINED at full scale on any axis or
after a failed self-test. -/
def execImuSample (t : Time) (values : List Word) (temp : BitVec 16) (fullScale : Bool) (s : State) : Result :=
  let s := advanceTo t s
  .next <|
  if !frontAt t s || !imuSamples s || decide (t.toNat % 500000 ≠ 0) then s
  else
    let st : SigStatus := if fullScale || s.inputs.imuFail then .quarantined else .valid
    ((writtenBy (cop s) fun w => decide (w = .imu)).zip (values.take 6)).foldl (fun s e => land e.1 .imu e.2 t st s)
      { s with inputs := { s.inputs with imuTemp := temp } }

end Sys2Proof.Machine
end

