-- ==== Sys2Proof/Machine/Strike.lean ====
section
/-! DEFINITION. The Strike unit (10, R196 to R211). -/
namespace Sys2Proof.Machine

def stk (s : State) (n : Nat) : StkCh := SMap.get s.strike.chans {} n
def setStk (n : Nat) (x : StkCh) (s : State) : State :=
  { s with strike := { s.strike with chans := SMap.put s.strike.chans {} n x } }
def stkDecl (s : State) (n : Nat) : Option StrikeDecl := (cop s).strike.find? fun d => decide (d.ch = n)

/-- Threshold of a noise floor (R199): K_THR has 4 fraction bits, nf 8. -/
def strikeThr (d : StrikeDecl) (nf : Int) : Int := min (max (nf * d.kThr / 4096) d.tMin) d.tMax

/-- A channel as the unit starts it (R198, R209): nf at INIT_FLOOR, no sample yet; what PRE reaches of before the start reads as 0 (log
entry 97). -/
def startChannel (d : StrikeDecl) (now : Time) : StkCh :=
  { nf := d.initFloor, thr := strikeThr d d.initFloor, ys := List.replicate 32 0, quietAt := some now }

/-- The unit starts with the running cop's setup: on entry to MORNING, and by FUNC_REINIT bit 27 (R207, R209). -/
def startStrike (s : State) : State :=
  { s with strike := { s.strike with
    run := true, openBins := [], history := [], lastBin := none, heldEntries := [], startAt := s.sun.time
    chans := (cop s).strike.foldl (fun m d => SMap.insert m d.ch (startChannel d s.sun.time)) [] } }

/-- One bin in ns. -/
def binNs : Nat := 10000000

/-! ### Samples (R196 to R200) -/

/-- A floor update at the end of a block of 64 samples (R198): only of a quiet and whole one. -/
def endBlock (d : StrikeDecl) (now : Time) (x : StkCh) : StkCh :=
  let y := { x with sumEnv := 0, inBlock := 0, busyBlock := false }
  if x.busyBlock || x.inBlock ≠ 64 then y
  else
    let nf := x.nf + (x.sumEnv / 64 * 256 - x.nf) / ((2 ^ d.nfShift : Nat) : Int)
    { y with nf := nf, thr := strikeThr d nf, quietAt := some now, floorHold := false }

/-- A window in capture takes a sample of y (R200). -/
def takeSample (y : Int) (w : StkWindow) : StkWindow :=
  if w.left = 0 then w else { w with samples := w.samples ++ [y], left := w.left - 1 }

/-- Samples skipped by a time step: windows that span them are discarded, and the block is not whole (R196). -/
def afterGap (x : StkCh) : StkCh :=
  { x with windows := x.windows.filter fun w => decide (w.left = 0), ys := [], busyBlock := true }

/-- Baseline and envelope (R197); every shift is arithmetic. -/
def envelope (d : StrikeDecl) (code : Nat) (x : StkCh) : StkCh × Int :=
  let v : Int := (code : Int) - 8192
  let b := x.b + (v * 256 - x.b) / 1024
  let y := v - b / 256
  let decay := x.env - x.env / ((2 ^ d.ed : Nat) : Int)
  ({ x with b := b, env := max (y.natAbs : Int) decay }, y)

/-- Whether the baseline lies outside its band (R208). -/
def outOfBand (x : StkCh) : Bool := decide (x.b / 256 < -7168) || decide (7168 < x.b / 256)

/-- Since when the baseline lies outside, and inside, the band. -/
def watchBand (now : Time) (x : StkCh) : StkCh :=
  if outOfBand x then { x with outSince := some (x.outSince.getD now), inSince := none }
  else { x with outSince := none, inSince := some (x.inSince.getD now) }

/-- STRIKE_SAMPLE: one conversion of an enabled channel (R196 to R200, R208). The DEAD samples behind a detection are its dead
time (log entry 13). -/
def execStrikeSample (t : Time) (ch : Fin 32) (code : BitVec 14) (s : State) : Result :=
  let s := advanceTo t s
  .next <|
  match stkDecl s ch with
  | none => s
  | some d =>
    if !s.strike.run || decide (s.sun.time ≠ t) || decide (t.toNat % 2500 ≠ 0) then s
    else
      let x := stk s ch
      let gap := match x.last with
        | some l => decide (l.toNat + 2500 ≠ t.toNat)
        | none => false
      let (x, y) := envelope d code.toNat (if gap then afterGap x else x)
      let capturing := x.windows.any fun w => decide (0 < w.left)
      let x := watchBand t { x with last := some t, windows := x.windows.map (takeSample y) }
      let dead := decide (0 < x.dead)
      let hit := x.armed && !x.fault && decide (x.thr ≤ x.env)
      let x := if hit then { x with armed := false, dead := d.dead }
        else if dead then { x with dead := x.dead - 1 }
        else if decide (x.env < x.thr) then { x with armed := true } else x
      let pre := (x.ys.take d.pre).reverse
      let x := if hit && decide (pre.length = d.pre) then
          { x with windows := x.windows ++ [{ ch := ch, cap := decide (s.strike.capCh.toNat = ch), stamp := t, samples := pre ++ [y], left := 63 - d.pre }] }
        else x
      let busy := hit || dead || capturing
      let x := { x with
        ys := (y :: x.ys).take 32, sumEnv := x.sumEnv + x.env, inBlock := x.inBlock + 1, busyBlock := x.busyBlock || busy }
      let x := if t.toNat / 2500 % 64 = 63 then endBlock d t x else x
      let s := setStk ch x s
      if hit then bump 0x000B0010 ch { s with strike := { s.strike with capUse := s.strike.capCh } } else s

/-- STRIKE_FLOOR_HOLD: no quiet block for 1 s (R198). -/
def execStrikeFloorHold (t : Time) (ch : Fin 32) (s : State) : Result :=
  let s := advanceTo t s
  let x := stk s ch
  .next <|
  match x.quietAt with
  | some q =>
    if s.strike.run && !x.floorHold && passed s q second then
      raise .warning 0x0B 0x0008 [BitVec.ofNat 32 ch.val] (setStk ch { x with floorHold := true } s)
    else s
  | none => s

/-- STRIKE_WINDOW_CAPTURED: a window with its 64 samples goes to the classifier's queue of the channel (R200, R202). -/
def execStrikeWindowCaptured (t : Time) (ch : Fin 32) (s : State) : Result :=
  let s := advanceTo t s
  let x := stk s ch
  .next <|
  match x.windows with
  | w :: r => if w.left = 0 then setStk ch { x with windows := r, queue := (x.queue ++ [w]).take 8 } s else s
  | [] => s

/-! ### Classification (R201, R202) -/

/-- Sum of products. -/
def dot (a b : List Int) : Int := (List.zipWith (· * ·) a b).sum

/-- The class of a window (R201): the matching template with the largest dot² / TE, the lower index on a tie, else 4. -/
def classify (d : StrikeDecl) (w : List Int) : Nat :=
  let e := dot w w
  let pick := d.templates.foldl (fun (best : Option (Nat × Int × Int)) tp =>
    let te := dot tp.2.2 tp.2.2
    let k := dot w tp.2.2
    if te = 0 || !decide (0 < k) || decide (k * k * 65536 < tp.2.1 * e * te) then best
    else match best with
      | none => some (tp.1, k, te)
      | some b =>
        let l := b.2.1 * b.2.1 * te
        let r := k * k * b.2.2
        if l < r || (decide (l = r) && decide (tp.1 < b.1)) then some (tp.1, k, te) else best) none
  match pick with
  | some b => b.1
  | none => 4

/-- Index of the first bin that has not closed; a step skips the bins that lie wholly in its span (R203, R204). -/
def nextBin (s : State) : Nat :=
  let j := match s.strike.lastBin with
    | some l => l + 1
    | none => s.strike.startAt.toNat / binNs
  match s.sun.stepSpan with
  | some (b, a) => if b.toNat ≤ j * binNs && decide ((j + 1) * binNs ≤ a.toNat) then a.toNat / binNs else j
  | none => j

/-- A bin that is open, and an open bin changed. -/
def openBin (s : State) (j : Nat) : StkBin := (s.strike.openBins.find? fun b => decide (b.index = j)).getD { index := j }
def setBin (b : StkBin) (s : State) : State :=
  { s with strike := { s.strike with openBins := b :: s.strike.openBins.filter fun c => decide (c.index ≠ b.index) } }

/-- A detection of a class counts in the bin of its stamp (R203). -/
def countStrike (ch cls : Nat) (stamp : Time) (s : State) : State :=
  let j := stamp.toNat / binNs
  if j < nextBin s then s
  else
    let b := openBin s j
    let k := 5 * ch + cls
    let n := SMap.get b.counts 0 k
    setBin (if n = 65535 then { b with sat := SMap.put b.sat false k true }
      else { b with counts := SMap.put b.counts 0 k (n + 1) }) s

/-- An int as `n` bytes, two's complement. -/
def intBytes (n : Nat) (i : Int) : List Byte := bytesOf n (i % ((2 ^ (8 * n) : Nat) : Int)).toNat

/-- A classified window for tuning (R210): the samples, e, the four dot products, the class. -/
def captureBytes (d : StrikeDecl) (w : List Int) (cls : Nat) : List Byte :=
  let dots := (List.range 4).map fun c => match d.templates.find? fun tp => decide (tp.1 = c) with
    | some tp => dot w tp.2.2
    | none => 0
  w.flatMap (intBytes 2) ++ intBytes 8 (dot w w) ++ dots.flatMap (intBytes 8) ++ [BitVec.ofNat 8 cls]

/-- The channel of an engine whose oldest queued window has the earliest stamp (R202). -/
def nextWindow (s : State) (engine : Nat) : Option (Nat × StkWindow) :=
  (List.range 8).foldl (fun best i =>
    match (stk s (8 * engine + i)).queue with
    | w :: _ => match best with
      | some b => if w.stamp < b.2.stamp then some (8 * engine + i, w) else best
      | none => some (8 * engine + i, w)
    | [] => best) none

/-- STRIKE_CLASSIFY_DONE: an engine has classified a window (R201 to R203, R210). -/
def execStrikeClassifyDone (t : Time) (engine : Fin 4) (s : State) : Result :=
  let s := advanceTo t s
  .next <|
  match nextWindow s engine with
  | none => s
  | some (ch, w) =>
    let x := stk s ch
    let s := setStk ch { x with queue := x.queue.tail } s
    match stkDecl s ch with
    | none => s
    | some d =>
      let cls := classify d w.samples
      let s := countStrike ch cls w.stamp s
      let s := if cls = 4 then bump 0x000B0014 ch s else s
      match (cop s).captureBobbin with
      | some b =>
        if s.strike.capEn && w.cap then
          (offer b w.stamp 0 (captureBytes d w.samples cls) s).2
        else s
      | none => s

/-! ### Bins and rates (R203 to R207) -/

/-- Enabled channels, lowest first. -/
def enabledChans (s : State) : List Nat := (List.range 32).filter fun n => (stkDecl s n).isSome

/-- The payload of a closed bin (R204), with LOST still zero. -/
def binBytes (s : State) (b : StkBin) : List Byte :=
  let chans := enabledChans s
  let head : List Byte := [BitVec.ofNat 8 (chans.headD 0), BitVec.ofNat 8 chans.length, 0, 0, 0, 0, 0, 0]
  head ++ chans.flatMap fun n =>
    let sat := (List.range 5).foldl (fun m c => if SMap.get b.sat false (5 * n + c) then m + 2 ^ c else m) 0
    let st := (if bit b.faults n then 1 else 0) + (if (stk s n).floorHold then 2 else 0) + (if b.partialBin then 4 else 0)
    ((List.range 5).flatMap fun c => bytesOf 2 (SMap.get b.counts 0 (5 * n + c))) ++ [BitVec.ofNat 8 sat, BitVec.ofNat 8 st]

/-- A bin entry is lost (R205). -/
def loseBin (s : State) : State :=
  bump 0x000B0018 0 { s with strike := { s.strike with lost := s.strike.lost + 1 } }

/-- A closed bin's entry goes to the Strike Bobbin: under WAIT up to eight are held; without an active lane it is lost and counts in
BOB_DROP too (R108, R204, R205, R209). -/
def pushBin (stamp : Time) (bytes : List Byte) (s : State) : State :=
  match (cop s).strikeBobbin with
  | none => s
  | some b =>
    if !laneActive s || !s.lanes.gate then bump 0x001D0018 b (loseBin s)
    else match bobDecl s b with
    | none => s
    | some d =>
      let e : BobEntry := { stamp := stamp, seq := 0, aux := 0, bytes := bytes }
      if d.dropNew then
        let (ok, s) := offer b stamp 0 (withLost s.strike.lost e).bytes s
        if ok then { s with strike := { s.strike with lost := 0 } } else loseBin s
      else if 8 ≤ s.strike.heldEntries.length then loseBin s
      else
        let n := s.strike.heldEntries.length + 1
        let s := strikeDeliver b { s with strike := { s.strike with heldEntries := s.strike.heldEntries ++ [e] } }
        if n = s.strike.heldEntries.length then bump 0x001D001C b s else s

/-- Sum of the selected counts over a window, and whether a selected channel is in FAULT or a selected SAT is set in it (R206,
R207). -/
def rateSum (o : RateDecl) (w : List StkBin) : Nat × Bool × Bool :=
  let sel := ((List.range 32).filter fun n => bit o.chMask n).flatMap fun n =>
    ((List.range 5).filter fun c => bit o.classMask c).map fun c => 5 * n + c
  ((w.map fun b => (sel.map fun k => SMap.get b.counts 0 k).sum).sum,
    w.any fun b => decide (b.faults &&& o.chMask ≠ 0), w.any fun b => sel.any fun k => SMap.get b.sat false k)

/-- A rate output written at a bin's close (R206, R207). -/
def writeRate (stamp : Time) (o : RateDecl) (s : State) : State :=
  if s.strike.history.length < o.w then s
  else
    let (n, faulty, sat) := rateSum o (s.strike.history.take o.w)
    land o.signal .strike (fmul (i2fInt n) o.factor) stamp
      (if faulty then .quarantined else if sat then .substituted else .valid) s

/-- A bin as it closes (R203, R204, R208): the counts of channels in FAULT are zero. -/
def closedBin (s : State) (j : Nat) : StkBin :=
  let b := openBin s j
  let last := (j + 1) * binNs
  let faults := (List.range 32).foldl (fun m n =>
    if (stk s n).fault && decide ((stk s n).faultAt.toNat < last) then setBit m n true else m) b.faults
  let skipped := match s.sun.stepSpan with
    | some (p, a) => decide (p.toNat < last) && decide (j * binNs < a.toNat)
    | none => false
  { b with
    faults := faults, partialBin := decide (j * binNs < s.strike.startAt.toNat) || skipped
    counts := b.counts.filter fun e => !bit faults (e.1 / 5) }

/-- STRIKE_BIN_CLOSE: 200 µs after its end a bin closes: entry and rates (R203 to R207, R209). -/
def execStrikeBinClose (t : Time) (s : State) : Result :=
  let s := advanceTo t s
  .next <|
  let j := nextBin s
  let last := (j + 1) * binNs
  if !s.strike.run || decide (s.sun.time.toNat < last + 200000) then s
  else
    let b := closedBin s j
    let stamp : Time := BitVec.ofNat 64 last
    let s := { s with strike := { s.strike with
      lastBin := some j, openBins := s.strike.openBins.filter fun c => decide (j < c.index)
      history := (b :: s.strike.history).take 100 } }
    (cop s).rates.foldl (fun s o => writeRate stamp o s) (pushBin stamp (binBytes s b) s)

/-! ### Channel faults (R208) -/

/-- STRIKE_FAULT_ENTER: the baseline has been outside its band for 10 ms. -/
def execStrikeFaultEnter (t : Time) (ch : Fin 32) (s : State) : Result :=
  let s := advanceTo t s
  let x := stk s ch
  .next <|
  match x.outSince with
  | some o =>
    if s.strike.run && !x.fault && passed s o 10000000 then
      raise .error 0x0B 0x0008 [BitVec.ofNat 32 ch.val] (setStk ch { x with fault := true, faultAt := s.sun.time } s)
    else s
  | none => s

/-- Bins from `j` on, `n` of them, that a channel spent in FAULT. -/
def markFaults (ch j : Nat) : Nat → State → State
  | 0, s => s
  | n + 1, s =>
    let b := openBin s j
    markFaults ch (j + 1) n (setBin { b with faults := setBit b.faults ch true } s)

/-- STRIKE_FAULT_LEAVE: 100 ms back inside the band; nf restarts at INIT_FLOOR. -/
def execStrikeFaultLeave (t : Time) (ch : Fin 32) (s : State) : Result :=
  let s := advanceTo t s
  let x := stk s ch
  .next <|
  match x.inSince, stkDecl s ch with
  | some i, some d =>
    if x.fault && passed s i 100000000 then
      let from_ := max (nextBin s) (x.faultAt.toNat / binNs)
      let s := markFaults ch from_ (s.sun.time.toNat / binNs + 1 - from_) s
      setStk ch { x with fault := false, nf := d.initFloor, thr := strikeThr d d.initFloor } s
    else s
  | _, _ => s

end Sys2Proof.Machine
end

