-- ==== Sys2Proof/Machine/Ply.lean ====
section
/-! DEFINITION. Ply fusion, the pose history and yield records (11, R212 to R231). The numerics of the pose filter (R221) and its
innovations are not given, so pose values and gate verdicts are free values; everything that surrounds them is exact. -/
namespace Sys2Proof.Machine

def plySrc (s : State) (n : Nat) : PlySrcSt := SMap.get s.core.ply.srcs {} n
def setPlySrc (n : Nat) (x : PlySrcSt) (s : State) : State :=
  { s with core := { s.core with ply := { s.core.ply with srcs := SMap.put s.core.ply.srcs {} n x } } }
def setPly (p : PlySt) (s : State) : State := { s with core := { s.core with ply := p } }
def plyDecl (s : State) (n : Nat) : Option PlySource := (cop s).ply.sources.find? fun d => decide (d.number = n)

/-- Values per sample of a source. -/
def valuesOf (d : PlySource) : Nat := d.angles.length

/-- A MAPPED source that no sync has anchored counts as UNALIGNED (R214, R215). -/
def unaligned (d : PlySource) (x : PlySrcSt) : Bool := d.mapped && (x.unal || !x.anchored)

/-! ### Clock models (R214, R215) -/

/-- map(x) of R214. -/
def mapTime (m : PlySrcSt) (x : Int) : Int := m.anchorD + (x - m.anchorS) + (x - m.anchorS) * m.rate / (2 ^ 40 : Int)

/-- An instant of a mapped stamp, modulo 2^64. -/
def timeOf (i : Int) : Time := BitVec.ofInt 64 i

/-- What a change of alignment writes (R215). -/
def alignRecord (n : Nat) (was now : Bool) (s : State) : State :=
  if was = now then s
  else raise (if now then .warning else .notice) 0x0A 0x0008 [BitVec.ofNat 32 n] s

/-- A sync (x, d) on a source's model (R214, R215): the new model, or none where the source's clock did not advance. -/
def syncModel (d : PlySource) (m : PlySrcSt) (x dev : Int) : Option PlySrcSt :=
  if !m.anchored then
    some { m with anchored := true, anchorS := x, anchorD := dev, rate := 0, good := 0, unal := true, u0 := d.resNs, ts := timeOf dev }
  else if x ≤ m.anchorS then none
  else
    let rho := dev - mapTime m x
    let u0 := max rho.natAbs d.resNs
    if (d.frameNs : Int) < rho.natAbs then
      some { m with anchorS := x, anchorD := dev, good := 0, unal := true, u0 := u0, ts := timeOf dev }
    else
      let m' := { m with rate := m.rate + (rho * (2 ^ 40 : Int)).tdiv (x - m.anchorS) / ((2 ^ d.kr : Nat) : Int) }
      let good := m.good + 1
      some { m' with
        anchorD := mapTime m' x + rho / ((2 ^ d.ko : Nat) : Int), anchorS := x
        good := good, unal := m.unal && decide (good < 8), u0 := u0, ts := timeOf dev }

/-- u(t) of R215 in 10^-7 ns; a sync stamped after t takes its drift off. -/
def uncertainty (d : PlySource) (m : PlySrcSt) (t : Time) : Int :=
  (m.u0 : Int) * 10000000 + (d.driftTenthPpm : Int) * ((t.toNat : Int) - m.ts.toNat)

/-! ### Entries (R213, R217, R219) -/

/-- The window of R217 around an epoch holds a stamp. -/
def inEpoch (c : PlyDecl) (d : PlySource) (tk stamp : Time) : Bool :=
  decide (tk.toNat ≤ stamp.toNat + d.validityNs) && decide (stamp.toNat + d.latencyNs ≤ tk.toNat + c.delayUs * 1000)

/-- A sample lands in Ply: late ones are counted once per epoch, with a TRACE record (R219). -/
def plyLand (n : Nat) (d : PlySource) (x : PlySample) (s : State) : State :=
  let m := plySrc s n
  let missed := ((s.core.ply.issuedAt.filter fun e =>
    decide (e.2 < x.landed) && inEpoch (cop s).ply d e.1 x.stamp).map (·.1))
  let fresh := missed.filter fun tk => !m.lateAt.contains tk
  let s := setPlySrc n { m with
    samples := x :: m.samples, lateAt := fresh ++ m.lateAt, lateSec := m.lateSec + fresh.length } s
  let s := bumps 0x000A0010 n fresh.length s
  if missed.isEmpty then s
  else raise .trace 0x0A 0x0010 [BitVec.ofNat 32 n, lo32 x.stamp, hi32 x.stamp, BitVec.ofNat 32 missed.length] s

/-- KIND of the head entry of a source's Bobbin. -/
def headKind (s : State) (b : Nat) : Option Nat :=
  match (bob s b).entries with
  | (_, e) :: _ => some (e.bytes[8]?.getD 0).toNat
  | [] => none

/-- A 64-bit signed number from bytes. -/
def int64Of (bs : List Byte) : Int := (BitVec.ofNat 64 (ofBytes bs)).toInt

/-- The words that bytes spell. -/
def wordsOf : Nat → List Byte → List Word
  | 0, _ => []
  | n + 1, bs => BitVec.ofNat 32 (ofBytes (bs.take 4)) :: wordsOf n (bs.drop 4)

/-- A SAMPLE entry (R213): one whose COUNT differs from VALUES is discarded and counted. -/
def plyEntry (n : Nat) (d : PlySource) (e : BobEntry) (s : State) : State :=
  let count := (e.bytes[9]?.getD 0).toNat
  if (e.bytes[8]?.getD 0) ≠ 0 || count ≠ valuesOf d || e.bytes.length < 12 + 4 * count then bump 0x000A001C n s
  else
    let m := plySrc s n
    let stamp := if d.mapped then timeOf (mapTime m (int64Of (e.bytes.take 8))) else e.stamp
    plyLand n d { stamp := stamp, landed := s.sun.time, values := wordsOf count (e.bytes.drop 12), ok := true,
                  aligned := !unaligned d m } s

/-- A sample of a SIGNAL source: its signals at one stamp of the first of them, all landed (R212). -/
def signalAt (d : PlySource) (stamp : Time) (s : State) : Option PlySample :=
  let parts := d.signals.filterMap fun j => (ring s j).samples.find? fun y => decide (y.stamp = stamp)
  if parts.length ≠ d.signals.length then none
  else some {
    stamp := stamp, landed := s.sun.time, values := parts.map (·.value), aligned := true
    ok := parts.all fun y => decide (y.status = .valid) || decide (y.status = .substituted) }

/-- The oldest sample of a SIGNAL source that Ply has not taken, and the stamps taken that its signals still hold (R212, R219). -/
def signalSample (d : PlySource) (x : PlySrcSt) (s : State) : Option PlySample × List Time :=
  let held := ((d.signals.head?.map fun i => (ring s i).samples).getD []).map (·.stamp)
  ((held.reverse.filter fun t => !x.taken.contains t).findSome? fun t => signalAt d t s, x.taken.filter fun t => held.contains t)

/-- PLY_SAMPLE_ENTRY: a sample of a source reaches Ply, from its Bobbin or from its signals (R212, R213, R217, R219). -/
def execPlySampleEntry (t : Time) (source : Fin 64) (s : State) : Result :=
  let s := advanceTo t s
  .next <|
  match plyDecl s source with
  | none => s
  | some d =>
    if !running s then s
    else match d.bobbin with
    | some b =>
      if (headKind s b).getD 1 = 1 then s
      else match popBob b s with
        | (some e, s) => plyEntry source d e s
        | (none, s) => s
    | none =>
      match signalSample d (plySrc s source) s with
      | (some x, l) => plyLand source d x (setPlySrc source { plySrc s source with taken := x.stamp :: l } s)
      | (none, _) => s

/-- PLY_SYNC: a sync entry of a source's Bobbin moves its clock model (R213 to R215). -/
def execPlySync (t : Time) (source : Fin 64) (s : State) : Result :=
  let s := advanceTo t s
  .next <|
  match plyDecl s source with
  | none => s
  | some d =>
    match d.bobbin with
    | none => s
    | some b =>
      if !running s || headKind s b ≠ some 1 then s
      else match popBob b s with
      | (none, s) => s
      | (some e, s) =>
        if !d.mapped then s
        else
          let m := plySrc s source
          match syncModel d m (int64Of (e.bytes.take 8)) (e.stamp.toNat : Int) with
          | none => bump 0x000A0014 source s
          | some m' => alignRecord source (unaligned d m) (unaligned d m') (setPlySrc source m' s)

/-- `n` free words. -/
def freeWords : Nat → State → List Word × State
  | 0, s => ([], s)
  | n + 1, s =>
    let (w, s) := nextFree s
    let (r, s) := freeWords n s
    (w :: r, s)

/-! ### Alignment of a source's values to an epoch (R217, R218) -/

/-- 2π and π of R218 as binary32. -/
def twoPi : Word := 0x40C90FDB
def piWord : Word := 0x40490FDB

/-- A difference or value of an ANGLE brought back once into [−π, π] (R218). -/
def foldAngle (angle : Bool) (v : Word) : Word :=
  if !angle then v
  else if flt piWord v then fsub v twoPi
  else if flt v (fneg piWord) then fadd v twoPi
  else v

/-- The newest usable sample at or before `t`, the one before it, and the oldest after `t`. -/
def around (l : List PlySample) (t : Time) : Option PlySample × Option PlySample × Option PlySample :=
  l.foldl (fun m x =>
    if x.stamp ≤ t then
      match m.1 with
      | none => (some x, m.2.1, m.2.2)
      | some a =>
        if a.stamp < x.stamp then (some x, some a, m.2.2)
        else match m.2.1 with
          | none => if x.stamp < a.stamp then (m.1, some x, m.2.2) else m
          | some a' => if a'.stamp < x.stamp && decide (x.stamp < a.stamp) then (m.1, some x, m.2.2) else m
    else
      match m.2.2 with
      | none => (m.1, m.2.1, some x)
      | some b => if x.stamp < b.stamp then (m.1, m.2.1, some x) else m) (none, none, none)

/-- v(a) + (v(to) − v(from)) × q, with the folds of an ANGLE (R218). -/
def between (angle : Bool) (va vTo vFrom q : Word) : Word :=
  foldAngle angle (fadd va (fmul (foldAngle angle (fsub vTo vFrom)) q))

/-- A quotient of two stamp differences, each rounded once (R218). -/
def ratio (n d : Nat) : Word := fdiv (i2fInt n) (i2fInt d)

/-- A source's values at an epoch (R218): interpolated, extrapolated or held, or none with the hold value where one exists. -/
def valuesAt (d : PlySource) (l : List PlySample) (t : Time) : Option (List Word) × Option (List Word) :=
  let (a, a', b) := around l t
  let each := fun (f : Nat → Bool → Word) => d.angles.zipIdx.map fun e => f e.2 e.1
  match a with
  | none => (none, none)
  | some a =>
    let va := fun (x : PlySample) (i : Nat) => x.values[i]?.getD 0
    let held := each fun i g => foldAngle g (va a i)
    match b with
    | some b =>
      let q := ratio (t.toNat - a.stamp.toNat) (b.stamp.toNat - a.stamp.toNat)
      (some (each fun i g => between g (va a i) (va b i) (va a i) q), some held)
    | none =>
      if d.horizonNs < t.toNat - a.stamp.toNat then (none, some held)
      else match a' with
        | some a' =>
          let q := ratio (t.toNat - a.stamp.toNat) (a.stamp.toNat - a'.stamp.toNat)
          (some (each fun i g => between g (va a i) (va a i) (va a' i) q), some held)
        | none => (some held, some held)

/-! ### Epochs (R215 to R226) -/

/-- Roles. -/
def isImu (d : PlySource) : Bool := d.role = .imuInt || d.role = .imuExt

/-- Whether the primary IMU in force is the internal one (R221). -/
def primaryIsInt (s : State) : Bool := s.core.ply.primaryInt.getD (cop s).ply.primaryInt

/-- Whether a source is the primary IMU, on whose samples the filter propagates. -/
def isPrimary (s : State) (d : PlySource) : Bool :=
  if primaryIsInt s then d.role = .imuInt else d.role = .imuExt

/-- The gate on one measurement, a value with its declared noise: NaN fails, and so does a normalised innovation squared above GATE (R218,
R222; the innovation is the filter's, log entry 3). -/
def gateFails (d : PlySource) (v noise : Word) (s : State) : Bool × State :=
  (isNan v || flt d.gate (Config.innovation s.free v noise), { s with free := s.free + 1 })

/-- What the test of one measurement of a source leaves (R222): a rejection counts, QN of them in a row are quarantine, 16 passes in a row its
end. -/
def gateSource (n : Nat) (d : PlySource) (fails : Bool) (s : State) : State :=
  let x := plySrc s n
  if fails then
    let s := bump 0x000A0018 n s
    let k := x.fails + 1
    if !x.quar && decide (d.qn ≤ k) then
      raise .error 0x0A 0x0008 [BitVec.ofNat 32 n] (setPlySrc n { x with quar := true, fails := 0, passes := 0 } s)
    else setPlySrc n { x with fails := k, passes := 0 } s
  else
    let k := x.passes + 1
    if x.quar && decide (16 ≤ k) then
      raise .notice 0x0A 0x0008 [BitVec.ofNat 32 n] (setPlySrc n { x with quar := false, fails := 0, passes := 0 } s)
    else setPlySrc n { x with fails := 0, passes := if x.quar then k else 0 } s

/-- A source's state as an epoch finds it, and whether its alignment is lost now (R215, R217). -/
def freshSource (tk : Time) (d : PlySource) (x : PlySrcSt) : PlySrcSt × Bool :=
  let u := uncertainty d x tk
  let lost := d.mapped && x.anchored && !x.unal && decide (((d.frameNs * 10000000 : Nat) : Int) < u)
  ({ x with
    unal := x.unal || lost, good := if lost then 0 else x.good
    unc := if d.mapped && x.anchored then hold32 (u / 10000000).toNat else 0
    samples := x.samples.filter fun y => decide (tk.toNat ≤ y.stamp.toNat + d.validityNs) }, lost)

/-- A source's values at an epoch and what it holds where it has none (R217, R218). -/
def sourceValues (tk : Time) (d : PlySource) (x : PlySrcSt) (s : State) : Option (List Word) × Option (List Word) :=
  valuesAt d (x.samples.filter fun y => inEpoch (cop s).ply d tk y.stamp && y.ok && y.aligned) tk

/-- The measurements of a source tested in turn, one value at a time, and whether every one of them is rejected, so that the source does not
contribute (R221 to R223; a source of which some values pass contributes with those: DEDUCED, log entry 98): primary and generic sources,
and those without a value, are not tested. -/
def judgeSource (d : PlySource) (una : Bool) (v : Option (List Word)) (s : State) : Bool × State :=
  if !una && decide (d.role ≠ .generic) && !isPrimary s d && v.isSome then
    (v.getD []).zipIdx.foldl (fun r e =>
      let (fails, s) := gateFails d e.1 (d.noise[e.2]?.getD 0) r.2
      (r.1 && fails, gateSource d.number d fails s)) (true, s)
  else (false, s)

/-- A source's outputs land (R223). -/
def landSource (tk : Time) (d : PlySource) (st : SigStatus) (vs : Option (List Word)) (s : State) : State :=
  (d.outs.zip (vs.getD [])).foldl (fun s e => match e.1 with
    | some i => land i .ply e.2 tk st s
    | none => s) s

/-- What an UNALIGNED source writes (R215): its values where it has any, else free values, since the spec states none (log entry 98). -/
def unalignedValues (d : PlySource) (una : Bool) (vs : Option (List Word)) (s : State) : Option (List Word) × State :=
  match una, vs with
  | true, none => let (l, s) := freeWords (valuesOf d) s; (some l, s)
  | _, _ => (vs, s)

/-- One source at an epoch (R215, R217, R218, R222, R223): its outputs, whether it contributes, whether it is excluded. -/
def sourceEpoch (tk : Time) (d : PlySource) (s : State) : State :=
  let n := d.number
  let (x, lost) := freshSource tk d (plySrc s n)
  let s := alignRecord n false lost (setPlySrc n x s)
  let una := unaligned d x
  let (v, hold) := sourceValues tk d x s
  let (fails, s) := judgeSource d una v s
  let quar := (plySrc s n).quar
  let excl := una || quar || x.quar || fails
  let s := setPlySrc n { plySrc s n with contrib := v.isSome && !excl } s
  let s := setPly { s.core.ply with excl := setBit s.core.ply.excl n excl } s
  let st : SigStatus := if una then .unaligned else if quar then .quarantined else if v.isSome then .valid else .substituted
  let (vs, s) := unalignedValues d una (if v.isSome then v else hold) s
  landSource tk d st vs s

/-- Bits 3:0 of PLY_SRC_STAT (R231). -/
def srcBits (d : PlySource) (x : PlySrcSt) : Word :=
  flag x.lateflag 3 ||| flag x.contrib 2 ||| flag x.quar 1 ||| flag (unaligned d x) 0

/-- The status of an epoch's pose (R223). -/
def poseStatusOf (tk : Time) (s : State) : SigStatus :=
  let l := (cop s).ply.sources
  let imu := l.any fun d => isImu d && (plySrc s d.number).contrib
  let gnss := match s.core.ply.lastGnssPos with
    | some g => decide (tk.toNat ≤ g.toNat + (cop s).ply.posTimeoutMs * 1000000)
    | none => false
  if !imu || !gnss then .quarantined
  else if l.all fun d => (plySrc s d.number).contrib then .valid else .substituted

/-- Whether the speed of a pose lies above 1 m/s, from its velocities (R223, R224). -/
def movesFast (pose : List Word) : Bool :=
  let n := pose[6]?.getD 0
  let e := pose[7]?.getD 0
  flt 0x3F800000 (fadd (fmul n n) (fmul e e))

/-- The filter of an epoch (R221, R224): its results are free values; the bias and scale states, words 9 to 18, move on one epoch in
64 at most, only above 1 m/s and with GNSS_POS. -/
def filterEpoch (gnss : Bool) (s : State) : State :=
  let (p, s) := freeWords 9 s
  let (f, s) := freeWords 19 s
  let ply := s.core.ply
  let cal := gnss && movesFast p && decide (64 ≤ ply.calCount + 1)
  setPly { ply with
    pose := p, filter := if cal then f else f.take 9 ++ (ply.filter ++ List.replicate 19 0).drop 9 |>.take 19
    calCount := if cal then 0 else ply.calCount + 1 } s

/-- The history entry of a pose (R227), whose words stand in the order of R223. -/
def poseEntry (stamp : Time) (status : SigStatus) (fix : Nat) (p : List Word) : PoseEntry :=
  let w := fun i => p[i]?.getD 0
  { stamp := stamp, lat := w 0, lon := w 1, hgt := w 2, heading := Config.headingUnits (w 3), speed := Config.speedUnits (w 6) (w 7)
    status := status.code.truncate 8, fix := BitVec.ofNat 8 fix }

/-- The other IMU becomes primary at the next epoch when the primary one is excluded (R221). -/
def turnPrimary (s : State) : State :=
  let out := (cop s).ply.sources.any fun d => isPrimary s d && bit s.core.ply.excl d.number
  let other := (cop s).ply.sources.any fun d => isImu d && !isPrimary s d
  if out && other then setPly { s.core.ply with primaryInt := some (!primaryIsInt s) } s else s

/-- Predicted Doppler leaves for the baseband every AID_DIV epochs of a usable pose: one value for each channel of a satellite tracked that no
check excludes. Orbits and clocks are not given, so the values are free (R225, log entry 3). -/
def sendAiding (tk : Time) (st : SigStatus) (s : State) : State :=
  if st = .quarantined then s
  else
    let k := s.core.ply.aidCount + 1
    if (cop s).ply.aidDiv ≤ k then
      let l := (List.range 256).filter fun n => decide ((gch s n).state ≠ 0) && !(gch s n).excl
      let (w, s) := freeWords l.length s
      let s := setPly { s.core.ply with aidCount := 0 } s
      send (.aiding tk (l.zip w)) { s with gnss := { s.gnss with received := some (tk, l.zip w) } }
    else setPly { s.core.ply with aidCount := k } s

/-- Whether the running cop has a PLY section (R166, R212). -/
def hasPly (s : State) : Bool := (cop s).sections.contains 8

/-- PLY_EPOCH: the epoch of a grid instant is issued at t_k + D (R215 to R226, R231). -/
def execPlyEpoch (t tk : Time) (s : State) : Result :=
  let s := advanceTo t s
  .next <|
  let c := (cop s).ply
  let skipped := match s.sun.stepSpan with
    | some (b, a) => decide (b < tk) && decide (tk < a)
    | none => false
  let ordered := match s.core.ply.lastIssued with
    | some l => decide (l < tk)
    | none => true
  if !running s || !hasPly s || skipped || decide (tk.toNat % (c.periodMs * 1000000) ≠ 0)
      || decide (s.sun.time.toNat ≠ tk.toNat + c.delayUs * 1000) || !ordered || !decide (s.core.ply.since < tk) then s
  else
    let s := turnPrimary s
    let s := (sortBy (fun a b => a.number ≤ b.number) c.sources).foldl (fun s d => sourceEpoch tk d s)
      (setPly { s.core.ply with excl := 0 } s)
    let gnss := c.sources.any fun d => decide (d.role = .gnssPos) && (plySrc s d.number).contrib
    let s := if gnss then setPly { s.core.ply with lastGnssPos := some tk } s else s
    let s := filterEpoch gnss s
    let st := poseStatusOf tk s
    let s := setPly { s.core.ply with
      poseStatus := st, fix := s.core.pos.fix, lastIssued := some tk, epochsSec := s.core.ply.epochsSec + 1
      issuedAt := (tk, s.sun.time) :: s.core.ply.issuedAt } s
    let put := fun (i : Option Nat) (v : Word) (s : State) => match i with
      | some i => land i .ply v tk .valid s
      | none => s
    let s := (c.pose.zip s.core.ply.pose).foldl (fun s e => match e.1 with
      | some i => land i .ply e.2 tk st s
      | none => s) s
    let s := put c.exclHi (hi32 s.core.ply.excl) (put c.exclLo (lo32 s.core.ply.excl) s)
    let s := c.sources.foldl (fun s d => put d.statSig (srcBits d (plySrc s d.number)) s) s
    let s := if tk.toNat % 10000000 = 0 then
        setPly { s.core.ply with lastTen := some (poseEntry tk st s.core.ply.fix s.core.ply.pose) } s
      else s
    sendAiding tk st s

/-- PLY_LATEFLAG_EVAL: at the end of a device-time second (R220). -/
def execPlyLateflagEval (t : Time) (s : State) : Result :=
  let s := advanceTo t s
  .next <|
  if !running s || decide (t.toNat % second ≠ 0) || decide (s.sun.time ≠ t) then s
  else
    let total := s.core.ply.epochsSec
    let s := (cop s).ply.sources.foldl (fun s d =>
      let x := plySrc s d.number
      let late := decide (total < 20 * x.lateSec)
      let s := setPlySrc d.number { x with lateflag := late, lateSec := 0 } s
      if late = x.lateflag then s
      else raise (if late then .warning else .notice) 0x0A 0x0008 [BitVec.ofNat 32 d.number] s) s
    setPly { s.core.ply with epochsSec := 0 } s

/-! ### Pose history and flow sums (R227, R228) -/

/-- 10 ms in ns, and the first multiple of it at or after an instant. -/
def tenNs : Nat := 10000000
def upTen (n : Nat) : Nat := (n + tenNs - 1) / tenNs * tenNs

/-- An entry without a pose (R227). -/
def noPose (n : Nat) : PoseEntry :=
  { stamp := BitVec.ofNat 64 n, lat := 0, lon := 0, hgt := 0, heading := 0, speed := 0, status := 0xFF, fix := 0 }

/-- An entry appended to the history, which holds 25,600. -/
def appendPose (e : PoseEntry) (s : State) : State :=
  { s with spool := { s.spool with history := (e :: s.spool.history).take 25600 } }

/-- Whether an instant lies in the span that a time step skipped (R216, R227). -/
def inTimeStep (s : State) (p : Nat) : Bool :=
  match s.sun.stepSpan with
  | some (b, a) => decide (b.toNat < p) && decide (p < a.toNat)
  | none => false

/-- The entries of instant `p` and of those behind it that can be written by now: the pose of the epoch, the filter propagated
between epochs, or none (R227). -/
def appendFrom (p : Nat) : Nat → State → State
  | 0, s => s
  | n + 1, s =>
    let c := (cop s).ply
    if s.sun.time.toNat < p then s
    else if p % (c.periodMs * 1000000) = 0 then
      match s.core.ply.lastTen with
      | some e =>
        if e.stamp.toNat = p then appendFrom (p + tenNs) n (appendPose e s)
        else if p < e.stamp.toNat then appendFrom (p + tenNs) n (appendPose (noPose p) s)
        else if s.sun.time.toNat ≤ p + c.delayUs * 1000 then s
        else appendFrom (p + tenNs) n (appendPose (noPose p) s)
      | none =>
        if s.sun.time.toNat ≤ p + c.delayUs * 1000 then s else appendFrom (p + tenNs) n (appendPose (noPose p) s)
    else if inTimeStep s p || !s.core.ply.issuedAt.any (fun e => decide (e.1.toNat < p)) then appendFrom (p + tenNs) n (appendPose (noPose p) s)
    else
      let (w, s) := freeWords 9 s
      appendFrom (p + tenNs) n (appendPose (poseEntry (BitVec.ofNat 64 p) s.core.ply.poseStatus s.core.ply.fix w) s)

/-- The first instant that the history still lacks: at most 256 s back. -/
def nextPose (s : State) : Nat :=
  let now := s.sun.time.toNat
  let p := match s.spool.history with
    | e :: _ => e.stamp.toNat + tenNs
    | [] => upTen s.core.ply.since.toNat
  max p (upTen (now - 25599 * tenNs))

/-- Whether a read of a signal by Ply has to wait for the task that writes it (R84, R228). -/
def plyWaits (s : State) (index : Nat) (ti : Time) : Bool :=
  match (sigDecl (cop s) index).map SigDecl.writer with
  | some (Writer.task n) => behind s n ti
  | _ => false

def yieldSt (s : State) (n : Nat) : YieldSt := SMap.get s.core.ply.yields {} n
def setYield (n : Nat) (x : YieldSt) (s : State) : State :=
  setPly { s.core.ply with yields := SMap.put s.core.ply.yields {} n x } s

/-- A 10 ms instant that a time step skipped gives way to the first one behind it. -/
def skipStep (s : State) (j : Nat) : Nat :=
  match s.sun.stepSpan with
  | some (b, a) => if b.toNat < j && decide (j < a.toNat) then upTen a.toNat else j
  | none => j

/-- T_END of the record that an instant belongs to (R228). -/
def recordEnd (d : YieldDecl) (j : Nat) : Nat := (j + d.periodMs * 1000000 - 1) / (d.periodMs * 1000000) * (d.periodMs * 1000000)

/-- Mass and FLOWSUB summed for a record so far, and one more flow in it (R228). -/
def sumAt (x : YieldSt) (e : Nat) : Word × Bool := ((x.sums.find? fun y => decide (y.1 = e)).map (·.2)).getD (0, false)
def addFlow (x : YieldSt) (e : Nat) (p : Picked) : List (Nat × Word × Bool) :=
  let y := sumAt x e
  (x.sums.filter fun z => !decide (z.1 = e)) ++ [(e, fadd y.1 (fmul p.value 0x3C23D70A), y.2 || !goodStatus p.status)]

/-- Flow × 0.01 is added at every 10 ms instant up to now, in time order (R228). -/
def sumFlow (n : Nat) (d : YieldDecl) : Nat → State → State
  | 0, s => s
  | k + 1, s =>
    let x := yieldSt s n
    let j := skipStep s (x.nextJ.getD (upTen (s.core.ply.since.toNat + 1)))
    let tj : Time := BitVec.ofNat 64 j
    if s.sun.time.toNat < j || plyWaits s d.flowSig tj then s
    else
      let (p, s) := readSignal none d.flowSig .pass tj tj s
      sumFlow n d k (setYield n { yieldSt s n with sums := addFlow x (recordEnd d j) p, nextJ := some (j + tenNs) } s)

/-- How many 10 ms instants can have passed since the last one. -/
def behindTen (from_ : Nat) (s : State) : Nat := (s.sun.time.toNat - from_) / tenNs + 1

/-- POSE_HISTORY_APPEND: the history and the flow sums follow the 10 ms grid (R227, R228). -/
def execPoseHistoryAppend (t : Time) (s : State) : Result :=
  let s := advanceTo t s
  .next <|
  if !running s || !hasPly s then s
  else
    let s := appendFrom (nextPose s) (min 25600 (behindTen (nextPose s) s)) s
    (cop s).ply.yields.zipIdx.foldl (fun s e =>
      let from_ := (yieldSt s e.2).nextJ.getD s.core.ply.since.toNat
      sumFlow e.2 e.1 (behindTen from_ s) s) s

/-! ### Yield records (R228 to R230) -/

/-- A good τ: VALID or SUBSTITUTED, not NaN, not negative (R229). -/
def goodTau (p : Picked) : Bool := goodStatus p.status && !isNan p.value && !(fSign p.value && !isZero p.value)

/-- τ in ns; an infinite one lies beyond every history. -/
def tauNs (v : Word) : Int :=
  if isInf v then 9223372036854775808
  else if 0 ≤ fScale v then fMant v * 1000000000 * ((2 ^ (fScale v).toNat : Nat) : Int)
  else roundDiv (fMant v * 1000000000) (2 ^ (-fScale v).toNat)

/-- τ as of an instant: good, or the last good one with DELAYSUB, or none (R229). -/
def readTau (n : Nat) (d : YieldDecl) (at_ : Time) (s : State) : Option Word × Bool × State :=
  let (p, s) := readSignal none d.delaySig .pass at_ at_ s
  if goodTau p then (some p.value, false, setYield n { yieldSt s n with lastTau := some p.value } s)
  else ((yieldSt s n).lastTau, true, s)

/-- YIELD_RECORD_CLOSE: at a multiple of PERIOD the channel's record closes (R228, R229). -/
def execYieldRecordClose (t : Time) (ch : Fin 4) (s : State) : Result :=
  let s := advanceTo t s
  .next <|
  match (cop s).ply.yields[ch.val]? with
  | none => s
  | some d =>
    let per := d.periodMs * 1000000
    let x := yieldSt s ch
    let summed := match x.nextJ with
      | some j => decide (t.toNat < j)
      | none => false
    if !running s || decide (t.toNat % per ≠ 0) || !summed || plyWaits s d.delaySig t || plyWaits s d.widthSig t then s
    else
      let (tau0, sub0, s) : Option Word × Bool × State := match x.prevTau with
        | some p => (p.1, p.2, s)
        | none => readTau ch d (t - BitVec.ofNat 64 per) s
      let (tau1, sub1, s) := readTau ch d t s
      let (w, s) := readSignal none d.widthSig .pass t t s
      let startNs : Int := (t.toNat : Int) - per - tauNs (tau0.getD 0)
      let endNs : Int := (t.toNat : Int) - tauNs (tau1.getD 0)
      let (mass, flowSub) := sumAt x t.toNat
      let flags : BitVec 6 := setBit (setBit (setBit 0 0 (sub0 || sub1)) 1 flowSub) 2 (decide (endNs ≤ startNs))
      let y := yieldSt s ch
      let r : YieldPending :=
        { tEnd := t, mass := mass, width := w.value, startNs := startNs, endNs := endNs
          delayUs := hold32 (roundDiv (tauNs (tau1.getD 0)) 1000).toNat, flags := flags, placed := tau0.isSome && tau1.isSome }
      setYield ch { y with sums := y.sums.filter fun e => decide (t.toNat < e.1), prevTau := some (tau1, sub1), pend := y.pend ++ [r] } s

/-- A placed end of a record: position, heading, speed, FIX, and whether a gap was bridged. -/
structure Placed where
  lat : Int
  lon : Int
  hgt : Int
  heading : Nat
  speed : Int
  fix : Nat
  gap : Bool
  deriving DecidableEq, Repr

/-- The newest entry with a pose at or before `p`, and the oldest at or after it, in a history that runs newest first (R229). -/
def bracket (h : List PoseEntry) (p : Int) : Option PoseEntry × Option PoseEntry :=
  let real := h.filter fun e => decide (e.status ≠ 0xFF)
  (real.find? fun e => decide ((e.stamp.toNat : Int) ≤ p), real.reverse.find? fun e => decide (p ≤ (e.stamp.toNat : Int)))

/-- Interpolation of an integer at k/n, to nearest with ties to even (R229). -/
def mix (a b : Int) (k : Int) (n : Nat) : Int := if n = 0 then a else a + roundDiv ((b - a) * k) n

/-- The way from one heading to another, the shorter way round (R229). -/
def turn (a b : Nat) : Int :=
  let d : Int := ((b : Int) - a) % 65536
  if d < 32768 then d else if d = 32768 then (if Config.halfTurnForward then 32768 else -32768) else d - 65536

/-! #### The lever arm (R229), in fixed point with 96 fraction bits -/

/-- 1, and π. -/
def fixOne : Int := 2 ^ 96
def fixPi : Int := 248902613312231085230521944622

/-- A product and a quotient. -/
def fixMul (a b : Int) : Int := a * b / fixOne
def fixDiv (a b : Int) : Int := a * fixOne / b

/-- A power series from the term x^k / k! on, of which each term is the one before times −x² / ((k + 1)(k + 2)). -/
def fixSeries (x2 : Int) : Nat → Nat → Int → Int
  | 0, _, _ => 0
  | n + 1, k, term => term + fixSeries x2 n (k + 2) (-(fixMul term x2) / (((k + 1) * (k + 2) : Nat) : Int))

/-- Sine and cosine of an angle. -/
def fixSin (x : Int) : Int := fixSeries (fixMul x x) 32 1 x
def fixCos (x : Int) : Int := fixSeries (fixMul x x) 32 0 fixOne

/-- A finite binary32 word. -/
def fixWord (v : Word) : Int :=
  let e := fScale v + 96
  if 0 ≤ e then fMant v * ((2 ^ e.toNat : Nat) : Int) else fMant v / ((2 ^ (-e).toNat : Nat) : Int)

/-- WGS 84: semi-major axis in m, and the square of the first eccentricity from the flattening 1 / 298.257223563 (R229 names the ellipsoid;
its constants PRESUMED, log entry 98). -/
def wgsA : Int := 6378137
def wgsE2 : Int :=
  let f := fixOne * 1000000000 / 298257223563
  fixMul f (2 * fixOne - f)

/-- √(1 − e² sin² φ), with 96 fraction bits. -/
def wgsW (sinLat : Int) : Int := (isqrtBits 100 ((fixOne - fixMul wgsE2 (fixMul sinLat sinLat)) * fixOne).toNat 0 : Nat)

/-- The cutter bar's offsets north and east of the pose reference, in 10⁻⁷ degrees, at a latitude in 10⁻⁷ degrees and a heading in
360/65,536 degrees, rounded once (R229). What the binary64 of the rule rounds below a unit of 2^-52 is not modelled (DEDUCED, log entry
98). -/
def leverOffset (lat : Int) (heading : Nat) (fwd left : Word) : Int × Int :=
  let h := fixPi * heading / 32768
  let north := fixMul (fixWord fwd) (fixCos h) + fixMul (fixWord left) (fixSin h)
  let east := fixMul (fixWord fwd) (fixSin h) - fixMul (fixWord left) (fixCos h)
  let phi := fixPi * lat / 1800000000
  let w := wgsW (fixSin phi)
  let meridian := fixDiv (wgsA * (fixOne - wgsE2)) (fixMul w (fixMul w w))
  let across := fixMul (fixDiv (wgsA * fixOne) w) (fixCos phi)
  if isNan fwd || isNan left || isInf fwd || isInf left || decide (across ≤ 0) then Config.leverArm lat heading fwd left
  else (roundDiv (north * 1800000000 * fixOne) (fixPi * meridian).toNat, roundDiv (east * 1800000000 * fixOne) (fixPi * across).toNat)

/-- One placement instant (R229): bracketed, interpolated, moved by the lever arm; none where there is no pose for it. -/
def placeAt (d : YieldDecl) (h : List PoseEntry) (p : Int) : Option Placed :=
  let near := h.find? fun e => decide ((e.stamp.toNat : Int) ≤ p)
  let after := h.reverse.find? fun e => decide (p ≤ (e.stamp.toNat : Int))
  match near, after, bracket h p with
  | some x, some y, (some a, some b) =>
    let gap := decide (x.status = 0xFF) || decide (y.status = 0xFF)
    let n := b.stamp.toNat - a.stamp.toNat
    if gap && decide (100000000 < n) then none
    else
      let k := p - (a.stamp.toNat : Int)
      let lat := mix a.lat.toInt b.lat.toInt k n
      let lon := mix a.lon.toInt b.lon.toInt k n
      let head := ((a.heading.toNat + mix 0 (turn a.heading.toNat b.heading.toNat) k n) % 65536).toNat
      let (dl, dn) := leverOffset lat head d.leverFwd d.leverLeft
      some { lat := lat + dl, lon := lon + dn, hgt := mix a.hgt.toInt b.hgt.toInt k n, heading := head, speed := mix a.speed.toInt b.speed.toInt k n
             fix := min a.fix.toNat b.fix.toNat, gap := gap }
  | _, _, _ => none

/-- The payload of a yield record (R230). -/
def yieldBytes (ch : Nat) (r : YieldPending) (flags : BitVec 6) (a b : Placed) : List Byte :=
  bytesOf 8 r.tEnd.toNat ++ bytesOf 4 r.mass.toNat ++ bytesOf 4 r.width.toNat
    ++ bytesOf 4 (wordOf a.lat).toNat ++ bytesOf 4 (wordOf a.lon).toNat ++ bytesOf 4 (wordOf b.lat).toNat
    ++ bytesOf 4 (wordOf b.lon).toNat ++ bytesOf 2 b.heading ++ bytesOf 2 (BitVec.ofInt 16 b.speed).toNat
    ++ bytesOf 4 r.delayUs.toNat ++ [BitVec.ofNat 8 ch, flags.zeroExtend 8] ++ List.replicate 6 0

/-- YIELD_RECORD_PUSH: the oldest closed record goes to its Bobbin once the entry at or after PLACE_END exists (R229, R230). -/
def execYieldRecordPush (t : Time) (ch : Fin 4) (s : State) : Result :=
  let s := advanceTo t s
  .next <|
  match (cop s).ply.yields[ch.val]?, (yieldSt s ch).pend with
  | some d, r :: rest =>
    let h := s.spool.history
    let ready := !r.placed || h.any fun e => decide (r.endNs ≤ (e.stamp.toNat : Int))
    if !running s || !ready then s
    else
      let zero : Placed := { lat := 0, lon := 0, hgt := 0, heading := 0, speed := 0, fix := 3, gap := false }
      let (flags, a, b) : BitVec 6 × Placed × Placed :=
        match (if r.placed then placeAt d h r.startNs else none), (if r.placed then placeAt d h r.endNs else none) with
        | some a, some b =>
          (setBit (setBit r.flags 3 (a.gap || b.gap)) 5 (decide (a.fix < 3) || decide (b.fix < 3)), a, b)
        | _, _ => (setBit r.flags 4 true, zero, zero)
      let s := setYield ch { yieldSt s ch with pend := rest } s
      let s := setPly { s.core.ply with yieldStat := at32 ch.val 30 ||| flags.zeroExtend 32 } s
      (offer d.bobbin r.tEnd 0 (yieldBytes ch r flags a b) s).2
  | _, _ => s

end Sys2Proof.Machine
end

