-- ==== Sys2Proof/Machine/Can.lean ====
section
/-! DEFINITION. The CAN FD controllers (18, R333 to R345). The bit-level protocol is ISO 11898-1's: its outcomes (error counters,
bus-off recovery, integration, arbitration) arrive as events. -/
namespace Sys2Proof.Machine

def can (s : State) (n : Nat) : CanSt := SMap.get s.core.can {} n
def setCan (n : Nat) (x : CanSt) (s : State) : State :=
  { s with core := { s.core with can := SMap.put s.core.can {} n x } }
def canDecl (s : State) (n : Nat) : Option CanDecl := (cop s).can.find? fun d => decide (d.ctrl = n)

/-- A counter of a controller. -/
def canBump (n offset : Nat) (s : State) : State := bump (0x00100000 + 0x1000 * n + offset) 0 s

/-- CODE of a record that names a register of a controller. -/
def canCode (n offset : Nat) : BitVec 16 := BitVec.ofNat 16 (0x1000 * n + offset)

/-- Codes of CAN_STAT.STATE. -/
def CanState.code : CanState → Nat
  | .off => 0
  | .integrating => 1
  | .errorActive => 2
  | .errorPassive => 3
  | .busOff => 4
  | .recovering => 5

/-- Whether a controller takes part in the bus's traffic. -/
def onBus (x : CanSt) : Bool := x.state = .errorActive || x.state = .errorPassive

/-- Data bytes that a DLC code stands for. -/
def dlcBytes (fdf : Bool) (dlc : Nat) : Nat :=
  if dlc ≤ 8 then dlc
  else if !fdf then 8
  else match dlc with
    | 9 => 12
    | 10 => 16
    | 11 => 20
    | 12 => 24
    | 13 => 32
    | 14 => 48
    | _ => 64

/-- IDE and RTR of an ID word (R335). -/
def idExt (id : Word) : Bool := bit id 29
def idRtr (id : Word) : Bool := bit id 30

/-! ### Receive (R335 to R339) -/

/-- The payload of a queue entry (R336). -/
def frameBytes (f : CanFrame) : List Byte :=
  bytesOf 4 f.id.toNat ++ [(flag f.fdf 0 ||| flag f.brs 1 ||| flag f.esi 2).truncate 8, BitVec.ofNat 8 f.dlc, 0, 0] ++ f.data

/-- Bit `i` of a frame's data, counted from the least significant bit of byte 0 or, for a big-endian field, from its most
significant one (log entry 14). -/
def dataBit (data : List Byte) (big : Bool) (i : Nat) : Bool :=
  bit (data[i / 8]?.getD 0) (if big then 7 - i % 8 else i % 8)

/-- The raw value of a field, none where it lies beyond the data (R337). -/
def rawField (data : List Byte) (d : CanField) : Option Int :=
  if 8 * data.length < d.start + d.width then none
  else
    let bits := (List.range d.width).map fun i => dataBit data d.bigEndian (d.start + i)
    let bits := if d.bigEndian then bits.reverse else bits
    let n := (bits.zipIdx.map fun e => if e.1 then 2 ^ e.2 else 0).sum
    some (if d.signed && decide (2 ^ (d.width - 1) ≤ n) then (n : Int) - ((2 ^ d.width : Nat) : Int) else (n : Int))

/-- The value that a field writes (R337): as it stands, or converted, scaled and offset. -/
def fieldWord (raw : Int) (d : CanField) : Word :=
  match d.scale with
  | some (k, o) => fadd (fmul (i2fInt raw) k) o
  | none => wordOf raw

/-- A received entry goes to its Bobbin: under WAIT a controller holds up to eight; what is lost counts in CAN_RXLOST (R106, R339). -/
def canPush (n b : Nat) (e : BobEntry) (s : State) : State :=
  match bobDecl s b with
  | none => s
  | some d =>
    if d.dropNew then
      let (ok, s) := offer b e.stamp e.aux e.bytes s
      if ok then s else canBump n 0x20 s
    else
      let x := can s n
      let y := bob s b
      let e := { e with seq := y.seq }
      let behind := x.held.any fun h => decide (h.bobbin = b)
      match (if behind then none else y.place d.size e) with
      | some y => setBob b { y with seq := y.seq + 1 } s
      | none =>
        if 8 ≤ x.held.length then canBump n 0x20 s
        else bump 0x001D001C b (setBob b { y with seq := y.seq + 1 }
          (setCan n { x with held := x.held ++ [{ bobbin := b, entry := e }] } s))

/-- What an EXTRACT filter writes (R337). -/
def extract (sof : Time) (data : List Byte) (l : List CanField) (s : State) : State :=
  l.foldl (fun s d => match rawField data d with
    | some v => land d.signal .can (fieldWord v d) sof .valid s
    | none => s) s

/-- KIND of the entry that a PLY filter packs: a declared field's low byte, or the declared constant (R213, R338). -/
def plyKind (data : List Byte) (p : CanPly) : Byte :=
  match p.kind with
  | some d => ((rawField data d).map fun v => (wordOf v).truncate 8).getD 0
  | none => if p.sync then 1 else 0

/-- The entry that a PLY filter packs, a SYNC entry without values (R213, R338). -/
def plyBytes (data : List Byte) (p : CanPly) : List Byte :=
  let part := fun (d : CanField) => ((rawField data d).map fun v => (wordOf v).toNat).getD 0
  let time := match p.srcTime with
    | some (lo, hi) => bytesOf 4 (part lo) ++ bytesOf 4 (part hi)
    | none => List.replicate 8 0
  let kind := plyKind data p
  let vs := if kind = 1 then [] else p.values.filterMap fun d => (rawField data d).map fun v => fieldWord v d
  time ++ [kind, BitVec.ofNat 8 vs.length, 0, 0] ++ vs.flatMap fun v => bytesOf 4 v.toNat

/-- Fields that a filter takes from a frame. -/
def filterFields (d : CanFilter) : List CanField :=
  d.extract ++ match d.ply with
    | some p => p.values ++ p.kind.toList ++ (match p.srcTime with
      | some (a, b) => [a, b]
      | none => [])
    | none => []

/-- A filter's action on a frame (R335 to R338). -/
def runFilter (n k : Nat) (sof : Time) (d : CanFilter) (f : CanFrame) (s : State) : State :=
  let s := if (filterFields d).any fun e => (rawField f.data e).isNone then canBump n 0x28 s else s
  let s := match d.queue with
    | some q => canPush n (2 * n + q.val) { stamp := sof, seq := 0, aux := BitVec.ofNat 16 k, bytes := frameBytes f } s
    | none => s
  let s := extract sof f.data d.extract s
  match d.ply with
  | some p => canPush n p.bobbin { stamp := sof, seq := 0, aux := 0, bytes := plyBytes f.data p } s
  | none => s

/-- Whether a frame is one of the update relay's, which the controller named in UPD_CHAIN diverts before filter 0 (R381). -/
def diverted (n : Nat) (f : CanFrame) (s : State) : Bool :=
  let c := s.upd.chain
  let base : Word := 0x1C700000 + 2 * BitVec.ofNat 32 (field c 23 8)
  (decide (field c 31 30 = 2) || decide (field c 29 28 = 2)) && decide (field c 27 24 = n) && idExt f.id && !idRtr f.id
    && (decide (f.id &&& 0x1FFFFFFF = base) || decide (f.id &&& 0x1FFFFFFF = base + 1))

/-- A controller is error-active again once both counters lie below 128 (R342, log entry 102). -/
def CanSt.calm (x : CanSt) : CanSt :=
  if decide (x.state = .errorPassive) && decide (x.tec.toNat < 128) && decide (x.rec_.toNat < 128) then { x with state := .errorActive } else x

/-- A frame received without error lowers REC by 1, or from above 127 to a value of 119 to 127 that ISO 11898-1 leaves open (R342,
log entry 102). -/
def recDown (n : Nat) (s : State) : State :=
  let x := can s n
  if x.rec_ = 0 then s
  else if x.rec_.toNat ≤ 127 then setCan n (CanSt.calm { x with rec_ := x.rec_ - 1 }) s
  else
    let (w, s) := nextFree s
    setCan n (CanSt.calm { x with rec_ := BitVec.ofNat 9 (119 + w.toNat % 9) }) s

/-- A frame sent lowers TEC by 1 (R342, log entry 102). -/
def CanSt.tecDown (x : CanSt) : CanSt := if x.tec = 0 then x else CanSt.calm { x with tec := x.tec - 1 }

/-- CAN_FRAME_RECEIVED: the first filter that matches decides (R335). An FD frame at a controller without FD is a protocol exception
(R333). A lane whose gate is closed sees none (R11, R14). -/
def execCanFrameReceived (t : Time) (ctrl : Fin 16) (sof : Time) (f : CanFrame) (s : State) : Result :=
  let s := advanceTo t s
  .next <|
  match canDecl s ctrl with
  | none => s
  | some d =>
    if !laneActive s || !s.lanes.gate || !onBus (can s ctrl) || (f.fdf && !d.fd) then s
    else
      let s := canBump ctrl 0x18 (recDown ctrl s)
      if diverted ctrl f s then s
      else match d.filters.zipIdx.find? fun e => decide (f.id &&& e.1.mask = e.1.mat) with
      | some (x, k) => runFilter ctrl k sof x f s
      | none => canBump ctrl 0x2C s

/-- The first held frame whose Bobbin has room, with that Bobbin. -/
def heldFits (s : State) : List CanHeld → List CanHeld → Option (CanHeld × Bob × List CanHeld)
  | _, [] => none
  | before, h :: r =>
    let blocked := before.any fun g => decide (g.bobbin = h.bobbin)
    match (if blocked then none else (bobDecl s h.bobbin).bind fun d => (bob s h.bobbin).place d.size h.entry) with
    | some y => some (h, y, before ++ r)
    | none => heldFits s (before ++ [h]) r

/-- CAN_RX_HELD_DELIVER: a held frame is placed once its Bobbin has room, in order (R106, R339). -/
def execCanRxHeldDeliver (t : Time) (ctrl : Fin 16) (s : State) : Result :=
  let s := advanceTo t s
  let x := can s ctrl
  .next <|
  if !laneActive s || !s.lanes.gate then s
  else match heldFits s [] x.held with
  | some (h, y, rest) => setBob h.bobbin y (setCan ctrl { x with held := rest } s)
  | none => s

/-! ### Transmit (R340, R341) -/

/-- A feed entry as a frame; none where R340 discards it. -/
def feedFrame (e : BobEntry) : Option CanFrame :=
  let fl := e.bytes[4]?.getD 0
  let f : CanFrame :=
    { id := BitVec.ofNat 32 (ofBytes (e.bytes.take 4)), fdf := bit fl 0, brs := bit fl 1, esi := bit fl 2
      dlc := (e.bytes[5]?.getD 0).toNat % 16, data := e.bytes.drop 8 }
  let want := if idRtr f.id then 0 else dlcBytes f.fdf f.dlc
  if e.bytes.length < 8 || f.data.length ≠ want || (!f.fdf && decide (8 < f.data.length)) || (idRtr f.id && f.fdf) then none
  else some f

/-- A key that is smaller the earlier a frame wins arbitration: base identifier, RTR or SRR, IDE, extension, RTR. -/
def arbKey (f : CanFrame) : Nat :=
  let rtr := if idRtr f.id then 1 else 0
  if idExt f.id then
    (field f.id 28 18 * 4 + 3) * 2 ^ 19 + field f.id 17 0 * 2 + rtr
  else (field f.id 10 0 * 4 + rtr * 2) * 2 ^ 19

/-- The buffer that the controller chooses before an arbitration attempt (R341). -/
def chooseBuf (byId : Bool) (bufs : SMap CanFrame) : Option Nat :=
  (bufs.foldl (fun (b : Option (Nat × CanFrame)) e => match b with
    | none => some e
    | some m => if byId && decide (arbKey e.2 < arbKey m.2) then some e else some m) none).map (·.1)

/-- Buffers changed: where no attempt runs, one starts (R341). -/
def withBufs (byId : Bool) (x : CanSt) : CanSt :=
  match x.attempt with
  | some k => if (SMap.find x.bufs k).isSome then x else { x with attempt := chooseBuf byId x.bufs }
  | none => { x with attempt := chooseBuf byId x.bufs }

/-- A buffer emptied. -/
def emptyBuf (byId : Bool) (k : Nat) (x : CanSt) : CanSt :=
  withBufs byId { x with bufs := SMap.drop x.bufs k, loadedAt := SMap.drop x.loadedAt k, attempt := none }

/-- CAN_TX_BUFFER_LOAD: an empty buffer takes the head of its feed, or discards it (R340); none in listen-only, at bus-off or off the
bus (R342, R343). -/
def execCanTxBufferLoad (t : Time) (ctrl : Fin 16) (buf : Fin 3) (s : State) : Result :=
  let s := advanceTo t s
  .next <|
  match canDecl s ctrl with
  | none => s
  | some d =>
    let x := can s ctrl
    match d.feeds.find? fun e => decide (e.1 = buf.val) with
    | none => s
    | some (_, b) =>
      if !laneActive s || !s.lanes.gate || !(onBus x || decide (x.state = .integrating)) || x.listen || (SMap.find x.bufs buf.val).isSome then s
      else match popBob b s with
      | (none, s) => s
      | (some e, s) =>
        match feedFrame e with
        | none => canBump ctrl 0x1C s
        | some f => setCan ctrl (withBufs d.txById { x with
            bufs := SMap.insert x.bufs buf.val f, loadedAt := SMap.insert x.loadedAt buf.val s.sun.time }) s

/-- CAN_FRAME_TRANSMITTED: the frame of the buffer in arbitration, or of the one chosen since, completes (R341, R345). -/
def execCanFrameTransmitted (t : Time) (ctrl : Fin 16) (buf : Fin 3) (s : State) : Result :=
  let s := advanceTo t s
  .next <|
  let x := can s ctrl
  let byId := ((canDecl s ctrl).map (·.txById)).getD false
  match SMap.find x.bufs buf.val with
  | some f =>
    if laneActive s && s.lanes.gate && onBus x && !x.listen
        && (decide (x.attempt = some buf.val) || decide (chooseBuf byId x.bufs = some buf.val)) then
      send (.canFrame ctrl f) (canBump ctrl 0x14 (setCan ctrl (emptyBuf byId buf.val x.tecDown) s))
    else s
  | none => s

/-- CAN_TX_TIMEOUT (R341). -/
def execCanTxTimeout (t : Time) (ctrl : Fin 16) (buf : Fin 3) (s : State) : Result :=
  let s := advanceTo t s
  .next <|
  let x := can s ctrl
  match canDecl s ctrl, SMap.find x.loadedAt buf.val with
  | some d, some l =>
    if passed s l (d.txTimeoutMs * 1000000) then
      raise .warning 0x10 (canCode ctrl 0x1C) [BitVec.ofNat 32 ctrl.val, BitVec.ofNat 32 buf.val]
        (canBump ctrl 0x1C (setCan ctrl (emptyBuf d.txById buf.val x) s))
    else s
  | _, _ => s

/-! ### Errors and modes (R342 to R344) -/

/-- Loaded buffers are discarded and counted. -/
def dropBufs (n : Nat) (s : State) : State :=
  let x := can s n
  bumps (0x0010001C + 0x1000 * n) 0 x.bufs.length (setCan n { x with bufs := [], loadedAt := [], attempt := none } s)

/-- CAN_PROTOCOL_ERROR: counted and kept; the counters decide error-passive and bus-off, which discards the buffers (R342). -/
def execCanProtocolError (t : Time) (ctrl : Fin 16) (tx data : Bool) (code : BitVec 3) (tec rec_ : BitVec 9) (s : State) : Result :=
  let s := advanceTo t s
  .next <|
  match canDecl s ctrl with
  | none => s
  | some d =>
    let x := can s ctrl
    if !laneActive s || !s.lanes.gate || !onBus x then s
    else
      let new : CanState := if 256 ≤ tec.toNat then .busOff else if 128 ≤ tec.toNat || 128 ≤ rec_.toNat then .errorPassive else .errorActive
      let s := canBump ctrl 0x24 (setCan ctrl { x with
        tec := tec, rec_ := rec_, state := new, lastErr := flag tx 4 ||| flag data 3 ||| code.zeroExtend 32
        attempt := chooseBuf d.txById x.bufs } s)
      let arg := [BitVec.ofNat 32 ctrl.val]
      if new = .busOff then
        let s := raise .error 0x10 (canCode ctrl 0) arg (dropBufs ctrl s)
        if d.autoRec then setCan ctrl { can s ctrl with state := .recovering } s else s
      else if new = .errorPassive && decide (x.state = .errorActive) then raise .warning 0x10 (canCode ctrl 0) arg s
      else s

/-- CAN_CTRL.RECOVER starts bus-off recovery (R342). -/
def canRecover (n : Nat) (s : State) : State :=
  if laneActive s && decide ((can s n).state = .busOff) then setCan n { can s n with state := .recovering } s else s

/-- CAN_BUS_OFF_RECOVERED: 128 occurrences of 11 recessive bits (R342). -/
def execCanBusOffRecovered (t : Time) (ctrl : Fin 16) (s : State) : Result :=
  let s := advanceTo t s
  .next <|
  if (can s ctrl).state = .recovering then setCan ctrl { can s ctrl with state := .errorActive, tec := 0, rec_ := 0 } s else s

/-- CAN_INTEGRATED: 11 consecutive recessive bits (R344, R345). -/
def execCanIntegrated (t : Time) (ctrl : Fin 16) (s : State) : Result :=
  let s := advanceTo t s
  .next <|
  if (can s ctrl).state = .integrating then setCan ctrl { can s ctrl with state := .errorActive, tec := 0, rec_ := 0 } s else s

/-- CAN_CTRL.LISTEN asks for listen-only (R343); without an active lane the write is ignored (R61). -/
def canListen (n : Nat) (on : Bool) (s : State) : State :=
  if laneActive s then setCan n { can s n with listenCtrl := on } s else s

/-- Whether listen-only ought to be in force (R343). -/
def wantsListen (n : Nat) (s : State) : Bool :=
  (can s n).listenCtrl || decide (SMap.get s.clock.src .main 4 = .fallback) || ((canDecl s n).map (·.listen)).getD false

/-- CAN_LISTEN_APPLY: at bus idle a change takes effect (R343). -/
def execCanListenApply (t : Time) (ctrl : Fin 16) (s : State) : Result :=
  let s := advanceTo t s
  .next <|
  if (can s ctrl).state = .off then s else setCan ctrl { can s ctrl with listen := wantsListen ctrl s } s

/-- A controller leaves the bus (R322, R344): its buffers are discarded and counted. -/
def canLeave (n : Nat) (s : State) : State :=
  let s := dropBufs n s
  setCan n { can s n with state := .off, tec := 0, rec_ := 0 } s

/-- Every controller leaves the bus. -/
def canLeaveAll (s : State) : State := s.core.can.foldl (fun s e => canLeave e.1 s) s

/-- A controller is re-initialised (R54, R55): buffers lost and counted, LISTEN cleared, and it integrates again. -/
def canReinit (n : Nat) (s : State) : State :=
  match canDecl s n with
  | none => setCan n {} (dropBufs n s)
  | some d =>
    let s := dropBufs n s
    let weak := decide (SMap.get s.clock.src .main 4 = .fallback)
    let joined : CanSt := { state := .integrating, listen := d.listen || weak }
    let gone := decide (SMap.get s.clock.src .main 4 = .stopped) || !running s
    setCan n (if gone then {} else joined) s

end Sys2Proof.Machine
end

