-- ==== Sys2Proof/Machine/Ethernet.lean ====
section
/-! DEFINITION. The Ethernet switch (18, R346 to R350). -/
namespace Sys2Proof.Machine

def ethPort (s : State) (p : Nat) : EthPort := SMap.get s.eth.ports {} p
def setEthPort (p : Nat) (x : EthPort) (s : State) : State :=
  { s with eth := { s.eth with ports := SMap.put s.eth.ports {} p x } }

/-- The configuration in force of an external port (R347). -/
def ethDecl (s : State) (p : Nat) : EthDecl := (s.eth.cfg.find? fun d => decide (d.port = p)).getD { port := p }

/-- Whether an external port may carry frames: NET on its main PLL and the link up (R322, R346). -/
def linked (s : State) (p : Nat) : Bool := netMain s && (ethPort s p).link

/-- The lane of an internal port. -/
def portLane (p : Nat) : Lane := if p = 8 then .a else .b

/-- Whether a port carries traffic: an internal one while its lane is ACTIVE (R346, R349). -/
def portUp (s : State) (p : Nat) : Bool :=
  !netStopped s && (if p < 8 then linked s p else decide (s.lanes.holder = some (portLane p)))

/-- Counts of a port: frames received 0x08, sent 0x0C, dropped 0x10. -/
def ethBump (p offset : Nat) (s : State) : State := bump (0x00120000 + offset) p s

/-- Whether an address is a group address. -/
def groupMac (a : BitVec 48) : Bool := bit a 40

/-- Whether a port is a member of a VLAN; without configuration all are in VLAN 1 (R347). The lane ports are members of every VLAN. -/
def member (s : State) (vid p : Nat) : Bool :=
  decide (8 ≤ p) || (if s.eth.vlans.isEmpty then decide (vid = 1)
    else s.eth.vlans.any fun v => decide (v.vid = vid) && v.members.contains p)

/-- A source address is learned (R347): 4,096 entries, static ones kept. -/
def learn (p : Nat) (a : BitVec 48) (s : State) : State :=
  if groupMac a || s.eth.statics.any fun e => decide (e.addr = a) then s
  else
    let rest := s.eth.macs.filter fun e => decide (e.addr ≠ a)
    if 4096 ≤ rest.length + s.eth.statics.length then s
    else { s with eth := { s.eth with macs := { addr := a, port := p, seen := s.sun.time } :: rest } }

/-- The port an address is known at. -/
def lookupMac (s : State) (a : BitVec 48) : Option Nat :=
  match s.eth.statics.find? fun e => decide (e.addr = a) with
  | some e => some e.port
  | none => (s.eth.macs.find? fun e => decide (e.addr = a)).map (·.port)

/-- Bytes queued at a port, and in the switch. -/
def queuedBytes (q : List EthQueued) : Nat := (q.map fun e => e.frame.length).sum
def queuedAll (s : State) : Nat := (s.eth.ports.map fun e => queuedBytes e.2.queue).sum

/-- A frame joins an egress queue, or is tail-dropped and counted (R347). -/
def ethEnqueue (p pcp : Nat) (f : EthFrame) (s : State) : State :=
  let x := ethPort s p
  if (ethDecl s p).limit < queuedBytes x.queue + f.length || 524288 < queuedAll s + f.length then ethBump p 0x10 s
  else setEthPort p { x with queue := x.queue ++ [{ pcp := pcp, frame := f }] } s

/-- A frame for the module's lane: only to the ACTIVE one, else counted in ETH_NOLANE (R349). -/
def toLane (pcp : Nat) (f : EthFrame) (s : State) : State :=
  match s.lanes.holder with
  | some l => ethEnqueue (8 + Lane.num l) pcp f s
  | none => bump 0x00120014 0 s

/-- External ports that a frame is flooded to (R347). -/
def flood (from_ vid pcp : Nat) (f : EthFrame) (s : State) : State :=
  (List.range 8).foldl (fun s p => if p ≠ from_ && member s vid p && linked s p then ethEnqueue p pcp f s else s) s

/-- VLAN and PCP of a frame: those of its tag; the port's PVID where it has none or is priority-tagged, with VID 0 (R347, log entry
102). -/
def frameVlan (s : State) (p : Nat) (f : EthFrame) : Nat × Nat :=
  match f.vlan with
  | some (vid, pcp) => (if vid = 0 then (ethDecl s p).pvid else vid, pcp)
  | none => ((ethDecl s p).pvid, (ethDecl s p).pcp)

/-- ETH_FRAME_RECEIVED (R346, R347, R349). -/
def execEthFrameReceived (t : Time) (port : Fin 10) (f : EthFrame) (s : State) : Result :=
  let s := advanceTo t s
  .next <|
  let p := port.val
  if !portUp s p then s
  else
    let s := ethBump p 0x08 s
    let (vid, pcp) := frameVlan s p f
    if !f.fcsOk || (if f.vlan.isSome then 1522 else 1518) < f.length || !member s vid p then ethBump p 0x10 s
    else
      let s := learn p f.src s
      if f.dst = Config.mac then (if p < 8 then toLane pcp f s else s)
      else if groupMac f.dst then
        let s := if f.subscribed && decide (p < 8) then toLane pcp f s else s
        flood p vid pcp f s
      else match lookupMac s f.dst with
        | some q =>
          if q = p || !member s vid q || !portUp s q then s else ethEnqueue q pcp f s
        | none => flood p vid pcp f s

/-! ### Gates and egress (R348) -/

/-- Sum of the intervals of a list. -/
def gclCycle (l : List GateEntry) : Nat := (l.map (·.intervalNs)).sum

/-- How long a gate stays open from the start of entry `k` on, counted over at most `n` entries. -/
def openFrom (l : List GateEntry) (pcp k : Nat) : Nat → Nat
  | 0 => 0
  | n + 1 => match l[k % l.length]? with
    | some e => if bit e.gates pcp then e.intervalNs + openFrom l pcp (k + 1) n else 0
    | none => 0

/-- ns for which a queue's gate stays open from now on; none where no list closes it. -/
def gateLeft (s : State) (p pcp : Nat) : Option Nat :=
  let l := (ethDecl s p).gcl
  let x := ethPort s p
  match x.gclAt with
  | none => none
  | some k =>
    if l.all fun e => bit e.gates pcp then none
    else some (openFrom l pcp k l.length - (s.sun.time.toNat - x.gclSince.toNat))

/-- ns that a frame and its preamble take: 100 Mbit/s at ports 0 to 5, else 1 Gbit/s (R346). -/
def frameTime (p : Nat) (f : EthFrame) : Nat := (f.length + 8) * 8 * (if p < 6 then 10 else 1)

/-- The frame that a port starts next: the oldest of the highest PCP whose gate lets it complete (R347, R348). -/
def nextFrame (s : State) (p : Nat) : Option (EthQueued × List EthQueued) :=
  let q := (ethPort s p).queue
  let pick := (List.range 8).reverse.findSome? fun pcp =>
    match q.find? fun e => decide (e.pcp % 8 = pcp) with
    | some e => match gateLeft s p pcp with
      | none => some e
      | some left => if frameTime p e.frame ≤ left then some e else none
    | none => none
  pick.map fun e => (e, q.erase e)

/-- ETH_FRAME_EGRESS: the frame leaves, to a lane only while it is ACTIVE (R347 to R349). -/
def execEthFrameEgress (t : Time) (port : Fin 10) (s : State) : Result :=
  let s := advanceTo t s
  .next <|
  let p := port.val
  match nextFrame s p with
  | none => s
  | some (e, rest) =>
    if portUp s p then
      send (.ethFrame p e.frame) (ethBump p 0x0C (setEthPort p { ethPort s p with queue := rest } s))
    else if 8 ≤ p && !netStopped s then bump 0x00120014 0 (setEthPort p { ethPort s p with queue := rest } s)
    else s

/-- GATE_LIST_ADVANCE: cycles start at device-time multiples of the cycle time; after a forward step at the first one behind it
(R348). -/
def execGateListAdvance (t : Time) (port : Fin 8) (s : State) : Result :=
  let s := advanceTo t s
  .next <|
  let l := (ethDecl s port).gcl
  let x := ethPort s port
  let now := s.sun.time.toNat
  let stepped := match s.sun.stepSpan with
    | some (b, a) => decide (x.gclSince ≤ b) && decide (a.toNat ≤ now)
    | none => false
  if l.isEmpty then s
  else match x.gclAt with
    | some k =>
      if stepped then
        if now % gclCycle l = 0 then setEthPort port { x with gclAt := some 0, gclSince := s.sun.time } s else s
      else if x.gclSince.toNat + ((l[k]?.map (·.intervalNs)).getD 0) ≤ now then
        setEthPort port { x with gclAt := some ((k + 1) % l.length), gclSince := s.sun.time } s
      else s
    | none => if now % gclCycle l = 0 then setEthPort port { x with gclAt := some 0, gclSince := s.sun.time } s else s

/-! ### Links, ageing, configuration (R347, R350, R56) -/

/-- A port loses its link: its queued frames are discarded and counted (R350). -/
def ethDown (p : Nat) (s : State) : State :=
  let x := ethPort s p
  bumps 0x00120010 p x.queue.length (setEthPort p { x with link := false, sqi := 0, queue := [] } s)

/-- ETH_LINK_DOWN (R350). -/
def execEthLinkDown (t : Time) (port : Fin 8) (s : State) : Result :=
  let s := advanceTo t s
  .next (if (ethPort s port).link then ethDown port s else s)

/-- ETH_LINK_UP: not while NET is off its main PLL (R322). -/
def execEthLinkUp (t : Time) (port : Fin 8) (sqi : BitVec 3) (s : State) : Result :=
  let s := advanceTo t s
  .next <|
  if s.sys.powered && netMain s && decide (s.sys.state ≠ .midnight) then
    setEthPort port { ethPort s port with link := true, sqi := sqi } s
  else s

/-- MAC_ENTRY_AGEING: a learned entry leaves 300 s after it was last seen (R347). -/
def execMacEntryAgeing (t : Time) (addr : BitVec 48) (s : State) : Result :=
  let s := advanceTo t s
  .next { s with eth := { s.eth with
    macs := s.eth.macs.filter fun e => !(decide (e.addr = addr) && passed s e.seen (300 * second)) } }

/-- The cop's configuration applies from MORNING (R347, R348, R56). -/
def applyEth (s : State) : State :=
  let c := cop s
  { s with eth := { s.eth with
    cfg := c.eth, vlans := c.vlans, statics := c.macs
    macs := s.eth.macs.filter fun e => !c.macs.any fun m => decide (m.addr = e.addr)
    ports := s.eth.ports.map fun e => (e.1, { e.2 with gclAt := none }) } }

end Sys2Proof.Machine
end

