-- ==== Sys2Proof/Machine/Recorder.lean ====
section
/-! DEFINITION. The Skein's ring and its clear (20, R368 to R377): where a record goes, what the window shows, challenges, tokens. -/
namespace Sys2Proof.Machine

/-- Slots of the ring, and how many of them records other than CRITICAL may hold (R373). -/
def ringSlots : Nat := 262144
def otherSlots : Nat := 245760

/-- Records held in a ring: other than CRITICAL, CRITICAL, clear records. -/
def otherHeld (ring : SMap Record) : Nat := (ring.filter fun e => decide (e.2.ev.sev ≠ .critical)).length
def critHeld (ring : SMap Record) : Nat := (ring.filter fun e => decide (e.2.ev.sev = .critical)).length
def clearsHeld (ring : SMap Record) : Nat := (ring.filter fun e => e.2.ev.clear).length

/-- The lowest slot at or after `k` that a ring leaves free. -/
def firstFree : SMap Record → Nat → Nat
  | [], k => k
  | (n, _) :: r, k => if n = k then firstFree r (k + 1) else k

/-- How long ago a record was numbered, seen from the newest SEQ (R68, R372). -/
def ageSeq (newest : BitVec 64) (r : Record) : Nat := (newest - r.seq).toNat

/-- The slot of the oldest record of severity `s` or lower, clear records excepted (R373). -/
def oldestSlot (newest : BitVec 64) (s : Severity) (ring : SMap Record) : Option Nat :=
  let l := ring.filter fun e => decide (s.code ≤ e.2.ev.sev.code) && !e.2.ev.clear
  (l.foldl (fun (b : Option (Nat × Record)) e => match b with
    | some x => if ageSeq newest x.2 < ageSeq newest e.2 then some e else b
    | none => some e) none).map (·.1)

/-- A record placed in the ring, or none where it is dropped (R373). -/
def placeRecord (newest : BitVec 64) (r : Record) (ring : SMap Record) : Option (SMap Record) :=
  let free := decide (ring.length < ringSlots) && (decide (r.ev.sev = .critical) || decide (otherHeld ring < otherSlots))
  if free then some (SMap.insert ring (firstFree ring 0) r)
  else (oldestSlot newest r.ev.sev ring).map fun k => SMap.insert ring k r

/-- A record goes to flash, or is dropped and counted (R373). -/
def writeRecord (r : Record) (s : State) : State :=
  match placeRecord s.skein.seq r s.skein.ring with
  | some ring => { s with skein := { s.skein with ring := ring } }
  | none => bump (0x001A0010 + 4 * r.ev.sev.code) 0 s

/-- The ring as window 0x4 shows it: what lies in flash and what the buffer will put there (R374). -/
def shownRing (s : State) : SMap Record :=
  s.skein.buffer.foldl (fun m r => (placeRecord s.skein.seq r m).getD m) s.skein.ring

/-- FLAGS of a record (R368). -/
def recordFlags (r : Record) : Word :=
  flag (!r.ev.known) 0 ||| flag r.ev.holdover 1 ||| flag r.ev.invalid 2 ||| flag r.ev.clear 3 ||| flag r.trunc 4

/-- The 32 words of a record (R368); its calendar time is zero while the time is not known. -/
def recordWords (r : Record) : List Word :=
  let tai : Time := if r.ev.known then r.ev.devtime else 0
  let snaps := r.snaps.flatMap fun p => [p.1, p.2]
  [lo32 r.seq, hi32 r.seq, lo32 tai, hi32 tai, lo32 r.ev.devtime, hi32 r.ev.devtime,
    r.ev.utc.zeroExtend 32 ||| (recordFlags r <<< 8) ||| at32 r.ev.sev.code 16 ||| (r.ev.source.zeroExtend 32 <<< 24),
    r.ev.code.zeroExtend 32 ||| at32 r.snaps.length 16 ||| at32 2 24]
    ++ snaps ++ List.replicate (24 - snaps.length) 0

/-! ### Clearing (R375, R376) -/

/-- NEWCHAL: a random challenge, good for one CLEAR and 60 s. -/
def newChallenge (s : State) : State :=
  let (a, s) := nextFree s
  let (b, s) := nextFree s
  let (c, s) := nextFree s
  let (d, s) := nextFree s
  { s with skein := { s.skein with chal := some (a, b, c, d), chalAt := s.sun.time } }

/-- Whether a challenge is in force. -/
def challengeLive (s : State) : Bool :=
  s.skein.chal.isSome && decide (s.sun.time.toNat < s.skein.chalAt.toNat + 60000000000)

/-- 16 words as 64 B, least significant byte first (R6). -/
def wordBytes (m : SMap Word) : List Byte := (List.range 16).flatMap fun n => bytesOf 4 (SMap.get m 0 n).toNat

/-- The public key of SKN_KEY, x then y, uncompressed. -/
def skeinKey (s : State) : BitVec 520 := BitVec.ofNat 520 (bigEndian (4 :: wordBytes s.skein.key))

/-- The 24 B that a token signs: the challenge, then ID_SERIAL (R375). -/
def clearText (c : Word × Word × Word × Word) : List Byte :=
  [c.1, c.2.1, c.2.2.1, c.2.2.2].flatMap (fun w => bytesOf 4 w.toNat) ++ bytesOf 8 Config.serial.toNat

/-- Whether the staged token verifies for the challenge in force (R375). -/
def tokenOk (s : State) : Bool :=
  match s.skein.chal with
  | some c => Config.ecdsaVerifies (skeinKey s) (sha256 (clearText c)) (wordBytes s.skein.token)
  | none => false

/-- CLEAR with the staged token: a bad or expired one writes a WARNING, 4,096 clear records refuse it, a good one starts; the number
of the clear record is taken here, so that records raised meanwhile follow it (R376). -/
def startClear (s : State) : State :=
  if s.skein.clearing then s
  else
    let live := challengeLive s
    let good := tokenOk s
    let s := { s with skein := { s.skein with chal := none } }
    if !live then raise .warning 0x1A 0x0024 [] { s with skein := { s.skein with clrRes := 3 } }
    else if !good then raise .warning 0x1A 0x0024 [] { s with skein := { s.skein with clrRes := 2 } }
    else if 4096 ≤ clearsHeld s.skein.ring then { s with skein := { s.skein with clrRes := 4 } }
    else
      let s := s.skein.buffer.foldl (fun s r => writeRecord r s) s
      { s with skein := { s.skein with
        buffer := [], clearing := true, lastBeforeClear := s.skein.seq, seq := s.skein.seq + 1 } }

/-- SKN_CTRL written (R375, R376): a new challenge, then a clear. -/
def writeSknCtrl (v : Word) (s : State) : State :=
  let s := if bit v 1 then newChallenge s else s
  if bit v 0 then startClear s else s

/-- A write of the clear public key (R375). -/
def writeSknKey (n : Nat) (v : Word) (s : State) : State :=
  raise .warning 0x1A (BitVec.ofNat 16 (0x80 + 4 * n)) [] { s with skein := { s.skein with key := SMap.put s.skein.key 0 n v } }

end Sys2Proof.Machine
end

