-- ==== Sys2Proof/Machine/Panel.lean ====
section
/-! DEFINITION. The service panel (22, R394 to R410). Pixel x of row y has index 1280y + x, tile (tx, ty) index 160ty + tx. -/
namespace Sys2Proof.Machine

def setPanel (p : Panel) (s : State) : State := { s with panel := p }

/-! ### Waveforms (R399, R400) -/

/-- The codes of a waveform; a missing one drives nothing. -/
def waveCodes (t : WaveTable) (mode age band a b : Nat) : List (BitVec 2) :=
  ((t.entries.find? fun e => decide (e.mode = mode) && decide (e.age = age) && decide (e.band = band) && decide (e.src = a)
    && decide (e.dst = b)).map (·.codes)).getD []

/-- What a code adds to a ledger (R402). -/
def charge (c : BitVec 2) : Int := if c = 1 then 1 else if c = 2 then -1 else 0

/-- net of a waveform. -/
def netOf (l : List (BitVec 2)) : Int := (l.map charge).sum

/-- The checks of R400, with the ranges of R399. -/
def tableOk (t : WaveTable) : Bool :=
  let net := fun (m g b x y : Nat) => netOf (waveCodes t m g b x y)
  decide (t.modes = 3) && decide (1 ≤ t.ages) && decide (t.ages ≤ 4)
    && t.entries.all fun e =>
      !e.codes.contains 3 && decide (1 ≤ e.codes.length) && decide (e.codes.length ≤ 255)
        && decide (net e.mode e.age e.band e.src e.dst + net e.mode e.age e.band e.dst e.src = 0)
        && (decide (e.src ≠ e.dst) || decide (netOf e.codes = 0))
        && (decide (e.mode ≠ 0) || decide (netOf e.codes = 0))

/-- PANEL_TABLE_LOAD: a table is checked as it is loaded, for the running set or for a staged one (R388, R400). -/
def execPanelTableLoad (t : Time) (w : WaveTable) (s : State) : Result :=
  let s := advanceTo t s
  let p := s.panel
  .next <|
  if !tableOk w then raise .error 0x1B 0x0000 [8] (setPanel { p with notable := true } s)
  else match s.upd.step with
    | .staged | .switching => setPanel { p with nextTable := some w } s
    | _ => setPanel { p with table := w, notable := false } s

/-- Temperature band (R399). -/
def bandOf' (t : WaveTable) (temp : BitVec 8) : Nat := (t.bandT.filter fun b => decide (b ≤ temp.toInt)).length

/-- Age band of a tile (R403). -/
def ageOf' (t : WaveTable) (stress : Nat) : Nat := min ((t.ageT.filter fun a => decide (a ≤ stress)).length) (t.ages - 1)

/-! ### Pixels of a job (R402, R403, R406, R408) -/

/-- Pixels of a rectangle. -/
def pixels (j : PanelJob) : List Nat :=
  (List.range j.h).flatMap fun dy => (List.range j.w).map fun dx => 1280 * (j.y + dy) + j.x + dx

/-- The tile of a pixel. -/
def tileOf (p : Nat) : Nat := 160 * (p / 1280 / 8) + p % 1280 / 8

/-- Grey levels that a job drives a pixel from and to. -/
def levelFrom (s : State) (j : PanelJob) (p : Nat) : Nat :=
  match j.stage with
  | 0 => SMap.get s.panel.committed 0 p
  | 1 => SMap.get j.src 0 p
  | _ => 15
def levelTo (s : State) (j : PanelJob) (p : Nat) : Nat :=
  match j.stage with
  | 0 => match j.asset with
    | some k => Config.assetPixel k j.text p % 16
    | none => SMap.get j.target 0 p
  | 1 => 15
  | _ => SMap.get s.panel.committed 0 p

/-- The codes of a pixel's waveform in a job: FULL where it is rebalanced or recovered. -/
def jobCodes (s : State) (j : PanelJob) (p : Nat) : List (BitVec 2) :=
  let mode := if j.stage ≠ 0 || SMap.get j.rebal 0 p ≠ 0 then 0 else j.mode
  waveCodes j.table mode (SMap.get j.ages 0 (tileOf p)) j.band (levelFrom s j p) (levelTo s j p)

/-- Rebalance frames of a pixel plus one, zero where it is not rebalanced (R402); a clear restores balance at every pixel (R408). -/
def rebalOf (s : State) (j : PanelJob) (p : Nat) : Nat :=
  let l := SMap.get s.panel.ledger 0 p
  let net := netOf (waveCodes j.table (if j.stage = 0 then j.mode else 0) (SMap.get j.ages 0 (tileOf p)) j.band
    (levelFrom s j p) (levelTo s j p))
  if j.stage = 1 || decide ((s.panel.dcThr.toNat : Int) < (l + net).natAbs) then min l.natAbs 255 + 1 else 0

/-- The code a pixel gets in frame `k` (R402): opposite to L while it is rebalanced, then its waveform, then VCOM. -/
def codeAt (s : State) (j : PanelJob) (p k : Nat) : BitVec 2 :=
  let r := SMap.get j.rebal 0 p
  if k + 1 < r then (if 0 < SMap.get s.panel.ledger 0 p then 2 else 1)
  else (jobCodes s j p)[k - (r - 1)]?.getD 0

/-- A job with its age bands, rebalancing and length (R402, R403): the longest pixel decides. -/
def prepare (s : State) (j : PanelJob) : PanelJob :=
  let j := { j with ages := (pixels j).foldl (fun m p =>
    SMap.put m 0 (tileOf p) (ageOf' j.table (SMap.get s.panel.stress 0 (tileOf p)))) [] }
  let j := { j with rebal := (pixels j).foldl (fun m p => SMap.put m 0 p (rebalOf s j p)) [] }
  { j with frame := 0, frames := (pixels j).foldl (fun n p =>
    max n ((SMap.get j.rebal 0 p - 1) + (jobCodes s j p).length)) 0 }

/-- One frame of a job on the ledgers, which hold at ±32,767 (R402). -/
def driveFrame (j : PanelJob) (s : State) : State :=
  (pixels j).foldl (fun s p =>
    let l := SMap.get s.panel.ledger 0 p + charge (codeAt s j p j.frame)
    setPanel { s.panel with
      ledger := SMap.put s.panel.ledger 0 p (clampInt (-32767) 32767 l)
      dcsat := s.panel.dcsat || decide (32767 < l.natAbs) } s) s

/-- Stress of a finished job: one for each pixel whose level changed, at most 2^32 − 1 per tile (R403). -/
def addStress (j : PanelJob) (s : State) : State :=
  (pixels j).foldl (fun s p =>
    if levelFrom s j p = levelTo s j p then s
    else setPanel { s.panel with stress := SMap.modify s.panel.stress 0 (tileOf p) fun n => min (n + 1) 0xFFFFFFFF } s) s

/-- Two rectangles share a pixel. -/
def overlaps (a b : PanelJob) : Bool :=
  decide (a.x < b.x + b.w) && decide (b.x < a.x + a.w) && decide (a.y < b.y + b.h) && decide (b.y < a.y + a.h)

/-- A job's region as it stands goes to the flash panel store, and its journal record is deleted (R406). -/
def storeRegion (j : PanelJob) (s : State) : State :=
  setPanel { s.panel with
    flashLedger := (pixels j).foldl (fun m p => SMap.put m 0 p (SMap.get s.panel.ledger 0 p)) s.panel.flashLedger
    journal := s.panel.journal.filter fun k => decide (k.gen ≠ j.gen) } s

/-! ### Frames (R401 to R406, R408) -/

/-- Whether the display controller works: fitted, PNL not stopped, no hold-up, whose energy finishes the current frame only (R322, R394,
R408). -/
def panelRuns (s : State) : Bool :=
  s.sys.powered && !s.sys.holdupRun && s.panel.fitted && decide (s.sys.state ≠ .midnight) && decide (SMap.get s.clock.src .main 6 ≠ .stopped)

/-- The rail claim is submitted where work waits, at the earliest 1 s after a rail fault (R396, R398). -/
def wantRails (s : State) : State :=
  let p := s.panel
  let late := match p.railFaultAt with
    | some f => passed s f second
    | none => true
  if p.rails || p.railClaim || !late || (p.queue.isEmpty && p.recovering.isEmpty) then s
  else submit 4 panelClaim (setPanel { p with railClaim := true } s)

/-- A pending update starts (R401, R402, R405, R406). -/
def startJob (j : PanelJob) (s : State) : State :=
  let p := s.panel
  let band := bandOf' p.table p.temp
  let cold := p.table.bandT ≠ [] && band = 0
  let inside := fun (e : Nat × Nat) => (pixels j).contains e.1
  let j := { j with band := band, table := p.table, gen := p.gen + 1, target := p.pendingPlane.filter inside }
  let j := prepare s j
  let warn := cold && match p.coldWarnedAt with
    | some w => passed s w (3600 * second)
    | none => true
  let s := bumps 0x001B0020 0 (j.rebal.length) s
  let s := setPanel { p with
    gen := p.gen + 1, band := BitVec.ofNat 3 band, cold := cold, idleFrom := none, jobs := p.jobs ++ [j], journal := p.journal ++ [j]
    coldWarnedAt := if warn then some s.sun.time else p.coldWarnedAt } s
  if warn then raise .warning 0x1B 0x0000 [4, p.temp.zeroExtend 32] s else s

/-- Pending updates examined in queue order (R405): those passed over so far stand before. -/
def startPending : List PanelJob → List PanelJob → State → State
  | kept, [], s => setPanel { s.panel with queue := kept } s
  | kept, j :: r, s =>
    let p := s.panel
    let free := decide (p.jobs.length < 8) && !p.hold && !p.notable
      && !(p.jobs ++ kept ++ p.recovering ++ p.journal).any (overlaps j)
    if free then startPending kept r (startJob j s) else startPending (kept ++ [j]) r s

/-- A job one frame on, in its journal record too (R406). -/
def stepJob (j : PanelJob) (s : State) : State :=
  if j.frames ≤ j.frame then s
  else
    let s := driveFrame j s
    let move := fun (l : List PanelJob) => l.map fun k => if k.gen = j.gen then { k with frame := k.frame + 1 } else k
    setPanel { s.panel with jobs := move s.panel.jobs, journal := move s.panel.journal } s

/-- A recovery one frame on (R408): after the clear the redraw, after the redraw the region is stored once its flash burst is admitted
(R259). -/
def stepRecovery (j : PanelJob) (s : State) : State :=
  let s := if j.frame < j.frames then driveFrame j s else s
  let k := { j with frame := j.frame + 1 }
  let put := fun (n : PanelJob) (s : State) =>
    setPanel { s.panel with recovering := s.panel.recovering.map fun m => if m.gen = j.gen then n else m } s
  if k.frame < k.frames then put k s
  else if j.stage = 1 then
    let s := addStress j s
    put (prepare s { j with stage := 2 }) s
  else
    let (go, b, s) := burst 3 j.burst s
    if go then
      let s := addStress j s
      storeRegion j (setPanel { s.panel with recovering := s.panel.recovering.filter fun m => decide (m.gen ≠ j.gen) } s)
    else put { k with burst := b } s

/-- Running updates and recoveries one frame on (R405, R408). -/
def stepFrame (s : State) : State :=
  let s := s.panel.jobs.foldl (fun s j => stepJob j s) s
  s.panel.recovering.foldl (fun s j => stepRecovery j s) s

/-- PANEL_FRAME_BOUNDARY: running updates and recoveries advance, pending updates start once the rails are up (R401, R405, R406,
R408). -/
def execPanelFrameBoundary (t : Time) (temp : BitVec 8) (s : State) : Result :=
  let s := advanceTo t s
  .next <|
  if !panelRuns s then s
  else
    let s := setPanel { s.panel with temp := temp } s
    if !s.panel.rails then wantRails s
    else
      let s := stepFrame s
      let s := startPending [] s.panel.queue s
      if s.panel.jobs.isEmpty && s.panel.recovering.isEmpty && s.panel.idleFrom.isNone then
        setPanel { s.panel with idleFrom := some s.sun.time } s
      else s

/-- PANEL_UPDATE_COMPLETE: after its last frame an update commits its region, once its flash burst is admitted (R259, R403, R406). -/
def execPanelUpdateComplete (t : Time) (index : Nat) (s : State) : Result :=
  let s := advanceTo t s
  .next <|
  match s.panel.jobs[index]? with
  | none => s
  | some j =>
    if j.frame < j.frames || !panelRuns s then s
    else
      let (go, b, s) := burst 3 j.burst s
      if !go then setPanel { s.panel with jobs := s.panel.jobs.set index { j with burst := b } } s
      else
        let levels := (pixels j).map fun p => (p, levelTo s j p)
        let s := storeRegion j (addStress j s)
        let jobs := s.panel.jobs.eraseIdx index
        setPanel { s.panel with
          jobs := jobs, committed := levels.foldl (fun m e => SMap.put m 0 e.1 e.2) s.panel.committed
          idleFrom := if jobs.isEmpty && s.panel.recovering.isEmpty then some s.sun.time else s.panel.idleFrom } s

/-! ### Rails (R396, R398) -/

/-- PANEL_RAILS_UP: the claim is admitted and the rails have finished their start-up. -/
def execPanelRailsUp (t : Time) (s : State) : Result :=
  let s := advanceTo t s
  .next <|
  if panelRuns s && s.panel.railClaim && holds s 4 .panel then
    setPanel { s.panel with rails := true, idleFrom := some s.sun.time } s
  else s

/-- The rails discharge and the claim is released. -/
def railsOff (s : State) : State :=
  unqueue 4 .panel (giveBack 4 .panel (setPanel { s.panel with rails := false, railClaim := false, idleFrom := none } s))

/-- PANEL_RAIL_IDLE: 1 s with no update running. -/
def execPanelRailIdle (t : Time) (s : State) : Result :=
  let s := advanceTo t s
  .next <|
  match s.panel.idleFrom with
  | some i =>
    if s.panel.rails && s.panel.jobs.isEmpty && s.panel.recovering.isEmpty && passed s i second then railsOff s else s
  | none => s

/-- Running updates and recoveries are abandoned: their journal records stay and are resolved later (R398, R408). -/
def panelAbandon (s : State) : State := railsOff (unflash 3 (setPanel { s.panel with jobs := [], recovering := [] } s))

/-- PANEL_RAIL_FAULT: a rail outside ±5 % for 100 µs. -/
def execPanelRailFault (t : Time) (s : State) : Result :=
  let s := advanceTo t s
  .next <|
  if !s.panel.rails then s
  else
    let s := panelAbandon s
    raise .error 0x1B 0x0000 [16] (setPanel { s.panel with railf := true, railFaultAt := some s.sun.time } s)

/-! ### Recovery (R408) -/

/-- Charge that an interrupted update has put on a pixel: the rebalance frames, then the waveform's first frames. -/
def chargeSoFar (s : State) (j : PanelJob) (p : Nat) : Int :=
  let n := SMap.get j.rebal 0 p - 1
  let l := SMap.get s.panel.flashLedger 0 p
  let bal : Int := if 0 < l then -(min j.frame n : Nat) else (min j.frame n : Nat)
  bal + netOf ((jobCodes s j p).take (j.frame - n))

/-- A region's ledgers as an interrupted update left them: L := L(flash) + prefix(a→b, k) (R402, R408). -/
def rebuiltLedger (s : State) (j : PanelJob) (m : SMap Int) : SMap Int :=
  (pixels j).foldl (fun m p =>
    SMap.put m 0 p (clampInt (-32767) 32767 (SMap.get s.panel.flashLedger 0 p + chargeSoFar s j p))) m

/-- The clear of an interrupted region: its ledgers are rebuilt, then from b if k ≥ FRAMES / 2, else from a, to white. -/
def clearJob (j : PanelJob) (s : State) : State :=
  let s := setPanel { s.panel with ledger := rebuiltLedger s j s.panel.ledger } s
  let src := (pixels j).foldl (fun m p =>
    SMap.put m 0 p (if (jobCodes s j p).length ≤ 2 * j.frame then levelTo s j p else levelFrom s j p)) []
  let n := prepare s { j with stage := 1, src := src, burst := none, table := s.panel.table, band := bandOf' s.panel.table s.panel.temp }
  setPanel { s.panel with recovering := s.panel.recovering ++ [n], idleFrom := none } s

/-- An interrupted update that the flash store holds: its region was stored with the ledgers after its last frame, and the record goes
(R406, R408). -/
def keepStored (j : PanelJob) (s : State) : State :=
  let l := rebuiltLedger s j
  let t := addStress j s
  setPanel { t.panel with
    journal := s.panel.journal.filter fun k => decide (k.gen ≠ j.gen)
    ledger := l s.panel.ledger, flashLedger := l s.panel.flashLedger
    committed := (pixels j).foldl (fun m p => SMap.put m 0 p (levelTo s j p)) s.panel.committed } t

/-- The first journal record of an update that neither runs nor is recovered yet. -/
def interrupted (s : State) : Option PanelJob :=
  s.panel.journal.find? fun j => !(s.panel.jobs ++ s.panel.recovering).any fun k => decide (k.gen = j.gen)

/-- PANEL_RECOVERY: a journal record is resolved, after the self-test of a DAWN (R260): committed in flash, so deleted, or its region is
cleared and redrawn. Flash can hold the generation of an update only after its last frame (R406). -/
def execPanelRecovery (t : Time) (flashHasGen : Bool) (s : State) : Result :=
  let s := advanceTo t s
  .next <|
  match interrupted s with
  | none => s
  | some j =>
    let early := decide (s.sys.state = .dawn) && (match s.sys.dawn with
      | .supplies | .plls | .selfTest => true
      | _ => false)
    if !panelRuns s || early then s
    else if flashHasGen && decide (j.frames ≤ j.frame) then keepStored j s
    else wantRails (clearJob j s)

/-! ### Requests (R404, R407) -/

/-- PNL_REQ.GO with the requester's PNL_REQ_POS. -/
def panelRequest (pos : Word) (mode : BitVec 2) (w : BitVec 11) (h : BitVec 10) (s : State) : Reply × State :=
  let p := s.panel
  let j : PanelJob := { x := field pos 10 0, y := field pos 25 16, w := w.toNat, h := h.toNat, mode := mode.toNat }
  let fits := match p.geom with
    | some g => decide (1 ≤ j.w) && decide (1 ≤ j.h) && decide (j.x + j.w ≤ g.width) && decide (j.y + j.h ≤ g.height) && decide (j.mode < 3)
    | none => false
  let same := fun (k : PanelJob) => decide (k.x = j.x) && decide (k.y = j.y) && decide (k.w = j.w) && decide (k.h = j.h)
  if !fits then (.nak .badValue 0, s)
  else if decide (s.sys.state = .dusk) || p.notable || !panelRuns s then (.nak .wrongState 0, s)
  else if p.journal.any fun k => overlaps j k && !p.jobs.any fun m => decide (m.gen = k.gen) then (.busy 100, s)
  else if p.queue.any same then
    (.ack [], setPanel { p with queue := p.queue.map fun k => if same k then { k with mode := j.mode } else k } s)
  else if 16 ≤ p.queue.length then (.busy 100, s)
  else (.ack [], wantRails (setPanel { p with queue := p.queue ++ [j] } s))

/-- UTC day of a record, counted from the epoch; 0 while its time is not known (R407). -/
def utcDay (r : Record) : Nat := if r.ev.known then (r.ev.devtime.toNat / second - r.ev.utc.toNat) / 86400 else 0

/-- What a picture shows (R407): the 8 newest ERROR and CRITICAL records, or HOLD_CAUSE. -/
def assetText (k : Nat) (s : State) : List (Byte × BitVec 16 × Nat) :=
  if k = 0 then
    let l := (shownRing s).filter fun e => decide (e.2.ev.sev.code ≤ Severity.error.code)
    (sortBy (fun a b => ageSeq s.skein.seq a ≤ ageSeq s.skein.seq b) (l.map (·.2))).take 8 |>.map fun r =>
      (r.ev.source, r.ev.code, utcDay r)
  else [(0, s.sys.holdCause.zeroExtend 16, 0)]

/-- A picture over the whole panel in FULL: the DUSK asset with the newest records, or HOLD_CAUSE (R407), on the panel that the cop in
force or the last validated one declares. -/
def drawAsset (k : Nat) (s : State) : State :=
  match s.panel.geom.or (s.store.lastValid.bind (·.panel)) with
  | some g =>
    if panelRuns s && !s.panel.notable then
      wantRails (setPanel { s.panel with
        queue := [{ x := 0, y := 0, w := g.width, h := g.height, mode := 0, asset := some k, text := assetText k s }] } s)
    else s
  | none => s

/-- Whether the panel has drawn all it was asked to, as DUSK waits for (R38, R407). -/
def panelDone (s : State) : Bool :=
  !panelRuns s || (s.panel.jobs.isEmpty && s.panel.recovering.isEmpty && (s.panel.queue.isEmpty || s.panel.notable))

end Sys2Proof.Machine
end

