-- ==== Sys2Proof/Machine/Clocks.lean ====
section
/-! DEFINITION. Clock sources, monitors and what a domain does on another source (17, R317 to R322, R332). Domains: 0 SPN, 1 DST,
2 MEM, 3 NET, 4 CANC, 5 GNS, 6 PNL, 7 SEN, 8 ADCC, 9 TIM. -/
namespace Sys2Proof.Machine

def clkSrc (s : State) (d : Nat) : ClkSrc := SMap.get s.clock.src .main d

/-- Codes of CLK_STAT.SRC. -/
def ClkSrc.code : ClkSrc → Nat
  | .main => 0
  | .fallback => 1
  | .direct => 2
  | .stopped => 3

/-- Domains that may run from RCO directly (R317). -/
def directAllowed (d : Nat) : Bool := [0, 1, 2, 8, 9].contains d

/-- SEN_STAT.DEGRADED of every port, with one record (R192, R322). -/
def setDegraded (on : Bool) (sev : Severity) (s : State) : State :=
  let s := (List.range 12).foldl (fun s p => setSensor p { sensor s p with degraded := on } s) s
  if on then raise sev 0x0D 0x0004 [] s else s

/-- The newest samples of everything that some writers write turn QUARANTINED (R245, R322). -/
def quarantineAll (p : Writer → Bool) (s : State) : State :=
  (writtenBy (cop s) p).foldl (fun s i => quarantineNewest i s) s

/-- GNS off its main PLL: the baseband stops, its outputs are QUARANTINED, and the Sundial leaves LOCKED (R245, R324). -/
def gnssStop (s : State) : State :=
  quarantineAll (fun w => match w with
    | .position _ => true
    | _ => false)
    (let s := loseGnss (baseStop s); { s with gnss := { s.gnss with clkFail := true } })

/-- What a domain does as it leaves its main PLL or changes on from there (R192, R245, R322). -/
def domainEffect (d : Nat) (src : ClkSrc) (s : State) : State :=
  match d with
  | 3 => (List.range 8).foldl (fun s p => if (ethPort s p).link then ethDown p s else s) s
  | 4 => if src = .stopped then canLeaveAll s else s
  | 5 => gnssStop s
  | 6 => if src = .stopped then panelAbandon s else s
  | 7 =>
    if src = .stopped then
      quarantineAll (fun w => decide (w = .port) || decide (w = .imu)) (setDegraded true .error s)
    else setDegraded true .warning s
  | 9 =>
    let s := setInvalid (setDegraded true .warning s)
    if src = .stopped then { s with sun := { s.sun with run := false } } else s
  | _ => s

/-- A domain changes to a source (R320, R322); a change between running sources counts. -/
def toSource (d : Nat) (src : ClkSrc) (s : State) : State :=
  if clkSrc s d = src then s
  else
    let s := { s with clock := { s.clock with src := SMap.put s.clock.src .main d src } }
    let s := if src = .stopped then s else bump 0x0002000C 0 s
    if src = .main then s else domainEffect d src s

/-- The source that a domain falls to from its main PLL (R317, R319). -/
def fallSource (d : Nat) (s : State) : ClkSrc :=
  if s.clock.rcoFail then .stopped
  else if !bit s.clock.fbFail d then .fallback
  else if directAllowed d then .direct else .stopped

/-- CLOCK_MONITOR_FAIL (R21, R319): the source or PLL is marked, counted and written CRITICAL, and the domains that use it change
source or stop. -/
def execClockMonitorFail (t : Time) (m : ClockMon) (s : State) : Result :=
  let s := advanceTo t s
  .next <|
  if !s.sun.run then s
  else
    let note := fun (k d : Nat) (s : State) =>
      bump 0x00020008 0 (raise .critical 0x02 0x0000 [BitVec.ofNat 32 k, BitVec.ofNat 32 d] s)
    match m with
    | .ref =>
      let s := note 0 0 { s with clock := { s.clock with refFail := true, failAt := SMap.insert s.clock.failAt 10 s.sun.time } }
      let s := setInvalid (loseGnss s)
      (List.range 10).foldl (fun s d => if clkSrc s d = .main then toSource d (fallSource d s) s else s) s
    | .mainPll d =>
      let s := note 1 d.val { s with clock := { s.clock with
        mainFail := setBit s.clock.mainFail d.val true, failAt := SMap.insert s.clock.failAt d.val s.sun.time } }
      if clkSrc s d.val = .main then toSource d.val (fallSource d.val s) s else s
    | .fallbackPll d =>
      let s := note 2 d.val { s with clock := { s.clock with fbFail := setBit s.clock.fbFail d.val true } }
      if clkSrc s d.val = .fallback then toSource d.val (fallSource d.val s) s else s
    | .rco =>
      let s := note 3 0 { s with clock := { s.clock with rcoFail := true } }
      (List.range 10).foldl (fun s d =>
        if clkSrc s d = .fallback || clkSrc s d = .direct then toSource d .stopped s else s) s
    | .lko => note 4 0 { s with clock := { s.clock with lkoFail := true } }
    | .rtc => note 5 0 { s with clock := { s.clock with rtcFail := true }, sun := { s.sun with rtcValid := false } }

/-- Whether REF and a domain's main PLL have gone 10 s without a failure (R321). -/
def goodFor10s (d : Nat) (s : State) : Bool :=
  [10, d].all fun k => match SMap.find s.clock.failAt k with
    | some f => passed s f (10 * second)
    | none => true

/-- CLOCK_RETURN_MAIN: a domain returns from its fallback PLL, unless FORCE or STAY holds it there (R321, R322). -/
def execClockReturnMain (t : Time) (d : Fin 10) (s : State) : Result :=
  let s := advanceTo t s
  .next <|
  if clkSrc s d ≠ .fallback || bit s.clock.force d || bit s.clock.stay d || !goodFor10s d s then s
  else
    let s := toSource d .main { s with clock := { s.clock with refFail := false, mainFail := setBit s.clock.mainFail d false } }
    match d.val with
    | 5 =>
      let s := { s with gnss := { s.gnss with clkFail := false } }
      if s.gnss.run then restartBaseband s else s
    | 7 => if timMain s then setDegraded false .notice s else s
    | 9 => if clkSrc s 7 = .main then setDegraded false .notice s else s
    | _ => s

/-- CLK_SRC written (R321): a domain newly forced changes to its fallback PLL where it has one. -/
def writeClkSrc (v : Word) (s : State) : State :=
  let s := { s with clock := { s.clock with force := v.truncate 10, stay := (v >>> 16).truncate 10 } }
  (List.range 10).foldl (fun s d =>
    if bit s.clock.force d && decide (clkSrc s d = .main) && decide (fallSource d s = .fallback) then toSource d .fallback s else s) s

/-- Every domain locks at the REF step of DAWN (R29, R317): on its main PLL, or on its fallback PLL without REF; what a fallback means
to a domain holds from the start. -/
def lockDomains (refOk : Bool) (s : State) : State :=
  let s := { s with clock := { s.clock with
    src := [], refFail := !refOk, mainFail := 0, fbFail := 0, failAt := if refOk then [] else [(10, s.sun.time)] } }
  if refOk then
    let back := s.gnss.clkFail && s.gnss.run
    let s := setDegraded false .notice { s with gnss := { s.gnss with clkFail := false } }
    if back then restartBaseband s else s
  else (List.range 10).foldl (fun s d => toSource d (fallSource d s) s) s

end Sys2Proof.Machine
end

