-- ==== Sys2Proof/Machine/CopCode.lean ====
section
/-! DEFINITION. What validation reads out of a cop's code (R89 to R93, R112, R124 to R140): which words a task can reach, their
loops, handles and charges, the worst path, response bounds, and the flow of values. -/
namespace Sys2Proof.Machine

/-! ### Words (R110, R140) -/

/-- Fields of a word: major opcode, guard, destination, sources, function (R110). -/
def opMajor (w : Word) : Nat := field w 31 26
def opGuard (w : Word) : Nat := field w 25 23
def opD (w : Word) : Nat := field w 22 18
def opA (w : Word) : Nat := field w 17 13
def opB (w : Word) : Nat := field w 12 8
def opFn (w : Word) : Nat := field w 7 0

/-- The Tister level that adds a word's instruction (R140). -/
def levelOf (w : Word) : Nat :=
  match opMajor w with
  | 0x01 => if opFn w = 0x17 || opFn w = 0x1C || opFn w = 0x1D then 3 else 1
  | 0x06 => if field w 6 5 = 3 then 3 else 1
  | 0x11 => if opFn w = 0x05 then 2 else 1
  | 0x12 => if opFn w = 0x03 || opFn w = 0x04 || opFn w = 0x05 then 3 else 2
  | 0x13 | 0x19 | 0x1F | 0x23 => 2
  | _ => 1

/-- The charge of a word's instruction, that of law.step aside (R115 to R137). -/
def chargeOf (w : Word) : Nat :=
  match opMajor w with
  | 0x01 => if 0x05 ≤ opFn w && opFn w ≤ 0x08 then 18 else if 0x02 ≤ opFn w && opFn w ≤ 0x04 then 2 else 1
  | 0x08 | 0x09 | 0x0A | 0x0B | 0x0C | 0x0D => 2
  | 0x11 => if opFn w = 0x04 || opFn w = 0x05 then 2 else 1
  | 0x12 => match opFn w with
    | 0x00 | 0x01 | 0x02 => 4
    | 0x03 | 0x04 => 14
    | 0x05 => 5
    | 0x06 | 0x07 => 2
    | _ => 1
  | 0x13 => 3
  | 0x19 | 0x1B | 0x1C | 0x26 | 0x28 => 2
  | 0x1D => match opFn w with
    | 0x00 => 0
    | 0x01 => 2
    | _ => 1
  | 0x1F => 4
  | 0x20 => if bit w 1 then 6 else 1
  | 0x21 | 0x22 | 0x23 => 20
  | 0x24 => 12
  | 0x25 => if field w 7 6 = 0 then 100 else if field w 7 6 = 1 then 110 else 10
  | 0x29 | 0x2A | 0x2B => 8
  | _ => 1

/-- Whether a word is a defined encoding at a cop's level (R112, R133, R140). -/
def wordOk (level : Nat) (w : Word) : Bool :=
  (decodeTister 0 w).isSome && decide (levelOf w ≤ level) && !(opMajor w = 0x26 && 7 < field w 9 6)

/-! ### What a task can reach (R112, R124 to R126) -/

/-- A reachable word: its instruction index, the word, and the loop bodies around it, innermost first, each by the indices of
its loop and its next. -/
structure Point where
  pc : Nat
  word : Word
  loops : List (Nat × Nat)
  deriving DecidableEq, Repr

/-- The instruction of a Spindle's code image (R166). -/
def codeOf (c : Cop) (sp : Nat) : List Word :=
  ((c.images.find? fun i => decide (i.spindle = sp)).map (·.code)).getD []

/-- Where control goes from a reachable word; `stop` is the index of the next that a loop matches (R124 to R127). -/
def successors (pc : Nat) (w : Word) (stop : Option Nat) (loops : List (Nat × Nat)) : List Nat :=
  let rest := if opGuard w = 0 then [] else [pc + 1]
  match opMajor w with
  | 0x1B => (pc + field w 12 0) :: rest
  | 0x1C => match stop with
    | some n =>
      if opA w = 0 then (if field w 12 0 = 0 then [n + 1] else if opGuard w = 0 then [pc + 1] else [pc + 1, n + 1])
      else [pc + 1, n + 1]
    | none => [pc + 1]
  | 0x1D => match opFn w with
    | 0x00 => [pc + 1]
    | 0x01 => match loops with
      | (_, n) :: _ => (n + 1) :: rest
      | [] => rest
    | _ => rest
  | 0x1E => rest
  | _ => [pc + 1]

/-- The reachable words of a list of words that starts at index `pc`, with every index control goes to (R112). -/
def walk : List Word → Nat → List Nat → List (Nat × Nat) → List Point × List Nat
  | [], _, go, _ => ([], go)
  | w :: r, pc, go, open_ =>
    let here := open_.dropWhile fun e => decide (e.2 < pc)
    let stop := if isLoop w then (matchNext r 0).map (pc + ·) else none
    let inner := match stop with
      | some n => (pc, n) :: here
      | none => here
    if go.contains pc then
      let rest := walk r (pc + 1) (successors pc w stop here ++ go) inner
      ({ pc := pc, word := w, loops := here } :: rest.1, rest.2)
    else walk r (pc + 1) go inner

/-- The reachable words of a task, with every index control goes to. -/
def reach (c : Cop) (t : TaskDecl) : List Point × List Nat :=
  walk ((codeOf c t.spindle).drop t.entry) t.entry [t.entry] []

/-- The reachable words of a task. -/
def pointsOf (c : Cop) (t : TaskDecl) : List Point := (reach c t).1

/-- Whether one reachable word breaks a rule of control flow (R124 to R126): a br that leaves the code or its innermost loop
body or enters another body, a loop without a next or in a fifth level, a next without a loop or with a guard, a brk outside every body. -/
def flowBad (code : List Word) (ps : List Point) (x : Point) : Bool :=
  match opMajor x.word with
  | 0x1B =>
    let t := x.pc + field x.word 12 0
    decide (code.length ≤ t) || (match ps.find? fun y => decide (y.pc = t) with
      | some y => decide (y.loops ≠ x.loops)
      | none => true)
  | 0x1C => (loopEnd code (BitVec.ofNat 14 x.pc)).isNone || decide (4 ≤ x.loops.length)
  | 0x1D => match opFn x.word with
    | 0x00 => decide (opGuard x.word ≠ 0) || (match x.loops with
      | (_, n) :: _ => decide (n ≠ x.pc)
      | [] => true)
    | 0x01 => x.loops.isEmpty
    | _ => false
  | _ => false

/-- Whether a task keeps the rules of control flow, no path reaching the end of its code without end (R124 to R126). -/
def flowOk (c : Cop) (t : TaskDecl) : Bool :=
  let code := codeOf c t.spindle
  let (ps, go) := reach c t
  !(ps.any (flowBad code ps)) && go.all fun k => decide (k < code.length)

/-! ### Handles (R79, R112, R129) -/

/-- The signal handles a word may touch: an indexed access touches every handle from its own to the end of the list (R129). -/
def sigTouched (t : TaskDecl) (w : Word) (indexed : Bool) : List Nat :=
  let l := t.sigs.drop (opFn w)
  (if indexed then l else l.take 1).map (·.signal)

/-- The signals that a word reads or writes. -/
def sigReads (t : TaskDecl) (w : Word) : List Nat :=
  if 0x21 ≤ opMajor w && opMajor w ≤ 0x23 then sigTouched t w (opA w ≠ 0) else []
def sigWrites (t : TaskDecl) (w : Word) : List Nat := if opMajor w = 0x24 then sigTouched t w (opD w ≠ 0) else []

/-- The Bobbin, loop and output channel that a word names. -/
def bobNamed (t : TaskDecl) (w : Word) : Option Nat := if opMajor w = 0x25 then t.bobs[field w 3 0]? else none
def loopNamed (t : TaskDecl) (w : Word) : Option (Nat × Nat) :=
  if 0x26 ≤ opMajor w && opMajor w ≤ 0x28 then t.loops[field w 5 0]? else none
def outNamed (t : TaskDecl) (w : Word) : Option Chan :=
  if 0x29 ≤ opMajor w && opMajor w ≤ 0x2B then t.outs[field w 5 0]? else none

/-- Whether a word's constant handle lies inside the task's lists (R112). -/
def handleOk (t : TaskDecl) (w : Word) : Bool :=
  match opMajor w with
  | 0x21 | 0x22 | 0x23 => decide (opA w ≠ 0) || decide (opFn w < t.sigs.length)
  | 0x24 => decide (opD w ≠ 0) || decide (opFn w < t.sigs.length)
  | 0x25 => decide (field w 3 0 < t.bobs.length)
  | 0x26 | 0x27 | 0x28 => decide (field w 5 0 < t.loops.length)
  | 0x29 | 0x2A | 0x2B => decide (field w 5 0 < t.outs.length)
  | _ => true

/-- Whether a word suits the declared producer, consumer or kind of what it names (R132, R136). -/
def roleOk (c : Cop) (n : Nat) (t : TaskDecl) (w : Word) : Bool :=
  let bobOk := match (bobNamed t w).bind fun b => c.bobbins.find? fun d => decide (d.number = b) with
    | some d =>
      if field w 7 6 = 0 then decide (d.producer = 1) && decide (d.producerTask = n)
      else decide (d.consumer = 1) && decide (d.consumerTask = n)
    | none => true
  let outOk := match (outNamed t w).bind (outDecl c) with
    | some d => match d.chan, opMajor w with
      | .lsw _, 0x29 => !d.pwm
      | .lsw _, 0x2A => d.pwm
      | .sol _, 0x2B => true
      | _, _ => false
    | none => true
  bobOk && outOk

/-- The loops a task has step rights to (R134). -/
def stepsOf (c : Cop) (t : TaskDecl) : List (Nat × Nat) :=
  ((pointsOf c t).filterMap fun x => if opMajor x.word = 0x27 then loopNamed t x.word else none).eraseDups

/-- The output channels a task commands (R136). -/
def commandsOf (c : Cop) (t : TaskDecl) : List Chan :=
  ((pointsOf c t).filterMap fun x => outNamed t x.word).eraseDups

/-- The loops that one step of a loop runs: itself, the inner loop of a cascade, the members of a group (R154, R156). -/
def ranWith (c : Cop) (d : LoopDecl) : List LoopDecl :=
  match d.nest with
  | .outer => d :: (loopDecl c d.unit d.link).toList
  | .member => c.loops.filter fun e =>
      decide (e.unit = d.unit) && decide (e.nest = .member) && decide (e.link = d.loop || e.loop = d.loop)
  | _ => [d]

/-- The signals that a loop's unit reads by itself (R152, R154, R156, R157). -/
def unitReads (c : Cop) (d : LoopDecl) : List Nat :=
  let own := match d.nest with
    | .inner => [d.pvSig, d.ffSig]
    | .member => if d.member = 0 then [] else [d.spSig, d.pvSig, d.ffSig]
    | _ => []
  own.filterMap (fun u => u.map (·.signal)) ++ ((tableOf c d).map (·.angle.signal)).toList

/-- The signals a task reads, those of the units it steps included (R84, R157). -/
def readsOf (c : Cop) (t : TaskDecl) : List Nat :=
  ((pointsOf c t).flatMap fun x => sigReads t x.word)
    ++ (stepsOf c t).flatMap fun k => ((loopDecl c k.1 k.2).toList.flatMap (ranWith c)).flatMap (unitReads c)

/-- The signals a task writes. -/
def writesOf (c : Cop) (t : TaskDecl) : List Nat := (pointsOf c t).flatMap fun x => sigWrites t x.word

/-! ### Barriers (R138) -/

/-- How many times paths from each word execute `bar n`: least and most over the paths that reach end, and over those that leave
the body the word lies in. -/
abbrev BarRange := Option (Nat × Nat)

/-- Paths taken together, and paths with `k` more executions. -/
def BarRange.join : BarRange → BarRange → BarRange
  | some a, some b => some (min a.1 b.1, max a.2 b.2)
  | none, b => b
  | a, none => a
def BarRange.plus (least most : Nat) (r : BarRange) : BarRange := r.map fun a => (a.1 + least, a.2 + most)

/-- The ranges of every word of a list, to end and out of the body. -/
def barPaths (n : Nat) : List Word → List (BarRange × BarRange)
  | [] => []
  | w :: r =>
    let rs := barPaths n r
    let at_ (k : Nat) : BarRange × BarRange := (rs[k]?).getD (none, none)
    let fall := at_ 0
    let both (x y : BarRange × BarRange) : BarRange × BarRange := (BarRange.join x.1 y.1, BarRange.join x.2 y.2)
    let orFall (x : BarRange × BarRange) := if opGuard w = 0 then x else both x fall
    let here : BarRange × BarRange := match opMajor w with
      | 0x1B => orFall (at_ (field w 12 0 - 1))
      | 0x1C => match (if isLoop w then matchNext r 0 else none) with
        | some k => let after := at_ k; (BarRange.join after.1 fall.1, after.2)
        | none => fall
      | 0x1D => match opFn w with
        | 0x00 => (none, some (0, 0))
        | 0x01 => orFall (none, some (0, 0))
        | _ => orFall (some (0, 0), none)
      | 0x1E => orFall (none, none)
      | 0x1F =>
        if field w 3 0 = n then
          let least := if opGuard w = 0 then 1 else 0
          (BarRange.plus least 1 fall.1, BarRange.plus least 1 fall.2)
        else fall
      | _ => fall
    here :: rs

/-- Whether every path of a task to end executes `bar n` exactly once. -/
def barOnce (c : Cop) (t : TaskDecl) (n : Nat) : Bool :=
  decide (((barPaths n ((codeOf c t.spindle).drop t.entry)).head?.map (·.1)).getD none = some (1, 1))

/-! ### Worst-case execution time (R90, R91) -/

/-- The charge of a law.step: 48 + 100 × (s − 1) (R91). -/
def stepCharge (c : Cop) (unit : Nat) : Nat := 48 + 100 * ((bound c unit).length - 1)

/-- The charge of a word in a task. -/
def chargeIn (c : Cop) (t : TaskDecl) (w : Word) : Nat :=
  if opMajor w = 0x27 then ((loopNamed t w).map fun k => stepCharge c k.1).getD 48 else chargeOf w

/-- The largest charge from each word to the end of its loop body or of the activation: a loop costs its body's worst path times
its greatest count, plus its own charge once per iteration, or once for none (R91, R125). -/
def pathCosts (c : Cop) (t : TaskDecl) : List Word → List Nat
  | [] => []
  | w :: r =>
    let cs := pathCosts c t r
    let at_ (k : Nat) : Nat := (cs[k]?).getD 0
    let rest := if opGuard w = 0 then 0 else at_ 0
    let own := chargeIn c t w
    let here := match opMajor w with
      | 0x1B => own + max (at_ (field w 12 0 - 1)) rest
      | 0x1C => match (if isLoop w then matchNext r 0 else none) with
        | some k => max own (field w 12 0 * (at_ 0 + own)) + at_ k
        | none => own
      | 0x1D => match opFn w with
        | 0x00 => 0
        | _ => own + rest
      | 0x1E => own + rest
      | _ => own + at_ 0
    here :: cs

/-- C of a task: its worst path, dispatch and the clearing of its scratch region (R78, R90, R91). -/
def worstCase (c : Cop) (t : TaskDecl) : Nat :=
  40 + (t.scratchSize + 63) / 64 + ((pathCosts c t ((codeOf c t.spindle).drop t.entry)).head?).getD 0

/-! ### Dependencies at equal instants (R84) -/

/-- The tasks that write a signal. -/
def writersOf (ws : List (List Nat)) (sig : Nat) : List Nat :=
  (List.range ws.length).filter fun n => ((ws[n]?).getD []).contains sig

/-- For each task, the other tasks that write what it reads. -/
def depsOf (c : Cop) : List (List Nat) :=
  let ws := c.tasks.map (writesOf c)
  (List.range c.tasks.length).map fun n =>
    (((c.tasks[n]?).toList.flatMap (readsOf c)).flatMap (writersOf ws)).eraseDups.filter fun m => decide (m ≠ n)

/-- The instants at which a set of tasks is released together: offset and period in ticks, none where they never meet. An
ARRIVAL task may be released at any instant (R80, R81). -/
def meet (a : Nat × Nat) (t : TaskDecl) : Option (Nat × Nat) :=
  if t.arrival || t.period = 0 then some a
  else
    let m := Nat.lcm a.2 t.period
    ((List.range t.period).find? fun k => decide ((a.1 + k * a.2) % t.period = t.offset)).map fun k =>
      ((a.1 + k * a.2) % m, m)

/-- Whether a chain of dependencies that started at task `start` and stands at task `n` returns to its start at one instant. -/
def closes (tasks : List TaskDecl) (deps : List (List Nat)) (start : Nat) : Nat → Nat → Nat × Nat → List Nat → Bool
  | 0, _, _, _ => false
  | fuel + 1, n, when_, seen =>
    ((deps[n]?).getD []).any fun m =>
      decide (m = start) ||
        (!seen.contains m && (match (tasks[m]?).bind (meet when_) with
          | some w => closes tasks deps start fuel m w (m :: seen)
          | none => false))

/-- The first task that lies on a cycle of dependencies at equal instants (R84). -/
def onCycle (c : Cop) : Option Nat :=
  let deps := depsOf c
  (List.range c.tasks.length).find? fun n =>
    match (c.tasks[n]?).bind (meet (0, 1)) with
    | some w => closes c.tasks deps n c.tasks.length n w [n]
    | none => false

/-! ### Response bounds (R92) -/

/-- Charged cycles of a task's PERIOD or SPACING at a rate in 0.1 MHz, and from ns to cycles, rounded up. -/
def grainCycles (rate : Nat) (t : TaskDecl) : Nat :=
  max 1 (if t.arrival then t.spacingUs * rate / 10 else t.period * 10 * rate)
def cyclesUp (ns : Nat) : Nat := (ns + 1) / 2

/-- The least distance from an instant of a reader back to an instant of a writer, ns (R80, R84). -/
def gridBack (r w : TaskDecl) : Nat :=
  if r.arrival || w.arrival then 0
  else
    let g := Nat.gcd r.period w.period
    (r.offset + g * (w.offset + 1) - w.offset) % g * 100000

/-- s as R92 iterates it from its start value, none where the bound passes the limit. -/
def delayFix (base limit : Nat) (higher : List (Nat × Nat)) : Nat → Nat → Option Nat
  | 0, _ => none
  | fuel + 1, s =>
    if limit < s then none
    else
      let s' := base + (higher.map fun h => (s / h.1 + 1) * h.2).sum
      if s' = s then some s else delayFix base limit higher fuel s'

/-- What the joint computation needs of each task: its declaration, C, and the writers it waits on. -/
structure TaskFacts where
  decl : TaskDecl
  c : Nat
  deps : List Nat
  deriving DecidableEq, Repr

/-- The facts of a cop's tasks, in cop order. -/
def factsOf (c : Cop) : List TaskFacts :=
  (List.zip c.tasks (depsOf c)).map fun e => { decl := e.1, c := worstCase c e.1, deps := e.2 }

/-- s of one task for a wait of `w` cycles, none where its bound passes DEADLINE (R92). -/
def startDelay (fs : List TaskFacts) (f : TaskFacts) (w : Nat) : Option Nat :=
  let mates := fs.filter fun g => decide (g.decl.spindle = f.decl.spindle)
  let b := ((mates.filter fun g => decide (f.decl.priority < g.decl.priority)).map (·.c)).foldl max 0
  let higher := (mates.filter fun g => decide (g.decl.priority < f.decl.priority)).map fun g =>
    (grainCycles 5000 g.decl, g.c)
  let room := (f.decl.deadlineUs - f.decl.settleUs) * 500
  if room < f.c then none else delayFix (b + w) (room - f.c) higher (room + 2) (b + w)

/-- A response bound in ns: SETTLE + (s + C) × 2 ns (R92). -/
def boundNs (f : TaskFacts) (s : Nat) : Nat := f.decl.settleUs * 1000 + (s + f.c) * 2

/-- The longest R84 wait of a task in ns, from the writers' bounds: past the reader's own start instant (R92). -/
def waitOn (fs : List TaskFacts) (bounds : List Nat) (f : TaskFacts) : Nat :=
  (f.deps.map fun m => match fs[m]?, bounds[m]? with
    | some g, some r => r - gridBack f.decl g.decl - f.decl.settleUs * 1000
    | _, _ => 0).foldl max 0

/-- The latest arrival of the other participants of a task's barrier groups, in ns past the task's start instant, each arriving
at its own worst case: its own bound without its barrier wait (R92). -/
def waitAtBarrier (c : Cop) (fs : List TaskFacts) (arrivals : List Nat) (n : Nat) (f : TaskFacts) : Nat :=
  let others := (c.barriers.filter fun g => g.tasks.contains n).flatMap fun g => g.tasks.filter fun m => decide (m ≠ n)
  (others.map fun m => if m < fs.length then (arrivals[m]?).getD 0 - f.decl.settleUs * 1000 else 0).foldl max 0

/-- One round of R92: all bounds from the current ones, or the first task whose bound passes its DEADLINE. -/
def boundRound (c : Cop) (fs : List TaskFacts) (bounds : List Nat) : List Nat ⊕ Nat :=
  let arrivals := fs.map fun f => match startDelay fs f (cyclesUp (waitOn fs bounds f)) with
    | some s => boundNs f s
    | none => f.decl.deadlineUs * 1000
  let new := (List.range fs.length).map fun n => (fs[n]?).bind fun f =>
    (startDelay fs f (cyclesUp (waitOn fs bounds f + waitAtBarrier c fs arrivals n f))).map (boundNs f)
  match (List.range new.length).find? fun n => ((new[n]?).getD none).isNone with
  | some n => .inr n
  | none => .inl (new.map (·.getD 0))

/-- The rounds of R92 until no bound changes: none where all bounds hold, else the task that passes its DEADLINE. -/
def boundsSettle (c : Cop) (fs : List TaskFacts) : Nat → List Nat → Option Nat
  | 0, _ => some 0
  | fuel + 1, bounds =>
    match boundRound c fs bounds with
    | .inr n => some n
    | .inl new => if new = bounds then none else boundsSettle c fs fuel new

/-- The task whose response bound passes its DEADLINE (R92). -/
def deadlineFails (c : Cop) : Option Nat :=
  let fs := factsOf c
  boundsSettle c fs ((fs.map fun f => f.decl.deadlineUs * 500).sum + 2) (fs.map fun _ => 0)

/-! ### Determinism (R89, R93, R139) -/

/-- The busy period of a Spindle as it grows, and whether it stays below a limit (R93). -/
def busyBelow (limit : Nat) (l : List (Nat × Nat)) : Nat → Nat → Bool
  | 0, _ => false
  | fuel + 1, b =>
    if limit ≤ b then false
    else
      let b' := (l.map fun e => ((b + e.1 - 1) / e.1) * e.2).sum
      decide (b' = b) || busyBelow limit l fuel b'

/-- The fallback proof of a Spindle: its longest busy period at 39.6 MHz is shorter than 15 PERIODs, or SPACINGs, of each of its
tasks (R93, R317). -/
def fallbackOk (c : Cop) (sp : Nat) : Bool :=
  let l := (c.tasks.filter fun t => decide (t.spindle = sp)).map fun t => (grainCycles 396 t, worstCase c t)
  match (l.map (·.1)).min? with
  | none => true
  | some p => busyBelow (15 * p) l (15 * p + 1) (l.map (·.2)).sum

/-- What flows have reached where control stands: registers, predicates, words of the task's memory (by address / 4), or all of it where a
store's address is not known; and the registers whose value is known, at first all zero (R73). -/
structure Flow where
  regs : List Nat := []
  preds : List Nat := []
  words : List Nat := []
  mem : Bool := false
  known : List (Nat × Nat) := []
  deriving DecidableEq, Repr

/-- The flows at ENTRY. -/
def Flow.start : Flow := { known := (List.range 32).map fun n => (n, 0) }

/-- Two lists taken together. -/
def union (a b : List Nat) : List Nat := a ++ b.filter fun x => !a.contains x

/-- Flows of two paths taken together. -/
def Flow.join (a b : Flow) : Flow :=
  { regs := union a.regs b.regs, preds := union a.preds b.preds, words := union a.words b.words, mem := a.mem || b.mem
    known := a.known.filter fun e => b.known.contains e }

/-- A register's value where it is known; g0 is zero. -/
def Flow.value (f : Flow) (r : Nat) : Option Nat :=
  if r = 0 then some 0 else (f.known.find? fun e => decide (e.1 = r)).map (·.2)

/-- The sign-extended immediate of a word, modulo 2^32. -/
def immOf (w : Word) : Nat := ((w.truncate 13 : BitVec 13).signExtend 32).toNat

/-- The address of a load or store where it is known (R128). -/
def Flow.address (f : Flow) (w : Word) : Option Nat := (f.value (opA w)).map fun a => (a + immOf w) % 2 ^ 32

/-- The words of the payload of a push or pop where they are known (R131, R132). -/
def Flow.payload (f : Flow) (w : Word) : Option (List Nat) :=
  match f.value (opA w), f.value (opB w) with
  | some a, some n => if n ≤ 1408 then some ((List.range (n + 3)).map fun k => (a + k) / 4).eraseDups else none
  | _, _ => none

/-- Whether a value that flows lies in some of these words; in any word where they are not known. -/
def Flow.tainted (f : Flow) : Option (List Nat) → Bool
  | some l => f.mem || l.any fun k => f.words.contains k
  | none => f.mem || !f.words.isEmpty

/-- Whether a value flows into a word: through its guard, its sources, or the memory it loads. -/
def flowsIn (f : Flow) (w : Word) : Bool :=
  let guard := f.preds.contains (opGuard w)
  let a := f.regs.contains (opA w)
  let b := f.regs.contains (opB w)
  guard || match opMajor w with
    | 0x01 | 0x11 | 0x13 | 0x14 | 0x19 => a || b
    | 0x12 => a || b || (opFn w = 0x05 && f.regs.contains (opD w))
    | 0x1A => f.preds.contains (opA w) || f.preds.contains (opB w)
    | 0x02 | 0x03 | 0x04 | 0x05 | 0x06 | 0x15 | 0x16 | 0x17 | 0x18 | 0x21 | 0x22 | 0x23 => a
    | 0x09 | 0x0A | 0x0B | 0x0C | 0x0D => a || f.tainted ((f.address w).map fun k => [k / 4])
    | 0x25 => field w 7 6 ≠ 2 && (a || b)
    | _ => false

/-- A register written, by a value that flows or by another one, under a guard or not; g0 discards it. -/
def Flow.reg (f : Flow) (n : Nat) (flows guarded : Bool) (v : Option Nat) : Flow :=
  if n = 0 then f
  else
    let rest := f.known.filter fun e => decide (e.1 ≠ n)
    let same := decide (v.isSome ∧ f.value n = v)
    { f with
      regs := if flows then union f.regs [n] else if guarded then f.regs else f.regs.filter fun r => decide (r ≠ n)
      known := if same then f.known else if guarded then rest else match v with
        | some k => (n, k) :: rest
        | none => rest }

/-- The same for a predicate; p0 discards it. -/
def Flow.pred (f : Flow) (n : Nat) (flows guarded : Bool) : Flow :=
  if n = 0 then f
  else { f with preds := if flows then union f.preds [n] else if guarded then f.preds else f.preds.filter fun r => decide (r ≠ n) }

/-- Memory written by a value that flows. A word once reached stays so: every later read of it is (R89). -/
def Flow.store (f : Flow) : Option (List Nat) → Flow
  | some l => { f with words := union f.words l }
  | none => { f with mem := true }

/-- The value that a word leaves in its register where it is known: movi and addi of known values (R117). -/
def Flow.result (f : Flow) (w : Word) : Option Nat :=
  match opMajor w with
  | 0x07 => some (immOf w)
  | 0x02 => (f.value (opA w)).map fun a => (a + immOf w) % 2 ^ 32
  | _ => none

/-- A flow through one word; `seed` says which words start it. -/
def flowWord (seed : Word → Bool) (f : Flow) (w : Word) : Flow :=
  let m := opMajor w
  let g := decide (opGuard w ≠ 0)
  let hit := seed w || flowsIn f w
  if 0x0E ≤ m && m ≤ 0x10 then
    (if f.preds.contains (opGuard w) || f.regs.contains (opA w) || f.regs.contains (opD w) then
      f.store ((f.address w).map fun k => [k / 4]) else f)
  else if 0x01 ≤ m && m ≤ 0x13 then f.reg (opD w) hit g (f.result w)
  else if 0x14 ≤ m && m ≤ 0x1A then f.pred (opD w) hit g
  else if m = 0x20 || (0x21 ≤ m && m ≤ 0x23) || m = 0x28 then f.reg (opD w) hit g none
  else if m = 0x25 then
    (if field w 7 6 = 0 then f.pred (opD w) hit g
     else if field w 7 6 = 1 then (if hit then (f.store (f.payload w)) else f).reg (opD w) hit g none
     else f.reg (opD w) hit g none)
  else f

/-- Where control goes from a point of a task, the way back to a loop's body included (R124 to R127). -/
def onward (code : List Word) (x : Point) : List Nat :=
  let stop := if isLoop x.word then (loopEnd code (BitVec.ofNat 14 x.pc)).map (·.toNat) else none
  let back := if isNext x.word then (x.loops.head?.map fun l => l.1 + 1).toList else []
  successors x.pc x.word stop x.loops ++ back

/-- The flows that reach each point, by its index; none before any path has reached it. -/
abbrev Flows := List (Nat × Flow)

/-- Flows arriving at a point, joined with those that have. -/
def arrive (m : Flows) (pc : Nat) (f : Flow) : Flows :=
  match m.find? fun e => decide (e.1 = pc) with
  | some _ => m.map fun e => if e.1 = pc then (pc, e.2.join f) else e
  | none => (pc, f) :: m

/-- One pass over a task's points: the flow behind each reaches where control goes. -/
def flowPass (seed : Word → Bool) (code : List Word) (ps : List Point) (m : Flows) : Flows :=
  ps.foldl (fun m x => match m.find? fun e => decide (e.1 = x.pc) with
    | some e => (onward code x).foldl (fun m k => arrive m k (flowWord seed e.2 x.word)) m
    | none => m) m

/-- Passes until nothing more is reached. -/
def flowThrough (seed : Word → Bool) (code : List Word) (ps : List Point) : Nat → Flows → Flows
  | 0, m => m
  | n + 1, m =>
    let m' := flowPass seed code ps m
    if m' = m then m else flowThrough seed code ps n m'

/-- What the values that `seed` starts reach at each point of a task. -/
def flowOf (c : Cop) (t : TaskDecl) (seed : Word → Bool) : Flows :=
  let ps := pointsOf c t
  flowThrough seed (codeOf c t.spindle) ps (64 * (ps.length + 1)) [(t.entry, Flow.start)]

/-- The flows at one point. -/
def flowAt (m : Flows) (x : Point) : Flow := ((m.find? fun e => decide (e.1 = x.pc)).map (·.2)).getD {}

/-- Results that depend on timing: time.now, the acceptance of a push, and a pop or peek of any Bobbin but the releasing one (R139). -/
def timingSeed (t : TaskDecl) (w : Word) : Bool :=
  match opMajor w with
  | 0x20 => bit w 1
  | 0x25 => decide (field w 7 6 = 0) || !(t.arrival && decide (bobNamed t w = some t.bobbin))
  | _ => false

/-- Whether words of memory, or any where they are not known, meet a task's keep region. -/
def meetsKeep (t : TaskDecl) : Option (List Nat) → Bool
  | some l => l.any fun k => decide (t.keepBase < 4 * k + 4) && decide (4 * k < t.keepBase + t.keepSize)
  | none => decide (0 < t.keepSize)

/-- Whether only the host reads what a push sends: its Bobbin's consumer is a Hank stream (R139). -/
def hostOnly (c : Cop) (t : TaskDecl) (w : Word) : Bool :=
  match (bobNamed t w).bind fun b => c.bobbins.find? fun d => decide (d.number = b) with
  | some d => decide (d.consumer = 3)
  | none => false

/-- Whether a flow reaches a value path in a word: sig.wr, out, law, bob.push but for a trace that only the host reads, a transfer of
control or the keep region (R89, R139). -/
def valuePath (c : Cop) (t : TaskDecl) (f : Flow) (w : Word) : Bool :=
  let guard := f.preds.contains (opGuard w)
  let a := f.regs.contains (opA w)
  match opMajor w with
  | 0x0E | 0x0F | 0x10 => (guard || a || f.regs.contains (opD w)) && meetsKeep t ((f.address w).map fun k => [k / 4])
  | 0x1B | 0x1D | 0x1E | 0x1F | 0x27 => guard
  | 0x1C => guard || a
  | 0x24 => guard || a || f.regs.contains (opD w)
  | 0x25 => if field w 7 6 = 0 then !hostOnly c t w && (guard || a || f.regs.contains (opB w) || f.tainted (f.payload w))
            else field w 7 6 = 1 && (guard || a || f.regs.contains (opB w) || timingSeed t w) && meetsKeep t (f.payload w)
  | 0x26 | 0x29 | 0x2A | 0x2B => guard || a
  | _ => false

/-- Whether a task keeps every timing-dependent result off its value paths (R89, R139). -/
def taskPure (c : Cop) (t : TaskDecl) : Bool :=
  let m := flowOf c t (timingSeed t)
  !((pointsOf c t).any fun x => valuePath c t (flowAt m x) x.word)

/-- Whether a task commands a channel by an out instruction that matches a loop's READBACK, with a value that law.out selector u
of the loop reaches (R160). -/
def tracesU (c : Cop) (t : TaskDecl) (d : LoopDecl) (ch : Chan) : Bool :=
  let m := flowOf c t fun w =>
    decide (opMajor w = 0x28) && decide (field w 9 6 = 0) && decide (loopNamed t w = some (d.unit, d.loop))
  (pointsOf c t).any fun x =>
    decide (outNamed t x.word = some ch) && (flowAt m x).regs.contains (opA x.word) &&
      (match d.readback with
       | .pwmDuty => decide (opMajor x.word = 0x2A)
       | .solCurrent | .solPair => decide (opMajor x.word = 0x2B) && decide (field x.word 7 6 = 0)
       | .none => true)

end Sys2Proof.Machine
end

