-- ==== Sys2Proof/Machine/Trial.lean ====
section
/-! DEFINITION. Health of a set on trial, the revert, and what UPD_CTRL commands (R389, R390, R393). -/
namespace Sys2Proof.Machine

/-- Whether the standby can take back with the set that ran before: COLD with an image of the other slot (R390). -/
def standbyOld (s : State) : Bool :=
  match s.lanes.holder with
  | some l => standbyCold s && decide ((lane s l.other).slot ≠ s.upd.slot)
  | none => false

/-- Failed health (R389, R390): REVERTED is written; a COLD standby with the old set takes over by transfer, its boundary still to
come, with panel updates held; else the module warm-resets into the old slot. -/
def failHealth (s : State) : State :=
  let s := setStep .reverted s
  if standbyOld s then
    { s with
      upd := { s.upd with revertHand := true, handReady := 2, healthOk := false, mode := 2 }
      panel := { s.panel with hold := true } }
  else warmReset 1 .warmReset (oldSetBack s)

/-- UPD_CTRL.CONFIRM in TRIAL (R389, R393). -/
def confirmTrial (s : State) : State :=
  if s.upd.step = .trial then { s with upd := { s.upd with confirmed := true } } else s

/-- UPD_CTRL.REJECT in TRIAL: failed health (R389, R393). -/
def rejectTrial (s : State) : State := if s.upd.step = .trial && !s.upd.healthOk then failHealth s else s

/-- Whether every chunk that a manifest lists is held and matches its digest (R390). -/
def chunksVerify (m : Manifest) (s : State) : Bool :=
  match relayOf s m.id with
  | some r => (List.range m.chunks).all fun k => match SMap.find r.chunks k with
    | some b => m.lists k b
    | none => false
  | none => false

/-- UPD_CTRL.RESTAGE of a reverted set: with every chunk verified again it is STAGED; else it stays as it is and the rejected chunk
counts (R390, R393). -/
def restageSet (s : State) : State :=
  match s.upd.step, s.upd.man with
  | .reverted, some m =>
    if !s.upd.revertedBlocked then s
    else if chunksVerify m s then setStep .staged { s with upd := { s.upd with revertedBlocked := false } }
    else bump 0x001C0020 0 s
  | _, _ => s

/-- A write of UPD_CTRL, in the order CONFIRM, REJECT, RESTAGE. -/
def writeUpdCtrl (v : Word) (s : State) : State :=
  let s := if bit v 0 then confirmTrial s else s
  let s := if bit v 1 then rejectTrial s else s
  if bit v 2 then restageSet s else s

end Sys2Proof.Machine
end

