-- ==== Sys2Proof/Machine/RegMap.lean ====
section
/-! DEFINITION. The register map: access classes of every register's bits, and what a register reads (R58, R61 to R71, and the register
tables of every block). -/
namespace Sys2Proof.Machine

/-- Blocks that address the active lane: Spindle control, Twist, Ply, CAN, position engine, Bobbins, Hank (R61). -/
def perLaneBlock (blk : Nat) : Bool := [0x08, 0x09, 0x0A, 0x10, 0x16, 0x1D, 0x1E].contains blk

/-- Registers of a block: offset, RW and SET bits, and the bits of RO, W1C and WO fields (R356). -/
def accessRows (blk : Nat) : List (Nat × Word × Word) :=
  match blk with
  | 0x0 => [(0x0, 0x0, 0xFFFFFF0F), (0x4, 0x0, 0xFFFFFFFF), (0x8, 0x0, 0xFFFFFFFF), (0x10, 0x0, 0xFFFFFFFF),
      (0x14, 0x0, 0xFFFFFFFF), (0x18, 0x0, 0xFFFFFFFF), (0x1C, 0x0, 0x7)]
  | 0x1 => [(0x0, 0x0, 0xFFFFFF1F), (0x4, 0x70007, 0x0), (0x8, 0x1F, 0x0), (0xC, 0x0, 0x1FF), (0x10, 0x0, 0xFFFFFFFF),
      (0x14, 0x0, 0xFFFFFFFF), (0x18, 0x0, 0xFFFFFF7F), (0x20, 0x0, 0xFFFFFFFF), (0x24, 0x0, 0xFFFFFFFF),
      (0x40, 0x0, 0xFFFFFFC1), (0x44, 0x0, 0xFFFFFFFF), (0x48, 0x0, 0xFFFFFFFF), (0x4C, 0x0, 0xFFFFFFFF),
      (0x50, 0x0, 0xFFFFFFFF), (0x60, 0x0, 0xF0F), (0x64, 0x0, 0xFFFFFFFF)]
  | 0x2 => [(0x0, 0x0, 0xFFFFFF), (0x4, 0x3FF03FF, 0x0), (0x8, 0x0, 0xFFFFFFFF), (0xC, 0x0, 0xFFFFFFFF)]
  | 0x3 => [(0x0, 0x0, 0xFFFFFFFF), (0x4, 0x0, 0xFFFFFFFF), (0x8, 0x0, 0x7F), (0xC, 0x0, 0xFFFFFFFF),
      (0x10, 0x0, 0xFFFFFFFF), (0x14, 0x0, 0xFFFFFFFF), (0x18, 0x0, 0xFFFF03FF), (0x1C, 0x7FFFF03, 0x0),
      (0x20, 0x0, 0xFFFFFFFF), (0x24, 0xFFFF01, 0x0)]
  | 0x4 => [(0x0, 0x0, 0xFFFFFFFF), (0x4, 0x0, 0xFFFFFFFF), (0x8, 0x0, 0xFFFFFFFF), (0xC, 0x0, 0xFFFFFFFF),
      (0x10, 0x0, 0x1FFF), (0x14, 0x0, 0x3FFFFFFF), (0x20, 0xFFFFFFFF, 0x0), (0x24, 0xFFFFFFFF, 0x0),
      (0x28, 0xFFFFFFFF, 0x0), (0x2C, 0xFFFFFFFF, 0x0), (0x30, 0x7FF, 0x0), (0x34, 0xFFFFFFFF, 0x0), (0x38, 0x3FFF, 0x0),
      (0x40, 0x0, 0xFFFFFFFF), (0x44, 0x0, 0xFFFFFFFF), (0x48, 0x0, 0xFFFFFFFF), (0x4C, 0x0, 0xFFFF),
      (0x50, 0x0, 0xFFFFFFFF), (0x54, 0x0, 0xFFFFFFFF), (0x58, 0x0, 0xFFFFFFFF), (0x5C, 0x0, 0xFFFFFFFF)]
  | 0x5 => [(0x0, 0x3F, 0x0), (0x4, 0x0, 0xF00003FF), (0x8, 0x0, 0xFFFFFFFF), (0xC, 0x0, 0x7FF), (0x10, 0x3F, 0x0),
      (0x14, 0x0, 0xFFFFFFFF), (0x18, 0x0, 0x8000003F), (0x20, 0xFFFF, 0x0), (0x24, 0x1, 0x2), (0x28, 0x0, 0xFFFFFFFF),
      (0x2C, 0x0, 0xFFFFFFFF)]
  | 0x6 => [(0x0, 0x1F, 0x0), (0x4, 0x0, 0xFF003FFF), (0x8, 0x0, 0xFFFFFFFF), (0xC, 0x0, 0xFFFFFFFF), (0x10, 0x0, 0xFFFF),
      (0x14, 0x0, 0x1FF), (0x18, 0x0, 0xFFFFFFFF), (0x1C, 0x0, 0xFFFFFFFF), (0x20, 0x0, 0x8000001F),
      (0x24, 0x0, 0xFFFFFFFF), (0x28, 0xFFFFFFFF, 0x0), (0x2C, 0x0, 0xFFFFFFFF)]
  | 0x8 => [(0x0, 0x3FF, 0x0), (0x4, 0x0, 0xFC0F0007), (0x8, 0x0, 0xFFFFFFFF), (0x10, 0x0, 0xFFFFFFFF),
      (0x14, 0x0, 0xFFFFFFFF), (0x18, 0x0, 0xFFFFFFFF), (0x1C, 0x0, 0xF0FFFFFF), (0x20, 0x0, 0xFFFFFFFF),
      (0x24, 0x0, 0xFFFFFFFF)]
  | 0x9 => [(0x0, 0x1FF, 0x0), (0x4, 0x0, 0xFFFF03F1), (0x8, 0x0, 0xFFFFFFFF), (0x10, 0x0, 0xFFFFFFFF),
      (0x14, 0x0, 0xFFFFFFFF), (0x18, 0x0, 0x8000007F), (0x20, 0x0, 0xFF00FF), (0x24, 0x0, 0xFF00FF), (0x28, 0x0, 0xFF00FF),
      (0x2C, 0x0, 0xFF00FF), (0x30, 0x0, 0xFF00FF), (0x34, 0x0, 0xFF00FF), (0x38, 0x0, 0xFF00FF), (0x3C, 0x0, 0xFF00FF)]
  | 0xA => [(0x0, 0x3F, 0x0), (0x4, 0x0, 0xF001FFFF), (0x8, 0x0, 0x80000F1F), (0xC, 0x0, 0xFFFFFFFF),
      (0x10, 0x0, 0xFFFFFFFF), (0x14, 0x0, 0xFFFFFFFF), (0x18, 0x0, 0xFFFFFFFF), (0x1C, 0x0, 0xFFFFFFFF),
      (0x20, 0x0, 0xFFFFFFFF), (0x24, 0x0, 0xFFFFFFFF), (0x28, 0x0, 0x7FFF), (0x2C, 0x0, 0xC000003F)]
  | 0xB => [(0x0, 0x1F, 0x0), (0x4, 0x0, 0xFFFFFFF1), (0x8, 0x0, 0xF), (0xC, 0x0, 0xFFFFFFFF), (0x10, 0x0, 0xFFFFFFFF),
      (0x14, 0x0, 0xFFFFFFFF), (0x18, 0x0, 0xFFFFFFFF), (0x1C, 0x8000001F, 0x0)]
  | 0xC => [(0x0, 0x7F, 0x0), (0x4, 0x0, 0xFFFF9FF7), (0x8, 0x0, 0xFFFF), (0xC, 0x0, 0x1F), (0x10, 0x0, 0xFFFFFFFF),
      (0x14, 0x0, 0xFFFFFFFF)]
  | 0xD => [(0x0, 0xF, 0x0), (0x4, 0x0, 0x77), (0x8, 0x0, 0xFFFFFFFF), (0xC, 0x0, 0xFFFFFFFF), (0x10, 0x0, 0x3F),
      (0x14, 0x0, 0xFFFFFFFF), (0x40, 0x0, 0xFFFFFFFF), (0x50, 0x0, 0xFFFF0003)]
  | 0xE => [(0x0, 0xF, 0x0), (0x4, 0x0, 0x73FF), (0x8, 0x0, 0xFFFFFFFF), (0xC, 0x0, 0xFFFFFFFF), (0x10, 0x0, 0xFFFFFFFF),
      (0x14, 0x0, 0xFFFFFFFF)]
  | 0x10 => [(0x0, 0x0, 0xFFFF870F), (0x4, 0x0, 0xFFFFFFE0), (0x8, 0x0, 0xFFFFFFC0), (0xC, 0x0, 0xFFFF000F),
      (0x10, 0x1, 0x2), (0x14, 0x0, 0xFFFFFFFF), (0x18, 0x0, 0xFFFFFFFF), (0x1C, 0x0, 0xFFFFFFFF), (0x20, 0x0, 0xFFFFFFFF),
      (0x24, 0x0, 0xFFFFFFFF), (0x28, 0x0, 0xFFFFFFFF), (0x2C, 0x0, 0xFFFFFFFF), (0x30, 0x0, 0x1F)]
  | 0x12 => [(0x0, 0xF, 0x0), (0x4, 0x0, 0x73F), (0x8, 0x0, 0xFFFFFFFF), (0xC, 0x0, 0xFFFFFFFF), (0x10, 0x0, 0xFFFFFFFF),
      (0x14, 0x0, 0xFFFFFFFF), (0x18, 0x0, 0xFFFFFFFF), (0x1C, 0x0, 0xFFFFFFFF), (0x20, 0x0, 0x7F003F)]
  | 0x14 => [(0x0, 0xFFFFFDFF, 0x0), (0x4, 0x300, 0xF), (0x8, 0x0, 0xFEFFFF), (0x10, 0x0, 0xFFFFFFFF),
      (0x14, 0x0, 0xFFFFFFFF), (0x18, 0x0, 0xFFFFFFFF)]
  | 0x16 => [(0x0, 0x0, 0xFF01FF03), (0x4, 0xFFFF1FFF, 0x0), (0x8, 0x0, 0xFFFFFFFF), (0xC, 0x0, 0xFFFFFFFF),
      (0x10, 0x0, 0xFFFFFFFF), (0x14, 0x0, 0xFFFFFFFF)]
  | 0x18 => [(0x0, 0x0, 0x3FFFF), (0x4, 0x0, 0x1), (0x8, 0x3FFF, 0x0), (0xC, 0x3FFF, 0x0), (0x10, 0x0, 0x3FFF),
      (0x14, 0x0, 0xFFFFFFFF), (0x18, 0x0, 0xFFFFFFFF), (0x1C, 0x0, 0xFFFF)]
  | 0x19 => [(0x0, 0x0, 0x7FFFFF), (0x4, 0x0, 0xFFFFFFFF), (0x8, 0x0, 0xFFFFFFFF), (0x10, 0x0, 0xFFFFFFFF)]
  | 0x1A => [(0x0, 0x0, 0xFFFFFFFF), (0x4, 0x0, 0xFFFFFFFF), (0x8, 0x0, 0xFFFFFFFF), (0xC, 0x0, 0xFFFFFFFF),
      (0x10, 0x0, 0xFFFFFFFF), (0x14, 0x0, 0xFFFFFFFF), (0x18, 0x0, 0xFFFFFFFF), (0x1C, 0x0, 0xFFFFFFFF),
      (0x20, 0x0, 0xFFFFFFFF), (0x24, 0x0, 0x3), (0x30, 0x0, 0xFFFFFFFF), (0x34, 0x0, 0xFFFFFFFF), (0x38, 0x0, 0xFFFFFFFF),
      (0x3C, 0x0, 0xFFFFFFFF), (0xC0, 0x3F, 0x0), (0xC4, 0x8FFFFFFF, 0x0)]
  | 0x1B => [(0x0, 0x0, 0xFFFFF07F), (0x4, 0x0, 0xFFFFFFFF), (0x8, 0x0, 0xFFFFFFFF), (0xC, 0x1FF, 0x0), (0x10, 0x1FFF, 0x0),
      (0x14, 0x3FF07FF, 0x0), (0x18, 0x0, 0xE7FF03FF), (0x20, 0x0, 0xFFFFFFFF)]
  | 0x1C => [(0x0, 0x0, 0xF00F07), (0x4, 0x0, 0x7), (0x8, 0x0, 0xFFFFFFFF), (0xC, 0xFFFFFF00, 0x0), (0x10, 0xFFFFFFFF, 0x0),
      (0x14, 0xFFFFFFFF, 0x0), (0x18, 0x0, 0xFFFF), (0x1C, 0x0, 0xFFFFFFFE), (0x20, 0x0, 0xFFFFFFFF),
      (0x24, 0x0, 0xFFFFFFFF), (0x28, 0x0, 0xFFFFFFFF)]
  | 0x1D => [(0x0, 0x7F, 0x0), (0x4, 0x0, 0x801F1FF0), (0x8, 0x0, 0x1FFFFF), (0xC, 0x0, 0x1FFFFF), (0x10, 0x0, 0x1FFFFF),
      (0x14, 0x0, 0x1FFFFF), (0x18, 0x0, 0xFFFFFFFF), (0x1C, 0x0, 0xFFFFFFFF)]
  | 0x1E => [(0x0, 0x0, 0x1F), (0x4, 0x70, 0xFFFFFF87), (0x10, 0x0, 0xFFFFFFFF), (0x14, 0x0, 0xFFFFFFFF),
      (0x18, 0x0, 0xFFFFFFFF), (0x1C, 0x0, 0xFFFFFFFF)]
  | 0x1F => [(0x0, 0x1F, 0x0), (0x4, 0xFFFFFFFF, 0x0), (0x8, 0xFFFFFFFF, 0x0), (0xC, 0x0, 0x3)]
  | _ => []

/-- RW and SET bits of a register, and the bits of its RO, W1C and WO fields; both zero where the location is unimplemented. -/
def access (addr : Nat) : Word × Word :=
  let blk := addr / 65536
  let off := if blk = 0x10 then addr % 4096 else addr % 65536
  if blk = 0x1A && decide (0x40 ≤ off) && decide (off < 0x80) then (0, 0xFFFFFFFF)
  else if blk = 0x1A && ((decide (0x80 ≤ off) && decide (off < 0xC0)) || (decide (0xD0 ≤ off) && decide (off < 0x100))) then
    (0xFFFFFFFF, 0)
  else ((accessRows blk).find? fun r => decide (r.1 = off)).elim (0, 0) (·.2)

/-- The selected index of a per-channel counter, zero for a module-wide one; none where the address holds no counter (R67). -/
def counterIndex (p : PerReq) (addr : Nat) : Option Nat :=
  let off := addr % 65536
  let plain := fun (l : List Nat) => if l.contains off then some 0 else none
  let sel := fun (l : List Nat) (n : Nat) => if l.contains off then some n else none
  match addr / 65536 with
  | 0x01 => plain [0x10, 0x14]
  | 0x02 => plain [0x08, 0x0C]
  | 0x03 => plain [0x20]
  | 0x04 => plain [0x40, 0x44, 0x48]
  | 0x05 => if off = 0x2C then some 0 else if p.lswSel.toNat < 48 then sel [0x14] p.lswSel.toNat else none
  | 0x06 => sel [0x18, 0x1C] p.solSel.toNat
  | 0x08 => plain [0x10, 0x14, 0x18, 0x20, 0x24]
  | 0x09 => plain [0x10, 0x14]
  | 0x0A => sel [0x10, 0x14, 0x18, 0x1C] p.plySel.toNat
  | 0x0B => if off = 0x18 then some 0 else sel [0x10, 0x14] p.stkSel.toNat
  | 0x0C => if p.ainSel.toNat < 96 then sel [0x14] (p.ainSel.toNat / 8) else none
  | 0x0D => sel [0x08, 0x0C] p.senSel.toNat
  | 0x0E => sel [0x10, 0x14] p.shfSel.toNat
  | 0x10 => if [0x14, 0x18, 0x1C, 0x20, 0x24, 0x28, 0x2C].contains (off % 4096) then some 0 else none
  | 0x12 => if off = 0x14 then some 0 else if p.ethSel.toNat < 10 then sel [0x08, 0x0C, 0x10] p.ethSel.toNat else none
  | 0x14 => plain [0x10, 0x14, 0x18]
  | 0x16 => plain [0x08, 0x0C, 0x10]
  | 0x18 => plain [0x14, 0x18]
  | 0x19 => plain [0x10]
  | 0x1A => plain [0x10, 0x14, 0x18, 0x1C, 0x20]
  | 0x1B => plain [0x20]
  | 0x1C => plain [0x20, 0x24, 0x28]
  | 0x1D => sel [0x18, 0x1C] p.bobSel.toNat
  | 0x1E => plain [0x10, 0x14, 0x18, 0x1C]
  | _ => none

/-- Address of a 64-bit value's LO half that a HI address belongs to (R66). -/
def loOfHi (addr : Nat) : Option Nat :=
  if [0x00000008, 0x00010024, 0x0001004C, 0x00030004, 0x000A0024, 0x0012001C, 0x00190008, 0x001A0008].contains addr
  then some (addr - 4) else none

/-- The 64-bit value that stands at a LO address (R66). -/
def wideAt (s : State) (addr : Nat) : Option (BitVec 64) :=
  match addr with
  | 0x00000004 => some Config.serial
  | 0x00010020 => some s.sys.onTime
  | 0x00010048 => some ((s.store.running.map Cop.copId).getD 0)
  | 0x00030000 => some s.sun.time
  | 0x000A0020 => some s.core.ply.excl
  | 0x00120018 => some (Config.mac.zeroExtend 64)
  | 0x00190004 => some (match committedSlot s with
    | some b => (spoolSlot s b).frame
    | none => 0)
  | 0x001A0004 => some s.skein.seq
  | _ => none

/-! ### Small read-outs -/

/-- A signed 16-bit quantity, and an optional instant, as fields. -/
def u16 (v : BitVec 16) : Word := v.zeroExtend 32

/-- Distaff busy time over the last 100 ms in per cent, and the longest wait over the last 1 s in ms (DST_LOAD). -/
def busyPct (s : State) : Nat :=
  let l := s.distaff.served.filter fun e => decide (s.sun.time.toNat < e.done.toNat + 100000000)
  min 100 ((l.map (·.us)).sum / 1000)
def maxWaitMs (s : State) : Nat :=
  let l := s.distaff.served.filter fun e => decide (s.sun.time.toNat < e.done.toNat + second)
  let w := l.map (·.waitNs) ++ s.distaff.queue.map fun e => s.sun.time.toNat - e.since.toNat
  min 65535 (w.foldl max 0 / 1000000)

/-- Codes of COP_STATUS.SLOT_STATE. -/
def slotCode : SlotState → Nat
  | .empty => 0 | .writing => 1 | .committed => 2 | .valid => 3 | .pending => 4 | .refused => 5

/-- The selected slot of the cop store (R168). -/
def selSlot (s : State) : CopSlot := if s.store.sel then s.store.s1 else s.store.s0

/-- Codes of D (AIN_CFG.DEC), of LANE_STAT, and of SOL_STAT.PHASE. -/
def decCode : Nat → Nat
  | 1 => 0 | 2 => 1 | 5 => 2 | 10 => 3 | 20 => 4 | 50 => 5 | _ => 0
def laneCode : LaneState → Nat
  | .active => 0 | .cold => 1 | .waking => 2 | .failed => 3 | .updating => 4
def phaseCode : SolPhase → Nat
  | .off => 0 | .cur => 1 | .rise => 2 | .peak => 3 | .fall => 4 | .hold => 5 | .neutral => 6 | .groupQ => 7 | .tallyQ => 8
def srcCode : PinSrc → Nat
  | .lane => 0 | .lanePwm => 1 | .dir => 2 | .held => 3

/-- SPN_TASK_STATE.STATE (R94): a release makes its task READY at its start instant (R82). -/
def taskState (s : State) (n : Nat) : Nat :=
  let t := taskOf s n
  let act := s.core.acts.find? fun e => decide (e.2.task = n)
  if t.stopped then 4
  else match act with
    | some a => if a.2.wait.isSome then 3 else 2
    | none =>
      if t.pending.any fun p => decide (startInstant (declOf s n) p ≤ s.sun.time) then 1
      else if decide (s.sys.state = .noon) || decide (s.sys.state = .afternoon) then 0 else 5

/-- TYPE, NEST and READBACK codes (R143). -/
def typeCode : LoopType → Nat
  | .p => 0 | .pi => 1 | .pd => 2 | .pid => 3
def nestCode : Nest → Nat
  | .single => 0 | .outer => 1 | .inner => 2 | .member => 3
def readbackCode : Readback → Nat
  | .none => 0 | .pwmDuty => 1 | .solCurrent => 2 | .solPair => 3

/-! ### Blocks -/

/-- Identity and version (R71). -/
def readIdent (s : State) : Nat → Word
  | 0x00 => 0x56964300 ||| Config.variant.zeroExtend 32
  | 0x10 => (s.upd.runFw.zeroExtend 32 <<< 1) ||| flag s.upd.slot 0
  | 0x14 => 0x02040103
  | 0x18 => 0x02010502
  | 0x1C => 7
  | _ => 0

/-- Day state, system control, cop status and power (03, 08, 23). -/
def readSystem (s : State) : Nat → Word
  | 0x00 => (s.sys.refusal.zeroExtend 32 <<< 16) ||| (s.sys.holdCause.zeroExtend 32 <<< 8) ||| flag s.sys.hold 4
      ||| s.sys.state.code.zeroExtend 32
  | 0x04 => flag s.sys.stayDawn 2 ||| flag s.sys.holdOff 1 ||| flag (decide (s.sys.state = .dusk)) 0
  | 0x08 => s.sys.lock.vote.zeroExtend 32
  | 0x0C => flag s.sys.holdupFlag 8 ||| (s.sys.line.zeroExtend 32 <<< 4) ||| s.sys.cause.zeroExtend 32
  | 0x18 => at32 (maxWaitMs s) 16 ||| at32 (busyPct s) 8 ||| at32 s.distaff.queue.length 0
  | 0x40 =>
    let c := s.store.running
    let slot := selSlot s
    (s.store.refusal.zeroExtend 32 <<< 16) ||| at32 (slotCode slot.state) 12 ||| flag s.store.sel 11
      ||| flag (c.isSome && s.store.det) 10 ||| flag ((c.map Cop.autoarm).getD false) 9 ||| flag slot.migrated 8
      ||| flag (slot.signed && decide (s.upd.mfrKey ≠ 0)) 7 ||| flag (c.isSome && s.store.hover) 6 ||| flag s.store.validating 0
  | 0x44 => s.store.detail
  | 0x50 => if (selSlot s).state = .writing then BitVec.ofNat 32 (selSlot s).next else 0
  | 0x60 => (s.sys.ov.zeroExtend 32 <<< 8) ||| flag s.sys.hot 3 ||| flag s.sys.pgnd 2 ||| flag s.sys.huLow 1
      ||| flag s.sys.huReady 0
  | 0x64 => (s.sys.tplate.zeroExtend 32 <<< 24) ||| (s.sys.huMs.zeroExtend 32 <<< 16)
  | _ => 0

/-- Clock unit (R332). -/
def readClock (s : State) : Nat → Word
  | 0x00 => flag s.clock.rtcFail 23 ||| flag s.clock.lkoFail 22 ||| flag s.clock.rcoFail 21 ||| flag s.clock.refFail 20
      ||| (List.range 10).foldl (fun w d => w ||| at32 (ClkSrc.code (clkSrc s d)) (2 * d)) 0
  | 0x04 => (s.clock.stay.zeroExtend 32 <<< 16) ||| s.clock.force.zeroExtend 32
  | _ => 0

/-- Sundial (R332). -/
def readSundial (s : State) : Nat → Word
  | 0x08 => flag (ptpSends s) 6 ||| flag (decide (s.sun.leapAnn ≠ 0)) 5 ||| flag s.sun.known 4 ||| flag s.sun.stepFlag 3
      ||| flag s.sun.invalid 2 ||| at32 (SunState.code s.sun.state) 0
  | 0x0C => sunErr s
  | 0x10 => s.sun.offset
  | 0x14 => s.sun.rate
  | 0x18 => (s.sun.leapMjd.zeroExtend 32 <<< 16) ||| (s.sun.leapAnn.zeroExtend 32 <<< 8) ||| s.sun.taiUtc.zeroExtend 32
  | 0x1C => s.sun.ppsCfg
  | 0x24 => s.sun.ptpCfg
  | _ => 0

/-- One VLOAD supply's sums in 10 mA (TALLY_SUPPLYn). -/
def supplyWord (s : State) (k : Nat) : Word := at32 (min 65535 (instS s k / 10)) 16 ||| at32 (min 65535 (contS s k / 10)) 0

/-- Tally (13). -/
def readTally (s : State) : Nat → Word
  | 0x00 => supplyWord s 0
  | 0x04 => supplyWord s 1
  | 0x08 => supplyWord s 2
  | 0x0C => supplyWord s 3
  | 0x10 => at32 (min 8191 (vbatSum s)) 0
  | 0x14 => at32 (min 63 (ledger s 4).queue.length) 24
      ||| (List.range 4).foldl (fun w k => w ||| at32 (ledger s k).queue.length (6 * k)) 0
  | 0x20 => s.tally.limit0.vote
  | 0x24 => s.tally.limit1.vote
  | 0x28 => s.tally.limit2.vote
  | 0x2C => s.tally.limit3.vote
  | 0x30 => s.tally.total.vote.zeroExtend 32
  | 0x34 => s.tally.stagger.vote
  | 0x38 => s.tally.waitMax.vote.zeroExtend 32
  | 0x4C => at32 (if s.store.running.isSome then s.store.dissMw % 65536 else 0) 0
  | 0x50 => s.tally.in0
  | 0x54 => s.tally.in1
  | 0x58 => s.tally.in2
  | 0x5C => s.tally.in3
  | _ => 0

/-- Load switches (R279): per-channel registers of a channel above 47 read zero. -/
def readLsw (s : State) (p : PerReq) (off : Nat) : Word :=
  let n := p.lswSel.toNat
  let x := lsw s n
  let ch := decide (n < 48)
  match off with
  | 0x00 => p.lswSel.zeroExtend 32
  | 0x04 => if !ch then 0 else
      at32 (min 15 (retryCount s x)) 28 ||| at32 (srcCode x.src) 8 ||| flag (bit s.outs.uv (n / 12)) 7 ||| flag x.exh 6 ||| flag x.therm 5
        ||| flag x.trip 4 ||| flag (waits s (n / 12) (.chan (.lsw n))) 3 ||| flag x.on 2 ||| flag x.cmd 1
        ||| flag (outDecl (cop s) (.lsw n)).isSome 0
  | 0x08 => if ch then (u16 x.tj <<< 16) ||| u16 x.current else 0
  | 0x0C => if ch then x.duty.zeroExtend 32 else 0
  | 0x10 => if ch then x.dirMap.zeroExtend 32 else 0
  | 0x20 => u16 s.outs.retryMax
  | 0x24 => flag s.outs.limp 1 ||| flag s.outs.limpEn 0
  | 0x28 => (List.range 4).foldl (fun w b => w ||| ((SMap.get s.outs.vload 0 b).zeroExtend 32 <<< (7 * b + 4))) (s.outs.uv.zeroExtend 32)
  | _ => 0

/-- Peaks that wait in a group's queue (SOL_GROUP_STAT). -/
def groupWord (s : State) (g : Nat) : Word :=
  flag (bit s.outs.busy g) 0 ||| at32 (min 3 (SMap.get s.outs.groupQ [] g).length) 1
    ||| flag ((List.range 4).any fun i => solOn (sol s (4 * g + i))) 3

/-- Solenoid drivers (R299). -/
def readSol (s : State) (p : PerReq) (off : Nat) : Word :=
  let n := p.solSel.toNat
  let x := sol s n
  let d := outDecl (cop s) (.sol n)
  match off with
  | 0x00 => p.solSel.zeroExtend 32
  | 0x04 => at32 (phaseCode x.phase) 28 ||| (x.profile.zeroExtend 32 <<< 24) ||| flag x.badprof 13 ||| flag x.calold 12
      ||| flag x.nomove 11 ||| flag x.clamp 10 ||| flag x.coilhot 9 ||| flag x.coilfault 8 ||| flag x.uv 7 ||| flag x.hstrip 6
      ||| flag x.trip 5 ||| flag x.norise 4 ||| flag (isNeutral s n) 3 ||| flag ((d.map (·.quenchFast)).getD false) 2
      ||| flag (solOn x) 1 ||| flag d.isSome 0
  | 0x08 => at32 (min 65535 x.setpoint) 16 ||| u16 x.measured
  | 0x0C => (u16 x.tcoil <<< 16) ||| u16 x.res
  | 0x10 => u16 x.move
  | 0x14 => at32 ((d.map (·.deferMax)).getD 0 % 512) 0
  | 0x24 => (List.range 8).foldl (fun w g => w ||| (groupWord s g <<< (4 * g))) 0
  | 0x28 => s.outs.gap.vote
  | 0x2C => (u16 x.gain <<< 16) ||| (match x.calAt with
      | some c => at32 (min 65535 ((s.sun.time.toNat - c.toNat) / second)) 0
      | none => 0xFFFF)
  | _ => 0

/-- Spindle control (R94). -/
def readSpindle (s : State) (p : PerReq) (off : Nat) : Word :=
  let n := p.taskSel.toNat
  match off with
  | 0x00 => p.taskSel.zeroExtend 32
  | 0x04 => match taskDecl s n with
    | some d => at32 (d.spindle % 64) 26 ||| at32 (min 15 (taskOf s n).pending.length) 16 ||| at32 (taskState s n) 0
    | none => 0
  | 0x08 => if (taskDecl s n).isSome then (taskOf s n).maxResp else 0
  | 0x1C => s.core.lastTrap
  | _ => 0

/-- Twist (R163). TWI_LOAD: Spindles bound, and step slots used over the last major frame, of 5,000. -/
def readTwist (s : State) (p : PerReq) (off : Nat) : Word :=
  let u := p.twiSel.toNat / 64
  let l := p.twiSel.toNat % 64
  let x := loopSt s (loopKey u l)
  match off with
  | 0x00 => p.twiSel.zeroExtend 32
  | 0x04 => match loopDecl (cop s) u l with
    | some d => (x.flags <<< 16) ||| at32 (x.modeIn % 4) 8 ||| at32 (nestCode d.nest) 6 ||| at32 (typeCode d.type) 4 ||| flag true 0
    | none => 0
  | 0x08 => x.u
  | _ =>
    if decide (0x20 ≤ off) && decide (off < 0x40) then
      let n := (off - 0x20) / 4
      at32 (bound (cop s) n).length 16 ||| at32 (min 100 (SMap.get s.core.loadBusy 0 (n + 8) / 50)) 0
    else 0

/-- Codes of EPOCH_PERIOD (PLY_CFG). -/
def epochCode : Nat → Nat
  | 2 => 1 | 5 => 2 | 10 => 3 | 20 => 4 | 50 => 5 | 100 => 6 | _ => 0

/-- Ply (R231). -/
def readPly (s : State) (p : PerReq) (off : Nat) : Word :=
  let n := p.plySel.toNat
  match off with
  | 0x00 => p.plySel.zeroExtend 32
  | 0x04 => match s.store.running with
    | some c => at32 (epochCode c.ply.periodMs) 28 ||| at32 (c.ply.delayUs % 131072) 0
    | none => 0
  | 0x08 => match plyDecl s n with
    | some d => let x := plySrc s n
      flag true 31 ||| at32 (min 8 x.good) 8 ||| flag d.mapped 4 ||| srcBits d x
    | none => 0
  | 0x0C => (plySrc s n).unc
  | 0x28 => at32 s.spool.history.length 0
  | 0x2C => s.core.ply.yieldStat
  | _ => 0

/-- Strike unit (R211). -/
def readStrike (s : State) (p : PerReq) (off : Nat) : Word :=
  let n := p.stkSel.toNat
  let x := stk s n
  match off with
  | 0x00 => p.stkSel.zeroExtend 32
  | 0x04 => match stkDecl s n with
    | some d => at32 (d.dead % 1024) 22 ||| at32 (d.pre % 64) 16 ||| at32 (d.nfShift % 16) 12 ||| at32 (d.ed % 16) 8
        ||| d.templates.foldl (fun w t => w ||| at32 1 (4 + t.1 % 4)) 0 ||| flag true 0
    | none => 0
  | 0x08 => if (stkDecl s n).isSome then
      flag (s.strike.capEn && decide (s.strike.capUse.toNat = n)) 3 ||| flag x.armed 2 ||| flag x.floorHold 1 ||| flag x.fault 0
    else 0
  | 0x0C => at32 (x.thr % 65536).toNat 16 ||| at32 (x.nf / 256 % 65536).toNat 0
  | 0x1C => flag s.strike.capEn 31 ||| s.strike.capCh.zeroExtend 32
  | _ => 0

/-- Analog inputs (R195): inputs above 95 read zero. -/
def readAin (s : State) (p : PerReq) (off : Nat) : Word :=
  let i := p.ainSel.toNat
  let x := ain s i
  let a := adc s (i / 8)
  if off = 0 then p.ainSel.zeroExtend 32
  else if 96 ≤ i then 0
  else match off with
  | 0x04 => match ainDecl s i with
    | some d => at32 d.signal 15 ||| at32 (d.supply.getD 31) 8 ||| at32 (decCode d.d) 4 ||| at32 (modeCode d.mode) 0
    | none => at32 31 8
  | 0x08 => u16 x.code
  | 0x0C => flag a.calOld 4 ||| flag x.supF 3 ||| flag x.burdenF 2 ||| flag x.openF 1 ||| flag x.overF 0
  | 0x10 => match a.rotatedAt with
    | some r => hold32 ((s.sun.time.toNat - r.toNat) / 1000000)
    | none => 0xFFFFFFFF
  | _ => 0

/-- Sensor ports, supply outputs and the IMU (R195). -/
def readSensor (s : State) (p : PerReq) (off : Nat) : Word :=
  let x := sensor s p.senSel.toNat
  match off with
  | 0x00 => p.senSel.zeroExtend 32
  | 0x04 => flag x.degraded 6 ||| flag x.short 5 ||| flag x.power 4 ||| at32 (((sensorDecl s p.senSel.toNat).map (·.mode)).getD 0 % 8) 0
  | 0x10 => x.lastErr.zeroExtend 32
  | 0x14 => x.syncDev
  | 0x40 => (u16 s.inputs.supFault <<< 16) ||| u16 s.inputs.supOn
  | 0x50 => (u16 s.inputs.imuTemp <<< 16) ||| flag s.inputs.imuFail 1 ||| flag (imuSamples s) 0
  | _ => 0

/-- Shaft inputs (R195). -/
def readShaft (s : State) (p : PerReq) (off : Nat) : Word :=
  let x := shaft s p.shfSel.toNat
  match off with
  | 0x00 => p.shfSel.zeroExtend 32
  | 0x04 => flag x.stopped 14 ||| flag x.indexed 13 ||| flag x.reverse 12 ||| x.bin.zeroExtend 32
  | 0x08 => hold32 (x.period / 10)
  | 0x0C => x.revs
  | _ => 0

/-- A CAN controller (R351). -/
def readCan (s : State) (off : Nat) : Word :=
  let n := off / 4096
  let x := can s n
  match off % 4096, canDecl s n with
  | 0x00, _ => (x.tec.zeroExtend 32 <<< 23) ||| ((x.rec_.truncate 8 : BitVec 8).zeroExtend 32 <<< 15)
      ||| x.bufs.foldl (fun w e => w ||| at32 1 (8 + e.1 % 3)) 0 ||| flag x.listen 3 ||| at32 (CanState.code x.state) 0
  | 0x04, some d => at32 (d.nbt.brp - 1) 27 ||| at32 (d.nbt.tseg1 - 1) 19 ||| at32 (d.nbt.tseg2 - 1) 12 ||| at32 (d.nbt.sjw - 1) 5
  | 0x08, some d => at32 (d.dbt.brp - 1) 27 ||| at32 (d.dbt.tseg1 - 1) 22 ||| at32 (d.dbt.tseg2 - 1) 18 ||| at32 (d.dbt.sjw - 1) 14
      ||| flag d.tdc 13 ||| at32 d.sspOffset 6
  | 0x0C, some d => at32 d.txTimeoutMs 16 ||| flag d.autoRec 3 ||| flag d.txById 2 ||| flag d.fd 1 ||| flag d.listen 0
  | 0x10, _ => flag x.listenCtrl 0
  | 0x30, _ => x.lastErr
  | _, _ => 0

/-- Ethernet switch (R352): ports above 9 read zero. -/
def readEth (s : State) (p : PerReq) (off : Nat) : Word :=
  let n := p.ethSel.toNat
  let x := ethPort s n
  let d := ethDecl s n
  if off = 0 then p.ethSel.zeroExtend 32
  else if 10 ≤ n then 0
  else match off with
  | 0x04 => (x.sqi.zeroExtend 32 <<< 8) ||| flag x.gclAt.isSome 5 ||| flag d.slave 4
      ||| at32 (if !portUp s n then 0 else if n < 6 then 1 else 2) 2 ||| flag true 1 ||| flag (portUp s n) 0
  | 0x20 => at32 d.gcl.length 16 ||| at32 (x.gclAt.getD 0 % 64) 0
  | _ => 0

/-- GNSS baseband (R252). -/
def readGnss (s : State) : Nat → Word
  | 0x00 => s.gnss.cfg
  | 0x04 => flag s.gnss.bias1 9 ||| flag s.gnss.bias0 8 ||| (s.gnss.ant1.zeroExtend 32 <<< 2) ||| s.gnss.ant0.zeroExtend 32
  | 0x08 => (s.gnss.jam.zeroExtend 32 <<< 20) ||| flag s.gnss.clkFail 19 ||| flag s.gnss.spoof 18 ||| flag s.gnss.cn0pat 17
      ||| at32 (s.gnss.engines.filter (·.2.busy)).length 9
      ||| at32 (s.gnss.chans.filter fun e => decide (e.2.state = 2)).length 0
  | _ => 0

/-- Position engine (R252). -/
def readPos (s : State) : Nat → Word
  | 0x00 => (match s.core.pos.corrAt with
      | some c => at32 (min 255 ((s.sun.time.toNat - c.toNat) / second)) 24
      | none => 0xFF000000)
      ||| flag s.core.pos.hdgValid 16 ||| at32 (s.core.pos.svUsed % 256) 8 ||| at32 (s.core.pos.fix % 4) 0
  | 0x04 => s.gnss.hdgCfg
  | 0x14 => s.core.pos.ttffMs
  | _ => 0

/-- Lanes and lease keeper (R316). -/
def readLanes (s : State) : Nat → Word
  | 0x00 => flag s.lanes.lb.mgmt 17 ||| flag s.lanes.la.mgmt 16 ||| (s.lanes.lb.cause.zeroExtend 32 <<< 12)
      ||| (s.lanes.la.cause.zeroExtend 32 <<< 8) ||| flag s.lanes.noCkpt 7 ||| at32 (laneCode s.lanes.lb.state) 4
      ||| at32 (laneCode s.lanes.la.state) 1 ||| at32 (Lane.num s.lanes.lastHolder) 0
  | 0x08 => s.lanes.lease.vote.zeroExtend 32
  | 0x0C => s.lanes.guard.vote.zeroExtend 32
  | 0x10 => at32 (if laneActive s then s.lanes.remain / lkoNs % 16384 else 0) 0
  | 0x1C => u16 s.lanes.lastGap
  | _ => 0

/-- Spool (R316). -/
def readSpool (s : State) : Nat → Word
  | 0x00 => match committedSlot s with
    | some b => ((spoolSlot s b).size.zeroExtend 32 <<< 1) ||| flag b 0
    | none => 0
  | _ => 0

/-- Skein (R377). -/
def readSkein (s : State) (p : PerReq) (off : Nat) : Word :=
  let k := s.skein
  let e := SMap.get k.triggers {} p.trigSel.toNat
  match off with
  | 0x00 => at32 k.buffer.length 23 ||| (k.clrRes.zeroExtend 32 <<< 20) ||| flag k.clearing 19 ||| at32 k.ring.length 0
  | 0x0C => at32 (clearsHeld k.ring) 16 ||| at32 (min 65535 (critHeld k.ring)) 0
  | 0xC0 => p.trigSel.zeroExtend 32
  | 0xC4 => flag e.en 31 ||| (e.count.zeroExtend 32 <<< 24) ||| (e.source.zeroExtend 32 <<< 16) ||| u16 e.code
  | _ =>
    if decide (0x30 ≤ off) && decide (off < 0x40) then
      match k.chal, (off - 0x30) / 4 with
      | some c, 0 => if challengeLive s then c.1 else 0
      | some c, 1 => if challengeLive s then c.2.1 else 0
      | some c, 2 => if challengeLive s then c.2.2.1 else 0
      | some c, 3 => if challengeLive s then c.2.2.2 else 0
      | _, _ => 0
    else if decide (0x80 ≤ off) && decide (off < 0xC0) then SMap.get k.key 0 ((off - 0x80) / 4)
    else if decide (0xD0 ≤ off) && decide (off < 0x100) then SMap.get e.addrs 0 ((off - 0xD0) / 4)
    else 0

/-- Panel (R410). -/
def readPanel (s : State) (p : PerReq) (off : Nat) : Word :=
  let q := s.panel
  match off with
  | 0x00 => (q.temp.zeroExtend 32 <<< 24) ||| (q.band.zeroExtend 32 <<< 21) ||| at32 q.jobs.length 17 ||| at32 q.queue.length 12
      ||| flag (!q.recovering.isEmpty) 6 ||| flag q.dcsat 5 ||| flag q.railf 4 ||| flag q.notable 3 ||| flag q.cold 2 ||| flag q.rails 1
      ||| flag q.fitted 0
  | 0x04 => match q.geom with
    | some g => at32 g.vblank 16 ||| at32 (g.line % 65536) 0
    | none => 0
  | 0x08 => match q.geom with
    | some g => at32 g.height 16 ||| at32 (g.width % 65536) 0
    | none => 0
  | 0x0C => q.vcom.zeroExtend 32
  | 0x10 => q.dcThr.zeroExtend 32
  | 0x14 => p.pnlPos
  | _ => 0

/-- Update engine (R393). -/
def readUpdate (s : State) : Nat → Word
  | 0x00 => (s.upd.refuse.zeroExtend 32 <<< 20) ||| flag s.upd.dnLost 11 ||| flag s.upd.healthOk 10 ||| (s.upd.mode.zeroExtend 32 <<< 8)
      ||| at32 (UpdStep.code s.upd.step) 0
  | 0x08 => at32 s.upd.held.length 16 ||| at32 ((s.upd.man.map (·.chunks)).getD 0 % 65536) 0
  | 0x0C => s.upd.chain
  | 0x10 => s.upd.upIp
  | 0x14 => s.upd.dnIp
  | 0x18 => at32 (if s.upd.step = .trial then (s.upd.trialEnd.toNat - s.sun.time.toNat) / second else 0) 0
  | 0x1C => (((s.upd.man.map Manifest.fw).getD 0 : BitVec 31).zeroExtend 32) <<< 1
  | _ => 0

/-- Bobbins (R109). -/
def readBobbin (s : State) (p : PerReq) (off : Nat) : Word :=
  let n := p.bobSel.toNat
  let x := bob s n
  match off, bobDecl s n with
  | 0x00, _ => p.bobSel.zeroExtend 32
  | 0x04, some d => flag true 31 ||| at32 (Nat.log2 d.size) 16 ||| flag d.dropNew 12 ||| at32 (d.producer % 16) 8 ||| at32 (d.consumer % 16) 4
  | 0x08, some d => at32 (x.fill d.size) 0
  | 0x0C, _ => at32 x.hiwat 0
  | 0x10, _ => flag x.wlap 20 ||| at32 (x.wptr % 1048576) 0
  | 0x14, _ => flag x.rlap 20 ||| at32 (x.rptr % 1048576) 0
  | _, _ => 0

/-- Hank (R367). -/
def readHank (s : State) (who : Requester) : Nat → Word
  | 0x00 => (List.range 5).foldl (fun w k => w ||| flag ((SMap.get s.hank.sessions {} k).isOpen) k) 0
  | 0x04 =>
    let x := session s who
    (x.major.zeroExtend 32 <<< 24) ||| (x.minor.zeroExtend 32 <<< 16) ||| at32 (x.outst % 512) 7 ||| (x.evtSev.zeroExtend 32 <<< 4)
      ||| at32 who.val 0
  | _ => 0

/-- Indirect window registers, IND_DATA apart (R69). -/
def readInd (p : PerReq) : Nat → Word
  | 0x00 => flag p.indAinc 4 ||| p.indWin.zeroExtend 32
  | 0x04 => p.indAddr
  | 0x0C => flag p.indTmo 1 ||| flag p.indRange 0
  | _ => 0

/-- What a register reads, with the selections of a requester: counters, then each block. IND_DATA, the halves of 64-bit values and
PWR_MEAS.VBAT are read by `readReg`. -/
def peek (s : State) (who : Requester) (addr : Nat) : Word :=
  let p := perReq s who
  let off := addr % 65536
  match counterIndex p addr with
  | some n => (counter s addr n).word
  | none =>
    match addr / 65536 with
    | 0x00 => readIdent s off
    | 0x01 => readSystem s off
    | 0x02 => readClock s off
    | 0x03 => readSundial s off
    | 0x04 => readTally s off
    | 0x05 => readLsw s p off
    | 0x06 => readSol s p off
    | 0x08 => readSpindle s p off
    | 0x09 => readTwist s p off
    | 0x0A => readPly s p off
    | 0x0B => readStrike s p off
    | 0x0C => readAin s p off
    | 0x0D => readSensor s p off
    | 0x0E => readShaft s p off
    | 0x10 => readCan s off
    | 0x12 => readEth s p off
    | 0x14 => readGnss s off
    | 0x16 => readPos s off
    | 0x18 => readLanes s off
    | 0x19 => readSpool s off
    | 0x1A => readSkein s p off
    | 0x1B => readPanel s p off
    | 0x1C => readUpdate s off
    | 0x1D => readBobbin s p off
    | 0x1E => readHank s who off
    | 0x1F => readInd p off
    | _ => 0

end Sys2Proof.Machine
end

