-- ==== Sys2Proof/Machine/Windows.lean ====
section
/-! DEFINITION. The indirect windows (R69, R70): Twist tables (R161), GNSS channels (R251), panel memory (R409), Skein records (R374). -/
namespace Sys2Proof.Machine

/-- Sizes of windows 0x1 to 0x4 in bytes; zero for the others, which select none and have no size, so that an access there reads zero,
ignores the write and sets no RANGE (R70; log entry 66: the model's choice). -/
def winSize : Nat → Nat
  | 1 => 0x100000
  | 2 => 0x40000
  | 3 => 0x800000
  | 4 => 0x2000000
  | _ => 0

/-! ### Window 0x1 (R161) -/

/-- A signal index as a Twist entry gives it: bit 31 set when none. -/
def sigIndex : Option UnitSig → Word
  | some u => at32 u.signal 0
  | none => 0x80000000

/-- CFG of a loop entry. -/
def loopCfg (d : LoopDecl) : Word :=
  at32 (typeCode d.type) 0 ||| at32 (nestCode d.nest) 2 ||| at32 (d.k % 128) 4 ||| at32 (d.member % 8) 11 ||| at32 (d.link % 64) 14
    ||| at32 (d.rcTable % 16) 20 ||| flag d.rcEn 24 ||| at32 (readbackCode d.readback) 25

/-- A loop entry's word. -/
def loopWord (d : LoopDecl) (x : LoopSt) (off : Nat) : Word :=
  match off with
  | 0x00 => loopCfg d
  | 0x04 => d.kp | 0x08 => d.kiH | 0x0C => d.kd | 0x10 => d.n | 0x14 => d.h | 0x18 => d.b | 0x1C => d.c | 0x20 => d.ktH
  | 0x24 => d.outHi | 0x28 => d.outLo | 0x2C => d.rate | 0x30 => d.rbScale
  | 0x34 => at32 (d.rbA % 256) 0 ||| at32 (d.rbB % 256) 8
  | 0x38 => sigIndex d.pvSig | 0x3C => sigIndex d.spSig | 0x40 => sigIndex d.ffSig
  | 0x44 => tf d | 0x48 => ad d | 0x4C => bd d | 0x50 => rstep d
  | 0x60 => x.i | 0x64 => x.d | 0x68 => x.edPrev | 0x6C => x.u | 0x70 => x.va
  | 0x74 => x.sp | 0x78 => x.pv | 0x7C => x.ff | 0x80 => x.man | 0x84 => x.mode | 0x88 => x.trk | 0x8C => x.ulim | 0x90 => x.llim
  | 0x94 => x.e | 0x98 => x.rc | 0x9C => x.flags
  | _ => 0

/-- A table's field. -/
def tableWord (d : TableDecl) (x : TableSt) (off : Nat) : Word :=
  match off with
  | 0x00 => flag d.en 31 ||| at32 (d.loop % 64) 16 ||| at32 (d.lead % 64) 8
  | 0x04 => at32 d.angle.signal 0
  | 0x08 => d.gamma | 0x0C => d.rho | 0x10 => d.alpha | 0x14 => beta d | 0x18 => d.tmax
  | 0x1C => match x.prev with
    | some b => at32 (b % 1024) 0
    | none => 0x80000000
  | _ => 0

/-- A word of window 0x1. -/
def twistWord (s : State) (off : Nat) : Word :=
  let u := off / 0x20000
  let o := off % 0x20000
  if o < 0x4000 then
    match loopDecl (cop s) u (o / 256) with
    | some d => loopWord d (loopSt s (loopKey u (o / 256))) (o % 256)
    | none => 0
  else if o < 0x4400 then
    match tableDecl (cop s) u ((o - 0x4000) / 64) with
    | some d => tableWord d (tableSt s (tableKey u ((o - 0x4000) / 64))) (o % 64)
    | none => 0
  else if 0x10000 ≤ o then SMap.get (tableSt s (tableKey u ((o - 0x10000) / 0x1000))).bins 0 (o % 0x1000 / 4)
  else 0

/-! ### Windows 0x2 to 0x4 -/

/-- A word of window 0x2 (R251). -/
def gnssWord (s : State) (off : Nat) : Word :=
  let x := gch s (off / 0x400)
  match off % 0x400 with
  | 0x00 => at32 x.state.toNat 0 ||| at32 x.signal.toNat 4 ||| at32 x.sv.toNat 8 ||| flag x.ant 16 ||| at32 x.spacing.toNat 17
      ||| flag x.slip 24 ||| flag x.excl 25 ||| flag x.suspect 26
  | 0x04 => x.cn0 | 0x08 => x.doppler | 0x0C => x.codePhase | 0x10 => lo32 x.carrier | 0x14 => hi32 x.carrier
  | 0x18 => x.lockMs | 0x1C => x.aid | 0x20 => at32 x.cause.toNat 0
  | _ => 0

/-- Eight pixels of a plane from a byte offset on: even x in bits 3:0 of a byte (R409). -/
def pixelWord (m : SMap Nat) (off : Nat) : Word :=
  (List.range 8).foldl (fun w i => w ||| at32 (SMap.get m 0 (2 * off + i) % 16) (4 * i)) 0

/-- A ledger as int16. -/
def ledgerField (s : State) (p : Nat) : Nat := (SMap.get s.panel.ledger 0 p % 65536).toNat

/-- Bytes of a plane of 1,280 by 960 pixels. -/
def planeBytes : Nat := 614400

/-- A word of window 0x3 (R409). -/
def panelWord (s : State) (off : Nat) : Word :=
  if off < 0x100000 then (if off < planeBytes then pixelWord s.panel.pendingPlane off else 0)
  else if off < 0x200000 then (if off - 0x100000 < planeBytes then pixelWord s.panel.committed (off - 0x100000) else 0)
  else if off < 0x500000 then
    let p := (off - 0x200000) / 2
    if p < 1228800 then at32 (ledgerField s p) 0 ||| at32 (ledgerField s (p + 1)) 16 else 0
  else if (off - 0x500000) / 4 < 19200 then at32 (SMap.get s.panel.stress 0 ((off - 0x500000) / 4)) 0
  else 0

/-- A word of window 0x4: slot i at 128 × i (R374). -/
def skeinWord (s : State) (off : Nat) : Word :=
  match SMap.find (shownRing s) (off / 128) with
  | some r => (recordWords r).getD (off % 128 / 4) 0
  | none => 0

/-- A word of a window at an offset inside it. -/
def winWord (s : State) (w off : Nat) : Word :=
  match w with
  | 1 => if laneActive s then twistWord s off else 0
  | 2 => gnssWord s off
  | 3 => panelWord s off
  | 4 => skeinWord s off
  | _ => 0

/-- A word written to the pending plane of window 0x3; every other place is read-only, so that nothing changes and RANGE is set. -/
def winPut (s : State) (w off : Nat) (v : Word) : Option State :=
  if w = 3 && decide (off < planeBytes) then
    some { s with panel := { s.panel with
      pendingPlane := (List.range 8).foldl (fun m i => SMap.put m 0 (2 * off + i) (field v (4 * i + 3) (4 * i))) s.panel.pendingPlane } }
  else none

/-! ### IND_DATA (R70) -/

/-- A target that does not answer within 20 µs: its clock stopped, it is being re-initialised, or the service responder does not serve
it (R70, R367). -/
def winSilent (s : State) (w : Nat) : Bool :=
  match w with
  | 1 => laneActive s && laneStopped s
  | 2 => decide (clkSrc s 5 = .stopped) || responder s || restarts s 24
  | 3 => decide (clkSrc s 6 = .stopped) || restarts s 40
  | 4 => restarts s 41
  | _ => false

/-- The window that IND_CTRL selects, and the offset: bits 1:0 are ignored. -/
def indWindow (p : PerReq) : Nat := p.indWin.toNat
def indOffset (p : PerReq) : Nat := p.indAddr.toNat / 4 * 4

/-- After an access: the address advances where AINC is set, and a failure is noted. -/
def indDone (who : Requester) (range tmo : Bool) (s : State) : State :=
  let p := perReq s who
  setPerReq who { p with
    indAddr := if p.indAinc then p.indAddr + 4 else p.indAddr
    indRange := p.indRange || range, indTmo := p.indTmo || tmo } s

/-- A read of IND_DATA. -/
def indRead (who : Requester) (s : State) : Word × State :=
  let p := perReq s who
  let w := indWindow p
  if winSize w = 0 then (0, indDone who false false s)
  else if winSize w ≤ indOffset p then (0, indDone who true false s)
  else if winSilent s w then (0, indDone who false true s)
  else (winWord s w (indOffset p), indDone who false false s)

/-- A write of IND_DATA. -/
def indWrite (who : Requester) (v : Word) (s : State) : State :=
  let p := perReq s who
  let w := indWindow p
  if winSize w = 0 then indDone who false false s
  else if winSize w ≤ indOffset p then indDone who true false s
  else if winSilent s w then indDone who false true s
  else match winPut s w (indOffset p) v with
    | some s => indDone who false false s
    | none => indDone who true false s

end Sys2Proof.Machine
end

