-- ==== Sys2Proof/Machine/CopCheck.lean ====
section
/-! DEFINITION. Validation of a cop (R172 to R175): every check of the table, in its order, over the cop's records. -/
namespace Sys2Proof.Machine

/-- A refusal: its code, and the section and record that COP_DETAIL names. -/
structure CopFault where
  code : BitVec 16
  section_ : Nat
  record : Nat
  deriving DecidableEq, Repr

/-- The first record of a section that breaks a check. -/
def firstBad {α : Type} (code : BitVec 16) (sec : Nat) (l : List α) (bad : Nat → α → Bool) : Option CopFault :=
  ((List.range l.length).find? fun n => match l[n]? with
    | some x => bad n x
    | none => false).map fun n => { code := code, section_ := sec, record := n }

/-- A check of the cop as a whole. -/
def whole (code : BitVec 16) (sec : Nat) (bad : Bool) : Option CopFault :=
  if bad then some { code := code, section_ := sec, record := 0 } else none

/-- Whether an element equals an earlier one. -/
def repeated {α β : Type} [DecidableEq β] (l : List α) (key : α → β) (n : Nat) (x : α) : Bool :=
  (l.take n).any fun y => decide (key y = key x)

/-- The words a task can reach. -/
def taskWords (c : Cop) (t : TaskDecl) : List Word := (pointsOf c t).map (·.word)

/-! ### Header and directory (0x01xx) -/

/-- Checks 0x0101 to 0x0104, made over the original bytes; `bad` says that COMMIT found another digest than BEGIN named (R168, R172, R174,
R175). -/
def headerCheck (l : List Byte) (bad : Bool) (key : BitVec 520) : Option CopFault :=
  whole 0x0101 0 (!magicOk l)
    <|> whole 0x0102 0 (bad || !digestOk l)
    <|> whole 0x0103 0 (decide (leAt l 4 2 ≠ 2) && decide (leAt l 4 2 ≠ 3))
    <|> whole 0x0104 15 (decide (key ≠ 0) && !signatureOk l key)

/-- Checks 0x0105 to 0x0107; ID_ISA reports T1 to T3 (R140). -/
def directoryCheck (l : List Byte) : Option CopFault :=
  whole 0x0105 0 (decide (leAt l 6 1 < 1) || decide (3 < leAt l 6 1))
    <|> whole 0x0106 0 (!sectionsOk l)
    <|> whole 0x0107 0 (decide (leAt l 7 1 ≠ 2))

/-! ### Code and tasks (0x02xx, 0x03xx) -/

/-- Data regions of a Spindle: keep and scratch of its tasks and its constants, as base and size in bytes (R77). -/
def taskRegions (t : TaskDecl) : List (Nat × Nat) := [(t.keepBase, t.keepSize), (t.scratchBase, t.scratchSize)]
def constRegion (i : SpindleImage) : Nat × Nat := (i.constBase, 4 * i.consts.length)

/-- Whether two regions share a byte, and whether a region leaves the data SRAM. -/
def clash (a b : Nat × Nat) : Bool :=
  decide (0 < a.2) && decide (0 < b.2) && decide (a.1 < b.1 + b.2) && decide (b.1 < a.1 + a.2)
def outside (a : Nat × Nat) : Bool := decide (0 < a.2) && decide (0x20000 < a.1 + a.2)

/-- Whether any two regions of a list share a byte. -/
def anyClash : List (Nat × Nat) → Bool
  | [] => false
  | a :: r => r.any (clash a) || anyClash r

/-- 0x0204: a task's regions leave the SRAM or clash with one another, with its Spindle's constants or with an earlier task's (R77). -/
def regionsBad (c : Cop) (n : Nat) (t : TaskDecl) : Bool :=
  let mine := taskRegions t
  let consts := (c.images.filter fun i => decide (i.spindle = t.spindle)).map constRegion
  let before := ((c.tasks.take n).filter fun u => decide (u.spindle = t.spindle)).flatMap taskRegions
  mine.any outside || anyClash mine || mine.any fun a => (consts ++ before).any (clash a)

/-- 0x0205: a field of a task lies outside R79, its priority is taken, its Spindle has 16 tasks before it, or a handle names
nothing declared. -/
def taskFieldBad (c : Cop) (n : Nat) (t : TaskDecl) : Bool :=
  let mates := (c.tasks.take n).filter fun u => decide (u.spindle = t.spindle)
  let fields := decide (t.spindle < 64) && decide (t.priority < 16)
    && (if t.arrival then decide (t.bobbin < 128) && decide (1 ≤ t.spacingUs) && decide (t.spacingUs ≤ 1000000)
        else decide (1 ≤ t.period) && decide (t.period ≤ 10000) && decide (t.offset < t.period))
    && decide (t.settleUs ≤ 1000) && decide (t.settleUs ≤ t.deadlineUs) && decide (t.deadlineUs ≤ 10000000)
    && decide (1 ≤ t.budget) && decide (t.budget ≤ 5000000)
    && ([t.keepBase, t.keepSize, t.scratchBase, t.scratchSize].all fun k => decide (k % 64 = 0))
    && decide (t.sigs.length ≤ 256) && decide (t.loops.length ≤ 64) && decide (t.outs.length ≤ 64) && decide (t.bobs.length ≤ 16)
  let handles := (t.sigs.all fun h => (sigDecl c h.signal).isSome) && (t.loops.all fun k => (loopDecl c k.1 k.2).isSome)
    && (t.outs.all fun ch => (outDecl c ch).isSome) && t.bobs.all fun b => c.bobbins.any fun d => decide (d.number = b)
  !fields || !handles || decide (16 ≤ mates.length) || mates.any fun u => decide (u.priority = t.priority)

/-- 0x0206 of a task: a bar in a loop body, or of a group that does not list the task (R138). -/
def barBad (c : Cop) (n : Nat) (t : TaskDecl) : Bool :=
  (pointsOf c t).any fun x => decide (opMajor x.word = 0x1F) &&
    (!x.loops.isEmpty || !(c.barriers.any fun g => decide (g.group = field x.word 3 0) && g.tasks.contains n))

/-- 0x0206 of a group: two participants on one Spindle, unequal grids, or a path that does not execute the barrier exactly once (R91, R138). -/
def groupBad (c : Cop) (g : BarrierDecl) (n : Nat) : Bool :=
  match c.tasks[n]? with
  | none => true
  | some t => t.arrival || !barOnce c t g.group ||
      g.tasks.any fun m => match c.tasks[m]? with
        | none => true
        | some u => decide (m ≠ n) && (decide (u.spindle = t.spindle) || decide (u.period ≠ t.period) || decide (u.offset ≠ t.offset))

/-- The records of the largest checkpoint slot as R310 adds them up: section, record, bytes. -/
def slotRecords (c : Cop) : List (Nat × Nat × Nat) :=
  let tasks := c.tasks.zipIdx
  let loops := c.loops.length
  tasks.map (fun e => (2, e.2, 16)) ++ tasks.map (fun e => (2, e.2, e.1.keepSize))
    ++ ((c.signals.zipIdx.filter fun e => byTask e.1.writer).map fun e => (3, e.2, 16))
    ++ (List.range loops).map (fun n => (5, n, 64)) ++ (List.range c.tables.length).map fun n => (5, loops + n, 4160)

/-- The record at which the running sum first passes 2 MiB (R22, R310). -/
def slotPasses : Nat → List (Nat × Nat × Nat) → Option CopFault
  | _, [] => none
  | sum, (sec, rec_, n) :: r =>
    if 2097152 < sum + n then some { code := 0x0204, section_ := sec, record := rec_ } else slotPasses (sum + n) r

/-- 0x0204 for the checkpoint: the header and the fixed sections of Ply and the position engine, then the cop's records (R310). -/
def slotCheck (c : Cop) : Option CopFault := slotPasses (64 + 65536 + 196608) (slotRecords c)

/-- The checks of code and tasks, in the order of the table: 0x0303 stands before 0x0302 (R172). -/
def codeCheck (c : Cop) : Option CopFault :=
  firstBad 0x0201 1 c.tasks (fun _ t => !((taskWords c t).all (wordOk c.minIsa)))
    <|> firstBad 0x0202 1 c.tasks (fun _ t => !((taskWords c t).all (handleOk t)))
    <|> firstBad 0x0203 1 c.tasks (fun _ t => !flowOk c t)
    <|> firstBad 0x0204 1 c.images (fun _ i => decide (16384 < i.code.length) || outside (constRegion i))
    <|> firstBad 0x0204 2 c.tasks (regionsBad c)
    <|> slotCheck c
    <|> firstBad 0x0205 2 c.tasks (taskFieldBad c)
    <|> firstBad 0x0206 2 c.tasks (fun n t => barBad c n t || (c.barriers.any fun g => g.tasks.contains n && groupBad c g n))
    <|> whole 0x0206 2 (c.barriers.any fun g => decide (15 < g.group) || g.tasks.any fun m => decide (c.tasks.length ≤ m))
    <|> firstBad 0x0207 1 c.tasks (fun n t => !((taskWords c t).all (roleOk c n t)))
    <|> firstBad 0x0301 2 c.tasks (fun _ t => decide (t.budget < worstCase c t))
    <|> (onCycle c).map (fun n => { code := 0x0303, section_ := 2, record := n })
    <|> (deadlineFails c).map (fun n => { code := 0x0302, section_ := 2, record := n })

/-! ### Signals and Bobbins (0x04xx) -/

/-- What writes a signal beside its record's WRITER: the class, and which element of the block (R97). -/
abbrev Source_ := Nat × Writer × Nat

/-- The writers that the blocks' own records declare. -/
def blockWriters (c : Cop) : List Source_ :=
  (c.ain.filterMap fun a => if a.mode = .off then none else some (a.signal, .analog, a.input))
    ++ (c.shafts.flatMap fun h => [(h.angleSig, .shaft, 2 * h.track), (h.speedSig, .shaft, 2 * h.track + 1)])
    ++ (c.sensors.flatMap fun p =>
        (List.zip (portSignals p) (List.range 512)).map fun e => (e.1, .port, 512 * p.port + e.2))
    ++ ((List.zip c.rates (List.range c.rates.length)).map fun e => (e.1.signal, .strike, e.2))
    ++ (c.ply.sources.flatMap fun p =>
        (List.zip (p.outs ++ [p.statSig]) (List.range 64)).filterMap fun e => e.1.map fun g => (g, .ply, 64 * p.number + e.2))
    ++ ((List.zip (c.ply.pose.filterMap id ++ c.ply.exclLo.toList ++ c.ply.exclHi.toList) (List.range 64)).map fun e => (e.1, .ply, 65536 + e.2))
    ++ (c.can.flatMap fun k => k.filters.flatMap fun f => f.extract.map fun x => (x.signal, .can, k.ctrl))

/-- Whether a signal has no writer or two: its record names none, or a task that is not declared, or a block's record declares
another writer (R97). -/
def writerBad (c : Cop) (d : SigDecl) : Bool :=
  let own := (blockWriters c).filter fun w => decide (w.1 = d.index)
  decide (d.writer = .none) || (match d.writer with
      | .task n => decide (c.tasks.length ≤ n)
      | _ => false)
    || (own.any fun w => decide (w.2.1 ≠ d.writer)) || decide (1 < (own.map (·.2)).eraseDups.length)

/-- Whether a task writes a signal that does not name it (R97, R130). -/
def foreignWrite (c : Cop) (n : Nat) (t : TaskDecl) : Bool :=
  (writesOf c t).any fun g => match sigDecl c g with
    | some d => decide (d.writer ≠ .task n)
    | none => false

/-- 0x0402. -/
def sigDeclBad (c : Cop) (n : Nat) (d : SigDecl) : Bool :=
  decide (131071 < d.index) || repeated c.signals (·.index) n d || decide (d.type < 1) || decide (5 < d.type)
    || !([4, 8, 16, 32, 64].contains d.depth) || decide (10000000 < d.maxAgeUs)

/-- Ring sizes of R102. -/
def bobSizes : List Nat := [4096, 8192, 16384, 32768, 65536, 131072, 262144, 524288, 1048576]

/-- The producers and consumers that other records declare for a Bobbin: its kind as in BOB_CFG, and which element (R102, R109). -/
def bobProducers (c : Cop) : List (Nat × Nat × Nat) :=
  (c.streams.filterMap fun x => match x.kind with
    | .bobbinIn b => some (b, 3, x.chan)
    | _ => none)
    ++ (c.strikeBobbin.toList.map fun b => (b, 4, 0)) ++ (c.captureBobbin.toList.map fun b => (b, 4, 1))
    ++ ((List.zip c.ply.yields (List.range 64)).map fun e => (e.1.bobbin, 5, e.2))
    ++ c.can.flatMap fun k => k.filters.flatMap fun f =>
        (f.queue.toList.map fun q => (2 * k.ctrl + q.val, 2, 2 * k.ctrl + q.val)) ++ f.ply.toList.map fun p => (p.bobbin, 2, 64 + k.ctrl)
def bobConsumers (c : Cop) : List (Nat × Nat × Nat) :=
  (c.streams.filterMap fun x => match x.kind with
    | .bobbinOut b => some (b, 3, x.chan)
    | _ => none)
    ++ (c.ply.sources.filterMap fun p => p.bobbin.map fun b => (b, 5, p.number))
    ++ (c.can.flatMap fun k => k.feeds.map fun f => (f.2, 2, 4 * k.ctrl + f.1))
    ++ (List.zip c.tasks (List.range c.tasks.length)).filterMap fun e => if e.1.arrival then some (e.1.bobbin, 1, e.2) else none

/-- 0x0405: a Bobbin beyond 127, a receive queue that no CAN controller fills, one declared twice, or one to which other records give a
producer or consumer that its own does not name, or two: another kind, another task, two elements of one kind (R102). -/
def bobAssignBad (c : Cop) (n : Nat) (d : BobDecl) : Bool :=
  let ps := (bobProducers c).filter fun e => decide (e.1 = d.number)
  let cs := (bobConsumers c).filter fun e => decide (e.1 = d.number)
  decide (127 < d.number) || repeated c.bobbins (·.number) n d || (decide (d.number < 32) && decide (d.producer ≠ 2))
    || (ps.any fun e => decide (e.2.1 ≠ d.producer)) || (cs.any fun e => decide (e.2.1 ≠ d.consumer))
    || decide (1 < (ps.map (·.2)).eraseDups.length) || decide (1 < (cs.map (·.2)).eraseDups.length)
    || (decide (d.consumer = 1) && cs.any fun e => decide (e.2.2 ≠ d.consumerTask))
    || (decide (d.number < 32) && ps.any fun e => decide (e.2.2 ≠ d.number))

/-- The checks 0x0401 to 0x0405. -/
def dictionaryCheck (c : Cop) : Option CopFault :=
  firstBad 0x0401 3 c.signals (fun _ d => writerBad c d)
    <|> firstBad 0x0401 2 c.tasks (foreignWrite c)
    <|> firstBad 0x0402 3 c.signals (sigDeclBad c)
    <|> firstBad 0x0403 4 c.bobbins (fun _ d => !bobSizes.contains d.size)
    <|> firstBad 0x0404 4 c.bobbins (fun _ d => decide (d.producer = 1) && !d.dropNew)
    <|> firstBad 0x0405 4 c.bobbins (bobAssignBad c)

/-! ### Loops (0x05xx) -/

/-- 0x0501: a gain or limit that breaks R148 or R160. -/
def lawParamBad (d : LoopDecl) : Bool :=
  let deriv := decide (d.type = .pd) || decide (d.type = .pid)
  let integ := decide (d.type = .pi) || decide (d.type = .pid)
  (!integ && (!isZero d.kiH || !isZero d.ktH)) || (deriv && isZero d.kp)
    || !(fle 0x3F800000 d.n && fle d.n 0x42C80000) || flt d.ktH 0 || flt d.rate 0 || flt d.outHi d.outLo

/-- The tasks that hold step rights to a loop (R134). -/
def steppers (c : Cop) (k : Nat × Nat) : List Nat :=
  (List.range c.tasks.length).filter fun n => match c.tasks[n]? with
    | some t => (stepsOf c t).contains k
    | none => false

/-- The step period in ticks as a binary32 number of seconds (R143, R164). -/
def periodWord (ticks : Nat) : Word := fOfRat ticks 10000

/-- Whether a loop's H differs from the period of the task that steps it: that of its own handle, or of its outer loop or head,
an outer loop's being scaled by K (R154, R156, R164). -/
def periodBad (c : Cop) (d : LoopDecl) : Bool :=
  let top := match d.nest with
    | .inner => d.link
    | .member => if d.member = 0 then d.loop else d.link
    | _ => d.loop
  let k := match d.nest with
    | .outer => ((loopDecl c d.unit d.link).map (·.k)).getD 1
    | _ => 1
  (steppers c (d.unit, top)).any fun n => match c.tasks[n]? with
    | some t => if t.arrival then decide (d.nest ≠ .single) else !feq d.h (periodWord (t.period * k))
    | none => false

/-- Whether the LINK fields of a cascade or group agree (R154, R156). -/
def linkBad (c : Cop) (d : LoopDecl) : Bool :=
  match d.nest with
  | .single => false
  | .outer => match loopDecl c d.unit d.link with
    | some e => decide (e.nest ≠ .inner) || decide (e.link ≠ d.loop) || decide (e.k < 1) || decide (64 < e.k)
    | none => true
  | .inner => match loopDecl c d.unit d.link with
    | some e => decide (e.nest ≠ .outer) || decide (e.link ≠ d.loop)
    | none => true
  | .member =>
    let head := if d.member = 0 then some d else loopDecl c d.unit d.link
    match head with
    | none => true
    | some h =>
      let g := c.loops.filter fun e => decide (e.unit = d.unit) && decide (e.nest = .member)
        && (decide (e.loop = h.loop) || decide (e.link = h.loop))
      decide (h.nest ≠ .member) || decide (h.member ≠ 0) || decide (g.length < 2) || decide (8 < g.length) || decide (7 < d.member)
        || decide ((g.filter fun e => decide (e.member = d.member)).length ≠ 1) || (g.any fun e => !feq e.h d.h) || d.rcEn

/-- Whether a loop's table is missing or serves another loop (R151, R160). -/
def tableUseBad (c : Cop) (d : LoopDecl) : Bool :=
  d.rcEn && (match tableDecl c d.unit d.rcTable with
    | some t => decide (t.loop ≠ d.loop)
    | none => true)

/-- Whether the channels a loop reads back are not commanded from it (R160). -/
def readbackBad (c : Cop) (d : LoopDecl) : Bool :=
  let handles := match d.readback with
    | .none => []
    | .solPair => [d.rbA, d.rbB]
    | _ => [d.rbA]
  let top := match d.nest with
    | .inner => d.link
    | .member => if d.member = 0 then d.loop else d.link
    | _ => d.loop
  !(handles.all fun k => (steppers c (d.unit, top)).any fun n => match c.tasks[n]? with
    | some t => match t.outs[k]? with
      | some ch => tracesU c t { d with loop := top } ch
      | none => false
    | none => false)

/-- 0x0502 of a loop record. -/
def loopBad (c : Cop) (n : Nat) (d : LoopDecl) : Bool :=
  decide (7 < d.unit) || decide (63 < d.loop) || repeated c.loops (fun e => (e.unit, e.loop)) n d || periodBad c d || linkBad c d
    || tableUseBad c d || readbackBad c d

/-- 0x0502 of a table record: its numbers, a repeated record, or an angle that the shaft inputs do not write (R160). -/
def tableBad (c : Cop) (n : Nat) (d : TableDecl) : Bool :=
  decide (7 < d.unit) || decide (15 < d.table) || repeated c.tables (fun e => (e.unit, e.table)) n d
    || decide (1 < (c.loops.filter fun e => e.rcEn && decide (e.unit = d.unit) && decide (e.rcTable = d.table)).length)
    || decide ((sigDecl c d.angle.signal).map (·.writer) ≠ some .shaft)

/-- 0x0502 of a task: a handle of an inner loop or of a member that is no head, or a step of a loop whose unit its Spindle is not
bound to (R91, R160). -/
def taskLawBad (c : Cop) (t : TaskDecl) : Bool :=
  (t.loops.any fun k => match loopDecl c k.1 k.2 with
    | some d => decide (d.nest = .inner) || (decide (d.nest = .member) && decide (d.member ≠ 0))
    | none => false)
    || (stepsOf c t).any fun k => !(bound c k.1).contains t.spindle

/-- The checks 0x0501 to 0x0503. -/
def lawCheck (c : Cop) : Option CopFault :=
  firstBad 0x0501 5 c.loops (fun _ d => lawParamBad d)
    <|> firstBad 0x0502 5 c.loops (loopBad c)
    <|> (firstBad 0x0502 5 c.tables (tableBad c)).map (fun f => { f with record := c.loops.length + f.record })
    <|> whole 0x0502 5 (c.bindings.any fun b => decide (7 < b.1) || decide (8 < b.2.length))
    <|> firstBad 0x0502 2 c.tasks (fun _ t => taskLawBad c t)
    <|> firstBad 0x0503 5 c.loops (fun _ d => decide (1 < (steppers c (d.unit, d.loop)).length))

/-! ### Outputs (0x06xx) -/

/-- R_on of a load switch at a hot die, by its class, in 0.1 mΩ (R262, R266). -/
def lswRon (n : Nat) : Nat := if n % 12 = 0 then 72 else if n % 12 < 4 then 216 else 720

/-- The solenoid records of a group. -/
def groupDecls (c : Cop) (g : Nat) : List OutDecl :=
  c.outputs.filter fun d => match d.chan with
    | .sol n => decide (n / 4 = g)
    | .lsw _ => false

/-- 0x0602 of an output record: its ratings (R167, R267, R276, R281, R282). -/
def outFieldBad (c : Cop) (d : OutDecl) : Bool :=
  match d.chan with
  | .lsw n => decide (47 < n) || d.odd || decide (lswRating n < d.iNom) || decide (lswLimit n < d.iInrush) || d.neutral
      || (d.pwm && (decide (d.freq < 10) || decide (1000 < d.freq)))
  | .sol n =>
    let others := (groupDecls c (n / 4)).filter fun e => decide (e.chan ≠ d.chan)
    decide (31 < n) || d.odd || decide (8000 < d.iPeak) || decide (200 < d.tPeak) || decide (d.iHold < 100) || decide (3000 < d.iHold)
      || decide (d.freq < 2000) || decide (20000 < d.freq) || decide (14000 < d.iPeak + (others.map (·.iHold)).sum)
      || (others.any fun e => decide (e.quenchFast ≠ d.quenchFast)) || d.shutOn || decide (d.deferMax < 1)
      || decide (500 < d.deferMax) || (decide (d.r20 ≠ 0) && (decide (d.coilTmax < 60) || decide (250 < d.coilTmax)))

/-- 0x0602 of a profile record (R288). -/
def profileBad (c : Cop) (n : Nat) (p : ProfileDecl) : Bool :=
  decide (15 < p.number) || repeated c.profiles (·.number) n p || decide (p.tPeakUs ≤ p.riseMaxUs) || decide (8000 < p.peak)
    || p.odd || decide (p.dip < 10) || decide (2000 < p.dip)

/-- 0x0603: the record at which the holds of a solenoid group pass 10 A (R172, R281). -/
def holdPasses (c : Cop) (n : Nat) (d : OutDecl) : Bool :=
  match d.chan with
  | .sol k => decide (10000 < (((c.outputs.take (n + 1)).filter fun e => match e.chan with
      | .sol j => decide (j / 4 = k / 4)
      | .lsw _ => false).map (·.iHold)).sum)
  | .lsw _ => false

/-- The supply of a channel: VLOAD1 to VLOAD4 as 0 to 3 (R253, R266). -/
def supplyOf : Chan → Nat
  | .lsw n => n / 12
  | .sol n => n / 8

/-- The parts of an output's claim: c, x, T in ns, and what INST holds afterwards, mA (R255). -/
def claimParts (d : OutDecl) : Nat × Nat × Nat × Nat :=
  match d.chan with
  | .lsw _ => if d.pwm then (dutyPart d, d.iInrush, d.tInrush * 100000, d.iNom) else (d.iNom, d.iInrush, d.tInrush * 100000, d.iNom)
  | .sol _ => (d.iHold, d.iPeak, d.tPeak * 100000, d.iHold)

/-- CMAX, IMAX and the largest transient excess of a supply (R262). -/
def mixOf (c : Cop) (s : State) (k : Nat) : Nat × Nat × Nat :=
  let ds := (c.outputs.filter fun d => decide (supplyOf d.chan = k)).map claimParts
  let cont := (ds.map fun p => if peakTimeNs s k < p.2.2.1 then p.2.1 else p.1).sum
  let pwm := (ds.map fun p => p.2.2.2 - p.1).sum
  let excess := (ds.map fun p => if peakTimeNs s k < p.2.2.1 then 0 else p.2.1 - p.2.2.2).foldl max 0
  (cont, cont + pwm, excess)

/-- The VBAT current of the cop's declared ports, SUPs and panel and of the enabled antennas, mA (R259, R262). -/
def vbatDeclared (c : Cop) (s : State) : Nat :=
  (c.sensors.map fun p => if p.mode = 0 then 0 else if p.mode = 3 then 40 else 100).sum
    + (c.sups.map fun u => if u.tenV then 150 else 80).sum
    + (if s.gnss.bias0 then 100 else 0) + (if s.gnss.bias1 then 100 else 0) + (if c.panel.isSome then 250 else 0)

/-- 0x0604 (R262). -/
def currentBad (c : Cop) (s : State) : Bool :=
  ((List.range 4).any fun k =>
    let m := mixOf c s k
    decide (contLimit s k < m.1) || decide (contLimit s k < m.2.1) || decide (peakLimit s k < m.2.1 + m.2.2))
    || decide (s.tally.inTotal.toNat * 100 < ((List.range 4).map fun k => (mixOf c s k).1).sum)
    || decide (5000 < 1300 + 1800 + vbatDeclared c s + 200)

/-- Whether the handover sum fits, which sets COP_STATUS.HOVER (R262). -/
def handoverFits (c : Cop) (s : State) : Bool := decide (1300 + 600 + 2000 + 150 + vbatDeclared c s ≤ 5000)

/-- The continuous dissipation of an output in 10⁻¹⁰ W (R262). -/
def outHeat (d : OutDecl) : Nat :=
  match d.chan with
  | .lsw n =>
    if d.pwm then
      (if d.dutyMax = 0x7FFFFFFF then d.iNom * d.iNom * lswRon n else d.iNom * d.iNom * lswRon n * d.dutyMax.toNat / 2147483648)
        + 200000 * d.freq
    else d.iNom * d.iNom * lswRon n
  | .sol _ => d.iHold * d.iHold * 600 + 25000 * d.freq

/-- The cop's continuous dissipation in 10⁻¹⁰ W. -/
def heatOf (c : Cop) : Nat := (c.outputs.map outHeat).sum

/-- The checks 0x0601 to 0x0605. -/
def outputCheck (c : Cop) (s : State) : Option CopFault :=
  let cmds := c.tasks.map (commandsOf c)
  let count := c.outputs.length
  let at_ := fun (f : CopFault) => { f with record := ((c.outputs[f.record]?).map OutDecl.record).getD 0 }
  (firstBad 0x0601 7 c.outputs (fun n d => repeated c.outputs (·.chan) n d
      || decide (1 < (cmds.filter fun l => l.contains d.chan).length))).map at_
    <|> (firstBad 0x0602 7 c.outputs (fun n d => outFieldBad c d || decide (count ≤ d.armOrder) || decide (count ≤ d.shutOrder)
      || repeated c.outputs (·.armOrder) n d || repeated c.outputs (·.shutOrder) n d)).map at_
    <|> (firstBad 0x0602 7 c.profiles (profileBad c)).map (fun f => { f with record := ((c.profiles[f.record]?).map ProfileDecl.record).getD 0 })
    <|> (firstBad 0x0603 7 c.outputs (holdPasses c)).map at_
    <|> whole 0x0604 7 (currentBad c s)
    <|> whole 0x0605 7 (decide (210000000000 < heatOf c))

/-! ### Other blocks (0x07xx) -/

/-- Whether a phase's bit timing lies in its ranges (R334). -/
def timingOk (b : BitTiming) (t1 t2 : Nat) : Bool :=
  decide (1 ≤ b.brp) && decide (b.brp ≤ 32) && decide (2 ≤ b.tseg1 || t1 = 32) && decide (1 ≤ b.tseg1) && decide (b.tseg1 ≤ t1)
    && decide (2 ≤ b.tseg2 || t2 = 16) && decide (1 ≤ b.tseg2) && decide (b.tseg2 ≤ t2) && decide (1 ≤ b.sjw) && decide (b.sjw ≤ b.tseg2)

/-- CANC cycles of a bit: the rate is 80 MHz over this. -/
def bitCycles (b : BitTiming) : Nat := b.brp * (1 + b.tseg1 + b.tseg2)

/-- 0x0701: bit timing, filter pairs, and a feed for buffer 2 of the update chain's controller (R334, R335, R381). -/
def canProgBad (s : State) (k : CanDecl) : Bool :=
  let nom := bitCycles k.nbt
  let dat := bitCycles k.dbt
  !timingOk k.nbt 256 128 || decide (nom < 80) || decide (127 < k.sspOffset) || decide (64 < k.filters.length)
    || (k.fd && (!timingOk k.dbt 32 16 || decide (dat < 10) || decide (nom < dat) || (decide (dat < 40) && !k.tdc)))
    || ((decide (field s.upd.chain 31 30 = 2) || decide (field s.upd.chain 29 28 = 2)) && decide (k.ctrl = field s.upd.chain 27 24)
        && k.feeds.any fun f => decide (f.1 = 2))

/-- Whether a PSI5 port's slots fit its period one after another (R189). -/
def slotsOk (period : Nat) : Nat → List Psi5Slot → Bool
  | _, [] => true
  | from_, x :: r => decide (from_ ≤ x.startNs) && decide (0 < x.lengthNs) && decide (x.startNs + x.lengthNs ≤ period)
      && decide (-10000000 ≤ x.sampleOffsetNs) && decide (x.sampleOffsetNs ≤ 1000000) && slotsOk period (x.startNs + x.lengthNs) r

/-- Whether a sensor port's schedule is feasible and its record in range (R188 to R190; a PORTS record out of range, for which the spec
names no code, is refused with the code of the port schedules: log entry 96). -/
def sensorOk (p : SensorDecl) : Bool :=
  if p.mode = 1 || p.mode = 2 then
    decide (228000 ≤ p.periodNs) && decide (p.periodNs ≤ 10000000) && decide (p.periodNs % 1000 = 0) && decide (p.slots.length ≤ 4)
      && slotsOk p.periodNs 0 (sortBy (fun a b => a.startNs ≤ b.startNs) p.slots)
      && (p.slots.all fun w => decide (10 ≤ w.bits) && decide (w.bits ≤ 24))
  else if p.mode = 3 then
    decide (3000 ≤ p.tickNs) && decide (p.tickNs ≤ 90000) && decide (p.tickNs % 500 = 0) && decide (1 ≤ (p.fast.map (·.2)).sum)
      && decide ((p.fast.map (·.2)).sum ≤ 6) && decide (p.slowFormat ≤ 2)
  else true

/-- Whether an analog input's record lies in the ranges of R178 and R179. -/
def ainOk (a : AinDecl) : Bool :=
  decide (a.input < 96) && [1, 2, 5, 10, 20, 50].contains a.d && decide (10 ≤ a.thrTenthV) && decide (a.thrTenthV ≤ 90)
    && decide (a.supply.getD 0 < 16)

/-- The SHF inputs of a track (R184). -/
def shaftInputs (h : ShaftDecl) : List Nat := h.a :: h.b.toList ++ h.z.toList

/-- Whether a track's record lies in the ranges of R184, its SHF inputs its own. -/
def shaftOk (c : Cop) (h : ShaftDecl) : Bool :=
  decide (1 ≤ h.teeth) && decide (h.teeth ≤ 1024) && decide (1 ≤ h.n) && decide (h.n ≤ h.teeth) && decide (200 ≤ h.filterNs)
    && decide (h.filterNs ≤ 50000) && [1000, 2000, 5000, 10000, 20000].contains h.rateHz && decide (1000000 ≤ h.stopNs)
    && decide (h.stopNs ≤ 10000000000) && decide (h.indexTooth < h.teeth) && decide (h.track < 16)
    && (shaftInputs h).all fun i => decide (i < 16) && decide (((c.shafts.flatMap shaftInputs).filter fun j => decide (j = i)).length = 1)

/-- Whether a port's gate list is feasible: its entries, a cycle of at most 1 s, and some gate open for the PCP of untagged frames
where the port's VLAN is declared (R348). -/
def gatesOk (c : Cop) (e : EthDecl) : Bool :=
  decide (e.gcl.length ≤ 64) && (e.gcl.all fun g => decide (1000 ≤ g.intervalNs) && decide (g.intervalNs ≤ 1000000000))
    && decide ((e.gcl.map (·.intervalNs)).sum ≤ 1000000000)
    && (e.gcl.isEmpty || !(c.vlans.any fun v => decide (v.vid = e.pvid)) || e.gcl.any fun g => bit g.gates e.pcp)

/-- 0x0703: a source field outside R212, a source that could never contribute (R217), or a GNSS one that allows for less than 15 ms (R246). -/
def plySourceBad (c : Cop) (n : Nat) (p : PlySource) : Bool :=
  decide (63 < p.number) || repeated c.ply.sources (·.number) n p || decide (p.angles.length < 1) || decide (8 < p.angles.length)
    || (match p.bobbin with
        | some b => decide (b < 32) || decide (127 < b)
        | none => decide (8 < p.signals.length))
    || decide (p.latencyNs < 1000) || decide (100000000 < p.latencyNs) || decide (p.validityNs < 100000)
    || decide (2000000000 < p.validityNs) || decide (p.validityNs < p.horizonNs)
    || (p.mapped && (decide (p.frameNs < 100000) || decide (1000000000 < p.frameNs) || decide (p.driftTenthPpm < 1)
        || decide (10000 < p.driftTenthPpm) || decide (p.resNs < 1) || decide (100000 < p.resNs) || decide (16 < p.ko) || decide (16 < p.kr)))
    || decide (p.qn < 1) || decide (64 < p.qn) || decide (p.noise.length ≠ p.angles.length)
    || decide (p.horizonNs + c.ply.delayUs * 1000 < p.latencyNs)
    || ((decide (p.role = .gnssPos) || decide (p.role = .gnssHdg)) && decide (p.latencyNs < 15000000))

/-- 0x0703: the section's own fields outside R216, R223, R225 and R228 (the code DESIGN CHOICE, log entry 96). -/
def plyBad (p : PlyDecl) : Bool :=
  !([1, 2, 5, 10, 20, 50, 100] : List Nat).contains p.periodMs || decide (p.delayUs < 10) || decide (100000 < p.delayUs) || decide (p.aidDiv < 1)
    || decide (100 < p.aidDiv) || decide (p.posTimeoutMs < 100) || decide (60000 < p.posTimeoutMs) || decide (4 < p.yields.length)
    || p.yields.any fun y => decide (y.periodMs < 100) || decide (10000 < y.periodMs) || decide (y.periodMs % 10 ≠ 0)

/-- 0x0705: line length, blanking and frame rate, taken to a tenth of 1 Hz, and assets that do not fit (R395). -/
def panelBad (p : PanelDecl) : Bool :=
  let frame := (p.height + p.vblank) * p.line * 40
  decide (p.line * 4 < p.width + 64) || decide (p.vblank < 2) || decide (64 < p.vblank) || decide (frame * 8505 ≤ 100000000000)
    || decide (100000000000 < frame * 4995) || !p.assetsFit

/-- The checks 0x0701 to 0x0706. -/
def blockCheck (c : Cop) (s : State) : Option CopFault :=
  firstBad 0x0701 6 c.can (fun _ k => canProgBad s k)
    <|> firstBad 0x0702 11 c.ain (fun _ a => !ainOk a)
    <|> firstBad 0x0702 11 c.shafts (fun _ h => !shaftOk c h)
    <|> firstBad 0x0702 11 c.sensors (fun _ p => !sensorOk p)
    <|> firstBad 0x0702 11 c.eth (fun _ e => !gatesOk c e)
    <|> whole 0x0703 8 (decide (64 < c.ply.sources.length) || plyBad c.ply)
    <|> firstBad 0x0703 8 c.ply.sources (plySourceBad c)
    <|> firstBad 0x0704 9 c.strike (fun _ x => decide (4 < x.templates.length)
      || x.templates.any fun t => decide (t.2.2.length ≠ 64))
    <|> firstBad 0x0705 10 c.panel.toList (fun _ p => panelBad p)
    <|> firstBad 0x0706 11 c.streams (fun n x => decide (x.chan < 1) || decide (95 < x.chan) || repeated c.streams (·.chan) n x)

/-! ### The determinism proof and the whole validation -/

/-- The first failing check of the determinism proof (R89, R93). -/
def detCheck (c : Cop) : Option CopFault :=
  firstBad 0x0801 1 c.tasks (fun _ t => !taskPure c t) <|> firstBad 0x0802 2 c.tasks (fun _ t => !fallbackOk c t.spindle)

/-- A format 2 cop as its format 3 copy (R175). -/
def migrate (c : Cop) : Cop :=
  if c.format ≠ 2 then c
  else { c with
    format := 3, locks := 0, pauseOk := none
    signals := c.signals.map fun d => { d with maxAgeUs := 0 }
    outputs := c.outputs.map fun d => match d.chan with
      | .sol _ => { d with neutral := false, deferMax := 500 }
      | .lsw _ => d }

/-- What a validation finds: the refusal if any, the first failing check of a determinism proof that was asked for, whether a
handover fits, the continuous dissipation in mW, whether it was migrated and whether its signature verified. -/
structure CopResult where
  cop : Cop
  refusal : Option CopFault
  det : Bool
  detFail : Option CopFault
  hover : Bool
  dissMw : Nat
  migrated : Bool
  signed : Bool
  deriving DecidableEq, Repr

/-- Validation of a cop against the limits in force (R172 to R175, R262): `l` is the slot's bytes, `c0` the records that they hold (`readCop`),
`bad` says that COMMIT found another digest. A format 2 cop whose bytes pass is migrated, and its format 3 copy is checked. -/
def validate (l : List Byte) (bad : Bool) (c0 : Cop) (s : State) : CopResult :=
  let head := headerCheck l bad s.upd.mfrKey
  let c := if head.isNone then migrate c0 else c0
  let first := head <|> directoryCheck l <|> codeCheck c <|> dictionaryCheck c <|> lawCheck c
    <|> outputCheck c s <|> blockCheck c s
  let proof := if c.detRequest && first.isNone then detCheck c else none
  { cop := c
    refusal := if c.detStrict then first <|> proof else first
    det := c.detRequest && proof.isNone
    detFail := if c.detStrict then none else proof
    hover := handoverFits c s
    dissMw := heatOf c / 10000000
    migrated := head.isNone && decide (c0.format = 2)
    signed := head.isNone && decide (s.upd.mfrKey ≠ 0) }

end Sys2Proof.Machine
end

