-- ==== Sys2Proof/Machine/Solenoid.lean ====
section
/-! DEFINITION. Meanings of the solenoid events (R283 to R297, R416). -/
namespace Sys2Proof.Machine

/-- The profile that a channel runs. -/
def runningProfile (s : State) (n : Nat) : Option ProfileDecl := profileOf s (sol s n).profile.toNat

/-- RISE ends: with DETECT set and no dip found, NOMOVE is set, SOL_MOVE reads 0xFFFF and a WARNING is written (R290). -/
def endRise (n : Nat) (s : State) : State :=
  match runningProfile s n with
  | some p =>
    let x := sol s n
    if p.detect && !x.moved then
      raise .warning 0x06 0x0004 [chanWord (.sol n)] (setSol n { x with nomove := true, move := 0xFFFF } s)
    else if p.detect then setSol n { x with nomove := false } s
    else s
  | none => s

/-- SOL_RISE_DONE: the current reaches P_PEAK (R289). -/
def execSolRiseDone (t : Time) (ch : Fin 32) (s : State) : Result :=
  let s := advanceTo t s
  let n := ch.val
  .next <|
  if (sol s n).phase = .rise then
    let s := endRise n s
    setSol n { sol s n with phase := .peak, since := s.sun.time } s
  else s

/-- SOL_ARMATURE_MOVE: the first dip of P_DIP records the time from admission in µs (R290). -/
def execSolArmatureMove (t : Time) (ch : Fin 32) (s : State) : Result :=
  let s := advanceTo t s
  let n := ch.val
  let x := sol s n
  .next <|
  match runningProfile s n with
  | some p =>
    if x.phase = .rise && p.detect && !x.moved then
      setSol n { x with moved := true
                        move := BitVec.ofNat 16 ((s.sun.time.toNat - x.admittedAt.toNat) / 1000) } s
    else s
  | none => s

/-- SOL_RISE_TIMEOUT: P_RISE_MAX passes in RISE, before the peak's time: NORISE, the channel is released, ERROR (R289). -/
def execSolRiseTimeout (t : Time) (ch : Fin 32) (s : State) : Result :=
  let s := advanceTo t s
  let n := ch.val
  let x := sol s n
  .next <|
  match runningProfile s n with
  | some p =>
    if x.phase = .rise && passed s x.admittedAt (p.riseMaxUs * 1000) && decide (p.riseMaxUs * 1000 < x.peakNs) then
      let s := solOff n (endRise n s)
      raise .error 0x06 0x0004 [chanWord (.sol n)] (setSol n { sol s n with norise := true } s)
    else s
  | none => s

/-- SOL_PEAK_END: the clamped P_TPEAK after admission FALL begins and the group stops being peak-busy; out of RISE only where P_RISE_MAX
does not come before it (R289, R291). -/
def execSolPeakEnd (t : Time) (ch : Fin 32) (s : State) : Result :=
  let s := advanceTo t s
  let n := ch.val
  let x := sol s n
  .next <|
  let early := match runningProfile s n with
    | some p => decide (x.phase = .rise) && decide (p.riseMaxUs * 1000 < x.peakNs)
    | none => false
  if (decide (x.phase = .rise) || decide (x.phase = .peak)) && !early && passed s x.admittedAt x.peakNs then
    let s := if x.phase = .rise then endRise n s else s
    let s := endBusy n s
    pumpGroup (n / 4) 4
      (setSol n { sol s n with phase := .fall, since := s.sun.time, setpoint := x.holdMa } s)
  else s

/-- HOLD starts; an untimed hold ends the profile in plain regulation (R289). -/
def startHold (n : Nat) (s : State) : State :=
  let x := sol s n
  let timed := ((runningProfile s n).map fun p => decide (p.tHoldMs ≠ 0)).getD false
  setSol n { x with phase := if timed then .hold else .cur, since := s.sun.time, setpoint := x.holdMa, nextSet := none } s

/-- SOL_FALL_DONE: the current is at or below P_HOLD + 2 % (R289). -/
def execSolFallDone (t : Time) (ch : Fin 32) (s : State) : Result :=
  let s := advanceTo t s
  .next <| if (sol s ch.val).phase = .fall then startHold ch.val s else s

/-- SOL_FALL_TIMEOUT: P_TFALL_MAX passes in FALL: HOLD starts anyway, with a WARNING (R289). -/
def execSolFallTimeout (t : Time) (ch : Fin 32) (s : State) : Result :=
  let s := advanceTo t s
  let n := ch.val
  let x := sol s n
  .next <|
  match runningProfile s n with
  | some p =>
    if x.phase = .fall && passed s x.since (p.tFallMaxUs * 1000) then
      raise .warning 0x06 0x0004 [chanWord (.sol n)] (startHold n s)
    else s
  | none => s

/-- SOL_HOLD_END: P_THOLD has elapsed: off, or STAY in plain regulation (R289). -/
def execSolHoldEnd (t : Time) (ch : Fin 32) (s : State) : Result :=
  let s := advanceTo t s
  let n := ch.val
  let x := sol s n
  .next <|
  match runningProfile s n with
  | some p =>
    if x.phase = .hold && passed s x.since (p.tHoldMs * 1000000) then
      if p.stay then setSol n { x with phase := .cur, since := s.sun.time } s else solOff n s
    else s
  | none => s

/-- SOL_DEFER_EXPIRED: a waiting peak is not admitted within DEFER_MAX (R292). -/
def execSolDeferExpired (t : Time) (ch : Fin 32) (s : State) : Result :=
  let s := advanceTo t s
  let n := ch.val
  let x := sol s n
  .next <|
  if (decide (x.phase = .groupQ) || (decide (x.phase = .tallyQ) && x.peakWait)) && passed s x.arrived (deferNs s n) then
    refusePeak n s
  else s

/-- SOL_LOW_SIDE_TRIP (R295). -/
def execSolLowSideTrip (t : Time) (ch : Fin 32) (s : State) : Result :=
  let s := advanceTo t s
  let n := ch.val
  let s := solOff n s
  .next (raise .error 0x06 0x0004 [chanWord (.sol n)] (setSol n { sol s n with trip := true, wasCur := false } s))

/-- SOL_HIGH_SIDE_TRIP (R295): the whole group goes off, and what waited in its queue with it. -/
def execSolHighSideTrip (t : Time) (group : Fin 8) (s : State) : Result :=
  let s := advanceTo t s
  let g := group.val
  let s := { s with outs := { s.outs with groupQ := SMap.put s.outs.groupQ [] g [] } }
  let s := (List.range 4).foldl (fun s i =>
    let n := 4 * g + i
    let s := solOff n s
    setSol n { sol s n with hstrip := true, wasCur := false } s) s
  .next (raise .error 0x06 0x0004 [BitVec.ofNat 32 g] s)

/-- SOL_CLEAR of a channel: TRIP, HSTRIP, NORISE and UV (R295, R299). -/
def clearSol (n : Nat) (s : State) : State :=
  setSol n { sol s n with trip := false, hstrip := false, norise := false, uv := false } s

/-- NEUTRAL_RAMP_END: the ramp reaches 0 A (R297). -/
def execNeutralRampEnd (t : Time) (ch : Fin 32) (s : State) : Result :=
  let s := advanceTo t s
  .next <| if (sol s ch.val).phase = .neutral then solOff ch.val s else s

/-- SOL_CAL_OLD: no qualifying period for 10 s, counted from the last one or else from DAWN: CALOLD and one WARNING (R293). -/
def execSolCalOld (t : Time) (ch : Fin 32) (s : State) : Result :=
  let s := advanceTo t s
  let n := ch.val
  let x := sol s n
  .next <|
  if passed s (x.calAt.getD s.sys.dawnAt) 10000000000 && !x.calold then raise .warning 0x06 0x0004 [chanWord (.sol n)] (setSol n { x with calold := true } s) else s

/-- TCOIL in 1/16 °C: 20 + (r_est / r20 − 1) / 0.00393, to the nearest step (R294). -/
def coilTemp (r20 r : Nat) : Int := 320 + roundDiv (((r : Int) - r20) * 1600000) (393 * r20)

/-- SOL_COIL_ESTIMATE: with R20 declared, resistance and temperature from a span of at least 20 ms in regulation at one set-point, from one
period in 64 at most, with COILHOT and COILFAULT (R18, R294). -/
def execSolCoilEstimate (t : Time) (ch : Fin 32) (milliOhm : Nat) (s : State) : Result :=
  let s := advanceTo t s
  let n := ch.val
  .next <|
  match chanDecl s (.sol n) with
  | none => s
  | some d =>
    let x := sol s n
    let holding := decide (x.phase = .cur) || decide (x.phase = .hold)
    let rested := match x.coilAt with
      | some c => decide (64 * 1000000000 ≤ (s.sun.time.toNat - c.toNat) * d.freq)
      | none => true
    if d.r20 = 0 || !holding || !passed s x.since 20000000 || !rested then s
    else
      let temp := coilTemp d.r20 milliOhm
      let hot := decide ((d.coilTmax : Int) * 16 < temp)
      let bad := decide (2 * milliOhm < d.r20) || decide (5 * d.r20 < 2 * milliOhm)
      let s := setSol n { x with
        tcoil := BitVec.ofInt 16 (clampInt (-32768) 32767 temp), res := BitVec.ofNat 16 (min 65535 (milliOhm / 10))
        coilhot := hot, coilfault := bad, coilAt := some s.sun.time } s
      let s := if hot && !x.coilhot then raise .warning 0x06 0x0004 [chanWord (.sol n)] s else s
      if bad && !x.coilfault then raise .error 0x06 0x0004 [chanWord (.sol n)] s else s

/-- PGND_FAULT: every solenoid group turns off as on bank under-voltage, PGND is set, an ERROR is written (R416). -/
def execPgndFault (t : Time) (s : State) : Result :=
  let s := advanceTo t s
  .next <|
  if s.sys.pgnd then s
  else
    (List.range 32).foldl (fun s n => solBankOff n s)
      (raise .error 0x01 0x0060 [] { s with sys := { s.sys with pgnd := true } })

/-- PGND_RECOVER: the groups become available again, as at the restart of a bank (R296, R416). -/
def execPgndRecover (t : Time) (s : State) : Result :=
  let s := advanceTo t s
  .next <|
  if !s.sys.pgnd then s
  else
    let s := { s with sys := { s.sys with pgnd := false } }
    (List.range 4).foldl (fun s b =>
      if bankDown s b then s
      else
        let s := (armOrder (orderCop s) b).foldl (fun s c => match c with
          | .sol _ => restartChan c s
          | .lsw _ => s) s
        pumpGroup (2 * b + 1) 4 (pumpGroup (2 * b) 4 s)) s

end Sys2Proof.Machine
end

