-- ==== Sys2Proof/Machine/Registers.lean ====
section
/-! DEFINITION. The register engine (R58 to R71, R355, R356): reads, writes, masked writes and blocks, and the commands that are one
register access. -/
namespace Sys2Proof.Machine

/-! ### Triplicated fields (R64) -/

/-- Bits in which the copies of a triplicated value disagree with its majority. -/
def Trip.diff {w : Nat} (t : Trip w) : BitVec w := (t.c0 ^^^ t.vote) ||| (t.c1 ^^^ t.vote) ||| (t.c2 ^^^ t.vote)

/-- The fields of a triplicated register, as masks; none where a register is not triplicated. -/
def tripFields (addr : Nat) : List Word :=
  match addr with
  | 0x00010008 => [0x1, 0x2, 0x4, 0x8, 0x10]
  | 0x00040020 | 0x00040024 | 0x00040028 | 0x0004002C => [0xFFF, 0xFFF000, 0xFF000000]
  | 0x00040030 => [0x7FF]
  | 0x00040034 | 0x00060028 => [0xFFFFFFFF]
  | 0x00040038 | 0x00180008 | 0x0018000C => [0x3FFF]
  | _ => []

/-- Bits of a triplicated register in which a copy is wrong. -/
def tripDiff (s : State) (addr : Nat) : Word :=
  match addr with
  | 0x00010008 => s.sys.lock.diff.zeroExtend 32
  | 0x00040020 => s.tally.limit0.diff
  | 0x00040024 => s.tally.limit1.diff
  | 0x00040028 => s.tally.limit2.diff
  | 0x0004002C => s.tally.limit3.diff
  | 0x00040030 => s.tally.total.diff.zeroExtend 32
  | 0x00040034 => s.tally.stagger.diff
  | 0x00040038 => s.tally.waitMax.diff.zeroExtend 32
  | 0x00060028 => s.outs.gap.diff
  | 0x00180008 => s.lanes.lease.diff.zeroExtend 32
  | 0x0018000C => s.lanes.guard.diff.zeroExtend 32
  | _ => 0

/-- The copies of a triplicated register brought to their majority. -/
def tripRewrite (addr : Nat) (s : State) : State :=
  match addr with
  | 0x00010008 => { s with sys := { s.sys with lock := .of s.sys.lock.vote } }
  | 0x00040020 => { s with tally := { s.tally with limit0 := .of s.tally.limit0.vote } }
  | 0x00040024 => { s with tally := { s.tally with limit1 := .of s.tally.limit1.vote } }
  | 0x00040028 => { s with tally := { s.tally with limit2 := .of s.tally.limit2.vote } }
  | 0x0004002C => { s with tally := { s.tally with limit3 := .of s.tally.limit3.vote } }
  | 0x00040030 => { s with tally := { s.tally with total := .of s.tally.total.vote } }
  | 0x00040034 => { s with tally := { s.tally with stagger := .of s.tally.stagger.vote } }
  | 0x00040038 => { s with tally := { s.tally with waitMax := .of s.tally.waitMax.vote } }
  | 0x00060028 => { s with outs := { s.outs with gap := .of s.outs.gap.vote } }
  | 0x00180008 => { s with lanes := { s.lanes with lease := .of s.lanes.lease.vote } }
  | 0x0018000C => { s with lanes := { s.lanes with guard := .of s.lanes.guard.vote } }
  | _ => s

/-- The voter at a register: each field whose copies disagree is corrected, counted once and recorded with the register and the
corrected bits. -/
def mend (addr : Nat) (s : State) : State :=
  let diff := tripDiff s addr
  (tripFields addr).foldl (fun s m =>
    if diff &&& m = 0 then s
    else raise .warning 0x01 0x0010 [BitVec.ofNat 32 addr, diff &&& m] (bump 0x00010010 0 s)) (tripRewrite addr s)

/-- Every triplicated register. -/
def tripRegs : List Nat :=
  [0x00010008, 0x00040020, 0x00040024, 0x00040028, 0x0004002C, 0x00040030, 0x00040034, 0x00040038, 0x00060028, 0x00180008, 0x0018000C]

/-- TRIPLICATE_SCRUB: the scrub of a major frame, in the LKO domain, which stops with LKO (R21, R64). -/
def execTriplicateScrub (t : Time) (s : State) : Result :=
  let s := advanceTo t s
  .next (if s.clock.lkoFail then s else tripRegs.foldl (fun s a => mend a s) s)

/-! ### Reads -/

/-- Whether a register's block addresses the active lane while there is none (R61). -/
def noLane (s : State) (addr : Nat) : Bool := perLaneBlock (addr / 65536) && !laneActive s

/-- A register is read (R58, R61, R64, R66, R70). -/
def readReg (who : Requester) (addr : Nat) (s : State) : Word × State :=
  if noLane s addr then (0, s)
  else if addr = 0x001F0008 then indRead who s
  else match wideAt s addr with
  | some v =>
    let p := perReq s who
    (lo32 v, setPerReq who { p with shadow := hi32 v } s)
  | none =>
    match loOfHi addr with
    | some _ => ((perReq s who).shadow, s)
    | none =>
      let s := mend addr s
      if addr = 0x00010064 then
        let (v, s) := nextFree s
        (peek s who addr ||| (v &&& 0xFFFF), s)
      else (peek s who addr, s)

/-! ### Writes -/

/-- What a requester keeps, changed. -/
def keep (who : Requester) (f : PerReq → PerReq) (s : State) : Reply × State := (.ack [], setPerReq who (f (perReq s who)) s)

/-- A write that takes effect and is acknowledged; one refused with a code; one without effect. -/
def done (s : State) : Reply × State := (.ack [], s)
def refuse (c : NakCode) (s : State) : Reply × State := (.nak c 0, s)

/-- Whether SYS_CTRL.DUSK starts DUSK in this day state (R25). -/
def duskAllowed (s : State) : Bool :=
  match s.sys.state with
  | .morning | .noon | .afternoon => true
  | .dawn => s.sys.hold
  | _ => false

/-- HOLD_OFF in the DAWN hold (R32, R277): limp drive ends, held outputs and supplies go off in shutdown order. -/
def holdOff (s : State) : State :=
  let s := suppliesOff (switchOffHeld (limpEnd s))
  { s with sys := { s.sys with holdOff := true, held := false } }

/-- SYS_CTRL (R62, R72): the masked update; DUSK and HOLD_OFF find no transition while hold-up runs (R414, log entry 70). -/
def writeSysCtrl (v : Word) (s : State) : Reply × State :=
  let dusk := bit v 0 && bit v 16
  let off := bit v 1 && bit v 17
  if (dusk && (!duskAllowed s || s.sys.holdupRun)) || (off && (!s.sys.hold || s.sys.holdupRun)) then refuse .wrongState s
  else
    let s := if bit v 18 then { s with sys := { s.sys with stayDawn := bit v 2 } } else s
    let s := if off then holdOff s else s
    done (if dusk then enterDusk .sysDusk s else s)

/-- SYS_LOCK: writing 1 sets a bit in all three copies, writing 0 leaves its copies alone (R63, R64). -/
def setLocks (bits : BitVec 5) (s : State) : State :=
  let k := s.sys.lock
  { s with sys := { s.sys with lock := ⟨k.c0 ||| bits, k.c1 ||| bits, k.c2 ||| bits⟩ } }

/-- SUN_PPS_CFG (R330). -/
def writePps (v : Word) (s : State) : Reply × State :=
  let w := field v 26 8
  if w = 0 || decide (100000 < w) then refuse .badValue s
  else done { s with sun := { s.sun with ppsCfg := v &&& 0x07FFFF03 } }

/-- Tally limits (R254, R265): PEAK_TIME, PEAK, CONT of a supply. -/
def limitOk (v : Word) : Bool :=
  decide (1 ≤ field v 31 24) && decide (field v 31 24 ≤ 200) && decide (field v 23 12 ≤ 450) && decide (field v 11 0 ≤ 300)
    && decide (field v 11 0 ≤ field v 23 12)

/-- A write of TALLY_LIMITn (R254, R265): the stored value only. -/
def writeLimit (n : Nat) (v : Word) (s : State) : Reply × State :=
  let x := s.tally
  let old := match n with
    | 0 => x.limit0.vote
    | 1 => x.limit1.vote
    | 2 => x.limit2.vote
    | _ => x.limit3.vote
  guarded 0 (decide (v ≠ old)) (fun s =>
    if !limitOk v then refuse .badValue s
    else match n with
      | 0 => done { s with tally := { s.tally with limit0 := .of v } }
      | 1 => done { s with tally := { s.tally with limit1 := .of v } }
      | 2 => done { s with tally := { s.tally with limit2 := .of v } }
      | _ => done { s with tally := { s.tally with limit3 := .of v } }) s

/-- The other stored limits (R254, R265). -/
def writeTally (off : Nat) (v : Word) (s : State) : Reply × State :=
  match off with
  | 0x20 => writeLimit 0 v s
  | 0x24 => writeLimit 1 v s
  | 0x28 => writeLimit 2 v s
  | 0x2C => writeLimit 3 v s
  | 0x30 =>
    let x : BitVec 11 := v.truncate 11
    guarded 0 (decide (x ≠ s.tally.total.vote)) (fun s =>
      if 1200 < x.toNat then refuse .badValue s else done { s with tally := { s.tally with total := .of x } }) s
  | 0x34 => guarded 0 (decide (v ≠ s.tally.stagger.vote)) (fun s =>
      if (List.range 4).any fun n => decide (100 < field v (8 * n + 7) (8 * n)) then refuse .badValue s
      else done { s with tally := { s.tally with stagger := .of v } }) s
  | 0x38 =>
    let x : BitVec 14 := v.truncate 14
    guarded 0 (decide (x ≠ s.tally.waitMax.vote)) (fun s =>
      if 10000 < x.toNat then refuse .badValue s else done { s with tally := { s.tally with waitMax := .of x } }) s
  | _ => done s

/-- LSW_DIR_MAP of a channel (R277, R279): in force at once; a channel without a stored OUTPUTS record cannot be mapped. -/
def writeDirMap (n : Nat) (v : Word) (s : State) : Reply × State :=
  if 48 ≤ n then done s
  else if bit v 4 && ((s.store.lastValid.getD {}).outputs.all fun d => decide (d.chan ≠ .lsw n)) then refuse .badValue s
  else
    let was := limpChan s n
    let s := setLsw n { lsw s n with dirMap := v.truncate 6 } s
    let s := if was && !limpChan s n then lswOff n (setLsw n { lsw s n with cmd := false, src := .lane } s) else s
    done (limpFollow n s)

/-- LSW_LIMP.EN (R277). -/
def writeLimp (on : Bool) (s : State) : Reply × State :=
  if !on then done s
  else if s.sys.hold then done (limpStart { s with outs := { s.outs with limpEn := true } })
  else refuse .wrongState s

/-- Load switches (R272, R277, R279). -/
def writeLsw (who : Requester) (off : Nat) (v : Word) (s : State) : Reply × State :=
  match off with
  | 0x00 => keep who (fun p => { p with lswSel := v.truncate 6 }) s
  | 0x10 => writeDirMap (perReq s who).lswSel.toNat v s
  | 0x18 => done (if bit v 31 && decide (field v 5 0 < 48) then clearLsw (field v 5 0) s else s)
  | 0x20 => done { s with outs := { s.outs with retryMax := v.truncate 16 } }
  | 0x24 => writeLimp (bit v 0) s
  | _ => done s

/-- Solenoid drivers (R63, R299). -/
def writeSol (who : Requester) (off : Nat) (v : Word) (s : State) : Reply × State :=
  match off with
  | 0x00 => keep who (fun p => { p with solSel := v.truncate 5 }) s
  | 0x20 => done (if bit v 31 then clearSol (field v 4 0) s else s)
  | 0x28 => guarded 1 (decide (v ≠ s.outs.gap.vote)) (fun s => done { s with outs := { s.outs with gap := .of v } }) s
  | _ => done s

/-- Spindle control (R94). -/
def writeSpindle (who : Requester) (off : Nat) (v : Word) (s : State) : Reply × State :=
  match off with
  | 0x00 => keep who (fun p => { p with taskSel := v.truncate 10 }) s
  | 0x08 =>
    let n := (perReq s who).taskSel.toNat
    done (if bit v 31 && (taskDecl s n).isSome then setTask n { taskOf s n with maxResp := 0 } s else s)
  | _ => done s

/-- TWI_RC_CLEAR of a declared table (R164): every bin +0.0, PREV UNSET, and a NOTICE. -/
def clearTable (unit table : Nat) (s : State) : State :=
  if (tableDecl (cop s) unit table).isSome then
    raise .notice 0x09 0x0018 [BitVec.ofNat 32 unit, BitVec.ofNat 32 table] (setTable (tableKey unit table) {} s)
  else s

/-- Twist (R163, R164). -/
def writeTwist (who : Requester) (off : Nat) (v : Word) (s : State) : Reply × State :=
  match off with
  | 0x00 => keep who (fun p => { p with twiSel := v.truncate 9 }) s
  | 0x18 => done (if bit v 31 then clearTable (field v 6 4) (field v 3 0) s else s)
  | _ => done s

/-- Strike unit (R210, R211). -/
def writeStrike (who : Requester) (off : Nat) (v : Word) (s : State) : Reply × State :=
  match off with
  | 0x00 => keep who (fun p => { p with stkSel := v.truncate 5 }) s
  | 0x1C => done { s with strike := { s.strike with capEn := bit v 31, capCh := v.truncate 5 } }
  | _ => done s

/-- Analog inputs (R195): AIN_FAULT is W1C. -/
def writeAin (who : Requester) (off : Nat) (v : Word) (s : State) : Reply × State :=
  let i := (perReq s who).ainSel.toNat
  match off with
  | 0x00 => keep who (fun p => { p with ainSel := v.truncate 7 }) s
  | 0x0C =>
    if 96 ≤ i then done s
    else
      let x := ain s i
      done (setAin i { x with
        overF := x.overF && !bit v 0, openF := x.openF && !bit v 1, burdenF := x.burdenF && !bit v 2, supF := x.supF && !bit v 3 } s)
  | _ => done s

/-- Sensor ports (R195): SEN_SYNC_DEV clears on bit 31. -/
def writeSensor (who : Requester) (off : Nat) (v : Word) (s : State) : Reply × State :=
  match off with
  | 0x00 => keep who (fun p => { p with senSel := v.truncate 4 }) s
  | 0x14 =>
    let n := (perReq s who).senSel.toNat
    done (if bit v 31 then setSensor n { sensor s n with syncDev := 0 } s else s)
  | _ => done s

/-- GNS_ANT (R234): a bias enabled is claimed, one disabled goes off. -/
def setBias (n : Nat) (on : Bool) (s : State) : State :=
  let was := if n = 0 then s.gnss.bias0 else s.gnss.bias1
  let s := { s with gnss := if n = 0 then { s.gnss with bias0 := on } else { s.gnss with bias1 := on } }
  if was = on || !s.gnss.run then s else if on then claimBias n s else dropBias n 0 s

/-- GNSS baseband (R252). -/
def writeGnss (off : Nat) (v : Word) (s : State) : Reply × State :=
  match off with
  | 0x00 => done { s with gnss := { s.gnss with cfg := v &&& 0xFFFFFDFF } }
  | 0x04 => done (setBias 1 (bit v 9) (setBias 0 (bit v 8) s))
  | _ => done s

/-- Skein (R371, R375, R377). -/
def writeSkein (who : Requester) (off : Nat) (v : Word) (s : State) : Reply × State :=
  let k := (perReq s who).trigSel.toNat
  let e := SMap.get s.skein.triggers {} k
  let put := fun (e : Trigger) (s : State) => { s with skein := { s.skein with triggers := SMap.put s.skein.triggers {} k e } }
  match off with
  | 0x24 => done (writeSknCtrl v s)
  | 0xC0 => keep who (fun p => { p with trigSel := v.truncate 6 }) s
  | 0xC4 =>
    if 12 < field v 27 24 then refuse .badValue s
    else done (put { e with
      en := bit v 31, count := BitVec.ofNat 4 (field v 27 24), source := BitVec.ofNat 8 (field v 23 16), code := v.truncate 16 } s)
  | _ =>
    if decide (0x40 ≤ off) && decide (off < 0x80) then
      done { s with skein := { s.skein with token := SMap.put s.skein.token 0 ((off - 0x40) / 4) v } }
    else if decide (0x80 ≤ off) && decide (off < 0xC0) then
      let n := (off - 0x80) / 4
      guarded 3 (decide (v ≠ SMap.get s.skein.key 0 n)) (fun s => done (writeSknKey n v s)) s
    else if decide (0xD0 ≤ off) && decide (off < 0x100) then
      if v.toNat % 4 ≠ 0 || decide (0x1FFFFF < v.toNat) then refuse .badValue s
      else done (put { e with addrs := SMap.put e.addrs 0 ((off - 0xD0) / 4) v } s)
    else done s

/-- Panel (R397, R402, R404, R410). -/
def writePanel (who : Requester) (off : Nat) (v : Word) (s : State) : Reply × State :=
  let q := s.panel
  match off with
  | 0x00 => done { s with panel := { q with dcsat := q.dcsat && !bit v 5, railf := q.railf && !bit v 4 } }
  | 0x0C => if 280 < field v 8 0 then refuse .badValue s else done { s with panel := { q with vcom := v.truncate 9 } }
  | 0x10 =>
    let t := field v 12 0
    if t = 0 || decide (4096 < t) then refuse .badValue s else done { s with panel := { q with dcThr := v.truncate 13 } }
  | 0x14 => keep who (fun p => { p with pnlPos := v &&& 0x03FF07FF }) s
  | 0x18 =>
    if bit v 31 then
      panelRequest (perReq s who).pnlPos (BitVec.ofNat 2 (field v 30 29)) (BitVec.ofNat 11 (field v 26 16)) (v.truncate 10) s
    else done s
  | _ => done s

/-- Update engine (R393). -/
def writeUpdate (off : Nat) (v : Word) (s : State) : Reply × State :=
  match off with
  | 0x04 => done (writeUpdCtrl v s)
  | 0x0C =>
    if field v 31 30 = 3 || field v 29 28 = 3 then refuse .badValue s
    else done { s with upd := { s.upd with chain := v &&& 0xFFFFFF00 } }
  | 0x10 => done { s with upd := { s.upd with upIp := v } }
  | 0x14 => done { s with upd := { s.upd with dnIp := v } }
  | _ => done s

/-- Bobbins (R109): BOB_SEL, and BOB_HIWAT cleared by bit 20. -/
def writeBobbin (who : Requester) (off : Nat) (v : Word) (s : State) : Reply × State :=
  match off with
  | 0x00 => keep who (fun p => { p with bobSel := v.truncate 7 }) s
  | 0x0C =>
    let n := (perReq s who).bobSel.toNat
    done (if bit v 20 && (bobDecl s n).isSome then setBob n { bob s n with hiwat := 0 } s else s)
  | _ => done s

/-- HANK_SELF.EVT_SEV of the requester's session (R367). -/
def writeHank (who : Requester) (off : Nat) (v : Word) (s : State) : Reply × State :=
  match off with
  | 0x04 =>
    if field v 6 4 = 5 || field v 6 4 = 6 then refuse .badValue s
    else done (setSession who { session s who with evtSev := BitVec.ofNat 3 (field v 6 4) } s)
  | _ => done s

/-- Indirect window (R69, R70). -/
def writeInd (who : Requester) (off : Nat) (v : Word) (s : State) : Reply × State :=
  match off with
  | 0x00 => keep who (fun p => { p with indWin := v.truncate 4, indAinc := bit v 4, indAddr := 0 }) s
  | 0x04 => keep who (fun p => { p with indAddr := v }) s
  | 0x08 => done (indWrite who v s)
  | 0x0C => keep who (fun p => { p with indRange := p.indRange && !bit v 0, indTmo := p.indTmo && !bit v 1 }) s
  | _ => done s

/-- A write to the LO half of a 64-bit value is staged, and drops what another requester had staged there (R66). -/
def stageLo (who : Requester) (addr : Nat) (v : Word) (s : State) : State :=
  let others := s.reqs.map fun e =>
    if e.2.staged.map (·.1) = some addr then (e.1, { e.2 with staged := none }) else e
  let s := { s with reqs := others.filter fun e => decide (e.2 ≠ {}) }
  setPerReq who { perReq s who with staged := some (addr, v) } s

/-- A write to the HI half ends the staging; no 64-bit value of this issue is writable, so nothing changes (R66). -/
def commitHi (who : Requester) (lo : Nat) (s : State) : State :=
  let p := perReq s who
  if p.staged.map (·.1) = some lo then setPerReq who { p with staged := none } s else s

/-- A register is written (R58, R61 to R63, R66, R67). -/
def writeReg (who : Requester) (addr : Nat) (v : Word) (s : State) : Reply × State :=
  if noLane s addr then done s
  else if (wideAt s addr).isSome then done (stageLo who addr v s)
  else match loOfHi addr with
  | some lo => done (commitHi who lo s)
  | none =>
  match counterIndex (perReq s who) addr with
  | some n => done (if bit v 31 then clearCounter addr n s else s)
  | none =>
    let off := addr % 65536
    match addr / 65536 with
    | 0x01 => if off = 4 then writeSysCtrl v s else if off = 8 then done (setLocks (v.truncate 5) s) else done s
    | 0x02 =>
      if off = 4 then
        let w := v &&& 0x03FF03FF
        guarded 2 (decide (w ≠ (s.clock.stay.zeroExtend 32 <<< 16) ||| s.clock.force.zeroExtend 32)) (fun s => done (writeClkSrc v s)) s
      else done s
    | 0x03 =>
      if off = 0x1C then writePps v s
      else if off = 0x24 then done { s with sun := { s.sun with ptpCfg := v &&& 0x00FFFF01 } } else done s
    | 0x04 => writeTally off v s
    | 0x05 => writeLsw who off v s
    | 0x06 => writeSol who off v s
    | 0x08 => writeSpindle who off v s
    | 0x09 => writeTwist who off v s
    | 0x0A => if off = 0 then keep who (fun p => { p with plySel := v.truncate 6 }) s else done s
    | 0x0B => writeStrike who off v s
    | 0x0C => writeAin who off v s
    | 0x0D => writeSensor who off v s
    | 0x0E => if off = 0 then keep who (fun p => { p with shfSel := v.truncate 4 }) s else done s
    | 0x10 =>
      if off % 4096 = 0x10 then
        let n := off / 4096
        let s := canListen n (bit v 0) s
        done (if bit v 1 then canRecover n s else s)
      else done s
    | 0x12 => if off = 0 then keep who (fun p => { p with ethSel := v.truncate 4 }) s else done s
    | 0x14 => writeGnss off v s
    | 0x16 =>
      if off = 4 then
        if 35999 < field v 31 16 then refuse .badValue s
        else done { s with gnss := { s.gnss with hdgCfg := v &&& 0xFFFF1FFF } }
      else done s
    | 0x18 =>
      if off = 4 then (if bit v 0 then acceptYield false s else done s)
      else if off = 8 then writeLk false v s else if off = 0xC then writeLk true v s else done s
    | 0x1A => writeSkein who off v s
    | 0x1B => writePanel who off v s
    | 0x1C => writeUpdate off v s
    | 0x1D => writeBobbin who off v s
    | 0x1E => writeHank who off v s
    | 0x1F => writeInd who off v s
    | _ => done s

/-! ### Single-register requests (R356) -/

/-- Addresses of R58. -/
def addrOk (addr : Word) : Bool := decide (addr.toNat % 4 = 0) && decide (addr.toNat ≤ 0x1FFFFF)

/-- An access at a good address, or NAK BAD_ADDR (R58). -/
def atAddr (addr : Word) (f : State → Reply × State) (s : State) : Reply × State := if addrOk addr then f s else refuse .badAddr s

/-- REG_RD (R356). -/
def execRegRd (r : Req) (addr : Word) (s : State) : Result :=
  .next (serve r true true (atAddr addr fun s =>
    let (v, s) := readReg r.who addr.toNat s
    (.ack [v], s)) s)

/-- REG_WR (R356). -/
def execRegWr (r : Req) (addr v : Word) (s : State) : Result := .next (serve r true true (atAddr addr (writeReg r.who addr.toNat v)) s)

/-- The value that REG_WRM merges into: what the register reads, IND_DATA without its side effects. -/
def mergeBase (who : Requester) (addr : Nat) (s : State) : Word :=
  if addr = 0x001F0008 then (indRead who s).1 else if noLane s addr then 0 else peek s who addr

/-- REG_WRM (R356): an RWM register takes its one masked write; on any other the merged word is written; a mask on RO, WO or W1C
fields is refused. Its read compares the copies of a triplicated register as every read does (R64). The answer is the register's value
after it; on IND_DATA all is one access at one address. -/
def maskedWrite (who : Requester) (addr mask v : Word) (s : State) : Reply × State :=
  let a := addr.toNat
  let acc := access a
  let after := fun (r : Reply × State) => match r.1 with
    | .ack _ =>
      if a = 0x001F0008 then
        let back := setPerReq who { perReq r.2 who with indAddr := (perReq s who).indAddr } r.2
        (Reply.ack [(indRead who back).1], r.2)
      else
        let (w, s) := readReg who a r.2
        (Reply.ack [w], s)
    | _ => r
  if a = 0x00010004 then
    if field mask 31 16 ≠ 0 then refuse .badValue s
    else after (writeReg who addr.toNat ((mask <<< 16) ||| (v &&& 0xFFFF)) s)
  else if mask &&& acc.2 ≠ 0 then refuse .badValue s
  else
    let s := mend a s
    after (writeReg who addr.toNat ((v &&& mask) ||| (mergeBase who a s &&& acc.1 &&& ~~~mask)) s)

/-- REG_WRM (R354, R356): not in a 1.x session. -/
def execRegWrm (r : Req) (addr mask v : Word) (s : State) : Result :=
  .next (serve r false true (atAddr addr (maskedWrite r.who addr mask v)) s)

/-! ### Blocks (R60, R355) -/

/-- Registers, or window words, read in ascending order. -/
def readMany (who : Requester) (win : Bool) (addr : Nat) : Nat → State → List Word × State
  | 0, s => ([], s)
  | n + 1, s =>
    let (v, s) := if win then indRead who s else readReg who addr s
    let (l, s) := readMany who win (addr + 4) n s
    (v :: l, s)

/-- Registers, or window words, written in ascending order; a register write refused ends the block with its NAK, and what lies before
it stands. -/
def writeMany (who : Requester) (win : Bool) (addr : Word) : List Word → State → Reply × State
  | [], s => done s
  | v :: l, s =>
    if win then writeMany who win addr l (indWrite who v s)
    else match writeReg who addr.toNat v s with
      | (.ack _, s) => writeMany who win (addr + 4) l s
      | r => r

/-- A block's frame: 1 to 350 words; WIN 0 names registers, which must all lie in the space; other windows go through the requester's
own IND_ registers with AINC set; a 1.x session has registers only (R354). -/
def block (who : Requester) (addr : Word) (count win : Nat) (f : Bool → State → Reply × State) (s : State) : Reply × State :=
  if count = 0 || decide (350 < count) then refuse .badValue s
  else if win = 0 then
    if addrOk addr && decide (addr.toNat + 4 * (count - 1) ≤ 0x1FFFFF) then f false s else refuse .badAddr s
  else if (session s who).major = 1 then refuse .badValue s
  else if responder s && (win = 1 || win = 2) then refuse .wrongState s
  else
    f true (setPerReq who { perReq s who with
      indWin := BitVec.ofNat 4 (if win < 16 then win else 0), indAinc := true, indAddr := addr } s)

/-- BLOCK_RD (R355). -/
def execBlockRd (r : Req) (addr : Word) (count win : Nat) (s : State) : Result :=
  .next (serve r true true (block r.who addr count win fun w s =>
    let (l, s) := readMany r.who w addr.toNat count s
    (.ack l, s)) s)

/-- BLOCK_WR (R355). -/
def execBlockWr (r : Req) (addr : Word) (win : Nat) (words : List Word) (s : State) : Result :=
  .next (serve r true true (block r.who addr words.length win fun w s => writeMany r.who w addr words s) s)

/-! ### Commands that are one register access -/

/-- A register write as a request of its own. -/
def asWrite (r : Req) (addr : Nat) (v : Word) (s : State) : Result :=
  .next (serve r true true (writeReg r.who addr v) s)

/-- SYS_CTRL_DUSK (R25, R72). -/
def execSysCtrlDusk (r : Req) (s : State) : Result := asWrite r 0x00010004 0x00010001 s

/-- SYS_CTRL_HOLD_OFF (R32, R72). -/
def execSysCtrlHoldOff (r : Req) (s : State) : Result := asWrite r 0x00010004 0x00020002 s

/-- SYS_CTRL_STAY_DAWN (R56, R62). -/
def execSysCtrlStayDawn (r : Req) (on : Bool) (s : State) : Result := asWrite r 0x00010004 (0x00040000 ||| flag on 2) s

/-- SYS_LOCK_SET (R63). -/
def execSysLockSet (r : Req) (bits : BitVec 5) (s : State) : Result := asWrite r 0x00010008 (bits.zeroExtend 32) s

/-- COUNTER_SAT_CLEAR (R67). -/
def execCounterSatClear (r : Req) (addr : Word) (s : State) : Result :=
  .next (serve r true true (atAddr addr (writeReg r.who addr.toNat 0x80000000)) s)

/-- LO_REGISTER_READ (R66). -/
def execLoRegisterRead (r : Req) (addr : Word) (s : State) : Result := execRegRd r addr s

/-- LO_REGISTER_WRITE (R66). -/
def execLoRegisterWrite (r : Req) (addr v : Word) (s : State) : Result := execRegWr r addr v s

/-- HI_REGISTER_WRITE (R66). -/
def execHiRegisterWrite (r : Req) (addr v : Word) (s : State) : Result := execRegWr r addr v s

/-- IND_CTRL_WRITE (R70). -/
def execIndCtrlWrite (r : Req) (v : Word) (s : State) : Result := asWrite r 0x001F0000 v s

/-- IND_DATA_READ (R70). -/
def execIndDataRead (r : Req) (s : State) : Result := execRegRd r 0x001F0008 s

/-- IND_DATA_WRITE (R70). -/
def execIndDataWrite (r : Req) (v : Word) (s : State) : Result := asWrite r 0x001F0008 v s

/-- TWI_RC_CLEAR (R163, R164). -/
def execTwiRcClear (r : Req) (unit table : Nat) (s : State) : Result :=
  asWrite r 0x00090018 (0x80000000 ||| at32 (unit % 8) 4 ||| at32 (table % 16) 0) s

/-- LSW_CLEAR (R272). -/
def execLswClear (r : Req) (ch : BitVec 6) (s : State) : Result := asWrite r 0x00050018 (0x80000000 ||| ch.zeroExtend 32) s

/-- LSW_LIMP_EN (R277). -/
def execLswLimpEn (r : Req) (s : State) : Result := asWrite r 0x00050024 1 s

/-- LSW_DIR_MAP_WRITE of the requester's selected channel (R277, R279). -/
def execLswDirMapWrite (r : Req) (v : Word) (s : State) : Result := asWrite r 0x00050010 v s

/-- LSW_RETRY_MAX_WRITE (R270, R279). -/
def execLswRetryMaxWrite (r : Req) (v : Word) (s : State) : Result := asWrite r 0x00050020 v s

/-- SOL_CLEAR (R295). -/
def execSolClear (r : Req) (ch : BitVec 5) (s : State) : Result := asWrite r 0x00060020 (0x80000000 ||| ch.zeroExtend 32) s

/-- CLK_SRC_WRITE (R321). -/
def execClkSrcWrite (r : Req) (v : Word) (s : State) : Result := asWrite r 0x00020004 v s

/-- SUN_PPS_CFG_WRITE (R330). -/
def execSunPpsCfgWrite (r : Req) (v : Word) (s : State) : Result := asWrite r 0x0003001C v s

/-- CAN_RECOVER (R342): CAN_CTRL.RECOVER with LISTEN as it stands. -/
def execCanRecover (r : Req) (ctrl : Fin 16) (s : State) : Result :=
  asWrite r (0x00100010 + 0x1000 * ctrl.val) (2 ||| flag (can s ctrl).listenCtrl 0) s

/-- CAN_LISTEN_WRITE (R343). -/
def execCanListenWrite (r : Req) (ctrl : Fin 16) (on : Bool) (s : State) : Result :=
  asWrite r (0x00100010 + 0x1000 * ctrl.val) (flag on 0) s

/-- SKN_CTRL_NEWCHAL (R376). -/
def execSknCtrlNewchal (r : Req) (s : State) : Result := asWrite r 0x001A0024 2 s

/-- SKN_CTRL_CLEAR (R375, R376). -/
def execSknCtrlClear (r : Req) (s : State) : Result := asWrite r 0x001A0024 1 s

/-- SKN_KEY_WRITE (R375). -/
def execSknKeyWrite (r : Req) (n : Fin 16) (v : Word) (s : State) : Result := asWrite r (0x001A0080 + 4 * n.val) v s

/-- UPD_CTRL_CONFIRM (R389). -/
def execUpdCtrlConfirm (r : Req) (s : State) : Result := asWrite r 0x001C0004 1 s

/-- UPD_CTRL_REJECT (R389). -/
def execUpdCtrlReject (r : Req) (s : State) : Result := asWrite r 0x001C0004 2 s

/-- UPD_CTRL_RESTAGE (R390). -/
def execUpdCtrlRestage (r : Req) (s : State) : Result := asWrite r 0x001C0004 4 s

/-- PNL_REQ_GO at the requester's PNL_REQ_POS (R404). -/
def execPnlReqGo (r : Req) (mode : BitVec 2) (w : BitVec 11) (h : BitVec 10) (s : State) : Result :=
  asWrite r 0x001B0018 (0x80000000 ||| (mode.zeroExtend 32 <<< 29) ||| (w.zeroExtend 32 <<< 16) ||| h.zeroExtend 32) s

/-- PNL_VCOM_WRITE (R397). -/
def execPnlVcomWrite (r : Req) (v : Word) (s : State) : Result := asWrite r 0x001B000C v s

/-- TALLY_LIMIT_WRITE of TALLY_LIMIT0 to TALLY_LIMIT3 (R254, R265). -/
def execTallyLimitWrite (r : Req) (index : Nat) (v : Word) (s : State) : Result := asWrite r (0x00040020 + 4 * (index % 4)) v s

end Sys2Proof.Machine
end

