-- ==== Sys2Proof/Machine/Skein.lean ====
section
/-! DEFINITION. Meanings of the Skein's own events (20, R368 to R376): a record taken by the writer, a record written to flash, a
challenge that expires, a clear that ends; and the flush of DUSK and hold-up. -/
namespace Sys2Proof.Machine

/-- One register snapshot: what the register reads, with every selector at zero (R370, log entry 60). -/
def snapshot (addr : Word) (s : State) : (Word × Word) × State :=
  let (v, t) := readReg 4 addr.toNat { s with reqs := [] }
  ((addr, v), { t with reqs := s.reqs })

/-- Snapshots of registers, in order. -/
def snapshots : List Word → State → List (Word × Word) × State
  | [], s => ([], s)
  | a :: l, s =>
    let (x, s) := snapshot a s
    let (xs, s) := snapshots l s
    (x :: xs, s)

/-- A numbered record of an event: its arguments first, then the trigger's registers in the slots left (R369, R371). -/
def numbered (seq : BitVec 64) (e : Raised) (s : State) : Record × State :=
  let args := (e.args.take 12).zipIdx.map fun p => (BitVec.ofNat 32 (0x80000000 + p.2), p.1)
  let room := if 12 < e.args.length then 0 else 12 - args.length
  let (regs, s) := snapshots (e.addrs.take room) s
  ({ seq := seq, ev := e, snaps := args ++ regs
     trunc := decide (12 < e.args.length) || decide (room < e.addrs.length) }, s)

/-- A record to one session, if its EVT_SEV asks for it; never to a 1.x session (R354, R365). -/
def eventRecordTo (r : Record) (who : Requester) (s : State) : State :=
  let x := session s who
  if decide (x.evtSev ≠ 7) && decide (r.ev.sev.code ≤ x.evtSev.toNat) && decide (x.major ≠ 1) then
    eventTo who 4 (recordWords r) s
  else s

/-- EVENT 0x04 to the sessions whose threshold a record reaches; a 1.x session gets none (R358, R374). -/
def eventRecord (r : Record) (s : State) : State :=
  [0, 1, 2, 3, 4].foldl (fun s (who : Requester) => eventRecordTo r who s) s

/-- The writer takes the oldest record raised (R369 to R372): it is numbered, buffered and sent, or dropped and counted where the buffer
is full; its number is consumed either way. -/
def receiveOne (s : State) : State :=
  match s.skein.raised with
  | [] => s
  | e :: rest =>
    let seq := s.skein.seq + 1
    let s := { s with skein := { s.skein with raised := rest, seq := seq } }
    if 256 ≤ s.skein.buffer.length then bump (0x001A0010 + 4 * e.sev.code) 0 s
    else
      let (r, s) := numbered seq e s
      eventRecord r { s with skein := { s.skein with buffer := s.skein.buffer ++ [r] } }

/-- SKEIN_RECORD_RECEIVE (R372). -/
def execSkeinRecordReceive (t : Time) (s : State) : Result :=
  let s := advanceTo t s
  .next (if s.sys.powered then receiveOne s else s)

/-- The record that goes to flash next, and what stays: a CRITICAL one first, since it has 10 ms and the others 100 ms (R372). -/
def nextRecord (l : List Record) : Option (Record × List Record) :=
  match l with
  | [] => none
  | r :: rest =>
    match l.find? fun x => decide (x.ev.sev = .critical) with
    | some c => some (c, l.filter fun x => decide (x.seq ≠ c.seq))
    | none => some (r, rest)

/-- SKEIN_FLASH_WRITE: one record goes to its slot, in a programming burst that the Tally has admitted (R259, R372, R373). It waits
while a clear runs or the writer is re-initialised (R55, R376). -/
def execSkeinFlashWrite (t : Time) (s : State) : Result :=
  let s := advanceTo t s
  .next <|
  match nextRecord s.skein.buffer with
  | none => s
  | some (r, rest) =>
    if !s.sys.powered || s.skein.clearing || restarts s 41 then s
    else
      let (go, b, s) := burst 2 s.skein.burst s
      let s := { s with skein := { s.skein with burst := b } }
      if go then writeRecord r { s with skein := { s.skein with buffer := rest } } else s

/-- SKEIN_CHALLENGE_EXPIRY: 60 s after NEWCHAL the challenge is gone (R376). -/
def execSkeinChallengeExpiry (t : Time) (s : State) : Result :=
  let s := advanceTo t s
  .next (if s.skein.chal.isSome && !challengeLive s then { s with skein := { s.skein with chal := none } } else s)

/-- Whether a clear that began with a SEQ erases a record: none but clear records, and what follows the clear record, stay (R376). -/
def cleared (last : BitVec 64) (r : Record) : Bool := !r.ev.clear && decide ((last - r.seq).toNat < 2 ^ 63)

/-- A clear ends (R376): every record but earlier clear records is erased, and the CRITICAL clear record names the last SEQ before the
clear and the records erased at each severity. -/
def clearDone (s : State) : State :=
  if !s.skein.clearing then s
  else
    let gone := s.skein.ring.filter fun e => cleared s.skein.lastBeforeClear e.2
    let kept := s.skein.ring.filter fun e => !cleared s.skein.lastBeforeClear e.2
    let count := fun (v : Severity) => BitVec.ofNat 32 (gone.filter fun e => decide (e.2.ev.sev = v)).length
    let e : Raised := { makeRecord .critical 0x1A 0x0000
      [lo32 s.skein.lastBeforeClear, hi32 s.skein.lastBeforeClear, count .critical, count .error, count .warning, count .notice,
        count .trace] s with clear := true }
    let (r, s) := numbered (s.skein.lastBeforeClear + 1) e s
    eventRecord r { s with
      skein := { s.skein with ring := SMap.insert kept (firstFree kept 0) r, clearing := false, clrRes := 1 }
      upd := { s.upd with critical := s.upd.critical || decide (s.upd.step = .trial) } }

/-- SKEIN_CLEAR_DONE: a clear is work of the Distaff's Skein class (R361, R376). -/
def execSkeinClearDone (t : Time) (s : State) : Result :=
  let s := advanceTo t s
  .next (if distaffRuns s then clearDone s else s)

/-- `n` records are taken. -/
def receiveMany : Nat → State → State
  | 0, s => s
  | n + 1, s => receiveMany n (receiveOne s)

/-- The flush as the logic supplies go, in hold-up and on entry to MIDNIGHT (R38, R39, R372): what has been raised is taken, and the buffer
goes to flash. A clear that runs completes at the next DAWN (R376). -/
def flushSkein (s : State) : State :=
  let s := receiveMany s.skein.raised.length s
  let l := s.skein.buffer
  l.foldl (fun s r => writeRecord r s) { s with skein := { s.skein with buffer := [], burst := none } }

/-- Whether the Skein has nothing left for DUSK to wait for (R38): everything raised is taken, no clear runs that a Distaff can end, and the
buffer is in flash, where no clear holds it back. -/
def skeinFlushed (s : State) : Bool :=
  s.skein.raised.isEmpty && !(s.skein.clearing && distaffRuns s) && (s.skein.buffer.isEmpty || s.skein.clearing)

end Sys2Proof.Machine
end

