-- ==== Sys2Proof/Machine/Update.lean ====
section
/-! DEFINITION. Firmware updates and the Ibyar relay (21, R378 to R393): reception, staging, activation by pause and by handover, trial,
commit, and the recovery of the journal at DAWN. -/
namespace Sys2Proof.Machine

/-! ### The relay (R380 to R383) -/

/-- Whether the update engine serves the relay: it needs an ACTIVE lane's Distaff, with its gate open (R14). -/
def engineRuns (s : State) : Bool := decide (s.sys.state ≠ .midnight) && distaffRuns s && !restarts s 42

/-- Whether a transport of UPD_CHAIN carries data: Ethernet from NET's main PLL, CAN FD in MORNING to AFTERNOON on the bus (R380). -/
def transportUp (s : State) (code : Nat) : Bool :=
  match code with
  | 1 => netMain s
  | 2 => (decide (s.sys.state = .morning) || decide (s.sys.state = .noon) || decide (s.sys.state = .afternoon))
      && onBus (can s (field s.upd.chain 27 24))
  | _ => false
def upUp (s : State) : Bool := transportUp s (field s.upd.chain 31 30)
def dnUp (s : State) : Bool := transportUp s (field s.upd.chain 29 28)

/-- Downstream gets a chunk, whose ACK is awaited from here (R382). -/
def sendChunk (id : BitVec 64) (index : Nat) (s : State) : State :=
  match relayOf s id with
  | some r =>
    send (.ibyarChunk id index (SMap.get r.chunks [] index)) (setRelay { r with sentAt := SMap.insert r.sentAt index s.sun.time } s)
  | none => s

/-- Downstream gets a manifest segment. -/
def sendSegment (id : BitVec 64) (k : Nat) (s : State) : State :=
  match relayOf s id with
  | some r => send (.ibyarManifest id k (SMap.get r.segs [] k)) s
  | none => s

/-- A chunk or segment that is held already is acknowledged again, unless its burst still waits (R382). -/
def ackAgain (id : BitVec 64) (index : Nat) (segment : Bool) (s : State) : State :=
  if s.upd.bursts.any fun b => decide (b.id = id) && decide (b.index = index) && decide (b.segment = segment) then s
  else send (.ibyarAck id index segment) s

/-- Chunks that the relay area of 1 GiB holds (R382): those for other targets. -/
def areaChunks (s : State) : Nat :=
  ((s.upd.relays.filter fun r => decide (r.man.map Manifest.target ≠ some patus)).map fun r => r.chunks.length).sum
def areaLimit : Nat := 262144

/-- A chunk is checked against its digest, stored, acknowledged and forwarded, or discarded, counted and requested again (R382, R383); one
held already is only acknowledged again, and one for which the relay area has no room is not taken (log entry 101). -/
def takeChunk (id : BitVec 64) (m : Manifest) (index : Nat) (bytes : List Byte) (s : State) : State :=
  match relayOf s id with
  | none => s
  | some r =>
    if m.chunks ≤ index then s
    else if (SMap.find r.chunks index).isSome then ackAgain id index false s
    else if !m.lists index bytes then send (.ibyarRequest id index false) (bump 0x001C0020 0 s)
    else if m.target ≠ patus && decide (areaLimit ≤ areaChunks s) then s
    else
      let s := setRelay { r with chunks := SMap.insert r.chunks index bytes, newAt := s.sun.time } s
      let mine := decide (s.upd.step = .receiving) && decide (s.upd.man.map Manifest.id = some id)
      let s := if mine then { s with upd := { s.upd with held := index :: s.upd.held } } else s
      let s := completeSet (relayBurst id index false s)
      if dnUp s then sendChunk id index s else s

/-- A verified Patus manifest starts a set in flight, or replaces it (R383): the firmware slot takes its chunks, and those of the set it
replaces are gone. Once its activation has begun, and until the commit is over, a new one is relayed only and counted; a reverted set
gives way to another manifest. -/
def startSet (m : Manifest) (s : State) : State :=
  let begin_ := fun (s : State) =>
    let s := match s.upd.man with
      | some old => if old.id = m.id then s else dropRelay old.id s
      | none => s
    completeSet (setStep .receiving { s with upd := { s.upd with
      man := some m, held := ((relayOf s m.id).map fun r => r.chunks.map (·.1)).getD [], refuse := 0, revertedBlocked := false
      activating := none, mode := 0 } })
  let same := decide (s.upd.man.map Manifest.id = some m.id)
  if m.target ≠ patus then s
  else match s.upd.step with
  | .none => begin_ s
  | .receiving | .verified | .staged =>
    if same then s else if 1 ≤ s.upd.handReady then bump 0x001C0020 0 s else begin_ s
  | .reverted => if same || !s.upd.revertedBlocked then s else begin_ s
  | .switching | .trial | .committed => bump 0x001C0020 0 s

/-- A manifest that is wholly held (R382): one that is malformed, or for Patus does not verify, is discarded and counted; else it is
forwarded, starts a set where it is for Patus, and the chunks that waited for it are taken. -/
def manifestHeld (id : BitVec 64) (bytes : List Byte) (s : State) : State :=
  match parseManifest id bytes with
  | none => dropRelay id (bump 0x001C0020 0 s)
  | some m =>
    if m.target = patus && !manifestSigned bytes m then dropRelay id (bump 0x001C0020 0 s)
    else match relayOf s id with
    | none => s
    | some r =>
      let s := startSet m (setRelay { r with man := some m, waiting := [] } s)
      let s := if dnUp s then (List.range m.segments).foldl (fun s k => sendSegment id k s) s else s
      r.waiting.foldl (fun s c => takeChunk id m c.1 c.2 s) s

/-- IBYAR_MANIFEST: a segment is stored and acknowledged, and a manifest wholly held is verified and forwarded (R382, R383). -/
def execIbyarManifest (t : Time) (id : BitVec 64) (segment : Nat) (bytes : List Byte) (s : State) : Result :=
  let s := advanceTo t s
  .next <|
  if !engineRuns s || !upUp s then s
  else
    let r := (relayOf s id).getD { id := id, newAt := s.sun.time }
    match r.man, SMap.find r.segs segment with
    | some m, some _ => startSet m (ackAgain id segment true s)
    | none, some _ => ackAgain id segment true s
    | some m, none =>
      if m.segments ≤ segment then s
      else relayBurst id segment true (setRelay { r with segs := SMap.insert r.segs segment bytes } s)
    | none, none =>
      let r := { r with segs := SMap.insert r.segs segment bytes, newAt := s.sun.time }
      let s := relayBurst id segment true (setRelay r s)
      match r.bytes with
      | some l => manifestHeld id l s
      | none => s

/-- IBYAR_CHUNK: held until its manifest is complete, then taken (R382). -/
def execIbyarChunk (t : Time) (id : BitVec 64) (index : Nat) (bytes : List Byte) (s : State) : Result :=
  let s := advanceTo t s
  .next <|
  if !engineRuns s || !upUp s then s
  else
    let r := (relayOf s id).getD { id := id, newAt := s.sun.time }
    match r.man with
    | some m => takeChunk id m index bytes s
    | none =>
      if r.waiting.any fun c => decide (c.1 = index) then s
      else setRelay { r with waiting := r.waiting ++ [(index, bytes)], newAt := s.sun.time } s

/-- IBYAR_ACK: downstream has stored a chunk; chunks for another target are deleted once all are acknowledged (R382). -/
def execIbyarAck (t : Time) (id : BitVec 64) (index : Nat) (segment : Bool) (s : State) : Result :=
  let s := advanceTo t s
  .next <|
  if !engineRuns s || !dnUp s then s
  else match relayOf s id with
  | none => s
  | some r =>
    let s := { s with upd := { s.upd with dnLost := false } }
    if segment then s
    else
      let r := { r with
        dnAcked := if r.dnAcked.contains index then r.dnAcked else index :: r.dnAcked
        sentAt := SMap.drop r.sentAt index, resends := SMap.drop r.resends index }
      match r.man with
      | some m => if m.target ≠ patus && decide (m.chunks ≤ r.dnAcked.length) then dropRelay id s else setRelay r s
      | none => setRelay r s

/-- IBYAR_REQUEST: downstream wants a chunk or a segment, which is sent where the module holds it (R381, R382). -/
def execIbyarRequest (t : Time) (id : BitVec 64) (index : Nat) (segment : Bool) (s : State) : Result :=
  let s := advanceTo t s
  .next <|
  if !engineRuns s || !dnUp s then s
  else match relayOf s id with
  | none => s
  | some r =>
    if segment then (if r.man.isSome && (SMap.find r.segs index).isSome then sendSegment id index s else s)
    else if (SMap.find r.chunks index).isSome then sendChunk id index s else s

/-- The lowest index below `n` that a map lacks. -/
def lowestMissing (m : SMap (List Byte)) (n : Nat) : Option Nat := (List.range n).find? fun k => (SMap.find m k).isNone

/-- What a manifest in reception lacks next: a segment, or with the manifest held a chunk (R382). -/
def Relay.missing (r : Relay) : Option (Nat × Bool) :=
  match r.man with
  | some m => (lowestMissing r.chunks m.chunks).map fun k => (k, false)
  | none => match SMap.find r.segs 0 with
    | none => some (0, true)
    | some h => (lowestMissing r.segs (segmentsOf h)).map fun k => (k, true)

/-- IBYAR_REQUEST_TIMEOUT: REQUEST for the lowest missing index of every manifest in reception to which nothing new has come for 500 ms
(R382). -/
def execIbyarRequestTimeout (t : Time) (s : State) : Result :=
  let s := advanceTo t s
  .next <|
  if !engineRuns s || !upUp s then s
  else s.upd.relays.foldl (fun s r =>
    match r.missing with
    | some (k, segment) =>
      if passed s r.newAt 500000000 then send (.ibyarRequest r.id k segment) (setRelay { r with newAt := s.sun.time } s) else s
    | none => s) s

/-- IBYAR_RESEND_TIMEOUT: a chunk that downstream has not acknowledged for 200 ms, or with DN_LOST for 10 s, is sent again and counted; the
eighth resend sets DN_LOST with a WARNING (R382). -/
def execIbyarResendTimeout (t : Time) (id : BitVec 64) (index : Nat) (s : State) : Result :=
  let s := advanceTo t s
  .next <|
  if !engineRuns s || !dnUp s then s
  else match relayOf s id with
  | none => s
  | some r =>
    let due := match SMap.find r.sentAt index with
      | some x => passed s x (if s.upd.dnLost then 10000000000 else 200000000)
      | none => true
    if (SMap.find r.chunks index).isNone || r.man.isNone || r.dnAcked.contains index || !due then s
    else
      let n := SMap.get r.resends 0 index + 1
      let s := sendChunk id index (bump 0x001C0024 0 (setRelay { r with resends := SMap.put r.resends 0 index n } s))
      if 8 ≤ n && !s.upd.dnLost then
        raise .warning 0x1C 0x0000 [] { s with upd := { s.upd with dnLost := true } }
      else s

/-! ### Staging (R379, R384) -/

/-- The part list of R379: exactly one part of each type, the panel's tables in format 1. -/
def partsOk (l : List Part) : Bool :=
  decide (l.length = 6) && ([1, 2, 3, 4, 5, 6].all fun k => l.any fun p => decide (p.type = k))
    && l.all fun p => decide (p.type ≠ 5) || decide (p.format = 1)

/-- The first staging check that fails, as UPD_STAT.REFUSE; 0 when all pass. The stored cop is that of the selected slot, its signature
checked against the staged MFR_KEY (0x0104); `libOk` says that it validates against the staged Tister library otherwise (log entry 6). -/
def stagingCode (m : Manifest) (libOk : Bool) (s : State) : BitVec 4 :=
  let chunks := ((relayOf s m.id).map (·.chunks)).getD []
  let x := selSlot s
  let stored := decide (x.state ≠ .empty) && decide (x.state ≠ .writing)
  if m.target ≠ patus || !bit m.issues issueBit then 1
  else if !partsOk m.parts then 2
  else if 32768 < m.chunks then 6
  else if !m.parts.all (partMatches chunks) then 3
  else if stored && decide (m.mfrKey ≠ 0) && !signatureOk x.bytes m.mfrKey then 5
  else if stored && !libOk then 4
  else 0

/-- UPDATE_STAGING_DONE (R384). -/
def execUpdateStagingDone (t : Time) (libOk : Bool) (s : State) : Result :=
  let s := advanceTo t s
  .next <|
  match s.upd.step, s.upd.man with
  | .verified, some m =>
    let code := stagingCode m libOk s
    let s := { s with upd := { s.upd with refuse := code } }
    if code = 0 then setStep .staged s else raise .error 0x1C 0x0000 [code.zeroExtend 32] s
  | _, _ => s

/-! ### Activation (R385 to R388) -/

/-- Whether a declared signal is VALID and non-zero now (R36, R385). -/
def signalOn (s : State) : Option Nat → Bool
  | none => false
  | some i =>
    let p := (readSignal none i .pass s.sun.time s.sun.time s).1
    decide (p.status = SigStatus.valid.code) && decide (p.value ≠ 0)

/-- Whether a pause is permitted (R385). -/
def pausePermitted (s : State) : Bool :=
  match s.sys.state with
  | .morning => true
  | .dawn => s.sys.hold
  | .noon | .afternoon => signalOn s (cop s).pauseOk
  | _ => false

/-- Whether a handover's needs are met (R23, R385). -/
def handoverPossible (s : State) : Bool :=
  let fmt := match s.upd.man with
    | some m => decide (m.ckptFmt = 5)
    | none => false
  let rested := match s.upd.lastHandoverEnd with
    | some e => passed s e (60 * second)
    | none => true
  standbyCold s && fmt && s.store.running.isSome && s.store.hover && rested

/-- A pause is accepted: it begins at the next boundary. -/
def choosePause (asked : BitVec 2) (s : State) : State :=
  { s with upd := { s.upd with activating := some asked, mode := 1, holdCauseAt := s.sys.holdCause } }

/-- A handover begins (R387): the standby enters UPDATING, its clocks to start with its claim at the MANAGEMENT grade (R259), and updates of
the panel that have not started are held. -/
def startHandover (asked : BitVec 2) (s : State) : State :=
  match s.lanes.holder with
  | none => s
  | some l =>
    let o := l.other
    let s := setLane o { lane s o with state := .updating, mgmt := true, clocks := false } s
    submit 4 (mgmtClaim o) { s with
      upd := { s.upd with activating := some asked, mode := 2, handReady := 1, holdCauseAt := s.sys.holdCause }
      panel := { s.panel with hold := true } }

/-- ACTIVATE as the Distaff executes it (R385). -/
def activateSet (id : BitVec 64) (mode : Nat) (s : State) : Reply × State :=
  let wrong := decide (s.upd.step ≠ .staged) || decide (s.upd.man.map Manifest.id ≠ some id) || decide (s.sys.state = .dusk)
    || (s.sys.hold && decide (s.sys.holdCause = 5)) || decide (1 ≤ s.upd.handReady)
  if wrong then refuse .wrongState s
  else match mode with
  | 0 =>
    if pausePermitted s then done (choosePause 0 s)
    else if handoverPossible s then done (startHandover 0 s) else refuse .noStandby s
  | 1 => if pausePermitted s then done (choosePause 1 s) else refuse .wrongState s
  | 2 => if handoverPossible s then done (startHandover 2 s) else refuse .noStandby s
  | _ => refuse .badValue s

/-- Boundary B where activations with ti before it have not completed: its checkpoint is due, in place of an older one still in progress,
and the lane makes no release from here on (R309, R386, R387, log entry 103). -/
def awaitBoundary (s : State) : State :=
  { s with
    spool := { s.spool with due := some s.sun.time, saved := [], written := none, plyAt := plyKept s.core.ply, posAt := posKept s.core.pos }
    upd := { s.upd with boundary := some s.sun.time } }

/-- Boundary B of a pause (R386): SWITCHING, checkpoint B, and behind it the gate closes. -/
def pauseBoundary (s : State) : State :=
  let s := setStep .switching s
  if s.store.running.isNone then pauseClose s
  else if quietBefore s.sun.time s then pauseClose (checkpointNow s)
  else awaitBoundary s

/-- Boundary B of a handover, or of a revert by handover: checkpoint B, and behind it the active lane's drop (R260, R387, R390). -/
def handoverBoundary (s : State) : State :=
  if quietBefore s.sun.time s then handoverDrop (checkpointNow s)
  else awaitBoundary { s with upd := { s.upd with handReady := 3 } }

/-- ACTIVATION_BOUNDARY (R385 to R387, R390): at a frame boundary an accepted pause begins if it is still permitted, turns to a handover
where AUTO allows, or is abandoned with an EVENT; a booted handover passes its point of no return; a revert by handover begins. -/
def execActivationBoundary (t : Time) (s : State) : Result :=
  let s := advanceTo t s
  .next <|
  if !atFrame s || !laneActive s || !s.lanes.gate then s
  else if s.upd.handReady = 2 then
    if s.upd.revertHand then handoverBoundary s
    else if s.upd.step = .staged then handoverBoundary (setStep .switching s)
    else s
  else match s.upd.activating with
  | some asked =>
    if decide (s.upd.mode ≠ 1) || decide (s.upd.pauseReady ≠ 0) || decide (s.upd.step ≠ .staged) then s
    else if pausePermitted s then pauseBoundary s
    else if asked = 0 && handoverPossible s then startHandover 0 s
    else event 3 [BitVec.ofNat 32 UpdStep.staged.code] { s with upd := { s.upd with activating := none, mode := 0 } }
  | none => s

/-- PAUSE_REBOOT_DONE: Distaff and position engine run from the new slot (R386); what the Distaff had queued is lost (R55). -/
def execPauseRebootDone (t : Time) (s : State) : Result :=
  let s := advanceTo t s
  .next (if laneActive s && decide (s.upd.pauseReady = 1) then { s with distaff := {}, upd := { s.upd with pauseReady := 2 } } else s)

/-- PAUSE_RESTORE_DONE: the cop is loaded and checkpoint B restored, which counts as a switch-over (R313, R314, R386). -/
def execPauseRestoreDone (t : Time) (s : State) : Result :=
  let s := advanceTo t s
  .next <|
  if !laneActive s || decide (s.upd.pauseReady ≠ 2) then s
  else
    let s := if s.store.running.isSome then
        let (im, _, _) := imageToRestore s
        restoreImage im (dropCore s)
      else s
    { s with upd := { s.upd with pauseReady := 3 } }

/-- CAN controllers of a lane that has just taken over: they join the bus, and what the gate's buffers held is counted (R345). -/
def rejoin (s : State) : State :=
  let occ := s.lanes.gapOccupancy
  let s := { s with lanes := { s.lanes with gapOccupancy := [] } }
  let s := occ.foldl (fun s e => bumps (0x0010001C + 0x1000 * e.1) 0 e.2 s) s
  if running s then canJoin s else s

/-- PAUSE_GATE_OPEN: at a frame boundary the gate opens, the shared parts change over, and TRIAL is written (R386, R388). -/
def execPauseGateOpen (t : Time) (s : State) : Result :=
  let s := advanceTo t s
  .next <|
  match s.lanes.holder with
  | some l =>
    if decide (s.upd.pauseReady ≠ 3) || !atFrame s then s
    else
      let s := takeWhorl l s
      engageAll (lateDisarm (beginTrial (switchParts true (rejoin s))))
  | none => s

/-- HANDOVER_BOOT_DONE: the UPDATING standby, its clocks running, has booted from the new slot, or failed (R387). -/
def execHandoverBootDone (t : Time) (ok : Bool) (s : State) : Result :=
  let s := advanceTo t s
  .next <|
  match s.lanes.holder with
  | some l =>
    if s.upd.handReady ≠ 1 || !(lane s l.other).clocks then s
    else if ok then
      { setLane l.other { lane s l.other with slot := !s.upd.slot } s with upd := { s.upd with handReady := 2 } }
    else updatingFailed l.other 7 s
  | none => s

/-- HANDOVER_RESTORE_DONE: with its wake claim admitted the other lane has restored checkpoint B (R260, R387, R390). -/
def execHandoverRestoreDone (t : Time) (s : State) : Result :=
  let s := advanceTo t s
  .next <|
  match s.lanes.holder with
  | some l =>
    if s.upd.handReady = 3 && holds s 4 (.wake l.other) then { s with upd := { s.upd with handReady := 4 } } else s
  | none => s

/-- WHORL_TRANSFER (R315, R387, R388, R390): at a boundary the other lane is ACTIVE with checkpoint B and the old one COLD; the CRITICAL
record with cause YIELD is written before TRIAL, or the revert is complete. -/
def execWhorlTransfer (t : Time) (s : State) : Result :=
  let s := advanceTo t s
  .next <|
  match s.lanes.holder with
  | some l =>
    if decide (s.upd.handReady ≠ 4) || !atFrame s then s
    else
      let (im, f, none_) := imageToRestore s
      let s := closeAllSessions (restoreImage im (dropCore s))
      let s := takeWhorl l.other { s with spool := { s.spool with due := none, saved := [], written := none, plyAt := {}, posAt := {} } }
      let s := returnLane l (setLane l { lane s l with state := .cold, mgmt := false, clocks := false } s)
      let s := rejoin { s with
        lanes := { s.lanes with noCkpt := none_ }, upd := { s.upd with lastHandoverEnd := some s.sun.time } }
      let s := raise .critical 0x18 0x0014
        [BitVec.ofNat 32 (Lane.num l), 4, lo32 f, hi32 f, 0] (bump 0x00180014 0 s)
      engageAll (lateDisarm (if s.upd.revertHand then oldSetBack s else beginTrial (switchParts true s)))
  | none => s

/-! ### Trial, commit, revert (R389 to R392) -/

/-- The commit (R390): COMMITTED is written, the old parts are dropped, and the standby's copy starts with its clocks stopped. -/
def commitSet (s : State) : State :=
  let s := setStep .committed { s with panel := { s.panel with oldTable := none }, upd := { s.upd with activating := none, mode := 0, kept := none } }
  match s.lanes.holder with
  | some l =>
    if standbyCold s then setLane l.other { lane s l.other with state := .updating, mgmt := false, clocks := false } s else s
  | none => s

/-- Whether every health condition holds (R389). -/
def healthy (s : State) : Bool :=
  let confirm := match s.upd.man with
    | some m => !m.hostConfirm || s.upd.confirmed
    | none => true
  let day := match s.sys.state with
    | .morning | .noon | .afternoon => true
    | .dawn => s.sys.hold && decide (s.sys.holdCause = s.upd.holdCauseAt)
    | _ => false
  day && !s.upd.critical && !restarts s 43 && s.upd.migrated && confirm && passed s s.upd.trialFrom (10 * second)
    && decide (s.sun.time < s.upd.trialEnd)

/-- TRIAL_HEALTH_OK (R389, R390). -/
def execTrialHealthOk (t : Time) (s : State) : Result :=
  let s := advanceTo t s
  .next (if s.upd.step = .trial && !s.upd.healthOk && healthy s then
    commitSet { s with upd := { s.upd with healthOk := true } } else s)

/-- TRIAL_EXPIRED: the window has passed (R389). -/
def execTrialExpired (t : Time) (s : State) : Result :=
  let s := advanceTo t s
  .next (if s.upd.step = .trial && !s.upd.healthOk && decide (s.upd.trialEnd ≤ s.sun.time) then failHealth s else s)

/-- UPDATE_COMMIT_DONE: the standby's copy has verified, or failed with cause COPY, and the journal returns to NONE (R383, R390). -/
def execUpdateCommitDone (t : Time) (copyOk : Bool) (s : State) : Result :=
  let s := advanceTo t s
  .next <|
  if s.upd.step ≠ .committed then s
  else
    let s := match s.lanes.holder with
      | some l =>
        let x := lane s l.other
        if decide (x.state = LaneState.updating) && !x.clocks then
          if copyOk then setLane l.other { x with state := .cold, slot := s.upd.slot } s
          else standbyLost (failLane l.other 6 s)
        else s
      | none => s
    setStep .none { s with upd := { s.upd with man := none, held := [], healthOk := false } }

/-- SETTINGS_MIGRATION_DONE: the new set's settings are migrated, or a record cannot be, which fails the health (R389, R391). -/
def execSettingsMigrationDone (t : Time) (ok : Bool) (s : State) : Result :=
  let s := advanceTo t s
  .next <|
  if s.upd.step ≠ .trial || s.upd.healthOk then s
  else if ok then { s with upd := { s.upd with migrated := true, trialFrom := s.sun.time } }
  else failHealth s

/-- The outcome of the journal at DAWN, by the step last written (R49, R392). -/
def recoverJournal (s : State) : State :=
  match s.upd.step with
  | .switching => beginTrial (switchParts true s)
  | .trial => if s.upd.healthOk then setStep .none (setStep .committed { s with panel := { s.panel with oldTable := none } })
      else oldSetBack (setStep .reverted s)
  | .committed => setStep .none { s with upd := { s.upd with man := none, held := [], healthOk := false } }
  | .reverted => if s.upd.revertedBlocked then s else oldSetBack s
  | _ => s

end Sys2Proof.Machine
end

