-- ==== Sys2Proof/Machine/Day.lean ====
section
/-! DEFINITION. The day: power, the steps of DAWN, arming and disarming, DUSK, hold-up (R24 to R40, R412 to R418). -/
namespace Sys2Proof.Machine

/-! ### Power off and MIDNIGHT (R24, R38 to R40) -/

/-- What is left without the logic supplies: flash, journal memory and the calibration store, the always-on domain with its
real-time clock (R40, R51), levels of pins, and the model's own queue and transcript. -/
def dark (s : State) : State :=
  let s := loseBursts s
  let outs : Outs := {
    retryMax := s.outs.retryMax, newBank := s.outs.newBank, dir := s.outs.dir, uv := s.outs.uv, stood := s.outs.stood
    lsw := s.outs.lsw.foldl (fun m e => SMap.put m {} e.1 ({ exh := e.2.exh, retries := e.2.retries, backoff := e.2.backoff, dirMap := e.2.dirMap } : Lsw)) [] }
  let tally : Tally := {
    limit0 := s.tally.limit0, limit1 := s.tally.limit1, limit2 := s.tally.limit2, limit3 := s.tally.limit3
    total := s.tally.total, stagger := s.tally.stagger, waitMax := s.tally.waitMax }
  let sun : Sundial := {
    rtcValid := s.sun.rtcValid, rtc := s.sun.rtc, storedRate := s.sun.storedRate, taiUtc := s.sun.taiUtc
    leapAnn := s.sun.leapAnn, leapMjd := s.sun.leapMjd }
  let skein : Skein := {
    ring := s.skein.ring, seq := s.skein.seq, key := s.skein.key, triggers := s.skein.triggers
    clearing := s.skein.clearing, lastBeforeClear := s.skein.lastBeforeClear }
  let upd : Upd := { s.upd with
    relays := s.upd.relays.map fun r => { r with waiting := [], newAt := 0, sentAt := [], resends := [] }
    dnLost := false, refuse := 0, mode := 0, activating := none, pauseReady := 0, handReady := 0, revertHand := false
    boundary := none }
  let panel : Panel := {
    vcom := s.panel.vcom, table := s.panel.table, nextTable := s.panel.nextTable, oldTable := s.panel.oldTable
    committed := s.panel.committed, stress := s.panel.stress, flashLedger := s.panel.flashLedger, ledger := s.panel.flashLedger
    gen := s.panel.gen, journal := s.panel.journal }
  { sys := { onTime := s.sys.onTime, subNs := s.sys.subNs, kl15 := s.sys.kl15 }
    store := { s0 := s.store.s0, s1 := s.store.s1, sel := s.store.sel, lastValid := s.store.lastValid }
    tally := tally, outs := outs
    gnss := { cfg := s.gnss.cfg, hdgCfg := s.gnss.hdgCfg, microNew := s.gnss.microNew }
    sun := sun, skein := skein, upd := upd, panel := panel
    emergency := s.emergency, sent := s.sent, free := s.free, pending := s.pending }

/-- MIDNIGHT is entered (R24, R27, R38): the day record goes to flash, and KL15 found high is a pending wake. -/
def enterMidnight (s : State) : State :=
  let s := dark (flushSkein (toDay .midnight .duskDone false s))
  { s with sys := { s.sys with powered := true, state := .midnight, kl15Pending := s.sys.kl15 } }

/-- Power goes: SYS_RESET_CAUSE.HOLDUP will tell a loss outside MIDNIGHT from an end through DUSK (R39, R71). -/
def powerOff (t : Time) (s : State) : State :=
  let held := decide (s.sys.state ≠ .midnight)
  let s := dark s
  { s with sys := { s.sys with holdupFlag := held, offAt := some t } }

/-! ### The start of a DAWN (R25, R29) -/

/-- A DAWN from power-off or MIDNIGHT: each bank whose VLOAD has not stood yet starts in under-voltage (R275, log entry 100). -/
def coldDawn (code line : BitVec 4) (why : DayCause) (s : State) : State :=
  let s := startDawn code line false false why { s with sys := { s.sys with powered := true, offAt := none } }
  { s with outs := { s.outs with uv := ~~~s.outs.stood } }

/-- How long VBAT has been away at `t`, in ns; none where it has never stood. -/
def awayNs (t : Time) (s : State) : Option Nat := s.sys.offAt.map fun o => t.toNat - o.toNat

/-- The real-time clock's backup store lasts 7 days: after a longer absence of VBAT the time is unknown (R40, log entry 90). -/
def spendBackup (t : Time) (s : State) : State :=
  match awayNs t s with
  | some n => if 7 * 86400 * second < n then { s with sun := { s.sun with rtcValid := false, rtc := 0 } } else s
  | none => s

/-- The DAWN from power-off (R29, R57): a power-on DAWN; after less than 2 s without VBAT either that or a warm-reset DAWN, whose outputs
are off as hold-up left them, as the supplies fell (a free choice, log entries 3 and 90). -/
def fromOff (t : Time) (s : State) : State :=
  let brief := match awayNs t s with
    | some n => decide (n < 2 * second)
    | none => false
  let s := spendBackup t s
  let (warm, s) := if brief then nextBool s else (false, s)
  if warm then
    startDawn 0 0 true false .powerOn { s with sys := { s.sys with powered := true, offAt := none } }
  else coldDawn 0 0 .powerOn s

/-- VBAT_QUALIFIED: the DAWN from power-off, or a power-on DAWN after hold-up has run (R29, R414). -/
def execVbatQualified (t : Time) (s : State) : Result :=
  let s := advanceTo t s
  .next <|
  if !s.sys.powered then fromOff t s
  else if s.sys.holdupDone then coldDawn 0 0 .powerOn (powerOff t s)
  else s

/-- KL15_RISING: a wake from MIDNIGHT; elsewhere only the level changes (R25, R27). -/
def execKl15Rising (t : Time) (s : State) : Result :=
  let s := advanceTo t s
  let s := { s with sys := { s.sys with kl15 := true } }
  .next <| if s.sys.powered && decide (s.sys.state = .midnight) then coldDawn 3 0 .kl15 s else s

/-- WAKE_LINE_ASSERTED (R25). -/
def execWakeLineAsserted (t : Time) (line : Fin 4) (s : State) : Result :=
  let s := advanceTo t s
  .next <| if s.sys.powered && decide (s.sys.state = .midnight) then coldDawn 4 (BitVec.ofNat 4 line.val) .wake s else s

/-- RTC_ALARM (R25): a failed real-time clock raises none (R319). -/
def execRtcAlarm (t : Time) (s : State) : Result :=
  let s := advanceTo t s
  .next <| if s.sys.powered && decide (s.sys.state = .midnight) && s.sun.rtcValid then coldDawn 5 0 .rtc s else s

/-- MIDNIGHT_PENDING_WAKE: KL15 found high on entry to MIDNIGHT (R27). -/
def execMidnightPendingWake (t : Time) (s : State) : Result :=
  let s := advanceTo t s
  .next <|
  if s.sys.powered && decide (s.sys.state = .midnight) && s.sys.kl15Pending then coldDawn 6 0 .kl15Pending s else s

/-- RESET_N_ASSERTED (R51, R56). -/
def execResetNAsserted (t : Time) (s : State) : Result := .next (warmReset 2 .resetN (advanceTo t s))

/-- KL15_LOW_200MS (R25, R27): DUSK, or latched where KL15 fell during DAWN. -/
def execKl15Low200ms (t : Time) (s : State) : Result :=
  let s := advanceTo t s
  .next <|
  if !s.sys.kl15 then s
  else
    let fell := !s.sys.warm || passed s s.sys.dawnAt 200000000
    let s := { s with sys := { s.sys with kl15 := false } }
    if !s.sys.powered || s.sys.holdupRun then s
    else match s.sys.state with
    | .morning | .noon | .afternoon => enterDusk .kl15Low s
    | .dawn => if s.sys.hold then enterDusk .kl15Low s else { s with sys := { s.sys with kl15Latched := s.sys.kl15Latched || fell } }
    | .midnight => { s with sys := { s.sys with kl15Pending := false } }
    | .dusk => s

/-! ### The steps of DAWN (R29 to R32) -/

/-- Whether a step of DAWN is the one that has to finish next. -/
def inStep (s : State) (d : DawnStep) : Bool :=
  s.sys.powered && !s.sys.holdupRun && decide (s.sys.state = .dawn) && decide (s.sys.dawn = d)

/-- The next step of DAWN. -/
def goStep (d : DawnStep) (s : State) : State := { s with sys := { s.sys with dawn := d } }

/-- LOGIC_SUPPLIES_UP: the logic base claim stands from here on (R29, R259). -/
def execLogicSuppliesUp (t : Time) (s : State) : Result :=
  let s := advanceTo t s
  .next <|
  if inStep s .supplies then goStep .plls (if holds s 4 .logic then s else submit 4 logicClaim s) else s

/-- REF_PLLS_LOCKED (R29, R259, R317, R321, R324): clocks lock, the Sundial starts where it does not run, and the self-test's running claim
is submitted. -/
def execRefPllsLocked (t : Time) (refOk : Bool) (s : State) : Result :=
  let s := advanceTo t s
  .next <|
  if !inStep s .plls then s
  else
    let ran := s.sun.run
    let s := lockDomains refOk s
    let s := startSundial (writeClkSrc ((s.clock.stay.zeroExtend 32 <<< 16) ||| s.clock.force.zeroExtend 32) s)
    goStep .selfTest (submit 4 (runClaim .a) (if ran then s else { s with sys := { s.sys with dawnAt := s.sun.time } }))

/-- A lane's self-test result (R30, R301): it holds retention, or it has failed. LANE_STAT.CAUSE keeps an earlier fault (R316). -/
def tested (l : Lane) (pass : Bool) (s : State) : State :=
  if pass then setLane l { lane s l with state := .waking, mgmt := false, clocks := false } s
  else failLane l 7 s

/-- SELF_TEST_COMPLETE: with the running claim admitted under which one lane after the other is tested (R259, R260), the chosen lane takes the
Whorl and holds that claim, or DAWN stops in the hold (R29, R30, R32, R56). -/
def execSelfTestComplete (t : Time) (passA passB imuOk panelFitted : Bool) (s : State) : Result :=
  let s := advanceTo t s
  .next <|
  if !inStep s .selfTest || !holds s 4 (.run .a) then s
  else
    let s := tested .b passB (tested .a passA s)
    let s := { s with
      inputs := { s.inputs with imuRun := true, imuFail := !imuOk }
      panel := { s.panel with fitted := panelFitted } }
    if !passA && !passB then reachHold 5 0 (returnLane .a s)
    else
      let l : Lane := if passA then .a else .b
      let s := if passA then s else enter 4 (runClaim .b) (returnLane .a s)
      let s := closeResponder (takeWhorl l s)
      if s.sys.stayDawn && s.sys.warm then
        let s := reachHold 6 0 s
        if s.sys.hold then goStep .distaff s else s
      else goStep .distaff s

/-- DISTAFF_BOOTED: the limits in force are read and the baseband starts searching (R29, R234, R254). -/
def execDistaffBooted (t : Time) (s : State) : Result :=
  let s := advanceTo t s
  .next <|
  if !inStep s .distaff then s
  else
    let y := s.tally
    let s := { s with
      distaff := {}
      tally := { y with
        in0 := y.limit0.vote, in1 := y.limit1.vote, in2 := y.limit2.vote, in3 := y.limit3.vote
        inTotal := y.total.vote, inStagger := y.stagger.vote, inWait := y.waitMax.vote } }
    let s := holderSlot s
    let s := if s.gnss.run then engageAll s else restartBaseband { s with gnss := { s.gnss with run := true } }
    let s := if s.gnss.bias0 && decide (s.gnss.ant0 = 0) then claimBias 0 s else s
    let s := if s.gnss.bias1 && decide (s.gnss.ant1 = 0) then claimBias 1 s else s
    goStep .journal s

/-- JOURNAL_RECOVERY: the journal's outcome is applied; the load switches' retry state stands as journal memory kept it
(R29, R273, R392). -/
def execJournalRecovery (t : Time) (s : State) : Result :=
  let s := advanceTo t s
  .next <|
  if inStep s .journal then goStep (if s.sys.hold then .done else .copRead) (recoverJournal s) else s

/-- A slot of the cop store. -/
def copSlot (s : State) (b : Bool) : CopSlot := if b then s.store.s1 else s.store.s0

/-- A slot of the cop store, replaced. -/
def setCopSlot (b : Bool) (x : CopSlot) (s : State) : State :=
  { s with store := if b then { s.store with s1 := x } else { s.store with s0 := x } }

/-- The slot whose cop is under validation (R168, R171), and the same replaced. -/
def valSlot (s : State) : CopSlot := copSlot s s.store.valSlot
def setVal (x : CopSlot) (s : State) : State := setCopSlot s.store.valSlot x s

/-- DAWN ends in the hold for want of a valid cop, which the panel shows (R32, R407). -/
def reachNoCop (cause : BitVec 8) (refusal : BitVec 16) (s : State) : State :=
  let s := reachHold cause refusal s
  if s.sys.hold then drawAsset 1 s else s

/-- COP_READ_DONE: no cop, an incomplete one, or the start of its validation (R29, R32, R168, R169). -/
def execCopReadDone (t : Time) (s : State) : Result :=
  let s := advanceTo t s
  .next <|
  if !inStep s .copRead then s
  else
    let x := selSlot s
    if x.state = .empty then reachNoCop 1 0 s
    else if !x.commit then reachNoCop 2 0 s
    else
      let s := setCopSlot s.store.sel { x with state := .committed } s
      goStep .validation { s with store := { s.store with validating := true, valSlot := s.store.sel } }

/-- COP_RESULT (R171, R365). -/
def copEvent (s : State) : State := event 2 [readSystem s 0x40, readSystem s 0x44] s

/-- COP_DETAIL of a refusal. -/
def CopFault.detail (f : CopFault) : Word := at32 f.section_ 24 ||| at32 f.record 0

/-- A validation refuses (R171, R172): ERROR, COP_STATUS and COP_DETAIL, the slot REFUSED; DAWN ends in the hold, the hold goes on
with the new code, and a running cop continues. -/
def copRefused (f : CopFault) (s : State) : State :=
  let s := raise .error 0x01 0x0040 [f.code.zeroExtend 32, BitVec.ofNat 32 f.section_, BitVec.ofNat 32 f.record] s
  let s := setVal { valSlot s with state := .refused } { s with store := { s.store with
    refusal := f.code, detail := f.detail, validating := false } }
  let cause : BitVec 8 := if f.code = 0x0105 then 4 else 3
  let s :=
    if s.sys.state = .dawn then
      (if s.sys.hold then { s with sys := { s.sys with holdCause := cause, refusal := f.code } } |> drawAsset 1 else reachNoCop cause f.code s)
    else s
  copEvent s

/-- A validation passes (R171, R173, R301): in DAWN the copy to the standby follows, else the cop waits for the next DAWN. -/
def copPassed (r : CopResult) (s : State) : State :=
  let s := match r.detFail with
    | some f => raise .warning 0x01 0x0040 [f.code.zeroExtend 32, BitVec.ofNat 32 f.section_, BitVec.ofNat 32 f.record] s
    | none => s
  let s := { s with store := { s.store with refusal := 0, detail := 0, validating := false } }
  let s :=
    if s.sys.state = .dawn then
      goStep .copy { s with store := { s.store with
        candidate := some r.cop, candDet := r.det, candHover := r.hover, candDiss := r.dissMw } }
    else setVal { valSlot s with state := .pending } s
  copEvent s

/-- COP_VALIDATION_DONE (R168, R171 to R175): the slot under validation as its bytes spell it, and `c` as the records of those sections whose
bytes the spec does not lay out; what a slot has been read as stands until it is rewritten (log entry 7). Validation is work of the
Distaff, so it ends only while that runs (R171). -/
def execCopValidationDone (t : Time) (c : Cop) (s : State) : Result :=
  let s := advanceTo t s
  .next <|
  let x := valSlot s
  let c := x.reading.getD c
  if !s.store.validating || !distaffRuns s then s
  else if magicOk x.bytes && sectionsOk x.bytes && !fitsBytes x.bytes c then s
  else
    let r := validate x.bytes x.badDigest (readCop x.bytes c) s
    let s := setVal { x with
      migrated := r.migrated, signed := r.signed, reading := some c, copy := if r.migrated then some r.cop else none } s
    match r.refusal with
    | some f => copRefused f s
    | none => copPassed r s

/-! ### MORNING (R35, R63, R188, R193, R297, R301) -/

/-- A sensor port on entry to MORNING: powered where declared, off where not (R188, R193). -/
def portMorning (n : Nat) (s : State) : State :=
  match sensorDecl s n with
  | some d =>
    if d.mode ≠ 0 && !holds s 4 (.port n) && !waits s 4 (.port n) then submit 4 (portClaim d) s
    else if d.mode = 0 then setSensor n { sensor s n with power := false } (unqueue 4 (.port n) (giveBack 4 (.port n) s))
    else s
  | none => setSensor n { sensor s n with power := false } (unqueue 4 (.port n) (giveBack 4 (.port n) s))

/-- A SUP on entry to MORNING. -/
def supMorning (n : Nat) (s : State) : State :=
  match (cop s).sups.find? fun d => decide (d.sup = n) with
  | some d => if holds s 4 (.sup n) || waits s 4 (.sup n) then s else submit 4 (supClaim d) s
  | none =>
    unqueue 4 (.sup n) (giveBack 4 (.sup n) { s with inputs := { s.inputs with supOn := setBit s.inputs.supOn n false } })

/-- The gap states that a cop declares, as SOL_GAP holds them (R297, R299). -/
def gapWord (c : Cop) : Word :=
  c.outputs.foldl (fun w d => match d.chan with
    | .sol n => if d.neutral then setBit w n true else w
    | .lsw _ => w) 0

/-- MORNING is entered, or DUSK where KL15 ends the DAWN (R25, R27): locks, gap states, CAN, ports, SUPs, Strike, Ply, panel and Ethernet
take the cop's setup. -/
def enterMorning (s : State) : State :=
  if kl15Ends s then enterDusk .kl15Low { s with store := { s.store with running := none } }
  else
    let s := limpEnd s
    let s := toDay .morning .validated false s
    let s := { s with sys := { s.sys with hold := false, holdCause := 0, refusal := 0, holdOff := false, dawn := .done, autoarmDone := false } }
    let s := setLocks (cop s).locks { s with outs := { s.outs with gap := .of (gapWord (cop s)) } }
    let s := canJoin <| loadConstants { s with core := { pos := s.core.pos, ply := { since := s.sun.time } } }
    let s := (List.range 12).foldl (fun s n => portMorning n s) s
    let s := (List.range 16).foldl (fun s n => supMorning n s) s
    let s := applyEth (startStrike s)
    { s with
      panel := { s.panel with geom := (cop s).panel }
      upd := { s.upd with trialFrom := if s.upd.step = .trial then s.sun.time else s.upd.trialFrom } }

/-- STANDBY_COPY_DONE (R301): the other lane is COLD, or FAILED with cause COPY; the cop runs. -/
def execStandbyCopyDone (t : Time) (ok : Bool) (s : State) : Result :=
  let s := advanceTo t s
  .next <|
  match s.store.candidate, s.lanes.holder with
  | some c, some l =>
    if !inStep s .copy then s
    else
      let o := l.other
      let s :=
        if (lane s o).state ≠ .waking then s
        else if ok then setLane o { lane s o with state := .cold, mgmt := false, clocks := false, slot := s.upd.slot } s
        else failLane o 6 s
      let s := setVal { valSlot s with state := .valid } s
      enterMorning { s with store := { s.store with
        running := some c, lastValid := some c, det := s.store.candDet, hover := s.store.candHover, dissMw := s.store.candDiss
        candidate := none } }
  | _, _ => s

/-! ### Arming (R35 to R37) -/

/-- A task at ARM (R86, R87, R94). -/
def armTask (x : TaskState) : TaskState := { x with stopped := false, missWarned := false, outside := false, maxResp := 0 }

/-- Load switches whose recorded command is on but which neither conduct nor wait: the command is of an earlier run (log entry 61). -/
def dropStale (n : Nat) (s : State) : State :=
  let x := lsw s n
  if x.cmd && !x.on && !lswWaiting x && !waits s (n / 12) (.chan (.lsw n)) then setLsw n { x with cmd := false } s else s

/-- ARM takes effect (R25, R35, R86, R87, R109, R149, R287). -/
def armNow (why : DayCause) (s : State) : State :=
  let s := toDay (if standbyReady s then .noon else .afternoon) why false s
  let s := (List.range 48).foldl (fun s n => dropStale n s) s
  let keys := (cop s).loops.map fun d => loopKey d.unit d.loop
  let size (b : Nat) : Nat := ((bobDecl s b).map (·.size)).getD 0
  { s with
    sys := { s.sys with armedAt := some s.sun.time, driving := false }
    core := { s.core with
      tasks := s.core.tasks.foldl (fun m e => SMap.put m {} e.1 (armTask e.2)) []
      loops := keys.foldl (fun m k => SMap.put m {} k { SMap.get m {} k with init := some .arm }) s.core.loops
      bobs := s.core.bobs.foldl (fun m e => SMap.put m {} e.1 { e.2 with hiwat := e.2.fill (size e.1) }) []
      badprof := [] } }

/-- ARM (R35). -/
def execArm (r : Req) (s : State) : Result :=
  .next (serve r true false (fun s =>
    if s.sys.state ≠ .morning || s.sys.holdupRun then refuse .wrongState s else done (armNow .arm s)) s)

/-- AUTOARM: at a frame boundary in MORNING (R36). It acts once between two DAWNs: a MORNING that a DISARM enters behind an AUTOARM is
not armed again, one that follows a host's ARM is (DESIGN CHOICE, log entry 88: the spec does not say). -/
def execAutoarm (t : Time) (s : State) : Result :=
  let s := advanceTo t s
  .next <|
  if decide (s.sys.state = .morning) && running s && atFrame s && (cop s).autoarm && !s.sys.autoarmDone
      && !s.sys.holdupRun && ((cop s).armOk.isNone || signalOn s (cop s).armOk) then
    armNow .autoarm { s with sys := { s.sys with autoarmDone := true } }
  else s

/-- A load switch as outputs are first driven (R35, R272): what the lane has commanded meanwhile takes effect. -/
def startChan (c : Chan) (s : State) : State :=
  match c with
  | .lsw n => if (lsw s n).cmd then lswClaimOn n s else if (lsw s n).on then lswOff n s else s
  | .sol _ => s

/-- ARM_OUTPUT_START: the first frame boundary at least 1 ms after ARM (R35). -/
def execArmOutputStart (t : Time) (s : State) : Result :=
  let s := advanceTo t s
  .next <|
  match s.sys.armedAt with
  | some a =>
    if s.lanes.gate && (decide (s.sys.state = .noon) || decide (s.sys.state = .afternoon)) && atFrame s && passed s a 1000000
        && !s.sys.holdupRun then
      let s := { s with sys := { s.sys with driving := true, held := false, armedAt := none } }
      ((sortBy (fun p q => p.armOrder ≤ q.armOrder) (cop s).outputs).map (·.chan)).foldl (fun s c => startChan c s) s
    else s
  | none => s

/-- DISARM (R31, R37). -/
def execDisarm (r : Req) (s : State) : Result :=
  .next (serve r true false (fun s =>
    if s.sys.holdupRun then refuse .wrongState s
    else match s.sys.state with
    | .noon | .afternoon =>
      done (if s.lanes.gate then disarmNow s else { s with sys := { s.sys with disarmPending := true } })
    | .morning =>
      if s.sys.held then done (shutDeclared { s with sys := { s.sys with held := false } }) else refuse .wrongState s
    | _ => refuse .wrongState s) s)

/-! ### DUSK (R38, R407) -/

/-- Tasks have stopped at a frame boundary: what has not completed is dropped. -/
def stopTasks (s : State) : State :=
  { s with core := { s.core with acts := [], tasks := s.core.tasks.foldl (fun m e => SMap.put m {} e.1 { e.2 with pending := [] }) [] } }

/-- Outputs in DUSK: the running cop's shutdown states, or everything off where none runs (R32, R38). -/
def duskOutputs (s : State) : State :=
  let s := if laneActive s && s.store.running.isSome then shutDeclared s else switchOffHeld s
  let s := canLeaveAll (suppliesOff s)
  { s with sys := { s.sys with held := false }, strike := { s.strike with run := false } }

/-- The panel in DUSK: pending updates are discarded and the DUSK asset is drawn (R407). -/
def duskPanel (s : State) : State := drawAsset 0 { s with panel := { s.panel with queue := [] } }

/-- The next step of DUSK. -/
def goDusk (n : Nat) (s : State) : State := { s with sys := { s.sys with duskStep := n } }

/-- DUSK_STEP_DONE (R38): tasks stop at a boundary, the final checkpoint, outputs, the Skein, the panel, MIDNIGHT. During a
switch-over gap the checkpoint waits for the new lane; the Skein's step ends when it is flushed, the panel's when its last image is drawn;
the real-time clock is written on the way (R324). -/
def execDuskStepDone (t : Time) (s : State) : Result :=
  let s := advanceTo t s
  .next <|
  if !s.sys.powered || s.sys.holdupRun || decide (s.sys.state ≠ .dusk) then s
  else match s.sys.duskStep with
  | 1 => if atFrame s && quietBefore s.sun.time s then goDusk 2 (stopTasks s) else s
  | 2 =>
    if s.lanes.switch.isSome then s
    else goDusk 3 (duskOutputs (if s.lanes.gate && s.store.running.isSome then checkpointNow s else s))
  | 3 => goDusk 4 s
  | 4 => if skeinFlushed s then goDusk 5 (duskPanel s) else s
  | _ => if panelDone s then enterMidnight (railsOff (saveRtc s)) else s

/-- DUSK_TIMEOUT: an ERROR names the step, all outputs are cut, MIDNIGHT (R38). -/
def execDuskTimeout (t : Time) (s : State) : Result :=
  let s := advanceTo t s
  .next <|
  if !s.sys.powered || s.sys.holdupRun || decide (s.sys.state ≠ .dusk) then s
  else enterMidnight (allOff (saveRtc <| raise .error 0x01 0x0000 [BitVec.ofNat 32 s.sys.duskStep] s))

/-! ### Hold-up and power (R39, R261, R414 to R418) -/

/-- The last committed Spool slot goes to flash, for diagnostic readout only (R39). -/
def copyEmergency (s : State) : State :=
  match committedSlot s with
  | some b => { s with emergency := spoolSlot s b }
  | none => s

/-- HOLDUP_START: every channel off, the Tally admits nothing, deferred claims are discarded (R261, R414). -/
def execHoldupStart (t : Time) (s : State) : Result :=
  let s := advanceTo t s
  .next <|
  if !s.sys.powered || s.sys.holdupRun || decide (s.sys.state = .midnight) then s
  else
    let s := { s with sys := { s.sys with holdupRun := true, driving := false, armedAt := none, held := false } }
    let s := { s with store := { s.store with burst := none }, skein := { s.skein with burst := none } }
    allOff (copyEmergency (loseBursts ((List.range 5).foldl (fun s k => discardAll k s) s)))

/-- The panel in hold-up: the current frame is finished, and the rails discharge (R39, R408). -/
def panelHoldup (s : State) : State := panelAbandon (if s.panel.rails then stepFrame s else s)

/-- HOLDUP_STEPS_COMPLETE: the last committed Spool slot stands in flash, the Skein is flushed and the panel's frame is finished; where
VBAT is back a power-on DAWN follows with HOLDUP set (R39, R414). -/
def execHoldupStepsComplete (t : Time) (vbatBack : Bool) (s : State) : Result :=
  let s := advanceTo t s
  .next <|
  if !s.sys.holdupRun || s.sys.holdupDone then s
  else
    let s := panelHoldup (flushSkein (copyEmergency s))
    if vbatBack then coldDawn 0 0 .powerOn (powerOff t s) else { s with sys := { s.sys with holdupDone := true } }

/-- HOLDUP_EXHAUSTED: power off; in MIDNIGHT VBAT alone holds the always-on domain (R25, R39, R40). -/
def execHoldupExhausted (t : Time) (s : State) : Result :=
  let s := advanceTo t s
  .next <| if s.sys.powered && (s.sys.holdupRun || decide (s.sys.state = .midnight)) then powerOff t s else s

/-- HU_READY (R415). -/
def execHuReady (t : Time) (ms : Nat) (s : State) : Result :=
  let s := advanceTo t s
  .next <|
  if !s.sys.powered || s.sys.holdupRun || decide (s.sys.state = .midnight) then s
  else
    let low := decide (ms < 50)
    let s := { s with sys := { s.sys with huReady := true, huMs := BitVec.ofNat 8 (min 255 ms), huLow := low } }
    if low then raise .warning 0x01 0x0060 [BitVec.ofNat 32 ms] s else s

/-- PLATE_HOT: above 95 °C HOT is set, with a WARNING once an hour (R418). -/
def execPlateHot (t : Time) (temp : BitVec 8) (s : State) : Result :=
  let s := advanceTo t s
  .next <|
  if !s.sys.powered || decide (s.sys.state = .midnight) then s
  else
    let hot := decide (95 < temp.toInt)
    let s := { s with sys := { s.sys with tplate := temp, hot := hot } }
    let due := match s.sys.hotWarnedAt with
      | some w => passed s w (3600 * second)
      | none => true
    if hot && due then
      raise .warning 0x01 0x0060 [temp.signExtend 32] { s with sys := { s.sys with hotWarnedAt := some s.sun.time } }
    else s

/-- WARM_RESET (R56, R362): its reply leaves before the reset takes effect. -/
def execWarmReset (r : Req) (s : State) : Result :=
  .next (serveThen r true true done (warmReset 1 .warmReset) s)

end Sys2Proof.Machine
end

