-- ==== Sys2Proof/Machine/Host.lean ====
section
/-! DEFINITION. The Hank link beyond register access (19), the Distaff queue (R361), COP_LOAD (08), FUNC_REINIT (R53 to R55), ACTIVATE
and streams (R363, R364). -/
namespace Sys2Proof.Machine

/-! ### The Distaff queue (R361) -/

/-- Requests in execution of a session, one more or one fewer (R360). -/
def enterFlight (who : Requester) (s : State) : State :=
  let x := session s who
  setSession who { x with outst := x.outst + 1 } s
def leaveFlight (who : Requester) (s : State) : State :=
  let x := session s who
  setSession who { x with outst := x.outst - 1 } s

/-- Whether a second has passed since a warning that is given at most once a second. -/
def mayWarn (s : State) : Option Time → Bool
  | none => true
  | some t => passed s t second

/-- QDEPTH passes 48: a WARNING, at most once per second (R361). -/
def warnDepth (s : State) : State :=
  if decide (s.distaff.queue.length = 49) && mayWarn s s.distaff.depthWarnedAt then
    raise .warning 0x01 0x0018 [BitVec.ofNat 32 s.distaff.queue.length]
      { s with distaff := { s.distaff with depthWarnedAt := some s.sun.time } }
  else s

/-- A request enters the Distaff queue, or finds it full and is answered BUSY (R361). A HELLO belongs to no open session yet. -/
def queueRequest (cls : Nat) (r : Req) (c : Instr) (s : State) : State :=
  if 64 ≤ s.distaff.queue.length then answer r (.busy (retryMs s)) s
  else
    let s := if cls = 1 then s else enterFlight r.who s
    warnDepth { s with distaff := { s.distaff with
      queue := s.distaff.queue ++ [{ cls := cls, req := r, cmd := c, since := s.sun.time }] } }

/-- The entry served next, by its place, and the class whose turn comes after it: health, Hank, then validate, update and Skein in
rotation (R361). -/
def nextEntry (d : Distaff) : Option (Nat × Nat) :=
  let at_ := fun (c : Nat) => d.queue.findIdx? fun e => decide (e.cls = c)
  match at_ 0 with
  | some i => some (i, d.rotation)
  | none => match at_ 1 with
    | some i => some (i, d.rotation)
    | none => [0, 1, 2].findSome? fun k =>
        let c := (d.rotation + k) % 3
        (at_ (2 + c)).map fun i => (i, (c + 1) % 3)

/-- Queued requests are dropped without reply (R55, R361). -/
def dropQueue (s : State) : State :=
  let s := s.distaff.queue.foldl (fun s e => if e.cls = 1 then s else leaveFlight e.req.who s) s
  { s with distaff := {} }

/-! ### HELLO (R357 to R359, R367) -/

/-- Versions supported, highest first. -/
def versions : List (BitVec 16) := [0x0204, 0x0203, 0x0202, 0x0201, 0x0200, 0x0103, 0x0102, 0x0101, 0x0100]

/-- The highest common version; the service responder has 2.0 to 2.4 only. -/
def chooseVersion (responderOnly : Bool) (m : HelloMsg) : Option (BitVec 16) :=
  versions.find? fun v => decide (m.lo ≤ v) && decide (v ≤ m.hi) && (!responderOnly || decide (0x0200 ≤ v))

/-- A free session slot: one of four for the host ports, or the service port's. -/
def freeSlot (who : Requester) (s : State) : Option Requester :=
  let slots : List Requester := if who = 4 then [4] else [0, 1, 2, 3]
  slots.find? fun w => !(session s w).isOpen && !(session s w).half

/-- Steps 1 and 2: version, slot, the host chain; then a half-open session with a SESSION identifier. -/
def helloStart (r : Req) (m : HelloMsg) (s : State) : State :=
  match chooseVersion (responder s) m with
  | none => send (.reply r.who r.seq (.nak .version 0x0204)) s
  | some v =>
    match freeSlot r.who s with
    | none => send (.reply r.who r.seq (.nak .noSlot 0)) s
    | some w =>
      if !m.authOk then send (.reply r.who r.seq (.nak .auth 0)) s
      else
        let (ident, s) := nextFree s
        let (key, s) := nextFree s
        let x : Session := {
          half := true, major := v.extractLsb' 8 8, minor := v.extractLsb' 0 8, ident := ident, key := key, port := m.port
          lastValid := s.sun.time, byResponder := responder s }
        send (.reply w r.seq (.ack [v.zeroExtend 32, ident])) (setSession w x s)

/-- A new Hank session is a new requester: its window registers, selectors, shadow and staged half are at their reset values, while the
service port stays one requester over all its sessions (R60, R66, R69; DEDUCED, log entry 93). -/
def freshRequester (who : Requester) (s : State) : State :=
  if who = 4 then s else setPerReq who {} s

/-- Steps 3 and 4: the host's signature opens the session, or a failed step leaves nothing. -/
def helloEnd (r : Req) (m : HelloMsg) (s : State) : State :=
  let x := session s r.who
  if x.isOpen then
    match cached x r.seq with
    | some rep => send (.reply r.who r.seq rep) (bump 0x001E0018 0 s)
    | none => answer r (.nak .auth 0) s
  else if !x.half then send (.replyNoSession r.who r.seq) s
  else if !m.authOk then send (.reply r.who r.seq (.nak .auth 0)) (closeSession r.who s)
  else
    answer r (.ack [x.evtSev.zeroExtend 32])
      (freshRequester r.who (setSession r.who { x with isOpen := true, half := false, lastValid := s.sun.time } s))

/-- A HELLO as its server executes it. -/
def runHello (r : Req) (m : HelloMsg) (s : State) : State := if m.complete then helloEnd r m s else helloStart r m s

/-- HELLO: the service responder executes it with its own engines, a lane's Distaff in its Hank class (R354, R367). -/
def execHello (r : Req) (m : HelloMsg) (s : State) : Result :=
  let s := advanceTo r.at_ s
  .next <|
  if !reachable r.who s then unserved r.who s
  else if responder s then runHello r m s
  else queueRequest 1 r (.hello r m) s

/-! ### COP_LOAD (R168 to R171, R425) -/

/-- Bytes of a cop-store slot. -/
def slotBytes : Nat := 67108864

/-- What refuses every COP_LOAD (R170). -/
def loadBarred (s : State) : Option NakCode :=
  if decide (s.upd.step = .switching) || decide (s.upd.step = .trial) then some .busyStep
  else if decide (s.sys.state = .dusk) || (decide (s.sys.state = .dawn) && !s.sys.hold) then some .wrongState
  else none

/-- What refuses DATA, COMMIT and ABORT of a session (R170). -/
def notLoading (who : Requester) (s : State) : Option NakCode :=
  match loadBarred s with
  | some c => some c
  | none => if !s.store.loading then some .wrongState else if s.store.owner ≠ some who then some .loadOwned else none

/-- Whether a slot holds a cop that may be run or reverted to. -/
def CopSlot.good (x : CopSlot) : Bool := decide (x.state = .valid) || decide (x.state = .pending)

/-- BEGIN (R425): the slot is selected, marked WRITING and erased. -/
def copBegin (who : Requester) (total : Nat) (digest : BitVec 256) (s : State) : Reply × State :=
  match loadBarred s with
  | some c => refuse c s
  | none =>
    if (selSlot s).state = .committed then refuse .wrongState s
    else if s.store.loading && decide (s.store.owner ≠ some who) && !passed s s.store.lastData (60 * second) then refuse .loadOwned s
    else if total < 64 || slotBytes < total then refuse .badValue s
    else
      let b := if (selSlot s).good then !s.store.sel else s.store.sel
      let s := unflash 0 s
      done (setCopSlot b { state := .writing, total := total, digest := digest } { s with store := { s.store with
        sel := b, loading := true, owner := some who, lastData := s.sun.time, burst := none
        validating := s.store.validating && decide (s.store.valSlot ≠ b) } })

/-- DATA (R169, R425): none while its flash programming burst waits for admission, which delays the reply and never fails it. -/
def copData (who : Requester) (offset : Nat) (bytes : List Byte) (s : State) : Option Reply × State :=
  let x := selSlot s
  match notLoading who s with
  | some c => (some (.nak c 0), s)
  | none =>
    if bytes.isEmpty || 1400 < bytes.length then (some (.nak .badLength 0), s)
    else if offset ≠ x.next then (some (.nak .badOffset (BitVec.ofNat 32 x.next)), s)
    else if slotBytes < offset + bytes.length then (some (.nak .badValue 0), s)
    else
      let (go, b, s) := burst 0 s.store.burst s
      let s := { s with store := { s.store with burst := b } }
      if go then
        (some (.ack []), setCopSlot s.store.sel { x with next := offset + bytes.length, bytes := x.bytes ++ bytes }
          { s with store := { s.store with lastData := s.sun.time } })
      else (none, s)

/-- COMMIT (R168, R169, R171): length and digest are checked, the commit record is written, and validation starts; another digest is
found by the validation (R172). -/
def copCommit (who : Requester) (s : State) : Reply × State :=
  let x := selSlot s
  match notLoading who s with
  | some c => refuse c s
  | none =>
    if x.next ≠ x.total then refuse .badValue s
    else
      done (setCopSlot s.store.sel { x with state := .committed, commit := true, badDigest := decide (sha256 x.bytes ≠ x.digest) } { s with store := { s.store with
        loading := false, owner := none, validating := true, valSlot := s.store.sel } })

/-- REVERT (R168, R425). -/
def copRevert (s : State) : Reply × State :=
  match loadBarred s with
  | some c => refuse c s
  | none =>
    if s.store.loading || !(copSlot s (!s.store.sel)).good then refuse .wrongState s
    else done { s with store := { s.store with sel := !s.store.sel } }

/-- ABORT (R168): the slot stays selected and incomplete. -/
def copAbort (who : Requester) (s : State) : Reply × State :=
  match notLoading who s with
  | some c => refuse c s
  | none =>
    let s := unflash 0 s
    done { s with store := { s.store with loading := false, owner := none, burst := none } }

/-- COP_LOAD goes to the Distaff's validate class (R354). -/
def execCopLoadBegin (r : Req) (total : Nat) (digest : BitVec 256) (s : State) : Result :=
  .next (meetServer r true false (queueRequest 2 r (.copLoadBegin r total digest)) s)
def execCopLoadData (r : Req) (offset : Nat) (bytes : List Byte) (s : State) : Result :=
  .next (meetServer r true false (queueRequest 2 r (.copLoadData r offset bytes)) s)
def execCopLoadCommit (r : Req) (s : State) : Result :=
  .next (meetServer r true false (queueRequest 2 r (.copLoadCommit r)) s)
def execCopLoadRevert (r : Req) (s : State) : Result := .next (meetServer r true false (queueRequest 2 r (.copLoadRevert r)) s)
def execCopLoadAbort (r : Req) (s : State) : Result := .next (meetServer r true false (queueRequest 2 r (.copLoadAbort r)) s)

/-- ACTIVATE goes to the Distaff's update class (R354, R385). -/
def execActivate (r : Req) (id : BitVec 64) (mode : Nat) (s : State) : Result :=
  .next (meetServer r false false (queueRequest 3 r (.activate r id mode)) s)

/-! ### Service of the queue (R361) -/

/-- A queued request is answered. -/
def replyQueued (r : Req) (p : Reply × State) : Bool × State := (true, answer r p.1 (leaveFlight r.who p.2))

/-- A queued request as the Distaff executes it; false where its flash burst waits. -/
def runQueued (c : Instr) (s : State) : Bool × State :=
  match c with
  | .hello r m => (true, runHello r m s)
  | .copLoadBegin r total digest => replyQueued r (copBegin r.who total digest s)
  | .copLoadData r offset bytes =>
    match copData r.who offset bytes s with
    | (some rep, s) => replyQueued r (rep, s)
    | (none, s) => (false, s)
  | .copLoadCommit r => replyQueued r (copCommit r.who s)
  | .copLoadRevert r => replyQueued r (copRevert s)
  | .copLoadAbort r => replyQueued r (copAbort r.who s)
  | .activate r id mode => replyQueued r (activateSet id mode s)
  | _ => (true, s)

/-- DISTAFF_QUEUE_SERVICE: the next entry is executed, in `serviceUs` that end now (R361, R71). -/
def execDistaffQueueService (t : Time) (serviceUs : Nat) (s : State) : Result :=
  let s := advanceTo t s
  .next <|
  if !distaffRuns s then s
  else match nextEntry s.distaff with
  | none => s
  | some (i, turn) =>
    match s.distaff.queue[i]? with
    | none => s
    | some e =>
      let rest := s.distaff.queue.eraseIdx i
      match runQueued e.cmd { s with distaff := { s.distaff with queue := rest } } with
      | (false, s) => { s with distaff := { s.distaff with queue := e :: s.distaff.queue } }
      | (true, s) =>
        let w : Served := {
          done := s.sun.time, us := serviceUs, waitNs := s.sun.time.toNat - serviceUs * 1000 - e.since.toNat }
        { s with distaff := { s.distaff with
          rotation := turn
          served := (w :: s.distaff.served).filter fun x => decide (s.sun.time.toNat < x.done.toNat + second) } }

/-- DISTAFF_ENTRY_WAIT_WARNING: an entry has waited more than 100 ms (R361). -/
def execDistaffEntryWaitWarning (t : Time) (s : State) : Result :=
  let s := advanceTo t s
  .next <|
  if (s.distaff.queue.any fun e => decide (e.since.toNat + 100000000 < s.sun.time.toNat)) && mayWarn s s.distaff.waitWarnedAt then
    raise .warning 0x01 0x0018 [BitVec.ofNat 32 (maxWaitMs s)]
      { s with distaff := { s.distaff with waitWarnedAt := some s.sun.time } }
  else s

/-! ### FUNC_REINIT (R53 to R55) -/

/-- Signals that a CAN controller's filters write. -/
def canSignals (s : State) (n : Nat) : List Nat :=
  match canDecl s n with
  | some d => d.filters.flatMap fun f => f.extract.map (·.signal)
  | none => []

/-- Sessions that use a port close (R359). -/
def closePort (p : Nat) (s : State) : State :=
  [0, 1, 2, 3].foldl (fun s (w : Requester) =>
    let x := session s w
    if (x.isOpen || x.half) && decide (x.port = p) then closeSession w s else s) s

/-- An Ethernet port retrains its link, with the cop's configuration reapplied (R350). -/
def ethReinit (p : Nat) (s : State) : State :=
  let s := ethDown p (closePort p s)
  let s := setEthPort p { ethPort s p with retrain := some s.sun.time, gclAt := none } s
  if s.store.running.isSome then
    { s with eth := { s.eth with
      cfg := (s.eth.cfg.filter fun d => decide (d.port ≠ p)) ++ (cop s).eth.filter fun d => decide (d.port = p) } }
  else s

/-- A handover boot is given up: the standby is COLD with the running set again, and the step stays STAGED (log entry 62); a revert by
handover goes on. The handover ends here, so its 60 s of rest begin (R23). -/
def abandonBoot (s : State) : State :=
  match s.lanes.holder with
  | some l =>
    if decide (1 ≤ s.upd.handReady) && !s.upd.revertHand then
      let o := l.other
      unqueue 4 (.mgmt o) (giveBack 4 (.mgmt o)
        (setLane o { lane s o with state := .cold, mgmt := false, clocks := false, slot := s.upd.slot }
          { s with upd := { s.upd with lastHandoverEnd := some s.sun.time } }))
    else s
  | none => s

/-- A function returns to its post-DAWN state with its cop setup reapplied, and the signals it writes turn STALE (R54, R55, R100, R209,
R214, R408). -/
def resetFunction (n : Nat) (s : State) : State :=
  let c := cop s
  if n < 16 then staleAll (canSignals s n) (canReinit n s)
  else if n < 24 then ethReinit (n - 16) s
  else if 28 ≤ n && n < 40 then
    let p := n - 28
    let s := staleAll (((sensorDecl s p).map portSignals).getD []) s
    if s.store.running.isSome then portMorning p (setSensor p { degraded := (sensor s p).degraded } (unqueue 4 (.port p) (giveBack 4 (.port p) s)))
    else setSensor p { power := (sensor s p).power, degraded := (sensor s p).degraded } s
  else match n with
  | 24 =>
    let g := s.gnss
    let fresh : Gnss := {
      cfg := g.cfg, run := g.run, bias0 := g.bias0, bias1 := g.bias1, ant0 := g.ant0, ant1 := g.ant1, shortAt := g.shortAt
      hdgCfg := g.hdgCfg, microNew := g.microNew, clkFail := g.clkFail }
    if !g.run then s else if g.clkFail then { s with gnss := fresh } else restartBaseband { s with gnss := fresh }
  | 25 =>
    staleAll (writtenBy c fun w => match w with
      | .position _ => true
      | _ => false) { s with core := { s.core with pos := {} } }
  | 26 => staleAll (writtenBy c fun w => decide (w = .ply)) { s with core := { s.core with ply := { since := s.sun.time } } }
  | 27 =>
    let s := staleAll (writtenBy c fun w => decide (w = .strike)) s
    if s.strike.run then startStrike { s with strike := {} } else { s with strike := {} }
  | 40 => panelAbandon { s with panel := { s.panel with queue := [], railf := false, railFaultAt := none, dcsat := false } }
  | 41 => { s with skein := { s.skein with chal := none, clrRes := 0 } }
  | 42 =>
    let s := unflash 1 (loseBursts (abandonBoot s))
    let u := s.upd
    { s with
      panel := { s.panel with hold := u.revertHand && s.panel.hold }
      upd := { u with
        activating := none, mode := if u.revertHand then u.mode else 0, handReady := if u.revertHand then u.handReady else 0
        refuse := 0, dnLost := false
        relays := s.upd.relays.map fun r => { r with waiting := [], sentAt := [], resends := [] } } }
  | 43 => { dropQueue s with upd := { s.upd with trialFrom := s.sun.time } }
  | _ => s

/-- A function's restart begins. -/
def restart (n : Nat) (s : State) : State :=
  resetFunction n { s with func := { s.func with restarting := setBit s.func.restarting n true } }

/-- Restarts begin for the set bits of a mask. -/
def restartMask (m : BitVec 64) (s : State) : State :=
  (List.range 44).foldl (fun s n => if bit m n then restart n s else s) s

/-- The reply of a FUNC_REINIT leaves with DONE and PENDING; then the port it came by goes down, and the switch-over is asked for
(R54, R55, R362). -/
def answerReinit (w : Reinit) (s : State) : State :=
  let open_ := w.late ||| w.noLink
  let done_ := w.mask &&& ~~~open_
  let s := match w.req with
    | some r => answer r (.ack [lo32 done_, hi32 done_, lo32 open_, hi32 open_]) (leaveFlight r.who s)
    | none => s
  let s := restartMask w.late s
  if bit w.late 44 then (acceptYield true s).2 else s

/-- Every FUNC_REINIT whose functions all run again is answered. -/
def settle (s : State) : State :=
  let ready := s.func.waits.filter fun w => decide (w.todo = 0)
  ready.foldl (fun s w => answerReinit w s)
    { s with func := { s.func with waits := s.func.waits.filter fun w => decide (w.todo ≠ 0) } }

/-- Functions whose restart follows the reply: the Ethernet port the request came by, and the forced switch-over (R55). -/
def lateMask (r : Req) (mask : BitVec 64) (s : State) : BitVec 64 :=
  let port := (session s r.who).port
  mask &&& ((1#64 <<< 44) ||| (if r.who ≠ 4 && port < 8 then 1#64 <<< (16 + port) else 0))

/-- FUNC_REINIT: refused as a whole, or started (R53 to R55). -/
def execFuncReinit (r : Req) (mask : BitVec 64) (s : State) : Result :=
  .next (meetServer r false false (fun s =>
    if mask = 0 || decide (2 ^ 45 ≤ mask.toNat) then answer r (.nak .badMask 0) s
    else if bit mask 42 && (decide (s.upd.step = .switching) || decide (s.upd.step = .trial)) then answer r (.nak .busyStep 0) s
    else if bit mask 44 && !standbyCold s then answer r (.nak .noStandby 0) s
    else
      let late := lateMask r mask s
      let now := mask &&& ~~~late
      let w : Reinit := { req := some r, mask := mask, todo := now, late := late }
      let s := enterFlight r.who { s with func := { s.func with waits := s.func.waits ++ [w] } }
      settle (restartMask now s)) s)

/-- A function runs again: an Ethernet port with its link, or 200 ms on without one, which then stands in PENDING (R54, R350). -/
def execFuncRestartDone (t : Time) (fn : Fin 45) (s : State) : Result :=
  let s := advanceTo t s
  .next <|
  let n := fn.val
  let port := decide (16 ≤ n) && decide (n < 24)
  let x := ethPort s (n - 16)
  let waited := match x.retrain with
    | some a => passed s a 200000000
    | none => true
  if !restarts s n || (port && !x.link && !waited) then s
  else
    let s := if port then setEthPort (n - 16) { x with retrain := none } s else s
    let s := if n = 43 then { s with upd := { s.upd with trialFrom := s.sun.time } } else s
    settle { s with func := {
      restarting := setBit s.func.restarting n false
      waits := s.func.waits.map fun w =>
        { w with
          noLink := if port && !x.link && bit w.todo n then setBit w.noLink n true else w.noLink
          todo := setBit w.todo n false } } }

/-- DISTAFF_WATCHDOG_MISS: a Distaff silent for 500 ms is re-initialised alone (R361, R55). -/
def execDistaffWatchdogMiss (t : Time) (s : State) : Result :=
  let s := advanceTo t s
  .next (if s.sys.powered && laneActive s then restart 43 s else s)

/-! ### Streams (R248, R363, R364) -/

/-- The kind of a stream channel in the running cop. -/
def streamKind (s : State) (chan : Nat) : Option StreamKind :=
  ((cop s).streams.find? fun d => decide (d.chan = chan)).map fun d => d.kind

/-- One record of a Signals in stream as its 16 bytes, and the payload of a STREAM as bytes (R363). -/
def recordBytes (x : StreamRecord) : List Byte := bytesOf 4 x.signal ++ bytesOf 4 x.value.toNat ++ bytesOf 8 x.stamp.toNat
def payloadBytes : StreamPayload → List Byte
  | .entry l => l
  | .records rs => rs.flatMap recordBytes
  | .rtcm l => l

/-- `n` records read from a payload. -/
def recordsOf : Nat → List Byte → List StreamRecord
  | 0, _ => []
  | n + 1, l =>
    { signal := ofBytes (l.take 4), value := BitVec.ofNat 32 (ofBytes ((l.drop 4).take 4))
      stamp := BitVec.ofNat 64 (ofBytes ((l.drop 8).take 8)) } :: recordsOf n (l.drop 16)

/-- CRC-24Q (R248; its polynomial and the frame around it are RTCM 3's, log entry 63). -/
def crc24q (l : List Byte) : BitVec 24 :=
  l.foldl (fun c b => (List.range 8).foldl (fun c _ => if bit c 23 then (c <<< 1) ^^^ 0x864CFB#24 else c <<< 1)
    (c ^^^ ((b.zeroExtend 24 : BitVec 24) <<< 16))) 0#24

/-- Whether an RTCM frame is whole, and its message number. -/
def rtcmOk (l : List Byte) : Bool :=
  let n := l.length
  decide (8 ≤ n) && decide (l.getD 0 0 = 0xD3) && decide ((l.getD 1 0).toNat % 4 * 256 + (l.getD 2 0).toNat + 6 = n)
    && decide (crc24q (l.take (n - 3)) = (l.getD (n - 3) 0) ++ (l.getD (n - 2) 0) ++ (l.getD (n - 1) 0))
def rtcmMsg (l : List Byte) : Nat := (l.getD 3 0).toNat * 16 + (l.getD 4 0).toNat / 16

/-- A host STREAM into a Bobbin (R106, R364): BUSY where a WAIT Bobbin has no room, its host being the producer that holds the entry and
sends it again: the wait counts once. -/
def streamEntry (r : Req) (b : Nat) (l : List Byte) (s : State) : Reply × State :=
  match bobDecl s b with
  | none => refuse .noChannel s
  | some d =>
    let x := bob s b
    let fits := x.held.isEmpty && (x.place d.size { stamp := s.sun.time, seq := x.seq, aux := 0, bytes := l }).isSome
    let me := some (r.who.val, r.seq)
    if !fits && !d.dropNew then
      (.busy 1, if x.waitFor = me then s else bump 0x001D001C b (setBob b { x with waitFor := me } s))
    else
      let (ok, s) := offer b s.sun.time 0 l s
      (if ok then .ack [] else .ackDropped, s)

/-- A record of a Signals in stream lands; stamp 0 is the arrival instant (R97, R98, R363). -/
def streamRecord (chan : Nat) (x : StreamRecord) (s : State) : State :=
  land x.signal (.hank chan) x.value (if x.stamp = 0 then s.sun.time else x.stamp) .valid s

/-- STREAM_HOST_WRITE (R248, R358, R363, R364). -/
def execStreamHostWrite (r : Req) (chan : Nat) (p : StreamPayload) (s : State) : Result :=
  .next (serve r false false (fun s =>
    let l := payloadBytes p
    if l.isEmpty || 1408 < l.length then refuse .badLength s
    else if chan = 0 then done (takeRtcm l (rtcmOk l) (rtcmMsg l) s)
    else match streamKind s chan with
      | some (.bobbinIn b) => streamEntry r b l s
      | some .signalsIn =>
        if l.length % 16 ≠ 0 then refuse .badLength s
        else done ((recordsOf (l.length / 16) l).foldl (fun s x => streamRecord chan x s) s)
      | _ => refuse .noChannel s) s)

/-- STREAM_SUBSCRIBE: at most one subscriber for each Bobbin out channel (R364). -/
def execStreamSubscribe (r : Req) (chan : Nat) (sub : Bool) (s : State) : Result :=
  .next (serve r true false (fun s =>
    let cur := SMap.get s.hank.subs 0 chan
    match streamKind s chan with
    | some (.bobbinOut _) =>
      if sub then
        (if cur ≠ 0 then refuse .noChannel s
        else done { s with hank := { s.hank with subs := SMap.put s.hank.subs 0 chan (r.who.val + 1) } })
      else if cur = r.who.val + 1 then done { s with hank := { s.hank with subs := SMap.drop s.hank.subs chan } }
      else refuse .noChannel s
    | _ => refuse .noChannel s) s)

/-- The descriptor of an entry as its four words (R103). -/
def BobEntry.desc (e : BobEntry) : List Word :=
  [lo32 e.stamp, hi32 e.stamp, at32 e.bytes.length 0 ||| at32 e.seq.toNat 16, at32 e.aux.toNat 16]

/-- The subscriber of a channel, if it can be reached. -/
def subscriber (s : State) (chan : Nat) : Option Requester :=
  let n := SMap.get s.hank.subs 0 chan
  [0, 1, 2, 3, 4].find? fun (w : Requester) => decide (n = w.val + 1) && (session s w).isOpen && reachable w s

/-- STREAM_OUT_SEND: an entry leaves once, unacknowledged, numbered by its session; one too long is popped, counted and reported
(R353, R363, R364). -/
def execStreamOutSend (t : Time) (chan : Nat) (s : State) : Result :=
  let s := advanceTo t s
  .next <|
  match streamKind s chan, subscriber s chan with
  | some (.bobbinOut b), some w =>
    if !laneActive s then s
    else match popBob b s with
    | (none, s) => s
    | (some e, s) =>
      if 1392 < e.bytes.length then
        raise .warning 0x1E 0x001C [BitVec.ofNat 32 chan, BitVec.ofNat 32 e.bytes.length] (bump 0x001E001C 0 s)
      else
        let x := session s w
        send (.stream w x.evtNo.toNat chan e.desc e.bytes) (setSession w { x with evtNo := x.evtNo + 1 } s)
  | _, _ => s

/-! ### Authentication, sessions, frames (R359, R421) -/

/-- HANK_AUTH_FAIL: a message with a wrong MAC is discarded and counted, with at most one WARNING per second. -/
def execHankAuthFail (t : Time) (s : State) : Result :=
  let s := advanceTo t s
  .next <|
  if !s.sys.powered || decide (s.sys.state = .midnight) || netStopped s then s
  else
    let s := bump 0x001E0010 0 s
    if mayWarn s s.hank.authWarnedAt then
      raise .warning 0x1E 0x0010 [] { s with hank := { s.hank with authWarnedAt := some s.sun.time } }
    else s

/-- HANK_SESSION_TIMEOUT: a session closes after 60 s without a valid request. -/
def execHankSessionTimeout (t : Time) (who : Requester) (s : State) : Result :=
  let s := advanceTo t s
  let x := session s who
  .next (if (x.isOpen || x.half) && passed s x.lastValid (60 * second) then closeSession who s else s)

/-- SERVICE_FRAME_BAD: the frame is discarded like a lost datagram, so that nothing but time goes on (R421). -/
def execServiceFrameBad (t : Time) (s : State) : Result := .next (advanceTo t s)

end Sys2Proof.Machine
end

