-- ==== Sys2Proof/Machine/Dispatch.lean ====
section
/-! DEFINITION. The effect of a command on everything but the queue: one arm per row of the table of operations and
events, each one call of that command's meaning. -/
namespace Sys2Proof.Machine

def exec (i : Instr) (s : State) : Host.Outcome State Fault Refusal :=
  match i with
  | .vbatQualified t => Sys2Proof.Machine.execVbatQualified t s
  | .kl15Rising t => Sys2Proof.Machine.execKl15Rising t s
  | .wakeLineAsserted t line => Sys2Proof.Machine.execWakeLineAsserted t line s
  | .rtcAlarm t => Sys2Proof.Machine.execRtcAlarm t s
  | .kl15Low200ms t => Sys2Proof.Machine.execKl15Low200ms t s
  | .midnightPendingWake t => Sys2Proof.Machine.execMidnightPendingWake t s
  | .resetNAsserted t => Sys2Proof.Machine.execResetNAsserted t s
  | .logicSuppliesUp t => Sys2Proof.Machine.execLogicSuppliesUp t s
  | .refPllsLocked t refOk => Sys2Proof.Machine.execRefPllsLocked t refOk s
  | .selfTestComplete t passA passB imuOk panelFitted => Sys2Proof.Machine.execSelfTestComplete t passA passB imuOk panelFitted s
  | .distaffBooted t => Sys2Proof.Machine.execDistaffBooted t s
  | .journalRecovery t => Sys2Proof.Machine.execJournalRecovery t s
  | .copReadDone t => Sys2Proof.Machine.execCopReadDone t s
  | .copValidationDone t c => Sys2Proof.Machine.execCopValidationDone t c s
  | .standbyCopyDone t ok => Sys2Proof.Machine.execStandbyCopyDone t ok s
  | .arm r => Sys2Proof.Machine.execArm r s
  | .autoarm t => Sys2Proof.Machine.execAutoarm t s
  | .armOutputStart t => Sys2Proof.Machine.execArmOutputStart t s
  | .disarm r => Sys2Proof.Machine.execDisarm r s
  | .duskStepDone t => Sys2Proof.Machine.execDuskStepDone t s
  | .duskTimeout t => Sys2Proof.Machine.execDuskTimeout t s
  | .holdupStart t => Sys2Proof.Machine.execHoldupStart t s
  | .holdupExhausted t => Sys2Proof.Machine.execHoldupExhausted t s
  | .huReady t ms => Sys2Proof.Machine.execHuReady t ms s
  | .hello r m => Sys2Proof.Machine.execHello r m s
  | .regRd r addr => Sys2Proof.Machine.execRegRd r addr s
  | .regWr r addr v => Sys2Proof.Machine.execRegWr r addr v s
  | .regWrm r addr mask v => Sys2Proof.Machine.execRegWrm r addr mask v s
  | .blockRd r addr count win => Sys2Proof.Machine.execBlockRd r addr count win s
  | .blockWr r addr win words => Sys2Proof.Machine.execBlockWr r addr win words s
  | .copLoadBegin r total digest => Sys2Proof.Machine.execCopLoadBegin r total digest s
  | .copLoadData r offset bytes => Sys2Proof.Machine.execCopLoadData r offset bytes s
  | .copLoadCommit r => Sys2Proof.Machine.execCopLoadCommit r s
  | .copLoadRevert r => Sys2Proof.Machine.execCopLoadRevert r s
  | .copLoadAbort r => Sys2Proof.Machine.execCopLoadAbort r s
  | .funcReinit r mask => Sys2Proof.Machine.execFuncReinit r mask s
  | .funcRestartDone t fn => Sys2Proof.Machine.execFuncRestartDone t fn s
  | .warmReset r => Sys2Proof.Machine.execWarmReset r s
  | .activate r id mode => Sys2Proof.Machine.execActivate r id mode s
  | .streamHostWrite r chan p => Sys2Proof.Machine.execStreamHostWrite r chan p s
  | .streamSubscribe r chan sub => Sys2Proof.Machine.execStreamSubscribe r chan sub s
  | .streamOutSend t chan => Sys2Proof.Machine.execStreamOutSend t chan s
  | .hankAuthFail t => Sys2Proof.Machine.execHankAuthFail t s
  | .distaffQueueService t serviceUs => Sys2Proof.Machine.execDistaffQueueService t serviceUs s
  | .distaffWatchdogMiss t => Sys2Proof.Machine.execDistaffWatchdogMiss t s
  | .hankSessionTimeout t who => Sys2Proof.Machine.execHankSessionTimeout t who s
  | .serviceFrameBad t => Sys2Proof.Machine.execServiceFrameBad t s
  | .sysCtrlDusk r => Sys2Proof.Machine.execSysCtrlDusk r s
  | .sysCtrlHoldOff r => Sys2Proof.Machine.execSysCtrlHoldOff r s
  | .sysCtrlStayDawn r on => Sys2Proof.Machine.execSysCtrlStayDawn r on s
  | .sysLockSet r bits => Sys2Proof.Machine.execSysLockSet r bits s
  | .counterSatClear r addr => Sys2Proof.Machine.execCounterSatClear r addr s
  | .loRegisterRead r addr => Sys2Proof.Machine.execLoRegisterRead r addr s
  | .loRegisterWrite r addr v => Sys2Proof.Machine.execLoRegisterWrite r addr v s
  | .hiRegisterWrite r addr v => Sys2Proof.Machine.execHiRegisterWrite r addr v s
  | .indCtrlWrite r v => Sys2Proof.Machine.execIndCtrlWrite r v s
  | .indDataRead r => Sys2Proof.Machine.execIndDataRead r s
  | .indDataWrite r v => Sys2Proof.Machine.execIndDataWrite r v s
  | .triplicateScrub t => Sys2Proof.Machine.execTriplicateScrub t s
  | .taskReleasePeriodic t task => Sys2Proof.Machine.execTaskReleasePeriodic t task s
  | .taskReleaseArrival t task => Sys2Proof.Machine.execTaskReleaseArrival t task s
  | .activationStart t sp => Sys2Proof.Machine.execActivationStart t sp s
  | .sigWaitResume t sp => Sys2Proof.Machine.execSigWaitResume t sp s
  | .barrierResume t group ti => Sys2Proof.Machine.execBarrierResume t group ti s
  | .add x d a b => Sys2Proof.Machine.execAdd x d a b s
  | .sub x d a b => Sys2Proof.Machine.execSub x d a b s
  | .mul x d a b => Sys2Proof.Machine.execMul x d a b s
  | .mulh x d a b => Sys2Proof.Machine.execMulh x d a b s
  | .mulhu x d a b => Sys2Proof.Machine.execMulhu x d a b s
  | .div x d a b => Sys2Proof.Machine.execDiv x d a b s
  | .divu x d a b => Sys2Proof.Machine.execDivu x d a b s
  | .rem x d a b => Sys2Proof.Machine.execRem x d a b s
  | .remu x d a b => Sys2Proof.Machine.execRemu x d a b s
  | .and_ x d a b => Sys2Proof.Machine.execAnd x d a b s
  | .or_ x d a b => Sys2Proof.Machine.execOr x d a b s
  | .xor x d a b => Sys2Proof.Machine.execXor x d a b s
  | .andn x d a b => Sys2Proof.Machine.execAndn x d a b s
  | .shl x d a b => Sys2Proof.Machine.execShl x d a b s
  | .shr x d a b => Sys2Proof.Machine.execShr x d a b s
  | .sra x d a b => Sys2Proof.Machine.execSra x d a b s
  | .rol x d a b => Sys2Proof.Machine.execRol x d a b s
  | .min x d a b => Sys2Proof.Machine.execMin x d a b s
  | .max x d a b => Sys2Proof.Machine.execMax x d a b s
  | .minu x d a b => Sys2Proof.Machine.execMinu x d a b s
  | .maxu x d a b => Sys2Proof.Machine.execMaxu x d a b s
  | .clz x d a => Sys2Proof.Machine.execClz x d a s
  | .popc x d a => Sys2Proof.Machine.execPopc x d a s
  | .addi x d a imm => Sys2Proof.Machine.execAddi x d a imm s
  | .andi x d a imm => Sys2Proof.Machine.execAndi x d a imm s
  | .ori x d a imm => Sys2Proof.Machine.execOri x d a imm s
  | .xori x d a imm => Sys2Proof.Machine.execXori x d a imm s
  | .shli x d a sh => Sys2Proof.Machine.execShli x d a sh s
  | .shri x d a sh => Sys2Proof.Machine.execShri x d a sh s
  | .srai x d a sh => Sys2Proof.Machine.execSrai x d a sh s
  | .roli x d a sh => Sys2Proof.Machine.execRoli x d a sh s
  | .movi x d imm => Sys2Proof.Machine.execMovi x d imm s
  | .ldc x d imm => Sys2Proof.Machine.execLdc x d imm s
  | .ldw x d a imm => Sys2Proof.Machine.execLdw x d a imm s
  | .ldh x d a imm => Sys2Proof.Machine.execLdh x d a imm s
  | .ldhu x d a imm => Sys2Proof.Machine.execLdhu x d a imm s
  | .ldb x d a imm => Sys2Proof.Machine.execLdb x d a imm s
  | .ldbu x d a imm => Sys2Proof.Machine.execLdbu x d a imm s
  | .stw x data a imm => Sys2Proof.Machine.execStw x data a imm s
  | .sth x data a imm => Sys2Proof.Machine.execSth x data a imm s
  | .stb x data a imm => Sys2Proof.Machine.execStb x data a imm s
  | .qadd x d a b => Sys2Proof.Machine.execQadd x d a b s
  | .qsub x d a b => Sys2Proof.Machine.execQsub x d a b s
  | .qneg x d a => Sys2Proof.Machine.execQneg x d a s
  | .qabs x d a => Sys2Proof.Machine.execQabs x d a s
  | .qmul16 x d a b => Sys2Proof.Machine.execQmul16 x d a b s
  | .qmul31 x d a b => Sys2Proof.Machine.execQmul31 x d a b s
  | .qshl x d a b => Sys2Proof.Machine.execQshl x d a b s
  | .fadd x d a b => Sys2Proof.Machine.execFadd x d a b s
  | .fsub x d a b => Sys2Proof.Machine.execFsub x d a b s
  | .fmul x d a b => Sys2Proof.Machine.execFmul x d a b s
  | .fdiv x d a b => Sys2Proof.Machine.execFdiv x d a b s
  | .fsqrt x d a => Sys2Proof.Machine.execFsqrt x d a s
  | .ffma x d a b => Sys2Proof.Machine.execFfma x d a b s
  | .fmin x d a b => Sys2Proof.Machine.execFmin x d a b s
  | .fmax x d a b => Sys2Proof.Machine.execFmax x d a b s
  | .fabs x d a => Sys2Proof.Machine.execFabs x d a s
  | .fneg x d a => Sys2Proof.Machine.execFneg x d a s
  | .f2i x d a => Sys2Proof.Machine.execF2i x d a s
  | .i2f x d a => Sys2Proof.Machine.execI2f x d a s
  | .f2q16 x d a => Sys2Proof.Machine.execF2q16 x d a s
  | .q162f x d a => Sys2Proof.Machine.execQ162f x d a s
  | .f2q31 x d a => Sys2Proof.Machine.execF2q31 x d a s
  | .q312f x d a => Sys2Proof.Machine.execQ312f x d a s
  | .ieq x d a b => Sys2Proof.Machine.execIeq x d a b s
  | .ine x d a b => Sys2Proof.Machine.execIne x d a b s
  | .ilt x d a b => Sys2Proof.Machine.execIlt x d a b s
  | .ige x d a b => Sys2Proof.Machine.execIge x d a b s
  | .iltu x d a b => Sys2Proof.Machine.execIltu x d a b s
  | .igeu x d a b => Sys2Proof.Machine.execIgeu x d a b s
  | .ieqi x d a imm => Sys2Proof.Machine.execIeqi x d a imm s
  | .inei x d a imm => Sys2Proof.Machine.execInei x d a imm s
  | .ilti x d a imm => Sys2Proof.Machine.execIlti x d a imm s
  | .igei x d a imm => Sys2Proof.Machine.execIgei x d a imm s
  | .feq x d a b => Sys2Proof.Machine.execFeq x d a b s
  | .fne x d a b => Sys2Proof.Machine.execFne x d a b s
  | .flt x d a b => Sys2Proof.Machine.execFlt x d a b s
  | .fle x d a b => Sys2Proof.Machine.execFle x d a b s
  | .fgt x d a b => Sys2Proof.Machine.execFgt x d a b s
  | .fge x d a b => Sys2Proof.Machine.execFge x d a b s
  | .fun x d a b => Sys2Proof.Machine.execFun x d a b s
  | .pand x d a b => Sys2Proof.Machine.execPand x d a b s
  | .por x d a b => Sys2Proof.Machine.execPor x d a b s
  | .pxor x d a b => Sys2Proof.Machine.execPxor x d a b s
  | .pandn x d a b => Sys2Proof.Machine.execPandn x d a b s
  | .pnot x d a => Sys2Proof.Machine.execPnot x d a s
  | .pmov x d a => Sys2Proof.Machine.execPmov x d a s
  | .br x imm => Sys2Proof.Machine.execBr x imm s
  | .loop x a imm => Sys2Proof.Machine.execLoop x a imm s
  | .next_ x => Sys2Proof.Machine.execNext x s
  | .brk x => Sys2Proof.Machine.execBrk x s
  | .end_ x => Sys2Proof.Machine.execEnd x s
  | .trap x imm => Sys2Proof.Machine.execTrap x imm s
  | .bar x n => Sys2Proof.Machine.execBar x n s
  | .timeTi x d hi => Sys2Proof.Machine.execTimeTi x d hi s
  | .timeNow x d hi => Sys2Proof.Machine.execTimeNow x d hi s
  | .sigRd x d h ix => Sys2Proof.Machine.execSigRd x d h ix s
  | .sigSt x d h ix => Sys2Proof.Machine.execSigSt x d h ix s
  | .sigAge x d h ix => Sys2Proof.Machine.execSigAge x d h ix s
  | .sigWr x ix h st a => Sys2Proof.Machine.execSigWr x ix h st a s
  | .bobPush x d b addr len => Sys2Proof.Machine.execBobPush x d b addr len s
  | .bobPop x d b addr len => Sys2Proof.Machine.execBobPop x d b addr len s
  | .bobPeek x d b sel => Sys2Proof.Machine.execBobPeek x d b sel s
  | .lawIn x l sel a => Sys2Proof.Machine.execLawIn x l sel a s
  | .lawStep x l => Sys2Proof.Machine.execLawStep x l s
  | .lawOut x d l sel => Sys2Proof.Machine.execLawOut x d l sel s
  | .outSw x h a => Sys2Proof.Machine.execOutSw x h a s
  | .outPwm x h a => Sys2Proof.Machine.execOutPwm x h a s
  | .outSolCur x h a => Sys2Proof.Machine.execOutSolCur x h a s
  | .outSolProf x h a => Sys2Proof.Machine.execOutSolProf x h a s
  | .outSolRel x h => Sys2Proof.Machine.execOutSolRel x h s
  | .bobbinWaitResume t bob => Sys2Proof.Machine.execBobbinWaitResume t bob s
  | .twiRcClear r unit table => Sys2Proof.Machine.execTwiRcClear r unit table s
  | .adcSlot t a code cal => Sys2Proof.Machine.execAdcSlot t a code cal s
  | .adcCalAgeExpired t a => Sys2Proof.Machine.execAdcCalAgeExpired t a s
  | .ainBurdenOpen t input => Sys2Proof.Machine.execAinBurdenOpen t input s
  | .ainBurdenClose t input => Sys2Proof.Machine.execAinBurdenClose t input s
  | .freqEdge t input => Sys2Proof.Machine.execFreqEdge t input s
  | .shaftEdge t track heldNs reverse => Sys2Proof.Machine.execShaftEdge t track heldNs reverse s
  | .shaftIndexEdge t track => Sys2Proof.Machine.execShaftIndexEdge t track s
  | .shaftGridSample t track => Sys2Proof.Machine.execShaftGridSample t track s
  | .shaftStop t track => Sys2Proof.Machine.execShaftStop t track s
  | .psi5SyncPulse t port => Sys2Proof.Machine.execPsi5SyncPulse t port s
  | .psi5Frame t port slot startBit f => Sys2Proof.Machine.execPsi5Frame t port slot startBit f s
  | .sentFrame t port calPulse f => Sys2Proof.Machine.execSentFrame t port calPulse f s
  | .portSupplyOvercurrent t port => Sys2Proof.Machine.execPortSupplyOvercurrent t port s
  | .portSupplyRetry t port => Sys2Proof.Machine.execPortSupplyRetry t port s
  | .supCurrentLimit t sup => Sys2Proof.Machine.execSupCurrentLimit t sup s
  | .supRetry t sup => Sys2Proof.Machine.execSupRetry t sup s
  | .supSettled t sup => Sys2Proof.Machine.execSupSettled t sup s
  | .imuSample t values temp fullScale => Sys2Proof.Machine.execImuSample t values temp fullScale s
  | .strikeSample t ch code => Sys2Proof.Machine.execStrikeSample t ch code s
  | .strikeFloorHold t ch => Sys2Proof.Machine.execStrikeFloorHold t ch s
  | .strikeWindowCaptured t ch => Sys2Proof.Machine.execStrikeWindowCaptured t ch s
  | .strikeClassifyDone t engine => Sys2Proof.Machine.execStrikeClassifyDone t engine s
  | .strikeBinClose t => Sys2Proof.Machine.execStrikeBinClose t s
  | .strikeFaultEnter t ch => Sys2Proof.Machine.execStrikeFaultEnter t ch s
  | .strikeFaultLeave t ch => Sys2Proof.Machine.execStrikeFaultLeave t ch s
  | .plySampleEntry t source => Sys2Proof.Machine.execPlySampleEntry t source s
  | .plySync t source => Sys2Proof.Machine.execPlySync t source s
  | .plyEpoch t tk => Sys2Proof.Machine.execPlyEpoch t tk s
  | .plyLateflagEval t => Sys2Proof.Machine.execPlyLateflagEval t s
  | .poseHistoryAppend t => Sys2Proof.Machine.execPoseHistoryAppend t s
  | .yieldRecordClose t ch => Sys2Proof.Machine.execYieldRecordClose t ch s
  | .yieldRecordPush t ch => Sys2Proof.Machine.execYieldRecordPush t ch s
  | .gnssAidingApply t => Sys2Proof.Machine.execGnssAidingApply t s
  | .gnssAidingTimeout t => Sys2Proof.Machine.execGnssAidingTimeout t s
  | .gnssMeasEpoch t meas fronts offset => Sys2Proof.Machine.execGnssMeasEpoch t meas fronts offset s
  | .gnssExclusionRelease t ch => Sys2Proof.Machine.execGnssExclusionRelease t ch s
  | .gnssSpoofClear t => Sys2Proof.Machine.execGnssSpoofClear t s
  | .positionSolution t sol => Sys2Proof.Machine.execPositionSolution t sol s
  | .searchCellFound t engine ch => Sys2Proof.Machine.execSearchCellFound t engine ch s
  | .searchDwellDone t engine => Sys2Proof.Machine.execSearchDwellDone t engine s
  | .channelPullinEnd t ch handover => Sys2Proof.Machine.execChannelPullinEnd t ch handover s
  | .channelCoastEnter t ch => Sys2Proof.Machine.execChannelCoastEnter t ch s
  | .channelCoastTimeout t ch engine => Sys2Proof.Machine.execChannelCoastTimeout t ch engine s
  | .channelRelock t ch => Sys2Proof.Machine.execChannelRelock t ch s
  | .antennaBiasShort t ant => Sys2Proof.Machine.execAntennaBiasShort t ant s
  | .antennaBiasRetry t ant => Sys2Proof.Machine.execAntennaBiasRetry t ant s
  | .antennaOpen t ant => Sys2Proof.Machine.execAntennaOpen t ant s
  | .rtcmFrame t bytes crcOk msg => Sys2Proof.Machine.execRtcmFrame t bytes crcOk msg s
  | .tallyQueueAdmit t supply => Sys2Proof.Machine.execTallyQueueAdmit t supply s
  | .tallyClaimRefused t supply ch => Sys2Proof.Machine.execTallyClaimRefused t supply ch s
  | .tallyTransientEnd t supply index => Sys2Proof.Machine.execTallyTransientEnd t supply index s
  | .vbatClaimWaitWarn t index => Sys2Proof.Machine.execVbatClaimWaitWarn t index s
  | .lswLimitEngage t ch current => Sys2Proof.Machine.execLswLimitEngage t ch current s
  | .lswTrip t ch => Sys2Proof.Machine.execLswTrip t ch s
  | .lswThermalLatch t ch => Sys2Proof.Machine.execLswThermalLatch t ch s
  | .lswThermalRelease t ch => Sys2Proof.Machine.execLswThermalRelease t ch s
  | .lswBackoffEnd t ch => Sys2Proof.Machine.execLswBackoffEnd t ch s
  | .lswClear r ch => Sys2Proof.Machine.execLswClear r ch s
  | .lswLimpEn r => Sys2Proof.Machine.execLswLimpEn r s
  | .lswDirMapWrite r v => Sys2Proof.Machine.execLswDirMapWrite r v s
  | .lswRetryMaxWrite r v => Sys2Proof.Machine.execLswRetryMaxWrite r v s
  | .dirInputHigh t dir => Sys2Proof.Machine.execDirInputHigh t dir s
  | .dirInputLow100ms t dir => Sys2Proof.Machine.execDirInputLow100ms t dir s
  | .pwmPeriodStart t ch current cal => Sys2Proof.Machine.execPwmPeriodStart t ch current cal s
  | .pwmUndrivenSettle t ch => Sys2Proof.Machine.execPwmUndrivenSettle t ch s
  | .bankUndervoltage t bank => Sys2Proof.Machine.execBankUndervoltage t bank s
  | .bankUvRestart t bank halfVolts => Sys2Proof.Machine.execBankUvRestart t bank halfVolts s
  | .bankOvervoltage t bank => Sys2Proof.Machine.execBankOvervoltage t bank s
  | .bankOvRestart t bank => Sys2Proof.Machine.execBankOvRestart t bank s
  | .solRiseDone t ch => Sys2Proof.Machine.execSolRiseDone t ch s
  | .solArmatureMove t ch => Sys2Proof.Machine.execSolArmatureMove t ch s
  | .solRiseTimeout t ch => Sys2Proof.Machine.execSolRiseTimeout t ch s
  | .solPeakEnd t ch => Sys2Proof.Machine.execSolPeakEnd t ch s
  | .solFallDone t ch => Sys2Proof.Machine.execSolFallDone t ch s
  | .solFallTimeout t ch => Sys2Proof.Machine.execSolFallTimeout t ch s
  | .solHoldEnd t ch => Sys2Proof.Machine.execSolHoldEnd t ch s
  | .solDeferExpired t ch => Sys2Proof.Machine.execSolDeferExpired t ch s
  | .solLowSideTrip t ch => Sys2Proof.Machine.execSolLowSideTrip t ch s
  | .solHighSideTrip t group => Sys2Proof.Machine.execSolHighSideTrip t group s
  | .solClear r ch => Sys2Proof.Machine.execSolClear r ch s
  | .neutralRampEnd t ch => Sys2Proof.Machine.execNeutralRampEnd t ch s
  | .solCalOld t ch => Sys2Proof.Machine.execSolCalOld t ch s
  | .solCoilEstimate t ch milliOhm => Sys2Proof.Machine.execSolCoilEstimate t ch milliOhm s
  | .pgndFault t => Sys2Proof.Machine.execPgndFault t s
  | .pgndRecover t => Sys2Proof.Machine.execPgndRecover t s
  | .whorlRenewal t => Sys2Proof.Machine.execWhorlRenewal t s
  | .checkpointCapture t => Sys2Proof.Machine.execCheckpointCapture t s
  | .checkpointCommit t => Sys2Proof.Machine.execCheckpointCommit t s
  | .comparatorMismatch t lane => Sys2Proof.Machine.execComparatorMismatch t lane s
  | .eccUncorrectable t lane => Sys2Proof.Machine.execEccUncorrectable t lane s
  | .leaseExpiry t => Sys2Proof.Machine.execLeaseExpiry t s
  | .laneCtrlYield r => Sys2Proof.Machine.execLaneCtrlYield r s
  | .failedSupplyOff t lane => Sys2Proof.Machine.execFailedSupplyOff t lane s
  | .leaseGuardEnd t => Sys2Proof.Machine.execLeaseGuardEnd t s
  | .standbyWakeDone t => Sys2Proof.Machine.execStandbyWakeDone t s
  | .checkpointRestored t => Sys2Proof.Machine.execCheckpointRestored t s
  | .whorlGrant t => Sys2Proof.Machine.execWhorlGrant t s
  | .lkTimingWrite r guard v => Sys2Proof.Machine.execLkTimingWrite r guard v s
  | .coldLaneScrub t corrected fault => Sys2Proof.Machine.execColdLaneScrub t corrected fault s
  | .clockMonitorFail t m => Sys2Proof.Machine.execClockMonitorFail t m s
  | .clockReturnMain t d => Sys2Proof.Machine.execClockReturnMain t d s
  | .clkSrcWrite r v => Sys2Proof.Machine.execClkSrcWrite r v s
  | .sundialGnssTimeout t => Sys2Proof.Machine.execSundialGnssTimeout t s
  | .sundialStep t => Sys2Proof.Machine.execSundialStep t s
  | .ppsEdge t => Sys2Proof.Machine.execPpsEdge t s
  | .ppsPulseEnd t pin => Sys2Proof.Machine.execPpsPulseEnd t pin s
  | .sunPpsCfgWrite r v => Sys2Proof.Machine.execSunPpsCfgWrite r v s
  | .rtcUpdate t => Sys2Proof.Machine.execRtcUpdate t s
  | .leapSecond t => Sys2Proof.Machine.execLeapSecond t s
  | .gptpSyncSend t => Sys2Proof.Machine.execGptpSyncSend t s
  | .gptpAnnounceSend t => Sys2Proof.Machine.execGptpAnnounceSend t s
  | .gptpPeerDelay t port delayNs => Sys2Proof.Machine.execGptpPeerDelay t port delayNs s
  | .gptpAnnounceReceived t port priority1 => Sys2Proof.Machine.execGptpAnnounceReceived t port priority1 s
  | .canFrameReceived t ctrl sof f => Sys2Proof.Machine.execCanFrameReceived t ctrl sof f s
  | .canRxHeldDeliver t ctrl => Sys2Proof.Machine.execCanRxHeldDeliver t ctrl s
  | .canTxBufferLoad t ctrl buf => Sys2Proof.Machine.execCanTxBufferLoad t ctrl buf s
  | .canFrameTransmitted t ctrl buf => Sys2Proof.Machine.execCanFrameTransmitted t ctrl buf s
  | .canTxTimeout t ctrl buf => Sys2Proof.Machine.execCanTxTimeout t ctrl buf s
  | .canProtocolError t ctrl tx data code tec rec_ => Sys2Proof.Machine.execCanProtocolError t ctrl tx data code tec rec_ s
  | .canRecover r ctrl => Sys2Proof.Machine.execCanRecover r ctrl s
  | .canBusOffRecovered t ctrl => Sys2Proof.Machine.execCanBusOffRecovered t ctrl s
  | .canIntegrated t ctrl => Sys2Proof.Machine.execCanIntegrated t ctrl s
  | .canListenWrite r ctrl on => Sys2Proof.Machine.execCanListenWrite r ctrl on s
  | .canListenApply t ctrl => Sys2Proof.Machine.execCanListenApply t ctrl s
  | .ethFrameReceived t port f => Sys2Proof.Machine.execEthFrameReceived t port f s
  | .ethFrameEgress t port => Sys2Proof.Machine.execEthFrameEgress t port s
  | .gateListAdvance t port => Sys2Proof.Machine.execGateListAdvance t port s
  | .ethLinkDown t port => Sys2Proof.Machine.execEthLinkDown t port s
  | .ethLinkUp t port sqi => Sys2Proof.Machine.execEthLinkUp t port sqi s
  | .macEntryAgeing t addr => Sys2Proof.Machine.execMacEntryAgeing t addr s
  | .skeinRecordReceive t => Sys2Proof.Machine.execSkeinRecordReceive t s
  | .skeinFlashWrite t => Sys2Proof.Machine.execSkeinFlashWrite t s
  | .sknCtrlNewchal r => Sys2Proof.Machine.execSknCtrlNewchal r s
  | .skeinChallengeExpiry t => Sys2Proof.Machine.execSkeinChallengeExpiry t s
  | .sknCtrlClear r => Sys2Proof.Machine.execSknCtrlClear r s
  | .skeinClearDone t => Sys2Proof.Machine.execSkeinClearDone t s
  | .sknKeyWrite r n v => Sys2Proof.Machine.execSknKeyWrite r n v s
  | .ibyarManifest t id segment bytes => Sys2Proof.Machine.execIbyarManifest t id segment bytes s
  | .ibyarChunk t id index bytes => Sys2Proof.Machine.execIbyarChunk t id index bytes s
  | .ibyarAck t id index segment => Sys2Proof.Machine.execIbyarAck t id index segment s
  | .ibyarRequest t id index segment => Sys2Proof.Machine.execIbyarRequest t id index segment s
  | .ibyarRequestTimeout t => Sys2Proof.Machine.execIbyarRequestTimeout t s
  | .ibyarResendTimeout t id index => Sys2Proof.Machine.execIbyarResendTimeout t id index s
  | .updateStagingDone t libOk => Sys2Proof.Machine.execUpdateStagingDone t libOk s
  | .activationBoundary t => Sys2Proof.Machine.execActivationBoundary t s
  | .pauseRebootDone t => Sys2Proof.Machine.execPauseRebootDone t s
  | .pauseRestoreDone t => Sys2Proof.Machine.execPauseRestoreDone t s
  | .pauseGateOpen t => Sys2Proof.Machine.execPauseGateOpen t s
  | .handoverBootDone t ok => Sys2Proof.Machine.execHandoverBootDone t ok s
  | .handoverRestoreDone t => Sys2Proof.Machine.execHandoverRestoreDone t s
  | .whorlTransfer t => Sys2Proof.Machine.execWhorlTransfer t s
  | .trialHealthOk t => Sys2Proof.Machine.execTrialHealthOk t s
  | .updCtrlConfirm r => Sys2Proof.Machine.execUpdCtrlConfirm r s
  | .updCtrlReject r => Sys2Proof.Machine.execUpdCtrlReject r s
  | .updCtrlRestage r => Sys2Proof.Machine.execUpdCtrlRestage r s
  | .trialExpired t => Sys2Proof.Machine.execTrialExpired t s
  | .updateCommitDone t copyOk => Sys2Proof.Machine.execUpdateCommitDone t copyOk s
  | .settingsMigrationDone t ok => Sys2Proof.Machine.execSettingsMigrationDone t ok s
  | .pnlReqGo r mode w h => Sys2Proof.Machine.execPnlReqGo r mode w h s
  | .panelFrameBoundary t temp => Sys2Proof.Machine.execPanelFrameBoundary t temp s
  | .panelUpdateComplete t index => Sys2Proof.Machine.execPanelUpdateComplete t index s
  | .panelRailsUp t => Sys2Proof.Machine.execPanelRailsUp t s
  | .panelRailIdle t => Sys2Proof.Machine.execPanelRailIdle t s
  | .panelRailFault t => Sys2Proof.Machine.execPanelRailFault t s
  | .panelTableLoad t w => Sys2Proof.Machine.execPanelTableLoad t w s
  | .panelRecovery t flashHasGen => Sys2Proof.Machine.execPanelRecovery t flashHasGen s
  | .pnlVcomWrite r v => Sys2Proof.Machine.execPnlVcomWrite r v s
  | .tallyLimitWrite r index v => Sys2Proof.Machine.execTallyLimitWrite r index v s
  | .plateHot t temp => Sys2Proof.Machine.execPlateHot t temp s
  | .holdupStepsComplete t vbatBack => Sys2Proof.Machine.execHoldupStepsComplete t vbatBack s
  | .distaffEntryWaitWarning t => Sys2Proof.Machine.execDistaffEntryWaitWarning t s
  | .antennaBiasOk t ant => Sys2Proof.Machine.execAntennaBiasOk t ant s
  | .spacingChangeApply t ch => Sys2Proof.Machine.execSpacingChangeApply t ch s

end Sys2Proof.Machine
end

