-- ==== Sys2Proof/WellFormed.lean ====
section
/-! DEFINITION. Well-formed commands: what the spec's formats can carry. A command that is not well-formed is no message, word or
event of the module; the meanings are total on it all the same. -/
namespace Sys2Proof

/-- An output channel of the module (R167). -/
def chanFits : Chan → Bool
  | .lsw n => decide (n < 48)
  | .sol n => decide (n < 32)

/-- A stream payload that one message carries (R353, R363). -/
def payloadFits : StreamPayload → Bool
  | .entry l => decide (l.length ≤ 1408)
  | .records rs => decide (rs.length ≤ 88)
  | .rtcm l => decide (l.length ≤ 1408)

/-- Whether a command is well-formed. -/
def wellFormed : Instr → Bool
  | .huReady _ ms => decide (ms < 256)
  | .hello r m => r.who = 4 || m.port = 6 || m.port = 7
  | .blockRd _ _ count win => decide (1 ≤ count) && decide (count ≤ 350) && decide (win < 256)
  | .blockWr _ _ win words => decide (1 ≤ words.length) && decide (words.length ≤ 350) && decide (win < 256)
  | .copLoadBegin _ total _ => decide (total < 4294967296)
  | .copLoadData _ offset bytes => decide (offset < 4294967296) && decide (bytes.length ≤ 1400)
  | .activate _ _ mode => decide (mode < 256)
  | .streamHostWrite _ chan p => decide (chan < 65536) && payloadFits p
  | .streamSubscribe _ chan _ => decide (chan < 65536)
  | .streamOutSend _ chan => decide (chan < 96)
  | .taskReleasePeriodic _ task => decide (task < 1024)
  | .taskReleaseArrival _ task => decide (task < 1024)
  | .br _ imm => decide (imm ≠ 0)
  | .loop _ a imm => decide (a = 0) || decide (imm ≠ 0)
  | .sigWr _ _ _ st _ => st = 0 || st = 4
  | .bobPeek _ _ _ sel => decide (sel.toNat ≤ 4)
  | .lawIn _ _ sel _ => decide (sel.toNat < 8)
  | .lawOut _ _ _ sel => decide (sel.toNat ≤ 4)
  | .bobbinWaitResume _ bob => decide (bob < 128)
  | .twiRcClear _ unit table => decide (unit < 8) && decide (table < 16)
  | .imuSample _ values _ _ => decide (values.length = 6)
  | .gnssMeasEpoch _ meas fronts _ => meas.all (fun m => decide (m.ch < 256)) && decide (fronts.agc.length = 4)
      && decide (fronts.floor.length = 4)
  | .positionSolution _ sol => decide (sol.mode ≤ 2)
  | .rtcmFrame _ bytes _ msg => decide (bytes.length ≤ 1029) && decide (msg < 4096)
  | .tallyClaimRefused _ _ ch => chanFits ch
  | .lswClear _ ch => decide (ch.toNat < 48)
  | .pwmPeriodStart _ ch _ _ => chanFits ch
  | .canFrameReceived _ _ _ f => decide (f.dlc < 16) && decide (f.data.length ≤ if f.fdf then 64 else 8)
  | .ethFrameReceived _ _ f => decide (64 ≤ f.length) && decide (f.payload.length ≤ f.length)
  | .ibyarManifest _ _ segment bytes => decide (segment < 512) && decide (1 ≤ bytes.length) && decide (bytes.length ≤ 4096)
  | .ibyarChunk _ _ index bytes => decide (index < 4294967296) && decide (bytes.length ≤ 4096)
  | .ibyarAck _ _ index _ => decide (index < 4294967296)
  | .ibyarRequest _ _ index _ => decide (index < 4294967296)
  | .ibyarResendTimeout _ _ index => decide (index < 4294967296)
  | .panelTableLoad _ w => w.entries.all fun e => decide (e.src < 16) && decide (e.dst < 16)
  | .tallyLimitWrite _ index _ => decide (index < 7)
  | .vbatQualified .. | .kl15Rising .. | .wakeLineAsserted .. | .rtcAlarm .. | .kl15Low200ms ..
  | .midnightPendingWake .. | .resetNAsserted .. | .logicSuppliesUp .. | .refPllsLocked .. | .selfTestComplete ..
  | .distaffBooted .. | .journalRecovery .. | .copReadDone .. | .copValidationDone .. | .standbyCopyDone .. | .arm ..
  | .autoarm .. | .armOutputStart .. | .disarm .. | .duskStepDone .. | .duskTimeout .. | .holdupStart ..
  | .holdupExhausted .. | .regRd .. | .regWr .. | .regWrm .. | .copLoadCommit .. | .copLoadRevert ..
  | .copLoadAbort .. | .funcReinit .. | .funcRestartDone .. | .warmReset .. | .hankAuthFail ..
  | .distaffQueueService .. | .distaffWatchdogMiss .. | .hankSessionTimeout .. | .serviceFrameBad .. | .sysCtrlDusk ..
  | .sysCtrlHoldOff .. | .sysCtrlStayDawn .. | .sysLockSet .. | .counterSatClear .. | .loRegisterRead ..
  | .loRegisterWrite .. | .hiRegisterWrite .. | .indCtrlWrite .. | .indDataRead .. | .indDataWrite ..
  | .triplicateScrub .. | .activationStart .. | .sigWaitResume .. | .barrierResume .. | .add .. | .sub .. | .mul ..
  | .mulh .. | .mulhu .. | .div .. | .divu .. | .rem .. | .remu .. | .and_ .. | .or_ .. | .xor .. | .andn .. | .shl ..
  | .shr .. | .sra .. | .rol .. | .min .. | .max .. | .minu .. | .maxu .. | .clz .. | .popc .. | .addi .. | .andi ..
  | .ori .. | .xori .. | .shli .. | .shri .. | .srai .. | .roli .. | .movi .. | .ldc .. | .ldw .. | .ldh .. | .ldhu ..
  | .ldb .. | .ldbu .. | .stw .. | .sth .. | .stb .. | .qadd .. | .qsub .. | .qneg .. | .qabs .. | .qmul16 ..
  | .qmul31 .. | .qshl .. | .fadd .. | .fsub .. | .fmul .. | .fdiv .. | .fsqrt .. | .ffma .. | .fmin .. | .fmax ..
  | .fabs .. | .fneg .. | .f2i .. | .i2f .. | .f2q16 .. | .q162f .. | .f2q31 .. | .q312f .. | .ieq .. | .ine ..
  | .ilt .. | .ige .. | .iltu .. | .igeu .. | .ieqi .. | .inei .. | .ilti .. | .igei .. | .feq .. | .fne .. | .flt ..
  | .fle .. | .fgt .. | .fge .. | .fun .. | .pand .. | .por .. | .pxor .. | .pandn .. | .pnot .. | .pmov ..
  | .next_ .. | .brk .. | .end_ .. | .trap .. | .bar .. | .timeTi .. | .timeNow .. | .sigRd .. | .sigSt ..
  | .sigAge .. | .bobPush .. | .bobPop .. | .lawStep .. | .outSw .. | .outPwm .. | .outSolCur ..
  | .outSolProf .. | .outSolRel .. | .adcSlot .. | .adcCalAgeExpired .. | .ainBurdenOpen .. | .ainBurdenClose ..
  | .freqEdge .. | .shaftEdge .. | .shaftIndexEdge .. | .shaftGridSample .. | .shaftStop .. | .psi5SyncPulse ..
  | .psi5Frame .. | .sentFrame ..
  | .portSupplyOvercurrent .. | .portSupplyRetry .. | .supCurrentLimit .. | .supRetry .. | .supSettled ..
  | .strikeSample .. | .strikeFloorHold .. | .strikeWindowCaptured .. | .strikeClassifyDone .. | .strikeBinClose ..
  | .strikeFaultEnter .. | .strikeFaultLeave .. | .plySampleEntry .. | .plySync .. | .plyEpoch ..
  | .plyLateflagEval .. | .poseHistoryAppend .. | .yieldRecordClose .. | .yieldRecordPush .. | .gnssAidingApply .. | .gnssAidingTimeout ..
  | .gnssExclusionRelease .. | .gnssSpoofClear .. | .searchCellFound .. | .searchDwellDone ..
  | .channelPullinEnd .. | .channelCoastEnter .. | .channelCoastTimeout .. | .channelRelock .. | .antennaBiasShort ..
  | .antennaBiasRetry .. | .antennaOpen .. | .tallyQueueAdmit .. | .tallyTransientEnd .. | .vbatClaimWaitWarn ..
  | .lswLimitEngage .. | .lswTrip .. | .lswThermalLatch .. | .lswThermalRelease .. | .lswBackoffEnd .. | .lswLimpEn ..
  | .lswDirMapWrite .. | .lswRetryMaxWrite .. | .dirInputHigh .. | .dirInputLow100ms .. | .pwmUndrivenSettle ..
  | .bankUndervoltage .. | .bankUvRestart .. | .bankOvervoltage .. | .bankOvRestart .. | .solRiseDone ..
  | .solArmatureMove .. | .solRiseTimeout .. | .solPeakEnd .. | .solFallDone .. | .solFallTimeout .. | .solHoldEnd ..
  | .solDeferExpired .. | .solLowSideTrip .. | .solHighSideTrip .. | .solClear .. | .neutralRampEnd .. | .solCalOld ..
  | .solCoilEstimate .. | .pgndFault .. | .pgndRecover .. | .whorlRenewal .. | .checkpointCapture ..
  | .checkpointCommit .. | .comparatorMismatch .. | .eccUncorrectable .. | .leaseExpiry .. | .laneCtrlYield ..
  | .failedSupplyOff .. | .leaseGuardEnd .. | .standbyWakeDone .. | .checkpointRestored .. | .whorlGrant ..
  | .lkTimingWrite .. | .coldLaneScrub .. | .clockMonitorFail .. | .clockReturnMain .. | .clkSrcWrite ..
  | .sundialGnssTimeout .. | .sundialStep .. | .ppsEdge .. | .ppsPulseEnd .. | .sunPpsCfgWrite .. | .rtcUpdate ..
  | .leapSecond .. | .gptpSyncSend .. | .gptpAnnounceSend .. | .gptpPeerDelay .. | .gptpAnnounceReceived ..
  | .canRxHeldDeliver .. | .canTxBufferLoad .. | .canFrameTransmitted .. | .canTxTimeout .. | .canProtocolError ..
  | .canRecover .. | .canBusOffRecovered .. | .canIntegrated .. | .canListenWrite .. | .canListenApply ..
  | .ethFrameEgress .. | .gateListAdvance .. | .ethLinkDown .. | .ethLinkUp .. | .macEntryAgeing ..
  | .skeinRecordReceive .. | .skeinFlashWrite .. | .sknCtrlNewchal .. | .skeinChallengeExpiry .. | .sknCtrlClear ..
  | .skeinClearDone .. | .sknKeyWrite .. | .ibyarRequestTimeout .. | .updateStagingDone .. | .activationBoundary ..
  | .pauseRebootDone .. | .pauseRestoreDone .. | .pauseGateOpen .. | .handoverBootDone .. | .handoverRestoreDone ..
  | .whorlTransfer .. | .trialHealthOk .. | .updCtrlConfirm .. | .updCtrlReject .. | .updCtrlRestage ..
  | .trialExpired .. | .updateCommitDone .. | .settingsMigrationDone .. | .pnlReqGo .. | .panelFrameBoundary ..
  | .panelUpdateComplete .. | .panelRailsUp .. | .panelRailIdle .. | .panelRailFault .. | .panelRecovery ..
  | .pnlVcomWrite .. | .plateHot .. | .holdupStepsComplete .. | .distaffEntryWaitWarning .. | .antennaBiasOk ..
  | .spacingChangeApply .. => true

end Sys2Proof
end

