-- ==== Sys2Proof/Safety.lean ====
section
/-! DEFINITION. What counts as a safe state, and the terms in which claims speak of commands: a request that its server takes, an
activation that may run an instruction, what an instruction that changes only its activation leaves. -/
namespace Sys2Proof.Safety
open Sys2Proof.Machine

/-! ### Invariants of the module -/

/-- The gate is open only for a lane that holds the Whorl (R11, R304). -/
def GateHeld (s : State) : Prop := s.lanes.gate = true → s.lanes.holder.isSome = true

/-- The Skein buffers at most 256 records (R372). -/
def BufferFits (s : State) : Prop := s.skein.buffer.length ≤ 256

/-- HOLD stands only in DAWN and no DISARM waits in it, HOLD_CAUSE only in the hold, REFUSAL only for the causes 3 and 4 (R32,
DAY_STATE). -/
def HoldSound (s : State) : Prop :=
  (s.sys.hold = true → s.sys.state = .dawn ∧ s.sys.disarmPending = false) ∧ (s.sys.hold = false → s.sys.holdCause = 0) ∧
    (s.sys.holdCause ≠ 3 → s.sys.holdCause ≠ 4 → s.sys.refusal = 0)

/-- What every step keeps. -/
def Inv (s : State) : Prop := GateHeld s ∧ BufferFits s ∧ HoldSound s

/-! ### Requests -/

/-- The module as a request's server finds it: device time has come, and the session counts it as its last valid one. -/
def arrived (r : Req) (s : State) : State :=
  let u := advanceTo r.at_ s
  setSession r.who { session u r.who with lastValid := u.sun.time } u

/-- A request that its server takes: it reaches one, names an open session at its version, is neither answered nor in execution
already, and belongs to what a 1.x session and the service responder have (R52, R354, R358, R360, R367). -/
def Taken (r : Req) (in1x responderToo : Bool) (s : State) : Prop :=
  let u := advanceTo r.at_ s
  let x := session u r.who
  reachable r.who u = true ∧ x.isOpen = true ∧ cached x r.seq = none ∧ inFlight u r.who r.seq = false ∧
    r.ver = x.major ++ x.minor ∧ (in1x = true ∨ x.major ≠ 1) ∧ (responderToo = true ∨ responder u = false) ∧ x.outst < outLimit x

/-- The last message sent is this reply. -/
def Replied (r : Req) (rep : Reply) (s : State) : Prop := s.sent.head? = some (.reply r.who r.seq rep)

/-! ### Tister instructions -/

/-- An activation that may run an instruction of this level and charge on a Spindle (R87, R90, R112). -/
def Runs (x : Slot) (level charge : Nat) (s : State) (y : Activation) : Prop :=
  SMap.find s.core.acts x.sp.val = some y ∧ y.wait = none ∧ level ≤ (cop s).minIsa ∧
    y.charged + charge ≤ (declOf s y.task).budget

/-- Nothing but the activation of one Spindle has changed, and it is now `y`. -/
def OnlyAct (sp : Nat) (s t : State) (y : Activation) : Prop :=
  t = { s with core := { s.core with acts := t.core.acts } } ∧ SMap.find t.core.acts sp = some y ∧
    ∀ n, n ≠ sp → SMap.find t.core.acts n = SMap.find s.core.acts n

/-- A general register as an instruction leaves it: g0 discards what is written (R73). -/
def withG (y : Activation) (d : GReg) (v : Word) : Vector Word 32 := if d = 0 then y.regs else y.regs.set d v

/-- A predicate as an instruction leaves it: p0 discards what is written (R73). -/
def withP (y : Activation) (d : PReg) (b : Bool) : Vector Bool 8 := if d = 0 then y.preds else y.preds.set d b

/-- The activation behind an instruction that wrote its registers: charge taken, pc at the next word. -/
def went (y : Activation) (charge : Nat) (regs : Vector Word 32) (preds : Vector Bool 8) : Activation :=
  { y with regs := regs, preds := preds, charged := y.charged + charge, pc := y.pc + 1 }

end Sys2Proof.Safety
end

