-- ==== Sys2Proof/Certificates/Slice0/Obligations.lean ====
section
/-! DEFINITION. The statements about the model for the provers, grouped as the spec's chapters are. `u` is the state in which a command
finds the module, device time having come to the command's instant. -/
open Sys2Proof Sys2Proof.Machine Sys2Proof.Safety

/-- One step takes the command at the front of the queue and runs it on the state with the rest of the queue; on an empty queue one
clock cycle passes (log entries 1 and 8: the model's choice). -/
def Obligations.StepTakesFront : Prop :=
  (∀ (s : State) (c : Instr) (rest : List Instr), s.pending = c :: rest → step s = exec c { s with pending := rest }) ∧
    (∀ s : State, s.pending = [] → step s = .next (tick s))

/-- R48, R323: device time as commands bring it (log entry 1): it goes to a later instant, never to an earlier one, and stands still
while the Sundial does not run; nothing else changes but the clocks that count with it. -/
def Obligations.TimeAdvances : Prop :=
  ∀ (t : Time) (s : State), let u := advanceTo t s
    (s.sun.run = true → s.sun.time ≤ t → u.sun.time = t) ∧ (s.sun.run = true → ¬ s.sun.time < t → u = s) ∧
      (s.sun.run = false → u.sun.time = s.sun.time) ∧
      u = { s with sys := { s.sys with onTime := u.sys.onTime, subNs := u.sys.subNs }
                   lanes := { s.lanes with remain := u.lanes.remain }
                   sun := { s.sun with time := u.sun.time, rtc := u.sun.rtc } }

/-- R11, R24, R32, R304, R372: the state after reset keeps the invariants that every step keeps: the gate is open for a lane that holds the
Whorl alone, HOLD stands only in DAWN, HOLD_CAUSE and REFUSAL only where they belong, no DISARM waits in the hold, the Skein buffers at most
256 records. -/
def Obligations.ResetKeepsInvariants : Prop :=
 Inv State.reset

/-- R11, R24, R32, R37, R304, R372: whatever the state and whatever command stands first in the queue, a step keeps those invariants. -/
def Obligations.StepsKeepInvariants : Prop :=
 ∀ s t : State, Inv s → step s = .next t → Inv t

/-- R110, R115, R119, R121, R123, R124, R128, R129: words written out from the encoding tables of the Tister and the instructions they
stand for, and a word of an undefined encoding that stands for none. -/
def Obligations.TisterWordsDecode : Prop :=
  ∀ sp : Fin 64, let x : Slot := ⟨sp, 0⟩
    decodeTister sp 0x04000011 = some (.or_ x 0 0 0) ∧ decodeTister sp 0x04044300 = some (.add x 1 2 3) ∧
    decodeTister sp 0x0914DFFF = some (.addi ⟨sp, 2⟩ 5 6 0x1FFF) ∧ decodeTister sp 0x1C7C0005 = some (.movi x 31 5) ∧
    decodeTister sp 0x18044047 = some (.srai x 1 2 7) ∧ decodeTister sp 0x2410FFFC = some (.ldw x 4 7 0x1FFC) ∧
    decodeTister sp 0x3810E008 = some (.stw x 4 7 8) ∧ decodeTister sp 0x44044305 = some (.qmul31 x 1 2 3) ∧
    decodeTister sp 0x48044305 = some (.ffma x 1 2 3) ∧ decodeTister sp 0x4C044000 = some (.f2i x 1 2) ∧
    decodeTister sp 0x500C2202 = some (.ilt x 3 1 2) ∧ decodeTister sp 0x68102200 = some (.pand x 4 1 2) ∧
    decodeTister sp 0x6C000003 = some (.br x 3) ∧ decodeTister sp 0x7000000A = some (.loop x 0 10) ∧
    decodeTister sp 0x74800002 = some (.end_ ⟨sp, 1⟩) ∧ decodeTister sp 0x78000011 = some (.trap x 17) ∧
    decodeTister sp 0x84080009 = some (.sigRd x 2 9 0) ∧ decodeTister sp 0x94104083 = some (.bobPeek x 4 3 2) ∧
    decodeTister sp 0x9C000005 = some (.lawStep x 5) ∧ decodeTister sp 0xA4006004 = some (.outSw x 4 3) ∧
    decodeTister sp 0x80040001 = some (.timeTi x 1 true) ∧
    decodeTister sp 0x00000000 = none ∧ decodeTister sp 0xB0000000 = none ∧ decodeTister sp 0x68202200 = none ∧
    decodeTister sp 0x0404031D = none

/-- R110, R111, R115 to R136: every Tister instruction that is well-formed comes back from its word with every operand, on whichever Spindle. -/
def Obligations.TisterWordsRoundTrip : Prop :=
  ∀ (i : Instr) (w : Word), wellFormed i = true → encodeTister i = some w → ∃ sp : Fin 64, decodeTister sp w = some i

/-- R67: bit 31 of a counter's word is SAT and bits 30:0 are the count. It counts events up to 0x7FFF_FFFF and then holds, with SAT set by
the first event beyond; that event alone writes a NOTICE that names the register, and no other counter changes. SAT stays until a write of 1
to bit 31, which clears it and the count; any other write changes nothing, and an event behind the clear leaves the count at 1. -/
def Obligations.CountersSaturate : Prop :=
  (∀ c : Counter, bit c.word 31 = c.sat ∧ c.word.truncate 31 = c.count) ∧
  (∀ (addr idx n : Nat) (s : State), let c := counter s addr idx
    let t := bumps addr idx n s
    (counter t addr idx).count.toNat = Nat.min (c.count.toNat + n) 0x7FFFFFFF ∧
    (counter t addr idx).sat = (c.sat || decide (0x7FFFFFFF < c.count.toNat + n)) ∧
    t.skein.raised.length = s.skein.raised.length + (if c.sat = false ∧ 0x7FFFFFFF < c.count.toNat + n then 1 else 0) ∧
    (∀ k, k ≠ ckey addr idx → SMap.get t.counters {} k = SMap.get s.counters {} k) ∧
    (∀ r ∈ t.skein.raised, r ∈ s.skein.raised ∨ (r.sev = .notice ∧ r.args = [BitVec.ofNat 32 addr])) ∧
    counter (bump addr idx (clearCounter addr idx s)) addr idx = { count := 1, sat := false } ∧
    t = { s with counters := t.counters, skein := t.skein }) ∧
  (∀ (who : Requester) (addr n : Nat) (v : Word) (s : State), noLane s addr = false → wideAt s addr = none →
    loOfHi addr = none → counterIndex (perReq s who) addr = some n →
    (bit v 31 = false → writeReg who addr v s = (.ack [], s)) ∧
    (bit v 31 = true → writeReg who addr v s = (.ack [], clearCounter addr n s) ∧ counter (clearCounter addr n s) addr n = {}))

/-- R77, R78, R128: bytes stored in data SRAM read back, least significant first, every other byte is as it was, and the memory keeps its
canonical form. -/
def Obligations.MemoryHoldsWhatIsStored : Prop :=
  ∀ (sp addr : Nat) (l : List Byte) (s : State), Memory.wf s = true →
    Memory.wf (writeBytes sp addr l s) = true ∧ readBytes (writeBytes sp addr l s) sp addr l.length = l ∧
    (∀ q a, memKey q a < memKey sp addr ∨ memKey sp addr + l.length ≤ memKey q a →
      readByte (writeBytes sp addr l s) q a = readByte s q a) ∧
    (∀ m b, SMap.wf m Config.sramDefault = true → SMap.wf b Config.sramDefault = true →
      (∀ k, SMap.get m Config.sramDefault k = SMap.get b Config.sramDefault k) → m = b)

/-- R373: a record written keeps the ring's limits: at most 262,144 records, at most 245,760 of them other than CRITICAL, and no clear record
is ever overwritten; a CRITICAL record is dropped only where clear records fill the ring. -/
def Obligations.RingKeepsItsLimits : Prop :=
  ∀ (newest : BitVec 64) (r : Record) (ring ring' : SMap Record),
    (ring.map (·.1)).Pairwise (· < ·) → ring.length ≤ 262144 → otherHeld ring ≤ 245760 → placeRecord newest r ring = some ring' →
    (ring'.map (·.1)).Pairwise (· < ·) ∧
    ring'.length ≤ 262144 ∧ otherHeld ring' ≤ 245760 ∧ (∃ k, SMap.find ring' k = some r) ∧
    (∀ e ∈ ring, e.2.ev.clear = true → e ∈ ring')

/-- R72: SYS_CTRL.DUSK where R25 lists no transition to DUSK, or HOLD_OFF outside the DAWN hold, refuses the whole write. -/
def Obligations.RefusedControlChangesNothing : Prop :=
  ∀ (r : Req) (mask x : Word) (s : State), let u := arrived r s
    let noDusk : Prop := u.sys.state ≠ .morning ∧ u.sys.state ≠ .noon ∧ u.sys.state ≠ .afternoon ∧
      ¬(u.sys.state = .dawn ∧ u.sys.hold = true)
    (Taken r true true s →
      (bit x 0 = true ∧ bit x 16 = true ∧ noDusk) ∨ (bit x 1 = true ∧ bit x 17 = true ∧ u.sys.hold = false) →
      ∃ v, exec (.regWr r 0x00010004 x) s = .next v ∧ Replied r (.nak .wrongState 0) v ∧ v.sys = u.sys ∧
        v = { u with hank := v.hank, sent := v.sent }) ∧
    (Taken r false true s → field mask 31 16 = 0 →
      (bit x 0 = true ∧ bit mask 0 = true ∧ noDusk) ∨ (bit x 1 = true ∧ bit mask 1 = true ∧ u.sys.hold = false) →
      ∃ v, exec (.regWrm r 0x00010004 mask x) s = .next v ∧ Replied r (.nak .wrongState 0) v ∧ v.sys = u.sys ∧
        v = { u with hank := v.hank, sent := v.sent })

/-- R25, R29, R40, R57, R71, R414: what starts a DAWN from power-off or MIDNIGHT, with its cause in SYS_RESET_CAUSE; nothing but the day
state, its record and its event, the under-voltage state of the banks (log entry 100: the model's choice of what has stood) and, after more
than 7 days without VBAT, the real-time clock changes. After less than 2 s without VBAT the DAWN may be a warm-reset one.

R29, R30, R32, R56, R254, R324: the first steps of DAWN, each only when it is the one due. Supplies: the logic claim stands. PLLs: a
Sundial that did not run starts, UNSET, from a valid real-time clock or from 0. Self-test: the lane chosen takes the Whorl, or DAWN stops
in the hold with NO_LANE. Distaff: the Tally limits in force are read and the baseband runs. -/
def Obligations.DawnRuns : Prop :=
  ((∀ (t : Time) (s : State), let u := advanceTo t s
     (u.sys.powered = false → ∃ v, exec (.vbatQualified t) s = .next v ∧
       v.sys.state = .dawn ∧ v.sys.dawn = .supplies ∧ v.sys.cause = 0 ∧ v.sys.held = v.sys.warm ∧ v.sys.powered = true ∧
       v.sys.offAt = none ∧ v.store = u.store ∧ v.skein.ring = u.skein.ring ∧ v.upd.step = u.upd.step) ∧
     (u.sys.powered = false → (∀ o, u.sys.offAt = some o → 2 * second ≤ t.toNat - o.toNat) →
       ∃ v, exec (.vbatQualified t) s = .next v ∧ v.sys.state = .dawn ∧ v.sys.cause = 0 ∧ v.sys.warm = false ∧
         v.sys.held = false ∧ v.outs = { u.outs with uv := ~~~u.outs.stood } ∧
         v.sun = { u.sun with rtcValid := v.sun.rtcValid, rtc := v.sun.rtc } ∧
         ((∀ o, u.sys.offAt = some o → t.toNat - o.toNat ≤ 7 * 86400 * second) → v.sun = u.sun) ∧
         (∀ o, u.sys.offAt = some o → 7 * 86400 * second < t.toNat - o.toNat → v.sun.rtcValid = false) ∧
         v = { u with sys := v.sys, outs := v.outs, hank := v.hank, sun := v.sun
                      skein := { u.skein with raised := v.skein.raised }
                      upd := { u.upd with critical := v.upd.critical }, sent := v.sent }) ∧
     (u.sys.powered = true → u.sys.holdupDone = true → u.sys.state ≠ .midnight → ∃ v, exec (.vbatQualified t) s = .next v ∧
       v.sys.state = .dawn ∧ v.sys.dawn = .supplies ∧ v.sys.cause = 0 ∧ v.sys.holdupFlag = true ∧ v.sys.holdupRun = false ∧
       v.core = {} ∧ v.skein.ring = u.skein.ring ∧ v.upd.step = u.upd.step)) ∧
   (∀ (t : Time) (s : State), let u := advanceTo t s
     u.sys.powered = true → u.sys.state = .midnight →
     (∃ v, exec (.kl15Rising t) s = .next v ∧ v.sys.kl15 = true ∧ v.sys.state = .dawn ∧ v.sys.dawn = .supplies ∧ v.sys.cause = 3 ∧
       v.sys.warm = false ∧ v.core = u.core ∧ v.store = u.store ∧ v.lanes = u.lanes ∧ v.sun = u.sun) ∧
     (∀ n : Fin 4, ∃ v, exec (.wakeLineAsserted t n) s = .next v ∧ v.sys.kl15 = u.sys.kl15 ∧ v.sys.state = .dawn ∧
       v.sys.dawn = .supplies ∧ v.sys.cause = 4 ∧ v.sys.line.toNat = n.val ∧
       v.core = u.core ∧ v.store = u.store ∧ v.lanes = u.lanes ∧ v.sun = u.sun) ∧
     (u.sun.rtcValid = true → ∃ v, exec (.rtcAlarm t) s = .next v ∧ v.sys.state = .dawn ∧ v.sys.dawn = .supplies ∧ v.sys.cause = 5 ∧
       v.core = u.core ∧ v.store = u.store ∧ v.lanes = u.lanes ∧ v.sun = u.sun) ∧
     (u.sys.kl15Pending = true → ∃ v, exec (.midnightPendingWake t) s = .next v ∧ v.sys.state = .dawn ∧ v.sys.dawn = .supplies ∧
       v.sys.cause = 6 ∧ v.sys.kl15Pending = false ∧ v.core = u.core ∧ v.store = u.store ∧ v.lanes = u.lanes ∧ v.sun = u.sun))) ∧
  ((∀ (t : Time) (s : State), let u := advanceTo t s
     inStep u .supplies = true → ∃ v, exec (.logicSuppliesUp t) s = .next v ∧ v.sys = { u.sys with dawn := .plls } ∧
       (holds u 4 .logic = true → v = { u with sys := v.sys }) ∧
       (holds u 4 .logic = false → waits u 4 .logic = false → (ledger u 4).queue = [] → fits u 4 logicClaim = true →
         holds v 4 .logic = true) ∧
       v.core = u.core ∧ v.lanes = u.lanes ∧ v.store = u.store ∧ v.sun = u.sun ∧ v.clock = u.clock ∧ v.outs = u.outs) ∧
   (∀ (t : Time) (refOk : Bool) (s : State), let u := advanceTo t s
     inStep u .plls = true → ∃ v, exec (.refPllsLocked t refOk) s = .next v ∧ v.sys.dawn = .selfTest ∧ v.sys.state = .dawn ∧
       (u.sun.run = false → v.sun.run = true ∧ v.sun.state = .unset ∧
         v.sun.time = (if u.sun.rtcValid then u.sun.rtc else 0) ∧ v.sun.known = u.sun.rtcValid ∧ v.sys.dawnAt = v.sun.time) ∧
       v.store = u.store ∧ v.lanes.holder = u.lanes.holder ∧ v.lanes.gate = u.lanes.gate ∧ v.outs = u.outs) ∧
   (∀ (t : Time) (a b imu panel : Bool) (s : State), let u := advanceTo t s
     inStep u .selfTest = true → holds u 4 (.run .a) = true →
     (a = false → b = false → kl15Ends u = false → ∃ v, exec (.selfTestComplete t a b imu panel) s = .next v ∧
       v.sys.state = .dawn ∧ v.sys.hold = true ∧ v.sys.holdCause = 5 ∧ v.lanes.la.state = .failed ∧ v.lanes.la.cause = 7 ∧
       v.lanes.lb.state = .failed ∧ v.lanes.lb.cause = 7 ∧ v.lanes.holder = u.lanes.holder) ∧
     (a = true ∨ b = true → (u.sys.stayDawn = false ∨ u.sys.warm = false) →
       ∃ v, exec (.selfTestComplete t a b imu panel) s = .next v ∧ v.sys = { u.sys with dawn := .distaff } ∧
         v.lanes.holder = some (if a then .a else .b) ∧ v.lanes.gate = true ∧
         (lane v (if a then .a else .b)).state = .active ∧
         (lane v (if a then .b else .a)).state = (if a && b then .waking else .failed) ∧
         v.lanes.remain = u.lanes.lease.vote.toNat * lkoNs ∧ v.inputs.imuRun = true ∧ v.inputs.imuFail = !imu ∧
         v.panel.fitted = panel ∧ v.store = { u.store with owner := v.store.owner } ∧ v.outs = u.outs) ∧
     (a = true ∨ b = true → u.sys.stayDawn = true → u.sys.warm = true → kl15Ends u = false →
       ∃ v, exec (.selfTestComplete t a b imu panel) s = .next v ∧ v.sys.hold = true ∧ v.sys.holdCause = 6 ∧ v.sys.dawn = .distaff ∧
         v.lanes.holder = some (if a then .a else .b) ∧ v.lanes.gate = true)) ∧
   (∀ (t : Time) (s : State), let u := advanceTo t s
     inStep u .distaff = true → ∃ v, exec (.distaffBooted t) s = .next v ∧ v.sys = { u.sys with dawn := .journal } ∧
       v.gnss.run = true ∧ v.distaff.queue = [] ∧ v.tally.in0 = u.tally.limit0.vote ∧ v.tally.in1 = u.tally.limit1.vote ∧
       v.tally.in2 = u.tally.limit2.vote ∧ v.tally.in3 = u.tally.limit3.vote ∧ v.tally.inTotal = u.tally.total.vote ∧
       v.tally.inStagger = u.tally.stagger.vote ∧ v.tally.inWait = u.tally.waitMax.vote ∧
       v.store = u.store ∧ v.sun = u.sun ∧ v.outs = u.outs ∧ v.upd.step = u.upd.step))

/-- R31, R51, R56, R359, R362: RESET_N and WARM_RESET: DAWN with held outputs, no lane, no session, no lock; flash, the Skein ring, the
Sundial and Ethernet forwarding stay, and CLK_SRC and what the register engine keeps per requester are back at the Reset column (R9).

R53 to R55: FUNC_REINIT with an unknown bit, or none, is refused BAD_MASK; a forced switch-over without a COLD standby NO_STANDBY; the
update engine in SWITCHING or TRIAL BUSY_STEP; else the functions restart and the request waits, and is answered once they all run
again. -/
def Obligations.ResetsAndRestarts : Prop :=
  ((∀ (t : Time) (s : State), let u := advanceTo t s
     u.sys.powered = true → u.sys.state ≠ .midnight →
     ∃ v, exec (.resetNAsserted t) s = .next v ∧ v.sys.state = .dawn ∧ v.sys.dawn = .supplies ∧ v.sys.cause = 2 ∧ v.sys.warm = true ∧
       v.sys.held = true ∧ v.lanes.holder = none ∧ v.lanes.gate = false ∧ v.lanes.la.state = .waking ∧ v.lanes.lb.state = .waking ∧
       v.sys.lock = .of 0 ∧ v.core = {} ∧ v.spool = {} ∧ v.hank.sessions = [] ∧ v.distaff.queue = [] ∧
       v.sun = { u.sun with ptpCfg := v.sun.ptpCfg } ∧ v.skein.ring = u.skein.ring ∧ v.store.s0 = u.store.s0 ∧
       v.store.s1 = u.store.s1 ∧ v.eth = u.eth ∧ v.reqs = [] ∧ v.clock.force = 0 ∧ v.clock.stay = 0 ∧
       v.upd.step = u.upd.step ∧ v.strike.history = u.strike.history) ∧
   (∀ (r : Req) (s : State), let u := arrived r s
     Taken r true true s → u.sys.powered = true → u.sys.state ≠ .midnight →
     ∃ v, exec (.warmReset r) s = .next v ∧ v.sys.state = .dawn ∧ v.sys.dawn = .supplies ∧ v.sys.cause = 1 ∧ v.sys.warm = true ∧
       v.sys.held = true ∧ v.lanes.holder = none ∧ v.lanes.gate = false ∧ v.sys.lock = .of 0 ∧ v.core = {} ∧ v.spool = {} ∧
       v.hank.sessions = [] ∧ .reply r.who r.seq (.ack []) ∈ v.sent ∧
       v.sun = { u.sun with ptpCfg := v.sun.ptpCfg } ∧ v.skein.ring = u.skein.ring ∧ v.store.s0 = u.store.s0 ∧
       v.store.s1 = u.store.s1 ∧ v.eth = u.eth)) ∧
  ((∀ (r : Req) (m : BitVec 64) (s : State), let u := arrived r s
     Taken r false false s →
     (m = 0 ∨ 2 ^ 45 ≤ m.toNat → ∃ v, exec (.funcReinit r m) s = .next v ∧ Replied r (.nak .badMask 0) v ∧
       v = { u with hank := v.hank, sent := v.sent }) ∧
     (m = 1#64 <<< 44 → standbyCold u = false → ∃ v, exec (.funcReinit r m) s = .next v ∧ Replied r (.nak .noStandby 0) v ∧
       v = { u with hank := v.hank, sent := v.sent }) ∧
     (m = 1#64 <<< 42 → (u.upd.step = .switching ∨ u.upd.step = .trial) → ∃ v, exec (.funcReinit r m) s = .next v ∧
       Replied r (.nak .busyStep 0) v ∧ v = { u with hank := v.hank, sent := v.sent }) ∧
     (m = 1#64 <<< 41 → u.func.waits = [] → ∃ v, exec (.funcReinit r m) s = .next v ∧ restarts v 41 = true ∧
       v.func.waits = [{ req := some r, mask := m, todo := m, late := 0 }] ∧ v.skein.chal = none ∧ v.skein.ring = u.skein.ring ∧
       v.skein.buffer = u.skein.buffer ∧ v.sent = u.sent ∧ v.core = u.core ∧ v.store = u.store ∧ v.outs = u.outs ∧ v.sys = u.sys)) ∧
   (∀ (t : Time) (r : Req) (m : BitVec 64) (s : State), let u := advanceTo t s
     restarts u 41 = true → u.func.waits = [{ req := some r, mask := m, todo := m, late := 0 }] → m = 1#64 <<< 41 →
     ∃ v, exec (.funcRestartDone t 41) s = .next v ∧ restarts v 41 = false ∧ v.func.waits = [] ∧
       Replied r (.ack [lo32 m, hi32 m, 0, 0]) v ∧ v = { u with func := v.func, hank := v.hank, sent := v.sent }))

/-- R29, R49, R392: JOURNAL_RECOVERY applies the journal's outcome by the step last written, and DAWN goes on to read the cop.

R29, R32, R168, R169: COP_READ_DONE: no cop stored ends DAWN in the hold with cause 1, an incomplete one with cause 2; a complete one
goes to validation.

R32, R171 to R173: COP_VALIDATION_DONE: a refusal shows its code and detail and marks the slot REFUSED; in DAWN it ends in the hold
with cause 4 for the code 0x0105, else 3, and a running cop goes on. A cop that passes waits in DAWN for the standby copy, and elsewhere,
PENDING, for the next DAWN.

R25, R27, R301: STANDBY_COPY_DONE: the other lane is COLD, or FAILED with cause COPY, the copied cop runs and MORNING is entered, or
DUSK where KL15 has ended the DAWN. -/
def Obligations.JournalAndCopAtDawn : Prop :=
  (∀ (t : Time) (s : State), let u := advanceTo t s
     inStep u .journal = true → ∃ v, exec (.journalRecovery t) s = .next v ∧
       v.sys = { u.sys with dawn := if u.sys.hold then .done else .copRead } ∧ v.store = u.store ∧ v.core = u.core ∧
       v.sun = u.sun ∧ v.lanes.holder = u.lanes.holder ∧ v.lanes.gate = u.lanes.gate ∧
       (u.upd.step = .none ∨ u.upd.step = .receiving ∨ u.upd.step = .verified ∨ u.upd.step = .staged → v = { u with sys := v.sys }) ∧
       (u.upd.step = .switching → v.upd.step = .trial ∧ v.upd.slot = !u.upd.slot) ∧
       (u.upd.step = .trial → u.upd.healthOk = true → v.upd.step = .none ∧ v.upd.slot = u.upd.slot) ∧
       (u.upd.step = .trial → u.upd.healthOk = false →
         v.upd.step = .reverted ∧ v.upd.slot = !u.upd.slot ∧ v.upd.revertedBlocked = true) ∧
       (u.upd.step = .committed → v.upd.step = .none ∧ v.upd.slot = u.upd.slot)) ∧
  (∀ (t : Time) (s : State), let u := advanceTo t s
     inStep u .copRead = true → ∃ v, exec (.copReadDone t) s = .next v ∧
       v.lanes = u.lanes ∧ v.core = u.core ∧ v.sun = u.sun ∧ v.upd.step = u.upd.step ∧
       ((copSlot u u.store.sel).state = .empty → kl15Ends u = false →
         v.sys.state = .dawn ∧ v.sys.hold = true ∧ v.sys.holdCause = 1 ∧ v.sys.refusal = 0 ∧ v.store = u.store) ∧
       ((copSlot u u.store.sel).state ≠ .empty → (copSlot u u.store.sel).commit = false → kl15Ends u = false →
         v.sys.state = .dawn ∧ v.sys.hold = true ∧ v.sys.holdCause = 2 ∧ v.sys.refusal = 0 ∧ v.store = u.store) ∧
       ((copSlot u u.store.sel).state ≠ .empty → (copSlot u u.store.sel).commit = true →
         v.sys = { u.sys with dawn := .validation } ∧ v.store.validating = true ∧ v.store.valSlot = u.store.sel ∧
         copSlot v u.store.sel = { copSlot u u.store.sel with state := .committed } ∧
         copSlot v (!u.store.sel) = copSlot u (!u.store.sel) ∧ v = { u with sys := v.sys, store := v.store })) ∧
  (∀ (t : Time) (c : Cop) (s : State), let u := advanceTo t s
     let x := valSlot u
     let d := x.reading.getD c
     let r := validate x.bytes x.badDigest (readCop x.bytes d) u
     u.store.validating = true → distaffRuns u = true →
     (magicOk x.bytes = true → sectionsOk x.bytes = true → fitsBytes x.bytes d = true) →
     ∃ v, exec (.copValidationDone t c) s = .next v ∧
       (copSlot v u.store.valSlot).bytes = x.bytes ∧ (copSlot v u.store.valSlot).reading = some d ∧
       (copSlot v u.store.valSlot).migrated = r.migrated ∧ (copSlot v u.store.valSlot).signed = r.signed ∧
       v.store.validating = false ∧ v.store.running = u.store.running ∧ v.store.sel = u.store.sel ∧
       v.lanes = u.lanes ∧ v.core = u.core ∧ v.sun = u.sun ∧
       copSlot v (!u.store.valSlot) = copSlot u (!u.store.valSlot) ∧
       (∀ f, r.refusal = some f → v.store.refusal = f.code ∧ v.store.detail = CopFault.detail f ∧
         (copSlot v u.store.valSlot).state = .refused ∧
         (u.sys.state = .dawn → u.sys.hold = false → kl15Ends u = false →
           v.sys.state = .dawn ∧ v.sys.hold = true ∧ v.sys.holdCause = (if f.code = 0x0105 then 4 else 3) ∧ v.sys.refusal = f.code) ∧
         (u.sys.state ≠ .dawn → v.sys = u.sys)) ∧
       (r.refusal = none → v.store.refusal = 0 ∧ v.store.detail = 0 ∧
         (u.sys.state = .dawn → v.store.candidate = some r.cop ∧ v.sys = { u.sys with dawn := .copy }) ∧
         (u.sys.state ≠ .dawn → (copSlot v u.store.valSlot).state = .pending ∧ v.sys = u.sys ∧
           v.store.candidate = u.store.candidate))) ∧
  (∀ (t : Time) (ok : Bool) (c : Cop) (l : Lane) (s : State), let u := advanceTo t s
     inStep u .copy = true → u.store.candidate = some c → u.lanes.holder = some l → (lane u l.other).state = .waking →
     ∃ v, exec (.standbyCopyDone t ok) s = .next v ∧
       (lane v l.other).state = (if ok then .cold else .failed) ∧ (ok = false → (lane v l.other).cause = 6) ∧
       lane v l = lane u l ∧ v.lanes.holder = some l ∧ v.lanes.gate = u.lanes.gate ∧
       v.store.candidate = none ∧ v.store.lastValid = some c ∧ (copSlot v u.store.valSlot).state = .valid ∧
       (kl15Ends u = false → v.sys.state = .morning ∧ v.sys.hold = false ∧ v.sys.holdCause = 0 ∧ v.sys.dawn = .done ∧
         v.store.running = some c) ∧
       (kl15Ends u = true → v.sys.state = .dusk ∧ v.sys.duskStep = 1 ∧ v.store.running = none) ∧
       v.sun = u.sun ∧ v.clock = u.clock)

/-- R25, R35, R36, R149: ARM in MORNING, and AUTOARM at a frame boundary, take the module to NOON with a standby, else to AFTERNOON; outputs
are not yet driven, and every declared loop is due to initialise. ARM elsewhere is refused WRONG_STATE.

R35, R37: ARM_OUTPUT_START drives outputs from the first frame boundary at least 1 ms after ARM. DISARM takes NOON and AFTERNOON to
MORNING, while the gate is closed as soon as a lane takes the Whorl; in MORNING it ends held outputs. -/
def Obligations.ArmAndDisarm : Prop :=
  ((∀ (r : Req) (s : State), let u := arrived r s
     Taken r true false s → u.sys.state = .morning → u.sys.holdupRun = false →
     ∃ v, exec (.arm r) s = .next v ∧ Replied r (.ack []) v ∧
       v.sys = { u.sys with state := if standbyReady u then .noon else .afternoon, armedAt := some u.sun.time, driving := false } ∧
       (∀ d ∈ (cop u).loops, (loopSt v (loopKey d.unit d.loop)).init = some .arm) ∧
       v.lanes = u.lanes ∧ v.store = u.store ∧ v.tally = u.tally ∧ v.outs.sol = u.outs.sol ∧ v.core.sram = u.core.sram ∧
       v.core.acts = u.core.acts ∧ v.core.signals = u.core.signals ∧ v.sun = u.sun) ∧
   (∀ (r : Req) (s : State), let u := arrived r s
     Taken r true false s → (u.sys.state ≠ .morning ∨ u.sys.holdupRun = true) →
     ∃ v, exec (.arm r) s = .next v ∧ Replied r (.nak .wrongState 0) v ∧ v = { u with hank := v.hank, sent := v.sent }) ∧
   (∀ (t : Time) (s : State), let u := advanceTo t s
     u.sys.state = .morning → running u = true → atFrame u = true → (cop u).autoarm = true → u.sys.autoarmDone = false →
     u.sys.holdupRun = false → ((cop u).armOk = none ∨ signalOn u (cop u).armOk = true) →
     ∃ v, exec (.autoarm t) s = .next v ∧
       v.sys = { u.sys with
         state := if standbyReady u then .noon else .afternoon, armedAt := some u.sun.time, driving := false, autoarmDone := true } ∧
       (∀ d ∈ (cop u).loops, (loopSt v (loopKey d.unit d.loop)).init = some .arm) ∧
       v.lanes = u.lanes ∧ v.store = u.store ∧ v.tally = u.tally ∧ v.outs.sol = u.outs.sol)) ∧
  ((∀ (t a : Time) (s : State), let u := advanceTo t s
     u.sys.armedAt = some a → u.lanes.gate = true → (u.sys.state = .noon ∨ u.sys.state = .afternoon) → atFrame u = true →
     a.toNat + 1000000 ≤ u.sun.time.toNat → u.sys.holdupRun = false →
     ∃ v, exec (.armOutputStart t) s = .next v ∧ v.sys = { u.sys with driving := true, held := false, armedAt := none } ∧
       v.lanes.holder = u.lanes.holder ∧ v.lanes.gate = u.lanes.gate ∧ v.store = u.store ∧ v.core.acts = u.core.acts ∧ v.sun = u.sun) ∧
   (∀ (r : Req) (s : State), let u := arrived r s
     Taken r true false s → u.sys.holdupRun = false → (u.sys.state = .noon ∨ u.sys.state = .afternoon) →
     (u.lanes.gate = true → ∃ v, exec (.disarm r) s = .next v ∧ Replied r (.ack []) v ∧
       v.sys = { u.sys with
         state := .morning, driving := false, armedAt := none, disarmPending := false, held := false, disarmedAt := some u.sun.time } ∧
       v.lanes = u.lanes ∧ v.store = u.store ∧ v.core = u.core ∧ v.sun = u.sun) ∧
     (u.lanes.gate = false → ∃ v, exec (.disarm r) s = .next v ∧ Replied r (.ack []) v ∧
       v.sys = { u.sys with disarmPending := true } ∧ v = { u with sys := v.sys, hank := v.hank, sent := v.sent })) ∧
   (∀ (r : Req) (s : State), let u := arrived r s
     Taken r true false s → u.sys.holdupRun = false → u.sys.state = .morning → u.sys.held = true →
     ∃ v, exec (.disarm r) s = .next v ∧ Replied r (.ack []) v ∧ v.sys = { u.sys with held := false } ∧ v.lanes = u.lanes ∧
       v.core = u.core ∧ v.store = u.store))

/-- R25, R27, R72: what starts DUSK: KL15 low for 200 ms, latched while DAWN still runs and forgotten in MIDNIGHT, and SYS_CTRL.DUSK, refused
WRONG_STATE where no transition to DUSK exists.

R24, R27, R38, R324: the steps of DUSK: tasks stop at a frame boundary, then outputs take their shutdown states, the Skein is flushed, the
panel draws its last image, the real-time clock is written from a LOCKED Sundial, and MIDNIGHT, where KL15 found high is a pending wake. A DUSK not complete at 1,500 ms goes to MIDNIGHT. -/
def Obligations.DuskRunsToMidnight : Prop :=
  ((∀ (t : Time) (s : State), let u := advanceTo t s
     u.sys.kl15 = true → u.sys.powered = true → u.sys.holdupRun = false →
     (u.sys.state = .morning ∨ u.sys.state = .noon ∨ u.sys.state = .afternoon ∨ (u.sys.state = .dawn ∧ u.sys.hold = true) →
       ∃ v, exec (.kl15Low200ms t) s = .next v ∧ v.sys = { u.sys with
           kl15 := false, state := .dusk, hold := false, holdCause := 0, refusal := 0, holdOff := false, duskStep := 1, dawn := .done
           kl15Latched := false, driving := false, armedAt := none, disarmPending := false } ∧
         v.core = u.core ∧ v.store = u.store ∧ v.sun = u.sun ∧ v.lanes.holder = u.lanes.holder ∧ v.lanes.gate = u.lanes.gate) ∧
     (u.sys.state = .dawn → u.sys.hold = false → ∃ v, exec (.kl15Low200ms t) s = .next v ∧
       v = { u with sys := { u.sys with
         kl15 := false
         kl15Latched := u.sys.kl15Latched || (!u.sys.warm || decide (u.sys.dawnAt.toNat + 200000000 ≤ u.sun.time.toNat)) } }) ∧
     (u.sys.state = .midnight → ∃ v, exec (.kl15Low200ms t) s = .next v ∧
       v = { u with sys := { u.sys with kl15 := false, kl15Pending := false } })) ∧
   (∀ (r : Req) (s : State), let u := arrived r s
     Taken r true true s → u.sys.holdupRun = false →
     (duskAllowed u = true → ∃ v, exec (.sysCtrlDusk r) s = .next v ∧ Replied r (.ack []) v ∧ v.sys.state = .dusk ∧ v.sys.hold = false ∧
       v.sys.duskStep = 1 ∧ v.sys.driving = false ∧ v.core = u.core ∧ v.store = u.store ∧ v.sun = u.sun) ∧
     (duskAllowed u = false → ∃ v, exec (.sysCtrlDusk r) s = .next v ∧ Replied r (.nak .wrongState 0) v ∧
       v = { u with hank := v.hank, sent := v.sent }))) ∧
  ((∀ (t : Time) (s : State), let u := advanceTo t s
     u.sys.powered = true → u.sys.holdupRun = false → u.sys.state = .dusk →
     (u.sys.duskStep = 1 → atFrame u = true → quietBefore u.sun.time u = true →
       ∃ v, exec (.duskStepDone t) s = .next v ∧ v.sys = { u.sys with duskStep := 2 } ∧ v.core.acts = [] ∧
         v = { u with sys := v.sys, core := { u.core with acts := [], tasks := v.core.tasks } }) ∧
     (u.sys.duskStep = 2 → u.lanes.switch = none →
       ∃ v, exec (.duskStepDone t) s = .next v ∧ v.sys = { u.sys with duskStep := 3, held := false } ∧ v.strike.run = false ∧
         v.store = u.store ∧ v.sun = u.sun ∧ v.lanes.holder = u.lanes.holder) ∧
     (u.sys.duskStep = 3 → ∃ v, exec (.duskStepDone t) s = .next v ∧ v = { u with sys := { u.sys with duskStep := 4 } }) ∧
     (u.sys.duskStep = 4 → skeinFlushed u = true → ∃ v, exec (.duskStepDone t) s = .next v ∧ v.sys = { u.sys with duskStep := 5 } ∧
       v.store = u.store ∧ v.sun = u.sun ∧ v.core = u.core) ∧
     (u.sys.duskStep = 5 → panelDone u = true →
       ∃ v, exec (.duskStepDone t) s = .next v ∧ v.sys.state = .midnight ∧ v.sys.powered = true ∧
       v.sys.kl15Pending = u.sys.kl15 ∧ v.core = {} ∧ v.lanes = {} ∧ v.hank = {} ∧ v.sun.run = false ∧
       v.sun.rtc = (if u.sun.state = .locked ∧ u.clock.rtcFail = false then u.sun.time else u.sun.rtc) ∧
       v.sun.rtcValid = (u.sun.rtcValid || (decide (u.sun.state = .locked) && !u.clock.rtcFail)) ∧ v.store.running = none ∧ v.store.s0 = u.store.s0 ∧ v.store.s1 = u.store.s1 ∧
       v.store.sel = u.store.sel ∧ v.sys.onTime = u.sys.onTime)) ∧
   (∀ (t : Time) (s : State), let u := advanceTo t s
     u.sys.powered = true → u.sys.holdupRun = false → u.sys.state = .dusk →
     ∃ v, exec (.duskTimeout t) s = .next v ∧ v.sys.state = .midnight ∧ v.sys.powered = true ∧ v.sys.kl15Pending = u.sys.kl15 ∧
       v.core = {} ∧ v.lanes = {} ∧ v.outs.sol = [] ∧ v.sun.run = false ∧ v.store.s0 = u.store.s0 ∧ v.store.s1 = u.store.s1))

/-- R25, R39, R261, R414, R415, R418: hold-up switches every load switch off and the Tally admits nothing, with no claim left queued; its
last step leaves the last
committed checkpoint in flash and, where VBAT is back, starts a power-on DAWN; beyond it the module is off. HU_READY and the plate's
temperature show in PWR_STAT and PWR_MEAS. -/
def Obligations.SuppliesHoldUp : Prop :=
  (∀ (t : Time) (s : State), let u := advanceTo t s
    u.sys.powered = true → u.sys.holdupRun = false → u.sys.state ≠ .midnight →
    ∃ v, exec (.holdupStart t) s = .next v ∧
      v.sys = { u.sys with holdupRun := true, driving := false, armedAt := none, held := false } ∧
      (∀ n, n < 48 → (lsw v n).on = false ∧ (lsw v n).cmd = false) ∧ (∀ k c, fits v k c = false) ∧
      (∀ k, (ledger v k).queue = []) ∧
      v.store = { u.store with burst := none } ∧ v.sun = u.sun ∧ v.core.sram = u.core.sram) ∧
  (∀ (t : Time) (s : State), let u := advanceTo t s
    u.sys.holdupRun = true → u.sys.holdupDone = false →
    (∃ v, exec (.holdupStepsComplete t false) s = .next v ∧ v.sys = { u.sys with holdupDone := true } ∧
      v.emergency = (match committedSlot u with
        | some b => spoolSlot u b
        | none => u.emergency) ∧ v.store = u.store ∧ v.sun = u.sun ∧ v.core = u.core) ∧
    (∃ v, exec (.holdupStepsComplete t true) s = .next v ∧ v.sys.state = .dawn ∧ v.sys.dawn = .supplies ∧ v.sys.cause = 0 ∧
      v.sys.powered = true ∧ v.sys.holdupRun = false ∧ v.sys.holdupFlag = decide (u.sys.state ≠ .midnight) ∧ v.core = {} ∧
      v.emergency = (match committedSlot u with
        | some b => spoolSlot u b
        | none => u.emergency))) ∧
  (∀ (t : Time) (s : State), let u := advanceTo t s
    u.sys.powered = true → (u.sys.holdupRun = true ∨ u.sys.state = .midnight) →
    ∃ v, exec (.holdupExhausted t) s = .next v ∧ v.sys.powered = false ∧ v.sys.holdupFlag = decide (u.sys.state ≠ .midnight) ∧
      v.core = {} ∧ v.lanes = {} ∧ v.hank = {} ∧ v.emergency = u.emergency ∧ v.store.s0 = u.store.s0 ∧ v.store.s1 = u.store.s1 ∧
      v.skein.ring = u.skein.ring) ∧
  (∀ (t : Time) (ms : Nat) (s : State), let u := advanceTo t s
    u.sys.powered = true → u.sys.holdupRun = false → u.sys.state ≠ .midnight →
    ∃ v, exec (.huReady t ms) s = .next v ∧
      v.sys = { u.sys with huReady := true, huMs := BitVec.ofNat 8 (Nat.min 255 ms), huLow := decide (ms < 50) } ∧
      v = { u with sys := v.sys, skein := v.skein, upd := v.upd }) ∧
  (∀ (t : Time) (temp : BitVec 8) (s : State), let u := advanceTo t s
    u.sys.powered = true → u.sys.state ≠ .midnight →
    ∃ v, exec (.plateHot t temp) s = .next v ∧ v.sys.tplate = temp ∧ v.sys.hot = decide (95 < temp.toInt) ∧
      v = { u with sys := { u.sys with tplate := temp, hot := v.sys.hot, hotWarnedAt := v.sys.hotWarnedAt }, skein := v.skein
                   upd := v.upd })

/-- R58, R61, R66, R356: reading a register. A bad address is refused BAD_ADDR; a per-lane register without an active lane reads zero; a LO
half reads bits 31:0 and captures bits 63:32 in the requester's one shadow, which a HI half then reads; any other register without copies to mend reads as it stands,
and nothing else changes.

R62, R63, R66, R67, R356: writing a register. A bad address is refused; a read-only register discards what is written; SYS_LOCK only
sets; a counter's SAT written 1 clears it; a LO half is staged, which the HI half ends. A masked write is refused where its mask names a
bit that no write sets. -/
def Obligations.RegistersReadAndWritten : Prop :=
  (∀ (r : Req) (addr : Word) (s : State), let u := arrived r s
     Taken r true true s →
     (addrOk addr = false → ∃ v, exec (.regRd r addr) s = .next v ∧ Replied r (.nak .badAddr 0) v ∧
       v = { u with hank := v.hank, sent := v.sent }) ∧
     (addrOk addr = true → noLane u addr.toNat = true → ∃ v, exec (.regRd r addr) s = .next v ∧ Replied r (.ack [0]) v ∧
       v = { u with hank := v.hank, sent := v.sent }) ∧
     (addrOk addr = true → noLane u addr.toNat = false → ∀ x, wideAt u addr.toNat = some x → addr.toNat ≠ 0x001F0008 →
       ∃ v, exec (.loRegisterRead r addr) s = .next v ∧ exec (.regRd r addr) s = .next v ∧ Replied r (.ack [lo32 x]) v ∧
         (perReq v r.who).shadow = hi32 x ∧ v = { u with reqs := v.reqs, hank := v.hank, sent := v.sent }) ∧
     (addrOk addr = true → noLane u addr.toNat = false → ∀ lo, loOfHi addr.toNat = some lo →
       ∃ v, exec (.regRd r addr) s = .next v ∧ Replied r (.ack [(perReq u r.who).shadow]) v ∧
         v = { u with hank := v.hank, sent := v.sent }) ∧
     (addrOk addr = true → noLane u addr.toNat = false → addr.toNat ≠ 0x001F0008 → addr.toNat ≠ 0x00010064 →
       wideAt u addr.toNat = none → loOfHi addr.toNat = none → tripFields addr.toNat = [] →
       ∃ v, exec (.regRd r addr) s = .next v ∧ Replied r (.ack [peek u r.who addr.toNat]) v ∧
         v = { u with hank := v.hank, sent := v.sent })) ∧
  ((∀ (r : Req) (addr x : Word) (s : State), let u := arrived r s
     Taken r true true s →
     (addrOk addr = false → ∃ v, exec (.regWr r addr x) s = .next v ∧ Replied r (.nak .badAddr 0) v ∧
       v = { u with hank := v.hank, sent := v.sent }) ∧
     (addr.toNat / 65536 = 0 → addrOk addr = true → wideAt u addr.toNat = none → loOfHi addr.toNat = none →
       ∃ v, exec (.regWr r addr x) s = .next v ∧ Replied r (.ack []) v ∧ v = { u with hank := v.hank, sent := v.sent }) ∧
     (addrOk addr = true → noLane u addr.toNat = false → (wideAt u addr.toNat).isSome = true →
       ∃ v, exec (.loRegisterWrite r addr x) s = .next v ∧ Replied r (.ack []) v ∧ (perReq v r.who).staged = some (addr.toNat, x) ∧
         v = { u with reqs := v.reqs, hank := v.hank, sent := v.sent }) ∧
     (addrOk addr = true → noLane u addr.toNat = false → ∀ lo, loOfHi addr.toNat = some lo →
       ∃ v, exec (.hiRegisterWrite r addr x) s = .next v ∧ Replied r (.ack []) v ∧
         ((perReq u r.who).staged.map (·.1) = some lo → (perReq v r.who).staged = none) ∧
         v = { u with reqs := v.reqs, hank := v.hank, sent := v.sent })) ∧
   (∀ (r : Req) (addr : Word) (n : Nat) (s : State), let u := arrived r s
     Taken r true true s → addrOk addr = true → noLane u addr.toNat = false → wideAt u addr.toNat = none →
     loOfHi addr.toNat = none → counterIndex (perReq u r.who) addr.toNat = some n →
     ∃ v, exec (.counterSatClear r addr) s = .next v ∧ Replied r (.ack []) v ∧ counter v addr.toNat n = {} ∧
       (∀ k, k ≠ ckey addr.toNat n → SMap.get v.counters {} k = SMap.get u.counters {} k) ∧
       v = { u with counters := v.counters, hank := v.hank, sent := v.sent }) ∧
   (∀ (r : Req) (bits : BitVec 5) (s : State), let u := arrived r s
     Taken r true true s → ∃ v, exec (.sysLockSet r bits) s = .next v ∧ Replied r (.ack []) v ∧
       v.sys = { u.sys with lock := ⟨u.sys.lock.c0 ||| bits, u.sys.lock.c1 ||| bits, u.sys.lock.c2 ||| bits⟩ } ∧
       v.sys.lock.vote = u.sys.lock.vote ||| bits ∧ v = { u with sys := v.sys, hank := v.hank, sent := v.sent }) ∧
   (∀ (r : Req) (addr mask x : Word) (s : State), let u := arrived r s
     Taken r false true s → addrOk addr = true → addr.toNat ≠ 0x00010004 → mask &&& (access addr.toNat).2 ≠ 0 →
     ∃ v, exec (.regWrm r addr mask x) s = .next v ∧ Replied r (.nak .badValue 0) v ∧ v = { u with hank := v.hank, sent := v.sent }) ∧
   (∀ (r : Req) (mask x : Word) (s : State), let u := arrived r s
     Taken r false true s → mask &&& (access 0x00010008).2 = 0 →
     ∃ v w, exec (.regWrm r 0x00010008 mask x) s = .next v ∧ Replied r (.ack [w]) v ∧
       v.sys.lock.vote = u.sys.lock.vote ||| (BitVec.truncate 5 (x &&& mask)) ∧ w = v.sys.lock.vote.zeroExtend 32))

/-- R69, R70, R355: the indirect window. IND_CTRL selects it and resets the address; an access within it moves the address on by 4 where
AINC is set; beyond it, RANGE is noted. A block of 1 to 350 words reads, or writes, one after the other; any other length is refused. -/
def Obligations.WindowsWork : Prop :=
  (∀ (r : Req) (x : Word) (s : State), let u := arrived r s
    Taken r true true s → ∃ v, exec (.indCtrlWrite r x) s = .next v ∧ Replied r (.ack []) v ∧
      perReq v r.who = { perReq u r.who with indWin := x.truncate 4, indAinc := bit x 4, indAddr := 0 } ∧
      v = { u with reqs := v.reqs, hank := v.hank, sent := v.sent }) ∧
  (∀ (r : Req) (s : State), let u := arrived r s
    let p := perReq u r.who
    Taken r true true s → 0 < winSize (indWindow p) →
    (indOffset p < winSize (indWindow p) → winSilent u (indWindow p) = false →
      ∃ v, exec (.indDataRead r) s = .next v ∧ Replied r (.ack [winWord u (indWindow p) (indOffset p)]) v ∧
        perReq v r.who = { p with indAddr := if p.indAinc then p.indAddr + 4 else p.indAddr } ∧
        v = { u with reqs := v.reqs, hank := v.hank, sent := v.sent }) ∧
    (winSize (indWindow p) ≤ indOffset p →
      ∃ v, exec (.indDataRead r) s = .next v ∧ Replied r (.ack [0]) v ∧
        perReq v r.who = { p with indAddr := if p.indAinc then p.indAddr + 4 else p.indAddr, indRange := true } ∧
        v = { u with reqs := v.reqs, hank := v.hank, sent := v.sent })) ∧
  (∀ (r : Req) (x : Word) (s : State), let u := arrived r s
    let p := perReq u r.who
    Taken r true true s → indWindow p = 3 → indOffset p < planeBytes → winSilent u 3 = false →
      ∃ v, exec (.indDataWrite r x) s = .next v ∧ Replied r (.ack []) v ∧
        perReq v r.who = { p with indAddr := if p.indAinc then p.indAddr + 4 else p.indAddr } ∧
        (∀ i, i < 8 → SMap.get v.panel.pendingPlane 0 (2 * indOffset p + i) = field x (4 * i + 3) (4 * i)) ∧
        (∀ k, (k < 2 * indOffset p ∨ 2 * indOffset p + 8 ≤ k) →
          SMap.get v.panel.pendingPlane 0 k = SMap.get u.panel.pendingPlane 0 k) ∧
        v = { u with reqs := v.reqs, panel := { u.panel with pendingPlane := v.panel.pendingPlane }, hank := v.hank, sent := v.sent }) ∧
  (∀ (r : Req) (addr : Word) (n win : Nat) (l : List Word) (s : State), let u := arrived r s
    Taken r true true s →
    (n = 0 ∨ 350 < n → ∃ v, exec (.blockRd r addr n win) s = .next v ∧ Replied r (.nak .badValue 0) v ∧
      v = { u with hank := v.hank, sent := v.sent }) ∧
    (l.length = 0 ∨ 350 < l.length → ∃ v, exec (.blockWr r addr win l) s = .next v ∧ Replied r (.nak .badValue 0) v ∧
      v = { u with hank := v.hank, sent := v.sent }) ∧
    (0 < n → n ≤ 350 → addrOk addr = true → addr.toNat + 4 * (n - 1) ≤ 0x1FFFFF →
      ∃ v m, exec (.blockRd r addr n 0) s = .next v ∧ Replied r (.ack m) v ∧ m.length = n ∧
        m = (readMany r.who false addr.toNat n u).1 ∧ v.core = u.core ∧ v.store = u.store ∧ v.outs.lsw = u.outs.lsw) ∧
    (addrOk addr = true → addr.toNat = 0x00010008 → ∃ v, exec (.blockWr r addr 0 [0x1F]) s = .next v ∧ Replied r (.ack []) v ∧
      v.sys.lock.vote = 0x1F ∧ v.core = u.core ∧ v.store = u.store))

/-- R52, R354, R360: a request is executed once. One whose reply is cached is answered with that reply again, and one still in execution
is not started again; one at another version than the session's is refused VERSION; one beyond the outstanding limit is BUSY. Whatever
the request is, nothing but the session, its reply and the counters of retries and BUSY changes. -/
def Obligations.RequestsRunOnce : Prop :=
  ∀ (r : Req) (a b : Bool) (k : State → State) (s : State), let u := advanceTo r.at_ s
    let x := session u r.who
    let v := meetServer r a b k s
    reachable r.who u = true → x.isOpen = true →
    (∀ rep, cached x r.seq = some rep → Replied r rep v ∧ v.core = u.core ∧ v.outs = u.outs ∧ v.sys = u.sys ∧ v.store = u.store ∧
      v.lanes = u.lanes ∧ v.tally = u.tally ∧ v.upd.step = u.upd.step ∧ v.distaff = u.distaff ∧ v.func = u.func ∧
      counter v 0x001E0018 0 = (counter u 0x001E0018 0).inc.1) ∧
    (cached x r.seq = none → inFlight u r.who r.seq = true → v = arrived r s) ∧
    (cached x r.seq = none → inFlight u r.who r.seq = false → r.ver ≠ x.major ++ x.minor →
      Replied r (.nak .version 0x0204) v ∧ v = { u with hank := v.hank, sent := v.sent }) ∧
    (cached x r.seq = none → inFlight u r.who r.seq = false → r.ver = x.major ++ x.minor → (a = true ∨ x.major ≠ 1) →
      (b = true ∨ responder u = false) → outLimit x ≤ x.outst → x.major ≠ 1 →
      Replied r (.busy (retryMs u)) v ∧ v.core = u.core ∧ v.sys = u.sys ∧ v.store = u.store ∧ v.distaff = u.distaff)

/-- R357 to R359, R367, R421: opening and ending a session. The first HELLO chooses the highest common version and takes a free slot; the
second opens the session; in a lane HELLO waits in the Distaff's Hank class. A session without a valid request for 60 s closes. A message
with a wrong MAC is counted; a bad service frame changes nothing.

R98, R103, R248, R363, R364: streams. A record of a Signals in stream lands at its stamp, or at its arrival where that is 0; a Bobbin in
entry is accepted, or BUSY where a WAIT Bobbin has no room; one session subscribes to a Bobbin out channel, whose entries leave once each,
oldest first. -/
def Obligations.SessionsAndStreams : Prop :=
  ((∀ (r : Req) (m : HelloMsg) (ver : BitVec 16) (w : Requester) (s : State), let u := advanceTo r.at_ s
     reachable r.who u = true → responder u = true → m.complete = false → chooseVersion true m = some ver → freeSlot r.who u = some w →
     m.authOk = true → ∃ v id, exec (.hello r m) s = .next v ∧ v.sent.head? = some (.reply w r.seq (.ack [ver.zeroExtend 32, id])) ∧
       (session v w).half = true ∧ (session v w).isOpen = false ∧ (session v w).ident = id ∧
       (session v w).major = ver.extractLsb' 8 8 ∧ (session v w).minor = ver.extractLsb' 0 8 ∧
       (∀ o, o ≠ w → session v o = session u o) ∧ v = { u with hank := v.hank, sent := v.sent, free := u.free + 2 }) ∧
   (∀ (r : Req) (m : HelloMsg) (s : State), let u := advanceTo r.at_ s
     reachable r.who u = true → responder u = true → m.complete = true → (session u r.who).isOpen = false →
     (session u r.who).half = true → m.authOk = true → ∃ v l, exec (.hello r m) s = .next v ∧ Replied r (.ack l) v ∧
       (session v r.who).isOpen = true ∧ (session v r.who).half = false ∧ (session v r.who).lastValid = u.sun.time ∧
       v = { u with hank := v.hank, sent := v.sent }) ∧
   (∀ (r : Req) (m : HelloMsg) (s : State), let u := advanceTo r.at_ s
     reachable r.who u = true → responder u = false → u.distaff.queue.length < 64 → ∃ v, exec (.hello r m) s = .next v ∧
       v.distaff.queue = u.distaff.queue ++ [{ cls := 1, req := r, cmd := .hello r m, since := u.sun.time }] ∧
       v.hank = u.hank ∧ v.sent = u.sent ∧ v.core = u.core ∧ v.store = u.store ∧ v.sys = u.sys) ∧
   (∀ (t : Time) (w : Requester) (s : State), let u := advanceTo t s
     (session u w).isOpen = true → (session u w).lastValid.toNat + 60000000000 ≤ u.sun.time.toNat →
     ∃ v, exec (.hankSessionTimeout t w) s = .next v ∧ session v w = {} ∧ (∀ o, o ≠ w → session v o = session u o) ∧
       (∀ c, SMap.get v.hank.subs 0 c ≠ w.val + 1) ∧
       v = { u with hank := v.hank, distaff := v.distaff, func := v.func, store := { u.store with owner := v.store.owner } }) ∧
   (∀ (t : Time) (s : State), let u := advanceTo t s
     u.sys.powered = true → u.sys.state ≠ .midnight → netStopped u = false → ∃ v, exec (.hankAuthFail t) s = .next v ∧
       counter v 0x001E0010 0 = (counter u 0x001E0010 0).inc.1 ∧ v.hank.sessions = u.hank.sessions ∧
       v = { u with counters := v.counters, hank := v.hank, skein := v.skein, upd := v.upd }) ∧
   (∀ (t : Time) (s : State), exec (.serviceFrameBad t) s = .next (advanceTo t s))) ∧
  ((∀ (r : Req) (chan : Nat) (x : StreamRecord) (s : State), let u := arrived r s
     Taken r false false s → chan ≠ 0 → streamKind u chan = some .signalsIn → x.signal < 4294967296 →
     ∃ v, exec (.streamHostWrite r chan (.records [x])) s = .next v ∧ Replied r (.ack []) v ∧
       v.core = (land x.signal (.hank chan) x.value (if x.stamp = 0 then u.sun.time else x.stamp) .valid u).core ∧
       v.sys = u.sys ∧ v.outs = u.outs ∧ v.store = u.store) ∧
   (∀ (r : Req) (chan b : Nat) (d : BobDecl) (l : List Byte) (s : State), let u := arrived r s
     Taken r false false s → chan ≠ 0 → streamKind u chan = some (.bobbinIn b) → bobDecl u b = some d → 0 < l.length →
     l.length ≤ 1408 →
     u.lanes.gate = true →
     ((bob u b).held = [] → ((bob u b).place d.size { stamp := u.sun.time, seq := (bob u b).seq, aux := 0, bytes := l }).isSome = true →
       ∃ v, exec (.streamHostWrite r chan (.entry l)) s = .next v ∧ Replied r (.ack []) v ∧
         v.core = (offer b u.sun.time 0 l u).2.core ∧ v.sys = u.sys ∧ v.outs = u.outs ∧ v.store = u.store) ∧
     ((bob u b).held ≠ [] → d.dropNew = false → ∃ v, exec (.streamHostWrite r chan (.entry l)) s = .next v ∧
       Replied r (.busy 1) v ∧ bob v b = { bob u b with waitFor := some (r.who.val, r.seq) } ∧
       (∀ n, n ≠ b → bob v n = bob u n) ∧ v.core = { u.core with bobs := v.core.bobs } ∧ v.sys = u.sys ∧ v.store = u.store)) ∧
   (∀ (r : Req) (chan b : Nat) (s : State), let u := arrived r s
     Taken r true false s → streamKind u chan = some (.bobbinOut b) →
     (SMap.get u.hank.subs 0 chan = 0 → ∃ v, exec (.streamSubscribe r chan true) s = .next v ∧ Replied r (.ack []) v ∧
       SMap.get v.hank.subs 0 chan = r.who.val + 1 ∧ (∀ c, c ≠ chan → SMap.get v.hank.subs 0 c = SMap.get u.hank.subs 0 c) ∧
       v = { u with hank := v.hank, sent := v.sent }) ∧
     (SMap.get u.hank.subs 0 chan = r.who.val + 1 → ∃ v, exec (.streamSubscribe r chan false) s = .next v ∧ Replied r (.ack []) v ∧
       SMap.get v.hank.subs 0 chan = 0 ∧ v = { u with hank := v.hank, sent := v.sent })) ∧
   (∀ (t : Time) (chan b : Nat) (w : Requester) (e : BobEntry) (x : State) (s : State), let u := advanceTo t s
     streamKind u chan = some (.bobbinOut b) → subscriber u chan = some w → laneActive u = true → popBob b u = (some e, x) →
     e.bytes.length ≤ 1392 → ∃ v, exec (.streamOutSend t chan) s = .next v ∧
       v.sent = .stream w (session x w).evtNo.toNat chan e.desc e.bytes :: x.sent ∧ v = { x with hank := v.hank, sent := v.sent }) ∧
   (∀ (t : Time) (l : List Byte) (ok : Bool) (msg : Nat) (s : State), let u := advanceTo t s
     laneActive u = true →
     (ok = true → u.core.pos.rtcmBytes + l.length ≤ 65536 → rtcmUsed msg = true → ∃ v, exec (.rtcmFrame t l ok msg) s = .next v ∧
       v.core.pos.rtcm = u.core.pos.rtcm ++ [l] ∧ v.core.pos.rtcmBytes = u.core.pos.rtcmBytes + l.length ∧
       counter v 0x00160008 0 = (counter u 0x00160008 0).inc.1 ∧
       v = { u with core := { u.core with pos := v.core.pos }, counters := v.counters, skein := v.skein, upd := v.upd }) ∧
     (ok = false → ∃ v, exec (.rtcmFrame t l ok msg) s = .next v ∧ counter v 0x0016000C 0 = (counter u 0x0016000C 0).inc.1 ∧
       v = { u with counters := v.counters, skein := v.skein, upd := v.upd })))

/-- R354, R358, R361: COP_LOAD and ACTIVATE wait in the Distaff's validate and update classes, oldest first, and count as outstanding.

R168 to R171, R361, R425: the Distaff serves its Hank class first, then the others in rotation. Served: BEGIN selects a slot and marks
it WRITING; DATA at the expected offset appends; COMMIT of the whole length writes the commit record and starts validation; REVERT selects
the other good slot; ABORT ends the load. An entry that has waited more than 100 ms is warned of, and a Distaff silent for 500 ms is
re-initialised. -/
def Obligations.DistaffQueuesAndServes : Prop :=
  (∀ (r : Req) (s : State), let u := arrived r s
     u.distaff.queue.length < 64 →
     (∀ (c : Instr), Taken r true false s →
       ((∃ n d, c = .copLoadBegin r n d) ∨ (∃ n l, c = .copLoadData r n l) ∨ c = .copLoadCommit r ∨
         c = .copLoadRevert r ∨ c = .copLoadAbort r) →
       ∃ v, exec c s = .next v ∧ v.distaff.queue = u.distaff.queue ++ [{ cls := 2, req := r, cmd := c, since := u.sun.time }] ∧
         (session v r.who).outst = (session u r.who).outst + 1 ∧
         v = { u with distaff := v.distaff, hank := v.hank, skein := v.skein, upd := v.upd }) ∧
     (∀ (id : BitVec 64) (mode : Nat), Taken r false false s → ∃ v, exec (.activate r id mode) s = .next v ∧
       v.distaff.queue = u.distaff.queue ++ [{ cls := 3, req := r, cmd := .activate r id mode, since := u.sun.time }] ∧
       (session v r.who).outst = (session u r.who).outst + 1 ∧
       v = { u with distaff := v.distaff, hank := v.hank, skein := v.skein, upd := v.upd })) ∧
  ((∀ (d : Distaff) (e : DistaffEntry) (q : List DistaffEntry), d.queue = e :: q → e.cls = 1 → (∀ x ∈ q, x.cls ≠ 0) →
     nextEntry d = some (0, d.rotation)) ∧
   (∀ (t : Time) (us : Nat) (e : DistaffEntry) (s : State), let u := advanceTo t s
     distaffRuns u = true → u.distaff.queue = [e] → e.cls = 2 →
     (∀ n dg, e.cmd = .copLoadBegin e.req n dg → loadBarred u = none → (selSlot u).state ≠ .committed → u.store.loading = false →
       64 ≤ n → n ≤ slotBytes → ∃ v, exec (.distaffQueueService t us) s = .next v ∧ v.distaff.queue = [] ∧ Replied e.req (.ack []) v ∧
         v.store.sel = (if (selSlot u).good then !u.store.sel else u.store.sel) ∧ v.store.loading = true ∧
         v.store.owner = some e.req.who ∧ selSlot v = { state := .writing, total := n, digest := dg } ∧
         copSlot v (!v.store.sel) = copSlot u (!v.store.sel) ∧ v.core = u.core ∧ v.sys = u.sys ∧ v.lanes = u.lanes) ∧
     (∀ off l, e.cmd = .copLoadData e.req off l → notLoading e.req.who u = none → 0 < l.length → l.length ≤ 1400 →
       off = (selSlot u).next → off + l.length ≤ slotBytes → u.store.burst = none → u.sys.holdupRun = false →
       (ledger u 4).queue = [] → fits u 4 (flashClaim 0 u.tally.bursts) = true →
       ∃ v, exec (.distaffQueueService t us) s = .next v ∧ v.distaff.queue = [] ∧ Replied e.req (.ack []) v ∧
         (selSlot v).next = off + l.length ∧ (selSlot v).bytes = (selSlot u).bytes ++ l ∧ v.store.sel = u.store.sel ∧
         (selSlot v).state = (selSlot u).state ∧ v.core = u.core ∧ v.sys = u.sys ∧ v.lanes.holder = u.lanes.holder) ∧
     (e.cmd = .copLoadCommit e.req → notLoading e.req.who u = none → (selSlot u).next = (selSlot u).total →
       ∃ v, exec (.distaffQueueService t us) s = .next v ∧ v.distaff.queue = [] ∧ Replied e.req (.ack []) v ∧
         selSlot v = { selSlot u with
           state := .committed, commit := true, badDigest := decide (sha256 (selSlot u).bytes ≠ (selSlot u).digest) } ∧ v.store.loading = false ∧
         v.store.validating = true ∧ v.store.valSlot = u.store.sel ∧ v.store.running = u.store.running ∧ v.core = u.core ∧ v.sys = u.sys) ∧
     (e.cmd = .copLoadRevert e.req → loadBarred u = none → u.store.loading = false → (copSlot u (!u.store.sel)).good = true →
       ∃ v, exec (.distaffQueueService t us) s = .next v ∧ v.distaff.queue = [] ∧ Replied e.req (.ack []) v ∧
         v.store = { u.store with sel := !u.store.sel } ∧ v.core = u.core ∧ v.sys = u.sys) ∧
     (e.cmd = .copLoadAbort e.req → notLoading e.req.who u = none →
       ∃ v, exec (.distaffQueueService t us) s = .next v ∧ v.distaff.queue = [] ∧ Replied e.req (.ack []) v ∧
         v.store = { u.store with loading := false, owner := none, burst := none } ∧ v.core = u.core ∧ v.sys = u.sys)) ∧
   (∀ (t : Time) (s : State), let u := advanceTo t s
     (∃ e ∈ u.distaff.queue, e.since.toNat + 100000000 < u.sun.time.toNat) → u.distaff.waitWarnedAt = none →
     ∃ v, exec (.distaffEntryWaitWarning t) s = .next v ∧ v.distaff = { u.distaff with waitWarnedAt := some u.sun.time } ∧
       v.skein.raised = u.skein.raised ++ [makeRecord .warning 0x01 0x0018 [BitVec.ofNat 32 (maxWaitMs u)] u] ∧
       v = { u with distaff := v.distaff, skein := v.skein, upd := v.upd }) ∧
   (∀ (t : Time) (s : State), let u := advanceTo t s
     u.sys.powered = true → laneActive u = true → ∃ v, exec (.distaffWatchdogMiss t) s = .next v ∧ v.distaff = {} ∧
       restarts v 43 = true ∧ v.core = u.core ∧ v.store = u.store ∧ v.outs = u.outs ∧ v.lanes = u.lanes))

/-- R73, R75, R115, R116, R118: integer and fixed-point instructions of two source registers. Each row: the instruction, its Tister level,
its charge and what it writes to its destination register; g0 discards it. Nothing else of the activation changes but its charge and its
pc, and nothing else of the module.

R75, R119, R120, R140: binary32 instructions write what the model's binary32 operations give, with the levels and charges of the table;
those operations give the canonical NaN where an operand is a NaN; fabs clears the sign bit and fneg inverts it, a NaN aside; a NaN converts to 0. -/
def Obligations.IntegerAndFloatResults : Prop :=
  (∀ (x : Slot) (d a b : GReg) (s : State) (y : Activation),
     let A := y.getG a
     let B := y.getG b
     let n := B.toNat % 32
     let sat := fun (i : Int) => BitVec.ofInt 32 (Max.max (-2147483648) (Min.min 2147483647 i))
     ∀ e ∈ ([(.add x d a b, 1, 1, A + B), (.sub x d a b, 1, 1, A - B), (.mul x d a b, 1, 2, A * B),
         (.mulh x d a b, 1, 2, BitVec.ofInt 32 (A.toInt * B.toInt / 4294967296)),
         (.mulhu x d a b, 1, 2, BitVec.ofNat 32 (A.toNat * B.toNat / 4294967296)),
         (.div x d a b, 1, 18, if B = 0 then 0 else BitVec.ofInt 32 (A.toInt.tdiv B.toInt)),
         (.divu x d a b, 1, 18, if B = 0 then 0 else BitVec.ofNat 32 (A.toNat / B.toNat)),
         (.rem x d a b, 1, 18, if B = 0 then A else BitVec.ofInt 32 (A.toInt.tmod B.toInt)),
         (.remu x d a b, 1, 18, if B = 0 then A else BitVec.ofNat 32 (A.toNat % B.toNat)),
         (.and_ x d a b, 1, 1, A &&& B), (.or_ x d a b, 1, 1, A ||| B), (.xor x d a b, 1, 1, A ^^^ B),
         (.andn x d a b, 1, 1, A &&& ~~~B), (.shl x d a b, 1, 1, A <<< n), (.shr x d a b, 1, 1, A >>> n),
         (.sra x d a b, 1, 1, BitVec.ofInt 32 (A.toInt / 2 ^ n)), (.rol x d a b, 3, 1, (A <<< n) ||| (A >>> (32 - n))),
         (.min x d a b, 1, 1, BitVec.ofInt 32 (Min.min A.toInt B.toInt)), (.max x d a b, 1, 1, BitVec.ofInt 32 (Max.max A.toInt B.toInt)),
         (.minu x d a b, 1, 1, BitVec.ofNat 32 (Min.min A.toNat B.toNat)),
         (.maxu x d a b, 1, 1, BitVec.ofNat 32 (Max.max A.toNat B.toNat)),
         (.qadd x d a b, 1, 1, sat (A.toInt + B.toInt)), (.qsub x d a b, 1, 1, sat (A.toInt - B.toInt)),
         (.qshl x d a b, 1, 1, sat (A.toInt * 2 ^ n))] : List (Instr × Nat × Nat × Word)),
       Runs x e.2.1 e.2.2.1 s y → y.getP x.p = true →
       ∃ v, exec e.1 s = .next v ∧ OnlyAct x.sp.val s v (went y e.2.2.1 (withG y d e.2.2.2) y.preds)) ∧
  ((∀ (x : Slot) (d a b : GReg) (s : State) (y : Activation),
     let A := y.getG a
     let B := y.getG b
     ∀ e ∈ ([(.fadd x d a b, 2, 4, fadd A B), (.fsub x d a b, 2, 4, fsub A B), (.fmul x d a b, 2, 4, fmul A B),
         (.fdiv x d a b, 3, 14, fdiv A B), (.fsqrt x d a, 3, 14, fsqrt A), (.ffma x d a b, 3, 5, ffma A B (y.getG d)),
         (.fmin x d a b, 2, 2, fmin A B), (.fmax x d a b, 2, 2, fmax A B), (.fabs x d a, 2, 1, if isNan A then 0x7FC00000 else A &&& 0x7FFFFFFF),
         (.fneg x d a, 2, 1, if isNan A then 0x7FC00000 else A ^^^ 0x80000000), (.f2i x d a, 2, 3, f2fix 0 A), (.i2f x d a, 2, 3, fix2f 0 A),
         (.f2q16 x d a, 2, 3, f2fix 16 A), (.q162f x d a, 2, 3, fix2f 16 A), (.f2q31 x d a, 2, 3, f2fix 31 A),
         (.q312f x d a, 2, 3, fix2f 31 A)] : List (Instr × Nat × Nat × Word)),
       Runs x e.2.1 e.2.2.1 s y → y.getP x.p = true →
       ∃ v, exec e.1 s = .next v ∧ OnlyAct x.sp.val s v (went y e.2.2.1 (withG y d e.2.2.2) y.preds)) ∧
   (∀ A B C : Word, isNan A = true ∨ isNan B = true → fadd A B = nan ∧ fsub A B = nan ∧ fmul A B = nan ∧ fdiv A B = nan ∧
     ffma A B C = nan) ∧
   (∀ (k : Nat) (A : Word), isNan A = true → f2fix k A = 0))

/-- R73, R75, R115, R117, R118: the same for one source register, an immediate, and the rounding fixed-point products.

R73, R75, R121, R122: comparisons into a predicate; p0 discards what is written. -/
def Obligations.OneOperandAndCompareResults : Prop :=
  (∀ (x : Slot) (d a b : GReg) (imm : BitVec 13) (sh : BitVec 5) (s : State) (y : Activation),
     let A := y.getG a
     let B := y.getG b
     let sat := fun (i : Int) => BitVec.ofInt 32 (Max.max (-2147483648) (Min.min 2147483647 i))
     ∀ e ∈ ([(.clz x d a, 3, 1, if A = 0 then 32 else BitVec.ofNat 32 (31 - A.toNat.log2)),
         (.popc x d a, 3, 1, BitVec.ofNat 32 ((List.range 32).countP fun i => A.getLsbD i)),
         (.addi x d a imm, 1, 1, A + imm.signExtend 32), (.andi x d a imm, 1, 1, A &&& imm.zeroExtend 32),
         (.ori x d a imm, 1, 1, A ||| imm.zeroExtend 32), (.xori x d a imm, 1, 1, A ^^^ imm.zeroExtend 32),
         (.shli x d a sh, 1, 1, A <<< sh.toNat), (.shri x d a sh, 1, 1, A >>> sh.toNat),
         (.srai x d a sh, 1, 1, BitVec.ofInt 32 (A.toInt / 2 ^ sh.toNat)),
         (.roli x d a sh, 3, 1, (A <<< sh.toNat) ||| (A >>> (32 - sh.toNat))),
         (.movi x d imm, 1, 1, imm.signExtend 32), (.qneg x d a, 1, 1, sat (-A.toInt)), (.qabs x d a, 1, 1, sat A.toInt.natAbs),
         (.qmul16 x d a b, 1, 2, sat (roundDiv (A.toInt * B.toInt) 65536)),
         (.qmul31 x d a b, 2, 2, sat (roundDiv (A.toInt * B.toInt) 2147483648)),
         (.timeTi x d true, 1, 1, y.ti.extractLsb' 32 32), (.timeTi x d false, 1, 1, y.ti.extractLsb' 0 32)] :
           List (Instr × Nat × Nat × Word)),
       Runs x e.2.1 e.2.2.1 s y → y.getP x.p = true →
       ∃ v, exec e.1 s = .next v ∧ OnlyAct x.sp.val s v (went y e.2.2.1 (withG y d e.2.2.2) y.preds)) ∧
  (∀ (x : Slot) (d : PReg) (a b : GReg) (imm : BitVec 13) (s : State) (y : Activation),
     let A := y.getG a
     let B := y.getG b
     let I := imm.signExtend 32
     ∀ e ∈ ([(.ieq x d a b, 1, 1, decide (A = B)), (.ine x d a b, 1, 1, decide (A ≠ B)),
         (.ilt x d a b, 1, 1, decide (A.toInt < B.toInt)), (.ige x d a b, 1, 1, decide (B.toInt ≤ A.toInt)),
         (.iltu x d a b, 1, 1, decide (A.toNat < B.toNat)), (.igeu x d a b, 1, 1, decide (B.toNat ≤ A.toNat)),
         (.ieqi x d a imm, 1, 1, decide (A = I)), (.inei x d a imm, 1, 1, decide (A ≠ I)),
         (.ilti x d a imm, 1, 1, decide (A.toInt < I.toInt)), (.igei x d a imm, 1, 1, decide (I.toInt ≤ A.toInt)),
         (.feq x d a b, 2, 2, feq A B), (.fne x d a b, 2, 2, !feq A B), (.flt x d a b, 2, 2, flt A B), (.fle x d a b, 2, 2, fle A B),
         (.fgt x d a b, 2, 2, flt B A), (.fge x d a b, 2, 2, fle B A), (.fun x d a b, 2, 2, isNan A || isNan B)] :
           List (Instr × Nat × Nat × Bool)),
       Runs x e.2.1 e.2.2.1 s y → y.getP x.p = true →
       ∃ v, exec e.1 s = .next v ∧ OnlyAct x.sp.val s v (went y e.2.2.1 y.regs (withP y d e.2.2.2)))

/-- R123: pand is A and B, por A or B, pxor A xor B, pandn A and not B, pnot not A, pmov A; p0 reads true and discards writes. -/
def Obligations.PredicateLogic : Prop :=
  ∀ (x : Slot) (d a b : PReg) (s : State) (y : Activation),
    let A := if a = 0 then true else y.preds[a]
    let B := if b = 0 then true else y.preds[b]
    ∀ e ∈ ([(.pand x d a b, A && B), (.por x d a b, A || B), (.pxor x d a b, A ^^ B), (.pandn x d a b, A && !B),
        (.pnot x d a, !A), (.pmov x d a, A)] : List (Instr × Bool)),
      Runs x 1 1 s y → y.getP x.p = true → ∃ v, exec e.1 s = .next v ∧ OnlyAct x.sp.val s v (went y 1 y.regs (withP y d e.2))

/-- R77, R78, R128: a load the task may do, aligned, writes its bytes, least significant first, to its register; ldc reads the word at the
constants' base + 4 × imm. Only the activation changes.

R77, R78, R128: a store the task may do, aligned, writes the low bytes of its register at the address its operands give, least
significant first; every other byte of every data SRAM reads as before, and nothing else changes. -/
def Obligations.LoadsAndStores : Prop :=
  ((∀ (x : Slot) (d a : GReg) (imm : BitVec 13) (s : State) (y : Activation),
     let addr := (y.getG a + imm.signExtend 32).toNat
     let B := fun (i : Nat) => (readByte s x.sp.val (addr + i)).toNat
     ∀ e ∈ ([(.ldw x d a imm, 4, BitVec.ofNat 32 (B 0 + 256 * B 1 + 65536 * B 2 + 16777216 * B 3)),
         (.ldh x d a imm, 2, (BitVec.ofNat 16 (B 0 + 256 * B 1)).signExtend 32),
         (.ldhu x d a imm, 2, (BitVec.ofNat 16 (B 0 + 256 * B 1)).zeroExtend 32),
         (.ldb x d a imm, 1, (BitVec.ofNat 8 (B 0)).signExtend 32),
         (.ldbu x d a imm, 1, (BitVec.ofNat 8 (B 0)).zeroExtend 32)] : List (Instr × Nat × Word)),
       Runs x 1 2 s y → y.getP x.p = true → mayRead (cop s) (declOf s y.task) addr e.2.1 = true → addr % e.2.1 = 0 →
       ∃ v, exec e.1 s = .next v ∧ OnlyAct x.sp.val s v (went y 2 (withG y d e.2.2) y.preds)) ∧
   (∀ (x : Slot) (d : GReg) (imm : BitVec 13) (s : State) (y : Activation),
     let im := image (cop s) (declOf s y.task).spindle
     let B := fun (i : Nat) => (readByte s x.sp.val (im.constBase + 4 * imm.toNat + i)).toNat
     Runs x 1 2 s y → y.getP x.p = true → imm.toNat < im.consts.length →
     ∃ v, exec (.ldc x d imm) s = .next v ∧
       OnlyAct x.sp.val s v (went y 2 (withG y d (BitVec.ofNat 32 (B 0 + 256 * B 1 + 65536 * B 2 + 16777216 * B 3))) y.preds))) ∧
  (∀ (x : Slot) (b a : GReg) (imm : BitVec 13) (s : State) (y : Activation),
     let addr := (y.getG a + imm.signExtend 32).toNat
     ∀ e ∈ ([(.stw x b a imm, 4), (.sth x b a imm, 2), (.stb x b a imm, 1)] : List (Instr × Nat)),
       Runs x 1 1 s y → y.getP x.p = true → mayWrite (declOf s y.task) addr e.2 = true → addr % e.2 = 0 →
       ∃ v, exec e.1 s = .next v ∧ v = { s with core := { s.core with acts := v.core.acts, sram := v.core.sram } } ∧
         SMap.find v.core.acts x.sp.val = some (went y 1 y.regs y.preds) ∧
         (∀ n, n ≠ x.sp.val → SMap.find v.core.acts n = SMap.find s.core.acts n) ∧
         (∀ i, i < e.2 → readByte v x.sp.val (addr + i) = (y.getG b).extractLsb' (8 * i) 8) ∧
         (∀ sp at_, (∀ i, i < e.2 → memKey sp at_ ≠ memKey x.sp.val (addr + i)) → readByte v sp at_ = readByte s sp at_))

/-- R124 to R126: br goes forward by its immediate; loop enters its body, or passes its next where the count is zero; next iterates, 2
charged again, or goes on; brk leaves the innermost body. Only the activation changes.

R90: an instruction whose guard is false only takes its charge and goes on to the next. -/
def Obligations.ControlFlowAndGuards : Prop :=
  (∀ (x : Slot) (s : State) (y : Activation), y.getP x.p = true →
     (∀ imm : BitVec 13, imm ≠ 0 → Runs x 1 2 s y → ∃ v, exec (.br x imm) s = .next v ∧
       OnlyAct x.sp.val s v { y with charged := y.charged + 2, pc := y.pc + imm.zeroExtend 14 }) ∧
     (∀ (a : GReg) (imm : BitVec 13) (e : BitVec 14), let n := if a = 0 then imm.toNat else (y.getG a).toNat
       Runs x 1 2 s y → loopEnd (image (cop s) x.sp.val).code y.pc = some e → (a = 0 ∨ imm ≠ 0) → (a = 0 ∨ n ≤ imm.toNat) →
       (n = 0 → ∃ v, exec (.loop x a imm) s = .next v ∧ OnlyAct x.sp.val s v { y with charged := y.charged + 2, pc := e + 1 }) ∧
       (n ≠ 0 → ∃ v, exec (.loop x a imm) s = .next v ∧ OnlyAct x.sp.val s v { y with
         charged := y.charged + 2, loops := { start := y.pc, next := e, left := n } :: y.loops, pc := y.pc + 1 })) ∧
     (∀ (f : LoopFrame) (r : List LoopFrame), y.loops = f :: r →
       (f.left ≤ 1 → Runs x 1 0 s y → ∃ v, exec (.next_ x) s = .next v ∧
         OnlyAct x.sp.val s v { y with loops := r, pc := y.pc + 1 }) ∧
       (1 < f.left → Runs x 1 2 s y → ∃ v, exec (.next_ x) s = .next v ∧
         OnlyAct x.sp.val s v { y with
           charged := y.charged + 2, loops := { f with left := f.left - 1 } :: r, pc := f.start + 1 }) ∧
       (Runs x 1 2 s y → ∃ v, exec (.brk x) s = .next v ∧
         OnlyAct x.sp.val s v { y with charged := y.charged + 2, loops := r, pc := f.next + 1 }))) ∧
  (∀ (x : Slot) (d a b : GReg) (p : PReg) (imm : BitVec 13) (h : Byte) (l : BitVec 6) (n : Fin 16) (s : State) (y : Activation),
     y.getP x.p = false →
     (∀ e ∈ ([(.add x d a b, 1, 1), (.div x d a b, 1, 18), (.fadd x d a b, 2, 4), (.ieq x p a b, 1, 1), (.pand x p p p, 1, 1),
         (.addi x d a imm, 1, 1), (.ldw x d a imm, 1, 2), (.stw x d a imm, 1, 1), (.end_ x, 1, 1), (.trap x imm, 1, 1),
         (.bar x n, 2, 4), (.brk x, 1, 2), (.sigRd x d h a, 1, 20), (.bobPop x d n a b, 1, 110), (.timeNow x d true, 1, 6)] :
           List (Instr × Nat × Nat)),
       Runs x e.2.1 e.2.2 s y →
       ∃ v, exec e.1 s = .next v ∧ OnlyAct x.sp.val s v { y with charged := y.charged + e.2.2, pc := y.pc + 1 }))

/-- R81, R86, R94, R126: end completes the activation: the Spindle is free, the release is done with its ti, the longest response is kept,
and a completion after ti + DEADLINE counts in SPN_MISS.

R87, R112, R113, R127, R369: what a trap leaves. The trap instruction, and every other ground that ends an instruction in a trap, free
the Spindle, count in SPN_TRAP_CNT, show cause, task and pc in SPN_LAST_TRAP, raise an ERROR, and stop the task where its declaration says
so. Where no other activation waits at a barrier, nothing else follows. -/
def Obligations.ActivationsEndOrTrap : Prop :=
  (∀ (x : Slot) (s : State) (y : Activation), let d := declOf s y.task
     let resp := s.sun.time.toNat - y.ti.toNat
     Runs x 1 1 s y → y.getP x.p = true → ∃ v, exec (.end_ x) s = .next v ∧
       SMap.find v.core.acts x.sp.val = none ∧ (∀ n, n ≠ x.sp.val → SMap.find v.core.acts n = SMap.find s.core.acts n) ∧
       (taskOf v y.task).pending = (taskOf s y.task).pending.tail ∧ (taskOf v y.task).doneTi = some y.ti ∧
       (taskOf v y.task).maxResp = (if (taskOf s y.task).maxResp.toNat < resp then hold32 resp else (taskOf s y.task).maxResp) ∧
       (∀ n, n ≠ y.task → taskOf v n = taskOf s n) ∧
       counter v 0x00080010 0 = (if d.deadlineUs * 1000 < resp then (counter s 0x00080010 0).inc.1 else counter s 0x00080010 0) ∧
       v.core = { s.core with acts := v.core.acts, tasks := v.core.tasks, bobs := v.core.bobs } ∧
       v = { s with core := v.core, counters := v.counters, skein := v.skein, upd := v.upd }) ∧
  (∀ (x : Slot) (s : State) (y : Activation), SMap.find s.core.acts x.sp.val = some y → y.wait = none →
     (∀ e ∈ s.core.acts, ∀ g, e.2.wait ≠ some (.barrier g)) →
     let trapped := fun (cause : Nat) (args : List Word) (v : State) =>
       SMap.find v.core.acts x.sp.val = none ∧ (∀ n, n ≠ x.sp.val → SMap.find v.core.acts n = SMap.find s.core.acts n) ∧
       v.core.lastTrap = (BitVec.ofNat 4 cause ++ BitVec.ofNat 14 y.task ++ y.pc : Word) ∧
       counter v 0x00080018 0 = (counter s 0x00080018 0).inc.1 ∧
       (∃ r ∈ v.skein.raised, r.sev = .error ∧ r.source = 8 ∧ r.code = 0x18 ∧
         r.args = [BitVec.ofNat 32 y.task, BitVec.ofNat 32 cause, y.pc.zeroExtend 32, lo32 y.ti, hi32 y.ti] ++ args) ∧
       (taskOf v y.task).stopped = ((taskOf s y.task).stopped || (declOf s y.task).onTrapStop) ∧
       ((declOf s y.task).onTrapStop = true → (taskOf v y.task).pending = []) ∧
       v = { s with core := v.core, counters := v.counters, skein := v.skein, upd := v.upd }
     let may := fun (c : Nat) => (1 ≤ (cop s).minIsa ∧ y.charged + c ≤ (declOf s y.task).budget) ∧ y.getP x.p = true
     y.task < 16384 →
     (∀ imm : BitVec 13, may 1 → ∃ v, exec (.trap x imm) s = .next v ∧ trapped 1 [imm.zeroExtend 32] v) ∧
     (∀ (d a b : GReg) (imm : BitVec 13), let addr := (y.getG a + imm.signExtend 32).toNat
       (may 2 → mayRead (cop s) (declOf s y.task) addr 4 = false → ∃ v, exec (.ldw x d a imm) s = .next v ∧ trapped 3 [] v) ∧
       (may 2 → mayRead (cop s) (declOf s y.task) addr 4 = true → addr % 4 ≠ 0 →
         ∃ v, exec (.ldw x d a imm) s = .next v ∧ trapped 2 [] v) ∧
       (may 1 → mayWrite (declOf s y.task) addr 4 = false → ∃ v, exec (.stw x b a imm) s = .next v ∧ trapped 3 [] v) ∧
       (1 ≤ (cop s).minIsa → (declOf s y.task).budget < y.charged + 1 → ∃ v, exec (.add x d a b) s = .next v ∧ trapped 5 [] v) ∧
       ((cop s).minIsa < 2 → ∃ v, exec (.fadd x d a b) s = .next v ∧ trapped 7 [] v)) ∧
     (∀ (a : GReg) (imm : BitVec 13) (e : BitVec 14), may 2 → loopEnd (image (cop s) x.sp.val).code y.pc = some e → a ≠ 0 → imm ≠ 0 →
       imm.toNat < (y.getG a).toNat → ∃ v, exec (.loop x a imm) s = .next v ∧ trapped 4 [] v) ∧
     (∀ (d : GReg) (h : Byte), may 20 → (declOf s y.task).sigs[h.toNat]? = none →
       ∃ v, exec (.sigRd x d h 0) s = .next v ∧ trapped 8 [] v) ∧
     (∀ g : Fin 16, may 4 → 2 ≤ (cop s).minIsa → barrierBroken s g.val y.ti = true →
       ∃ v, exec (.bar x g) s = .next v ∧ trapped 6 [] v))

/-- R74, R84, R138: time.now reads the running device time, its upper half captured; bar waits for every participant of its ti, and
BARRIER_RESUME lets all of them go on once the last has come.

R84: an activation that waits for a signal's writer stays as it is while the writer is behind, and reads once it has caught up. -/
def Obligations.TimeBarriersAndWaits : Prop :=
  ((∀ (x : Slot) (d : GReg) (s : State) (y : Activation), Runs x 1 6 s y → y.getP x.p = true →
     (∃ v, exec (.timeNow x d false) s = .next v ∧ OnlyAct x.sp.val s v
       { went y 6 (withG y d (s.sun.time.extractLsb' 0 32)) y.preds with nowShadow := s.sun.time.extractLsb' 32 32 }) ∧
     (∃ v, exec (.timeNow x d true) s = .next v ∧ OnlyAct x.sp.val s v (went y 6 (withG y d y.nowShadow) y.preds))) ∧
   (∀ (x : Slot) (g : Fin 16) (s : State) (y : Activation), Runs x 2 4 s y → y.getP x.p = true →
     barrierBroken s g.val y.ti = false → ∃ v, exec (.bar x g) s = .next v ∧
       SMap.find v.core.acts x.sp.val = some { y with charged := y.charged + 4, wait := some (.barrier g.val) } ∧
       (∀ n, n ≠ x.sp.val → SMap.find v.core.acts n = SMap.find s.core.acts n) ∧
       v.core.barriers = (g.val, y.ti, y.task) :: s.core.barriers ∧
       v = { s with core := { s.core with acts := v.core.acts, barriers := v.core.barriers } }) ∧
   (∀ (t ti : Time) (g : Fin 16) (s : State), let u := advanceTo t s
     barrierFull u g.val ti = true → ∃ v, exec (.barrierResume t g ti) s = .next v ∧
       (∀ sp y, SMap.find u.core.acts sp = some y →
         SMap.find v.core.acts sp = some (if y.wait = some (.barrier g.val) ∧ y.ti = ti then
           { y with wait := none, passed := g.val :: y.passed, pc := y.pc + 1 } else y)) ∧
       (∀ sp, SMap.find u.core.acts sp = none → SMap.find v.core.acts sp = none) ∧
       (∀ e, e ∈ v.core.barriers ↔ e ∈ u.core.barriers ∧ ¬(e.1 = g.val ∧ e.2.1 = ti)) ∧
       v = { u with core := { u.core with acts := v.core.acts, barriers := v.core.barriers } })) ∧
  (∀ (t : Time) (sp : Fin 64) (d : GReg) (sel hd : Nat) (y : Activation) (g : SigHandle) (s : State), let u := advanceTo t s
     SMap.find u.core.acts sp.val = some y → y.wait = some (.signal d sel hd) → (declOf u y.task).sigs[hd]? = some g →
     SMap.find y.picked hd = none →
     (mustWait u y.task g.signal y.ti = true → ∃ v, exec (.sigWaitResume t sp) s = .next v ∧ OnlyAct sp.val u v y) ∧
     (mustWait u y.task g.signal y.ti = false → ∃ v p, exec (.sigWaitResume t sp) s = .next v ∧
       p = (readSignal (some y.task) g.signal g.fallback y.ti y.start u).1 ∧
       SMap.find v.core.acts sp.val = some { went y 0 (withG y d (p.pick sel)) y.preds with
         wait := none, picked := SMap.insert y.picked hd p } ∧
       (∀ n, n ≠ sp.val → SMap.find v.core.acts n = SMap.find u.core.acts n) ∧ v.core.tasks = u.core.tasks ∧
       v.core.sram = u.core.sram ∧ v.core.bobs = u.core.bobs ∧ v.sys = u.sys ∧ v.outs = u.outs))

/-- R83, R84, R99, R100, R129, R130: what sig.rd, sig.st and sig.age read: what the handle returned before in this activation; else, where
the signal's writer is behind, they wait; else the newest usable sample at or before ti, here one that is VALID and no older than its
signal's limit: its value, its status code, its age in ns.

R97, R98, R129: sig.wr by the declared writer puts a sample with STAMP = ti into the ring, the oldest leaving a full one; by any other
task it is discarded and counted in SIG_FOREIGN. -/
def Obligations.SignalsReadAndWritten : Prop :=
  (∀ (x : Slot) (d : GReg) (h : Byte) (ix : GReg) (s : State) (y : Activation) (g : SigHandle),
     let hd := h.toNat + (y.getG ix).toNat
     (declOf s y.task).sigs[hd]? = some g → y.getP x.p = true →
     ∀ e ∈ ([(.sigRd x d h ix, 1, 0), (.sigSt x d h ix, 1, 1), (.sigAge x d h ix, 2, 2)] : List (Instr × Nat × Nat)),
       Runs x e.2.1 20 s y →
       (∀ p, SMap.find y.picked hd = some p → ∃ v, exec e.1 s = .next v ∧
         OnlyAct x.sp.val s v (went y 20 (withG y d ([p.value, p.status, p.age].getD e.2.2 0)) y.preds)) ∧
       (SMap.find y.picked hd = none → mustWait s y.task g.signal y.ti = true → ∃ v, exec e.1 s = .next v ∧
         OnlyAct x.sp.val s v { y with charged := y.charged + 20, wait := some (.signal d e.2.2 hd) }) ∧
       (SMap.find y.picked hd = none → mustWait s y.task g.signal y.ti = false → ∀ q maxAge,
         (ring s g.signal).samples.find? (fun q => decide (q.stamp ≤ y.ti) &&
           usable (decide ((sigDecl (cop s) g.signal).map (·.writer) = some (.task y.task))) y.ti y.start q) = some q →
         q.status = .valid → (sigDecl (cop s) g.signal).map (·.maxAgeUs) = some maxAge →
         (maxAge = 0 ∨ y.ti.toNat ≤ q.stamp.toNat + maxAge * 1000) →
         let p : Picked := { value := q.value, status := 0, age := hold32 (y.ti.toNat - q.stamp.toNat) }
         ∃ v, exec e.1 s = .next v ∧
           SMap.find v.core.acts x.sp.val =
             some { went y 20 (withG y d ([p.value, p.status, p.age].getD e.2.2 0)) y.preds with picked := SMap.insert y.picked hd p } ∧
           (∀ n, n ≠ x.sp.val → SMap.find v.core.acts n = SMap.find s.core.acts n) ∧
           (∀ i, (ring v i).samples = (ring s i).samples ∧ (ring v i).lost = (ring s i).lost) ∧
           v = { s with core := { s.core with acts := v.core.acts, signals := v.core.signals } })) ∧
  (∀ (x : Slot) (ix a : GReg) (h : Byte) (st : BitVec 4) (s : State) (y : Activation) (g : SigHandle) (d : SigDecl),
     (declOf s y.task).sigs[h.toNat + (y.getG ix).toNat]? = some g → (st = 0 ∨ st = 4) → sigDecl (cop s) g.signal = some d →
     laneActive s = true → Runs x 1 12 s y → y.getP x.p = true →
     let q : Sample := { value := y.getG a, stamp := y.ti, status := if st = 0 then .valid else .substituted, landed := s.sun.time, spin := true }
     (d.writer = .task y.task → (∀ o ∈ (ring s g.signal).samples, o.stamp < y.ti) →
       (ring s g.signal).samples.length ≤ d.depth → 0 < d.depth →
       ∃ v, exec (.sigWr x ix h st a) s = .next v ∧
         (ring v g.signal).samples = (q :: (ring s g.signal).samples).take d.depth ∧
         (∀ i, i ≠ g.signal → ring v i = ring s i) ∧ SMap.find v.core.acts x.sp.val = some (went y 12 y.regs y.preds) ∧
         (∀ n, n ≠ x.sp.val → SMap.find v.core.acts n = SMap.find s.core.acts n) ∧
         v = { s with core := { s.core with acts := v.core.acts, signals := v.core.signals } }) ∧
     (d.writer ≠ .task y.task → ∃ v, exec (.sigWr x ix h st a) s = .next v ∧
       counter v 0x00080020 0 = (counter s 0x00080020 0).inc.1 ∧ SMap.find v.core.acts x.sp.val = some (went y 12 y.regs y.preds) ∧
       v = { s with core := { s.core with acts := v.core.acts }, counters := v.counters, skein := v.skein, upd := v.upd }))

/-- R98, R83: landing a sample keeps a ring sorted by falling STAMP, one sample to a STAMP, and within its depth. -/
def Obligations.RingsStaySorted : Prop :=
  ∀ (depth : Nat) (x : Sample) (r : SigRing), 0 < depth → r.samples.Pairwise (fun a b => b.stamp < a.stamp) →
    r.samples.length ≤ depth →
    ((r.land depth x).1.samples.Pairwise fun a b => b.stamp < a.stamp) ∧ (r.land depth x).1.samples.length ≤ depth ∧
      ((r.land depth x).2 = false → x ∈ (r.land depth x).1.samples) ∧
      (∀ o ∈ r.samples, o.stamp ≠ x.stamp → o ∈ (r.land depth x).1.samples ∨ ∃ l, (r.land depth x).1.lost = some l ∧ l ≤ o.stamp)

/-- R102 to R106, R131, R132: bob.push offers an entry with STAMP = ti, placed at the end, or dropped and counted; bob.pop takes the head
entry and stores its first bytes; bob.peek reads the head's descriptor; an empty Bobbin gives 0xFFFF_FFFF. The oldest held entry is placed once
it fits. -/
def Obligations.BobbinsPass : Prop :=
  (∀ (x : Slot) (d : PReg) (b : Fin 16) (addr len : GReg) (s : State) (y : Activation) (n : Nat) (dl : BobDecl),
    let k := (y.getG len).toNat
    let e : BobEntry :=
      { stamp := y.ti, seq := (bob s n).seq, aux := 0, bytes := readBytes s x.sp.val (y.getG addr).toNat k }
    (declOf s y.task).bobs[b.val]? = some n → bobDecl s n = some dl → laneActive s = true → s.lanes.gate = true →
    k ≤ 1408 →
    (k = 0 ∨ mayWrite (declOf s y.task) (y.getG addr).toNat k = true) → Runs x 1 100 s y → y.getP x.p = true → (bob s n).held = [] →
    (∀ q, (bob s n).place dl.size e = some q → ∃ v, exec (.bobPush x d b addr len) s = .next v ∧
      bob v n = { q with seq := (bob s n).seq + 1 } ∧ q.entries.map (·.2) = (bob s n).entries.map (·.2) ++ [e] ∧
      (∀ m, m ≠ n → bob v m = bob s m) ∧
      SMap.find v.core.acts x.sp.val = some (went y 100 y.regs (withP y d true)) ∧
      v = { s with core := { s.core with acts := v.core.acts, bobs := v.core.bobs } }) ∧
    ((bob s n).place dl.size e = none → dl.dropNew = true → ∃ v, exec (.bobPush x d b addr len) s = .next v ∧
      bob v n = { bob s n with seq := (bob s n).seq + 1 } ∧ counter v 0x001D0018 n = (counter s 0x001D0018 n).inc.1 ∧
      SMap.find v.core.acts x.sp.val = some (went y 100 y.regs (withP y d false)) ∧ v.core.sram = s.core.sram) ∧
    ((bob s n).place dl.size e = none → dl.dropNew = false → ∃ v, exec (.bobPush x d b addr len) s = .next v ∧
      bob v n = { bob s n with seq := (bob s n).seq + 1, held := [e] } ∧
      counter v 0x001D001C n = (counter s 0x001D001C n).inc.1 ∧
      SMap.find v.core.acts x.sp.val = some (went y 100 y.regs (withP y d false)) ∧ v.core.sram = s.core.sram)) ∧
  (∀ (x : Slot) (d : GReg) (b : Fin 16) (addr len : GReg) (s : State) (y : Activation) (n : Nat),
    let at_ := (y.getG addr).toNat
    let k := (y.getG len).toNat
    (declOf s y.task).bobs[b.val]? = some n → (k = 0 ∨ mayWrite (declOf s y.task) at_ k = true) → Runs x 1 110 s y →
    y.getP x.p = true →
    ((bob s n).entries = [] → ∃ v, exec (.bobPop x d b addr len) s = .next v ∧
      OnlyAct x.sp.val s v (went y 110 (withG y d 0xFFFFFFFF) y.preds)) ∧
    (∀ o e r, (bob s n).entries = (o, e) :: r → ∃ v, exec (.bobPop x d b addr len) s = .next v ∧
      (bob v n).entries = r ∧ (∀ m, m ≠ n → bob v m = bob s m) ∧
      SMap.find v.core.acts x.sp.val = some (went y 110 (withG y d (BitVec.ofNat 32 e.bytes.length)) y.preds) ∧
      (∀ i (hi : i < e.bytes.length), i < k → readByte v x.sp.val (at_ + i) = e.bytes[i]) ∧
      (∀ sp a, (∀ i, i < k → i < e.bytes.length → memKey sp a ≠ memKey x.sp.val (at_ + i)) → readByte v sp a = readByte s sp a) ∧
      v = { s with core := { s.core with
        acts := v.core.acts, bobs := v.core.bobs, sram := v.core.sram, tasks := v.core.tasks } })) ∧
  (∀ (x : Slot) (d : GReg) (b : Fin 16) (sel : BitVec 5) (s : State) (y : Activation) (n : Nat),
    (declOf s y.task).bobs[b.val]? = some n → sel.toNat ≤ 4 → Runs x 1 10 s y → y.getP x.p = true →
    ((bob s n).entries = [] → ∃ v, exec (.bobPeek x d b sel) s = .next v ∧
      OnlyAct x.sp.val s v (went y 10 (withG y d 0xFFFFFFFF) y.preds)) ∧
    (∀ o e r, (bob s n).entries = (o, e) :: r → ∃ v, exec (.bobPeek x d b sel) s = .next v ∧
      OnlyAct x.sp.val s v (went y 10 (withG y d ([BitVec.ofNat 32 e.bytes.length, e.seq.zeroExtend 32, e.aux.zeroExtend 32,
        e.stamp.extractLsb' 0 32, e.stamp.extractLsb' 32 32].getD sel.toNat 0)) y.preds))) ∧
  (∀ (t : Time) (n : Nat) (s : State), let u := advanceTo t s
    ∀ dl e r q, bobDecl u n = some dl → (bob u n).held = e :: r → { bob u n with held := r }.place dl.size e = some q →
      ∃ v, exec (.bobbinWaitResume t n) s = .next v ∧ bob v n = q ∧ q.held = r ∧
        q.entries.map (·.2) = (bob u n).entries.map (·.2) ++ [e] ∧ v = { u with core := { u.core with bobs := v.core.bobs } })

/-- R133, R134, R141, R145, R157: law.in stages one input of the loop its handle names; law.step of a loop that stands alone in AUTO, without
a table and without a pending initialisation, gives u = the rate-limited and clamped v, with back-calculation, one binary32 operation at a
time; law.out reads a result. -/
def Obligations.LawUnitsRun : Prop :=
  ∀ (x : Slot) (l : BitVec 6) (s : State) (y : Activation) (d : LoopDecl), handleLoop s y l.toNat = some d → y.getP x.p = true →
    let k := loopKey d.unit d.loop
    let st := loopSt s k
    (∀ (sel : BitVec 4) (a : GReg), let v := y.getG a
      sel.toNat ≤ 7 → Runs x 1 2 s y → ∃ w, exec (.lawIn x l sel a) s = .next w ∧
        loopSt w k = [{ st with sp := v }, { st with pv := v }, { st with ff := v }, { st with man := v }, { st with mode := v },
          { st with trk := v }, { st with ulim := v }, { st with llim := v }].getD sel.toNat st ∧
        (∀ j, j ≠ k → loopSt w j = loopSt s j) ∧ SMap.find w.core.acts x.sp.val = some (went y 2 y.regs y.preds) ∧
        w = { s with core := { s.core with acts := w.core.acts, loops := w.core.loops } }) ∧
    (∀ (sel : BitVec 4) (g : GReg), sel.toNat ≤ 4 → Runs x 1 2 s y → ∃ w, exec (.lawOut x g l sel) s = .next w ∧
      OnlyAct x.sp.val s w (went y 2 (withG y g ([if d.nest = .outer then (loopSt s (loopKey d.unit d.link)).u else st.u,
        st.e, st.i, st.rc, st.flags].getD sel.toNat 0)) y.preds)) ∧
    (Runs x 1 (48 + 100 * ((bound (cop s) d.unit).length - 1)) s y → d.nest = .single → d.rcEn = false → st.mode = 0 → st.init = none →
      let hi := fmin d.outHi st.ulim
      let lo := fmax d.outLo st.llim
      let e := fsub st.sp st.pv
      let ed := fsub (fmul d.c st.sp) st.pv
      let dd := if hasD d then fadd (fmul (ad d) st.d) (fmul (bd d) (fsub ed st.edPrev)) else st.d
      let va := fadd (fadd (fadd (fadd (fmul d.kp (fsub (fmul d.b st.sp) st.pv)) st.i) dd) st.ff) 0
      let un := fmin (fmax (fmin (fmax va (fsub st.u (rstep d))) (fadd st.u (rstep d))) lo) hi
      flt hi lo = false → isNan st.sp = false → isNan st.pv = false → isNan st.ff = false → isNan va = false →
      ∃ w, exec (.lawStep x l) s = .next w ∧ (loopSt w k).u = un ∧ (loopSt w k).va = va ∧ (loopSt w k).e = e ∧ (loopSt w k).d = dd ∧
        (loopSt w k).edPrev = ed ∧ (loopSt w k).rc = 0 ∧
        (loopSt w k).i = (if hasI d then fadd (fadd st.i (fmul d.kiH e)) (fmul d.ktH (fsub un va)) else st.i) ∧
        (∀ j, j ≠ k → loopSt w j = loopSt s j) ∧
        SMap.find w.core.acts x.sp.val = some (went y (48 + 100 * ((bound (cop s) d.unit).length - 1)) y.regs y.preds) ∧
        w = { s with core := { s.core with acts := w.core.acts, loops := w.core.loops, loadBusy := w.core.loadBusy } })

/-- R24, R135, R272: an output instruction of a lane that does not drive, and has not just been armed, changes no output. Of one that drives:
out.sw off switches an unlatched load switch off and returns its claim; out.sw on, where nothing stands against it, switches it on; out.pwm
stores its duty; REL turns a solenoid channel off. -/
def Obligations.OutputsObeyLanes : Prop :=
  ∀ (x : Slot) (h : BitVec 6) (a : GReg) (s : State) (y : Activation) (c : Chan),
    (declOf s y.task).outs[h.toNat]? = some c → Runs x 1 8 s y → y.getP x.p = true →
    (drives s = false → recordsOnly s = false →
      ∀ i ∈ ([.outSw x h a, .outPwm x h a, .outSolCur x h a, .outSolProf x h a, .outSolRel x h] : List Instr),
        ∃ v, exec i s = .next v ∧ OnlyAct x.sp.val s v (went y 8 y.regs y.preds)) ∧
    (drives s = true → ∀ n, c = .lsw n →
      (y.getG a = 0 → lswWaiting (lsw s n) = false → ∃ v, exec (.outSw x h a) s = .next v ∧
        (lsw v n).on = false ∧ (lsw v n).cmd = false ∧ (lsw v n).pin = false ∧ holds v (n / 12) (.chan (.lsw n)) = false ∧
        waits v (n / 12) (.chan (.lsw n)) = false ∧ (∀ m, m ≠ n → lsw v m = lsw s m) ∧
        v = { s with core := { s.core with acts := v.core.acts }, outs := v.outs, tally := v.tally }) ∧
      (y.getG a ≠ 0 → ∀ d, chanDecl s (.lsw n) = some d → lswWaiting (lsw s n) = false → (lsw s n).on = false →
        bankDown s (n / 12) = false → (ledger s (n / 12)).queue = [] → fits s (n / 12) (lswClaim d) = true →
        ∃ v, exec (.outSw x h a) s = .next v ∧ (lsw v n).on = true ∧ (lsw v n).cmd = true ∧ (lsw v n).pin = true ∧
          holds v (n / 12) (.chan (.lsw n)) = true ∧ (∀ m, m ≠ n → lsw v m = lsw s m) ∧
          v = { s with core := { s.core with acts := v.core.acts }, outs := v.outs, tally := v.tally }) ∧
      (∀ d, chanDecl s (.lsw n) = some d → (lsw s n).on = true →
        ∃ v, exec (.outPwm x h a) s = .next v ∧ (lsw v n).duty = dutyOf (y.getG a) ∧ (lsw v n).on = true ∧
          (lsw v n).applied = (lsw s n).applied ∧ (∀ m, m ≠ n → lsw v m = lsw s m) ∧
          v = { s with core := { s.core with acts := v.core.acts }, outs := v.outs, tally := v.tally })) ∧
    (drives s = true → ∀ n d, n < 32 → c = .sol n → chanDecl s (.sol n) = some d → (sol s n).trip = false → (sol s n).hstrip = false →
      groupDown s n = false →
      ((sol s n).phase = .cur → ∃ v, exec (.outSolCur x h a) s = .next v ∧
        (sol v n).nextSet = some (min (milliAmps (y.getG a)) d.iHold) ∧ (sol v n).phase = .cur ∧
        (sol v n).setpoint = (sol s n).setpoint ∧ (∀ m, m ≠ n → sol v m = sol s m) ∧
        v = { s with core := { s.core with acts := v.core.acts }, outs := v.outs }) ∧
      (profileRuns (sol s n) = true → ∃ v, exec (.outSolProf x h a) s = .next v ∧ sol v n = sol s n ∧
        counter v 0x00060018 n = (counter s 0x00060018 n).inc.1 ∧ v.outs = s.outs ∧ v.tally = s.tally) ∧
      (profileRuns (sol s n) = false → (y.getG a).toNat < 16 → ∀ p, profileOf s (y.getG a).toNat = some p →
        (sol s n).phase = .off → groupFree s (n / 4) = true → (ledger s (n / 8)).queue = [] →
        fits s (n / 8) (solPeakClaim d) = true →
        ∃ v, exec (.outSolProf x h a) s = .next v ∧ (sol v n).phase = .rise ∧ (sol v n).peak = min p.peak d.iPeak ∧
          (sol v n).admittedAt = s.sun.time ∧ bit v.outs.busy (n / 4) = true ∧ holds v (n / 8) (.chan (.sol n)) = true) ∧
      ((sol s n).phase = .cur → (SMap.get s.outs.groupQ [] (n / 4)) = [] → ∃ v, exec (.outSolRel x h) s = .next v ∧
        (sol v n).phase = .off ∧ (sol v n).setpoint = 0 ∧ holds v (n / 8) (.chan (.sol n)) = false ∧
        (∀ m, m ≠ n → sol v m = sol s m)))

/-- R80, R81, R86, R87: a release. At a grid instant a running lane releases a PERIODIC task, once; an ARRIVAL task is released for its
Bobbin's next entry, with its STAMP as ti; a sixteenth pending release is dropped and counted in SPN_RELEASE_LOST. At or after boundary B of a pause or a
handover the lane makes no release (R386, R387).

R73, R78, R82, R90: a free Spindle starts its ready activation of highest PRIORITY: cleared registers, predicates and scratch, the pc at
ENTRY, 40 cycles and one per 64 B of scratch charged, ti the release's. The bytes outside the scratch region keep their values. -/
def Obligations.TasksRun : Prop :=
  ((∀ (t : Time) (n : Nat) (d : TaskDecl) (s : State), let u := advanceTo t s
     let x := taskOf u n
     taskDecl u n = some d → running u = true → u.upd.boundary = none → x.stopped = false → d.arrival = false →
     u.sun.time.toNat % (d.period * 100000) = d.offset * 100000 → x.lastRelease ≠ some u.sun.time →
     (x.pending.length < 15 → ∃ v, exec (.taskReleasePeriodic t n) s = .next v ∧
       taskOf v n = { x with pending := x.pending ++ [(u.sun.time, u.sun.time)], lastRelease := some u.sun.time } ∧
       (∀ m, m ≠ n → taskOf v m = taskOf u m) ∧ v = { u with core := { u.core with tasks := v.core.tasks } }) ∧
     (15 ≤ x.pending.length → ∃ v, exec (.taskReleasePeriodic t n) s = .next v ∧
       taskOf v n = { x with lastRelease := some u.sun.time, outside := true } ∧
       counter v 0x00080014 0 = (counter u 0x00080014 0).inc.1 ∧ (∀ m, m ≠ n → taskOf v m = taskOf u m) ∧
       v = { u with core := { u.core with tasks := v.core.tasks }, counters := v.counters, skein := v.skein, upd := v.upd })) ∧
   (∀ (t : Time) (n : Nat) (d : TaskDecl) (e : BobEntry) (o : Nat) (s : State), let u := advanceTo t s
     let x := taskOf u n
     taskDecl u n = some d → running u = true → u.upd.boundary = none → x.stopped = false → d.arrival = true →
     (∀ l, x.lastRelease = some l → l.toNat + d.spacingUs * 1000 ≤ u.sun.time.toNat) →
     (bob u d.bobbin).entries[(x.entries.filter (·.2)).length]? = some (o, e) → x.pending.length < 15 →
     ∃ v, exec (.taskReleaseArrival t n) s = .next v ∧
       taskOf v n = { x with
         pending := x.pending ++ [(e.stamp, u.sun.time)], lastRelease := some u.sun.time, entries := x.entries ++ [(true, true)] } ∧
       (∀ m, m ≠ n → taskOf v m = taskOf u m) ∧ v = { u with core := { u.core with tasks := v.core.tasks } }) ∧
   (∀ (t : Time) (n : Nat) (s : State), let u := advanceTo t s
     u.upd.boundary ≠ none →
       exec (.taskReleasePeriodic t n) s = .next u ∧ exec (.taskReleaseArrival t n) s = .next u)) ∧
  (∀ (t : Time) (sp : Fin 64) (n : Nat) (d : TaskDecl) (ti start : Time) (s : State), let u := advanceTo t s
     running u = true → SMap.find u.core.acts sp.val = none → readyTask u sp.val = some (n, d, ti, start) →
     ∃ v, exec (.activationStart t sp) s = .next v ∧
       SMap.find v.core.acts sp.val = some
         { task := n, ti := ti, start := start, regs := Vector.replicate 32 0, preds := Vector.replicate 8 false
           pc := BitVec.ofNat 14 d.entry, charged := 40 + (d.scratchSize + 63) / 64 } ∧
       (∀ m, m ≠ sp.val → SMap.find v.core.acts m = SMap.find u.core.acts m) ∧
       (∀ i, i < d.scratchSize → readByte v sp.val (d.scratchBase + i) = 0) ∧
       (∀ q a, (∀ i, i < d.scratchSize → memKey q a ≠ memKey sp.val (d.scratchBase + i)) → readByte v q a = readByte u q a) ∧
       v = { u with core := { u.core with acts := v.core.acts, sram := v.core.sram }
                    spool := { u.spool with saved := v.spool.saved } })

/-- R82: which activation is ready first: among the oldest releases of a Spindle's tasks whose start instant has come, none has a higher
PRIORITY (a lower number) than the one chosen. -/
def Obligations.HighestPriorityStarts : Prop :=
  ∀ (s : State) (sp n : Nat) (d : TaskDecl) (ti start : Time), readyTask s sp = some (n, d, ti, start) →
    taskDecl s n = some d ∧ d.spindle = sp ∧ start ≤ s.sun.time ∧
    (∃ r rest, (taskOf s n).pending = r :: rest ∧ ti = r.1 ∧ start = startInstant d r) ∧
    ∀ m dm r rest, taskDecl s m = some dm → dm.spindle = sp → (taskOf s m).pending = r :: rest → startInstant dm r ≤ s.sun.time →
      d.priority ≤ dm.priority

/-- R255 to R260: the Tally's queue. Its head is admitted once every check holds; a load switch's claim that has waited TALLY_WAIT_MAX, and a
solenoid channel's after DEFER_MAX, is refused and counted; a transient that has ended leaves only its steady part; a VBAT claim that has
waited more than 1 s is warned of once. -/
def Obligations.TallyQueuesMove : Prop :=
  (∀ (t : Time) (k : Fin 5) (q : Queued) (r : List Queued) (s : State), let u := advanceTo t s
    (ledger u k.val).queue = q :: r →
    (fits u k.val q.claim = false → exec (.tallyQueueAdmit t k) s = .next u) ∧
    (fits u k.val q.claim = true → ∃ v, exec (.tallyQueueAdmit t k) s = .next v ∧ (ledger v k.val).queue = r ∧
      holds v k.val q.claim.owner = true ∧ (∀ n, q.claim.owner = .chan (.lsw n) → (lsw v n).on = true ∧ (lsw v n).pin = true) ∧
      (∀ j, j ≠ k.val → ledger v j = ledger u j) ∧ v.sys = u.sys ∧ v.store = u.store ∧ v.sun = u.sun)) ∧
  (∀ (t : Time) (k : Fin 5) (n : Nat) (q : Queued) (s : State), let u := advanceTo t s
    (ledger u k.val).queue.find? (fun q => decide (q.claim.owner = .chan (.lsw n))) = some q →
    q.since.toNat + max u.tally.inWait.toNat 1 * 1000000 ≤ u.sun.time.toNat →
    ∃ v, exec (.tallyClaimRefused t k (.lsw n)) s = .next v ∧ waits v k.val (.chan (.lsw n)) = false ∧
      counter v 0x00040044 0 = (counter u 0x00040044 0).inc.1 ∧ lsw v n = { lsw u n with restartDue := false } ∧
      (∀ m, m ≠ n → lsw v m = lsw u m) ∧ (∀ j, j ≠ k.val → ledger v j = ledger u j) ∧
      (ledger v k.val).admitted = (ledger u k.val).admitted ∧ v.core = u.core ∧ v.sys = u.sys) ∧
  (∀ (t : Time) (k : Fin 5) (i : Nat) (a : Admitted) (s : State), let u := advanceTo t s
    (ledger u k.val).admitted[i]? = some a → a.transient = true → a.since.toNat + a.claim.tNs ≤ u.sun.time.toNat →
    ∃ v, exec (.tallyTransientEnd t k i) s = .next v ∧
      (ledger v k.val).admitted = ((ledger u k.val).admitted.set i { a with transient := false }).filter
        (fun b => !(decide (b.claim.c = 0) && decide (b.claim.rest = 0) && !b.transient)) ∧
      (ledger v k.val).queue = (ledger u k.val).queue ∧ (∀ j, j ≠ k.val → ledger v j = ledger u j) ∧ v = { u with tally := v.tally }) ∧
  (∀ (t : Time) (i : Nat) (q : Queued) (s : State), let u := advanceTo t s
    (ledger u 4).queue[i]? = some q → q.warned = false → q.since.toNat + 1000000000 < u.sun.time.toNat →
    ∃ v, exec (.vbatClaimWaitWarn t i) s = .next v ∧ (ledger v 4).queue = (ledger u 4).queue.set i { q with warned := true } ∧
      (∃ r ∈ v.skein.raised, r.sev = .warning ∧ r.source = 4) ∧ v = { u with tally := v.tally, skein := v.skein, upd := v.upd })

/-- R253, R261: what an admission keeps: a claim fits only where, with it, the supply's continuous sum stays within CONT_LIMIT, its
instantaneous sum within PEAK_LIMIT, and all continuous sums within the total; nothing fits during hold-up, nor while LKO has failed.

R268 to R273: a load switch's protection. The limit engages on a conducting channel that reaches it; 150 µs later it trips: off, counted, and a back-off
of 100 ms × 2^n, or EXHAUSTED; the thermal latch switches off without a retry and ends where the die has cooled; the back-off ends at its
deadline of SYS_ON_TIME. LSW_CLEAR forgets retries, back-off and EXHAUSTED. -/
def Obligations.LoadsAreProtected : Prop :=
  (∀ (s : State) (k : Nat) (c : Claim), fits s k c = true →
     let sumOf := fun (f : Admitted → Nat) => ((withClaim s k c).map f).sum
     s.sys.holdupRun = false ∧ s.clock.lkoFail = false ∧
     (k = 4 → sumOf (fun a => if a.transient then a.claim.x else a.claim.rest) ≤ 5000) ∧
     (k < 4 →
       sumOf (fun a => if a.transient then a.claim.x else a.claim.rest) ≤ ((limitWord s k).extractLsb' 12 12).toNat * 100 ∧
       sumOf (contOf (peakTimeNs s k)) ≤ ((limitWord s k).extractLsb' 0 12).toNat * 100 ∧
       sumOf (contOf (peakTimeNs s k)) + contOthers s k ≤ s.tally.inTotal.toNat * 100)) ∧
  ((∀ (t : Time) (n : Fin 48) (i : BitVec 16) (s : State), let u := advanceTo t s
     (lsw u n.val).on = true → lswLimit n.val ≤ 10 * i.toNat → ∃ v, exec (.lswLimitEngage t n i) s = .next v ∧
       lsw v n.val = { lsw u n.val with
         limit := some u.sun.time, current := BitVec.ofNat 16 (Nat.min i.toNat (lswLimitMax n.val / 10)) } ∧ (∀ m, m ≠ n.val → lsw v m = lsw u m) ∧
       v = { u with outs := v.outs }) ∧
   (∀ (t l : Time) (n : Fin 48) (s : State), let u := advanceTo t s
     let c := retryCount u (lsw u n.val)
     (lsw u n.val).limit = some l → l.toNat + 150000 ≤ u.sun.time.toNat →
     ∃ v, exec (.lswTrip t n) s = .next v ∧ (lsw v n.val).on = false ∧ (lsw v n.val).trip = true ∧ (lsw v n.val).limit = none ∧
       counter v 0x00050014 n.val = (counter u 0x00050014 n.val).inc.1 ∧ holds v (n.val / 12) (.chan (.lsw n.val)) = false ∧
       (c < retryMax u n.val → (lsw v n.val).exh = (lsw u n.val).exh ∧
         (lsw v n.val).backoff = some (u.sys.onTime + BitVec.ofNat 64 (100000 * 2 ^ c))) ∧
       (retryMax u n.val ≤ c → (lsw v n.val).exh = true ∧ (lsw v n.val).backoff = none) ∧
       (∀ m, m ≠ n.val → lsw v m = lsw u m) ∧ v.core = u.core ∧ v.sys = u.sys) ∧
   (∀ (t : Time) (n : Fin 48) (s : State), let u := advanceTo t s
     ((lsw u n.val).therm = false → ∃ v, exec (.lswThermalLatch t n) s = .next v ∧ (lsw v n.val).on = false ∧ (lsw v n.val).therm = true ∧
       (lsw v n.val).retries = (lsw u n.val).retries ∧ (lsw v n.val).trip = (lsw u n.val).trip ∧
       holds v (n.val / 12) (.chan (.lsw n.val)) = false ∧ (∀ m, m ≠ n.val → lsw v m = lsw u m) ∧ v.core = u.core ∧ v.sys = u.sys) ∧
     ((lsw u n.val).therm = true → (lsw u n.val).exh = false → (lsw u n.val).backoff = none → (lsw u n.val).cmd = false →
       retryCount u (lsw u n.val) < retryMax u n.val → ∃ v, exec (.lswThermalRelease t n) s = .next v ∧
         lsw v n.val = { lsw u n.val with therm := false, tj := 2240 } ∧ (∀ m, m ≠ n.val → lsw v m = lsw u m) ∧
         v = { u with outs := v.outs }) ∧
     (∀ b, (lsw u n.val).backoff = some b → b.toNat ≤ u.sys.onTime.toNat → (lsw u n.val).exh = false → (lsw u n.val).therm = false →
       (lsw u n.val).cmd = false → ∃ v, exec (.lswBackoffEnd t n) s = .next v ∧
         lsw v n.val = { lsw u n.val with backoff := none, trip := false } ∧ (∀ m, m ≠ n.val → lsw v m = lsw u m) ∧
         v = { u with outs := v.outs }) ∧
     (∀ b d, (lsw u n.val).backoff = some b → b.toNat ≤ u.sys.onTime.toNat → (lsw u n.val).exh = false → (lsw u n.val).therm = false →
       (lsw u n.val).cmd = true → (lsw u n.val).on = false → retryCount u (lsw u n.val) < retryMax u n.val →
       chanDecl u (.lsw n.val) = some d → bankDown u (n.val / 12) = false → (ledger u (n.val / 12)).queue = [] →
       fits u (n.val / 12) (lswClaim d) = true → ∃ v, exec (.lswBackoffEnd t n) s = .next v ∧ (lsw v n.val).on = true ∧
         (lsw v n.val).backoff = none ∧ (lsw v n.val).retries.head? = some u.sys.onTime ∧
         holds v (n.val / 12) (.chan (.lsw n.val)) = true ∧ (∀ m, m ≠ n.val → lsw v m = lsw u m))))

/-- R276, R278, R283, R293: a PWM period starts: a load switch applies its commanded duty, or at a duty of 0 switches off; a solenoid channel
shows its mean current and takes a new set-point, or of a qualifying period new calibration. A held channel that no lane has driven for
20 ms settles.

R274, R275, R296, R412, R416: banks and the power ground. Under-voltage, over-voltage and a PGND offset switch their channels off and are
shown; the ends of them clear what was shown, and a bank that stays off for the other cause restarts nothing.

R277: a DIR input's level is shown, and a mapped channel in the hold under limp drive follows it; no other load switch changes. -/
def Obligations.BanksAndPins : Prop :=
  ((∀ (t : Time) (n : Nat) (i : BitVec 16) (cal : Option (BitVec 16)) (d : OutDecl) (s : State), let u := advanceTo t s
     chanDecl u (.lsw n) = some d → d.pwm = true → (lsw u n).on = true → (lsw u n).src ≠ .held → periodStart u d.freq 0 = true →
     ((lsw u n).duty ≠ 0 → ∃ v, exec (.pwmPeriodStart t (.lsw n) i cal) s = .next v ∧
       lsw v n = { lsw u n with applied := (lsw u n).duty, current := i } ∧ (∀ m, m ≠ n → lsw v m = lsw u m) ∧ v = { u with outs := v.outs }) ∧
     ((lsw u n).duty = 0 → ∃ v, exec (.pwmPeriodStart t (.lsw n) i cal) s = .next v ∧ (lsw v n).on = false ∧
       holds v (n / 12) (.chan (.lsw n)) = false ∧ (∀ m, m ≠ n → lsw v m = lsw u m) ∧ v = { u with outs := v.outs, tally := v.tally })) ∧
   (∀ (t : Time) (n : Nat) (d : OutDecl) (i : BitVec 16) (g : BitVec 16) (s : State), let u := advanceTo t s
     chanDecl u (.sol n) = some d → periodStart u d.freq (n % 4) = true → (sol u n).phase = .cur →
     (∀ x, (sol u n).nextSet = some x → x ≠ 0 → ∀ c, ∃ v, exec (.pwmPeriodStart t (.sol n) i c) s = .next v ∧
       sol v n = { sol u n with
         measured := i, calWait := (sol u n).calWait - 1, setpoint := x, nextSet := none, since := u.sun.time } ∧
       (∀ m, m ≠ n → sol v m = sol u m) ∧ v = { u with outs := v.outs }) ∧
     ((sol u n).setpoint ≠ 0 → calQualifies u n = true → ∃ v, exec (.pwmPeriodStart t (.sol n) i (some g)) s = .next v ∧
       sol v n = { sol u n with measured := i, gain := g, calAt := some u.sun.time, calold := false, calWait := 63 } ∧
       (∀ m, m ≠ n → sol v m = sol u m) ∧ v = { u with outs := v.outs })) ∧
   (∀ (t q : Time) (n : Fin 48) (d : OutDecl) (s : State), let u := advanceTo t s
     u.outs.laneQuiet = some q → chanDecl u (.lsw n.val) = some d → d.pwm = true → (lsw u n.val).on = true →
     (lsw u n.val).src = .held → periodStart u d.freq 0 = true → q.toNat + 20000000 < u.sun.time.toNat →
     ((512 ≤ (lsw u n.val).duty.toNat ∧ d.dutyMax = 0x7FFFFFFF) → ∃ v, exec (.pwmUndrivenSettle t n) s = .next v ∧
       lsw v n.val = { lsw u n.val with applied := 1024, src := .held, pin := true } ∧ v = { u with outs := v.outs }) ∧
     (¬(512 ≤ (lsw u n.val).duty.toNat ∧ d.dutyMax = 0x7FFFFFFF) → ∃ v, exec (.pwmUndrivenSettle t n) s = .next v ∧
       (lsw v n.val).on = false ∧ (lsw v n.val).src = .held ∧ holds v (n.val / 12) (.chan (.lsw n.val)) = false ∧
       v = { u with outs := v.outs, tally := v.tally }))) ∧
  ((∀ (t : Time) (b : Fin 4) (s : State), let u := advanceTo t s
     (bit u.outs.uv b.val = false → diesOn u = true → ∃ v, exec (.bankUndervoltage t b) s = .next v ∧ v.outs.uv = u.outs.uv ||| (1#4 <<< b.val) ∧
       (∀ i, i < 12 → (lsw v (12 * b.val + i)).on = false) ∧
       (∀ m, (m < 12 * b.val ∨ 12 * b.val + 12 ≤ m) → lsw v m = lsw u m) ∧
       counter v 0x0005002C 0 = (counter u 0x0005002C 0).inc.1 ∧ v.sys = u.sys ∧ v.store = u.store ∧ v.sun = u.sun) ∧
     ((bit u.outs.uv b.val = true ∨ diesOn u = false) → exec (.bankUndervoltage t b) s =
       .next { u with outs := { u.outs with stood := setBit u.outs.stood b.val false } }) ∧
     (bit u.sys.ov b.val = false → diesOn u = true → ∃ v, exec (.bankOvervoltage t b) s = .next v ∧
       v.sys = { u.sys with ov := u.sys.ov ||| (1#4 <<< b.val) } ∧ (∀ i, i < 12 → (lsw v (12 * b.val + i)).on = false) ∧
       (∀ m, (m < 12 * b.val ∨ 12 * b.val + 12 ≤ m) → lsw v m = lsw u m) ∧ v.store = u.store ∧ v.sun = u.sun) ∧
     (∀ x, bit u.outs.uv b.val = true → diesOn u = true → bit u.sys.ov b.val = true →
       ∃ v, exec (.bankUvRestart t b x) s = .next v ∧
       v.outs = { u.outs with
         vload := SMap.put u.outs.vload 0 b.val x, uv := u.outs.uv &&& ~~~(1#4 <<< b.val), stood := setBit u.outs.stood b.val true } ∧
       v = { u with outs := v.outs }) ∧
     (bit u.outs.uv b.val = true → bit u.sys.ov b.val = true → ∃ v, exec (.bankOvRestart t b) s = .next v ∧
       v = { u with sys := { u.sys with ov := u.sys.ov &&& ~~~(1#4 <<< b.val) } }) ∧
     (∀ x, bit u.outs.uv b.val = true → diesOn u = true → bit u.sys.ov b.val = false → ∃ v, exec (.bankUvRestart t b x) s = .next v ∧
       bit v.outs.uv b.val = false ∧ SMap.get v.outs.vload 0 b.val = x ∧ v.sys = u.sys ∧ v.store = u.store) ∧
     (bit u.outs.uv b.val = false → bit u.sys.ov b.val = true → ∃ v, exec (.bankOvRestart t b) s = .next v ∧
       v.sys = { u.sys with ov := u.sys.ov &&& ~~~(1#4 <<< b.val) } ∧ v.store = u.store)) ∧
   (∀ (t : Time) (s : State), let u := advanceTo t s
     (u.sys.pgnd = false → ∃ v, exec (.pgndFault t) s = .next v ∧ v.sys = { u.sys with pgnd := true } ∧
       (∀ n, n < 32 → (sol v n).phase = .off) ∧ (∃ r ∈ v.skein.raised, r.sev = .error ∧ r.source = 1 ∧ r.code = 0x60) ∧
       v.outs.lsw = u.outs.lsw ∧ v.store = u.store) ∧
     (u.sys.pgnd = true → ∃ v, exec (.pgndRecover t) s = .next v ∧ v.sys = { u.sys with pgnd := false } ∧ v.store = u.store ∧
       v.sun = u.sun))) ∧
  (∀ (t : Time) (n : Fin 16) (s : State), let u := advanceTo t s
     u.clock.lkoFail = false →
     (∃ v, exec (.dirInputHigh t n) s = .next v ∧ v.outs.dir = u.outs.dir ||| (1#16 <<< n.val) ∧
       (∀ m, limpChan u m = false → lsw v m = lsw u m) ∧
       (∀ m, m < 48 → limpChan u m = true → field (lsw u m).dirMap 3 0 = n.val → (lsw v m).cmd = true ∧ (lsw v m).src = .dir) ∧
       v.sys = u.sys ∧ v.store = u.store ∧ v.outs.sol = u.outs.sol) ∧
     (∃ v, exec (.dirInputLow100ms t n) s = .next v ∧ v.outs.dir = u.outs.dir &&& ~~~(1#16 <<< n.val) ∧
       (∀ m, limpChan u m = false → lsw v m = lsw u m) ∧
       (∀ m, m < 48 → limpChan u m = true → field (lsw u m).dirMap 3 0 = n.val →
         (lsw v m).cmd = false ∧ (lsw v m).on = false ∧ holds v (m / 12) (.chan (.lsw m)) = false) ∧
       v.sys = u.sys ∧ v.store = u.store ∧ v.outs.sol = u.outs.sol))

/-- R286, R289 to R297: a solenoid profile runs through RISE, PEAK, FALL and HOLD, each left by its own event and never before its time; a rise
that takes too long, a trip and a deferral that takes too long end it; a NEUTRAL ramp ends at 0 A. -/
def Obligations.ProfilesRun : Prop :=
  ∀ (t : Time) (n : Fin 32) (s : State), let u := advanceTo t s
    let x := sol u n.val
    ((x.phase = .rise → ∃ v, exec (.solRiseDone t n) s = .next v ∧ (sol v n.val).phase = .peak ∧ (sol v n.val).since = u.sun.time ∧
      (∀ m, m ≠ n.val → sol v m = sol u m) ∧ v.tally = u.tally) ∧
    (∀ p, x.phase = .rise → profileOf u x.profile.toNat = some p → p.detect = true → x.moved = false →
      ∃ v, exec (.solArmatureMove t n) s = .next v ∧ sol v n.val = { x with
        moved := true, move := BitVec.ofNat 16 ((u.sun.time.toNat - x.admittedAt.toNat) / 1000) } ∧ v = { u with outs := v.outs }) ∧
    (∀ p, x.phase = .rise → profileOf u x.profile.toNat = some p → x.admittedAt.toNat + p.riseMaxUs * 1000 ≤ u.sun.time.toNat →
      p.riseMaxUs * 1000 < x.peakNs →
      ∃ v, exec (.solRiseTimeout t n) s = .next v ∧ (sol v n.val).phase = .off ∧ (sol v n.val).norise = true ∧
        (sol v n.val).setpoint = 0 ∧ (∃ r ∈ v.skein.raised, r.sev = .error ∧ r.source = 6)) ∧
    ((x.phase = .rise ∨ x.phase = .peak) →
      (x.phase = .rise → ∀ p, profileOf u x.profile.toNat = some p → x.peakNs ≤ p.riseMaxUs * 1000) →
      x.admittedAt.toNat + x.peakNs ≤ u.sun.time.toNat → SMap.get u.outs.groupQ [] (n.val / 4) = [] →
      ∃ v, exec (.solPeakEnd t n) s = .next v ∧ (sol v n.val).phase = .fall ∧ (sol v n.val).setpoint = x.holdMa ∧
        bit v.outs.busy (n.val / 4) = false ∧ (∀ m, m ≠ n.val → sol v m = sol u m) ∧ v.tally = u.tally) ∧
    ((x.phase = .rise ∨ x.phase = .peak) → u.sun.time.toNat < x.admittedAt.toNat + x.peakNs → exec (.solPeakEnd t n) s = .next u) ∧
    (∀ p, x.phase = .fall → profileOf u x.profile.toNat = some p →
      (∃ v, exec (.solFallDone t n) s = .next v ∧ (sol v n.val).phase = (if p.tHoldMs = 0 then .cur else .hold) ∧
        (sol v n.val).setpoint = x.holdMa ∧ (∀ m, m ≠ n.val → sol v m = sol u m) ∧ v = { u with outs := v.outs }) ∧
      (x.since.toNat + p.tFallMaxUs * 1000 ≤ u.sun.time.toNat → ∃ v, exec (.solFallTimeout t n) s = .next v ∧
        (sol v n.val).phase = (if p.tHoldMs = 0 then .cur else .hold) ∧ (sol v n.val).setpoint = x.holdMa ∧
        (∃ r ∈ v.skein.raised, r.sev = .warning ∧ r.source = 6) ∧ v.tally = u.tally)) ∧
    (∀ p, x.phase = .hold → profileOf u x.profile.toNat = some p → x.since.toNat + p.tHoldMs * 1000000 ≤ u.sun.time.toNat →
      (p.stay = true → ∃ v, exec (.solHoldEnd t n) s = .next v ∧ sol v n.val = { x with phase := .cur, since := u.sun.time } ∧
        v = { u with outs := v.outs }) ∧
      (p.stay = false → ∃ v, exec (.solHoldEnd t n) s = .next v ∧ (sol v n.val).phase = .off ∧ (sol v n.val).setpoint = 0)) ∧
    (x.phase = .groupQ → x.arrived.toNat + deferNs u n.val ≤ u.sun.time.toNat → x.prevPhase = .off ∨ x.prevPhase = .cur →
      ∃ v, exec (.solDeferExpired t n) s = .next v ∧ (sol v n.val).phase = x.prevPhase ∧ (sol v n.val).peakWait = false ∧
        counter v 0x0006001C n.val = (counter u 0x0006001C n.val).inc.1) ∧
    (∃ v, exec (.solLowSideTrip t n) s = .next v ∧ (sol v n.val).phase = .off ∧ (sol v n.val).trip = true ∧ (sol v n.val).setpoint = 0) ∧
    (x.phase = .neutral → ∃ v, exec (.neutralRampEnd t n) s = .next v ∧ (sol v n.val).phase = .off ∧ (sol v n.val).setpoint = 0) ∧
    (x.calold = false → (x.calAt.getD u.sys.dawnAt).toNat + 10000000000 ≤ u.sun.time.toNat →
      ∃ v, exec (.solCalOld t n) s = .next v ∧ sol v n.val = { x with calold := true } ∧
        (∃ r ∈ v.skein.raised, r.sev = .warning ∧ r.source = 6) ∧ v.tally = u.tally) ∧
    (∀ d r, chanDecl u (.sol n.val) = some d → d.r20 ≠ 0 → (x.phase = .cur ∨ x.phase = .hold) →
      x.since.toNat + 20000000 ≤ u.sun.time.toNat →
      (∀ c, x.coilAt = some c → 64 * 1000000000 ≤ (u.sun.time.toNat - c.toNat) * d.freq) →
      ∃ v, exec (.solCoilEstimate t n r) s = .next v ∧
      (sol v n.val).res = BitVec.ofNat 16 (Nat.min 65535 (r / 10)) ∧
      (sol v n.val).tcoil =
        BitVec.ofInt 16 (clampInt (-32768) 32767 (320 + roundDiv (((r : Int) - d.r20) * 1600000) (393 * d.r20))) ∧
      (sol v n.val).coilfault = (decide (2 * r < d.r20) || decide (5 * d.r20 < 2 * r)) ∧ (sol v n.val).phase = x.phase ∧
      (∀ m, m ≠ n.val → sol v m = sol u m) ∧ v.tally = u.tally)) ∧
  (∀ g : Fin 8, ∃ v, exec (.solHighSideTrip t g) s = .next v ∧
    (∀ i, i < 4 → (sol v (4 * g.val + i)).phase = .off ∧ (sol v (4 * g.val + i)).hstrip = true) ∧
    (∀ m, (m < 4 * g.val ∨ 4 * g.val + 4 ≤ m) → sol v m = sol u m) ∧ v.outs.lsw = u.outs.lsw ∧ v.sys = u.sys)

/-- R177 to R183: an ADC slot adds its conversion to the window of its input, whose last slot ends it; an undeclared input's conversion only
shows; every 64 slots or later a slot is stolen for the next reference, and the fifth reference sets new coefficients; 10 s without them set CALOLD. The burden opens on
over-current and closes after 100 ms. A FREQ edge is stamped.

R184 to R187: a shaft's accepted edge counts a tooth, forward or backward, and a revolution at the wrap; a pulse shorter than FILTER only
counts. An
index edge sets the tooth, and a wrong number of teeth since the one before is a WARNING. A grid sample writes angle and speed. Without an
edge for STOP_TIME the shaft has stopped. -/
def Obligations.AnalogAndShaftInputs : Prop :=
  ((∀ (t : Time) (a : Fin 12) (code : BitVec 16) (cal : Option (Int × Int)) (d : AinDecl) (s : State), let u := advanceTo t s
     let n := t.toNat / 2500
     let i := 8 * a.val + n % 8
     frontAt t u = true → t.toNat % 2500 = 0 → ainDecl u i = some d → d.mode ≠ .off → d.mode ≠ .freq →
     lastOf d.d (n % 8) t.toNat = false →
     (qualifies (adc u a.val) (some d) (n % 8) t.toNat = false → (ain u i).seen ≠ 0 → (ain u i).window = windowOf d.d (n % 8) t.toNat →
       ∃ v, exec (.adcSlot t a code cal) s = .next v ∧ (ain v i).sum = (ain u i).sum + code.toNat ∧
         (ain v i).taken = (ain u i).taken + 1 ∧ (ain v i).seen = (ain u i).seen + 1 ∧ (ain v i).code = code ∧
         (adc v a.val).ref = (adc u a.val).ref ∧ (adc v a.val).gain = (adc u a.val).gain ∧ (∀ j, j ≠ i → ain v j = ain u j) ∧
         v.core = u.core ∧ v.inputs.shaft = u.inputs.shaft ∧ v.inputs.sensor = u.inputs.sensor) ∧
     (qualifies (adc u a.val) (some d) (n % 8) t.toNat = true → (adc u a.val).ref = 4 → ∀ g o, cal = some (g, o) →
       ∃ v, exec (.adcSlot t a code cal) s = .next v ∧ (adc v a.val).ref = 0 ∧ (adc v a.val).gain = g ∧ (adc v a.val).off = o ∧
         (adc v a.val).lastSteal = some n ∧ (adc v a.val).rotatedAt = some t ∧ (adc v a.val).calOld = false ∧ v.core = u.core)) ∧
   (∀ (t : Time) (a : Fin 12) (code : BitVec 16) (cal : Option (Int × Int)) (s : State), let u := advanceTo t s
     let n := t.toNat / 2500
     let i := 8 * a.val + n % 8
     frontAt t u = true → t.toNat % 2500 = 0 → ainDecl u i = none → qualifies (adc u a.val) none (n % 8) t.toNat = false →
     ∃ v, exec (.adcSlot t a code cal) s = .next v ∧ ain v i = { ain u i with code := code } ∧ (∀ j, j ≠ i → ain v j = ain u j) ∧
       v.core = u.core) ∧
   (∀ (t : Time) (a : Fin 12) (s : State), let u := advanceTo t s
     (adc u a.val).calOld = false → ((adc u a.val).rotatedAt.getD u.sys.dawnAt).toNat + 10000000000 ≤ u.sun.time.toNat →
     ∃ v, exec (.adcCalAgeExpired t a) s = .next v ∧ adc v a.val = { adc u a.val with calOld := true } ∧
       (∃ r ∈ v.skein.raised, r.sev = .warning ∧ r.source = 12) ∧ v = { u with inputs := v.inputs, skein := v.skein, upd := v.upd }) ∧
   (∀ (t : Time) (i : Fin 96) (d : AinDecl) (s : State), let u := advanceTo t s
     ainDecl u i.val = some d →
     (d.mode = .ma → (ain u i.val).burdenAt = none → ∃ v, exec (.ainBurdenOpen t i) s = .next v ∧
       ain v i.val = { ain u i.val with burdenAt := some u.sun.time, burdenF := true } ∧ (∀ j, j ≠ i.val → ain v j = ain u j) ∧
       v = { u with inputs := { u.inputs with ain := v.inputs.ain } }) ∧
     (∀ b, (ain u i.val).burdenAt = some b → b.toNat + 100000000 ≤ u.sun.time.toNat → ∃ v, exec (.ainBurdenClose t i) s = .next v ∧
       ain v i.val = { ain u i.val with burdenAt := none } ∧ v = { u with inputs := { u.inputs with ain := v.inputs.ain } }) ∧
     (∀ e, d.mode = .freq → frontAt t u = true → (ain u i.val).edge = some e → ∃ v, exec (.freqEdge t i) s = .next v ∧
       ain v i.val = { ain u i.val with edge := some t, period := t.toNat - e.toNat } ∧
       v = { u with inputs := { u.inputs with ain := v.inputs.ain } }))) ∧
  (∀ (t : Time) (k : Fin 16) (d : ShaftDecl) (s : State), let u := advanceTo t s
     let x := shaft u k.val
     shaftDecl u k.val = some d → frontAt t u = true →
     (∀ e held, x.edge = some e → x.edges ≠ 0 → e < t → d.filterNs ≤ held →
       (x.tooth + 1 < d.teeth → ∃ v, exec (.shaftEdge t k held false) s = .next v ∧ shaft v k.val = { x with
         tooth := x.tooth + 1, edge := some t, period := t.toNat - e.toNat, reverse := false, stopped := false
         periods := ((t.toNat - e.toNat) :: x.periods).take d.n, edges := x.edges + 1, sinceIndex := x.sinceIndex + 1 } ∧
         v = { u with inputs := { u.inputs with shaft := v.inputs.shaft } }) ∧
       (x.tooth + 1 = d.teeth → ∃ v, exec (.shaftEdge t k held false) s = .next v ∧ (shaft v k.val).tooth = 0 ∧
         (shaft v k.val).revs = x.revs + 1 ∧ v = { u with inputs := { u.inputs with shaft := v.inputs.shaft } }) ∧
       (d.b.isSome = true → x.tooth = 0 → ∃ v, exec (.shaftEdge t k held true) s = .next v ∧ (shaft v k.val).tooth = d.teeth - 1 ∧
         (shaft v k.val).revs = x.revs - 1 ∧ (shaft v k.val).reverse = true ∧
         v = { u with inputs := { u.inputs with shaft := v.inputs.shaft } })) ∧
     (∀ r held, held < d.filterNs → ∃ v, exec (.shaftEdge t k held r) s = .next v ∧ counter v 0x000E0014 k.val = (counter u 0x000E0014 k.val).inc.1 ∧
       v = { u with counters := v.counters, skein := v.skein, upd := v.upd }) ∧
     (d.z.isSome = true → let n := d.indexTooth
       ((x.indexed = false ∨ x.sinceIndex = d.teeth) → ∃ v, exec (.shaftIndexEdge t k) s = .next v ∧
         shaft v k.val = { x with tooth := n, indexed := true, sinceIndex := 0 } ∧
         v = { u with inputs := { u.inputs with shaft := v.inputs.shaft } }) ∧
       (x.indexed = true → x.sinceIndex ≠ d.teeth → ∃ v, exec (.shaftIndexEdge t k) s = .next v ∧
         shaft v k.val = { x with tooth := n, indexed := true, sinceIndex := 0 } ∧
         counter v 0x000E0010 k.val = (counter u 0x000E0010 k.val).inc.1 ∧
         (∃ r ∈ v.skein.raised, r.sev = .warning ∧ r.source = 14 ∧ r.code = 0x10))) ∧
     (∀ da ds, t.toNat % (1000000000 / d.rateHz) = 0 → laneActive u = true → u.lanes.gate = true → x.stopped = true →
       d.z = none → 2 ≤ x.edges → lateForTask u d.angleSig t t = false → lateForTask u d.speedSig t t = false →
       sigDecl (cop u) d.angleSig = some da → da.writer = .shaft → sigDecl (cop u) d.speedSig = some ds → ds.writer = .shaft →
       d.angleSig ≠ d.speedSig → ring u d.angleSig = {} → ring u d.speedSig = {} → 0 < da.depth → 0 < ds.depth →
       ∃ v, exec (.shaftGridSample t k) s = .next v ∧
         (ring v d.angleSig).samples = [{ value := (x.revs <<< 10) ||| x.bin.zeroExtend 32, stamp := t, status := .valid, landed := t, spin := false }] ∧
         (ring v d.speedSig).samples = [{ value := 0, stamp := t, status := .valid, landed := t, spin := false }] ∧
         (∀ j, j ≠ d.angleSig → j ≠ d.speedSig → ring v j = ring u j) ∧ v.core.sram = u.core.sram ∧ v.sys = u.sys) ∧
     (d.stopNs ≤ u.sun.time.toNat - (x.edge.getD u.sys.dawnAt).toNat → ∃ v, exec (.shaftStop t k) s = .next v ∧
       shaft v k.val = { x with stopped := true } ∧ v = { u with inputs := { u.inputs with shaft := v.inputs.shaft } }))

/-- R188 to R192: sensor ports. A sync pulse leaves at its scheduled instant; a good PSI5 frame in its slot, and a good SENT frame, write
samples stamped from the pulse and their offset; any other frame is counted and kept in SEN_LASTERR. An overloaded port switches off,
returns its claim and spoils its newest samples; after 100 ms it claims its supply again.

R193, R194: a supply output at its current limit turns off, shows a fault and returns its claim; after 100 ms it claims again, and 5 ms
after switch-on its inputs are trusted. The IMU writes its samples at each multiple of 500 µs. -/
def Obligations.SensorsAndImu : Prop :=
  (∀ (t : Time) (p : Fin 12) (d : SensorDecl) (s : State), let u := advanceTo t s
     let x := sensor u p.val
     sensorDecl u p.val = some d →
     (frontAt t u = true → senRuns u = true → psi5Port d = true → x.power = true → t.toNat % d.periodNs = d.offsetNs % d.periodNs →
       (x.sync = none ∨ x.syncOn + d.periodNs ≤ elapsedNs u) → ∃ v, exec (.psi5SyncPulse t p) s = .next v ∧
         v.sent = .psi5Sync p.val t :: u.sent ∧ (sensor v p.val).sync = some t ∧ (sensor v p.val).power = true ∧
         v = { u with inputs := { u.inputs with sensor := v.inputs.sensor }, sent := v.sent, free := v.free }) ∧
     (∀ (sl : Fin 4) (sb y : Time) (w : Psi5Slot), psi5Port d = true → x.power = true → senRuns u = true → x.sync = some y →
       d.slots[sl.val]? = some w →
       (∀ f c, inSlot y sb x.degraded w = true → psi5Error w f = some c → ∃ v, exec (.psi5Frame t p sl sb f) s = .next v ∧
         (sensor v p.val).lastErr = BitVec.ofNat 6 (16 * sl.val + c % 16) ∧ counter v 0x000D000C p.val = (counter u 0x000D000C p.val).inc.1 ∧
         v.core = u.core) ∧
       (∀ f, inSlot y sb x.degraded w = false → ∃ v, exec (.psi5Frame t p sl sb f) s = .next v ∧
         (sensor v p.val).lastErr = BitVec.ofNat 6 (16 * sl.val + 1) ∧ counter v 0x000D000C p.val = (counter u 0x000D000C p.val).inc.1 ∧
         v.core = u.core) ∧
       (∀ f, inSlot y sb x.degraded w = true → psi5Error w f = none → ∃ v, exec (.psi5Frame t p sl sb f) s = .next v ∧
         v = land w.signal .port (Config.portValue p.val sl.val (ofBits f.data.reverse)) (y + BitVec.ofInt 64 w.sampleOffsetNs) .valid
           (bump 0x000D0008 p.val u))) ∧
     (∀ (c : Time) (f : SentFrame), sentPort d = true → x.power = true → senRuns u = true →
       (∀ l g k, sentDecode d x.calNs f = .ok l → d.fast = [(g, k)] →
         let st := (((l.headD 0).testBit 3, (l.headD 0).testBit 2) :: x.status).take (if d.slowFormat = 1 then 16 else 18)
         slowMessage d.slowFormat st.reverse = none → ∃ v, exec (.sentFrame t p c f) s = .next v ∧
           v = land g .port (Config.portValue p.val 0 (((l.drop 1).take k).foldl (fun v x => 16 * v + x) 0))
             (c - BitVec.ofInt 64 d.sentOffsetNs) .valid
             (bump 0x000D0008 p.val (setSensor p.val { x with calNs := some f.calNs, status := st } u))) ∧
       (∀ e, sentDecode d x.calNs f = .error e → ∃ v, exec (.sentFrame t p c f) s = .next v ∧
         (sensor v p.val).lastErr = BitVec.ofNat 6 (e % 16) ∧ counter v 0x000D000C p.val = (counter u 0x000D000C p.val).inc.1 ∧
         v.core = u.core)) ∧
     (x.power = true → ∃ v, exec (.portSupplyOvercurrent t p) s = .next v ∧
       sensor v p.val = { x with
         power := false, short := true, offAt := u.sun.time, sync := none, calNs := none, status := [] } ∧ holds v 4 (.port p.val) = false ∧
       (∀ i o r, portSignals d = [i] → (ring u i).samples = o :: r →
         (ring v i).samples = { o with status := .quarantined } :: r) ∧ (∀ q, q ≠ p.val → sensor v q = sensor u q)) ∧
     (x.short = true → x.power = false → x.offAt.toNat + 100000000 ≤ u.sun.time.toNat → (ledger u 4).queue = [] → d.port = p.val →
       fits u 4 (portClaim d) = true → ∃ v, exec (.portSupplyRetry t p) s = .next v ∧ (sensor v p.val).power = true ∧
         (sensor v p.val).short = false ∧ holds v 4 (.port p.val) = true)) ∧
  ((∀ (t : Time) (n : Fin 16) (s : State), let u := advanceTo t s
     (bit u.inputs.supOn n.val = true → ∃ v, exec (.supCurrentLimit t n) s = .next v ∧ bit v.inputs.supOn n.val = false ∧
       bit v.inputs.supFault n.val = true ∧ holds v 4 (.sup n.val) = false ∧
       (∀ m, m < 16 → m ≠ n.val → bit v.inputs.supOn m = bit u.inputs.supOn m ∧ bit v.inputs.supFault m = bit u.inputs.supFault m) ∧
       v = { u with inputs := v.inputs, tally := v.tally }) ∧
     (∀ d, (setup u).sups.find? (fun d => decide (d.sup = n.val)) = some d → bit u.inputs.supFault n.val = true →
       bit u.inputs.supOn n.val = false → (SMap.get u.inputs.supAt 0 n.val).toNat + 100000000 ≤ u.sun.time.toNat →
       (ledger u 4).queue = [] → fits u 4 (supClaim d) = true → ∃ v, exec (.supRetry t n) s = .next v ∧
         bit v.inputs.supOn n.val = true ∧ bit v.inputs.supFault n.val = false ∧ bit v.inputs.supYoung n.val = true ∧
         holds v 4 (.sup n.val) = true) ∧
     (bit u.inputs.supOn n.val = true → (SMap.get u.inputs.supAt 0 n.val).toNat + 5000000 ≤ u.sun.time.toNat →
       ∃ v, exec (.supSettled t n) s = .next v ∧ bit v.inputs.supYoung n.val = false ∧
         v = { u with inputs := { u.inputs with supYoung := v.inputs.supYoung } })) ∧
   (∀ (t : Time) (l : List Word) (temp : BitVec 16) (fs : Bool) (s : State), let u := advanceTo t s
     frontAt t u = true → u.inputs.imuRun = true → senRuns u = true → t.toNat % 500000 = 0 →
     ∃ v, exec (.imuSample t l temp fs) s = .next v ∧ v.inputs = { u.inputs with imuTemp := temp } ∧
       (∀ i d q, writtenBy (cop u) (fun w => decide (w = .imu)) = [i] → sigDecl (cop u) i = some d → d.writer = .imu → laneActive u = true →
         u.lanes.gate = true → lateForTask u i t t = false → ring u i = {} → 0 < d.depth → l.head? = some q → (ring v i).samples = [{
           value := q, stamp := t, status := if fs || u.inputs.imuFail then .quarantined else .valid, landed := t, spin := false }]) ∧
       v.sys = u.sys ∧ v.core.sram = u.core.sram ∧ v.core.acts = u.core.acts))

/-- R196 to R200, R208: a Strike sample moves baseline and envelope; an armed channel whose envelope reaches the threshold detects: it counts,
is disarmed for DEAD samples, and opens a window with the samples before it.

R198, R200, R202, R203, R208: what follows a detection and what watches a channel: a complete window joins its engine's queue, is
classified oldest first and counted in the bin of its stamp; a floor without a quiet block for 1 s, and a baseline outside its band for
10 ms, are shown and recorded; 100 ms back inside end the fault.

R203 to R205: a bin closes 200 µs after its end, and not before: it moves into the history, its counts stop, and without a Strike Bobbin or
rates nothing else happens. -/
def Obligations.StrikesAreCounted : Prop :=
  (∀ (t l : Time) (n : Fin 32) (code : BitVec 14) (d : StrikeDecl) (s : State), let u := advanceTo t s
     let x := stk u n.val
     let w : Int := (code.toNat : Int) - 8192
     let b := x.b + (w * 256 - x.b) / 1024
     let y := w - b / 256
     let env := Max.max (y.natAbs : Int) (x.env - x.env / ((2 ^ d.ed : Nat) : Int))
     stkDecl u n.val = some d → u.strike.run = true → u.sun.time = t → t.toNat % 2500 = 0 → x.last = some l → l.toNat + 2500 = t.toNat →
     t.toNat / 2500 % 64 ≠ 63 →
     (x.armed = true → x.fault = false → x.thr ≤ env → ∃ v, exec (.strikeSample t n code) s = .next v ∧
       (stk v n.val).b = b ∧ (stk v n.val).env = env ∧ (stk v n.val).armed = false ∧ (stk v n.val).dead = d.dead ∧
       (stk v n.val).nf = x.nf ∧ counter v 0x000B0010 n.val = (counter u 0x000B0010 n.val).inc.1 ∧
       (d.pre ≤ x.ys.length → (stk v n.val).windows.getLast? = some
         { ch := n.val, cap := decide (u.strike.capCh.toNat = n.val), stamp := t, samples := (x.ys.take d.pre).reverse ++ [y], left := 63 - d.pre }) ∧
       (∀ m, m ≠ n.val → stk v m = stk u m) ∧ v = { u with strike := v.strike, counters := v.counters, skein := v.skein, upd := v.upd }) ∧
     ((x.armed = false ∨ x.fault = true ∨ env < x.thr) → ∃ v, exec (.strikeSample t n code) s = .next v ∧
       (stk v n.val).b = b ∧ (stk v n.val).env = env ∧ (stk v n.val).windows.length = x.windows.length ∧
       (stk v n.val).dead = x.dead - 1 ∧ (x.dead = 0 → (stk v n.val).armed = (x.armed || decide (env < x.thr))) ∧
       (∀ m, m ≠ n.val → stk v m = stk u m) ∧ v = { u with strike := v.strike })) ∧
  ((∀ (t : Time) (n : Fin 32) (w : StkWindow) (r : List StkWindow) (s : State), let u := advanceTo t s
     let x := stk u n.val
     x.windows = w :: r → w.left = 0 → ∃ v, exec (.strikeWindowCaptured t n) s = .next v ∧
       stk v n.val = { x with windows := r, queue := (x.queue ++ [w]).take 8 } ∧ (∀ m, m ≠ n.val → stk v m = stk u m) ∧
       v = { u with strike := { u.strike with chans := v.strike.chans } }) ∧
   (∀ (t : Time) (g : Fin 4) (ch : Nat) (w : StkWindow) (d : StrikeDecl) (s : State), let u := advanceTo t s
     nextWindow u g.val = some (ch, w) → stkDecl u ch = some d → (cop u).captureBobbin = none →
     nextBin u ≤ w.stamp.toNat / 10000000 →
     let cls := classify d w.samples
     let j := w.stamp.toNat / 10000000
     SMap.get (openBin u j).counts 0 (5 * ch + cls) ≠ 65535 → ∃ v, exec (.strikeClassifyDone t g) s = .next v ∧
       (stk v ch).queue = (stk u ch).queue.tail ∧
       SMap.get (openBin v j).counts 0 (5 * ch + cls) = SMap.get (openBin u j).counts 0 (5 * ch + cls) + 1 ∧
       (∀ i, i ≠ j → openBin v i = openBin u i) ∧
       counter v 0x000B0014 ch = (if cls = 4 then (counter u 0x000B0014 ch).inc.1 else counter u 0x000B0014 ch) ∧ v.core = u.core) ∧
   (∀ (t q : Time) (n : Fin 32) (s : State), let u := advanceTo t s
     let x := stk u n.val
     u.strike.run = true →
     (x.quietAt = some q → x.floorHold = false → q.toNat + 1000000000 ≤ u.sun.time.toNat → ∃ v, exec (.strikeFloorHold t n) s = .next v ∧
       stk v n.val = { x with floorHold := true } ∧ (∃ r ∈ v.skein.raised, r.sev = .warning ∧ r.source = 11) ∧ v.core = u.core) ∧
     (x.outSince = some q → x.fault = false → q.toNat + 10000000 ≤ u.sun.time.toNat → ∃ v, exec (.strikeFaultEnter t n) s = .next v ∧
       stk v n.val = { x with fault := true, faultAt := u.sun.time } ∧ (∃ r ∈ v.skein.raised, r.sev = .error ∧ r.source = 11) ∧
       v.core = u.core) ∧
     (∀ d, x.inSince = some q → stkDecl u n.val = some d → x.fault = true → q.toNat + 100000000 ≤ u.sun.time.toNat →
       ∃ v, exec (.strikeFaultLeave t n) s = .next v ∧
         stk v n.val = { x with
           fault := false, nf := d.initFloor, thr := Min.min (Max.max (d.initFloor * d.kThr / 4096) d.tMin) d.tMax } ∧
         (∀ m, m ≠ n.val → stk v m = stk u m) ∧ v = { u with strike := v.strike }))) ∧
  (∀ (t : Time) (s : State), let u := advanceTo t s
     let j := nextBin u
     (u.sun.time.toNat < (j + 1) * 10000000 + 200000 → exec (.strikeBinClose t) s = .next u) ∧
     (u.strike.run = true → (j + 1) * 10000000 + 200000 ≤ u.sun.time.toNat → (cop u).strikeBobbin = none → (cop u).rates = [] →
       ∃ v b, exec (.strikeBinClose t) s = .next v ∧ b.index = (openBin u j).index ∧
         (∀ k, SMap.get b.counts 0 k = if bit b.faults (k / 5) then 0 else SMap.get (openBin u j).counts 0 k) ∧
         v.strike.history = (b :: u.strike.history).take 100 ∧ v.strike.lastBin = some j ∧
         v.strike.openBins = u.strike.openBins.filter (fun c => decide (j < c.index)) ∧ v = { u with strike := v.strike }))

/-- R212 to R219: samples and syncs reach Ply through a source's Bobbin: a SAMPLE entry of the declared COUNT becomes a sample with its STAMP,
one of another COUNT is discarded and counted; a sync of a mapped source moves its clock model, the first one as its anchor, and one whose
source clock did not advance only counts. -/
def Obligations.PlySourcesFeed : Prop :=
  ∀ (t : Time) (n : Fin 64) (d : PlySource) (b o : Nat) (e : BobEntry) (r : List (Nat × BobEntry)) (s : State), let u := advanceTo t s
    let x := plySrc u n.val
    plyDecl u n.val = some d → running u = true → d.bobbin = some b → (bob u b).entries = (o, e) :: r →
    (e.bytes[8]? = some 0 → e.bytes[9]? = some (BitVec.ofNat 8 d.angles.length) → d.angles.length < 256 →
      e.bytes.length = 12 + 4 * d.angles.length → d.mapped = false → u.core.ply.issuedAt = [] →
      ∃ v q, exec (.plySampleEntry t n) s = .next v ∧ (plySrc v n.val).samples = q :: x.samples ∧ q.stamp = e.stamp ∧
        q.landed = u.sun.time ∧ q.values.length = d.angles.length ∧
        (∀ i, i < d.angles.length →
          q.values[i]? = some (BitVec.ofNat 32 (ofBytes ((e.bytes.drop (12 + 4 * i)).take 4)))) ∧
        (bob v b).entries = r ∧ (∀ m, m ≠ n.val → plySrc v m = plySrc u m) ∧ v.core.sram = u.core.sram ∧ v.core.signals = u.core.signals ∧
        v.sys = u.sys) ∧
    (e.bytes[8]? = some 0 → e.bytes[9]? = some (BitVec.ofNat 8 (d.angles.length + 1)) → d.angles.length + 1 < 256 →
      ∃ v, exec (.plySampleEntry t n) s = .next v ∧ counter v 0x000A001C n.val = (counter u 0x000A001C n.val).inc.1 ∧
        (bob v b).entries = r ∧ v.core.ply = u.core.ply) ∧
    (e.bytes[8]? = some 1 → d.mapped = true → let x' := int64Of (e.bytes.take 8)
      (x.anchored = false → ∃ v, exec (.plySync t n) s = .next v ∧ plySrc v n.val = { x with
        anchored := true, anchorS := x', anchorD := e.stamp.toNat, rate := 0, good := 0, unal := true, u0 := d.resNs, ts := e.stamp } ∧
        (bob v b).entries = r ∧ v.core.signals = u.core.signals) ∧
      (x.anchored = true → x' ≤ x.anchorS → ∃ v, exec (.plySync t n) s = .next v ∧ plySrc v n.val = x ∧
        counter v 0x000A0014 n.val = (counter u 0x000A0014 n.val).inc.1 ∧ (bob v b).entries = r) ∧
      (x.anchored = true → x.anchorS < x' →
        let m := x.anchorD + (x' - x.anchorS) + (x' - x.anchorS) * x.rate / (2 ^ 40 : Int)
        let rho := (e.stamp.toNat : Int) - m
        (d.frameNs : Int) < rho.natAbs → ∃ v, exec (.plySync t n) s = .next v ∧
          (plySrc v n.val).anchorS = x' ∧ (plySrc v n.val).anchorD = e.stamp.toNat ∧ (plySrc v n.val).unal = true ∧
          (plySrc v n.val).good = 0 ∧ (plySrc v n.val).rate = x.rate ∧ (bob v b).entries = r))

/-- R216, R220, R221, R223: an epoch is issued once, DELAY after its grid instant, in order; without an IMU source its pose is QUARANTINED. At
the end of a device-time second the LATEFLAG of each source is judged by its late samples, and the count of epochs restarts.

R227 to R230: the pose history and the yield records. The history follows the 10 ms grid; a record closes at a multiple of its PERIOD with
the mass summed since the one before, and goes to its Bobbin once it can be placed. -/
def Obligations.EpochsAndYield : Prop :=
  ((∀ (t tk : Time) (s : State), let u := advanceTo t s
     let c := (cop u).ply
     (running u = false → exec (.plyEpoch t tk) s = .next u) ∧
     (running u = true → hasPly u = true → u.sun.stepSpan = none → tk.toNat % (c.periodMs * 1000000) = 0 →
       u.sun.time.toNat = tk.toNat + c.delayUs * 1000 → (∀ l, u.core.ply.lastIssued = some l → l < tk) → u.core.ply.since < tk → ∃ v, exec (.plyEpoch t tk) s = .next v ∧
         v.core.ply.lastIssued = some tk ∧ v.core.ply.issuedAt = (tk, u.sun.time) :: u.core.ply.issuedAt ∧
         v.core.ply.epochsSec = u.core.ply.epochsSec + 1 ∧ v.core.ply.pose.length = 9 ∧
         ((∀ d ∈ c.sources, isImu d = false) → v.core.ply.poseStatus = .quarantined) ∧
         v.core.sram = u.core.sram ∧ v.core.acts = u.core.acts ∧ v.core.bobs = u.core.bobs ∧ v.core.tasks = u.core.tasks ∧
         v.sys = u.sys ∧ v.outs = u.outs ∧ v.store = u.store) ∧
     (∀ a b, u.sun.stepSpan = some (a, b) → a < tk → tk < b → exec (.plyEpoch t tk) s = .next u) ∧
     (∀ l, u.core.ply.lastIssued = some l → tk ≤ l → exec (.plyEpoch t tk) s = .next u)) ∧
   (∀ (t : Time) (s : State), let u := advanceTo t s
     running u = true → t.toNat % 1000000000 = 0 → u.sun.time = t → ((cop u).ply.sources.map (·.number)).Nodup →
     ∃ v, exec (.plyLateflagEval t) s = .next v ∧ v.core.ply.epochsSec = 0 ∧
       (∀ d ∈ (cop u).ply.sources, plySrc v d.number = { plySrc u d.number with
         lateflag := decide (u.core.ply.epochsSec < 20 * (plySrc u d.number).lateSec), lateSec := 0 }) ∧
       v.core.sram = u.core.sram ∧ v.core.signals = u.core.signals ∧ v.sys = u.sys)) ∧
  ((∀ (t : Time) (s : State), let u := advanceTo t s
     (running u = false → exec (.poseHistoryAppend t) s = .next u) ∧
     (running u = true → hasPly u = true → (cop u).ply.yields = [] → u.spool.history = [] → u.core.ply.lastTen = none →
       u.core.ply.issuedAt = [] → (cop u).ply.delayUs = 0 → 0 < (cop u).ply.periodMs →
       upTen u.core.ply.since.toNat ≤ u.sun.time.toNat → u.sun.time.toNat < upTen u.core.ply.since.toNat + 10000000 →
       u.sun.time.toNat ≠ upTen u.core.ply.since.toNat → u.sun.time.toNat < 250000000000 →
       ∃ v, exec (.poseHistoryAppend t) s = .next v ∧
         v = { u with spool := { u.spool with history := [noPose (upTen u.core.ply.since.toNat)] } }) ∧
     (∀ e, running u = true → hasPly u = true → (cop u).ply.yields = [] → u.core.ply.lastTen = some e → e.stamp.toNat = nextPose u →
       nextPose u % ((cop u).ply.periodMs * 1000000) = 0 → nextPose u ≤ u.sun.time.toNat → u.sun.time.toNat < nextPose u + 10000000 →
       ∃ v, exec (.poseHistoryAppend t) s = .next v ∧
         v = { u with spool := { u.spool with history := (e :: u.spool.history).take 25600 } })) ∧
   (∀ (t : Time) (ch : Fin 4) (d : YieldDecl) (j : Nat) (p : Option Word × Bool) (s : State), let u := advanceTo t s
     let x := yieldSt u ch.val
     (cop u).ply.yields[ch.val]? = some d → running u = true → t.toNat % (d.periodMs * 1000000) = 0 → x.nextJ = some j → t.toNat < j →
     plyWaits u d.delaySig t = false → plyWaits u d.widthSig t = false → x.prevTau = some p →
     ∃ v q, exec (.yieldRecordClose t ch) s = .next v ∧ (yieldSt v ch.val).pend = x.pend ++ [q] ∧ q.tEnd = t ∧
       q.mass = (sumAt x t.toNat).1 ∧ q.flags.getLsbD 1 = (sumAt x t.toNat).2 ∧
       (yieldSt v ch.val).sums = x.sums.filter (fun e => decide (t.toNat < e.1)) ∧ (yieldSt v ch.val).prevTau.isSome = true ∧ (∀ c, c ≠ ch.val → yieldSt v c = yieldSt u c) ∧ v.core.sram = u.core.sram ∧
       v.core.bobs = u.core.bobs ∧ v.sys = u.sys) ∧
   (∀ (t : Time) (ch : Fin 4) (d : YieldDecl) (q : YieldPending) (r : List YieldPending) (dl : BobDecl) (y : Bob) (s : State),
     let u := advanceTo t s
     let zero : Placed := { lat := 0, lon := 0, hgt := 0, heading := 0, speed := 0, fix := 3, gap := false }
     let e : BobEntry :=
       { stamp := q.tEnd, seq := (bob u d.bobbin).seq, aux := 0, bytes := yieldBytes ch.val q (setBit q.flags 4 true) zero zero }
     (cop u).ply.yields[ch.val]? = some d → (yieldSt u ch.val).pend = q :: r → running u = true → q.placed = false → laneActive u = true →
     bobDecl u d.bobbin = some dl → (bob u d.bobbin).held = [] → (bob u d.bobbin).place dl.size e = some y →
     ∃ v, exec (.yieldRecordPush t ch) s = .next v ∧ (yieldSt v ch.val).pend = r ∧
       v.core.ply.yieldStat = ((BitVec.ofNat 32 ch.val) <<< 30) ||| (setBit q.flags 4 true).zeroExtend 32 ∧
       bob v d.bobbin = { y with seq := (bob u d.bobbin).seq + 1 } ∧ (∀ m, m ≠ d.bobbin → bob v m = bob u m) ∧
       (∀ c, c ≠ ch.val → yieldSt v c = yieldSt u c) ∧ v = { u with core := { u.core with ply := v.core.ply, bobs := v.core.bobs } }))

/-- R235 to R241: the life of a tracking channel. A verified search cell puts its satellite into an IDLE channel in PULLIN, in order of
priority; PULLIN ends in TRACK with SLIP set, and starts the L5 channel by handover, its code phase in the shorter chips; TRACK is left for COAST, which relocks through PULLIN or ends, after 10 s aided
or 1 s unaided, in IDLE. A dwell without a find moves the search on.

R234: antenna biases. Above 130 mA the bias switches off and its claim returns; after 1 s it claims again where GNS_ANT enables it; below
2 mA the input is OPEN with its bias on, until it is OK again. -/
def Obligations.ChannelsAndAntennas : Prop :=
  (∀ (t : Time) (c : Fin 256) (s : State), let u := advanceTo t s
     let x := gch u c.val
     samples u = true →
     (∀ e : Fin 32, let y := eng u e.val
       let bad := u.gnss.suspectSats.contains (y.signal, y.sv, y.ant)
       y.busy = true → u.lanes.gate = true → x.state = 0 → ∃ v, exec (.searchCellFound t e c) s = .next v ∧
       gch v c.val = {
         state := 1, signal := y.signal, sv := y.sv, ant := y.ant, spacing := spacingOf u y.signal, since := u.sun.time
         excl := bad, suspect := bad, cause := if bad then 4 else 0, exclAt := u.sun.time } ∧
       (∀ d, d ≠ c.val → gch v d = gch u d) ∧ (∀ g, g ≠ e.val → eng v g = eng u g) ∧
       v = { u with gnss := { u.gnss with chans := v.gnss.chans, engines := v.gnss.engines, lost := v.gnss.lost }, free := v.free }) ∧
     (∀ e : Fin 32, mayTake u c.val (groupOf (eng u e.val).signal (eng u e.val).ant) = false →
       exec (.searchCellFound t e c) s = .next u) ∧
     (∀ e : Fin 32, (eng u e.val).busy = true →
       ((eng u e.val).phase + 64 < windowPhases (eng u e.val).window (eng u e.val).signal → ∃ v, exec (.searchDwellDone t e) s = .next v ∧
         eng v e.val = { eng u e.val with phase := (eng u e.val).phase + 64 } ∧
         v = { u with gnss := { u.gnss with engines := v.gnss.engines } }) ∧
       (windowPhases (eng u e.val).window (eng u e.val).signal ≤ (eng u e.val).phase + 64 →
         (eng u e.val).bin + 1 < windowBins u (eng u e.val).window → ∃ v, exec (.searchDwellDone t e) s = .next v ∧
           eng v e.val = { eng u e.val with phase := 0, bin := (eng u e.val).bin + 1 } ∧
           v = { u with gnss := { u.gnss with engines := v.gnss.engines } }) ∧
       (windowPhases (eng u e.val).window (eng u e.val).signal ≤ (eng u e.val).phase + 64 →
         windowBins u (eng u e.val).window ≤ (eng u e.val).bin + 1 → u.gnss.lost = [] → searched u = [] →
         ∃ v, exec (.searchDwellDone t e) s = .next v ∧ eng v e.val = {} ∧ (∀ g, g ≠ e.val → eng v g = eng u g) ∧
           v = { u with gnss := { u.gnss with engines := v.gnss.engines } })) ∧
     (x.state = 1 → ∃ v, exec (.channelPullinEnd t c none) s = .next v ∧
       gch v c.val = { x with
         state := 2, slip := true, since := u.sun.time, exclAt := if x.suspect then u.sun.time else x.exclAt } ∧
       (∀ d, d ≠ c.val → gch v d = gch u d) ∧ v = { u with gnss := { u.gnss with chans := v.gnss.chans } }) ∧
     (∀ (h : Fin 256) (k : BitVec 4), x.state = 1 → h ≠ c → (gch u h.val).state = 0 → l5Of x.signal = some k → bit u.gnss.cfg k.toNat = true →
       u.lanes.gate = true → ∃ v, exec (.channelPullinEnd t c (some h)) s = .next v ∧ (gch v c.val).state = 2 ∧ (gch v h.val).state = 1 ∧
         (gch v h.val).signal = k ∧ (gch v h.val).sv = x.sv ∧ (gch v h.val).ant = x.ant ∧
         (gch v h.val).codePhase = BitVec.ofNat 32 (x.codePhase.toNat * (if x.signal = 4 then 5 else 10) % 670433280)) ∧
     (x.state = 2 → ∃ v, exec (.channelCoastEnter t c) s = .next v ∧ gch v c.val = { x with state := 3, since := u.sun.time } ∧
       (∀ d, d ≠ c.val → gch v d = gch u d) ∧ v = { u with gnss := { u.gnss with chans := v.gnss.chans } }) ∧
     (x.state = 3 → ∃ v, exec (.channelRelock t c) s = .next v ∧ gch v c.val = { x with state := 1, since := u.sun.time } ∧
       (∀ d, d ≠ c.val → gch v d = gch u d) ∧ v = { u with gnss := { u.gnss with chans := v.gnss.chans } }) ∧
     (x.state = 3 → x.since.toNat + (if x.aided then 10000000000 else 1000000000) ≤ u.sun.time.toNat →
       ∃ v, exec (.channelCoastTimeout t c none) s = .next v ∧ gch v c.val = { x with state := 0, aid := 0, aided := false } ∧
         (∀ d, d ≠ c.val → gch v d = gch u d) ∧ (isL1 x.signal = false → v.gnss.engines = u.gnss.engines) ∧
         v = { u with gnss := { u.gnss with chans := v.gnss.chans, engines := v.gnss.engines, lost := v.gnss.lost }, free := v.free }) ∧
     (x.state ≠ 0 → ∃ v, exec (.spacingChangeApply t c) s = .next v ∧ gch v c.val = { x with spacing := spacingOf u x.signal } ∧
       (∀ d, d ≠ c.val → gch v d = gch u d) ∧ v = { u with gnss := { u.gnss with chans := v.gnss.chans } })) ∧
  (∀ (t : Time) (n : Fin 2) (s : State), let u := advanceTo t s
     (biased u n.val = true → ∃ v, exec (.antennaBiasShort t n) s = .next v ∧ antState v n.val = 3 ∧ holds v 4 (.antenna n.val) = false ∧
       waits v 4 (.antenna n.val) = false ∧ SMap.find v.gnss.shortAt n.val = some u.sun.time ∧ v.sys = u.sys ∧ v.core = u.core) ∧
     (∀ x, antState u n.val = 3 → SMap.find u.gnss.shortAt n.val = some x → x.toNat + 1000000000 ≤ u.sun.time.toNat →
       (if n.val = 0 then u.gnss.bias0 else u.gnss.bias1) = true → holds u 4 (.antenna n.val) = false → (ledger u 4).queue = [] →
       fits u 4 { owner := .antenna n.val, c := 100, rest := 100 } = true → ∃ v, exec (.antennaBiasRetry t n) s = .next v ∧
         antState v n.val = 1 ∧ holds v 4 (.antenna n.val) = true) ∧
     (antState u n.val = 1 → ∃ v, exec (.antennaOpen t n) s = .next v ∧ antState v n.val = 2 ∧
       (∃ r ∈ v.skein.raised, r.sev = .warning ∧ r.source = 20) ∧ v = { u with gnss := v.gnss, skein := v.skein, upd := v.upd }) ∧
     (antState u n.val = 2 → ∃ v, exec (.antennaBiasOk t n) s = .next v ∧ antState v n.val = 1 ∧
       v = { u with gnss := v.gnss, skein := v.skein, upd := v.upd }))

/-- R14, R15, R238, R241 to R243: aiding and checks. Aiding from the lane drives the named channels until 100 ms after the last one; a
measurement epoch latches the channels in TRACK; an exclusion ends after 30 s in which the checks pass, SPOOF after 60 s.

R246 to R249, R329: a position solution sets FIX, the satellites used, the heading's validity and, where it is the first good one, the time
to first fix; correction frames are cleared; the UTC parameters it brings are taken. -/
def Obligations.PositionsAndChecks : Prop :=
  (∀ (t : Time) (s : State), let u := advanceTo t s
     (∀ (k : Time) (c : Nat) (w : Word), samples u = true → u.lanes.gate = true → u.gnss.received = some (k, [(c, w)]) →
       ∃ v, exec (.gnssAidingApply t) s = .next v ∧ v.gnss.aiding = true ∧ v.gnss.aidAt = some k ∧ v.gnss.received = none ∧
       ((gch u c).excl = false → (gch u c).state ≠ 0 →
         gch v c = { gch u c with aid := scaleAid (gch u c).signal w, aided := true, aidNew := true }) ∧
       ((gch u c).excl = true → gch v c = gch u c) ∧ (∀ d, d ≠ c → gch v d = gch u d) ∧ v = { u with gnss := v.gnss }) ∧
     (∀ a, u.gnss.aiding = true → u.gnss.aidAt = some a → a.toNat + 100000000 ≤ u.sun.time.toNat →
       ∃ v, exec (.gnssAidingTimeout t) s = .next v ∧ v.gnss.aiding = false ∧
         (∀ c, c < 256 → gch v c = { gch u c with aid := 0, aided := false }) ∧ v = { u with gnss := v.gnss }) ∧
     (∀ (m : GnssMeas) (f : GnssFronts), m.ch < 256 → samples u = true → u.sun.time.toNat % 50000000 = 0 → (gch u m.ch).state = 2 →
       (gch u m.ch).aidNew = false → (gch u m.ch).dopFails < 3 → (gch u m.ch).resid = none → u.gnss.spoof = false →
       u.gnss.median = none → u.gnss.cn0At = none → u.gnss.otherAt = none → u.gnss.base = [] → u.gnss.baseEpochs < 1200 → suspects u = 0 →
       ∃ v, exec (.gnssMeasEpoch t [m] f none) s = .next v ∧
         gch v m.ch = { gch u m.ch with
           pseudorange := m.pseudorange, codePhase := m.codePhase, carrier := m.carrier, doppler := m.doppler, cn0 := m.cn0, slip := m.slip
           resid := m.resid, elev := m.elev, cn0s := (m.cn0.toNat :: (gch u m.ch).cn0s).take 20
           lockMs := hold32 ((u.sun.time.toNat - (gch u m.ch).since.toNat) / 1000000) } ∧
         v.gnss.spoof = false ∧ v.gnss.jam = 0 ∧ v.gnss.baseEpochs = u.gnss.baseEpochs + 1 ∧
         v = { u with gnss := v.gnss, sun := { u.sun with jumpOffsets := [] }, free := v.free }) ∧
     (∀ c : Fin 256, (gch u c.val).excl = true → (gch u c.val).exclAt.toNat + 30000000000 ≤ u.sun.time.toNat →
       ((gch u c.val).suspect = false ∨ (gch u c.val).state ≠ 0) → ∃ v, exec (.gnssExclusionRelease t c) s = .next v ∧
         gch v c.val = { gch u c.val with excl := false, suspect := false, suspectAt := none, cause := 0 } ∧
         (∀ d, d ≠ c.val → gch v d = gch u d) ∧
         (satOf (gch u c.val) ∉ v.gnss.suspectSats) ∧
         v = { u with gnss := { u.gnss with chans := v.gnss.chans, suspectSats := v.gnss.suspectSats } }) ∧
     (u.gnss.spoof = true → (∀ f, u.gnss.lastFail = some f → f.toNat + 60000000000 ≤ u.sun.time.toNat) →
       ∃ v, exec (.gnssSpoofClear t) s = .next v ∧ v.gnss = { u.gnss with spoof := false } ∧
         (∃ r ∈ v.skein.raised, r.sev = .notice ∧ r.source = 20) ∧ v = { u with gnss := v.gnss, skein := v.skein, upd := v.upd })) ∧
  (∀ (t : Time) (x : Solution) (s : State), let u := advanceTo t s
     let fix := if x.mode = 0 then 0 else if x.mode = 1 ∨ corrFresh u = false then 1
       else if u.core.pos.ambFixed = true ∨ flt 0x40400000 x.ratio = true then 3 else 2
     laneActive u = true → u.gnss.run = true → (∀ d ∈ (cop u).signals, ∀ k, d.writer ≠ .position k) → ∃ v, exec (.positionSolution t x) s = .next v ∧
       v.core.pos.fix = fix ∧ v.core.pos.svUsed = x.svUsed ∧ v.core.pos.rtcm = [] ∧ v.core.pos.rtcmBytes = 0 ∧
       v.core.pos.ambFixed = decide (fix = 3) ∧ v.core.pos.ambig = x.ambig ∧ v.core.pos.clock = x.clock ∧
       (x.hdgFixed = false → v.core.pos.hdgValid = false) ∧
       (∀ f, u.gnss.spoof = false → u.gnss.clkFail = false → 1 ≤ fix → 5 ≤ x.svUsed → u.core.pos.searchFrom = some f →
         v.core.pos.ttffMs = hold32 ((u.sun.time.toNat - f.toNat) / 1000000) ∧ v.core.pos.searchFrom = none) ∧
       (x.utc = none → v.sun = u.sun) ∧
       (∀ a b c, x.utc = some (a, b, c) → v.sun = { u.sun with taiUtc := a, leapAnn := b, leapMjd := c }) ∧
       v = { u with core := { u.core with pos := v.core.pos }, sun := v.sun, free := v.free })

/-- R324 to R330: the Sundial's states and instants. 2 s without usable GNSS time take LOCKED to HOLDOVER; a whole second raises the enabled PPS
outputs, once; a pending step follows its edge, moves the counter, flags and counts; a pulse ends after its width; LOCKED writes the
real-time clock; an announced leap second changes TAI − UTC and not the counter.

R331: gPTP. Where the instance runs and time is valid it sends Sync with the counter and Announce with its class; a peer delay is kept; an
Announce received has no effect. -/
def Obligations.SundialAndGptp : Prop :=
  (∀ (t : Time) (s : State), let u := advanceTo t s
     (∀ l, u.sun.state = .locked → u.sun.lastUsable = some l → l.toNat + 2000000000 ≤ u.sun.time.toNat →
       ∃ v, exec (.sundialGnssTimeout t) s = .next v ∧
         v = { u with sun := { u.sun with state := .holdover, holdAt := u.sun.time, backSlew := false } }) ∧
     (u.sun.run = true → u.sun.time.toNat % 1000000000 = 0 → u.sun.lastPps ≠ some u.sun.time → ∃ v, exec (.ppsEdge t) s = .next v ∧
       v = { u with sun := { u.sun with
         pps0 := bit u.sun.ppsCfg 0, pps1 := bit u.sun.ppsCfg 1, lastPps := some u.sun.time, stepFlag := false
         ppsEnd := some (u.sun.time + BitVec.ofNat 64 ((u.sun.ppsCfg.extractLsb' 8 19).toNat * 1000))
         stepArmed := u.sun.pendingStep.isSome } }) ∧
     (∀ e, u.sun.ppsEnd = some e → e ≤ u.sun.time →
       (∃ v, exec (.ppsPulseEnd t false) s = .next v ∧ v = { u with sun := { u.sun with pps0 := false } }) ∧
       (∃ v, exec (.ppsPulseEnd t true) s = .next v ∧ v = { u with sun := { u.sun with pps1 := false } })) ∧
     (∀ o, u.sun.pendingStep = some o → u.sun.stepArmed = true → u.sun.time.toNat % 1000000000 = 0 →
       ∃ v, exec (.sundialStep t) s = .next v ∧ v.sun.time = u.sun.time + BitVec.ofInt 64 (10 * roundDiv o 10) ∧
         v.sun.pendingStep = none ∧ v.sun.stepArmed = false ∧ v.sun.stepFlag = true ∧ v.sun.known = true ∧ v.sun.tbi = u.sun.tbi + 1 ∧
         counter v 0x00030020 0 = (counter u 0x00030020 0).inc.1 ∧
         (∃ r ∈ v.skein.raised, r.sev = .notice ∧ r.source = 3 ∧ r.code = 0x20 ∧
           r.args = [lo32 u.sun.time, hi32 u.sun.time, lo32 v.sun.time, hi32 v.sun.time]) ∧
         v = { u with sun := v.sun, counters := v.counters, skein := v.skein, upd := v.upd }) ∧
     (u.sun.state = .locked → u.clock.rtcFail = false → ∃ v, exec (.rtcUpdate t) s = .next v ∧
       v = { u with sun := { u.sun with rtc := u.sun.time, rtcValid := true } }) ∧
     (u.sun.leapAnn ≠ 0 → leapInstant u ≤ u.sun.time.toNat → ∃ v, exec (.leapSecond t) s = .next v ∧
       v = { u with sun := { u.sun with leapAnn := 0, leapMjd := 0, taiUtc :=
         if u.sun.leapAnn = 1 then u.sun.taiUtc + 1 else if u.sun.leapAnn = 2 then u.sun.taiUtc - 1 else u.sun.taiUtc } })) ∧
  (∀ (t : Time) (s : State), let u := advanceTo t s
     let prio := fun (hi lo : Nat) => BitVec.ofNat 8 (field u.sun.ptpCfg hi lo)
     (u.sun.run = true → bit u.sun.ptpCfg 0 = true → netMain u = true →
       (u.sun.invalid = false → u.sun.state ≠ .unset →
         (∃ v, exec (.gptpSyncSend t) s = .next v ∧ v = { u with sent := .gptpSync u.sun.time u.sun.tbi u.sun.gmPhase :: u.sent }) ∧
         (u.sun.state = .locked → ∃ v, exec (.gptpAnnounceSend t) s = .next v ∧
           v = { u with sent := .gptpAnnounce 6 0x20 u.sun.taiUtc.toNat (prio 15 8) (prio 23 16) :: u.sent }) ∧
         (u.sun.state = .holdover → ∃ v, exec (.gptpAnnounceSend t) s = .next v ∧
           v = { u with sent := .gptpAnnounce 7 0xA0 u.sun.taiUtc.toNat (prio 15 8) (prio 23 16) :: u.sent })) ∧
       (∀ (p : Fin 8) (ns : Nat), ∃ v, exec (.gptpPeerDelay t p ns) s = .next v ∧ v.sent = .gptpPdelay p.val :: u.sent ∧
         SMap.get v.sun.pdelay 0 p.val = ns ∧ v = { u with sun := { u.sun with pdelay := v.sun.pdelay }, sent := v.sent })) ∧
     (∀ (p : Fin 8) (b : Byte), exec (.gptpAnnounceReceived t p b) s = .next u))

/-- R7, R303 to R306, R309 to R311: the active lane renews its lease at a major-frame boundary with the LK values written meanwhile, and in a
running lane the boundary's checkpoint is due; it is captured once every activation before it has completed, in the slot that holds no
committed one, and committed by its commit word. -/
def Obligations.LeasesRenew : Prop :=
  ∀ (t : Time) (s : State), let u := advanceTo t s
    (u.lanes.holder = none ∨ u.lanes.gate = false ∨ u.clock.lkoFail = true ∨ u.sun.time.toNat % 1000000 ≠ 0 →
      exec (.whorlRenewal t) s = .next u) ∧
    (laneActive u = true → u.lanes.gate = true → u.sun.time.toNat % 1000000 = 0 → u.clock.lkoFail = false → laneStopped u = false →
      (running u = true ∨ u.lanes.yieldAt = none) → ∃ v, exec (.whorlRenewal t) s = .next v ∧
        v.lanes = { u.lanes with
          leaseIn := u.lanes.lease.vote, guardIn := u.lanes.guard.vote, remain := u.lanes.lease.vote.toNat * 125 } ∧
        (running u = true → frameTaken u = false → u.spool.due = none → u.spool.written = none →
          v.spool.due = some u.sun.time ∧ v.spool.s0 = u.spool.s0 ∧ v.spool.s1 = u.spool.s1) ∧
        (running u = true → frameTaken u = false → (u.spool.due.isSome = true ∨ u.spool.written.isSome = true) →
          v.spool = u.spool ∧ counter v 0x00190010 0 = (counter u 0x00190010 0).inc.1) ∧
        (running u = false → v.spool = u.spool) ∧
        v.core = { u.core with loadBusy := v.core.loadBusy } ∧
        v = { u with lanes := v.lanes, core := v.core, spool := v.spool, counters := v.counters, skein := v.skein, upd := v.upd }) ∧
    (∀ f, u.spool.due = some f → laneActive u = true → u.lanes.gate = true → u.spool.written = none →
      (∀ e ∈ u.core.tasks, ∀ p ∈ e.2.pending, f ≤ p.1) → ∃ v b, exec (.checkpointCapture t) s = .next v ∧
        committedSlot u ≠ some b ∧ (spoolSlot v b).frame = f ∧ (spoolSlot v b).committed = false ∧ spoolSlot v (!b) = spoolSlot u (!b) ∧
        v.spool.due = none ∧ v.spool.written = some b ∧ v.spool.history = u.spool.history ∧ v = { u with spool := v.spool }) ∧
    (∀ b, u.spool.written = some b → laneActive u = true → u.lanes.gate = true → u.lanes.yieldAt = none →
      u.upd.boundary ≠ some (spoolSlot u b).frame →
      ∃ v, exec (.checkpointCommit t) s = .next v ∧ spoolSlot v b = { spoolSlot u b with committed := true } ∧
        spoolSlot v (!b) = spoolSlot u (!b) ∧ v.spool.written = none ∧ v = { u with spool := v.spool })

/-- R12, R25, R88, R259, R305, R312, R315: a fault of the active lane, or its lease running out, closes the gate and fails the lane in the same
instant, with its cause; what stood in the lane is lost and every session closes. A COLD lane starts its wake, and NOON becomes AFTERNOON;
without one the DAWN hold is entered with cause NO_LANE, except in DUSK and MIDNIGHT.

R259, R260, R305, R312 to R315, R345: the parts of a switch-over, and its end: once the guard is over and the lane is awake and restored,
at a frame boundary it takes the Whorl, with a record of the failed lane, the cause, F and the gap. -/
def Obligations.WhorlChangesHands : Prop :=
  (∀ (t : Time) (l : Lane) (s : State), let u := advanceTo t s
     u.lanes.holder = some l →
     ∀ e ∈ ([(.comparatorMismatch t l, 1, true), (.eccUncorrectable t l, 2, true),
         (.leaseExpiry t, 3, u.lanes.gate && decide (u.lanes.remain = 0) && !u.clock.lkoFail)] : List (Instr × BitVec 4 × Bool)),
       e.2.2 = true → ∃ v, exec e.1 s = .next v ∧ v.lanes.holder = none ∧ v.lanes.gate = false ∧ v.lanes.remain = 0 ∧
         (lane v l).state = .failed ∧ (lane v l).cause = e.2.1 ∧ v.core = {} ∧ v.hank.sessions = [] ∧ v.sys.lock = u.sys.lock ∧
         ((lane u l.other).state = .cold →
           (lane v l.other).state = .waking ∧
           (∃ w, v.lanes.switch = some w ∧ w.failed = l ∧ w.cause = e.2.1 ∧ w.releasedAt = u.sun.time ∧ w.guardOver = false ∧
             w.restored = none ∧ (holds u 4 (.wake l.other) = true → w.wakeAdmitted = true)) ∧
           v.sys = { u.sys with
             state := if u.sys.state = .noon then .afternoon else u.sys.state
             disarmPending := u.sys.disarmPending || disarmCoincides u }) ∧
         ((lane u l.other).state = .failed → lane v l.other = lane u l.other ∧ v.lanes.switch = none ∧
           ((u.sys.state = .dusk ∨ u.sys.state = .midnight) →
             v.sys = { u.sys with disarmPending := u.sys.disarmPending || disarmCoincides u }) ∧
           (u.sys.state ≠ .dusk → u.sys.state ≠ .midnight → (u.sys.state = .dawn → u.sys.hold = true ∨ kl15Ends u = false) →
             v.sys.state = .dawn ∧ v.sys.hold = true ∧ v.sys.holdCause = 5 ∧ v.sys.driving = false) ∧
           (u.sys.state = .dawn → u.sys.hold = false → kl15Ends u = true →
             v.sys.state = .dusk ∧ v.sys.hold = false ∧ v.sys.duskStep = 1))) ∧
  (∀ (t : Time) (w : Switch) (s : State), let u := advanceTo t s
     u.lanes.switch = some w →
     ((lane u w.failed).state = .failed → ∃ v, exec (.failedSupplyOff t w.failed) s = .next v ∧
       v.lanes = { u.lanes with switch := some { w with supplyOff := true } } ∧ holds v 4 (.run w.failed) = false ∧
       waits v 4 (.run w.failed) = false ∧ holds v 4 (.wake w.failed) = false ∧ v = { u with lanes := v.lanes, tally := v.tally }) ∧
     (w.releasedAt.toNat + u.lanes.guardIn.toNat * 125 ≤ u.sun.time.toNat → u.clock.lkoFail = false →
       ∃ v, exec (.leaseGuardEnd t) s = .next v ∧
         v = { u with lanes := { u.lanes with switch := some { w with guardOver := true } } }) ∧
     (w.wakeAdmitted = true → ∃ v, exec (.standbyWakeDone t) s = .next v ∧ (lane v w.failed.other).clocks = true ∧
       (lane v w.failed.other).mgmt = false ∧ (lane v w.failed.other).state = (lane u w.failed.other).state ∧
       lane v w.failed = lane u w.failed ∧ v.lanes.switch = some { w with awake := true } ∧ v = { u with lanes := v.lanes }) ∧
     (w.awake = true → w.restored = none →
       (∀ b, committedSlot u = some b → (∀ im ∈ (cop u).images, im.consts = []) → ∃ v, exec (.checkpointRestored t) s = .next v ∧
         v.lanes.switch = some { w with restored := some (spoolSlot u b).frame, noCkpt := false } ∧
         v.core.sram = (spoolSlot u b).image.keep ∧ v.core.tables = (spoolSlot u b).image.tables ∧ v.core.acts = [] ∧ v.core.bobs = [] ∧
         v = { u with core := v.core, lanes := v.lanes }) ∧
       (∀ b im, committedSlot u = some b → (cop u).images = [im] → ∃ v, exec (.checkpointRestored t) s = .next v ∧
         v.core.sram = (writeBytes im.spindle im.constBase (im.consts.flatMap fun w => bytesOf 4 w.toNat)
           { u with core := { u.core with sram := (spoolSlot u b).image.keep } }).core.sram) ∧
       (committedSlot u = none → (cop u).images = [] → ∃ v, exec (.checkpointRestored t) s = .next v ∧
         v.lanes.switch = some { w with restored := some 0, noCkpt := true } ∧ v.core.sram = [] ∧ v.core.acts = [] ∧
         v = { u with core := v.core, lanes := v.lanes })) ∧
     (∀ f, w.restored = some f → w.awake = true → w.guardOver = true → u.sun.time.toNat % 1000000 = 0 → u.clock.lkoFail = false →
       u.sys.disarmPending = false → u.sys.state ≠ .dusk → u.upd.step = .none → ∃ v, exec (.whorlGrant t) s = .next v ∧
         v.lanes.holder = some w.failed.other ∧ v.lanes.gate = true ∧ v.lanes.lastHolder = w.failed.other ∧ v.lanes.switch = none ∧
         (lane v w.failed.other).state = .active ∧ lane v w.failed = lane u w.failed ∧
         v.lanes.remain = u.lanes.lease.vote.toNat * 125 ∧
         v.lanes.lastGap = BitVec.ofNat 16 (Min.min ((u.sun.time.toNat - w.releasedAt.toNat) / 125) 65535) ∧
         counter v 0x00180014 0 = (counter u 0x00180014 0).inc.1 ∧ v.core.sram = u.core.sram ∧ v.core.ply.since = u.sun.time ∧
         (∃ r ∈ v.skein.raised, r.sev = .critical ∧ r.source = 24 ∧ r.code = 0x14 ∧ r.args.take 4 =
           [BitVec.ofNat 32 (Lane.num w.failed), w.cause.zeroExtend 32, lo32 f, hi32 f]) ∧ v.sys = u.sys))

/-- R21, R317 to R321: a clock failure is marked, counted and written CRITICAL, and a domain that loses its source falls back, or stops. After
10 s without a failure a domain returns to its main PLL, unless FORCE or STAY holds it. -/
def Obligations.ClocksFallBack : Prop :=
  ∀ (t : Time) (s : State), let u := advanceTo t s
    let noted := fun (k d : Nat) (v : State) => counter v 0x00020008 0 = (counter u 0x00020008 0).inc.1 ∧
      (∃ r ∈ v.skein.raised, r.sev = .critical ∧ r.source = 2 ∧ r.args = [BitVec.ofNat 32 k, BitVec.ofNat 32 d])
    u.sun.run = true →
    (∃ v, exec (.clockMonitorFail t .lko) s = .next v ∧ noted 4 0 v ∧ v.clock = { u.clock with lkoFail := true } ∧
      v = { u with clock := v.clock, counters := v.counters, skein := v.skein, upd := v.upd }) ∧
    (∃ v, exec (.clockMonitorFail t .rtc) s = .next v ∧ noted 5 0 v ∧ v.clock = { u.clock with rtcFail := true } ∧
      v.sun = { u.sun with rtcValid := false } ∧ v.core = u.core ∧ v.lanes = u.lanes) ∧
    (∀ d : Fin 10, clkSrc u d.val = .main → (d.val = 0 ∨ d.val = 1 ∨ d.val = 2 ∨ d.val = 8) → ∃ v, exec (.clockMonitorFail t (.mainPll d)) s = .next v ∧
      noted 1 d.val v ∧ bit v.clock.mainFail d.val = true ∧ (∀ e, e ≠ d.val → clkSrc v e = clkSrc u e) ∧
      clkSrc v d.val = (if u.clock.rcoFail then .stopped else if bit u.clock.fbFail d.val then .direct else .fallback) ∧
      v.sun = u.sun ∧ v.core = u.core ∧ v.lanes = u.lanes) ∧
    (∀ d : Fin 10, clkSrc u d.val = .fallback → (d.val = 0 ∨ d.val = 1 ∨ d.val = 2 ∨ d.val = 8) →
      ∃ v, exec (.clockMonitorFail t (.fallbackPll d)) s = .next v ∧ noted 2 d.val v ∧
        clkSrc v d.val = (if u.clock.rcoFail then .stopped else .direct) ∧ (∀ e, e ≠ d.val → clkSrc v e = clkSrc u e) ∧
        v.core = u.core ∧ v.lanes = u.lanes) ∧
    (∃ v, exec (.clockMonitorFail t .rco) s = .next v ∧ v.clock.rcoFail = true ∧
      (∀ d, d < 10 → clkSrc v d = (if clkSrc u d = .fallback ∨ clkSrc u d = .direct then .stopped else clkSrc u d))) ∧
    (∃ v, exec (.clockMonitorFail t .ref) s = .next v ∧ v.clock.refFail = true ∧ v.sun.invalid = true ∧
      (∀ d, d < 10 → clkSrc v d ≠ .main) ∧ (u.sun.state = .locked → v.sun.state = .holdover)) ∧
    (∀ d : Fin 10, clkSrc u d.val = .fallback → bit u.clock.force d.val = false → bit u.clock.stay d.val = false →
      (∀ k f, (k = 10 ∨ k = d.val) → SMap.find u.clock.failAt k = some f → f.toNat + 10000000000 ≤ u.sun.time.toNat) →
      ∃ v, exec (.clockReturnMain t d) s = .next v ∧ clkSrc v d.val = .main ∧ v.clock.refFail = false ∧
        (∀ e, e ≠ d.val → clkSrc v e = clkSrc u e) ∧ counter v 0x0002000C 0 = (counter u 0x0002000C 0).inc.1 ∧ v.core.sram = u.core.sram) ∧
    (∀ d : Fin 10, (bit u.clock.force d.val = true ∨ bit u.clock.stay d.val = true) → exec (.clockReturnMain t d) s = .next u)

/-- R32, R56, R62, R277, R321, R330, R356: the controls of the system, clock and PPS registers. HOLD_OFF ends limp drive and what was held, in
the DAWN hold alone; STAY_DAWN is kept; CLK_SRC sets FORCE and STAY unless its lock stands; a PPS width out of range is refused.

R63, R64, R164, R254, R270, R272, R277, R279, R295: the controls of loads and tables: a protection cleared, a stored limit written or
refused, limp drive enabled in the hold alone, a table cleared with a NOTICE. The scrub leaves every triplicated register with three equal
copies, and a stopped LKO stops it.

R55, R63, R303, R306, R315, R316: YIELD is accepted only while the other lane is COLD; LK_LEASE and LK_GUARD take values in their ranges,
unless SYS_LOCK.WHORL is set, and count from the next renewal; a fault that the scrub of the COLD lane finds costs NOON its standby. -/
def Obligations.ControlRegistersAct : Prop :=
  (∀ (r : Req) (x : Word) (on : Bool) (s : State), let u := arrived r s
     Taken r true true s →
     (u.sys.hold = true → u.sys.holdupRun = false → ∃ v, exec (.sysCtrlHoldOff r) s = .next v ∧ Replied r (.ack []) v ∧
       v.sys = { u.sys with holdOff := true, held := false } ∧ v.outs.limp = false ∧ v.core = u.core ∧ v.store = u.store ∧ v.sun = u.sun) ∧
     (u.sys.hold = false → ∃ v, exec (.sysCtrlHoldOff r) s = .next v ∧ Replied r (.nak .wrongState 0) v ∧
       v = { u with hank := v.hank, sent := v.sent }) ∧
     (u.sys.holdupRun = false → ∃ v, exec (.sysCtrlStayDawn r on) s = .next v ∧ Replied r (.ack []) v ∧
       v = { u with sys := { u.sys with stayDawn := on }, hank := v.hank, sent := v.sent }) ∧
     (bit u.sys.lock.vote 2 = false → (∀ d, d < 10 → bit x d = true → clkSrc u d ≠ .main) →
       ∃ v, exec (.clkSrcWrite r x) s = .next v ∧ Replied r (.ack []) v ∧
         v.clock = { u.clock with force := x.truncate 10, stay := (x >>> 16).truncate 10 } ∧
         v = { u with clock := v.clock, hank := v.hank, sent := v.sent }) ∧
     (0 < field x 26 8 → field x 26 8 ≤ 100000 → ∃ v, exec (.sunPpsCfgWrite r x) s = .next v ∧ Replied r (.ack []) v ∧
       v = { u with sun := { u.sun with ppsCfg := x &&& 0x07FFFF03 }, hank := v.hank, sent := v.sent }) ∧
     (100000 < field x 26 8 → ∃ v, exec (.sunPpsCfgWrite r x) s = .next v ∧ Replied r (.nak .badValue 0) v ∧
       v = { u with hank := v.hank, sent := v.sent })) ∧
  ((∀ (r : Req) (x : Word) (s : State), let u := arrived r s
     Taken r true true s →
     (∀ n : BitVec 6, n.toNat < 48 → (lsw u n.toNat).cmd = false → ∃ v, exec (.lswClear r n) s = .next v ∧ Replied r (.ack []) v ∧
       lsw v n.toNat = { lsw u n.toNat with retries := [], exh := false, trip := false, backoff := none } ∧
       (∀ m, m ≠ n.toNat → lsw v m = lsw u m) ∧ v = { u with outs := v.outs, hank := v.hank, sent := v.sent }) ∧
     (∀ n : BitVec 5, ∃ v, exec (.solClear r n) s = .next v ∧ Replied r (.ack []) v ∧
       sol v n.toNat = { sol u n.toNat with trip := false, hstrip := false, norise := false, uv := false } ∧
       (∀ m, m ≠ n.toNat → sol v m = sol u m) ∧ v = { u with outs := v.outs, hank := v.hank, sent := v.sent }) ∧
     (u.sys.hold = false → ∃ v, exec (.lswLimpEn r) s = .next v ∧ Replied r (.nak .wrongState 0) v ∧
       v = { u with hank := v.hank, sent := v.sent }) ∧
     (u.sys.hold = true → ∃ v, exec (.lswLimpEn r) s = .next v ∧ Replied r (.ack []) v ∧ v.outs.limp = true ∧ v.outs.limpEn = true ∧
       v.sys = u.sys ∧ v.core = u.core ∧ v.lanes = u.lanes ∧ v.store = u.store) ∧
     (∃ v, exec (.lswRetryMaxWrite r x) s = .next v ∧ Replied r (.ack []) v ∧
       v = { u with outs := { u.outs with retryMax := x.truncate 16 }, hank := v.hank, sent := v.sent }) ∧
     (bit x 4 = false → u.sys.hold = false → (perReq u r.who).lswSel.toNat < 48 →
       ∃ v, exec (.lswDirMapWrite r x) s = .next v ∧ Replied r (.ack []) v ∧
         lsw v (perReq u r.who).lswSel.toNat = { lsw u (perReq u r.who).lswSel.toNat with dirMap := x.truncate 6 } ∧
         (∀ m, m ≠ (perReq u r.who).lswSel.toNat → lsw v m = lsw u m) ∧ v = { u with outs := v.outs, hank := v.hank, sent := v.sent }) ∧
     (bit u.sys.lock.vote 0 = false → limitOk x = true → ∃ v, exec (.tallyLimitWrite r 2 x) s = .next v ∧ Replied r (.ack []) v ∧
       v = { u with tally := { u.tally with limit2 := .of x }, hank := v.hank, sent := v.sent }) ∧
     (bit u.sys.lock.vote 0 = false → limitOk x = false → ∀ n, ∃ v, exec (.tallyLimitWrite r n x) s = .next v ∧
       Replied r (.nak .badValue 0) v ∧ v.tally = u.tally)) ∧
   (∀ (r : Req) (unit table : Nat) (s : State), let u := arrived r s
     Taken r true true s → unit < 8 → table < 16 → laneActive u = true → (tableDecl (cop u) unit table).isSome = true →
     ∃ v, exec (.twiRcClear r unit table) s = .next v ∧ Replied r (.ack []) v ∧ SMap.get v.core.tables {} (tableKey unit table) = {} ∧
       (∀ k, k ≠ tableKey unit table → SMap.get v.core.tables {} k = SMap.get u.core.tables {} k) ∧
       (∃ n ∈ v.skein.raised, n.sev = .notice ∧ n.source = 9 ∧ n.args = [BitVec.ofNat 32 unit, BitVec.ofNat 32 table]) ∧
       v = { u with core := { u.core with tables := v.core.tables }, skein := v.skein, upd := v.upd, hank := v.hank, sent := v.sent }) ∧
   (∀ (t : Time) (s : State), let u := advanceTo t s
     (u.clock.lkoFail = false → ∃ v, exec (.triplicateScrub t) s = .next v ∧ v.sys.lock = .of u.sys.lock.vote ∧
       v.tally.limit0 = .of u.tally.limit0.vote ∧ v.tally.limit1 = .of u.tally.limit1.vote ∧ v.tally.limit2 = .of u.tally.limit2.vote ∧
       v.tally.limit3 = .of u.tally.limit3.vote ∧ v.tally.total = .of u.tally.total.vote ∧ v.tally.stagger = .of u.tally.stagger.vote ∧
       v.tally.waitMax = .of u.tally.waitMax.vote ∧ v.outs.gap = .of u.outs.gap.vote ∧ v.lanes.lease = .of u.lanes.lease.vote ∧
       v.lanes.guard = .of u.lanes.guard.vote ∧ v.core = u.core ∧ v.hank = u.hank ∧ v.sent = u.sent) ∧
     (u.clock.lkoFail = true → exec (.triplicateScrub t) s = .next u))) ∧
  ((∀ (r : Req) (s : State), let u := arrived r s
     Taken r true true s →
     (standbyCold u = true → ∃ v, exec (.laneCtrlYield r) s = .next v ∧ Replied r (.ack []) v ∧
       v.lanes = { u.lanes with yieldAt := some u.sun.time, yieldBy := false } ∧
       v = { u with lanes := v.lanes, hank := v.hank, sent := v.sent }) ∧
     (standbyCold u = false → ∃ v, exec (.laneCtrlYield r) s = .next v ∧ Replied r (.nak .noStandby 0) v ∧
       v = { u with hank := v.hank, sent := v.sent })) ∧
   (∀ (r : Req) (x : Word) (s : State), let u := arrived r s
     let y : BitVec 14 := x.truncate 14
     Taken r true true s →
     (bit u.sys.lock.vote 4 = false → 9000 ≤ y.toNat → y.toNat ≤ 12000 → ∃ v, exec (.lkTimingWrite r false x) s = .next v ∧
       Replied r (.ack []) v ∧ v.lanes = { u.lanes with lease := .of y } ∧ v = { u with lanes := v.lanes, hank := v.hank, sent := v.sent }) ∧
     (bit u.sys.lock.vote 4 = false → 4000 ≤ y.toNat → y.toNat ≤ 8000 → ∃ v, exec (.lkTimingWrite r true x) s = .next v ∧
       Replied r (.ack []) v ∧ v.lanes = { u.lanes with guard := .of y } ∧ v = { u with lanes := v.lanes, hank := v.hank, sent := v.sent }) ∧
     (bit u.sys.lock.vote 4 = false → (y.toNat < 9000 ∨ 12000 < y.toNat) → ∃ v, exec (.lkTimingWrite r false x) s = .next v ∧
       Replied r (.nak .badValue 0) v ∧ v = { u with hank := v.hank, sent := v.sent }) ∧
     (bit u.sys.lock.vote 4 = true → y ≠ u.lanes.lease.vote → ∃ v, exec (.lkTimingWrite r false x) s = .next v ∧
       Replied r (.nak .locked 0) v ∧ counter v 0x00010014 0 = (counter u 0x00010014 0).inc.1 ∧ v.lanes = u.lanes)) ∧
   (∀ (t : Time) (n : Nat) (l : Lane) (s : State), let u := advanceTo t s
     u.lanes.holder = some l → (lane u l.other).state = .cold →
     (∃ v, exec (.coldLaneScrub t n false) s = .next v ∧ v = { u with counters := v.counters, skein := v.skein, upd := v.upd } ∧
       (n = 1 → counter v 0x00180018 0 = (counter u 0x00180018 0).inc.1)) ∧
     (∃ v, exec (.coldLaneScrub t n true) s = .next v ∧ (lane v l.other).state = .failed ∧ (lane v l.other).cause = 5 ∧
       lane v l = lane u l ∧ v.lanes.holder = some l ∧ v.lanes.gate = u.lanes.gate ∧ v.lanes.yieldAt = none ∧
       v.sys = { u.sys with state := if u.sys.state = .noon then .afternoon else u.sys.state } ∧ v.core = u.core ∧ v.outs = u.outs)))

/-- R335, R336, R339, R345: a frame that arrives at a controller on the bus is counted; the first filter that matches decides, and one that
none matches is discarded and counted. A held frame goes to its Bobbin once that has room, in order. A frame received lowers REC and one
sent lowers TEC (R342 after ISO 11898-1, PRESUMED in log entry 102).

R340, R341, R343, R345: an empty transmit buffer takes the head of its feed, or discards and counts it; the frame of the buffer in
arbitration leaves through an open gate; one loaded for TX_TIMEOUT is discarded, counted and written WARNING. -/
def Obligations.CanFramesPass : Prop :=
  ((∀ (t : Time) (n : Fin 16) (sof : Time) (f : CanFrame) (d : CanDecl) (s : State), let u := advanceTo t s
     canDecl u n.val = some d →
     ((u.lanes.holder = none ∨ u.lanes.gate = false ∨ onBus (can u n.val) = false ∨ (f.fdf = true ∧ d.fd = false)) →
       exec (.canFrameReceived t n sof f) s = .next u) ∧
     (laneActive u = true → u.lanes.gate = true → onBus (can u n.val) = true → (f.fdf = true → d.fd = true) → diverted n.val f u = false →
       ((∀ x ∈ d.filters, f.id &&& x.mask ≠ x.mat) → ∃ v, exec (.canFrameReceived t n sof f) s = .next v ∧
         counter v (0x00100018 + 0x1000 * n.val) 0 = (counter u (0x00100018 + 0x1000 * n.val) 0).inc.1 ∧
         counter v (0x0010002C + 0x1000 * n.val) 0 = (counter u (0x0010002C + 0x1000 * n.val) 0).inc.1 ∧
         ((can u n.val).rec_ ≠ 0 → (can u n.val).rec_.toNat ≤ 127 → (can v n.val).rec_ = (can u n.val).rec_ - 1) ∧
         (128 ≤ (can u n.val).rec_.toNat → 119 ≤ (can v n.val).rec_.toNat ∧ (can v n.val).rec_.toNat ≤ 127) ∧
         (can v n.val).tec = (can u n.val).tec ∧ (can v n.val).bufs = (can u n.val).bufs ∧ (∀ m, m ≠ n.val → can v m = can u m) ∧
         v = { u with core := { u.core with can := v.core.can }, counters := v.counters, skein := v.skein, free := v.free }) ∧
       (∀ k x q b, d.filters[k]? = some x → f.id &&& x.mask = x.mat → (∀ j < k, ∀ w, d.filters[j]? = some w → f.id &&& w.mask ≠ w.mat) →
         x.queue = some q → x.extract = [] → x.ply = none → bobDecl u (2 * n.val + q.val) = some b →
         ∃ v, exec (.canFrameReceived t n sof f) s = .next v ∧
         counter v (0x00100018 + 0x1000 * n.val) 0 = (counter u (0x00100018 + 0x1000 * n.val) 0).inc.1 ∧
         (∀ y, (∀ h ∈ (can u n.val).held, h.bobbin ≠ 2 * n.val + q.val) → b.dropNew = false →
           (bob u (2 * n.val + q.val)).place b.size
             ⟨sof, (bob u (2 * n.val + q.val)).seq, BitVec.ofNat 16 k, frameBytes f⟩ = some y →
           bob v (2 * n.val + q.val) = { y with seq := y.seq + 1 } ∧ can v n.val = can (recDown n.val u) n.val) ∧
         (b.dropNew = false → 8 ≤ (can u n.val).held.length → (∃ h ∈ (can u n.val).held, h.bobbin = 2 * n.val + q.val) →
           counter v (0x00100020 + 0x1000 * n.val) 0 = (counter u (0x00100020 + 0x1000 * n.val) 0).inc.1 ∧
           can v n.val = can (recDown n.val u) n.val ∧ bob v (2 * n.val + q.val) = bob u (2 * n.val + q.val)) ∧
         v.core.signals = u.core.signals ∧ v.lanes = u.lanes ∧ v.outs = u.outs))) ∧
   (∀ (t : Time) (n : Fin 16) (s : State), let u := advanceTo t s
     (u.lanes.gate = false → exec (.canRxHeldDeliver t n) s = .next u) ∧
     (laneActive u = true → u.lanes.gate = true → ∃ v, exec (.canRxHeldDeliver t n) s = .next v ∧
       (∀ h r d y, (can u n.val).held = h :: r → bobDecl u h.bobbin = some d → (bob u h.bobbin).place d.size h.entry = some y →
         bob v h.bobbin = y ∧ can v n.val = { can u n.val with held := r }) ∧
       ((can u n.val).held = [] → v = u) ∧ v = { u with core := v.core }))) ∧
  (∀ (t : Time) (n : Fin 16) (k : Fin 3) (d : CanDecl) (s : State), let u := advanceTo t s
     let x := can u n.val
     canDecl u n.val = some d →
     (∀ b, (k.val, b) ∈ d.feeds → (∀ e ∈ d.feeds, e.1 = k.val → e.2 = b) →
       ((u.lanes.gate = false ∨ x.listen = true ∨ x.state = .off ∨ x.state = .busOff ∨ x.state = .recovering) →
         exec (.canTxBufferLoad t n k) s = .next u) ∧
       (laneActive u = true → u.lanes.gate = true → onBus x = true → x.listen = false → SMap.find x.bufs k.val = none → ∀ e y, (bob u b).take = some (e, y) →
         ∃ v, exec (.canTxBufferLoad t n k) s = .next v ∧ bob v b = y ∧
         (∀ f, feedFrame e = some f → SMap.find (can v n.val).bufs k.val = some f ∧
           SMap.find (can v n.val).loadedAt k.val = some u.sun.time ∧
           (∀ j, j ≠ k.val → SMap.find (can v n.val).bufs j = SMap.find x.bufs j) ∧ v = { u with core := v.core }) ∧
         (feedFrame e = none → can v n.val = x ∧
           counter v (0x0010001C + 0x1000 * n.val) 0 = (counter u (0x0010001C + 0x1000 * n.val) 0).inc.1))) ∧
     (∀ f, SMap.find x.bufs k.val = some f →
       (laneActive u = true → u.lanes.gate = true → onBus x = true → x.listen = false → x.attempt = some k.val →
         ∃ v, exec (.canFrameTransmitted t n k) s = .next v ∧ v.sent = .canFrame n.val f :: u.sent ∧
         SMap.find (can v n.val).bufs k.val = none ∧ (∀ j, j ≠ k.val → SMap.find (can v n.val).bufs j = SMap.find x.bufs j) ∧
         counter v (0x00100014 + 0x1000 * n.val) 0 = (counter u (0x00100014 + 0x1000 * n.val) 0).inc.1 ∧
         (x.tec ≠ 0 → (can v n.val).tec = x.tec - 1) ∧ (can v n.val).rec_ = x.rec_ ∧
         v = { u with core := v.core, counters := v.counters, skein := v.skein, sent := v.sent }) ∧
       (u.lanes.gate = false → exec (.canFrameTransmitted t n k) s = .next u)) ∧
     (∀ l, SMap.find x.loadedAt k.val = some l →
       (l.toNat + d.txTimeoutMs * 1000000 ≤ u.sun.time.toNat → ∃ v, exec (.canTxTimeout t n k) s = .next v ∧
         SMap.find (can v n.val).bufs k.val = none ∧ SMap.find (can v n.val).loadedAt k.val = none ∧
         counter v (0x0010001C + 0x1000 * n.val) 0 = (counter u (0x0010001C + 0x1000 * n.val) 0).inc.1 ∧
         (∃ r ∈ v.skein.raised, r.sev = .warning ∧ r.source = 16 ∧ r.args = [BitVec.ofNat 32 n.val, BitVec.ofNat 32 k.val]) ∧
         v = { u with core := v.core, counters := v.counters, skein := v.skein, upd := v.upd }) ∧
       (u.sun.time.toNat < l.toNat + d.txTimeoutMs * 1000000 → exec (.canTxTimeout t n k) s = .next u)))

/-- R322, R342 to R345: the error counters decide error-passive (WARNING) and bus-off (ERROR, buffers discarded); recovery starts by itself or
by CAN_CTRL; bus-off recovery and integration end error-active with both counters at zero; a listen-only request waits for the idle bus. -/
def Obligations.CanConfinesFaults : Prop :=
  (∀ (t : Time) (n : Fin 16) (tx data : Bool) (c : BitVec 3) (tec rec_ : BitVec 9) (d : CanDecl) (s : State), let u := advanceTo t s
    let x := can u n.val
    canDecl u n.val = some d → laneActive u = true → u.lanes.gate = true → onBus x = true →
    ∃ v, exec (.canProtocolError t n tx data c tec rec_) s = .next v ∧ (can v n.val).tec = tec ∧ (can v n.val).rec_ = rec_ ∧
      (can v n.val).state = (if 256 ≤ tec.toNat then (if d.autoRec then .recovering else .busOff)
        else if 128 ≤ tec.toNat ∨ 128 ≤ rec_.toNat then .errorPassive else .errorActive) ∧
      (256 ≤ tec.toNat → (can v n.val).bufs = [] ∧
        (∃ r ∈ v.skein.raised, r.sev = .error ∧ r.source = 16 ∧ r.args = [BitVec.ofNat 32 n.val])) ∧
      (tec.toNat < 256 → (can v n.val).bufs = x.bufs) ∧
      (tec.toNat < 256 → (128 ≤ tec.toNat ∨ 128 ≤ rec_.toNat) → x.state = .errorActive →
        (∃ r ∈ v.skein.raised, r.sev = .warning ∧ r.source = 16 ∧ r.args = [BitVec.ofNat 32 n.val])) ∧
      (can v n.val).held = x.held ∧ counter v (0x00100024 + 0x1000 * n.val) 0 = (counter u (0x00100024 + 0x1000 * n.val) 0).inc.1 ∧
      (∀ m, m ≠ n.val → can v m = can u m) ∧
      v = { u with core := v.core, counters := v.counters, skein := v.skein, upd := v.upd }) ∧
  (∀ (t : Time) (n : Fin 16) (s : State), let u := advanceTo t s
    let x := can u n.val
    (∀ i ∈ ([(.canBusOffRecovered t n, .recovering), (.canIntegrated t n, .integrating)] : List (Instr × CanState)), x.state = i.2 →
      ∃ v, exec i.1 s = .next v ∧ can v n.val = { x with state := .errorActive, tec := 0, rec_ := 0 } ∧
        (∀ m, m ≠ n.val → can v m = can u m) ∧ v = { u with core := v.core }) ∧
    (x.state ≠ .off → ∃ v, exec (.canListenApply t n) s = .next v ∧ can v n.val = { x with listen := wantsListen n.val u } ∧
      v = { u with core := v.core })) ∧
  (∀ (r : Req) (n : Fin 16) (on : Bool) (s : State), let u := arrived r s
    Taken r true true s →
    (laneActive u = true → (can u n.val).state = .busOff → ∃ v, exec (.canRecover r n) s = .next v ∧ Replied r (.ack []) v ∧
      can v n.val = { can u n.val with state := .recovering } ∧ v = { u with core := v.core, hank := v.hank, sent := v.sent }) ∧
    (∃ v, exec (.canListenWrite r n on) s = .next v ∧ Replied r (.ack []) v ∧
      (laneActive u = true → can v n.val = { can u n.val with listenCtrl := on }) ∧ (laneActive u = false → v.core = u.core) ∧
      v = { u with core := v.core, hank := v.hank, sent := v.sent }))

/-- R322, R346, R347, R349, R350: a port forwards within its VLANs, to the one port that an address is known at or to all, and to the ACTIVE
lane alone; what is too long or damaged is dropped and counted; links come and go, and learned addresses age. That a priority-tagged frame takes
the port's VLAN is PRESUMED (log entry 102). -/
def Obligations.FramesAreForwarded : Prop :=
  (∀ (t : Time) (p : Fin 10) (f : EthFrame) (s : State), let u := advanceTo t s
    let vp := match f.vlan with
      | some (vid, pcp) => (if vid = 0 then (ethDecl u p.val).pvid else vid, pcp)
      | none => ((ethDecl u p.val).pvid, (ethDecl u p.val).pcp)
    (portUp u p.val = false → exec (.ethFrameReceived t p f) s = .next u) ∧
    (portUp u p.val = true → ∃ v, exec (.ethFrameReceived t p f) s = .next v ∧
      counter v 0x00120008 p.val = (counter u 0x00120008 p.val).inc.1 ∧
      (f.fcsOk = false ∨ 1522 < f.length ∨ (f.vlan = none ∧ 1518 < f.length) ∨ member u vp.1 p.val = false →
        counter v 0x00120010 p.val = (counter u 0x00120010 p.val).inc.1 ∧ v.eth = u.eth) ∧
      (f.fcsOk = true → f.length ≤ 1518 → member u vp.1 p.val = true →
        (∀ l, f.dst = Config.mac → p.val < 8 → u.lanes.holder = some l →
          ∀ q, q ≠ 8 + Lane.num l → (ethPort v q).queue = (ethPort u q).queue) ∧
        (f.dst = Config.mac → p.val < 8 → u.lanes.holder = none →
          counter v 0x00120014 0 = (counter u 0x00120014 0).inc.1 ∧ v.eth.ports = u.eth.ports) ∧
        (groupMac f.src = false → (∀ e ∈ u.eth.statics, e.addr ≠ f.src) → u.eth.macs.length + u.eth.statics.length < 4096 →
          { addr := f.src, port := p.val, seen := u.sun.time } ∈ v.eth.macs)) ∧
      v = { u with eth := v.eth, counters := v.counters, skein := v.skein })) ∧
  (∀ (t : Time) (p : Fin 10) (s : State), let u := advanceTo t s
    (nextFrame u p.val = none → exec (.ethFrameEgress t p) s = .next u) ∧
    (∀ e rest, nextFrame u p.val = some (e, rest) → portUp u p.val = true → ∃ v, exec (.ethFrameEgress t p) s = .next v ∧
      v.sent = .ethFrame p.val e.frame :: u.sent ∧ ethPort v p.val = { ethPort u p.val with queue := rest } ∧
      counter v 0x0012000C p.val = (counter u 0x0012000C p.val).inc.1 ∧ (∀ q, q ≠ p.val → ethPort v q = ethPort u q))) ∧
  (∀ (t : Time) (p : Fin 8) (sqi : BitVec 3) (a : BitVec 48) (s : State), let u := advanceTo t s
    let x := ethPort u p.val
    (∀ g ∈ (ethDecl u p.val).gcl.head?, u.sun.time.toNat % gclCycle (ethDecl u p.val).gcl = 0 → x.gclAt = none →
      ∃ v, exec (.gateListAdvance t p) s = .next v ∧ ethPort v p.val = { x with gclAt := some 0, gclSince := u.sun.time }) ∧
    (∀ k g, x.gclAt = some k → (ethDecl u p.val).gcl[k]? = some g → u.sun.stepSpan = none →
      (x.gclSince.toNat + g.intervalNs ≤ u.sun.time.toNat → ∃ v, exec (.gateListAdvance t p) s = .next v ∧
        ethPort v p.val = { x with gclAt := some ((k + 1) % (ethDecl u p.val).gcl.length), gclSince := u.sun.time } ∧
        v = { u with eth := v.eth }) ∧
      (u.sun.time.toNat < x.gclSince.toNat + g.intervalNs → exec (.gateListAdvance t p) s = .next u)) ∧
    (x.link = true → ∃ v, exec (.ethLinkDown t p) s = .next v ∧ (ethPort v p.val).link = false ∧ (ethPort v p.val).queue = [] ∧
      (x.queue.length = 1 → counter v 0x00120010 p.val = (counter u 0x00120010 p.val).inc.1) ∧
      (∀ q, q ≠ p.val → ethPort v q = ethPort u q) ∧ v.eth.macs = u.eth.macs) ∧
    (u.sys.powered = true → netMain u = true → u.sys.state ≠ .midnight → ∃ v, exec (.ethLinkUp t p sqi) s = .next v ∧
      ethPort v p.val = { x with link := true, sqi := sqi } ∧ v = { u with eth := v.eth }) ∧
    (netMain u = false → exec (.ethLinkUp t p sqi) s = .next u) ∧
    (∃ v, exec (.macEntryAgeing t a) s = .next v ∧ v.eth.ports = u.eth.ports ∧ v.eth.statics = u.eth.statics ∧
      (∀ e, e ∈ v.eth.macs ↔ e ∈ u.eth.macs ∧ ¬(e.addr = a ∧ e.seen.toNat + 300000000000 ≤ u.sun.time.toNat)) ∧
      v = { u with eth := v.eth }))

/-- R365, R369, R372, R373: the Skein writer takes the oldest record raised and gives it the next SEQ; with 256 buffered it is dropped and
counted at its severity, its number consumed. A buffered record goes to flash, a CRITICAL one first, into a free slot.

R375, R376: clearing the Skein: a challenge serves one CLEAR within 60 s; a good token starts the erase and takes the clear record's
number; its end leaves the clear records and the new one. The key is guarded by its lock, and its change is a WARNING. -/
def Obligations.SkeinKeepsRecords : Prop :=
  (∀ (t : Time) (s : State), let u := advanceTo t s
     (∀ e rest, u.sys.powered = true → u.skein.raised = e :: rest → u.skein.buffer.length < 256 → e.addrs = [] → e.args.length ≤ 12 →
       ∃ v r, exec (.skeinRecordReceive t) s = .next v ∧ v.skein.seq = u.skein.seq + 1 ∧ v.skein.raised = rest ∧
         v.skein.buffer = u.skein.buffer ++ [r] ∧ r.seq = u.skein.seq + 1 ∧ r.ev = e ∧ r.trunc = false ∧ r.snaps.map (·.2) = e.args ∧
         v.skein.ring = u.skein.ring ∧ v = { u with skein := v.skein, hank := v.hank, sent := v.sent }) ∧
     (∀ e rest, u.sys.powered = true → u.skein.raised = e :: rest → 256 ≤ u.skein.buffer.length →
       ∃ v, exec (.skeinRecordReceive t) s = .next v ∧ v.skein.seq = u.skein.seq + 1 ∧ v.skein.buffer = u.skein.buffer ∧
         counter v (0x001A0010 + 4 * e.sev.code) 0 = (counter u (0x001A0010 + 4 * e.sev.code) 0).inc.1 ∧
         v = { u with skein := v.skein, counters := v.counters }) ∧
     (u.sys.powered = true → u.skein.clearing = false → restarts u 41 = false → u.skein.burst = none →
       fits u 4 (flashClaim 2 u.tally.bursts) = true → (ledger u 4).queue = [] → u.skein.ring.length < 262144 →
       (∀ r rest, u.skein.buffer = r :: rest → r.ev.sev = .critical → ∃ v, exec (.skeinFlashWrite t) s = .next v ∧
         v.skein.ring = SMap.insert u.skein.ring (firstFree u.skein.ring 0) r ∧
         v.skein.buffer = (r :: rest).filter (fun x => decide (x.seq ≠ r.seq)) ∧ v.skein.seq = u.skein.seq ∧
         v.core = u.core ∧ v.sys = u.sys ∧ v.outs = u.outs) ∧
       (∀ r rest, u.skein.buffer = r :: rest → (∀ x ∈ r :: rest, x.ev.sev ≠ .critical) → otherHeld u.skein.ring < 245760 →
         ∃ v, exec (.skeinFlashWrite t) s = .next v ∧ v.skein.ring = SMap.insert u.skein.ring (firstFree u.skein.ring 0) r ∧
           v.skein.buffer = rest ∧ v.skein.seq = u.skein.seq)) ∧
     (u.skein.buffer = [] → exec (.skeinFlashWrite t) s = .next u)) ∧
  ((∀ (r : Req) (n : Fin 16) (x : Word) (s : State), let u := arrived r s
     Taken r true true s →
     (∃ v, exec (.sknCtrlNewchal r) s = .next v ∧ Replied r (.ack []) v ∧ v.skein.chalAt = u.sun.time ∧ challengeLive v = true ∧
       v = { u with skein := { u.skein with chal := v.skein.chal, chalAt := v.skein.chalAt }, free := u.free + 4, hank := v.hank,
                    sent := v.sent }) ∧
     (u.skein.clearing = false → challengeLive u = false → ∃ v, exec (.sknCtrlClear r) s = .next v ∧ Replied r (.ack []) v ∧
       v.skein.clrRes = 3 ∧ v.skein.clearing = false ∧ v.skein.ring = u.skein.ring ∧ v.skein.seq = u.skein.seq ∧
       (∃ e ∈ v.skein.raised, e.sev = .warning ∧ e.source = 0x1A ∧ e.code = 0x24)) ∧
     (u.skein.clearing = false → challengeLive u = true → tokenOk u = false → ∃ v, exec (.sknCtrlClear r) s = .next v ∧ Replied r (.ack []) v ∧
       v.skein.clrRes = 2 ∧ v.skein.chal = none ∧ v.skein.clearing = false ∧ v.skein.ring = u.skein.ring) ∧
     (u.skein.clearing = false → challengeLive u = true → tokenOk u = true → clearsHeld u.skein.ring < 4096 →
       ∃ v, exec (.sknCtrlClear r) s = .next v ∧ Replied r (.ack []) v ∧ v.skein.clearing = true ∧ v.skein.chal = none ∧ v.skein.buffer = [] ∧
       v.skein.lastBeforeClear = u.skein.seq ∧ v.skein.seq = u.skein.seq + 1 ∧ v.core = u.core ∧ v.outs = u.outs ∧ v.sys = u.sys) ∧
     (bit u.sys.lock.vote 3 = false → ∃ v, exec (.sknKeyWrite r n x) s = .next v ∧ Replied r (.ack []) v ∧
       SMap.get v.skein.key 0 n.val = x ∧ (∀ m, m ≠ n.val → SMap.get v.skein.key 0 m = SMap.get u.skein.key 0 m) ∧
       (∃ e ∈ v.skein.raised, e.sev = .warning ∧ e.source = 0x1A ∧ e.code = BitVec.ofNat 16 (0x80 + 4 * n.val))) ∧
     (bit u.sys.lock.vote 3 = true → x ≠ SMap.get u.skein.key 0 n.val → ∃ v, exec (.sknKeyWrite r n x) s = .next v ∧
       Replied r (.nak .locked 0) v ∧ v.skein.key = u.skein.key)) ∧
   (∀ (t : Time) (s : State), let u := advanceTo t s
     (u.skein.chal.isSome = true → u.skein.chalAt.toNat + 60000000000 ≤ u.sun.time.toNat → ∃ v, exec (.skeinChallengeExpiry t) s = .next v ∧
       v = { u with skein := { u.skein with chal := none } }) ∧
     (challengeLive u = true → exec (.skeinChallengeExpiry t) s = .next u) ∧
     (distaffRuns u = false → exec (.skeinClearDone t) s = .next u) ∧
     (distaffRuns u = true → u.skein.clearing = true → let kept := u.skein.ring.filter fun e => !cleared u.skein.lastBeforeClear e.2
       ∃ v r, exec (.skeinClearDone t) s = .next v ∧ v.skein.clearing = false ∧
       v.skein.clrRes = 1 ∧ r.seq = u.skein.lastBeforeClear + 1 ∧ r.ev.sev = .critical ∧ r.ev.clear = true ∧
       v.skein.ring = SMap.insert kept (firstFree kept 0) r ∧ (∀ e ∈ u.skein.ring, e.2.ev.clear = true → e ∈ kept) ∧
       (∀ e ∈ u.skein.ring, e.2.ev.clear = false → e.2.seq = u.skein.lastBeforeClear → e ∉ kept) ∧
       v.skein.buffer = u.skein.buffer ∧ v.skein.seq = u.skein.seq ∧ v.core = u.core ∧
       (trigAddrs u 0x1A 0 = [] → v.outs = u.outs ∧ v.sys = u.sys))))

/-- R378 to R383: the relay. A segment of a manifest is stored, and acknowledged once its burst is admitted. A manifest wholly held that is
malformed, or for Patus not signed, is discarded and counted; one that verifies starts a set in reception. A chunk with a bad digest is
counted and requested again, a good one is stored, and the last one makes the set VERIFIED; one ahead of its manifest waits.

R381, R382: an acknowledgement from downstream is kept, and chunks for another target go once all are acknowledged; what downstream
requests is sent where it is held; the lowest missing index is requested again, and an unacknowledged chunk sent again, the eighth time with
DN_LOST. -/
def Obligations.UpdatesPassTheRelay : Prop :=
  ((∀ (t : Time) (id : BitVec 64) (k : Nat) (b : List Byte) (s : State), let u := advanceTo t s
     let r : Relay := { id := id, segs := SMap.insert [] k b, newAt := u.sun.time }
     (engineRuns u = false ∨ upUp u = false → exec (.ibyarManifest t id k b) s = .next u) ∧
     (engineRuns u = true → upUp u = true → relayOf u id = none →
       (r.bytes = none → u.upd.bursts = [] → u.upd.step = .none → (ledger u 4).queue = [] →
         fits u 4 (flashClaim 1 u.tally.bursts) = true → ∃ v, exec (.ibyarManifest t id k b) s = .next v ∧ relayOf v id = some r ∧
         v.sent = .ibyarAck id k true :: u.sent ∧ v.upd.step = u.upd.step ∧ v.upd.man = u.upd.man ∧ v.core = u.core ∧ v.sys = u.sys) ∧
       (∀ l, r.bytes = some l →
         (parseManifest id l = none ∨ (∃ m, parseManifest id l = some m ∧ m.target = patus ∧ manifestSigned l m = false)) →
         u.upd.step = .none → ∃ v, exec (.ibyarManifest t id k b) s = .next v ∧ relayOf v id = none ∧ v.upd.step = u.upd.step ∧
         v.upd.man = u.upd.man ∧ v.core = u.core ∧ v.sys = u.sys ∧ counter v 0x001C0020 0 = (counter u 0x001C0020 0).inc.1) ∧
       (∀ l m, r.bytes = some l → parseManifest id l = some m → m.target = patus → manifestSigned l m = true → u.upd.step = .none →
         ∃ v q, exec (.ibyarManifest t id k b) s = .next v ∧ v.upd.step = .receiving ∧ v.upd.man = some m ∧ v.upd.held = [] ∧
           v.upd.refuse = 0 ∧ relayOf v id = some q ∧ q.man = some m ∧ v.core = u.core ∧ v.sys = u.sys))) ∧
   (∀ (t : Time) (id : BitVec 64) (k : Nat) (b : List Byte) (r : Relay) (s : State), let u := advanceTo t s
     engineRuns u = true → upUp u = true → relayOf u id = some r →
     (r.man = none → (∀ c ∈ r.waiting, c.1 ≠ k) → ∃ v, exec (.ibyarChunk t id k b) s = .next v ∧
       relayOf v id = some { r with waiting := r.waiting ++ [(k, b)], newAt := u.sun.time } ∧
       v = { u with upd := { u.upd with relays := v.upd.relays } }) ∧
     (∀ m, r.man = some m → k < m.chunks → SMap.find r.chunks k = none →
       (m.lists k b = false → ∃ v, exec (.ibyarChunk t id k b) s = .next v ∧ v.sent = .ibyarRequest id k false :: u.sent ∧
         counter v 0x001C0020 0 = (counter u 0x001C0020 0).inc.1 ∧ v.upd = u.upd ∧
         v = { u with counters := v.counters, skein := v.skein, sent := v.sent }) ∧
       (m.lists k b = true → m.target = patus → u.upd.man = some m → m.id = id → u.upd.step = .receiving → u.upd.bursts = [] →
         (ledger u 4).queue = [] → fits u 4 (flashClaim 1 u.tally.bursts) = true → dnUp u = false →
         ∃ v, exec (.ibyarChunk t id k b) s = .next v ∧
           relayOf v id = some { r with chunks := SMap.insert r.chunks k b, newAt := u.sun.time } ∧ .ibyarAck id k false ∈ v.sent ∧
           v.upd.held = k :: u.upd.held ∧ v.core = u.core ∧ v.sys = u.sys ∧
           v.upd.step = (if m.chunks ≤ u.upd.held.length + 1 then .verified else .receiving))))) ∧
  ((∀ (t : Time) (id : BitVec 64) (k : Nat) (r : Relay) (s : State), let u := advanceTo t s
     engineRuns u = true → dnUp u = true → relayOf u id = some r →
     (∀ m, r.man = some m → r.dnAcked.contains k = false →
       (m.target ≠ patus → m.chunks ≤ r.dnAcked.length + 1 → ∃ v, exec (.ibyarAck t id k false) s = .next v ∧ relayOf v id = none ∧
         v = { u with upd := { u.upd with relays := v.upd.relays, bursts := v.upd.bursts, dnLost := false } }) ∧
       (m.target = patus → ∃ v, exec (.ibyarAck t id k false) s = .next v ∧
         relayOf v id = some { r with
           dnAcked := k :: r.dnAcked, sentAt := SMap.drop r.sentAt k, resends := SMap.drop r.resends k } ∧
         v = { u with upd := { u.upd with relays := v.upd.relays, dnLost := false } })) ∧
     (∀ b, SMap.find r.chunks k = some b → ∃ v, exec (.ibyarRequest t id k false) s = .next v ∧ v.sent = .ibyarChunk id k b :: u.sent ∧
       relayOf v id = some { r with sentAt := SMap.insert r.sentAt k u.sun.time } ∧
       v = { u with upd := { u.upd with relays := v.upd.relays }, sent := v.sent }) ∧
     (SMap.find r.chunks k = none → exec (.ibyarRequest t id k false) s = .next u) ∧
     (∀ b, r.man.isSome = true → SMap.find r.segs k = some b →
       exec (.ibyarRequest t id k true) s = .next { u with sent := .ibyarManifest id k b :: u.sent }) ∧
     (∀ b, SMap.find r.chunks k = some b → r.man.isSome = true → r.dnAcked.contains k = false →
       (∀ x, SMap.find r.sentAt k = some x → x.toNat + (if u.upd.dnLost then 10000000000 else 200000000) ≤ u.sun.time.toNat) →
       ∃ v, exec (.ibyarResendTimeout t id k) s = .next v ∧ v.sent = .ibyarChunk id k b :: u.sent ∧
       counter v 0x001C0024 0 = (counter u 0x001C0024 0).inc.1 ∧
       relayOf v id = some { r with
         resends := SMap.put r.resends 0 k (SMap.get r.resends 0 k + 1), sentAt := SMap.insert r.sentAt k u.sun.time } ∧
       v.upd.dnLost = (u.upd.dnLost || decide (8 ≤ SMap.get r.resends 0 k + 1)) ∧ v.upd.step = u.upd.step ∧
       v = { u with upd := v.upd, counters := v.counters, skein := v.skein, sent := v.sent }) ∧
     (∀ x, SMap.find r.sentAt k = some x → u.sun.time.toNat < x.toNat + (if u.upd.dnLost then 10000000000 else 200000000) →
       exec (.ibyarResendTimeout t id k) s = .next u)) ∧
   (∀ (t : Time) (r : Relay) (k : Nat) (g : Bool) (s : State), let u := advanceTo t s
     engineRuns u = true → upUp u = true → u.upd.relays = [r] → r.missing = some (k, g) →
     r.newAt.toNat + 500000000 ≤ u.sun.time.toNat → exec (.ibyarRequestTimeout t) s = .next { u with
       upd := { u.upd with relays := [{ r with newAt := u.sun.time }] }, sent := .ibyarRequest r.id k g :: u.sent }))

/-- R384 to R388, R390: staging gives the first failing check as its code, or STAGED. A pause begins at its boundary B, SWITCHING written; once
no activation before B runs any longer and checkpoint B is committed, the gate closes; behind the reboot and the restore the gate opens with the shared parts changed and TRIAL.

R260, R315, R387, R388: a handover. The standby that has booted passes its point of no return at a boundary B, and behind checkpoint B the
active lane goes to the MANAGEMENT grade; with the wake claim admitted and checkpoint B restored, the other lane takes the Whorl at a boundary, the old one is
COLD, and TRIAL begins. A failed boot fails that lane with cause 7 and leaves the set STAGED. -/
def Obligations.UpdatesActivate : Prop :=
  ((∀ (t : Time) (w : Bool) (m : Manifest) (s : State), let u := advanceTo t s
     u.upd.step = .verified → u.upd.man = some m →
     (stagingCode m w u = 0 → ∃ v, exec (.updateStagingDone t w) s = .next v ∧ v.upd = { u.upd with step := .staged, refuse := 0 } ∧
       v = { u with upd := v.upd, hank := v.hank, sent := v.sent }) ∧
     (stagingCode m w u ≠ 0 → ∃ v, exec (.updateStagingDone t w) s = .next v ∧ v.upd = { u.upd with refuse := stagingCode m w u } ∧
       (∃ e ∈ v.skein.raised, e.sev = .error ∧ e.source = 0x1C ∧ e.args = [(stagingCode m w u).zeroExtend 32]) ∧
       v = { u with upd := v.upd, skein := v.skein })) ∧
   (∀ (t : Time) (l : Lane) (s : State), let u := advanceTo t s
     u.lanes.holder = some l →
     (u.lanes.gate = true → u.sun.time.toNat % 1000000 = 0 → u.upd.handReady ≠ 2 → u.upd.activating = some 1 → u.upd.mode = 1 →
       u.upd.pauseReady = 0 → u.upd.step = .staged →
       (pausePermitted u = true → u.store.running.isSome = true → quietBefore u.sun.time u = false →
         ∃ v, exec (.activationBoundary t) s = .next v ∧ v.upd = { u.upd with step := .switching, boundary := some u.sun.time } ∧
         v.spool = { u.spool with due := some u.sun.time, saved := [], written := none, plyAt := v.spool.plyAt, posAt := v.spool.posAt } ∧
         v = { u with upd := v.upd, spool := v.spool, hank := v.hank, sent := v.sent }) ∧
       (pausePermitted u = true → (u.store.running.isSome = true → quietBefore u.sun.time u = true) →
         ∃ v, exec (.activationBoundary t) s = .next v ∧ v.upd.step = .switching ∧ v.upd.pauseReady = 1 ∧ v.upd.boundary = none ∧
         v.lanes.gate = false ∧ v.lanes.holder = some l ∧ v.hank.sessions = [] ∧
         v.sys = { u.sys with disarmPending := disarmCoincides u } ∧ v.store.running = u.store.running ∧
         (u.store.running.isSome = true → ∃ b, (spoolSlot v b).committed = true ∧ (spoolSlot v b).frame = u.sun.time)) ∧
       (pausePermitted u = false → ∃ v, exec (.activationBoundary t) s = .next v ∧
         v = { u with upd := { u.upd with activating := none, mode := 0 }, hank := v.hank, sent := v.sent })) ∧
     (∀ b, u.spool.written = some b → u.lanes.gate = true → u.upd.boundary = some (spoolSlot u b).frame → u.upd.handReady ≠ 3 →
       ∃ v, exec (.checkpointCommit t) s = .next v ∧ (spoolSlot v b) = { spoolSlot u b with committed := true } ∧ v.lanes.gate = false ∧
         v.lanes.holder = some l ∧ v.upd = { u.upd with pauseReady := 1, boundary := none } ∧ v.hank.sessions = [] ∧
         v.sys = { u.sys with disarmPending := disarmCoincides u } ∧ v.core = u.core) ∧
     (u.upd.pauseReady = 1 → exec (.pauseRebootDone t) s = .next { u with distaff := {}, upd := { u.upd with pauseReady := 2 } }) ∧
     (u.upd.pauseReady = 2 → u.store.running.isSome = true → ∀ b, committedSlot u = some b →
       (∀ im ∈ (cop u).images, im.consts = []) → ∃ v, exec (.pauseRestoreDone t) s = .next v ∧ v.upd = { u.upd with pauseReady := 3 } ∧
         v.core.sram = (spoolSlot u b).image.keep ∧ v.core.tables = (spoolSlot u b).image.tables ∧ v.core.acts = [] ∧
         v.sys = u.sys ∧ v.store = u.store ∧ v.lanes.gate = u.lanes.gate) ∧
     (u.upd.pauseReady = 3 → u.sun.time.toNat % 1000000 = 0 → u.sys.disarmPending = false → ∀ m, u.upd.man = some m →
       ∃ v, exec (.pauseGateOpen t) s = .next v ∧ v.lanes.gate = true ∧ v.lanes.holder = some l ∧ v.upd.step = .trial ∧
         v.upd.runFw = m.fw ∧ v.upd.oldFw = u.upd.runFw ∧ v.upd.slot = !u.upd.slot ∧ (lane v l).slot = !u.upd.slot ∧
         v.outs.newBank = !u.outs.newBank ∧ v.upd.trialFrom = u.sun.time ∧ v.upd.activating = none ∧ v.upd.pauseReady = 0 ∧
         v.core.sram = u.core.sram ∧ v.sys = u.sys))) ∧
  (∀ (t : Time) (l : Lane) (s : State), let u := advanceTo t s
     u.lanes.holder = some l → u.upd.revertHand = false →
     (u.upd.handReady = 1 → (lane u l.other).clocks = true →
       (∃ v, exec (.handoverBootDone t true) s = .next v ∧ lane v l.other = { lane u l.other with slot := !u.upd.slot } ∧
         lane v l = lane u l ∧ v = { u with lanes := v.lanes, upd := { u.upd with handReady := 2 } }) ∧
       (∃ v, exec (.handoverBootDone t false) s = .next v ∧ (lane v l.other).state = .failed ∧ (lane v l.other).cause = 7 ∧
         v.upd.step = u.upd.step ∧ v.upd.activating = none ∧ v.upd.handReady = 0 ∧ v.lanes.holder = some l ∧ v.core = u.core)) ∧
     (u.lanes.gate = true → u.sun.time.toNat % 1000000 = 0 → u.upd.handReady = 2 → u.upd.step = .staged →
       quietBefore u.sun.time u = false → ∃ v, exec (.activationBoundary t) s = .next v ∧
         v.upd = { u.upd with step := .switching, handReady := 3, boundary := some u.sun.time } ∧ v.spool.due = some u.sun.time ∧
         v.spool.s0 = u.spool.s0 ∧ v.spool.s1 = u.spool.s1 ∧
         v = { u with upd := v.upd, spool := v.spool, hank := v.hank, sent := v.sent }) ∧
     (∀ b, u.spool.written = some b → u.lanes.gate = true → u.upd.boundary = some (spoolSlot u b).frame → u.upd.handReady = 3 →
       ∃ v, exec (.checkpointCommit t) s = .next v ∧ (spoolSlot v b) = { spoolSlot u b with committed := true } ∧
         (lane v l).mgmt = true ∧ v.lanes.holder = some l ∧ v.lanes.gate = true ∧ v.upd.handReady = 3 ∧ v.upd.boundary = none ∧
         v.sys = u.sys ∧ v.store = u.store) ∧
     (u.lanes.gate = true → u.sun.time.toNat % 1000000 = 0 → u.upd.handReady = 2 → u.upd.step = .staged →
       quietBefore u.sun.time u = true →
       ∃ v, exec (.activationBoundary t) s = .next v ∧ v.upd.step = .switching ∧ v.upd.handReady = 3 ∧ (lane v l).mgmt = true ∧
         v.upd.boundary = none ∧
         v.lanes.holder = some l ∧ v.lanes.gate = true ∧
         (u.lanes.switch = none → (lane u l.other).state = .updating → holds u 4 (.wake l.other) = false → holds v 4 (.wake l.other) = true →
           (lane v l.other).mgmt = false ∧ (lane v l.other).clocks = true) ∧
         (∃ b, (spoolSlot v b).committed = true ∧ (spoolSlot v b).frame = u.sun.time) ∧ v.sys = u.sys ∧ v.store = u.store) ∧
     (u.upd.handReady = 3 → holds u 4 (.wake l.other) = true →
       exec (.handoverRestoreDone t) s = .next { u with upd := { u.upd with handReady := 4 } }) ∧
     (u.upd.handReady = 4 → u.sun.time.toNat % 1000000 = 0 → u.sys.disarmPending = false → ∀ m, u.upd.man = some m →
       ∃ v, exec (.whorlTransfer t) s = .next v ∧ v.lanes.holder = some l.other ∧ v.lanes.gate = true ∧
         (lane v l).state = .cold ∧ (lane v l.other).state = .active ∧ v.hank.sessions = [] ∧ v.upd.step = .trial ∧
         v.upd.slot = !u.upd.slot ∧ v.upd.runFw = m.fw ∧ v.outs.newBank = !u.outs.newBank ∧
         counter v 0x00180014 0 = (counter u 0x00180014 0).inc.1 ∧
         (∀ b, committedSlot u = some b → (∀ im ∈ (cop u).images, im.consts = []) → v.core.sram = (spoolSlot u b).image.keep) ∧
         (∃ e ∈ v.skein.raised, e.sev = .critical ∧ e.source = 24 ∧ e.code = 0x14 ∧ e.args.take 2 = [BitVec.ofNat 32 (Lane.num l), 4]) ∧
         v.sys = u.sys))

/-- R383, R389 to R391, R393: a trial is good once all its conditions hold, and commits, the standby being copied; REJECT, the window's end
or a record that cannot be migrated fails it, and the old set returns: by transfer from a COLD standby with that set, else by a warm reset.
The commit ends with the copy. -/
def Obligations.TrialsAreJudged : Prop :=
  (∀ (t : Time) (s : State), let u := advanceTo t s
    let fails := fun (i : Instr) =>
      (standbyOld u = true → ∃ v, exec i s = .next v ∧ v.upd.step = .reverted ∧ v.upd.revertHand = true ∧ v.upd.handReady = 2 ∧
        v.upd.healthOk = false ∧ v.panel.hold = true ∧ v.core = u.core ∧ v.sys = u.sys ∧ v.lanes = u.lanes) ∧
      (standbyOld u = false → u.sys.powered = true → u.sys.state ≠ .midnight →
        ∃ v, exec i s = .next v ∧ v.upd.step = .reverted ∧ v.upd.runFw = u.upd.oldFw ∧ v.upd.slot = !u.upd.slot ∧
          v.upd.revertedBlocked = true ∧ v.sys.state = .dawn ∧ v.sys.warm = true ∧ v.lanes.holder = none ∧ v.core = {} ∧
          counter v 0x001C0028 0 = (counter u 0x001C0028 0).inc.1)
    (u.upd.step = .trial → u.upd.healthOk = false →
      (healthy u = true → ∃ v, exec (.trialHealthOk t) s = .next v ∧ v.upd.step = .committed ∧ v.upd.healthOk = true ∧
        v.upd.slot = u.upd.slot ∧ v.upd.runFw = u.upd.runFw ∧
        (∀ l, u.lanes.holder = some l → (lane u l.other).state = .cold → (lane v l.other).state = .updating ∧ lane v l = lane u l) ∧
        v.core = u.core ∧ v.sys = u.sys) ∧
      (healthy u = false → exec (.trialHealthOk t) s = .next u) ∧
      (u.upd.trialEnd.toNat ≤ u.sun.time.toNat → fails (.trialExpired t)) ∧
      (u.sun.time.toNat < u.upd.trialEnd.toNat → exec (.trialExpired t) s = .next u) ∧
      exec (.settingsMigrationDone t true) s = .next { u with upd := { u.upd with migrated := true, trialFrom := u.sun.time } } ∧
      fails (.settingsMigrationDone t false)) ∧
    (∀ l, u.upd.step = .committed → u.lanes.holder = some l → (lane u l.other).state = .updating → (lane u l.other).clocks = false →
      (∃ v, exec (.updateCommitDone t true) s = .next v ∧ v.upd.step = .none ∧ v.upd.man = none ∧
        lane v l.other = { lane u l.other with state := .cold, slot := u.upd.slot } ∧ lane v l = lane u l ∧ v.core = u.core) ∧
      (∃ v, exec (.updateCommitDone t false) s = .next v ∧ v.upd.step = .none ∧ (lane v l.other).state = .failed ∧
        (lane v l.other).cause = 6 ∧ lane v l = lane u l ∧ v.core = u.core))) ∧
  (∀ (r : Req) (s : State), let u := arrived r s
    Taken r true true s →
    (u.upd.step = .trial → ∃ v, exec (.updCtrlConfirm r) s = .next v ∧ Replied r (.ack []) v ∧
      v = { u with upd := { u.upd with confirmed := true }, hank := v.hank, sent := v.sent }) ∧
    (u.upd.step = .trial → u.upd.healthOk = false → standbyOld u = true → ∃ v, exec (.updCtrlReject r) s = .next v ∧
      Replied r (.ack []) v ∧ v.upd.step = .reverted ∧ v.upd.revertHand = true ∧ v.core = u.core ∧ v.sys = u.sys) ∧
    (u.upd.step ≠ .trial → ∃ v, exec (.updCtrlReject r) s = .next v ∧ Replied r (.ack []) v ∧
      v = { u with hank := v.hank, sent := v.sent }) ∧
    (∀ m, u.upd.step = .reverted → u.upd.man = some m → u.upd.revertedBlocked = true →
      (chunksVerify m u = true → ∃ v, exec (.updCtrlRestage r) s = .next v ∧ Replied r (.ack []) v ∧ v.upd.step = .staged ∧ v.upd.revertedBlocked = false ∧
        v = { u with upd := v.upd, hank := v.hank, sent := v.sent }) ∧
      (chunksVerify m u = false → ∃ v, exec (.updCtrlRestage r) s = .next v ∧ Replied r (.ack []) v ∧ v.upd = u.upd ∧
        counter v 0x001C0020 0 = (counter u 0x001C0020 0).inc.1)))

/-- R396, R397, R399, R400, R404: what the panel takes. A table that fails a check sets NOTABLE with an ERROR and stays out; a request within
the panel joins the queue, and one that does not fit, or comes while no table is valid, is refused. VCOM keeps its range.

R396, R398, R408: the panel's rails come up once their claim is admitted, go off after 1 s without an update and on a fault, which abandons
what runs; an interrupted update is taken as done where flash holds it, else its region is cleared. -/
def Obligations.PanelRequestsAndSupply : Prop :=
  ((∀ (t : Time) (w : WaveTable) (s : State), let u := advanceTo t s
     (tableOk w = false → ∃ v, exec (.panelTableLoad t w) s = .next v ∧ v.panel = { u.panel with notable := true } ∧
       v.skein.raised = u.skein.raised ++ [makeRecord .error 0x1B 0x0000 [8] u] ∧ v = { u with panel := v.panel, skein := v.skein }) ∧
     (tableOk w = true → u.upd.step ≠ .staged → u.upd.step ≠ .switching →
       exec (.panelTableLoad t w) s = .next { u with panel := { u.panel with table := w, notable := false } }) ∧
     (tableOk w = true → u.upd.step = .staged →
       exec (.panelTableLoad t w) s = .next { u with panel := { u.panel with nextTable := some w } })) ∧
   (∀ (r : Req) (mode : BitVec 2) (w : BitVec 11) (h : BitVec 10) (g : PanelDecl) (x : Word) (s : State), let u := arrived r s
     let pos := (perReq u r.who).pnlPos
     let j : PanelJob := { x := field pos 10 0, y := field pos 25 16, w := w.toNat, h := h.toNat, mode := mode.toNat }
     Taken r true true s →
     (u.panel.geom = some g → 1 ≤ j.w → 1 ≤ j.h → j.x + j.w ≤ g.width → j.y + j.h ≤ g.height → j.mode < 3 →
       (u.sys.state ≠ .dusk → u.panel.notable = false → panelRuns u = true → (∀ k ∈ u.panel.journal, overlaps j k = false) →
         (∀ k ∈ u.panel.queue, ¬(k.x = j.x ∧ k.y = j.y ∧ k.w = j.w ∧ k.h = j.h)) →
         (u.panel.queue.length < 16 → ∃ v, exec (.pnlReqGo r mode w h) s = .next v ∧ Replied r (.ack []) v ∧
           v.panel = { u.panel with queue := u.panel.queue ++ [j], railClaim := v.panel.railClaim } ∧ v.core = u.core ∧ v.sys = u.sys) ∧
         (16 ≤ u.panel.queue.length → (session u r.who).major ≠ 1 → ∃ v, exec (.pnlReqGo r mode w h) s = .next v ∧
           Replied r (.busy 100) v ∧ v.panel = u.panel)) ∧
       (u.panel.notable = true ∨ u.sys.state = .dusk → ∃ v, exec (.pnlReqGo r mode w h) s = .next v ∧ Replied r (.nak .wrongState 0) v ∧
         v = { u with hank := v.hank, sent := v.sent })) ∧
     (u.panel.geom = some g → (j.w = 0 ∨ j.h = 0 ∨ g.width < j.x + j.w ∨ g.height < j.y + j.h ∨ j.mode = 3) →
       ∃ v, exec (.pnlReqGo r mode w h) s = .next v ∧ Replied r (.nak .badValue 0) v ∧ v = { u with hank := v.hank, sent := v.sent }) ∧
     (field x 8 0 ≤ 280 → ∃ v, exec (.pnlVcomWrite r x) s = .next v ∧ Replied r (.ack []) v ∧
       v = { u with panel := { u.panel with vcom := x.truncate 9 }, hank := v.hank, sent := v.sent }) ∧
     (280 < field x 8 0 → ∃ v, exec (.pnlVcomWrite r x) s = .next v ∧ Replied r (.nak .badValue 0) v ∧
       v = { u with hank := v.hank, sent := v.sent }))) ∧
  (∀ (t : Time) (s : State), let u := advanceTo t s
     (panelRuns u = true → u.panel.railClaim = true → holds u 4 .panel = true →
       exec (.panelRailsUp t) s = .next { u with panel := { u.panel with rails := true, idleFrom := some u.sun.time } }) ∧
     (u.panel.railClaim = false ∨ holds u 4 .panel = false → exec (.panelRailsUp t) s = .next u) ∧
     (∀ i, u.panel.idleFrom = some i → u.panel.rails = true → u.panel.jobs = [] → u.panel.recovering = [] →
       i.toNat + 1000000000 ≤ u.sun.time.toNat → ∃ v, exec (.panelRailIdle t) s = .next v ∧
         v.panel = { u.panel with rails := false, railClaim := false, idleFrom := none } ∧ holds v 4 .panel = false ∧
         v = { u with panel := v.panel, tally := v.tally }) ∧
     (u.panel.rails = true → ∃ v, exec (.panelRailFault t) s = .next v ∧
       v.panel = { u.panel with jobs := [], recovering := [], rails := false, railClaim := false, idleFrom := none, railf := true,
                                railFaultAt := some u.sun.time } ∧ holds v 4 .panel = false ∧
       (∃ e ∈ v.skein.raised, e.sev = .error ∧ e.source = 0x1B ∧ e.args = [16]) ∧
       v = { u with panel := v.panel, tally := v.tally, skein := v.skein }) ∧
     (u.panel.rails = false → exec (.panelRailFault t) s = .next u) ∧
     (interrupted u = none → ∀ b, exec (.panelRecovery t b) s = .next u) ∧
     (∀ j, interrupted u = some j → panelRuns u = true →
       (u.sys.state = .dawn → u.sys.dawn ≠ .supplies ∧ u.sys.dawn ≠ .plls ∧ u.sys.dawn ≠ .selfTest) →
       (j.frames ≤ j.frame → ∃ v, exec (.panelRecovery t true) s = .next v ∧
         v.panel.journal = u.panel.journal.filter (fun k => decide (k.gen ≠ j.gen)) ∧
         (∀ p ∈ pixels j, SMap.get v.panel.committed 0 p = levelTo u j p ∧
           SMap.get v.panel.ledger 0 p = clampInt (-32767) 32767 (SMap.get u.panel.flashLedger 0 p + chargeSoFar u j p) ∧
           SMap.get v.panel.flashLedger 0 p = SMap.get v.panel.ledger 0 p) ∧
         (∀ p, p ∉ pixels j → SMap.get v.panel.committed 0 p = SMap.get u.panel.committed 0 p ∧
           SMap.get v.panel.ledger 0 p = SMap.get u.panel.ledger 0 p) ∧
         v = { u with panel := { u.panel with
           journal := v.panel.journal, committed := v.panel.committed, ledger := v.panel.ledger, flashLedger := v.panel.flashLedger
           stress := v.panel.stress } }) ∧
       (∀ b, b = false ∨ j.frame < j.frames → ∃ v n, exec (.panelRecovery t b) s = .next v ∧ v.panel.recovering = u.panel.recovering ++ [n] ∧ n.stage = 1 ∧ n.gen = j.gen ∧
         n.frame = 0 ∧ v.panel.journal = u.panel.journal ∧ v.panel.committed = u.panel.committed ∧ v.core = u.core ∧ v.sys = u.sys)))

/-- R401, R402, R406: a frame of a running update adds its charge to the ledger of every pixel it drives, within ±32,767, and to no other; a
finished update commits the levels and the ledgers of its region and deletes its journal record. -/
def Obligations.PanelKeepsBalance : Prop :=
  ∀ (t : Time) (temp : BitVec 8) (j : PanelJob) (s : State), let u := advanceTo t s
    (panelRuns u = false → exec (.panelFrameBoundary t temp) s = .next u) ∧
    (panelRuns u = true → u.panel.rails = true → u.panel.jobs = [j] → u.panel.recovering = [] → u.panel.queue = [] →
      j.frame < j.frames → j.x + j.w ≤ 1280 → ∃ v, exec (.panelFrameBoundary t temp) s = .next v ∧
        v.panel.jobs = [{ j with frame := j.frame + 1 }] ∧
        (∀ p ∈ pixels j, SMap.get v.panel.ledger 0 p =
          clampInt (-32767) 32767 (SMap.get u.panel.ledger 0 p + charge (codeAt u j p j.frame))) ∧
        (∀ p, p ∉ pixels j → SMap.get v.panel.ledger 0 p = SMap.get u.panel.ledger 0 p) ∧
        v.panel.committed = u.panel.committed ∧ v.panel.flashLedger = u.panel.flashLedger ∧ v = { u with panel := v.panel }) ∧
    (∀ n, panelRuns u = true → u.panel.jobs[n]? = some j → j.frames ≤ j.frame →
      ((∃ b, j.burst = some b ∧ waits u 4 (.flash 3 b) = false) ∨
        (j.burst = none ∧ (ledger u 4).queue = [] ∧ fits u 4 (flashClaim 3 u.tally.bursts) = true)) → ∃ v, exec (.panelUpdateComplete t n) s = .next v ∧
      v.panel.jobs = u.panel.jobs.eraseIdx n ∧ v.panel.journal = u.panel.journal.filter (fun k => decide (k.gen ≠ j.gen)) ∧
      (∀ p ∈ pixels j, SMap.get v.panel.committed 0 p = levelTo u j p ∧
        SMap.get v.panel.flashLedger 0 p = SMap.get u.panel.ledger 0 p) ∧
      (∀ p, p ∉ pixels j → SMap.get v.panel.committed 0 p = SMap.get u.panel.committed 0 p ∧
        SMap.get v.panel.flashLedger 0 p = SMap.get u.panel.flashLedger 0 p) ∧
      v.panel.ledger = u.panel.ledger ∧ v.core = u.core ∧ v.sys = u.sys)
end

