-- ==== Sys2Proof/Laws/Exec.lean ====
section
/-! SUPPORT. Every command's meaning by name: what `exec` answers for each constructor. -/
namespace Sys2Proof.Machine

theorem exec_vbatQualified (t : Time) (s : State) : exec (.vbatQualified t) s = execVbatQualified t s := rfl
theorem exec_kl15Rising (t : Time) (s : State) : exec (.kl15Rising t) s = execKl15Rising t s := rfl
theorem exec_wakeLineAsserted (t : Time) (line : Fin 4) (s : State) : exec (.wakeLineAsserted t line) s = execWakeLineAsserted t line s := rfl
theorem exec_rtcAlarm (t : Time) (s : State) : exec (.rtcAlarm t) s = execRtcAlarm t s := rfl
theorem exec_kl15Low200ms (t : Time) (s : State) : exec (.kl15Low200ms t) s = execKl15Low200ms t s := rfl
theorem exec_midnightPendingWake (t : Time) (s : State) : exec (.midnightPendingWake t) s = execMidnightPendingWake t s := rfl
theorem exec_resetNAsserted (t : Time) (s : State) : exec (.resetNAsserted t) s = execResetNAsserted t s := rfl
theorem exec_logicSuppliesUp (t : Time) (s : State) : exec (.logicSuppliesUp t) s = execLogicSuppliesUp t s := rfl
theorem exec_refPllsLocked (t : Time) (refOk : Bool) (s : State) : exec (.refPllsLocked t refOk) s = execRefPllsLocked t refOk s := rfl
theorem exec_selfTestComplete (t : Time) (passA passB imuOk panelFitted : Bool) (s : State) : exec (.selfTestComplete t passA passB imuOk panelFitted) s = execSelfTestComplete t passA passB imuOk panelFitted s := rfl
theorem exec_distaffBooted (t : Time) (s : State) : exec (.distaffBooted t) s = execDistaffBooted t s := rfl
theorem exec_journalRecovery (t : Time) (s : State) : exec (.journalRecovery t) s = execJournalRecovery t s := rfl
theorem exec_copReadDone (t : Time) (s : State) : exec (.copReadDone t) s = execCopReadDone t s := rfl
theorem exec_copValidationDone (t : Time) (c : Cop) (s : State) : exec (.copValidationDone t c) s = execCopValidationDone t c s := rfl
theorem exec_standbyCopyDone (t : Time) (ok : Bool) (s : State) : exec (.standbyCopyDone t ok) s = execStandbyCopyDone t ok s := rfl
theorem exec_arm (r : Req) (s : State) : exec (.arm r) s = execArm r s := rfl
theorem exec_autoarm (t : Time) (s : State) : exec (.autoarm t) s = execAutoarm t s := rfl
theorem exec_armOutputStart (t : Time) (s : State) : exec (.armOutputStart t) s = execArmOutputStart t s := rfl
theorem exec_disarm (r : Req) (s : State) : exec (.disarm r) s = execDisarm r s := rfl
theorem exec_duskStepDone (t : Time) (s : State) : exec (.duskStepDone t) s = execDuskStepDone t s := rfl
theorem exec_duskTimeout (t : Time) (s : State) : exec (.duskTimeout t) s = execDuskTimeout t s := rfl
theorem exec_holdupStart (t : Time) (s : State) : exec (.holdupStart t) s = execHoldupStart t s := rfl
theorem exec_holdupExhausted (t : Time) (s : State) : exec (.holdupExhausted t) s = execHoldupExhausted t s := rfl
theorem exec_huReady (t : Time) (ms : Nat) (s : State) : exec (.huReady t ms) s = execHuReady t ms s := rfl
theorem exec_hello (r : Req) (m : HelloMsg) (s : State) : exec (.hello r m) s = execHello r m s := rfl
theorem exec_regRd (r : Req) (addr : Word) (s : State) : exec (.regRd r addr) s = execRegRd r addr s := rfl
theorem exec_regWr (r : Req) (addr v : Word) (s : State) : exec (.regWr r addr v) s = execRegWr r addr v s := rfl
theorem exec_regWrm (r : Req) (addr mask v : Word) (s : State) : exec (.regWrm r addr mask v) s = execRegWrm r addr mask v s := rfl
theorem exec_blockRd (r : Req) (addr : Word) (count : Nat) (win : Nat) (s : State) : exec (.blockRd r addr count win) s = execBlockRd r addr count win s := rfl
theorem exec_blockWr (r : Req) (addr : Word) (win : Nat) (words : List Word) (s : State) : exec (.blockWr r addr win words) s = execBlockWr r addr win words s := rfl
theorem exec_copLoadBegin (r : Req) (total : Nat) (digest : BitVec 256) (s : State) : exec (.copLoadBegin r total digest) s = execCopLoadBegin r total digest s := rfl
theorem exec_copLoadData (r : Req) (offset : Nat) (bytes : List Byte) (s : State) : exec (.copLoadData r offset bytes) s = execCopLoadData r offset bytes s := rfl
theorem exec_copLoadCommit (r : Req) (s : State) : exec (.copLoadCommit r) s = execCopLoadCommit r s := rfl
theorem exec_copLoadRevert (r : Req) (s : State) : exec (.copLoadRevert r) s = execCopLoadRevert r s := rfl
theorem exec_copLoadAbort (r : Req) (s : State) : exec (.copLoadAbort r) s = execCopLoadAbort r s := rfl
theorem exec_funcReinit (r : Req) (mask : BitVec 64) (s : State) : exec (.funcReinit r mask) s = execFuncReinit r mask s := rfl
theorem exec_funcRestartDone (t : Time) (fn : Fin 45) (s : State) : exec (.funcRestartDone t fn) s = execFuncRestartDone t fn s := rfl
theorem exec_warmReset (r : Req) (s : State) : exec (.warmReset r) s = execWarmReset r s := rfl
theorem exec_activate (r : Req) (id : BitVec 64) (mode : Nat) (s : State) : exec (.activate r id mode) s = execActivate r id mode s := rfl
theorem exec_streamHostWrite (r : Req) (chan : Nat) (p : StreamPayload) (s : State) : exec (.streamHostWrite r chan p) s = execStreamHostWrite r chan p s := rfl
theorem exec_streamSubscribe (r : Req) (chan : Nat) (sub : Bool) (s : State) : exec (.streamSubscribe r chan sub) s = execStreamSubscribe r chan sub s := rfl
theorem exec_streamOutSend (t : Time) (chan : Nat) (s : State) : exec (.streamOutSend t chan) s = execStreamOutSend t chan s := rfl
theorem exec_hankAuthFail (t : Time) (s : State) : exec (.hankAuthFail t) s = execHankAuthFail t s := rfl
theorem exec_distaffQueueService (t : Time) (serviceUs : Nat) (s : State) : exec (.distaffQueueService t serviceUs) s = execDistaffQueueService t serviceUs s := rfl
theorem exec_distaffWatchdogMiss (t : Time) (s : State) : exec (.distaffWatchdogMiss t) s = execDistaffWatchdogMiss t s := rfl
theorem exec_hankSessionTimeout (t : Time) (who : Requester) (s : State) : exec (.hankSessionTimeout t who) s = execHankSessionTimeout t who s := rfl
theorem exec_serviceFrameBad (t : Time) (s : State) : exec (.serviceFrameBad t) s = execServiceFrameBad t s := rfl
theorem exec_sysCtrlDusk (r : Req) (s : State) : exec (.sysCtrlDusk r) s = execSysCtrlDusk r s := rfl
theorem exec_sysCtrlHoldOff (r : Req) (s : State) : exec (.sysCtrlHoldOff r) s = execSysCtrlHoldOff r s := rfl
theorem exec_sysCtrlStayDawn (r : Req) (on : Bool) (s : State) : exec (.sysCtrlStayDawn r on) s = execSysCtrlStayDawn r on s := rfl
theorem exec_sysLockSet (r : Req) (bits : BitVec 5) (s : State) : exec (.sysLockSet r bits) s = execSysLockSet r bits s := rfl
theorem exec_counterSatClear (r : Req) (addr : Word) (s : State) : exec (.counterSatClear r addr) s = execCounterSatClear r addr s := rfl
theorem exec_loRegisterRead (r : Req) (addr : Word) (s : State) : exec (.loRegisterRead r addr) s = execLoRegisterRead r addr s := rfl
theorem exec_loRegisterWrite (r : Req) (addr v : Word) (s : State) : exec (.loRegisterWrite r addr v) s = execLoRegisterWrite r addr v s := rfl
theorem exec_hiRegisterWrite (r : Req) (addr v : Word) (s : State) : exec (.hiRegisterWrite r addr v) s = execHiRegisterWrite r addr v s := rfl
theorem exec_indCtrlWrite (r : Req) (v : Word) (s : State) : exec (.indCtrlWrite r v) s = execIndCtrlWrite r v s := rfl
theorem exec_indDataRead (r : Req) (s : State) : exec (.indDataRead r) s = execIndDataRead r s := rfl
theorem exec_indDataWrite (r : Req) (v : Word) (s : State) : exec (.indDataWrite r v) s = execIndDataWrite r v s := rfl
theorem exec_triplicateScrub (t : Time) (s : State) : exec (.triplicateScrub t) s = execTriplicateScrub t s := rfl
theorem exec_taskReleasePeriodic (t : Time) (task : Nat) (s : State) : exec (.taskReleasePeriodic t task) s = execTaskReleasePeriodic t task s := rfl
theorem exec_taskReleaseArrival (t : Time) (task : Nat) (s : State) : exec (.taskReleaseArrival t task) s = execTaskReleaseArrival t task s := rfl
theorem exec_activationStart (t : Time) (sp : Fin 64) (s : State) : exec (.activationStart t sp) s = execActivationStart t sp s := rfl
theorem exec_sigWaitResume (t : Time) (sp : Fin 64) (s : State) : exec (.sigWaitResume t sp) s = execSigWaitResume t sp s := rfl
theorem exec_barrierResume (t : Time) (group : Fin 16) (ti : Time) (s : State) : exec (.barrierResume t group ti) s = execBarrierResume t group ti s := rfl
theorem exec_add (x : Slot) (d a b : GReg) (s : State) : exec (.add x d a b) s = execAdd x d a b s := rfl
theorem exec_sub (x : Slot) (d a b : GReg) (s : State) : exec (.sub x d a b) s = execSub x d a b s := rfl
theorem exec_mul (x : Slot) (d a b : GReg) (s : State) : exec (.mul x d a b) s = execMul x d a b s := rfl
theorem exec_mulh (x : Slot) (d a b : GReg) (s : State) : exec (.mulh x d a b) s = execMulh x d a b s := rfl
theorem exec_mulhu (x : Slot) (d a b : GReg) (s : State) : exec (.mulhu x d a b) s = execMulhu x d a b s := rfl
theorem exec_div (x : Slot) (d a b : GReg) (s : State) : exec (.div x d a b) s = execDiv x d a b s := rfl
theorem exec_divu (x : Slot) (d a b : GReg) (s : State) : exec (.divu x d a b) s = execDivu x d a b s := rfl
theorem exec_rem (x : Slot) (d a b : GReg) (s : State) : exec (.rem x d a b) s = execRem x d a b s := rfl
theorem exec_remu (x : Slot) (d a b : GReg) (s : State) : exec (.remu x d a b) s = execRemu x d a b s := rfl
theorem exec_and_ (x : Slot) (d a b : GReg) (s : State) : exec (.and_ x d a b) s = execAnd x d a b s := rfl
theorem exec_or_ (x : Slot) (d a b : GReg) (s : State) : exec (.or_ x d a b) s = execOr x d a b s := rfl
theorem exec_xor (x : Slot) (d a b : GReg) (s : State) : exec (.xor x d a b) s = execXor x d a b s := rfl
theorem exec_andn (x : Slot) (d a b : GReg) (s : State) : exec (.andn x d a b) s = execAndn x d a b s := rfl
theorem exec_shl (x : Slot) (d a b : GReg) (s : State) : exec (.shl x d a b) s = execShl x d a b s := rfl
theorem exec_shr (x : Slot) (d a b : GReg) (s : State) : exec (.shr x d a b) s = execShr x d a b s := rfl
theorem exec_sra (x : Slot) (d a b : GReg) (s : State) : exec (.sra x d a b) s = execSra x d a b s := rfl
theorem exec_rol (x : Slot) (d a b : GReg) (s : State) : exec (.rol x d a b) s = execRol x d a b s := rfl
theorem exec_min (x : Slot) (d a b : GReg) (s : State) : exec (.min x d a b) s = execMin x d a b s := rfl
theorem exec_max (x : Slot) (d a b : GReg) (s : State) : exec (.max x d a b) s = execMax x d a b s := rfl
theorem exec_minu (x : Slot) (d a b : GReg) (s : State) : exec (.minu x d a b) s = execMinu x d a b s := rfl
theorem exec_maxu (x : Slot) (d a b : GReg) (s : State) : exec (.maxu x d a b) s = execMaxu x d a b s := rfl
theorem exec_clz (x : Slot) (d a : GReg) (s : State) : exec (.clz x d a) s = execClz x d a s := rfl
theorem exec_popc (x : Slot) (d a : GReg) (s : State) : exec (.popc x d a) s = execPopc x d a s := rfl
theorem exec_addi (x : Slot) (d a : GReg) (imm : BitVec 13) (s : State) : exec (.addi x d a imm) s = execAddi x d a imm s := rfl
theorem exec_andi (x : Slot) (d a : GReg) (imm : BitVec 13) (s : State) : exec (.andi x d a imm) s = execAndi x d a imm s := rfl
theorem exec_ori (x : Slot) (d a : GReg) (imm : BitVec 13) (s : State) : exec (.ori x d a imm) s = execOri x d a imm s := rfl
theorem exec_xori (x : Slot) (d a : GReg) (imm : BitVec 13) (s : State) : exec (.xori x d a imm) s = execXori x d a imm s := rfl
theorem exec_shli (x : Slot) (d a : GReg) (sh : BitVec 5) (s : State) : exec (.shli x d a sh) s = execShli x d a sh s := rfl
theorem exec_shri (x : Slot) (d a : GReg) (sh : BitVec 5) (s : State) : exec (.shri x d a sh) s = execShri x d a sh s := rfl
theorem exec_srai (x : Slot) (d a : GReg) (sh : BitVec 5) (s : State) : exec (.srai x d a sh) s = execSrai x d a sh s := rfl
theorem exec_roli (x : Slot) (d a : GReg) (sh : BitVec 5) (s : State) : exec (.roli x d a sh) s = execRoli x d a sh s := rfl
theorem exec_movi (x : Slot) (d : GReg) (imm : BitVec 13) (s : State) : exec (.movi x d imm) s = execMovi x d imm s := rfl
theorem exec_ldc (x : Slot) (d : GReg) (imm : BitVec 13) (s : State) : exec (.ldc x d imm) s = execLdc x d imm s := rfl
theorem exec_ldw (x : Slot) (d a : GReg) (imm : BitVec 13) (s : State) : exec (.ldw x d a imm) s = execLdw x d a imm s := rfl
theorem exec_ldh (x : Slot) (d a : GReg) (imm : BitVec 13) (s : State) : exec (.ldh x d a imm) s = execLdh x d a imm s := rfl
theorem exec_ldhu (x : Slot) (d a : GReg) (imm : BitVec 13) (s : State) : exec (.ldhu x d a imm) s = execLdhu x d a imm s := rfl
theorem exec_ldb (x : Slot) (d a : GReg) (imm : BitVec 13) (s : State) : exec (.ldb x d a imm) s = execLdb x d a imm s := rfl
theorem exec_ldbu (x : Slot) (d a : GReg) (imm : BitVec 13) (s : State) : exec (.ldbu x d a imm) s = execLdbu x d a imm s := rfl
theorem exec_stw (x : Slot) (data a : GReg) (imm : BitVec 13) (s : State) : exec (.stw x data a imm) s = execStw x data a imm s := rfl
theorem exec_sth (x : Slot) (data a : GReg) (imm : BitVec 13) (s : State) : exec (.sth x data a imm) s = execSth x data a imm s := rfl
theorem exec_stb (x : Slot) (data a : GReg) (imm : BitVec 13) (s : State) : exec (.stb x data a imm) s = execStb x data a imm s := rfl
theorem exec_qadd (x : Slot) (d a b : GReg) (s : State) : exec (.qadd x d a b) s = execQadd x d a b s := rfl
theorem exec_qsub (x : Slot) (d a b : GReg) (s : State) : exec (.qsub x d a b) s = execQsub x d a b s := rfl
theorem exec_qneg (x : Slot) (d a : GReg) (s : State) : exec (.qneg x d a) s = execQneg x d a s := rfl
theorem exec_qabs (x : Slot) (d a : GReg) (s : State) : exec (.qabs x d a) s = execQabs x d a s := rfl
theorem exec_qmul16 (x : Slot) (d a b : GReg) (s : State) : exec (.qmul16 x d a b) s = execQmul16 x d a b s := rfl
theorem exec_qmul31 (x : Slot) (d a b : GReg) (s : State) : exec (.qmul31 x d a b) s = execQmul31 x d a b s := rfl
theorem exec_qshl (x : Slot) (d a b : GReg) (s : State) : exec (.qshl x d a b) s = execQshl x d a b s := rfl
theorem exec_fadd (x : Slot) (d a b : GReg) (s : State) : exec (.fadd x d a b) s = execFadd x d a b s := rfl
theorem exec_fsub (x : Slot) (d a b : GReg) (s : State) : exec (.fsub x d a b) s = execFsub x d a b s := rfl
theorem exec_fmul (x : Slot) (d a b : GReg) (s : State) : exec (.fmul x d a b) s = execFmul x d a b s := rfl
theorem exec_fdiv (x : Slot) (d a b : GReg) (s : State) : exec (.fdiv x d a b) s = execFdiv x d a b s := rfl
theorem exec_fsqrt (x : Slot) (d a : GReg) (s : State) : exec (.fsqrt x d a) s = execFsqrt x d a s := rfl
theorem exec_ffma (x : Slot) (d a b : GReg) (s : State) : exec (.ffma x d a b) s = execFfma x d a b s := rfl
theorem exec_fmin (x : Slot) (d a b : GReg) (s : State) : exec (.fmin x d a b) s = execFmin x d a b s := rfl
theorem exec_fmax (x : Slot) (d a b : GReg) (s : State) : exec (.fmax x d a b) s = execFmax x d a b s := rfl
theorem exec_fabs (x : Slot) (d a : GReg) (s : State) : exec (.fabs x d a) s = execFabs x d a s := rfl
theorem exec_fneg (x : Slot) (d a : GReg) (s : State) : exec (.fneg x d a) s = execFneg x d a s := rfl
theorem exec_f2i (x : Slot) (d a : GReg) (s : State) : exec (.f2i x d a) s = execF2i x d a s := rfl
theorem exec_i2f (x : Slot) (d a : GReg) (s : State) : exec (.i2f x d a) s = execI2f x d a s := rfl
theorem exec_f2q16 (x : Slot) (d a : GReg) (s : State) : exec (.f2q16 x d a) s = execF2q16 x d a s := rfl
theorem exec_q162f (x : Slot) (d a : GReg) (s : State) : exec (.q162f x d a) s = execQ162f x d a s := rfl
theorem exec_f2q31 (x : Slot) (d a : GReg) (s : State) : exec (.f2q31 x d a) s = execF2q31 x d a s := rfl
theorem exec_q312f (x : Slot) (d a : GReg) (s : State) : exec (.q312f x d a) s = execQ312f x d a s := rfl
theorem exec_ieq (x : Slot) (d : PReg) (a b : GReg) (s : State) : exec (.ieq x d a b) s = execIeq x d a b s := rfl
theorem exec_ine (x : Slot) (d : PReg) (a b : GReg) (s : State) : exec (.ine x d a b) s = execIne x d a b s := rfl
theorem exec_ilt (x : Slot) (d : PReg) (a b : GReg) (s : State) : exec (.ilt x d a b) s = execIlt x d a b s := rfl
theorem exec_ige (x : Slot) (d : PReg) (a b : GReg) (s : State) : exec (.ige x d a b) s = execIge x d a b s := rfl
theorem exec_iltu (x : Slot) (d : PReg) (a b : GReg) (s : State) : exec (.iltu x d a b) s = execIltu x d a b s := rfl
theorem exec_igeu (x : Slot) (d : PReg) (a b : GReg) (s : State) : exec (.igeu x d a b) s = execIgeu x d a b s := rfl
theorem exec_ieqi (x : Slot) (d : PReg) (a : GReg) (imm : BitVec 13) (s : State) : exec (.ieqi x d a imm) s = execIeqi x d a imm s := rfl
theorem exec_inei (x : Slot) (d : PReg) (a : GReg) (imm : BitVec 13) (s : State) : exec (.inei x d a imm) s = execInei x d a imm s := rfl
theorem exec_ilti (x : Slot) (d : PReg) (a : GReg) (imm : BitVec 13) (s : State) : exec (.ilti x d a imm) s = execIlti x d a imm s := rfl
theorem exec_igei (x : Slot) (d : PReg) (a : GReg) (imm : BitVec 13) (s : State) : exec (.igei x d a imm) s = execIgei x d a imm s := rfl
theorem exec_feq (x : Slot) (d : PReg) (a b : GReg) (s : State) : exec (.feq x d a b) s = execFeq x d a b s := rfl
theorem exec_fne (x : Slot) (d : PReg) (a b : GReg) (s : State) : exec (.fne x d a b) s = execFne x d a b s := rfl
theorem exec_flt (x : Slot) (d : PReg) (a b : GReg) (s : State) : exec (.flt x d a b) s = execFlt x d a b s := rfl
theorem exec_fle (x : Slot) (d : PReg) (a b : GReg) (s : State) : exec (.fle x d a b) s = execFle x d a b s := rfl
theorem exec_fgt (x : Slot) (d : PReg) (a b : GReg) (s : State) : exec (.fgt x d a b) s = execFgt x d a b s := rfl
theorem exec_fge (x : Slot) (d : PReg) (a b : GReg) (s : State) : exec (.fge x d a b) s = execFge x d a b s := rfl
theorem exec_fun (x : Slot) (d : PReg) (a b : GReg) (s : State) : exec (.fun x d a b) s = execFun x d a b s := rfl
theorem exec_pand (x : Slot) (d a b : PReg) (s : State) : exec (.pand x d a b) s = execPand x d a b s := rfl
theorem exec_por (x : Slot) (d a b : PReg) (s : State) : exec (.por x d a b) s = execPor x d a b s := rfl
theorem exec_pxor (x : Slot) (d a b : PReg) (s : State) : exec (.pxor x d a b) s = execPxor x d a b s := rfl
theorem exec_pandn (x : Slot) (d a b : PReg) (s : State) : exec (.pandn x d a b) s = execPandn x d a b s := rfl
theorem exec_pnot (x : Slot) (d a : PReg) (s : State) : exec (.pnot x d a) s = execPnot x d a s := rfl
theorem exec_pmov (x : Slot) (d a : PReg) (s : State) : exec (.pmov x d a) s = execPmov x d a s := rfl
theorem exec_br (x : Slot) (imm : BitVec 13) (s : State) : exec (.br x imm) s = execBr x imm s := rfl
theorem exec_loop (x : Slot) (a : GReg) (imm : BitVec 13) (s : State) : exec (.loop x a imm) s = execLoop x a imm s := rfl
theorem exec_next_ (x : Slot) (s : State) : exec (.next_ x) s = execNext x s := rfl
theorem exec_brk (x : Slot) (s : State) : exec (.brk x) s = execBrk x s := rfl
theorem exec_end_ (x : Slot) (s : State) : exec (.end_ x) s = execEnd x s := rfl
theorem exec_trap (x : Slot) (imm : BitVec 13) (s : State) : exec (.trap x imm) s = execTrap x imm s := rfl
theorem exec_bar (x : Slot) (n : Fin 16) (s : State) : exec (.bar x n) s = execBar x n s := rfl
theorem exec_timeTi (x : Slot) (d : GReg) (hi : Bool) (s : State) : exec (.timeTi x d hi) s = execTimeTi x d hi s := rfl
theorem exec_timeNow (x : Slot) (d : GReg) (hi : Bool) (s : State) : exec (.timeNow x d hi) s = execTimeNow x d hi s := rfl
theorem exec_sigRd (x : Slot) (d : GReg) (h : Byte) (ix : GReg) (s : State) : exec (.sigRd x d h ix) s = execSigRd x d h ix s := rfl
theorem exec_sigSt (x : Slot) (d : GReg) (h : Byte) (ix : GReg) (s : State) : exec (.sigSt x d h ix) s = execSigSt x d h ix s := rfl
theorem exec_sigAge (x : Slot) (d : GReg) (h : Byte) (ix : GReg) (s : State) : exec (.sigAge x d h ix) s = execSigAge x d h ix s := rfl
theorem exec_sigWr (x : Slot) (ix : GReg) (h : Byte) (st : BitVec 4) (a : GReg) (s : State) : exec (.sigWr x ix h st a) s = execSigWr x ix h st a s := rfl
theorem exec_bobPush (x : Slot) (d : PReg) (b : Fin 16) (addr len : GReg) (s : State) : exec (.bobPush x d b addr len) s = execBobPush x d b addr len s := rfl
theorem exec_bobPop (x : Slot) (d : GReg) (b : Fin 16) (addr len : GReg) (s : State) : exec (.bobPop x d b addr len) s = execBobPop x d b addr len s := rfl
theorem exec_bobPeek (x : Slot) (d : GReg) (b : Fin 16) (sel : BitVec 5) (s : State) : exec (.bobPeek x d b sel) s = execBobPeek x d b sel s := rfl
theorem exec_lawIn (x : Slot) (l : BitVec 6) (sel : BitVec 4) (a : GReg) (s : State) : exec (.lawIn x l sel a) s = execLawIn x l sel a s := rfl
theorem exec_lawStep (x : Slot) (l : BitVec 6) (s : State) : exec (.lawStep x l) s = execLawStep x l s := rfl
theorem exec_lawOut (x : Slot) (d : GReg) (l : BitVec 6) (sel : BitVec 4) (s : State) : exec (.lawOut x d l sel) s = execLawOut x d l sel s := rfl
theorem exec_outSw (x : Slot) (h : BitVec 6) (a : GReg) (s : State) : exec (.outSw x h a) s = execOutSw x h a s := rfl
theorem exec_outPwm (x : Slot) (h : BitVec 6) (a : GReg) (s : State) : exec (.outPwm x h a) s = execOutPwm x h a s := rfl
theorem exec_outSolCur (x : Slot) (h : BitVec 6) (a : GReg) (s : State) : exec (.outSolCur x h a) s = execOutSolCur x h a s := rfl
theorem exec_outSolProf (x : Slot) (h : BitVec 6) (a : GReg) (s : State) : exec (.outSolProf x h a) s = execOutSolProf x h a s := rfl
theorem exec_outSolRel (x : Slot) (h : BitVec 6) (s : State) : exec (.outSolRel x h) s = execOutSolRel x h s := rfl
theorem exec_bobbinWaitResume (t : Time) (bob : Nat) (s : State) : exec (.bobbinWaitResume t bob) s = execBobbinWaitResume t bob s := rfl
theorem exec_twiRcClear (r : Req) (unit table : Nat) (s : State) : exec (.twiRcClear r unit table) s = execTwiRcClear r unit table s := rfl
theorem exec_adcSlot (t : Time) (a : Fin 12) (code : BitVec 16) (cal : Option (Int × Int)) (s : State) : exec (.adcSlot t a code cal) s = execAdcSlot t a code cal s := rfl
theorem exec_adcCalAgeExpired (t : Time) (a : Fin 12) (s : State) : exec (.adcCalAgeExpired t a) s = execAdcCalAgeExpired t a s := rfl
theorem exec_ainBurdenOpen (t : Time) (input : Fin 96) (s : State) : exec (.ainBurdenOpen t input) s = execAinBurdenOpen t input s := rfl
theorem exec_ainBurdenClose (t : Time) (input : Fin 96) (s : State) : exec (.ainBurdenClose t input) s = execAinBurdenClose t input s := rfl
theorem exec_freqEdge (t : Time) (input : Fin 96) (s : State) : exec (.freqEdge t input) s = execFreqEdge t input s := rfl
theorem exec_shaftEdge (t : Time) (track : Fin 16) (heldNs : Nat) (reverse : Bool) (s : State) : exec (.shaftEdge t track heldNs reverse) s = execShaftEdge t track heldNs reverse s := rfl
theorem exec_shaftIndexEdge (t : Time) (track : Fin 16) (s : State) : exec (.shaftIndexEdge t track) s = execShaftIndexEdge t track s := rfl
theorem exec_shaftGridSample (t : Time) (track : Fin 16) (s : State) : exec (.shaftGridSample t track) s = execShaftGridSample t track s := rfl
theorem exec_shaftStop (t : Time) (track : Fin 16) (s : State) : exec (.shaftStop t track) s = execShaftStop t track s := rfl
theorem exec_psi5SyncPulse (t : Time) (port : Fin 12) (s : State) : exec (.psi5SyncPulse t port) s = execPsi5SyncPulse t port s := rfl
theorem exec_psi5Frame (t : Time) (port : Fin 12) (slot : Fin 4) (startBit : Time) (f : Psi5Frame) (s : State) : exec (.psi5Frame t port slot startBit f) s = execPsi5Frame t port slot startBit f s := rfl
theorem exec_sentFrame (t : Time) (port : Fin 12) (calPulse : Time) (f : SentFrame) (s : State) : exec (.sentFrame t port calPulse f) s = execSentFrame t port calPulse f s := rfl
theorem exec_portSupplyOvercurrent (t : Time) (port : Fin 12) (s : State) : exec (.portSupplyOvercurrent t port) s = execPortSupplyOvercurrent t port s := rfl
theorem exec_portSupplyRetry (t : Time) (port : Fin 12) (s : State) : exec (.portSupplyRetry t port) s = execPortSupplyRetry t port s := rfl
theorem exec_supCurrentLimit (t : Time) (sup : Fin 16) (s : State) : exec (.supCurrentLimit t sup) s = execSupCurrentLimit t sup s := rfl
theorem exec_supRetry (t : Time) (sup : Fin 16) (s : State) : exec (.supRetry t sup) s = execSupRetry t sup s := rfl
theorem exec_supSettled (t : Time) (sup : Fin 16) (s : State) : exec (.supSettled t sup) s = execSupSettled t sup s := rfl
theorem exec_imuSample (t : Time) (values : List Word) (temp : BitVec 16) (fullScale : Bool) (s : State) : exec (.imuSample t values temp fullScale) s = execImuSample t values temp fullScale s := rfl
theorem exec_strikeSample (t : Time) (ch : Fin 32) (code : BitVec 14) (s : State) : exec (.strikeSample t ch code) s = execStrikeSample t ch code s := rfl
theorem exec_strikeFloorHold (t : Time) (ch : Fin 32) (s : State) : exec (.strikeFloorHold t ch) s = execStrikeFloorHold t ch s := rfl
theorem exec_strikeWindowCaptured (t : Time) (ch : Fin 32) (s : State) : exec (.strikeWindowCaptured t ch) s = execStrikeWindowCaptured t ch s := rfl
theorem exec_strikeClassifyDone (t : Time) (engine : Fin 4) (s : State) : exec (.strikeClassifyDone t engine) s = execStrikeClassifyDone t engine s := rfl
theorem exec_strikeBinClose (t : Time) (s : State) : exec (.strikeBinClose t) s = execStrikeBinClose t s := rfl
theorem exec_strikeFaultEnter (t : Time) (ch : Fin 32) (s : State) : exec (.strikeFaultEnter t ch) s = execStrikeFaultEnter t ch s := rfl
theorem exec_strikeFaultLeave (t : Time) (ch : Fin 32) (s : State) : exec (.strikeFaultLeave t ch) s = execStrikeFaultLeave t ch s := rfl
theorem exec_plySampleEntry (t : Time) (source : Fin 64) (s : State) : exec (.plySampleEntry t source) s = execPlySampleEntry t source s := rfl
theorem exec_plySync (t : Time) (source : Fin 64) (s : State) : exec (.plySync t source) s = execPlySync t source s := rfl
theorem exec_plyEpoch (t : Time) (tk : Time) (s : State) : exec (.plyEpoch t tk) s = execPlyEpoch t tk s := rfl
theorem exec_plyLateflagEval (t : Time) (s : State) : exec (.plyLateflagEval t) s = execPlyLateflagEval t s := rfl
theorem exec_poseHistoryAppend (t : Time) (s : State) : exec (.poseHistoryAppend t) s = execPoseHistoryAppend t s := rfl
theorem exec_yieldRecordClose (t : Time) (ch : Fin 4) (s : State) : exec (.yieldRecordClose t ch) s = execYieldRecordClose t ch s := rfl
theorem exec_yieldRecordPush (t : Time) (ch : Fin 4) (s : State) : exec (.yieldRecordPush t ch) s = execYieldRecordPush t ch s := rfl
theorem exec_gnssAidingApply (t : Time) (s : State) : exec (.gnssAidingApply t) s = execGnssAidingApply t s := rfl
theorem exec_gnssAidingTimeout (t : Time) (s : State) : exec (.gnssAidingTimeout t) s = execGnssAidingTimeout t s := rfl
theorem exec_gnssMeasEpoch (t : Time) (meas : List GnssMeas) (fronts : GnssFronts) (offset : Option Int) (s : State) : exec (.gnssMeasEpoch t meas fronts offset) s = execGnssMeasEpoch t meas fronts offset s := rfl
theorem exec_gnssExclusionRelease (t : Time) (ch : Fin 256) (s : State) : exec (.gnssExclusionRelease t ch) s = execGnssExclusionRelease t ch s := rfl
theorem exec_gnssSpoofClear (t : Time) (s : State) : exec (.gnssSpoofClear t) s = execGnssSpoofClear t s := rfl
theorem exec_positionSolution (t : Time) (sol : Solution) (s : State) : exec (.positionSolution t sol) s = execPositionSolution t sol s := rfl
theorem exec_searchCellFound (t : Time) (engine : Fin 32) (ch : Fin 256) (s : State) : exec (.searchCellFound t engine ch) s = execSearchCellFound t engine ch s := rfl
theorem exec_searchDwellDone (t : Time) (engine : Fin 32) (s : State) : exec (.searchDwellDone t engine) s = execSearchDwellDone t engine s := rfl
theorem exec_channelPullinEnd (t : Time) (ch : Fin 256) (handover : Option (Fin 256)) (s : State) : exec (.channelPullinEnd t ch handover) s = execChannelPullinEnd t ch handover s := rfl
theorem exec_channelCoastEnter (t : Time) (ch : Fin 256) (s : State) : exec (.channelCoastEnter t ch) s = execChannelCoastEnter t ch s := rfl
theorem exec_channelCoastTimeout (t : Time) (ch : Fin 256) (engine : Option (Fin 32)) (s : State) : exec (.channelCoastTimeout t ch engine) s = execChannelCoastTimeout t ch engine s := rfl
theorem exec_channelRelock (t : Time) (ch : Fin 256) (s : State) : exec (.channelRelock t ch) s = execChannelRelock t ch s := rfl
theorem exec_antennaBiasShort (t : Time) (ant : Fin 2) (s : State) : exec (.antennaBiasShort t ant) s = execAntennaBiasShort t ant s := rfl
theorem exec_antennaBiasRetry (t : Time) (ant : Fin 2) (s : State) : exec (.antennaBiasRetry t ant) s = execAntennaBiasRetry t ant s := rfl
theorem exec_antennaOpen (t : Time) (ant : Fin 2) (s : State) : exec (.antennaOpen t ant) s = execAntennaOpen t ant s := rfl
theorem exec_rtcmFrame (t : Time) (bytes : List Byte) (crcOk : Bool) (msg : Nat) (s : State) : exec (.rtcmFrame t bytes crcOk msg) s = execRtcmFrame t bytes crcOk msg s := rfl
theorem exec_tallyQueueAdmit (t : Time) (supply : Fin 5) (s : State) : exec (.tallyQueueAdmit t supply) s = execTallyQueueAdmit t supply s := rfl
theorem exec_tallyClaimRefused (t : Time) (supply : Fin 5) (ch : Chan) (s : State) : exec (.tallyClaimRefused t supply ch) s = execTallyClaimRefused t supply ch s := rfl
theorem exec_tallyTransientEnd (t : Time) (supply : Fin 5) (index : Nat) (s : State) : exec (.tallyTransientEnd t supply index) s = execTallyTransientEnd t supply index s := rfl
theorem exec_vbatClaimWaitWarn (t : Time) (index : Nat) (s : State) : exec (.vbatClaimWaitWarn t index) s = execVbatClaimWaitWarn t index s := rfl
theorem exec_lswLimitEngage (t : Time) (ch : Fin 48) (current : BitVec 16) (s : State) : exec (.lswLimitEngage t ch current) s = execLswLimitEngage t ch current s := rfl
theorem exec_lswTrip (t : Time) (ch : Fin 48) (s : State) : exec (.lswTrip t ch) s = execLswTrip t ch s := rfl
theorem exec_lswThermalLatch (t : Time) (ch : Fin 48) (s : State) : exec (.lswThermalLatch t ch) s = execLswThermalLatch t ch s := rfl
theorem exec_lswThermalRelease (t : Time) (ch : Fin 48) (s : State) : exec (.lswThermalRelease t ch) s = execLswThermalRelease t ch s := rfl
theorem exec_lswBackoffEnd (t : Time) (ch : Fin 48) (s : State) : exec (.lswBackoffEnd t ch) s = execLswBackoffEnd t ch s := rfl
theorem exec_lswClear (r : Req) (ch : BitVec 6) (s : State) : exec (.lswClear r ch) s = execLswClear r ch s := rfl
theorem exec_lswLimpEn (r : Req) (s : State) : exec (.lswLimpEn r) s = execLswLimpEn r s := rfl
theorem exec_lswDirMapWrite (r : Req) (v : Word) (s : State) : exec (.lswDirMapWrite r v) s = execLswDirMapWrite r v s := rfl
theorem exec_lswRetryMaxWrite (r : Req) (v : Word) (s : State) : exec (.lswRetryMaxWrite r v) s = execLswRetryMaxWrite r v s := rfl
theorem exec_dirInputHigh (t : Time) (dir : Fin 16) (s : State) : exec (.dirInputHigh t dir) s = execDirInputHigh t dir s := rfl
theorem exec_dirInputLow100ms (t : Time) (dir : Fin 16) (s : State) : exec (.dirInputLow100ms t dir) s = execDirInputLow100ms t dir s := rfl
theorem exec_pwmPeriodStart (t : Time) (ch : Chan) (current : BitVec 16) (cal : Option (BitVec 16)) (s : State) : exec (.pwmPeriodStart t ch current cal) s = execPwmPeriodStart t ch current cal s := rfl
theorem exec_pwmUndrivenSettle (t : Time) (ch : Fin 48) (s : State) : exec (.pwmUndrivenSettle t ch) s = execPwmUndrivenSettle t ch s := rfl
theorem exec_bankUndervoltage (t : Time) (bank : Fin 4) (s : State) : exec (.bankUndervoltage t bank) s = execBankUndervoltage t bank s := rfl
theorem exec_bankUvRestart (t : Time) (bank : Fin 4) (halfVolts : BitVec 7) (s : State) : exec (.bankUvRestart t bank halfVolts) s = execBankUvRestart t bank halfVolts s := rfl
theorem exec_bankOvervoltage (t : Time) (bank : Fin 4) (s : State) : exec (.bankOvervoltage t bank) s = execBankOvervoltage t bank s := rfl
theorem exec_bankOvRestart (t : Time) (bank : Fin 4) (s : State) : exec (.bankOvRestart t bank) s = execBankOvRestart t bank s := rfl
theorem exec_solRiseDone (t : Time) (ch : Fin 32) (s : State) : exec (.solRiseDone t ch) s = execSolRiseDone t ch s := rfl
theorem exec_solArmatureMove (t : Time) (ch : Fin 32) (s : State) : exec (.solArmatureMove t ch) s = execSolArmatureMove t ch s := rfl
theorem exec_solRiseTimeout (t : Time) (ch : Fin 32) (s : State) : exec (.solRiseTimeout t ch) s = execSolRiseTimeout t ch s := rfl
theorem exec_solPeakEnd (t : Time) (ch : Fin 32) (s : State) : exec (.solPeakEnd t ch) s = execSolPeakEnd t ch s := rfl
theorem exec_solFallDone (t : Time) (ch : Fin 32) (s : State) : exec (.solFallDone t ch) s = execSolFallDone t ch s := rfl
theorem exec_solFallTimeout (t : Time) (ch : Fin 32) (s : State) : exec (.solFallTimeout t ch) s = execSolFallTimeout t ch s := rfl
theorem exec_solHoldEnd (t : Time) (ch : Fin 32) (s : State) : exec (.solHoldEnd t ch) s = execSolHoldEnd t ch s := rfl
theorem exec_solDeferExpired (t : Time) (ch : Fin 32) (s : State) : exec (.solDeferExpired t ch) s = execSolDeferExpired t ch s := rfl
theorem exec_solLowSideTrip (t : Time) (ch : Fin 32) (s : State) : exec (.solLowSideTrip t ch) s = execSolLowSideTrip t ch s := rfl
theorem exec_solHighSideTrip (t : Time) (group : Fin 8) (s : State) : exec (.solHighSideTrip t group) s = execSolHighSideTrip t group s := rfl
theorem exec_solClear (r : Req) (ch : BitVec 5) (s : State) : exec (.solClear r ch) s = execSolClear r ch s := rfl
theorem exec_neutralRampEnd (t : Time) (ch : Fin 32) (s : State) : exec (.neutralRampEnd t ch) s = execNeutralRampEnd t ch s := rfl
theorem exec_solCalOld (t : Time) (ch : Fin 32) (s : State) : exec (.solCalOld t ch) s = execSolCalOld t ch s := rfl
theorem exec_solCoilEstimate (t : Time) (ch : Fin 32) (milliOhm : Nat) (s : State) : exec (.solCoilEstimate t ch milliOhm) s = execSolCoilEstimate t ch milliOhm s := rfl
theorem exec_pgndFault (t : Time) (s : State) : exec (.pgndFault t) s = execPgndFault t s := rfl
theorem exec_pgndRecover (t : Time) (s : State) : exec (.pgndRecover t) s = execPgndRecover t s := rfl
theorem exec_whorlRenewal (t : Time) (s : State) : exec (.whorlRenewal t) s = execWhorlRenewal t s := rfl
theorem exec_checkpointCapture (t : Time) (s : State) : exec (.checkpointCapture t) s = execCheckpointCapture t s := rfl
theorem exec_checkpointCommit (t : Time) (s : State) : exec (.checkpointCommit t) s = execCheckpointCommit t s := rfl
theorem exec_comparatorMismatch (t : Time) (lane : Lane) (s : State) : exec (.comparatorMismatch t lane) s = execComparatorMismatch t lane s := rfl
theorem exec_eccUncorrectable (t : Time) (lane : Lane) (s : State) : exec (.eccUncorrectable t lane) s = execEccUncorrectable t lane s := rfl
theorem exec_leaseExpiry (t : Time) (s : State) : exec (.leaseExpiry t) s = execLeaseExpiry t s := rfl
theorem exec_laneCtrlYield (r : Req) (s : State) : exec (.laneCtrlYield r) s = execLaneCtrlYield r s := rfl
theorem exec_failedSupplyOff (t : Time) (lane : Lane) (s : State) : exec (.failedSupplyOff t lane) s = execFailedSupplyOff t lane s := rfl
theorem exec_leaseGuardEnd (t : Time) (s : State) : exec (.leaseGuardEnd t) s = execLeaseGuardEnd t s := rfl
theorem exec_standbyWakeDone (t : Time) (s : State) : exec (.standbyWakeDone t) s = execStandbyWakeDone t s := rfl
theorem exec_checkpointRestored (t : Time) (s : State) : exec (.checkpointRestored t) s = execCheckpointRestored t s := rfl
theorem exec_whorlGrant (t : Time) (s : State) : exec (.whorlGrant t) s = execWhorlGrant t s := rfl
theorem exec_lkTimingWrite (r : Req) (guard : Bool) (v : Word) (s : State) : exec (.lkTimingWrite r guard v) s = execLkTimingWrite r guard v s := rfl
theorem exec_coldLaneScrub (t : Time) (corrected : Nat) (fault : Bool) (s : State) : exec (.coldLaneScrub t corrected fault) s = execColdLaneScrub t corrected fault s := rfl
theorem exec_clockMonitorFail (t : Time) (m : ClockMon) (s : State) : exec (.clockMonitorFail t m) s = execClockMonitorFail t m s := rfl
theorem exec_clockReturnMain (t : Time) (d : Fin 10) (s : State) : exec (.clockReturnMain t d) s = execClockReturnMain t d s := rfl
theorem exec_clkSrcWrite (r : Req) (v : Word) (s : State) : exec (.clkSrcWrite r v) s = execClkSrcWrite r v s := rfl
theorem exec_sundialGnssTimeout (t : Time) (s : State) : exec (.sundialGnssTimeout t) s = execSundialGnssTimeout t s := rfl
theorem exec_sundialStep (t : Time) (s : State) : exec (.sundialStep t) s = execSundialStep t s := rfl
theorem exec_ppsEdge (t : Time) (s : State) : exec (.ppsEdge t) s = execPpsEdge t s := rfl
theorem exec_ppsPulseEnd (t : Time) (pin : Bool) (s : State) : exec (.ppsPulseEnd t pin) s = execPpsPulseEnd t pin s := rfl
theorem exec_sunPpsCfgWrite (r : Req) (v : Word) (s : State) : exec (.sunPpsCfgWrite r v) s = execSunPpsCfgWrite r v s := rfl
theorem exec_rtcUpdate (t : Time) (s : State) : exec (.rtcUpdate t) s = execRtcUpdate t s := rfl
theorem exec_leapSecond (t : Time) (s : State) : exec (.leapSecond t) s = execLeapSecond t s := rfl
theorem exec_gptpSyncSend (t : Time) (s : State) : exec (.gptpSyncSend t) s = execGptpSyncSend t s := rfl
theorem exec_gptpAnnounceSend (t : Time) (s : State) : exec (.gptpAnnounceSend t) s = execGptpAnnounceSend t s := rfl
theorem exec_gptpPeerDelay (t : Time) (port : Fin 8) (delayNs : Nat) (s : State) : exec (.gptpPeerDelay t port delayNs) s = execGptpPeerDelay t port delayNs s := rfl
theorem exec_gptpAnnounceReceived (t : Time) (port : Fin 8) (priority1 : Byte) (s : State) : exec (.gptpAnnounceReceived t port priority1) s = execGptpAnnounceReceived t port priority1 s := rfl
theorem exec_canFrameReceived (t : Time) (ctrl : Fin 16) (sof : Time) (f : CanFrame) (s : State) : exec (.canFrameReceived t ctrl sof f) s = execCanFrameReceived t ctrl sof f s := rfl
theorem exec_canRxHeldDeliver (t : Time) (ctrl : Fin 16) (s : State) : exec (.canRxHeldDeliver t ctrl) s = execCanRxHeldDeliver t ctrl s := rfl
theorem exec_canTxBufferLoad (t : Time) (ctrl : Fin 16) (buf : Fin 3) (s : State) : exec (.canTxBufferLoad t ctrl buf) s = execCanTxBufferLoad t ctrl buf s := rfl
theorem exec_canFrameTransmitted (t : Time) (ctrl : Fin 16) (buf : Fin 3) (s : State) : exec (.canFrameTransmitted t ctrl buf) s = execCanFrameTransmitted t ctrl buf s := rfl
theorem exec_canTxTimeout (t : Time) (ctrl : Fin 16) (buf : Fin 3) (s : State) : exec (.canTxTimeout t ctrl buf) s = execCanTxTimeout t ctrl buf s := rfl
theorem exec_canProtocolError (t : Time) (ctrl : Fin 16) (tx data : Bool) (code : BitVec 3) (tec rec_ : BitVec 9) (s : State) : exec (.canProtocolError t ctrl tx data code tec rec_) s = execCanProtocolError t ctrl tx data code tec rec_ s := rfl
theorem exec_canRecover (r : Req) (ctrl : Fin 16) (s : State) : exec (.canRecover r ctrl) s = execCanRecover r ctrl s := rfl
theorem exec_canBusOffRecovered (t : Time) (ctrl : Fin 16) (s : State) : exec (.canBusOffRecovered t ctrl) s = execCanBusOffRecovered t ctrl s := rfl
theorem exec_canIntegrated (t : Time) (ctrl : Fin 16) (s : State) : exec (.canIntegrated t ctrl) s = execCanIntegrated t ctrl s := rfl
theorem exec_canListenWrite (r : Req) (ctrl : Fin 16) (on : Bool) (s : State) : exec (.canListenWrite r ctrl on) s = execCanListenWrite r ctrl on s := rfl
theorem exec_canListenApply (t : Time) (ctrl : Fin 16) (s : State) : exec (.canListenApply t ctrl) s = execCanListenApply t ctrl s := rfl
theorem exec_ethFrameReceived (t : Time) (port : Fin 10) (f : EthFrame) (s : State) : exec (.ethFrameReceived t port f) s = execEthFrameReceived t port f s := rfl
theorem exec_ethFrameEgress (t : Time) (port : Fin 10) (s : State) : exec (.ethFrameEgress t port) s = execEthFrameEgress t port s := rfl
theorem exec_gateListAdvance (t : Time) (port : Fin 8) (s : State) : exec (.gateListAdvance t port) s = execGateListAdvance t port s := rfl
theorem exec_ethLinkDown (t : Time) (port : Fin 8) (s : State) : exec (.ethLinkDown t port) s = execEthLinkDown t port s := rfl
theorem exec_ethLinkUp (t : Time) (port : Fin 8) (sqi : BitVec 3) (s : State) : exec (.ethLinkUp t port sqi) s = execEthLinkUp t port sqi s := rfl
theorem exec_macEntryAgeing (t : Time) (addr : BitVec 48) (s : State) : exec (.macEntryAgeing t addr) s = execMacEntryAgeing t addr s := rfl
theorem exec_skeinRecordReceive (t : Time) (s : State) : exec (.skeinRecordReceive t) s = execSkeinRecordReceive t s := rfl
theorem exec_skeinFlashWrite (t : Time) (s : State) : exec (.skeinFlashWrite t) s = execSkeinFlashWrite t s := rfl
theorem exec_sknCtrlNewchal (r : Req) (s : State) : exec (.sknCtrlNewchal r) s = execSknCtrlNewchal r s := rfl
theorem exec_skeinChallengeExpiry (t : Time) (s : State) : exec (.skeinChallengeExpiry t) s = execSkeinChallengeExpiry t s := rfl
theorem exec_sknCtrlClear (r : Req) (s : State) : exec (.sknCtrlClear r) s = execSknCtrlClear r s := rfl
theorem exec_skeinClearDone (t : Time) (s : State) : exec (.skeinClearDone t) s = execSkeinClearDone t s := rfl
theorem exec_sknKeyWrite (r : Req) (n : Fin 16) (v : Word) (s : State) : exec (.sknKeyWrite r n v) s = execSknKeyWrite r n v s := rfl
theorem exec_ibyarManifest (t : Time) (id : BitVec 64) (segment : Nat) (bytes : List Byte) (s : State) : exec (.ibyarManifest t id segment bytes) s = execIbyarManifest t id segment bytes s := rfl
theorem exec_ibyarChunk (t : Time) (id : BitVec 64) (index : Nat) (bytes : List Byte) (s : State) : exec (.ibyarChunk t id index bytes) s = execIbyarChunk t id index bytes s := rfl
theorem exec_ibyarAck (t : Time) (id : BitVec 64) (index : Nat) (segment : Bool) (s : State) : exec (.ibyarAck t id index segment) s = execIbyarAck t id index segment s := rfl
theorem exec_ibyarRequest (t : Time) (id : BitVec 64) (index : Nat) (segment : Bool) (s : State) : exec (.ibyarRequest t id index segment) s = execIbyarRequest t id index segment s := rfl
theorem exec_ibyarRequestTimeout (t : Time) (s : State) : exec (.ibyarRequestTimeout t) s = execIbyarRequestTimeout t s := rfl
theorem exec_ibyarResendTimeout (t : Time) (id : BitVec 64) (index : Nat) (s : State) : exec (.ibyarResendTimeout t id index) s = execIbyarResendTimeout t id index s := rfl
theorem exec_updateStagingDone (t : Time) (libOk : Bool) (s : State) : exec (.updateStagingDone t libOk) s = execUpdateStagingDone t libOk s := rfl
theorem exec_activationBoundary (t : Time) (s : State) : exec (.activationBoundary t) s = execActivationBoundary t s := rfl
theorem exec_pauseRebootDone (t : Time) (s : State) : exec (.pauseRebootDone t) s = execPauseRebootDone t s := rfl
theorem exec_pauseRestoreDone (t : Time) (s : State) : exec (.pauseRestoreDone t) s = execPauseRestoreDone t s := rfl
theorem exec_pauseGateOpen (t : Time) (s : State) : exec (.pauseGateOpen t) s = execPauseGateOpen t s := rfl
theorem exec_handoverBootDone (t : Time) (ok : Bool) (s : State) : exec (.handoverBootDone t ok) s = execHandoverBootDone t ok s := rfl
theorem exec_handoverRestoreDone (t : Time) (s : State) : exec (.handoverRestoreDone t) s = execHandoverRestoreDone t s := rfl
theorem exec_whorlTransfer (t : Time) (s : State) : exec (.whorlTransfer t) s = execWhorlTransfer t s := rfl
theorem exec_trialHealthOk (t : Time) (s : State) : exec (.trialHealthOk t) s = execTrialHealthOk t s := rfl
theorem exec_updCtrlConfirm (r : Req) (s : State) : exec (.updCtrlConfirm r) s = execUpdCtrlConfirm r s := rfl
theorem exec_updCtrlReject (r : Req) (s : State) : exec (.updCtrlReject r) s = execUpdCtrlReject r s := rfl
theorem exec_updCtrlRestage (r : Req) (s : State) : exec (.updCtrlRestage r) s = execUpdCtrlRestage r s := rfl
theorem exec_trialExpired (t : Time) (s : State) : exec (.trialExpired t) s = execTrialExpired t s := rfl
theorem exec_updateCommitDone (t : Time) (copyOk : Bool) (s : State) : exec (.updateCommitDone t copyOk) s = execUpdateCommitDone t copyOk s := rfl
theorem exec_settingsMigrationDone (t : Time) (ok : Bool) (s : State) : exec (.settingsMigrationDone t ok) s = execSettingsMigrationDone t ok s := rfl
theorem exec_pnlReqGo (r : Req) (mode : BitVec 2) (w : BitVec 11) (h : BitVec 10) (s : State) : exec (.pnlReqGo r mode w h) s = execPnlReqGo r mode w h s := rfl
theorem exec_panelFrameBoundary (t : Time) (temp : BitVec 8) (s : State) : exec (.panelFrameBoundary t temp) s = execPanelFrameBoundary t temp s := rfl
theorem exec_panelUpdateComplete (t : Time) (index : Nat) (s : State) : exec (.panelUpdateComplete t index) s = execPanelUpdateComplete t index s := rfl
theorem exec_panelRailsUp (t : Time) (s : State) : exec (.panelRailsUp t) s = execPanelRailsUp t s := rfl
theorem exec_panelRailIdle (t : Time) (s : State) : exec (.panelRailIdle t) s = execPanelRailIdle t s := rfl
theorem exec_panelRailFault (t : Time) (s : State) : exec (.panelRailFault t) s = execPanelRailFault t s := rfl
theorem exec_panelTableLoad (t : Time) (w : WaveTable) (s : State) : exec (.panelTableLoad t w) s = execPanelTableLoad t w s := rfl
theorem exec_panelRecovery (t : Time) (flashHasGen : Bool) (s : State) : exec (.panelRecovery t flashHasGen) s = execPanelRecovery t flashHasGen s := rfl
theorem exec_pnlVcomWrite (r : Req) (v : Word) (s : State) : exec (.pnlVcomWrite r v) s = execPnlVcomWrite r v s := rfl
theorem exec_tallyLimitWrite (r : Req) (index : Nat) (v : Word) (s : State) : exec (.tallyLimitWrite r index v) s = execTallyLimitWrite r index v s := rfl
theorem exec_plateHot (t : Time) (temp : BitVec 8) (s : State) : exec (.plateHot t temp) s = execPlateHot t temp s := rfl
theorem exec_holdupStepsComplete (t : Time) (vbatBack : Bool) (s : State) : exec (.holdupStepsComplete t vbatBack) s = execHoldupStepsComplete t vbatBack s := rfl
theorem exec_distaffEntryWaitWarning (t : Time) (s : State) : exec (.distaffEntryWaitWarning t) s = execDistaffEntryWaitWarning t s := rfl
theorem exec_antennaBiasOk (t : Time) (ant : Fin 2) (s : State) : exec (.antennaBiasOk t ant) s = execAntennaBiasOk t ant s := rfl
theorem exec_spacingChangeApply (t : Time) (ch : Fin 256) (s : State) : exec (.spacingChangeApply t ch) s = execSpacingChangeApply t ch s := rfl

end Sys2Proof.Machine
end

