-- ==== Sys2Proof/Laws/Maps.lean ====
section
/-! SUPPORT. Laws of the canonical maps: what reading a key gives after each operation, that the canonical form is kept, and the same
for data SRAM (R77, R78). -/
namespace Sys2Proof.Machine

/-! ### Reading after an operation -/

@[simp] theorem SMap.get_insert_same {α : Type} (m : SMap α) (d : α) (k : Nat) (v : α) : SMap.get (SMap.insert m k v) d k = v := by
  induction m with
  | nil => simp [SMap.insert, SMap.get]
  | cons e r ih =>
    obtain ⟨k', v'⟩ := e
    simp only [SMap.insert]
    (repeat' split) <;> simp_all [SMap.get]
    omega

theorem SMap.get_insert_ne {α : Type} (m : SMap α) (d : α) {k j : Nat} (v : α) (h : j ≠ k) :
    SMap.get (SMap.insert m k v) d j = SMap.get m d j := by
  induction m with
  | nil => simp [SMap.insert, SMap.get, h.symm]
  | cons e r ih =>
    obtain ⟨k', v'⟩ := e
    simp only [SMap.insert]
    (repeat' split) <;> simp_all [SMap.get]
    all_goals first | rw [if_neg (by omega), if_neg (by omega)] | (intro h'; omega)

@[simp] theorem SMap.get_drop_same {α : Type} (m : SMap α) (d : α) (k : Nat) : SMap.get (SMap.drop m k) d k = d := by
  induction m with
  | nil => rfl
  | cons e r ih =>
    obtain ⟨k', v'⟩ := e
    simp only [SMap.drop]
    split <;> simp_all [SMap.get]

theorem SMap.get_drop_ne {α : Type} (m : SMap α) (d : α) {k j : Nat} (h : j ≠ k) :
    SMap.get (SMap.drop m k) d j = SMap.get m d j := by
  induction m with
  | nil => rfl
  | cons e r ih =>
    obtain ⟨k', v'⟩ := e
    simp only [SMap.drop]
    split <;> simp_all [SMap.get]
    intro h'; omega

@[simp] theorem SMap.get_put_same {α : Type} [DecidableEq α] (m : SMap α) (d : α) (k : Nat) (v : α) :
    SMap.get (SMap.put m d k v) d k = v := by
  unfold SMap.put; split <;> simp_all

theorem SMap.get_put_ne {α : Type} [DecidableEq α] (m : SMap α) (d : α) {k j : Nat} (v : α) (h : j ≠ k) :
    SMap.get (SMap.put m d k v) d j = SMap.get m d j := by
  unfold SMap.put; split
  · exact SMap.get_drop_ne m d h
  · exact SMap.get_insert_ne m d v h

@[simp] theorem SMap.find_insert_same {α : Type} (m : SMap α) (k : Nat) (v : α) : SMap.find (SMap.insert m k v) k = some v := by
  induction m with
  | nil => simp [SMap.insert, SMap.find]
  | cons e r ih =>
    obtain ⟨k', v'⟩ := e
    simp only [SMap.insert]
    (repeat' split) <;> simp_all [SMap.find]
    omega

theorem SMap.find_insert_ne {α : Type} (m : SMap α) {k j : Nat} (v : α) (h : j ≠ k) :
    SMap.find (SMap.insert m k v) j = SMap.find m j := by
  induction m with
  | nil => simp [SMap.insert, SMap.find, h.symm]
  | cons e r ih =>
    obtain ⟨k', v'⟩ := e
    simp only [SMap.insert]
    (repeat' split) <;> simp_all [SMap.find]
    all_goals first | rw [if_neg (by omega), if_neg (by omega)] | (intro h'; omega)

@[simp] theorem SMap.find_drop_same {α : Type} (m : SMap α) (k : Nat) : SMap.find (SMap.drop m k) k = none := by
  induction m with
  | nil => rfl
  | cons e r ih =>
    obtain ⟨k', v'⟩ := e
    simp only [SMap.drop]
    split <;> simp_all [SMap.find]

theorem SMap.find_drop_ne {α : Type} (m : SMap α) {k j : Nat} (h : j ≠ k) : SMap.find (SMap.drop m k) j = SMap.find m j := by
  induction m with
  | nil => rfl
  | cons e r ih =>
    obtain ⟨k', v'⟩ := e
    simp only [SMap.drop]
    split <;> simp_all [SMap.find]
    intro h'; omega

/-! ### The canonical form -/

/-- What the canonical form says, entry by entry: keys rise, no entry reads as an unlisted key does. -/
def SMap.Canonical {α : Type} (m : SMap α) (d : α) : Prop := (m.map (·.1)).Pairwise (· < ·) ∧ ∀ e ∈ m, e.2 ≠ d

theorem SMap.wf_iff {α : Type} [DecidableEq α] (m : SMap α) (d : α) : SMap.wf m d = true ↔ SMap.Canonical m d := by
  induction m with
  | nil => simp [SMap.wf, SMap.Canonical]
  | cons e r ih =>
    obtain ⟨k, v⟩ := e
    cases r with
    | nil => simp [SMap.wf, SMap.Canonical]
    | cons e' r' =>
      obtain ⟨k', v'⟩ := e'
      simp only [SMap.wf, Bool.and_eq_true, ih, decide_eq_true_eq, Bool.not_eq_true', decide_eq_false_iff_not, SMap.Canonical,
        List.map_cons, List.pairwise_cons, List.mem_cons, List.mem_map, forall_eq_or_imp]
      constructor
      · rintro ⟨⟨h1, h2⟩, ⟨h3, h4⟩, h5, h6⟩
        refine ⟨⟨⟨h1, ?_⟩, h3, h4⟩, h2, h5, h6⟩
        rintro j ⟨a, ha, rfl⟩
        exact lt_trans h1 (h3 _ ⟨a, ha, rfl⟩)
      · rintro ⟨⟨⟨h1, -⟩, h3, h4⟩, h2, h5, h6⟩
        exact ⟨⟨h1, h2⟩, ⟨h3, h4⟩, h5, h6⟩

theorem SMap.mem_drop {α : Type} (m : SMap α) (k : Nat) (e : Nat × α) : e ∈ SMap.drop m k → e ∈ m := by
  induction m with
  | nil => simp [SMap.drop]
  | cons a r ih =>
    obtain ⟨k', v'⟩ := a
    simp only [SMap.drop]
    split
    · intro h; exact List.mem_cons_of_mem _ (ih h)
    · intro h
      cases List.mem_cons.mp h with
      | inl h => exact h ▸ List.mem_cons_self
      | inr h => exact List.mem_cons_of_mem _ (ih h)

theorem SMap.drop_canonical {α : Type} (m : SMap α) (d : α) (k : Nat) (h : SMap.Canonical m d) : SMap.Canonical (SMap.drop m k) d := by
  refine ⟨?_, fun e he => h.2 e (SMap.mem_drop m k e he)⟩
  obtain ⟨hp, -⟩ := h
  induction m with
  | nil => simp [SMap.drop]
  | cons a r ih =>
    obtain ⟨k', v'⟩ := a
    simp only [List.map_cons, List.pairwise_cons] at hp
    simp only [SMap.drop]
    split
    · exact ih hp.2
    · simp only [List.map_cons, List.pairwise_cons]
      refine ⟨?_, ih hp.2⟩
      intro j hj
      obtain ⟨e, he, rfl⟩ := List.mem_map.mp hj
      exact hp.1 _ (List.mem_map.mpr ⟨e, SMap.mem_drop r k e he, rfl⟩)

theorem SMap.mem_insert {α : Type} (m : SMap α) (k : Nat) (v : α) (e : Nat × α) : e ∈ SMap.insert m k v → e = (k, v) ∨ e ∈ m := by
  induction m with
  | nil => simp [SMap.insert]
  | cons a r ih =>
    obtain ⟨k', v'⟩ := a
    simp only [SMap.insert]
    (repeat' split) <;> simp only [List.mem_cons]
    · tauto
    · tauto
    · rintro (h | h)
      · tauto
      · have := ih h; tauto

theorem SMap.insert_canonical {α : Type} (m : SMap α) (d : α) (k : Nat) (v : α) (hv : v ≠ d) (h : SMap.Canonical m d) :
    SMap.Canonical (SMap.insert m k v) d := by
  refine ⟨?_, fun e he => ?_⟩
  · obtain ⟨hp, -⟩ := h
    induction m with
    | nil => simp [SMap.insert]
    | cons a r ih =>
      obtain ⟨k', v'⟩ := a
      simp only [List.map_cons, List.pairwise_cons] at hp
      simp only [SMap.insert]
      split
      · simp only [List.map_cons, List.pairwise_cons, List.mem_cons]
        refine ⟨?_, hp⟩
        rintro j (rfl | hj)
        · assumption
        · exact lt_trans ‹_› (hp.1 j hj)
      · split
        · subst_vars; simpa using hp
        · simp only [List.map_cons, List.pairwise_cons]
          refine ⟨?_, ih hp.2⟩
          intro j hj
          obtain ⟨e, he, rfl⟩ := List.mem_map.mp hj
          rcases SMap.mem_insert r k v e he with rfl | he
          · simp; omega
          · exact hp.1 _ (List.mem_map.mpr ⟨e, he, rfl⟩)
  · rcases SMap.mem_insert m k v e he with rfl | he
    · exact hv
    · exact h.2 e he

/-- Writing keeps the canonical form. -/
theorem SMap.put_wf {α : Type} [DecidableEq α] (m : SMap α) (d : α) (k : Nat) (v : α) (h : SMap.wf m d = true) :
    SMap.wf (SMap.put m d k v) d = true := by
  rw [SMap.wf_iff] at *
  unfold SMap.put; split
  · exact SMap.drop_canonical m d k h
  · exact SMap.insert_canonical m d k v ‹_› h

/-! ### Data SRAM -/

theorem get_putCells_out (m : List Host.Cell) (k j : Nat) (bs : List Byte) (h : j < k ∨ k + bs.length ≤ j) :
    SMap.get (putCells m k bs) Config.sramDefault j = SMap.get m Config.sramDefault j := by
  induction bs generalizing m k with
  | nil => rfl
  | cons b r ih =>
    simp only [List.length_cons] at h
    rw [putCells, ih _ _ (by omega), SMap.get_put_ne _ _ _ (by omega)]

theorem get_putCells_in (m : List Host.Cell) (k i : Nat) (bs : List Byte) (h : i < bs.length) :
    SMap.get (putCells m k bs) Config.sramDefault (k + i) = bs[i] := by
  induction bs generalizing m k i with
  | nil => simp at h
  | cons b r ih =>
    cases i with
    | zero => rw [putCells, get_putCells_out _ _ _ _ (by omega)]; simp
    | succ i =>
      simp only [List.length_cons] at h
      have := ih (SMap.put m Config.sramDefault k b) (k + 1) i (by omega)
      rw [putCells, show k + (i + 1) = k + 1 + i by omega, this]; simp

/-- A byte read after a store outside its bytes is what it was. -/
theorem readByte_writeBytes_out (sp addr j : Nat) (bs : List Byte) (s : State) (h : j < addr ∨ addr + bs.length ≤ j) :
    readByte (writeBytes sp addr bs s) sp j = readByte s sp j := by
  unfold readByte writeBytes memKey
  exact get_putCells_out _ _ _ _ (by omega)

/-- A byte read after a store that wrote it is the byte stored. -/
theorem readByte_writeBytes_in (sp addr i : Nat) (bs : List Byte) (s : State) (h : i < bs.length) :
    readByte (writeBytes sp addr bs s) sp (addr + i) = bs[i] := by
  unfold readByte writeBytes memKey
  rw [← Nat.add_assoc]; exact get_putCells_in _ _ _ _ h

theorem putCells_wf (m : List Host.Cell) (k : Nat) (bs : List Byte) (h : SMap.wf m Config.sramDefault = true) :
    SMap.wf (putCells m k bs) Config.sramDefault = true := by
  induction bs generalizing m k with
  | nil => exact h
  | cons b r ih => exact ih _ _ (SMap.put_wf _ _ _ _ h)

/-- A store keeps the memory's canonical form. -/
theorem writeBytes_wf (sp addr : Nat) (bs : List Byte) (s : State) (h : Memory.wf s = true) :
    Memory.wf (writeBytes sp addr bs s) = true := putCells_wf _ _ _ h

theorem filter_wf {α : Type} [DecidableEq α] (m : SMap α) (d : α) (p : Nat × α → Bool) (h : SMap.wf m d = true) :
    SMap.wf (m.filter p) d = true := by
  rw [SMap.wf_iff] at *
  exact ⟨h.1.sublist (List.filter_sublist.map _), fun e he => h.2 e (List.mem_of_mem_filter he)⟩

/-- The memory of the reset state is canonical. -/
theorem reset_wf : Memory.wf State.reset = true := rfl

end Sys2Proof.Machine
end

