-- ==== Sys2Proof/Laws/State.lean ====
section
/-! SUPPORT. The state's named updates: what each leaves in the part it touches, and what its reader gives afterwards. What each leaves
unchanged stands in Laws/Frames.lean. -/
namespace Sys2Proof.Machine

@[simp] theorem setPerReq_reqs (k : Requester) (x : PerReq) (s : State) :
    (setPerReq k x s).reqs = SMap.put s.reqs {} k.val x := rfl
@[simp] theorem perReq_setPerReq (k : Requester) (x : PerReq) (s : State) : perReq (setPerReq k x s) k = x := SMap.get_put_same _ _ _ _
theorem perReq_setPerReq_ne (k j : Requester) (x : PerReq) (s : State) (h : j ≠ k) : perReq (setPerReq k x s) j = perReq s j :=
  SMap.get_put_ne _ _ _ (fun h' => h (Fin.ext h'))

@[simp] theorem setSession_hank (k : Requester) (x : Session) (s : State) :
    (setSession k x s).hank = { s.hank with sessions := SMap.put s.hank.sessions {} k.val x } := rfl
@[simp] theorem session_setSession (k : Requester) (x : Session) (s : State) : session (setSession k x s) k = x := SMap.get_put_same _ _ _ _
theorem session_setSession_ne (k j : Requester) (x : Session) (s : State) (h : j ≠ k) : session (setSession k x s) j = session s j :=
  SMap.get_put_ne _ _ _ (fun h' => h (Fin.ext h'))

@[simp] theorem setBob_core (k : Nat) (x : Bob) (s : State) :
    (setBob k x s).core = { s.core with bobs := SMap.put s.core.bobs {} k x } := rfl
@[simp] theorem bob_setBob (k : Nat) (x : Bob) (s : State) : bob (setBob k x s) k = x := SMap.get_put_same _ _ _ _
theorem bob_setBob_ne (k j : Nat) (x : Bob) (s : State) (h : j ≠ k) : bob (setBob k x s) j = bob s j :=
  SMap.get_put_ne _ _ _ (h)

@[simp] theorem setTask_core (k : Nat) (x : TaskState) (s : State) :
    (setTask k x s).core = { s.core with tasks := SMap.put s.core.tasks {} k x } := rfl
@[simp] theorem taskOf_setTask (k : Nat) (x : TaskState) (s : State) : taskOf (setTask k x s) k = x := SMap.get_put_same _ _ _ _
theorem taskOf_setTask_ne (k j : Nat) (x : TaskState) (s : State) (h : j ≠ k) : taskOf (setTask k x s) j = taskOf s j :=
  SMap.get_put_ne _ _ _ (h)

@[simp] theorem setRing_core (k : Nat) (x : SigRing) (s : State) :
    (setRing k x s).core = { s.core with signals := SMap.put s.core.signals {} k x } := rfl
@[simp] theorem ring_setRing (k : Nat) (x : SigRing) (s : State) : ring (setRing k x s) k = x := SMap.get_put_same _ _ _ _
theorem ring_setRing_ne (k j : Nat) (x : SigRing) (s : State) (h : j ≠ k) : ring (setRing k x s) j = ring s j :=
  SMap.get_put_ne _ _ _ (h)

@[simp] theorem setLoop_core (k : Nat) (x : LoopSt) (s : State) :
    (setLoop k x s).core = { s.core with loops := SMap.put s.core.loops {} k x } := rfl
@[simp] theorem loopSt_setLoop (k : Nat) (x : LoopSt) (s : State) : loopSt (setLoop k x s) k = x := SMap.get_put_same _ _ _ _
theorem loopSt_setLoop_ne (k j : Nat) (x : LoopSt) (s : State) (h : j ≠ k) : loopSt (setLoop k x s) j = loopSt s j :=
  SMap.get_put_ne _ _ _ (h)

@[simp] theorem setTable_core (k : Nat) (x : TableSt) (s : State) :
    (setTable k x s).core = { s.core with tables := SMap.put s.core.tables {} k x } := rfl
@[simp] theorem tableSt_setTable (k : Nat) (x : TableSt) (s : State) : tableSt (setTable k x s) k = x := SMap.get_put_same _ _ _ _
theorem tableSt_setTable_ne (k j : Nat) (x : TableSt) (s : State) (h : j ≠ k) : tableSt (setTable k x s) j = tableSt s j :=
  SMap.get_put_ne _ _ _ (h)

@[simp] theorem setCan_core (k : Nat) (x : CanSt) (s : State) :
    (setCan k x s).core = { s.core with can := SMap.put s.core.can {} k x } := rfl
@[simp] theorem can_setCan (k : Nat) (x : CanSt) (s : State) : can (setCan k x s) k = x := SMap.get_put_same _ _ _ _
theorem can_setCan_ne (k j : Nat) (x : CanSt) (s : State) (h : j ≠ k) : can (setCan k x s) j = can s j :=
  SMap.get_put_ne _ _ _ (h)

@[simp] theorem setPlySrc_core (k : Nat) (x : PlySrcSt) (s : State) :
    (setPlySrc k x s).core = { s.core with ply := { s.core.ply with srcs := SMap.put s.core.ply.srcs {} k x } } := rfl
@[simp] theorem plySrc_setPlySrc (k : Nat) (x : PlySrcSt) (s : State) : plySrc (setPlySrc k x s) k = x := SMap.get_put_same _ _ _ _
theorem plySrc_setPlySrc_ne (k j : Nat) (x : PlySrcSt) (s : State) (h : j ≠ k) : plySrc (setPlySrc k x s) j = plySrc s j :=
  SMap.get_put_ne _ _ _ (h)

@[simp] theorem setYield_core (k : Nat) (x : YieldSt) (s : State) :
    (setYield k x s).core = { s.core with ply := { s.core.ply with yields := SMap.put s.core.ply.yields {} k x } } := rfl
@[simp] theorem yieldSt_setYield (k : Nat) (x : YieldSt) (s : State) : yieldSt (setYield k x s) k = x := SMap.get_put_same _ _ _ _
theorem yieldSt_setYield_ne (k j : Nat) (x : YieldSt) (s : State) (h : j ≠ k) : yieldSt (setYield k x s) j = yieldSt s j :=
  SMap.get_put_ne _ _ _ (h)

@[simp] theorem setLedger_tally (k : Nat) (x : Ledger) (s : State) :
    (setLedger k x s).tally = { s.tally with ledgers := SMap.put s.tally.ledgers {} k x } := rfl
@[simp] theorem ledger_setLedger (k : Nat) (x : Ledger) (s : State) : ledger (setLedger k x s) k = x := SMap.get_put_same _ _ _ _
theorem ledger_setLedger_ne (k j : Nat) (x : Ledger) (s : State) (h : j ≠ k) : ledger (setLedger k x s) j = ledger s j :=
  SMap.get_put_ne _ _ _ (h)

@[simp] theorem setLsw_outs (k : Nat) (x : Lsw) (s : State) :
    (setLsw k x s).outs = { s.outs with lsw := SMap.put s.outs.lsw {} k x } := rfl
@[simp] theorem lsw_setLsw (k : Nat) (x : Lsw) (s : State) : lsw (setLsw k x s) k = x := SMap.get_put_same _ _ _ _
theorem lsw_setLsw_ne (k j : Nat) (x : Lsw) (s : State) (h : j ≠ k) : lsw (setLsw k x s) j = lsw s j :=
  SMap.get_put_ne _ _ _ (h)

@[simp] theorem setSol_outs (k : Nat) (x : Sol) (s : State) :
    (setSol k x s).outs = { s.outs with sol := SMap.put s.outs.sol {} k x } := rfl
@[simp] theorem sol_setSol (k : Nat) (x : Sol) (s : State) : sol (setSol k x s) k = x := SMap.get_put_same _ _ _ _
theorem sol_setSol_ne (k j : Nat) (x : Sol) (s : State) (h : j ≠ k) : sol (setSol k x s) j = sol s j :=
  SMap.get_put_ne _ _ _ (h)

@[simp] theorem setAin_inputs (k : Nat) (x : Ain) (s : State) :
    (setAin k x s).inputs = { s.inputs with ain := SMap.put s.inputs.ain {} k x } := rfl
@[simp] theorem ain_setAin (k : Nat) (x : Ain) (s : State) : ain (setAin k x s) k = x := SMap.get_put_same _ _ _ _
theorem ain_setAin_ne (k j : Nat) (x : Ain) (s : State) (h : j ≠ k) : ain (setAin k x s) j = ain s j :=
  SMap.get_put_ne _ _ _ (h)

@[simp] theorem setAdc_inputs (k : Nat) (x : Adc) (s : State) :
    (setAdc k x s).inputs = { s.inputs with adc := SMap.put s.inputs.adc {} k x } := rfl
@[simp] theorem adc_setAdc (k : Nat) (x : Adc) (s : State) : adc (setAdc k x s) k = x := SMap.get_put_same _ _ _ _
theorem adc_setAdc_ne (k j : Nat) (x : Adc) (s : State) (h : j ≠ k) : adc (setAdc k x s) j = adc s j :=
  SMap.get_put_ne _ _ _ (h)

@[simp] theorem setShaft_inputs (k : Nat) (x : Shaft) (s : State) :
    (setShaft k x s).inputs = { s.inputs with shaft := SMap.put s.inputs.shaft {} k x } := rfl
@[simp] theorem shaft_setShaft (k : Nat) (x : Shaft) (s : State) : shaft (setShaft k x s) k = x := SMap.get_put_same _ _ _ _
theorem shaft_setShaft_ne (k j : Nat) (x : Shaft) (s : State) (h : j ≠ k) : shaft (setShaft k x s) j = shaft s j :=
  SMap.get_put_ne _ _ _ (h)

@[simp] theorem setSensor_inputs (k : Nat) (x : Sensor) (s : State) :
    (setSensor k x s).inputs = { s.inputs with sensor := SMap.put s.inputs.sensor {} k x } := rfl
@[simp] theorem sensor_setSensor (k : Nat) (x : Sensor) (s : State) : sensor (setSensor k x s) k = x := SMap.get_put_same _ _ _ _
theorem sensor_setSensor_ne (k j : Nat) (x : Sensor) (s : State) (h : j ≠ k) : sensor (setSensor k x s) j = sensor s j :=
  SMap.get_put_ne _ _ _ (h)

@[simp] theorem setStk_strike (k : Nat) (x : StkCh) (s : State) :
    (setStk k x s).strike = { s.strike with chans := SMap.put s.strike.chans {} k x } := rfl
@[simp] theorem stk_setStk (k : Nat) (x : StkCh) (s : State) : stk (setStk k x s) k = x := SMap.get_put_same _ _ _ _
theorem stk_setStk_ne (k j : Nat) (x : StkCh) (s : State) (h : j ≠ k) : stk (setStk k x s) j = stk s j :=
  SMap.get_put_ne _ _ _ (h)

@[simp] theorem setGch_gnss (k : Nat) (x : GnssCh) (s : State) :
    (setGch k x s).gnss = { s.gnss with chans := SMap.put s.gnss.chans {} k x } := rfl
@[simp] theorem gch_setGch (k : Nat) (x : GnssCh) (s : State) : gch (setGch k x s) k = x := SMap.get_put_same _ _ _ _
theorem gch_setGch_ne (k j : Nat) (x : GnssCh) (s : State) (h : j ≠ k) : gch (setGch k x s) j = gch s j :=
  SMap.get_put_ne _ _ _ (h)

@[simp] theorem setEng_gnss (k : Nat) (x : GnssEngine) (s : State) :
    (setEng k x s).gnss = { s.gnss with engines := SMap.put s.gnss.engines {} k x } := rfl
@[simp] theorem eng_setEng (k : Nat) (x : GnssEngine) (s : State) : eng (setEng k x s) k = x := SMap.get_put_same _ _ _ _
theorem eng_setEng_ne (k j : Nat) (x : GnssEngine) (s : State) (h : j ≠ k) : eng (setEng k x s) j = eng s j :=
  SMap.get_put_ne _ _ _ (h)

@[simp] theorem setEthPort_eth (k : Nat) (x : EthPort) (s : State) :
    (setEthPort k x s).eth = { s.eth with ports := SMap.put s.eth.ports {} k x } := rfl
@[simp] theorem ethPort_setEthPort (k : Nat) (x : EthPort) (s : State) : ethPort (setEthPort k x s) k = x := SMap.get_put_same _ _ _ _
theorem ethPort_setEthPort_ne (k j : Nat) (x : EthPort) (s : State) (h : j ≠ k) : ethPort (setEthPort k x s) j = ethPort s j :=
  SMap.get_put_ne _ _ _ (h)

@[simp] theorem setAct_core (sp : Nat) (a : Activation) (s : State) :
    (setAct sp a s).core = { s.core with acts := SMap.insert s.core.acts sp a } := rfl
@[simp] theorem dropAct_core (sp : Nat) (s : State) : (dropAct sp s).core = { s.core with acts := SMap.drop s.core.acts sp } := rfl
theorem find_setAct (sp : Nat) (a : Activation) (s : State) : SMap.find (setAct sp a s).core.acts sp = some a :=
  SMap.find_insert_same _ _ _
theorem find_setAct_ne (sp n : Nat) (a : Activation) (s : State) (h : n ≠ sp) :
    SMap.find (setAct sp a s).core.acts n = SMap.find s.core.acts n := SMap.find_insert_ne _ _ h

@[simp] theorem setPly_core (p : PlySt) (s : State) : (setPly p s).core = { s.core with ply := p } := rfl
@[simp] theorem setPanel_panel (p : Panel) (s : State) : (setPanel p s).panel = p := rfl
@[simp] theorem send_sent (m : Sent) (s : State) : (send m s).sent = m :: s.sent := rfl
@[simp] theorem lane_setLane (l : Lane) (x : LaneSt) (s : State) : lane (setLane l x s) l = x := by cases l <;> rfl
@[simp] theorem lane_setLane_other (l : Lane) (x : LaneSt) (s : State) : lane (setLane l x s) l.other = lane s l.other := by
  cases l <;> rfl
@[simp] theorem setLane_gate (l : Lane) (x : LaneSt) (s : State) : (setLane l x s).lanes.gate = s.lanes.gate := by cases l <;> rfl
@[simp] theorem setLane_holder (l : Lane) (x : LaneSt) (s : State) : (setLane l x s).lanes.holder = s.lanes.holder := by
  cases l <;> rfl
@[simp] theorem copSlot_setCopSlot (b : Bool) (x : CopSlot) (s : State) : copSlot (setCopSlot b x s) b = x := by cases b <;> rfl
@[simp] theorem copSlot_setCopSlot_other (b : Bool) (x : CopSlot) (s : State) : copSlot (setCopSlot b x s) (!b) = copSlot s (!b) := by
  cases b <;> rfl
@[simp] theorem spoolSlot_setSpoolSlot (b : Bool) (x : SpoolSlot) (s : State) : spoolSlot (setSpoolSlot b x s) b = x := by
  cases b <;> rfl

/-! ### Records and counters (R67, R368) -/

@[simp] theorem raise_skein (v : Severity) (b : BitVec 8) (c : BitVec 16) (l : List Word) (s : State) :
    (raise v b c l s).skein = { s.skein with raised := s.skein.raised ++ [makeRecord v b c l s] } := rfl
@[simp] theorem raise_upd (v : Severity) (b : BitVec 8) (c : BitVec 16) (l : List Word) (s : State) :
    (raise v b c l s).upd = { s.upd with critical := s.upd.critical || (v = .critical && s.upd.step = .trial) } := rfl
@[simp] theorem bump_counters (addr idx : Nat) (s : State) :
    (bump addr idx s).counters = SMap.put s.counters {} (ckey addr idx) (counter s addr idx).inc.1 := by
  unfold bump; dsimp only; split <;> rfl
/-- Where the counter is not full, counting changes nothing else. -/
theorem bump_of_room (addr idx : Nat) (s : State) (h : (counter s addr idx).count ≠ 0x7FFFFFFF) :
    bump addr idx s = { s with counters := SMap.put s.counters {} (ckey addr idx) (counter s addr idx).inc.1 } := by
  unfold bump Counter.inc; rw [if_neg h]; rfl
@[simp] theorem counter_bump (addr idx : Nat) (s : State) : counter (bump addr idx s) addr idx = (counter s addr idx).inc.1 := by
  simp [counter]

/-- Two states that agree in every part are one. -/
theorem State.eq_of_parts (s t : State) (h0 : s.sys = t.sys) (h1 : s.reqs = t.reqs) (h2 : s.counters = t.counters)
    (h3 : s.hank = t.hank) (h4 : s.distaff = t.distaff) (h5 : s.func = t.func) (h6 : s.store = t.store) (h7 : s.core = t.core)
    (h8 : s.spool = t.spool) (h9 : s.emergency = t.emergency) (h10 : s.lanes = t.lanes) (h11 : s.tally = t.tally)
    (h12 : s.outs = t.outs) (h13 : s.inputs = t.inputs) (h14 : s.strike = t.strike) (h15 : s.gnss = t.gnss)
    (h16 : s.clock = t.clock) (h17 : s.sun = t.sun) (h18 : s.eth = t.eth) (h19 : s.skein = t.skein) (h20 : s.upd = t.upd)
    (h21 : s.panel = t.panel) (h22 : s.sent = t.sent) (h23 : s.free = t.free) (h24 : s.pending = t.pending) : s = t := by
  cases s; cases t; simp_all

end Sys2Proof.Machine
end

