-- ==== Sys2Proof/Laws/Frames.lean ====
section
/-! SUPPORT. What each shared operation leaves unchanged: one theorem per operation, part by part of the state, so that no proof about a
command unfolds an operation to see that a part it does not touch is as before. -/
set_option linter.all false
namespace Sys2Proof.Machine
@[simp] theorem foldl_sys {α : Type} (f : State → α → State) (h : ∀ s a, (f s a).sys = s.sys) (l : List α) (s : State) :
    (l.foldl f s).sys = s.sys := by
  induction l generalizing s with
  | nil => rfl
  | cons a l ih => simp [ih, h]
@[simp] theorem foldl_reqs {α : Type} (f : State → α → State) (h : ∀ s a, (f s a).reqs = s.reqs) (l : List α) (s : State) :
    (l.foldl f s).reqs = s.reqs := by
  induction l generalizing s with
  | nil => rfl
  | cons a l ih => simp [ih, h]
@[simp] theorem foldl_counters {α : Type} (f : State → α → State) (h : ∀ s a, (f s a).counters = s.counters) (l : List α) (s : State) :
    (l.foldl f s).counters = s.counters := by
  induction l generalizing s with
  | nil => rfl
  | cons a l ih => simp [ih, h]
@[simp] theorem foldl_hank {α : Type} (f : State → α → State) (h : ∀ s a, (f s a).hank = s.hank) (l : List α) (s : State) :
    (l.foldl f s).hank = s.hank := by
  induction l generalizing s with
  | nil => rfl
  | cons a l ih => simp [ih, h]
@[simp] theorem foldl_distaff {α : Type} (f : State → α → State) (h : ∀ s a, (f s a).distaff = s.distaff) (l : List α) (s : State) :
    (l.foldl f s).distaff = s.distaff := by
  induction l generalizing s with
  | nil => rfl
  | cons a l ih => simp [ih, h]
@[simp] theorem foldl_func {α : Type} (f : State → α → State) (h : ∀ s a, (f s a).func = s.func) (l : List α) (s : State) :
    (l.foldl f s).func = s.func := by
  induction l generalizing s with
  | nil => rfl
  | cons a l ih => simp [ih, h]
@[simp] theorem foldl_store {α : Type} (f : State → α → State) (h : ∀ s a, (f s a).store = s.store) (l : List α) (s : State) :
    (l.foldl f s).store = s.store := by
  induction l generalizing s with
  | nil => rfl
  | cons a l ih => simp [ih, h]
@[simp] theorem foldl_core {α : Type} (f : State → α → State) (h : ∀ s a, (f s a).core = s.core) (l : List α) (s : State) :
    (l.foldl f s).core = s.core := by
  induction l generalizing s with
  | nil => rfl
  | cons a l ih => simp [ih, h]
@[simp] theorem foldl_spool {α : Type} (f : State → α → State) (h : ∀ s a, (f s a).spool = s.spool) (l : List α) (s : State) :
    (l.foldl f s).spool = s.spool := by
  induction l generalizing s with
  | nil => rfl
  | cons a l ih => simp [ih, h]
@[simp] theorem foldl_emergency {α : Type} (f : State → α → State) (h : ∀ s a, (f s a).emergency = s.emergency) (l : List α) (s : State) :
    (l.foldl f s).emergency = s.emergency := by
  induction l generalizing s with
  | nil => rfl
  | cons a l ih => simp [ih, h]
@[simp] theorem foldl_lanes {α : Type} (f : State → α → State) (h : ∀ s a, (f s a).lanes = s.lanes) (l : List α) (s : State) :
    (l.foldl f s).lanes = s.lanes := by
  induction l generalizing s with
  | nil => rfl
  | cons a l ih => simp [ih, h]
@[simp] theorem foldl_tally {α : Type} (f : State → α → State) (h : ∀ s a, (f s a).tally = s.tally) (l : List α) (s : State) :
    (l.foldl f s).tally = s.tally := by
  induction l generalizing s with
  | nil => rfl
  | cons a l ih => simp [ih, h]
@[simp] theorem foldl_outs {α : Type} (f : State → α → State) (h : ∀ s a, (f s a).outs = s.outs) (l : List α) (s : State) :
    (l.foldl f s).outs = s.outs := by
  induction l generalizing s with
  | nil => rfl
  | cons a l ih => simp [ih, h]
@[simp] theorem foldl_inputs {α : Type} (f : State → α → State) (h : ∀ s a, (f s a).inputs = s.inputs) (l : List α) (s : State) :
    (l.foldl f s).inputs = s.inputs := by
  induction l generalizing s with
  | nil => rfl
  | cons a l ih => simp [ih, h]
@[simp] theorem foldl_strike {α : Type} (f : State → α → State) (h : ∀ s a, (f s a).strike = s.strike) (l : List α) (s : State) :
    (l.foldl f s).strike = s.strike := by
  induction l generalizing s with
  | nil => rfl
  | cons a l ih => simp [ih, h]
@[simp] theorem foldl_gnss {α : Type} (f : State → α → State) (h : ∀ s a, (f s a).gnss = s.gnss) (l : List α) (s : State) :
    (l.foldl f s).gnss = s.gnss := by
  induction l generalizing s with
  | nil => rfl
  | cons a l ih => simp [ih, h]
@[simp] theorem foldl_clock {α : Type} (f : State → α → State) (h : ∀ s a, (f s a).clock = s.clock) (l : List α) (s : State) :
    (l.foldl f s).clock = s.clock := by
  induction l generalizing s with
  | nil => rfl
  | cons a l ih => simp [ih, h]
@[simp] theorem foldl_sun {α : Type} (f : State → α → State) (h : ∀ s a, (f s a).sun = s.sun) (l : List α) (s : State) :
    (l.foldl f s).sun = s.sun := by
  induction l generalizing s with
  | nil => rfl
  | cons a l ih => simp [ih, h]
@[simp] theorem foldl_eth {α : Type} (f : State → α → State) (h : ∀ s a, (f s a).eth = s.eth) (l : List α) (s : State) :
    (l.foldl f s).eth = s.eth := by
  induction l generalizing s with
  | nil => rfl
  | cons a l ih => simp [ih, h]
@[simp] theorem foldl_skein {α : Type} (f : State → α → State) (h : ∀ s a, (f s a).skein = s.skein) (l : List α) (s : State) :
    (l.foldl f s).skein = s.skein := by
  induction l generalizing s with
  | nil => rfl
  | cons a l ih => simp [ih, h]
@[simp] theorem foldl_upd {α : Type} (f : State → α → State) (h : ∀ s a, (f s a).upd = s.upd) (l : List α) (s : State) :
    (l.foldl f s).upd = s.upd := by
  induction l generalizing s with
  | nil => rfl
  | cons a l ih => simp [ih, h]
@[simp] theorem foldl_panel {α : Type} (f : State → α → State) (h : ∀ s a, (f s a).panel = s.panel) (l : List α) (s : State) :
    (l.foldl f s).panel = s.panel := by
  induction l generalizing s with
  | nil => rfl
  | cons a l ih => simp [ih, h]
@[simp] theorem foldl_sent {α : Type} (f : State → α → State) (h : ∀ s a, (f s a).sent = s.sent) (l : List α) (s : State) :
    (l.foldl f s).sent = s.sent := by
  induction l generalizing s with
  | nil => rfl
  | cons a l ih => simp [ih, h]
@[simp] theorem foldl_free {α : Type} (f : State → α → State) (h : ∀ s a, (f s a).free = s.free) (l : List α) (s : State) :
    (l.foldl f s).free = s.free := by
  induction l generalizing s with
  | nil => rfl
  | cons a l ih => simp [ih, h]
@[simp] theorem foldl_pending {α : Type} (f : State → α → State) (h : ∀ s a, (f s a).pending = s.pending) (l : List α) (s : State) :
    (l.foldl f s).pending = s.pending := by
  induction l generalizing s with
  | nil => rfl
  | cons a l ih => simp [ih, h]
@[simp] theorem frame_nextFree (s : State) :
    let t := (nextFree s).2; t.sys = s.sys ∧ t.reqs = s.reqs ∧ t.counters = s.counters ∧ t.hank = s.hank ∧
      t.distaff = s.distaff ∧ t.func = s.func ∧ t.store = s.store ∧ t.core = s.core ∧ t.spool = s.spool ∧
      t.emergency = s.emergency ∧ t.lanes = s.lanes ∧ t.tally = s.tally ∧ t.outs = s.outs ∧ t.inputs = s.inputs ∧
      t.strike = s.strike ∧ t.gnss = s.gnss ∧ t.clock = s.clock ∧ t.sun = s.sun ∧ t.eth = s.eth ∧ t.skein = s.skein ∧
      t.upd = s.upd ∧ t.panel = s.panel ∧ t.sent = s.sent ∧ t.pending = s.pending := by
  simp [nextFree]
@[simp] theorem frame_nextBool (s : State) :
    let t := (nextBool s).2; t.sys = s.sys ∧ t.reqs = s.reqs ∧ t.counters = s.counters ∧ t.hank = s.hank ∧
      t.distaff = s.distaff ∧ t.func = s.func ∧ t.store = s.store ∧ t.core = s.core ∧ t.spool = s.spool ∧
      t.emergency = s.emergency ∧ t.lanes = s.lanes ∧ t.tally = s.tally ∧ t.outs = s.outs ∧ t.inputs = s.inputs ∧
      t.strike = s.strike ∧ t.gnss = s.gnss ∧ t.clock = s.clock ∧ t.sun = s.sun ∧ t.eth = s.eth ∧ t.skein = s.skein ∧
      t.upd = s.upd ∧ t.panel = s.panel ∧ t.sent = s.sent ∧ t.pending = s.pending := by
  simp [nextBool]
@[simp] theorem frame_raise (sev : Severity) (source : BitVec 8) (code : BitVec 16) (args : List Word) (s : State) :
    let t := (raise sev source code args s); t.sys = s.sys ∧ t.reqs = s.reqs ∧ t.counters = s.counters ∧
      t.hank = s.hank ∧ t.distaff = s.distaff ∧ t.func = s.func ∧ t.store = s.store ∧ t.core = s.core ∧
      t.spool = s.spool ∧ t.emergency = s.emergency ∧ t.lanes = s.lanes ∧ t.tally = s.tally ∧ t.outs = s.outs ∧
      t.inputs = s.inputs ∧ t.strike = s.strike ∧ t.gnss = s.gnss ∧ t.clock = s.clock ∧ t.sun = s.sun ∧ t.eth = s.eth ∧
      t.panel = s.panel ∧ t.sent = s.sent ∧ t.free = s.free ∧ t.pending = s.pending := by
  simp [raise]
@[simp] theorem frame_bump (addr idx : Nat) (s : State) :
    let t := (bump addr idx s); t.sys = s.sys ∧ t.reqs = s.reqs ∧ t.hank = s.hank ∧ t.distaff = s.distaff ∧
      t.func = s.func ∧ t.store = s.store ∧ t.core = s.core ∧ t.spool = s.spool ∧ t.emergency = s.emergency ∧
      t.lanes = s.lanes ∧ t.tally = s.tally ∧ t.outs = s.outs ∧ t.inputs = s.inputs ∧ t.strike = s.strike ∧
      t.gnss = s.gnss ∧ t.clock = s.clock ∧ t.sun = s.sun ∧ t.eth = s.eth ∧ t.panel = s.panel ∧ t.sent = s.sent ∧
      t.free = s.free ∧ t.pending = s.pending := by
  dsimp only; unfold bump; (repeat' split) <;> simp
@[simp] theorem frame_bump_upd (addr idx : Nat) (s : State) :
    (bump addr idx s).upd = s.upd := by
  unfold bump; (repeat' split) <;> simp
@[simp] theorem frame_bumps (addr idx : Nat) (n_ : Nat) (s : State) :
    let t := (bumps addr idx n_ s); t.sys = s.sys ∧ t.reqs = s.reqs ∧ t.hank = s.hank ∧ t.distaff = s.distaff ∧
      t.func = s.func ∧ t.store = s.store ∧ t.core = s.core ∧ t.spool = s.spool ∧ t.emergency = s.emergency ∧
      t.lanes = s.lanes ∧ t.tally = s.tally ∧ t.outs = s.outs ∧ t.inputs = s.inputs ∧ t.strike = s.strike ∧
      t.gnss = s.gnss ∧ t.clock = s.clock ∧ t.sun = s.sun ∧ t.eth = s.eth ∧ t.panel = s.panel ∧ t.sent = s.sent ∧
      t.free = s.free ∧ t.pending = s.pending := by
  induction n_ generalizing addr idx s with
  | zero => simp [bumps]
  | succ n ih => simp [bumps, ih]
@[simp] theorem frame_clearCounter (addr idx : Nat) (s : State) :
    let t := (clearCounter addr idx s); t.sys = s.sys ∧ t.reqs = s.reqs ∧ t.hank = s.hank ∧ t.distaff = s.distaff ∧
      t.func = s.func ∧ t.store = s.store ∧ t.core = s.core ∧ t.spool = s.spool ∧ t.emergency = s.emergency ∧
      t.lanes = s.lanes ∧ t.tally = s.tally ∧ t.outs = s.outs ∧ t.inputs = s.inputs ∧ t.strike = s.strike ∧
      t.gnss = s.gnss ∧ t.clock = s.clock ∧ t.sun = s.sun ∧ t.eth = s.eth ∧ t.skein = s.skein ∧ t.upd = s.upd ∧
      t.panel = s.panel ∧ t.sent = s.sent ∧ t.free = s.free ∧ t.pending = s.pending := by
  simp [clearCounter]
@[simp] theorem frame_dropCounters (lo hi : Nat) (s : State) :
    let t := (dropCounters lo hi s); t.sys = s.sys ∧ t.reqs = s.reqs ∧ t.hank = s.hank ∧ t.distaff = s.distaff ∧
      t.func = s.func ∧ t.store = s.store ∧ t.core = s.core ∧ t.spool = s.spool ∧ t.emergency = s.emergency ∧
      t.lanes = s.lanes ∧ t.tally = s.tally ∧ t.outs = s.outs ∧ t.inputs = s.inputs ∧ t.strike = s.strike ∧
      t.gnss = s.gnss ∧ t.clock = s.clock ∧ t.sun = s.sun ∧ t.eth = s.eth ∧ t.skein = s.skein ∧ t.upd = s.upd ∧
      t.panel = s.panel ∧ t.sent = s.sent ∧ t.free = s.free ∧ t.pending = s.pending := by
  simp [dropCounters]
@[simp] theorem frame_elapse (dt : Nat) (s : State) :
    let t := (elapse dt s); t.reqs = s.reqs ∧ t.counters = s.counters ∧ t.hank = s.hank ∧ t.distaff = s.distaff ∧
      t.func = s.func ∧ t.store = s.store ∧ t.core = s.core ∧ t.spool = s.spool ∧ t.emergency = s.emergency ∧
      t.tally = s.tally ∧ t.outs = s.outs ∧ t.inputs = s.inputs ∧ t.strike = s.strike ∧ t.gnss = s.gnss ∧
      t.clock = s.clock ∧ t.eth = s.eth ∧ t.skein = s.skein ∧ t.upd = s.upd ∧ t.panel = s.panel ∧ t.sent = s.sent ∧
      t.free = s.free ∧ t.pending = s.pending := by
  simp [elapse]
@[simp] theorem frame_advanceTo (t : Time) (s : State) :
    let t := (advanceTo t s); t.reqs = s.reqs ∧ t.counters = s.counters ∧ t.hank = s.hank ∧ t.distaff = s.distaff ∧
      t.func = s.func ∧ t.store = s.store ∧ t.core = s.core ∧ t.spool = s.spool ∧ t.emergency = s.emergency ∧
      t.tally = s.tally ∧ t.outs = s.outs ∧ t.inputs = s.inputs ∧ t.strike = s.strike ∧ t.gnss = s.gnss ∧
      t.clock = s.clock ∧ t.eth = s.eth ∧ t.skein = s.skein ∧ t.upd = s.upd ∧ t.panel = s.panel ∧ t.sent = s.sent ∧
      t.free = s.free ∧ t.pending = s.pending := by
  dsimp only; unfold advanceTo; (repeat' split) <;> simp
@[simp] theorem frame_tick (s : State) :
    let t := (tick s); t.emergency = s.emergency ∧ t.clock = s.clock ∧ t.eth = s.eth ∧ t.free = s.free ∧
      t.pending = s.pending := by
  dsimp only; unfold tick; (repeat' split) <;> simp
@[simp] theorem frame_tick_core (s : State) :
    (tick s).core = s.core := by
  unfold tick; (repeat' split) <;> simp
@[simp] theorem frame_tick_counters (s : State) :
    (tick s).counters = s.counters := by
  unfold tick; (repeat' split) <;> simp
@[simp] theorem frame_tick_distaff (s : State) :
    (tick s).distaff = s.distaff := by
  unfold tick; (repeat' split) <;> simp
@[simp] theorem frame_tick_func (s : State) :
    (tick s).func = s.func := by
  unfold tick; (repeat' split) <;> simp
@[simp] theorem frame_tick_gnss (s : State) :
    (tick s).gnss = s.gnss := by
  unfold tick; (repeat' split) <;> simp
@[simp] theorem frame_tick_hank (s : State) :
    (tick s).hank = s.hank := by
  unfold tick; (repeat' split) <;> simp
@[simp] theorem frame_tick_inputs (s : State) :
    (tick s).inputs = s.inputs := by
  unfold tick; (repeat' split) <;> simp
@[simp] theorem frame_tick_outs (s : State) :
    (tick s).outs = s.outs := by
  unfold tick; (repeat' split) <;> simp
@[simp] theorem frame_tick_panel (s : State) :
    (tick s).panel = s.panel := by
  unfold tick; (repeat' split) <;> simp
@[simp] theorem frame_tick_reqs (s : State) :
    (tick s).reqs = s.reqs := by
  unfold tick; (repeat' split) <;> simp
@[simp] theorem frame_tick_sent (s : State) :
    (tick s).sent = s.sent := by
  unfold tick; (repeat' split) <;> simp
@[simp] theorem frame_tick_skein (s : State) :
    (tick s).skein = s.skein := by
  unfold tick; (repeat' split) <;> simp
@[simp] theorem frame_tick_spool (s : State) :
    (tick s).spool = s.spool := by
  unfold tick; (repeat' split) <;> simp
@[simp] theorem frame_tick_store (s : State) :
    (tick s).store = s.store := by
  unfold tick; (repeat' split) <;> simp
@[simp] theorem frame_tick_strike (s : State) :
    (tick s).strike = s.strike := by
  unfold tick; (repeat' split) <;> simp
@[simp] theorem frame_tick_tally (s : State) :
    (tick s).tally = s.tally := by
  unfold tick; (repeat' split) <;> simp
@[simp] theorem frame_tick_upd (s : State) :
    (tick s).upd = s.upd := by
  unfold tick; (repeat' split) <;> simp
@[simp] theorem frame_setLane (l : Lane) (x : LaneSt) (s : State) :
    let t := (setLane l x s); t.sys = s.sys ∧ t.reqs = s.reqs ∧ t.counters = s.counters ∧ t.hank = s.hank ∧
      t.distaff = s.distaff ∧ t.func = s.func ∧ t.store = s.store ∧ t.core = s.core ∧ t.spool = s.spool ∧
      t.emergency = s.emergency ∧ t.tally = s.tally ∧ t.outs = s.outs ∧ t.inputs = s.inputs ∧ t.strike = s.strike ∧
      t.gnss = s.gnss ∧ t.clock = s.clock ∧ t.sun = s.sun ∧ t.eth = s.eth ∧ t.skein = s.skein ∧ t.upd = s.upd ∧
      t.panel = s.panel ∧ t.sent = s.sent ∧ t.free = s.free ∧ t.pending = s.pending := by
  dsimp only; unfold setLane; (repeat' split) <;> simp
@[simp] theorem frame_setSession (who : Requester) (x : Session) (s : State) :
    let t := (setSession who x s); t.sys = s.sys ∧ t.reqs = s.reqs ∧ t.counters = s.counters ∧ t.distaff = s.distaff ∧
      t.func = s.func ∧ t.store = s.store ∧ t.core = s.core ∧ t.spool = s.spool ∧ t.emergency = s.emergency ∧
      t.lanes = s.lanes ∧ t.tally = s.tally ∧ t.outs = s.outs ∧ t.inputs = s.inputs ∧ t.strike = s.strike ∧
      t.gnss = s.gnss ∧ t.clock = s.clock ∧ t.sun = s.sun ∧ t.eth = s.eth ∧ t.skein = s.skein ∧ t.upd = s.upd ∧
      t.panel = s.panel ∧ t.sent = s.sent ∧ t.free = s.free ∧ t.pending = s.pending := by
  simp [setSession]
@[simp] theorem frame_closeSession (who : Requester) (s : State) :
    let t := (closeSession who s); t.sys = s.sys ∧ t.reqs = s.reqs ∧ t.counters = s.counters ∧ t.core = s.core ∧
      t.spool = s.spool ∧ t.emergency = s.emergency ∧ t.lanes = s.lanes ∧ t.tally = s.tally ∧ t.outs = s.outs ∧
      t.inputs = s.inputs ∧ t.strike = s.strike ∧ t.gnss = s.gnss ∧ t.clock = s.clock ∧ t.sun = s.sun ∧ t.eth = s.eth ∧
      t.skein = s.skein ∧ t.upd = s.upd ∧ t.panel = s.panel ∧ t.sent = s.sent ∧ t.free = s.free ∧ t.pending = s.pending := by
  simp [closeSession]
@[simp] theorem frame_closeAllSessions (s : State) :
    let t := (closeAllSessions s); t.sys = s.sys ∧ t.reqs = s.reqs ∧ t.counters = s.counters ∧ t.core = s.core ∧
      t.spool = s.spool ∧ t.emergency = s.emergency ∧ t.lanes = s.lanes ∧ t.tally = s.tally ∧ t.outs = s.outs ∧
      t.inputs = s.inputs ∧ t.strike = s.strike ∧ t.gnss = s.gnss ∧ t.clock = s.clock ∧ t.sun = s.sun ∧ t.eth = s.eth ∧
      t.skein = s.skein ∧ t.upd = s.upd ∧ t.panel = s.panel ∧ t.sent = s.sent ∧ t.free = s.free ∧ t.pending = s.pending := by
  simp [closeAllSessions]
@[simp] theorem frame_send (m : Sent) (s : State) :
    let t := (send m s); t.sys = s.sys ∧ t.reqs = s.reqs ∧ t.counters = s.counters ∧ t.hank = s.hank ∧
      t.distaff = s.distaff ∧ t.func = s.func ∧ t.store = s.store ∧ t.core = s.core ∧ t.spool = s.spool ∧
      t.emergency = s.emergency ∧ t.lanes = s.lanes ∧ t.tally = s.tally ∧ t.outs = s.outs ∧ t.inputs = s.inputs ∧
      t.strike = s.strike ∧ t.gnss = s.gnss ∧ t.clock = s.clock ∧ t.sun = s.sun ∧ t.eth = s.eth ∧ t.skein = s.skein ∧
      t.upd = s.upd ∧ t.panel = s.panel ∧ t.free = s.free ∧ t.pending = s.pending := by
  simp [send]
@[simp] theorem frame_eventTo (who : Requester) (code : Nat) (args : List Word) (s : State) :
    let t := (eventTo who code args s); t.sys = s.sys ∧ t.reqs = s.reqs ∧ t.counters = s.counters ∧
      t.distaff = s.distaff ∧ t.func = s.func ∧ t.store = s.store ∧ t.core = s.core ∧ t.spool = s.spool ∧
      t.emergency = s.emergency ∧ t.lanes = s.lanes ∧ t.tally = s.tally ∧ t.outs = s.outs ∧ t.inputs = s.inputs ∧
      t.strike = s.strike ∧ t.gnss = s.gnss ∧ t.clock = s.clock ∧ t.sun = s.sun ∧ t.eth = s.eth ∧ t.skein = s.skein ∧
      t.upd = s.upd ∧ t.panel = s.panel ∧ t.free = s.free ∧ t.pending = s.pending := by
  unfold eventTo; dsimp only; (repeat' split) <;> simp
@[simp] theorem frame_event (code : Nat) (args : List Word) (s : State) :
    let t := (event code args s); t.sys = s.sys ∧ t.reqs = s.reqs ∧ t.counters = s.counters ∧ t.distaff = s.distaff ∧
      t.func = s.func ∧ t.store = s.store ∧ t.core = s.core ∧ t.spool = s.spool ∧ t.emergency = s.emergency ∧
      t.lanes = s.lanes ∧ t.tally = s.tally ∧ t.outs = s.outs ∧ t.inputs = s.inputs ∧ t.strike = s.strike ∧
      t.gnss = s.gnss ∧ t.clock = s.clock ∧ t.sun = s.sun ∧ t.eth = s.eth ∧ t.skein = s.skein ∧ t.upd = s.upd ∧
      t.panel = s.panel ∧ t.free = s.free ∧ t.pending = s.pending := by
  simp [event]
@[simp] theorem frame_answer (r : Req) (rep : Reply) (s : State) :
    let t := (answer r rep s); t.sys = s.sys ∧ t.reqs = s.reqs ∧ t.distaff = s.distaff ∧ t.func = s.func ∧
      t.store = s.store ∧ t.core = s.core ∧ t.spool = s.spool ∧ t.emergency = s.emergency ∧ t.lanes = s.lanes ∧
      t.tally = s.tally ∧ t.outs = s.outs ∧ t.inputs = s.inputs ∧ t.strike = s.strike ∧ t.gnss = s.gnss ∧
      t.clock = s.clock ∧ t.sun = s.sun ∧ t.eth = s.eth ∧ t.panel = s.panel ∧ t.free = s.free ∧ t.pending = s.pending := by
  dsimp only; unfold answer; (repeat' split) <;> simp
@[simp] theorem frame_answer_upd (r : Req) (rep : Reply) (s : State) :
    (answer r rep s).upd = s.upd := by
  unfold answer; (repeat' split) <;> simp
@[simp] theorem frame_unserved (who : Requester) (s : State) :
    let t := (unserved who s); t.sys = s.sys ∧ t.reqs = s.reqs ∧ t.hank = s.hank ∧ t.distaff = s.distaff ∧
      t.func = s.func ∧ t.store = s.store ∧ t.core = s.core ∧ t.spool = s.spool ∧ t.emergency = s.emergency ∧
      t.lanes = s.lanes ∧ t.tally = s.tally ∧ t.outs = s.outs ∧ t.inputs = s.inputs ∧ t.strike = s.strike ∧
      t.gnss = s.gnss ∧ t.clock = s.clock ∧ t.sun = s.sun ∧ t.eth = s.eth ∧ t.panel = s.panel ∧ t.sent = s.sent ∧
      t.free = s.free ∧ t.pending = s.pending := by
  dsimp only; unfold unserved; (repeat' split) <;> simp
@[simp] theorem frame_unserved_upd (who : Requester) (s : State) :
    (unserved who s).upd = s.upd := by
  unfold unserved; (repeat' split) <;> simp
@[simp] theorem frame_toDay (new : DayState) (cause : DayCause) (fault : Bool) (s : State) :
    let t := (toDay new cause fault s); t.reqs = s.reqs ∧ t.counters = s.counters ∧ t.distaff = s.distaff ∧
      t.func = s.func ∧ t.store = s.store ∧ t.core = s.core ∧ t.spool = s.spool ∧ t.emergency = s.emergency ∧
      t.lanes = s.lanes ∧ t.tally = s.tally ∧ t.outs = s.outs ∧ t.inputs = s.inputs ∧ t.strike = s.strike ∧
      t.gnss = s.gnss ∧ t.clock = s.clock ∧ t.sun = s.sun ∧ t.eth = s.eth ∧ t.panel = s.panel ∧ t.free = s.free ∧
      t.pending = s.pending := by
  simp [toDay]
@[simp] theorem frame_toDay_upd (new : DayState) (cause : DayCause) (fault : Bool) (s : State) :
    (toDay new cause fault s).upd = s.upd := by
  unfold toDay; (repeat' split) <;> simp
@[simp] theorem frame_setPerReq (who : Requester) (p : PerReq) (s : State) :
    let t := (setPerReq who p s); t.sys = s.sys ∧ t.counters = s.counters ∧ t.hank = s.hank ∧ t.distaff = s.distaff ∧
      t.func = s.func ∧ t.store = s.store ∧ t.core = s.core ∧ t.spool = s.spool ∧ t.emergency = s.emergency ∧
      t.lanes = s.lanes ∧ t.tally = s.tally ∧ t.outs = s.outs ∧ t.inputs = s.inputs ∧ t.strike = s.strike ∧
      t.gnss = s.gnss ∧ t.clock = s.clock ∧ t.sun = s.sun ∧ t.eth = s.eth ∧ t.skein = s.skein ∧ t.upd = s.upd ∧
      t.panel = s.panel ∧ t.sent = s.sent ∧ t.free = s.free ∧ t.pending = s.pending := by
  simp [setPerReq]
@[simp] theorem frame_writeBytes (sp addr : Nat) (bs : List Byte) (s : State) :
    let t := (writeBytes sp addr bs s); t.sys = s.sys ∧ t.reqs = s.reqs ∧ t.counters = s.counters ∧ t.hank = s.hank ∧
      t.distaff = s.distaff ∧ t.func = s.func ∧ t.store = s.store ∧ t.spool = s.spool ∧ t.emergency = s.emergency ∧
      t.lanes = s.lanes ∧ t.tally = s.tally ∧ t.outs = s.outs ∧ t.inputs = s.inputs ∧ t.strike = s.strike ∧
      t.gnss = s.gnss ∧ t.clock = s.clock ∧ t.sun = s.sun ∧ t.eth = s.eth ∧ t.skein = s.skein ∧ t.upd = s.upd ∧
      t.panel = s.panel ∧ t.sent = s.sent ∧ t.free = s.free ∧ t.pending = s.pending := by
  simp [writeBytes]
@[simp] theorem frame_loadConstants (s : State) :
    let t := (loadConstants s); t.sys = s.sys ∧ t.reqs = s.reqs ∧ t.counters = s.counters ∧ t.hank = s.hank ∧
      t.distaff = s.distaff ∧ t.func = s.func ∧ t.store = s.store ∧ t.spool = s.spool ∧ t.emergency = s.emergency ∧
      t.lanes = s.lanes ∧ t.tally = s.tally ∧ t.outs = s.outs ∧ t.inputs = s.inputs ∧ t.strike = s.strike ∧
      t.gnss = s.gnss ∧ t.clock = s.clock ∧ t.sun = s.sun ∧ t.eth = s.eth ∧ t.skein = s.skein ∧ t.upd = s.upd ∧
      t.panel = s.panel ∧ t.sent = s.sent ∧ t.free = s.free ∧ t.pending = s.pending := by
  simp [loadConstants]
@[simp] theorem frame_setRing (index : Nat) (r : SigRing) (s : State) :
    let t := (setRing index r s); t.sys = s.sys ∧ t.reqs = s.reqs ∧ t.counters = s.counters ∧ t.hank = s.hank ∧
      t.distaff = s.distaff ∧ t.func = s.func ∧ t.store = s.store ∧ t.spool = s.spool ∧ t.emergency = s.emergency ∧
      t.lanes = s.lanes ∧ t.tally = s.tally ∧ t.outs = s.outs ∧ t.inputs = s.inputs ∧ t.strike = s.strike ∧
      t.gnss = s.gnss ∧ t.clock = s.clock ∧ t.sun = s.sun ∧ t.eth = s.eth ∧ t.skein = s.skein ∧ t.upd = s.upd ∧
      t.panel = s.panel ∧ t.sent = s.sent ∧ t.free = s.free ∧ t.pending = s.pending := by
  simp [setRing]
@[simp] theorem frame_sourceRecord (index : Nat) (st : SigStatus) (s : State) :
    let t := (sourceRecord index st s); t.sys = s.sys ∧ t.reqs = s.reqs ∧ t.counters = s.counters ∧ t.hank = s.hank ∧
      t.distaff = s.distaff ∧ t.func = s.func ∧ t.store = s.store ∧ t.core = s.core ∧ t.spool = s.spool ∧
      t.emergency = s.emergency ∧ t.lanes = s.lanes ∧ t.tally = s.tally ∧ t.outs = s.outs ∧ t.inputs = s.inputs ∧
      t.strike = s.strike ∧ t.gnss = s.gnss ∧ t.clock = s.clock ∧ t.sun = s.sun ∧ t.eth = s.eth ∧ t.panel = s.panel ∧
      t.sent = s.sent ∧ t.free = s.free ∧ t.pending = s.pending := by
  simp [sourceRecord]
@[simp] theorem frame_noteDeparture (index : Nat) (was : List Sample) (st : SigStatus) (s : State) :
    let t := (noteDeparture index was st s); t.sys = s.sys ∧ t.reqs = s.reqs ∧ t.counters = s.counters ∧
      t.hank = s.hank ∧ t.distaff = s.distaff ∧ t.func = s.func ∧ t.store = s.store ∧ t.core = s.core ∧
      t.spool = s.spool ∧ t.emergency = s.emergency ∧ t.lanes = s.lanes ∧ t.tally = s.tally ∧ t.outs = s.outs ∧
      t.inputs = s.inputs ∧ t.strike = s.strike ∧ t.gnss = s.gnss ∧ t.clock = s.clock ∧ t.sun = s.sun ∧ t.eth = s.eth ∧
      t.panel = s.panel ∧ t.sent = s.sent ∧ t.free = s.free ∧ t.pending = s.pending := by
  unfold noteDeparture; (repeat' split) <;> simp
@[simp] theorem frame_lateRecord (index : Nat) (stamp : Time) (s : State) :
    let t := (lateRecord index stamp s); t.sys = s.sys ∧ t.reqs = s.reqs ∧ t.counters = s.counters ∧ t.hank = s.hank ∧
      t.distaff = s.distaff ∧ t.func = s.func ∧ t.store = s.store ∧ t.core = s.core ∧ t.spool = s.spool ∧
      t.emergency = s.emergency ∧ t.lanes = s.lanes ∧ t.tally = s.tally ∧ t.outs = s.outs ∧ t.inputs = s.inputs ∧
      t.strike = s.strike ∧ t.gnss = s.gnss ∧ t.clock = s.clock ∧ t.sun = s.sun ∧ t.eth = s.eth ∧ t.panel = s.panel ∧
      t.sent = s.sent ∧ t.free = s.free ∧ t.pending = s.pending := by
  simp [lateRecord]
@[simp] theorem frame_land (index : Nat) (w : Writer) (value : Word) (stamp : Time) (status : SigStatus) (s : State) :
    let t := (land index w value stamp status s); t.sys = s.sys ∧ t.reqs = s.reqs ∧ t.hank = s.hank ∧
      t.distaff = s.distaff ∧ t.func = s.func ∧ t.store = s.store ∧ t.spool = s.spool ∧ t.emergency = s.emergency ∧
      t.lanes = s.lanes ∧ t.tally = s.tally ∧ t.outs = s.outs ∧ t.inputs = s.inputs ∧ t.strike = s.strike ∧
      t.gnss = s.gnss ∧ t.clock = s.clock ∧ t.sun = s.sun ∧ t.eth = s.eth ∧ t.panel = s.panel ∧ t.sent = s.sent ∧
      t.free = s.free ∧ t.pending = s.pending := by
  unfold land; dsimp only; (repeat' split) <;> simp
@[simp] theorem frame_quarantineNewest (index : Nat) (s : State) :
    let t := (quarantineNewest index s); t.sys = s.sys ∧ t.reqs = s.reqs ∧ t.counters = s.counters ∧ t.hank = s.hank ∧
      t.distaff = s.distaff ∧ t.func = s.func ∧ t.store = s.store ∧ t.spool = s.spool ∧ t.emergency = s.emergency ∧
      t.lanes = s.lanes ∧ t.tally = s.tally ∧ t.outs = s.outs ∧ t.inputs = s.inputs ∧ t.strike = s.strike ∧
      t.gnss = s.gnss ∧ t.clock = s.clock ∧ t.sun = s.sun ∧ t.eth = s.eth ∧ t.panel = s.panel ∧ t.sent = s.sent ∧
      t.free = s.free ∧ t.pending = s.pending := by
  unfold quarantineNewest; dsimp only; (repeat' split) <;> simp
@[simp] theorem frame_staleNewest (index : Nat) (s : State) :
    let t := (staleNewest index s); t.sys = s.sys ∧ t.reqs = s.reqs ∧ t.counters = s.counters ∧ t.hank = s.hank ∧
      t.distaff = s.distaff ∧ t.func = s.func ∧ t.store = s.store ∧ t.spool = s.spool ∧ t.emergency = s.emergency ∧
      t.lanes = s.lanes ∧ t.tally = s.tally ∧ t.outs = s.outs ∧ t.inputs = s.inputs ∧ t.strike = s.strike ∧
      t.gnss = s.gnss ∧ t.clock = s.clock ∧ t.sun = s.sun ∧ t.eth = s.eth ∧ t.skein = s.skein ∧ t.upd = s.upd ∧
      t.panel = s.panel ∧ t.sent = s.sent ∧ t.free = s.free ∧ t.pending = s.pending := by
  unfold staleNewest; dsimp only; (repeat' split) <;> simp
@[simp] theorem frame_staleAll (l : List Nat) (s : State) :
    let t := (staleAll l s); t.sys = s.sys ∧ t.reqs = s.reqs ∧ t.counters = s.counters ∧ t.hank = s.hank ∧
      t.distaff = s.distaff ∧ t.func = s.func ∧ t.store = s.store ∧ t.spool = s.spool ∧ t.emergency = s.emergency ∧
      t.lanes = s.lanes ∧ t.tally = s.tally ∧ t.outs = s.outs ∧ t.inputs = s.inputs ∧ t.strike = s.strike ∧
      t.gnss = s.gnss ∧ t.clock = s.clock ∧ t.sun = s.sun ∧ t.eth = s.eth ∧ t.skein = s.skein ∧ t.upd = s.upd ∧
      t.panel = s.panel ∧ t.sent = s.sent ∧ t.free = s.free ∧ t.pending = s.pending := by
  simp [staleAll]
@[simp] theorem frame_readSignal (reader : Option Nat) (index : Nat) (fb : Fallback) (ti start : Time) (s : State) :
    let t := (readSignal reader index fb ti start s).2; t.sys = s.sys ∧ t.reqs = s.reqs ∧ t.counters = s.counters ∧
      t.hank = s.hank ∧ t.distaff = s.distaff ∧ t.func = s.func ∧ t.store = s.store ∧ t.spool = s.spool ∧
      t.emergency = s.emergency ∧ t.lanes = s.lanes ∧ t.tally = s.tally ∧ t.outs = s.outs ∧ t.inputs = s.inputs ∧
      t.strike = s.strike ∧ t.gnss = s.gnss ∧ t.clock = s.clock ∧ t.sun = s.sun ∧ t.eth = s.eth ∧ t.panel = s.panel ∧
      t.sent = s.sent ∧ t.pending = s.pending := by
  unfold readSignal; dsimp only; (repeat' split) <;> simp
@[simp] theorem frame_setBob (b : Nat) (x : Bob) (s : State) :
    let t := (setBob b x s); t.sys = s.sys ∧ t.reqs = s.reqs ∧ t.counters = s.counters ∧ t.hank = s.hank ∧
      t.distaff = s.distaff ∧ t.func = s.func ∧ t.store = s.store ∧ t.spool = s.spool ∧ t.emergency = s.emergency ∧
      t.lanes = s.lanes ∧ t.tally = s.tally ∧ t.outs = s.outs ∧ t.inputs = s.inputs ∧ t.strike = s.strike ∧
      t.gnss = s.gnss ∧ t.clock = s.clock ∧ t.sun = s.sun ∧ t.eth = s.eth ∧ t.skein = s.skein ∧ t.upd = s.upd ∧
      t.panel = s.panel ∧ t.sent = s.sent ∧ t.free = s.free ∧ t.pending = s.pending := by
  simp [setBob]
@[simp] theorem frame_offer (b : Nat) (stamp : Time) (aux : BitVec 16) (bytes : List Byte) (s : State) :
    let t := (offer b stamp aux bytes s).2; t.sys = s.sys ∧ t.reqs = s.reqs ∧ t.hank = s.hank ∧ t.distaff = s.distaff ∧
      t.func = s.func ∧ t.store = s.store ∧ t.spool = s.spool ∧ t.emergency = s.emergency ∧ t.lanes = s.lanes ∧
      t.tally = s.tally ∧ t.outs = s.outs ∧ t.inputs = s.inputs ∧ t.strike = s.strike ∧ t.gnss = s.gnss ∧
      t.clock = s.clock ∧ t.sun = s.sun ∧ t.eth = s.eth ∧ t.panel = s.panel ∧ t.sent = s.sent ∧ t.free = s.free ∧
      t.pending = s.pending := by
  unfold offer; dsimp only; (repeat' split) <;> simp
@[simp] theorem frame_offer_upd (b : Nat) (stamp : Time) (aux : BitVec 16) (bytes : List Byte) (s : State) :
    (offer b stamp aux bytes s).2.upd = s.upd := by
  unfold offer; dsimp only; (repeat' split) <;> simp
@[simp] theorem frame_strikeDeliver (b : Nat) (s : State) :
    let t := (strikeDeliver b s); t.sys = s.sys ∧ t.reqs = s.reqs ∧ t.counters = s.counters ∧ t.hank = s.hank ∧
      t.distaff = s.distaff ∧ t.func = s.func ∧ t.store = s.store ∧ t.spool = s.spool ∧ t.emergency = s.emergency ∧
      t.lanes = s.lanes ∧ t.tally = s.tally ∧ t.outs = s.outs ∧ t.inputs = s.inputs ∧ t.gnss = s.gnss ∧
      t.clock = s.clock ∧ t.sun = s.sun ∧ t.eth = s.eth ∧ t.skein = s.skein ∧ t.upd = s.upd ∧ t.panel = s.panel ∧
      t.sent = s.sent ∧ t.free = s.free ∧ t.pending = s.pending := by
  unfold strikeDeliver; dsimp only; (repeat' split) <;> simp
@[simp] theorem frame_setTask (n : Nat) (x : TaskState) (s : State) :
    let t := (setTask n x s); t.sys = s.sys ∧ t.reqs = s.reqs ∧ t.counters = s.counters ∧ t.hank = s.hank ∧
      t.distaff = s.distaff ∧ t.func = s.func ∧ t.store = s.store ∧ t.spool = s.spool ∧ t.emergency = s.emergency ∧
      t.lanes = s.lanes ∧ t.tally = s.tally ∧ t.outs = s.outs ∧ t.inputs = s.inputs ∧ t.strike = s.strike ∧
      t.gnss = s.gnss ∧ t.clock = s.clock ∧ t.sun = s.sun ∧ t.eth = s.eth ∧ t.skein = s.skein ∧ t.upd = s.upd ∧
      t.panel = s.panel ∧ t.sent = s.sent ∧ t.free = s.free ∧ t.pending = s.pending := by
  simp [setTask]
@[simp] theorem frame_popBob (b : Nat) (s : State) :
    let t := (popBob b s).2; t.sys = s.sys ∧ t.reqs = s.reqs ∧ t.counters = s.counters ∧ t.hank = s.hank ∧
      t.distaff = s.distaff ∧ t.func = s.func ∧ t.store = s.store ∧ t.spool = s.spool ∧ t.emergency = s.emergency ∧
      t.lanes = s.lanes ∧ t.tally = s.tally ∧ t.outs = s.outs ∧ t.inputs = s.inputs ∧ t.strike = s.strike ∧
      t.gnss = s.gnss ∧ t.clock = s.clock ∧ t.sun = s.sun ∧ t.eth = s.eth ∧ t.skein = s.skein ∧ t.upd = s.upd ∧
      t.panel = s.panel ∧ t.sent = s.sent ∧ t.free = s.free ∧ t.pending = s.pending := by
  unfold popBob; dsimp only; (repeat' split) <;> simp
@[simp] theorem frame_setAct (sp : Nat) (a : Activation) (s : State) :
    let t := (setAct sp a s); t.sys = s.sys ∧ t.reqs = s.reqs ∧ t.counters = s.counters ∧ t.hank = s.hank ∧
      t.distaff = s.distaff ∧ t.func = s.func ∧ t.store = s.store ∧ t.spool = s.spool ∧ t.emergency = s.emergency ∧
      t.lanes = s.lanes ∧ t.tally = s.tally ∧ t.outs = s.outs ∧ t.inputs = s.inputs ∧ t.strike = s.strike ∧
      t.gnss = s.gnss ∧ t.clock = s.clock ∧ t.sun = s.sun ∧ t.eth = s.eth ∧ t.skein = s.skein ∧ t.upd = s.upd ∧
      t.panel = s.panel ∧ t.sent = s.sent ∧ t.free = s.free ∧ t.pending = s.pending := by
  simp [setAct]
@[simp] theorem frame_dropAct (sp : Nat) (s : State) :
    let t := (dropAct sp s); t.sys = s.sys ∧ t.reqs = s.reqs ∧ t.counters = s.counters ∧ t.hank = s.hank ∧
      t.distaff = s.distaff ∧ t.func = s.func ∧ t.store = s.store ∧ t.spool = s.spool ∧ t.emergency = s.emergency ∧
      t.lanes = s.lanes ∧ t.tally = s.tally ∧ t.outs = s.outs ∧ t.inputs = s.inputs ∧ t.strike = s.strike ∧
      t.gnss = s.gnss ∧ t.clock = s.clock ∧ t.sun = s.sun ∧ t.eth = s.eth ∧ t.skein = s.skein ∧ t.upd = s.upd ∧
      t.panel = s.panel ∧ t.sent = s.sent ∧ t.free = s.free ∧ t.pending = s.pending := by
  simp [dropAct]
@[simp] theorem frame_release (n : Nat) (ti : Time) (arrival : Bool) (s : State) :
    let t := (release n ti arrival s); t.sys = s.sys ∧ t.reqs = s.reqs ∧ t.hank = s.hank ∧ t.distaff = s.distaff ∧
      t.func = s.func ∧ t.store = s.store ∧ t.spool = s.spool ∧ t.emergency = s.emergency ∧ t.lanes = s.lanes ∧
      t.tally = s.tally ∧ t.outs = s.outs ∧ t.inputs = s.inputs ∧ t.strike = s.strike ∧ t.gnss = s.gnss ∧
      t.clock = s.clock ∧ t.sun = s.sun ∧ t.eth = s.eth ∧ t.panel = s.panel ∧ t.sent = s.sent ∧ t.free = s.free ∧
      t.pending = s.pending := by
  unfold release; dsimp only; (repeat' split) <;> simp
@[simp] theorem frame_release_upd (n : Nat) (ti : Time) (arrival : Bool) (s : State) :
    (release n ti arrival s).upd = s.upd := by
  unfold release; dsimp only; (repeat' split) <;> simp
@[simp] theorem frame_discardHead (b : Nat) (s : State) :
    let t := (discardHead b s); t.sys = s.sys ∧ t.reqs = s.reqs ∧ t.counters = s.counters ∧ t.hank = s.hank ∧
      t.distaff = s.distaff ∧ t.func = s.func ∧ t.store = s.store ∧ t.spool = s.spool ∧ t.emergency = s.emergency ∧
      t.lanes = s.lanes ∧ t.tally = s.tally ∧ t.outs = s.outs ∧ t.inputs = s.inputs ∧ t.strike = s.strike ∧
      t.gnss = s.gnss ∧ t.clock = s.clock ∧ t.sun = s.sun ∧ t.eth = s.eth ∧ t.skein = s.skein ∧ t.upd = s.upd ∧
      t.panel = s.panel ∧ t.sent = s.sent ∧ t.free = s.free ∧ t.pending = s.pending := by
  dsimp only; unfold discardHead; (repeat' split) <;> simp
@[simp] theorem frame_clearDropped (b : Nat) (l_ : List (Bool × Bool)) (s : State) :
    let t := (clearDropped b l_ s).2; t.sys = s.sys ∧ t.reqs = s.reqs ∧ t.counters = s.counters ∧ t.hank = s.hank ∧
      t.distaff = s.distaff ∧ t.func = s.func ∧ t.store = s.store ∧ t.spool = s.spool ∧ t.emergency = s.emergency ∧
      t.lanes = s.lanes ∧ t.tally = s.tally ∧ t.outs = s.outs ∧ t.inputs = s.inputs ∧ t.strike = s.strike ∧
      t.gnss = s.gnss ∧ t.clock = s.clock ∧ t.sun = s.sun ∧ t.eth = s.eth ∧ t.skein = s.skein ∧ t.upd = s.upd ∧
      t.panel = s.panel ∧ t.sent = s.sent ∧ t.free = s.free ∧ t.pending = s.pending := by
  induction l_ generalizing b s with
  | nil => simp [clearDropped]
  | cons a l ih => unfold clearDropped; (repeat' split) <;> simp_all
@[simp] theorem frame_clearReleased (b : Nat) (l_ : List (Bool × Bool)) (s : State) :
    let t := (clearReleased b l_ s); t.sys = s.sys ∧ t.reqs = s.reqs ∧ t.counters = s.counters ∧ t.hank = s.hank ∧
      t.distaff = s.distaff ∧ t.func = s.func ∧ t.store = s.store ∧ t.spool = s.spool ∧ t.emergency = s.emergency ∧
      t.lanes = s.lanes ∧ t.tally = s.tally ∧ t.outs = s.outs ∧ t.inputs = s.inputs ∧ t.strike = s.strike ∧
      t.gnss = s.gnss ∧ t.clock = s.clock ∧ t.sun = s.sun ∧ t.eth = s.eth ∧ t.skein = s.skein ∧ t.upd = s.upd ∧
      t.panel = s.panel ∧ t.sent = s.sent ∧ t.free = s.free ∧ t.pending = s.pending := by
  induction l_ generalizing b s with
  | nil => simp [clearReleased]
  | cons a l ih => dsimp only; unfold clearReleased; (repeat' split) <;> simp [ih]
@[simp] theorem frame_finish (sp : Nat) (a : Activation) (s : State) :
    let t := (finish sp a s); t.sys = s.sys ∧ t.reqs = s.reqs ∧ t.hank = s.hank ∧ t.distaff = s.distaff ∧
      t.func = s.func ∧ t.store = s.store ∧ t.spool = s.spool ∧ t.emergency = s.emergency ∧ t.lanes = s.lanes ∧
      t.tally = s.tally ∧ t.outs = s.outs ∧ t.inputs = s.inputs ∧ t.strike = s.strike ∧ t.gnss = s.gnss ∧
      t.clock = s.clock ∧ t.sun = s.sun ∧ t.eth = s.eth ∧ t.panel = s.panel ∧ t.sent = s.sent ∧ t.free = s.free ∧
      t.pending = s.pending := by
  unfold finish; dsimp only; (repeat' split) <;> simp
@[simp] theorem frame_finish_upd (sp : Nat) (a : Activation) (s : State) :
    (finish sp a s).upd = s.upd := by
  unfold finish; dsimp only; (repeat' split) <;> simp
@[simp] theorem frame_stopTask (n : Nat) (s : State) :
    let t := (stopTask n s); t.sys = s.sys ∧ t.reqs = s.reqs ∧ t.counters = s.counters ∧ t.hank = s.hank ∧
      t.distaff = s.distaff ∧ t.func = s.func ∧ t.store = s.store ∧ t.spool = s.spool ∧ t.emergency = s.emergency ∧
      t.lanes = s.lanes ∧ t.tally = s.tally ∧ t.outs = s.outs ∧ t.inputs = s.inputs ∧ t.strike = s.strike ∧
      t.gnss = s.gnss ∧ t.clock = s.clock ∧ t.sun = s.sun ∧ t.eth = s.eth ∧ t.skein = s.skein ∧ t.upd = s.upd ∧
      t.panel = s.panel ∧ t.sent = s.sent ∧ t.free = s.free ∧ t.pending = s.pending := by
  simp [stopTask]
@[simp] theorem frame_trapOne (sp cause : Nat) (args : List Word) (a : Activation) (s : State) :
    let t := (trapOne sp cause args a s); t.sys = s.sys ∧ t.reqs = s.reqs ∧ t.hank = s.hank ∧ t.distaff = s.distaff ∧
      t.func = s.func ∧ t.store = s.store ∧ t.spool = s.spool ∧ t.emergency = s.emergency ∧ t.lanes = s.lanes ∧
      t.tally = s.tally ∧ t.outs = s.outs ∧ t.inputs = s.inputs ∧ t.strike = s.strike ∧ t.gnss = s.gnss ∧
      t.clock = s.clock ∧ t.sun = s.sun ∧ t.eth = s.eth ∧ t.panel = s.panel ∧ t.sent = s.sent ∧ t.free = s.free ∧
      t.pending = s.pending := by
  unfold trapOne; dsimp only; (repeat' split) <;> simp
@[simp] theorem frame_trapOne_upd (sp cause : Nat) (args : List Word) (a : Activation) (s : State) :
    (trapOne sp cause args a s).upd = s.upd := by
  unfold trapOne; dsimp only; (repeat' split) <;> simp
@[simp] theorem frame_breakBarriers (n_ : Nat) (s : State) :
    let t := (breakBarriers n_ s); t.sys = s.sys ∧ t.reqs = s.reqs ∧ t.hank = s.hank ∧ t.distaff = s.distaff ∧
      t.func = s.func ∧ t.store = s.store ∧ t.spool = s.spool ∧ t.emergency = s.emergency ∧ t.lanes = s.lanes ∧
      t.tally = s.tally ∧ t.outs = s.outs ∧ t.inputs = s.inputs ∧ t.strike = s.strike ∧ t.gnss = s.gnss ∧
      t.clock = s.clock ∧ t.sun = s.sun ∧ t.eth = s.eth ∧ t.panel = s.panel ∧ t.sent = s.sent ∧ t.free = s.free ∧
      t.pending = s.pending := by
  induction n_ generalizing s with
  | zero => simp [breakBarriers]
  | succ n ih => dsimp only; unfold breakBarriers; (repeat' split) <;> simp [ih]
@[simp] theorem frame_trap (sp cause : Nat) (args : List Word) (a : Activation) (s : State) :
    let t := (trap sp cause args a s); t.sys = s.sys ∧ t.reqs = s.reqs ∧ t.hank = s.hank ∧ t.distaff = s.distaff ∧
      t.func = s.func ∧ t.store = s.store ∧ t.spool = s.spool ∧ t.emergency = s.emergency ∧ t.lanes = s.lanes ∧
      t.tally = s.tally ∧ t.outs = s.outs ∧ t.inputs = s.inputs ∧ t.strike = s.strike ∧ t.gnss = s.gnss ∧
      t.clock = s.clock ∧ t.sun = s.sun ∧ t.eth = s.eth ∧ t.panel = s.panel ∧ t.sent = s.sent ∧ t.free = s.free ∧
      t.pending = s.pending := by
  simp [trap]
@[simp] theorem frame_setLedger (k : Nat) (l : Ledger) (s : State) :
    let t := (setLedger k l s); t.sys = s.sys ∧ t.reqs = s.reqs ∧ t.counters = s.counters ∧ t.hank = s.hank ∧
      t.distaff = s.distaff ∧ t.func = s.func ∧ t.store = s.store ∧ t.core = s.core ∧ t.spool = s.spool ∧
      t.emergency = s.emergency ∧ t.lanes = s.lanes ∧ t.outs = s.outs ∧ t.inputs = s.inputs ∧ t.strike = s.strike ∧
      t.gnss = s.gnss ∧ t.clock = s.clock ∧ t.sun = s.sun ∧ t.eth = s.eth ∧ t.skein = s.skein ∧ t.upd = s.upd ∧
      t.panel = s.panel ∧ t.sent = s.sent ∧ t.free = s.free ∧ t.pending = s.pending := by
  simp [setLedger]
@[simp] theorem frame_trackOver (k : Nat) (s : State) :
    let t := (trackOver k s); t.sys = s.sys ∧ t.counters = s.counters ∧ t.hank = s.hank ∧ t.distaff = s.distaff ∧
      t.func = s.func ∧ t.store = s.store ∧ t.core = s.core ∧ t.spool = s.spool ∧ t.emergency = s.emergency ∧
      t.lanes = s.lanes ∧ t.outs = s.outs ∧ t.inputs = s.inputs ∧ t.strike = s.strike ∧ t.gnss = s.gnss ∧
      t.clock = s.clock ∧ t.sun = s.sun ∧ t.eth = s.eth ∧ t.skein = s.skein ∧ t.upd = s.upd ∧ t.panel = s.panel ∧
      t.sent = s.sent ∧ t.free = s.free ∧ t.pending = s.pending := by
  dsimp only; unfold trackOver; (repeat' split) <;> simp
@[simp] theorem frame_trackOver_reqs (k : Nat) (s : State) :
    (trackOver k s).reqs = s.reqs := by
  unfold trackOver; (repeat' split) <;> simp
@[simp] theorem frame_enter (k : Nat) (c : Claim) (s : State) :
    let t := (enter k c s); t.sys = s.sys ∧ t.counters = s.counters ∧ t.hank = s.hank ∧ t.distaff = s.distaff ∧
      t.func = s.func ∧ t.store = s.store ∧ t.core = s.core ∧ t.spool = s.spool ∧ t.emergency = s.emergency ∧
      t.lanes = s.lanes ∧ t.outs = s.outs ∧ t.inputs = s.inputs ∧ t.strike = s.strike ∧ t.gnss = s.gnss ∧
      t.clock = s.clock ∧ t.sun = s.sun ∧ t.eth = s.eth ∧ t.skein = s.skein ∧ t.upd = s.upd ∧ t.panel = s.panel ∧
      t.sent = s.sent ∧ t.free = s.free ∧ t.pending = s.pending := by
  simp [enter]
@[simp] theorem frame_enter_reqs (k : Nat) (c : Claim) (s : State) :
    (enter k c s).reqs = s.reqs := by
  simp [enter]
@[simp] theorem frame_giveBack (k : Nat) (o : Owner) (s : State) :
    let t := (giveBack k o s); t.sys = s.sys ∧ t.counters = s.counters ∧ t.hank = s.hank ∧ t.distaff = s.distaff ∧
      t.func = s.func ∧ t.store = s.store ∧ t.core = s.core ∧ t.spool = s.spool ∧ t.emergency = s.emergency ∧
      t.lanes = s.lanes ∧ t.outs = s.outs ∧ t.inputs = s.inputs ∧ t.strike = s.strike ∧ t.gnss = s.gnss ∧
      t.clock = s.clock ∧ t.sun = s.sun ∧ t.eth = s.eth ∧ t.skein = s.skein ∧ t.upd = s.upd ∧ t.panel = s.panel ∧
      t.sent = s.sent ∧ t.free = s.free ∧ t.pending = s.pending := by
  simp [giveBack]
@[simp] theorem frame_giveBack_reqs (k : Nat) (o : Owner) (s : State) :
    (giveBack k o s).reqs = s.reqs := by
  simp [giveBack]
@[simp] theorem frame_unqueue (k : Nat) (o : Owner) (s : State) :
    let t := (unqueue k o s); t.sys = s.sys ∧ t.reqs = s.reqs ∧ t.counters = s.counters ∧ t.hank = s.hank ∧
      t.distaff = s.distaff ∧ t.func = s.func ∧ t.store = s.store ∧ t.core = s.core ∧ t.spool = s.spool ∧
      t.emergency = s.emergency ∧ t.lanes = s.lanes ∧ t.outs = s.outs ∧ t.inputs = s.inputs ∧ t.strike = s.strike ∧
      t.gnss = s.gnss ∧ t.clock = s.clock ∧ t.sun = s.sun ∧ t.eth = s.eth ∧ t.skein = s.skein ∧ t.upd = s.upd ∧
      t.panel = s.panel ∧ t.sent = s.sent ∧ t.free = s.free ∧ t.pending = s.pending := by
  simp [unqueue]
@[simp] theorem frame_recordRefusal (k : Nat) (o : Owner) (s : State) :
    let t := (recordRefusal k o s); t.sys = s.sys ∧ t.reqs = s.reqs ∧ t.hank = s.hank ∧ t.distaff = s.distaff ∧
      t.func = s.func ∧ t.store = s.store ∧ t.core = s.core ∧ t.spool = s.spool ∧ t.emergency = s.emergency ∧
      t.lanes = s.lanes ∧ t.tally = s.tally ∧ t.outs = s.outs ∧ t.inputs = s.inputs ∧ t.strike = s.strike ∧
      t.gnss = s.gnss ∧ t.clock = s.clock ∧ t.sun = s.sun ∧ t.eth = s.eth ∧ t.panel = s.panel ∧ t.sent = s.sent ∧
      t.free = s.free ∧ t.pending = s.pending := by
  simp [recordRefusal]
@[simp] theorem frame_recordRefusal_upd (k : Nat) (o : Owner) (s : State) :
    (recordRefusal k o s).upd = s.upd := by
  simp [recordRefusal]
@[simp] theorem frame_replaceQueued (k : Nat) (c : Claim) (s : State) :
    let t := (replaceQueued k c s); t.sys = s.sys ∧ t.reqs = s.reqs ∧ t.counters = s.counters ∧ t.hank = s.hank ∧
      t.distaff = s.distaff ∧ t.func = s.func ∧ t.store = s.store ∧ t.core = s.core ∧ t.spool = s.spool ∧
      t.emergency = s.emergency ∧ t.lanes = s.lanes ∧ t.outs = s.outs ∧ t.inputs = s.inputs ∧ t.strike = s.strike ∧
      t.gnss = s.gnss ∧ t.clock = s.clock ∧ t.sun = s.sun ∧ t.eth = s.eth ∧ t.skein = s.skein ∧ t.upd = s.upd ∧
      t.panel = s.panel ∧ t.sent = s.sent ∧ t.free = s.free ∧ t.pending = s.pending := by
  simp [replaceQueued]
@[simp] theorem frame_enqueue (k : Nat) (c : Claim) (s : State) :
    let t := (enqueue k c s); t.sys = s.sys ∧ t.reqs = s.reqs ∧ t.hank = s.hank ∧ t.distaff = s.distaff ∧
      t.func = s.func ∧ t.store = s.store ∧ t.core = s.core ∧ t.spool = s.spool ∧ t.emergency = s.emergency ∧
      t.lanes = s.lanes ∧ t.outs = s.outs ∧ t.inputs = s.inputs ∧ t.strike = s.strike ∧ t.gnss = s.gnss ∧
      t.clock = s.clock ∧ t.sun = s.sun ∧ t.eth = s.eth ∧ t.panel = s.panel ∧ t.sent = s.sent ∧ t.free = s.free ∧
      t.pending = s.pending := by
  simp [enqueue]
@[simp] theorem frame_enqueue_upd (k : Nat) (c : Claim) (s : State) :
    (enqueue k c s).upd = s.upd := by
  simp [enqueue]
@[simp] theorem frame_discardQueued (k : Nat) (s : State) :
    let t := (discardQueued k s); t.sys = s.sys ∧ t.reqs = s.reqs ∧ t.hank = s.hank ∧ t.distaff = s.distaff ∧
      t.func = s.func ∧ t.store = s.store ∧ t.core = s.core ∧ t.spool = s.spool ∧ t.emergency = s.emergency ∧
      t.lanes = s.lanes ∧ t.outs = s.outs ∧ t.inputs = s.inputs ∧ t.strike = s.strike ∧ t.gnss = s.gnss ∧
      t.clock = s.clock ∧ t.sun = s.sun ∧ t.eth = s.eth ∧ t.panel = s.panel ∧ t.sent = s.sent ∧ t.free = s.free ∧
      t.pending = s.pending := by
  simp [discardQueued]
@[simp] theorem frame_discardAll (k : Nat) (s : State) :
    let t := (discardAll k s); t.sys = s.sys ∧ t.reqs = s.reqs ∧ t.counters = s.counters ∧ t.hank = s.hank ∧
      t.distaff = s.distaff ∧ t.func = s.func ∧ t.store = s.store ∧ t.core = s.core ∧ t.spool = s.spool ∧
      t.emergency = s.emergency ∧ t.lanes = s.lanes ∧ t.outs = s.outs ∧ t.inputs = s.inputs ∧ t.strike = s.strike ∧
      t.gnss = s.gnss ∧ t.clock = s.clock ∧ t.sun = s.sun ∧ t.eth = s.eth ∧ t.skein = s.skein ∧ t.upd = s.upd ∧
      t.panel = s.panel ∧ t.sent = s.sent ∧ t.free = s.free ∧ t.pending = s.pending := by
  simp [discardAll]
@[simp] theorem frame_unflash (who : Nat) (s : State) :
    let t := (unflash who s); t.sys = s.sys ∧ t.reqs = s.reqs ∧ t.counters = s.counters ∧ t.hank = s.hank ∧
      t.distaff = s.distaff ∧ t.func = s.func ∧ t.store = s.store ∧ t.core = s.core ∧ t.spool = s.spool ∧
      t.emergency = s.emergency ∧ t.lanes = s.lanes ∧ t.outs = s.outs ∧ t.inputs = s.inputs ∧ t.strike = s.strike ∧
      t.gnss = s.gnss ∧ t.clock = s.clock ∧ t.sun = s.sun ∧ t.eth = s.eth ∧ t.skein = s.skein ∧ t.upd = s.upd ∧
      t.panel = s.panel ∧ t.sent = s.sent ∧ t.free = s.free ∧ t.pending = s.pending := by
  simp [unflash]
@[simp] theorem frame_setGch (n : Nat) (x : GnssCh) (s : State) :
    let t := (setGch n x s); t.sys = s.sys ∧ t.reqs = s.reqs ∧ t.counters = s.counters ∧ t.hank = s.hank ∧
      t.distaff = s.distaff ∧ t.func = s.func ∧ t.store = s.store ∧ t.core = s.core ∧ t.spool = s.spool ∧
      t.emergency = s.emergency ∧ t.lanes = s.lanes ∧ t.tally = s.tally ∧ t.outs = s.outs ∧ t.inputs = s.inputs ∧
      t.strike = s.strike ∧ t.clock = s.clock ∧ t.sun = s.sun ∧ t.eth = s.eth ∧ t.skein = s.skein ∧ t.upd = s.upd ∧
      t.panel = s.panel ∧ t.sent = s.sent ∧ t.free = s.free ∧ t.pending = s.pending := by
  simp [setGch]
@[simp] theorem frame_setEng (n : Nat) (x : GnssEngine) (s : State) :
    let t := (setEng n x s); t.sys = s.sys ∧ t.reqs = s.reqs ∧ t.counters = s.counters ∧ t.hank = s.hank ∧
      t.distaff = s.distaff ∧ t.func = s.func ∧ t.store = s.store ∧ t.core = s.core ∧ t.spool = s.spool ∧
      t.emergency = s.emergency ∧ t.lanes = s.lanes ∧ t.tally = s.tally ∧ t.outs = s.outs ∧ t.inputs = s.inputs ∧
      t.strike = s.strike ∧ t.clock = s.clock ∧ t.sun = s.sun ∧ t.eth = s.eth ∧ t.skein = s.skein ∧ t.upd = s.upd ∧
      t.panel = s.panel ∧ t.sent = s.sent ∧ t.free = s.free ∧ t.pending = s.pending := by
  simp [setEng]
@[simp] theorem frame_setAnt (n : Nat) (v : BitVec 2) (s : State) :
    let t := (setAnt n v s); t.sys = s.sys ∧ t.reqs = s.reqs ∧ t.counters = s.counters ∧ t.hank = s.hank ∧
      t.distaff = s.distaff ∧ t.func = s.func ∧ t.store = s.store ∧ t.core = s.core ∧ t.spool = s.spool ∧
      t.emergency = s.emergency ∧ t.lanes = s.lanes ∧ t.tally = s.tally ∧ t.outs = s.outs ∧ t.inputs = s.inputs ∧
      t.strike = s.strike ∧ t.clock = s.clock ∧ t.sun = s.sun ∧ t.eth = s.eth ∧ t.panel = s.panel ∧ t.sent = s.sent ∧
      t.free = s.free ∧ t.pending = s.pending := by
  dsimp only; unfold setAnt; (repeat' split) <;> simp
@[simp] theorem frame_setAnt_upd (n : Nat) (v : BitVec 2) (s : State) :
    (setAnt n v s).upd = s.upd := by
  unfold setAnt; (repeat' split) <;> simp
@[simp] theorem frame_warmSearch (s : State) :
    let t := (warmSearch s).2; t.sys = s.sys ∧ t.reqs = s.reqs ∧ t.counters = s.counters ∧ t.hank = s.hank ∧
      t.distaff = s.distaff ∧ t.func = s.func ∧ t.store = s.store ∧ t.core = s.core ∧ t.spool = s.spool ∧
      t.emergency = s.emergency ∧ t.lanes = s.lanes ∧ t.tally = s.tally ∧ t.outs = s.outs ∧ t.inputs = s.inputs ∧
      t.strike = s.strike ∧ t.gnss = s.gnss ∧ t.clock = s.clock ∧ t.sun = s.sun ∧ t.eth = s.eth ∧ t.skein = s.skein ∧
      t.upd = s.upd ∧ t.panel = s.panel ∧ t.sent = s.sent ∧ t.pending = s.pending := by
  unfold warmSearch; (repeat' split) <;> simp
@[simp] theorem frame_engageEngine (e : Nat) (s : State) :
    let t := (engageEngine e s); t.sys = s.sys ∧ t.reqs = s.reqs ∧ t.counters = s.counters ∧ t.hank = s.hank ∧
      t.distaff = s.distaff ∧ t.func = s.func ∧ t.store = s.store ∧ t.core = s.core ∧ t.spool = s.spool ∧
      t.emergency = s.emergency ∧ t.lanes = s.lanes ∧ t.tally = s.tally ∧ t.outs = s.outs ∧ t.inputs = s.inputs ∧
      t.strike = s.strike ∧ t.clock = s.clock ∧ t.sun = s.sun ∧ t.eth = s.eth ∧ t.skein = s.skein ∧ t.upd = s.upd ∧
      t.panel = s.panel ∧ t.sent = s.sent ∧ t.pending = s.pending := by
  unfold engageEngine; dsimp only; (repeat' split) <;> simp
@[simp] theorem frame_engageAll (s : State) :
    let t := (engageAll s); t.sys = s.sys ∧ t.reqs = s.reqs ∧ t.counters = s.counters ∧ t.hank = s.hank ∧
      t.distaff = s.distaff ∧ t.func = s.func ∧ t.store = s.store ∧ t.core = s.core ∧ t.spool = s.spool ∧
      t.emergency = s.emergency ∧ t.lanes = s.lanes ∧ t.tally = s.tally ∧ t.outs = s.outs ∧ t.inputs = s.inputs ∧
      t.strike = s.strike ∧ t.clock = s.clock ∧ t.sun = s.sun ∧ t.eth = s.eth ∧ t.skein = s.skein ∧ t.upd = s.upd ∧
      t.panel = s.panel ∧ t.sent = s.sent ∧ t.pending = s.pending := by
  simp [engageAll]
@[simp] theorem frame_baseStop (s : State) :
    let t := (baseStop s); t.sys = s.sys ∧ t.reqs = s.reqs ∧ t.counters = s.counters ∧ t.hank = s.hank ∧
      t.distaff = s.distaff ∧ t.func = s.func ∧ t.store = s.store ∧ t.core = s.core ∧ t.spool = s.spool ∧
      t.emergency = s.emergency ∧ t.lanes = s.lanes ∧ t.tally = s.tally ∧ t.outs = s.outs ∧ t.inputs = s.inputs ∧
      t.strike = s.strike ∧ t.clock = s.clock ∧ t.sun = s.sun ∧ t.eth = s.eth ∧ t.skein = s.skein ∧ t.upd = s.upd ∧
      t.panel = s.panel ∧ t.sent = s.sent ∧ t.free = s.free ∧ t.pending = s.pending := by
  simp [baseStop]
@[simp] theorem frame_restartBaseband (s : State) :
    let t := (restartBaseband s); t.sys = s.sys ∧ t.reqs = s.reqs ∧ t.counters = s.counters ∧ t.hank = s.hank ∧
      t.distaff = s.distaff ∧ t.func = s.func ∧ t.store = s.store ∧ t.core = s.core ∧ t.spool = s.spool ∧
      t.emergency = s.emergency ∧ t.lanes = s.lanes ∧ t.tally = s.tally ∧ t.outs = s.outs ∧ t.inputs = s.inputs ∧
      t.strike = s.strike ∧ t.clock = s.clock ∧ t.sun = s.sun ∧ t.eth = s.eth ∧ t.skein = s.skein ∧ t.upd = s.upd ∧
      t.panel = s.panel ∧ t.sent = s.sent ∧ t.pending = s.pending := by
  simp [restartBaseband]
@[simp] theorem frame_setStep (st : UpdStep) (s : State) :
    let t := (setStep st s); t.emergency = s.emergency ∧ t.clock = s.clock ∧ t.eth = s.eth ∧ t.free = s.free ∧
      t.pending = s.pending := by
  simp [setStep]
@[simp] theorem frame_setStep_core (st : UpdStep) (s : State) :
    (setStep st s).core = s.core := by
  simp [setStep]
@[simp] theorem frame_setStep_counters (st : UpdStep) (s : State) :
    (setStep st s).counters = s.counters := by
  simp [setStep]
@[simp] theorem frame_setStep_distaff (st : UpdStep) (s : State) :
    (setStep st s).distaff = s.distaff := by
  simp [setStep]
@[simp] theorem frame_setStep_func (st : UpdStep) (s : State) :
    (setStep st s).func = s.func := by
  simp [setStep]
@[simp] theorem frame_setStep_gnss (st : UpdStep) (s : State) :
    (setStep st s).gnss = s.gnss := by
  simp [setStep]
@[simp] theorem frame_setStep_inputs (st : UpdStep) (s : State) :
    (setStep st s).inputs = s.inputs := by
  simp [setStep]
@[simp] theorem frame_setStep_lanes (st : UpdStep) (s : State) :
    (setStep st s).lanes = s.lanes := by
  simp [setStep]
@[simp] theorem frame_setStep_outs (st : UpdStep) (s : State) :
    (setStep st s).outs = s.outs := by
  simp [setStep]
@[simp] theorem frame_setStep_panel (st : UpdStep) (s : State) :
    (setStep st s).panel = s.panel := by
  simp [setStep]
@[simp] theorem frame_setStep_reqs (st : UpdStep) (s : State) :
    (setStep st s).reqs = s.reqs := by
  simp [setStep]
@[simp] theorem frame_setStep_skein (st : UpdStep) (s : State) :
    (setStep st s).skein = s.skein := by
  simp [setStep]
@[simp] theorem frame_setStep_spool (st : UpdStep) (s : State) :
    (setStep st s).spool = s.spool := by
  simp [setStep]
@[simp] theorem frame_setStep_store (st : UpdStep) (s : State) :
    (setStep st s).store = s.store := by
  simp [setStep]
@[simp] theorem frame_setStep_strike (st : UpdStep) (s : State) :
    (setStep st s).strike = s.strike := by
  simp [setStep]
@[simp] theorem frame_setStep_sun (st : UpdStep) (s : State) :
    (setStep st s).sun = s.sun := by
  simp [setStep]
@[simp] theorem frame_setStep_sys (st : UpdStep) (s : State) :
    (setStep st s).sys = s.sys := by
  simp [setStep]
@[simp] theorem frame_setStep_tally (st : UpdStep) (s : State) :
    (setStep st s).tally = s.tally := by
  simp [setStep]
@[simp] theorem frame_setRelay (r : Relay) (s : State) :
    let t := (setRelay r s); t.sys = s.sys ∧ t.reqs = s.reqs ∧ t.counters = s.counters ∧ t.hank = s.hank ∧
      t.distaff = s.distaff ∧ t.func = s.func ∧ t.store = s.store ∧ t.core = s.core ∧ t.spool = s.spool ∧
      t.emergency = s.emergency ∧ t.lanes = s.lanes ∧ t.tally = s.tally ∧ t.outs = s.outs ∧ t.inputs = s.inputs ∧
      t.strike = s.strike ∧ t.gnss = s.gnss ∧ t.clock = s.clock ∧ t.sun = s.sun ∧ t.eth = s.eth ∧ t.skein = s.skein ∧
      t.panel = s.panel ∧ t.sent = s.sent ∧ t.free = s.free ∧ t.pending = s.pending := by
  simp [setRelay]
@[simp] theorem frame_dropRelay (id : BitVec 64) (s : State) :
    let t := (dropRelay id s); t.sys = s.sys ∧ t.reqs = s.reqs ∧ t.counters = s.counters ∧ t.hank = s.hank ∧
      t.distaff = s.distaff ∧ t.func = s.func ∧ t.store = s.store ∧ t.core = s.core ∧ t.spool = s.spool ∧
      t.emergency = s.emergency ∧ t.lanes = s.lanes ∧ t.tally = s.tally ∧ t.outs = s.outs ∧ t.inputs = s.inputs ∧
      t.strike = s.strike ∧ t.gnss = s.gnss ∧ t.clock = s.clock ∧ t.sun = s.sun ∧ t.eth = s.eth ∧ t.skein = s.skein ∧
      t.panel = s.panel ∧ t.sent = s.sent ∧ t.free = s.free ∧ t.pending = s.pending := by
  simp [dropRelay]
@[simp] theorem frame_completeSet (s : State) :
    let t := (completeSet s); t.sys = s.sys ∧ t.reqs = s.reqs ∧ t.counters = s.counters ∧ t.distaff = s.distaff ∧
      t.func = s.func ∧ t.store = s.store ∧ t.core = s.core ∧ t.spool = s.spool ∧ t.emergency = s.emergency ∧
      t.lanes = s.lanes ∧ t.tally = s.tally ∧ t.outs = s.outs ∧ t.inputs = s.inputs ∧ t.strike = s.strike ∧
      t.gnss = s.gnss ∧ t.clock = s.clock ∧ t.sun = s.sun ∧ t.eth = s.eth ∧ t.skein = s.skein ∧ t.panel = s.panel ∧
      t.free = s.free ∧ t.pending = s.pending := by
  unfold completeSet; (repeat' split) <;> simp
@[simp] theorem frame_burstDone (n : Nat) (s : State) :
    let t := (burstDone n s); t.sys = s.sys ∧ t.reqs = s.reqs ∧ t.counters = s.counters ∧ t.distaff = s.distaff ∧
      t.func = s.func ∧ t.store = s.store ∧ t.core = s.core ∧ t.spool = s.spool ∧ t.emergency = s.emergency ∧
      t.lanes = s.lanes ∧ t.tally = s.tally ∧ t.outs = s.outs ∧ t.inputs = s.inputs ∧ t.strike = s.strike ∧
      t.gnss = s.gnss ∧ t.clock = s.clock ∧ t.sun = s.sun ∧ t.eth = s.eth ∧ t.skein = s.skein ∧ t.panel = s.panel ∧
      t.free = s.free ∧ t.pending = s.pending := by
  unfold burstDone; dsimp only; (repeat' split) <;> simp
@[simp] theorem frame_loseBurst (s : State) (b : Burst) :
    let t := (loseBurst s b); t.sys = s.sys ∧ t.reqs = s.reqs ∧ t.counters = s.counters ∧ t.hank = s.hank ∧
      t.distaff = s.distaff ∧ t.func = s.func ∧ t.store = s.store ∧ t.core = s.core ∧ t.spool = s.spool ∧
      t.emergency = s.emergency ∧ t.lanes = s.lanes ∧ t.tally = s.tally ∧ t.outs = s.outs ∧ t.inputs = s.inputs ∧
      t.strike = s.strike ∧ t.gnss = s.gnss ∧ t.clock = s.clock ∧ t.sun = s.sun ∧ t.eth = s.eth ∧ t.skein = s.skein ∧
      t.panel = s.panel ∧ t.sent = s.sent ∧ t.free = s.free ∧ t.pending = s.pending := by
  unfold loseBurst; dsimp only; (repeat' split) <;> simp
@[simp] theorem frame_loseBursts (s : State) :
    let t := (loseBursts s); t.sys = s.sys ∧ t.reqs = s.reqs ∧ t.counters = s.counters ∧ t.hank = s.hank ∧
      t.distaff = s.distaff ∧ t.func = s.func ∧ t.store = s.store ∧ t.core = s.core ∧ t.spool = s.spool ∧
      t.emergency = s.emergency ∧ t.lanes = s.lanes ∧ t.tally = s.tally ∧ t.outs = s.outs ∧ t.inputs = s.inputs ∧
      t.strike = s.strike ∧ t.gnss = s.gnss ∧ t.clock = s.clock ∧ t.sun = s.sun ∧ t.eth = s.eth ∧ t.skein = s.skein ∧
      t.panel = s.panel ∧ t.sent = s.sent ∧ t.free = s.free ∧ t.pending = s.pending := by
  simp [loseBursts]
@[simp] theorem frame_setLsw (n : Nat) (x : Lsw) (s : State) :
    let t := (setLsw n x s); t.sys = s.sys ∧ t.reqs = s.reqs ∧ t.counters = s.counters ∧ t.hank = s.hank ∧
      t.distaff = s.distaff ∧ t.func = s.func ∧ t.store = s.store ∧ t.core = s.core ∧ t.spool = s.spool ∧
      t.emergency = s.emergency ∧ t.lanes = s.lanes ∧ t.tally = s.tally ∧ t.inputs = s.inputs ∧ t.strike = s.strike ∧
      t.gnss = s.gnss ∧ t.clock = s.clock ∧ t.sun = s.sun ∧ t.eth = s.eth ∧ t.skein = s.skein ∧ t.upd = s.upd ∧
      t.panel = s.panel ∧ t.sent = s.sent ∧ t.free = s.free ∧ t.pending = s.pending := by
  simp [setLsw]
@[simp] theorem frame_setSol (n : Nat) (x : Sol) (s : State) :
    let t := (setSol n x s); t.sys = s.sys ∧ t.reqs = s.reqs ∧ t.counters = s.counters ∧ t.hank = s.hank ∧
      t.distaff = s.distaff ∧ t.func = s.func ∧ t.store = s.store ∧ t.core = s.core ∧ t.spool = s.spool ∧
      t.emergency = s.emergency ∧ t.lanes = s.lanes ∧ t.tally = s.tally ∧ t.inputs = s.inputs ∧ t.strike = s.strike ∧
      t.gnss = s.gnss ∧ t.clock = s.clock ∧ t.sun = s.sun ∧ t.eth = s.eth ∧ t.skein = s.skein ∧ t.upd = s.upd ∧
      t.panel = s.panel ∧ t.sent = s.sent ∧ t.free = s.free ∧ t.pending = s.pending := by
  simp [setSol]
@[simp] theorem frame_lswAdmitted (n : Nat) (s : State) :
    let t := (lswAdmitted n s); t.sys = s.sys ∧ t.reqs = s.reqs ∧ t.counters = s.counters ∧ t.hank = s.hank ∧
      t.distaff = s.distaff ∧ t.func = s.func ∧ t.store = s.store ∧ t.core = s.core ∧ t.spool = s.spool ∧
      t.emergency = s.emergency ∧ t.lanes = s.lanes ∧ t.tally = s.tally ∧ t.inputs = s.inputs ∧ t.strike = s.strike ∧
      t.gnss = s.gnss ∧ t.clock = s.clock ∧ t.sun = s.sun ∧ t.eth = s.eth ∧ t.skein = s.skein ∧ t.upd = s.upd ∧
      t.panel = s.panel ∧ t.sent = s.sent ∧ t.free = s.free ∧ t.pending = s.pending := by
  simp [lswAdmitted]
@[simp] theorem frame_peakAdmitted (n : Nat) (s : State) :
    let t := (peakAdmitted n s); t.sys = s.sys ∧ t.reqs = s.reqs ∧ t.counters = s.counters ∧ t.hank = s.hank ∧
      t.distaff = s.distaff ∧ t.func = s.func ∧ t.store = s.store ∧ t.core = s.core ∧ t.spool = s.spool ∧
      t.emergency = s.emergency ∧ t.lanes = s.lanes ∧ t.tally = s.tally ∧ t.inputs = s.inputs ∧ t.strike = s.strike ∧
      t.gnss = s.gnss ∧ t.clock = s.clock ∧ t.sun = s.sun ∧ t.eth = s.eth ∧ t.skein = s.skein ∧ t.upd = s.upd ∧
      t.panel = s.panel ∧ t.sent = s.sent ∧ t.free = s.free ∧ t.pending = s.pending := by
  unfold peakAdmitted; dsimp only; (repeat' split) <;> simp
@[simp] theorem frame_curAdmitted (n : Nat) (s : State) :
    let t := (curAdmitted n s); t.sys = s.sys ∧ t.reqs = s.reqs ∧ t.counters = s.counters ∧ t.hank = s.hank ∧
      t.distaff = s.distaff ∧ t.func = s.func ∧ t.store = s.store ∧ t.core = s.core ∧ t.spool = s.spool ∧
      t.emergency = s.emergency ∧ t.lanes = s.lanes ∧ t.tally = s.tally ∧ t.inputs = s.inputs ∧ t.strike = s.strike ∧
      t.gnss = s.gnss ∧ t.clock = s.clock ∧ t.sun = s.sun ∧ t.eth = s.eth ∧ t.skein = s.skein ∧ t.upd = s.upd ∧
      t.panel = s.panel ∧ t.sent = s.sent ∧ t.free = s.free ∧ t.pending = s.pending := by
  simp [curAdmitted]
@[simp] theorem frame_antAdmitted (n : Nat) (s : State) :
    let t := (antAdmitted n s); t.sys = s.sys ∧ t.reqs = s.reqs ∧ t.counters = s.counters ∧ t.hank = s.hank ∧
      t.distaff = s.distaff ∧ t.func = s.func ∧ t.store = s.store ∧ t.spool = s.spool ∧ t.emergency = s.emergency ∧
      t.lanes = s.lanes ∧ t.tally = s.tally ∧ t.outs = s.outs ∧ t.inputs = s.inputs ∧ t.strike = s.strike ∧
      t.clock = s.clock ∧ t.sun = s.sun ∧ t.eth = s.eth ∧ t.upd = s.upd ∧ t.panel = s.panel ∧ t.sent = s.sent ∧
      t.pending = s.pending := by
  unfold antAdmitted; dsimp only; (repeat' split) <;> simp
@[simp] theorem frame_wakeAdmit (l : Lane) (s : State) :
    let t := (wakeAdmit l s); t.sys = s.sys ∧ t.reqs = s.reqs ∧ t.counters = s.counters ∧ t.hank = s.hank ∧
      t.distaff = s.distaff ∧ t.func = s.func ∧ t.store = s.store ∧ t.core = s.core ∧ t.spool = s.spool ∧
      t.emergency = s.emergency ∧ t.tally = s.tally ∧ t.outs = s.outs ∧ t.inputs = s.inputs ∧ t.strike = s.strike ∧
      t.gnss = s.gnss ∧ t.clock = s.clock ∧ t.sun = s.sun ∧ t.eth = s.eth ∧ t.skein = s.skein ∧ t.upd = s.upd ∧
      t.panel = s.panel ∧ t.sent = s.sent ∧ t.free = s.free ∧ t.pending = s.pending := by
  unfold wakeAdmit; dsimp only; (repeat' split) <;> simp
@[simp] theorem frame_mgmtAdmit (l : Lane) (s : State) :
    let t := (mgmtAdmit l s); t.sys = s.sys ∧ t.reqs = s.reqs ∧ t.counters = s.counters ∧ t.hank = s.hank ∧
      t.distaff = s.distaff ∧ t.func = s.func ∧ t.store = s.store ∧ t.core = s.core ∧ t.spool = s.spool ∧
      t.emergency = s.emergency ∧ t.tally = s.tally ∧ t.outs = s.outs ∧ t.inputs = s.inputs ∧ t.strike = s.strike ∧
      t.gnss = s.gnss ∧ t.clock = s.clock ∧ t.sun = s.sun ∧ t.eth = s.eth ∧ t.skein = s.skein ∧ t.upd = s.upd ∧
      t.panel = s.panel ∧ t.sent = s.sent ∧ t.free = s.free ∧ t.pending = s.pending := by
  unfold mgmtAdmit; dsimp only; (repeat' split) <;> simp
@[simp] theorem frame_runAdmit (l : Lane) (s : State) :
    let t := (runAdmit l s); t.sys = s.sys ∧ t.reqs = s.reqs ∧ t.counters = s.counters ∧ t.hank = s.hank ∧
      t.distaff = s.distaff ∧ t.func = s.func ∧ t.store = s.store ∧ t.core = s.core ∧ t.spool = s.spool ∧
      t.emergency = s.emergency ∧ t.tally = s.tally ∧ t.outs = s.outs ∧ t.inputs = s.inputs ∧ t.strike = s.strike ∧
      t.gnss = s.gnss ∧ t.clock = s.clock ∧ t.sun = s.sun ∧ t.eth = s.eth ∧ t.skein = s.skein ∧ t.upd = s.upd ∧
      t.panel = s.panel ∧ t.sent = s.sent ∧ t.free = s.free ∧ t.pending = s.pending := by
  unfold runAdmit; dsimp only; (repeat' split) <;> simp
@[simp] theorem frame_onAdmitted (o : Owner) (s : State) :
    let t := (onAdmitted o s); t.sys = s.sys ∧ t.reqs = s.reqs ∧ t.counters = s.counters ∧ t.distaff = s.distaff ∧
      t.func = s.func ∧ t.store = s.store ∧ t.spool = s.spool ∧ t.emergency = s.emergency ∧ t.tally = s.tally ∧
      t.strike = s.strike ∧ t.clock = s.clock ∧ t.sun = s.sun ∧ t.eth = s.eth ∧ t.panel = s.panel ∧
      t.pending = s.pending := by
  unfold onAdmitted; dsimp only; (repeat' split) <;> simp
@[simp] theorem frame_onRefused (o : Owner) (s : State) :
    let t := (onRefused o s); t.sys = s.sys ∧ t.reqs = s.reqs ∧ t.counters = s.counters ∧ t.hank = s.hank ∧
      t.distaff = s.distaff ∧ t.func = s.func ∧ t.store = s.store ∧ t.core = s.core ∧ t.spool = s.spool ∧
      t.emergency = s.emergency ∧ t.lanes = s.lanes ∧ t.tally = s.tally ∧ t.inputs = s.inputs ∧ t.strike = s.strike ∧
      t.gnss = s.gnss ∧ t.clock = s.clock ∧ t.sun = s.sun ∧ t.eth = s.eth ∧ t.skein = s.skein ∧ t.upd = s.upd ∧
      t.sent = s.sent ∧ t.free = s.free ∧ t.pending = s.pending := by
  unfold onRefused; dsimp only; (repeat' split) <;> simp
@[simp] theorem frame_submit (k : Nat) (c : Claim) (s : State) :
    let t := (submit k c s); t.sys = s.sys ∧ t.reqs = s.reqs ∧ t.distaff = s.distaff ∧ t.func = s.func ∧
      t.store = s.store ∧ t.spool = s.spool ∧ t.emergency = s.emergency ∧ t.strike = s.strike ∧ t.clock = s.clock ∧
      t.sun = s.sun ∧ t.eth = s.eth ∧ t.pending = s.pending := by
  unfold submit; (repeat' split) <;> simp
/-- Whether an owner is an output channel. -/
def ownsChan : Owner → Bool
  | .chan _ => true
  | _ => false
@[simp] theorem ownsChan_lswClaim (d : OutDecl) : ownsChan (lswClaim d).owner = true := rfl
@[simp] theorem ownsChan_solHoldClaim (d : OutDecl) : ownsChan (solHoldClaim d).owner = true := rfl
@[simp] theorem ownsChan_solPeakClaim (d : OutDecl) : ownsChan (solPeakClaim d).owner = true := rfl
@[simp] theorem frame_onAdmitted_chan (o : Owner) (s : State) (h : ownsChan o = true) :
    let t := onAdmitted o s; t.hank = s.hank ∧ t.core = s.core ∧ t.lanes = s.lanes ∧ t.inputs = s.inputs ∧ t.gnss = s.gnss ∧
      t.skein = s.skein ∧ t.upd = s.upd ∧ t.sent = s.sent ∧ t.free = s.free := by
  cases o with
  | chan c => cases c <;> dsimp only [onAdmitted] <;> (repeat' split) <;> simp
  | _ => simp [ownsChan] at h
@[simp] theorem frame_onRefused_chan (o : Owner) (s : State) (h : ownsChan o = true) : (onRefused o s).panel = s.panel := by
  cases o with
  | chan c => cases c <;> simp [onRefused]
  | _ => simp [ownsChan] at h
@[simp] theorem frame_submit_chan (k : Nat) (c : Claim) (s : State) (h : ownsChan c.owner = true) :
    let t := submit k c s; t.hank = s.hank ∧ t.core = s.core ∧ t.lanes = s.lanes ∧ t.inputs = s.inputs ∧ t.gnss = s.gnss ∧
      t.panel = s.panel ∧ t.sent = s.sent ∧ t.free = s.free := by
  unfold submit; (repeat' split) <;> simp [h]
@[simp] theorem frame_burst (who : Nat) (cur : Option Nat) (s : State) :
    let t := (burst who cur s).2.2; t.sys = s.sys ∧ t.reqs = s.reqs ∧ t.distaff = s.distaff ∧ t.func = s.func ∧
      t.store = s.store ∧ t.spool = s.spool ∧ t.emergency = s.emergency ∧ t.strike = s.strike ∧ t.clock = s.clock ∧
      t.sun = s.sun ∧ t.eth = s.eth ∧ t.pending = s.pending := by
  unfold burst; dsimp only; (repeat' split) <;> simp
@[simp] theorem frame_relayBurst (id : BitVec 64) (index : Nat) (segment : Bool) (s : State) :
    let t := (relayBurst id index segment s); t.sys = s.sys ∧ t.reqs = s.reqs ∧ t.distaff = s.distaff ∧
      t.func = s.func ∧ t.store = s.store ∧ t.spool = s.spool ∧ t.emergency = s.emergency ∧ t.strike = s.strike ∧
      t.clock = s.clock ∧ t.sun = s.sun ∧ t.eth = s.eth ∧ t.pending = s.pending := by
  unfold relayBurst; dsimp only; (repeat' split) <;> simp
@[simp] theorem frame_submitPeak (n : Nat) (s : State) :
    let t := (submitPeak n s); t.sys = s.sys ∧ t.reqs = s.reqs ∧ t.distaff = s.distaff ∧ t.func = s.func ∧
      t.store = s.store ∧ t.spool = s.spool ∧ t.emergency = s.emergency ∧ t.strike = s.strike ∧ t.clock = s.clock ∧
      t.sun = s.sun ∧ t.eth = s.eth ∧ t.pending = s.pending := by
  unfold submitPeak; dsimp only; (repeat' split) <;> simp
@[simp] theorem frame_pumpGroup (g : Nat) (n_ : Nat) (s : State) :
    let t := (pumpGroup g n_ s); t.sys = s.sys ∧ t.reqs = s.reqs ∧ t.distaff = s.distaff ∧ t.func = s.func ∧
      t.store = s.store ∧ t.spool = s.spool ∧ t.emergency = s.emergency ∧ t.strike = s.strike ∧ t.clock = s.clock ∧
      t.sun = s.sun ∧ t.eth = s.eth ∧ t.pending = s.pending := by
  induction n_ generalizing g s with
  | zero => simp [pumpGroup]
  | succ n ih => unfold pumpGroup; dsimp only; (repeat' split) <;> simp [ih]
@[simp] theorem frame_endBusy (n : Nat) (s : State) :
    let t := (endBusy n s); t.sys = s.sys ∧ t.reqs = s.reqs ∧ t.counters = s.counters ∧ t.hank = s.hank ∧
      t.distaff = s.distaff ∧ t.func = s.func ∧ t.store = s.store ∧ t.core = s.core ∧ t.spool = s.spool ∧
      t.emergency = s.emergency ∧ t.lanes = s.lanes ∧ t.tally = s.tally ∧ t.inputs = s.inputs ∧ t.strike = s.strike ∧
      t.gnss = s.gnss ∧ t.clock = s.clock ∧ t.sun = s.sun ∧ t.eth = s.eth ∧ t.skein = s.skein ∧ t.upd = s.upd ∧
      t.panel = s.panel ∧ t.sent = s.sent ∧ t.free = s.free ∧ t.pending = s.pending := by
  dsimp only; unfold endBusy; (repeat' split) <;> simp
@[simp] theorem frame_lswOff (n : Nat) (s : State) :
    let t := (lswOff n s); t.sys = s.sys ∧ t.counters = s.counters ∧ t.hank = s.hank ∧ t.distaff = s.distaff ∧
      t.func = s.func ∧ t.store = s.store ∧ t.core = s.core ∧ t.spool = s.spool ∧ t.emergency = s.emergency ∧
      t.lanes = s.lanes ∧ t.inputs = s.inputs ∧ t.strike = s.strike ∧ t.gnss = s.gnss ∧ t.clock = s.clock ∧
      t.sun = s.sun ∧ t.eth = s.eth ∧ t.skein = s.skein ∧ t.upd = s.upd ∧ t.panel = s.panel ∧ t.sent = s.sent ∧
      t.free = s.free ∧ t.pending = s.pending := by
  simp [lswOff]
@[simp] theorem frame_lswOff_reqs (n : Nat) (s : State) :
    (lswOff n s).reqs = s.reqs := by
  simp [lswOff]
@[simp] theorem frame_solOff (n : Nat) (s : State) :
    let t := (solOff n s); t.sys = s.sys ∧ t.reqs = s.reqs ∧ t.distaff = s.distaff ∧ t.func = s.func ∧
      t.store = s.store ∧ t.spool = s.spool ∧ t.emergency = s.emergency ∧ t.strike = s.strike ∧ t.clock = s.clock ∧
      t.sun = s.sun ∧ t.eth = s.eth ∧ t.pending = s.pending := by
  simp [solOff]
@[simp] theorem frame_solNeutral (n : Nat) (s : State) :
    let t := (solNeutral n s); t.sys = s.sys ∧ t.reqs = s.reqs ∧ t.counters = s.counters ∧ t.hank = s.hank ∧
      t.distaff = s.distaff ∧ t.func = s.func ∧ t.store = s.store ∧ t.core = s.core ∧ t.spool = s.spool ∧
      t.emergency = s.emergency ∧ t.lanes = s.lanes ∧ t.inputs = s.inputs ∧ t.strike = s.strike ∧ t.gnss = s.gnss ∧
      t.clock = s.clock ∧ t.sun = s.sun ∧ t.eth = s.eth ∧ t.skein = s.skein ∧ t.upd = s.upd ∧ t.panel = s.panel ∧
      t.sent = s.sent ∧ t.free = s.free ∧ t.pending = s.pending := by
  unfold solNeutral; dsimp only; (repeat' split) <;> simp
@[simp] theorem frame_lswClaimOn (n : Nat) (s : State) :
    let t := (lswClaimOn n s); t.sys = s.sys ∧ t.reqs = s.reqs ∧ t.distaff = s.distaff ∧ t.func = s.func ∧
      t.store = s.store ∧ t.spool = s.spool ∧ t.emergency = s.emergency ∧ t.strike = s.strike ∧ t.clock = s.clock ∧
      t.sun = s.sun ∧ t.eth = s.eth ∧ t.pending = s.pending := by
  unfold lswClaimOn; dsimp only; (repeat' split) <;> simp
@[simp] theorem frame_lswRestart (n : Nat) (s : State) :
    let t := (lswRestart n s); t.sys = s.sys ∧ t.reqs = s.reqs ∧ t.distaff = s.distaff ∧ t.func = s.func ∧
      t.store = s.store ∧ t.spool = s.spool ∧ t.emergency = s.emergency ∧ t.strike = s.strike ∧ t.clock = s.clock ∧
      t.sun = s.sun ∧ t.eth = s.eth ∧ t.pending = s.pending := by
  simp [lswRestart]
@[simp] theorem frame_lswExhaust (n : Nat) (s : State) :
    let t := (lswExhaust n s); t.sys = s.sys ∧ t.reqs = s.reqs ∧ t.counters = s.counters ∧ t.hank = s.hank ∧
      t.distaff = s.distaff ∧ t.func = s.func ∧ t.store = s.store ∧ t.core = s.core ∧ t.spool = s.spool ∧
      t.emergency = s.emergency ∧ t.lanes = s.lanes ∧ t.tally = s.tally ∧ t.inputs = s.inputs ∧ t.strike = s.strike ∧
      t.gnss = s.gnss ∧ t.clock = s.clock ∧ t.sun = s.sun ∧ t.eth = s.eth ∧ t.panel = s.panel ∧ t.sent = s.sent ∧
      t.free = s.free ∧ t.pending = s.pending := by
  simp [lswExhaust]
@[simp] theorem frame_lswExhaust_upd (n : Nat) (s : State) :
    (lswExhaust n s).upd = s.upd := by
  simp [lswExhaust]
@[simp] theorem frame_lswTripNow (n : Nat) (s : State) :
    let t := (lswTripNow n s); t.sys = s.sys ∧ t.hank = s.hank ∧ t.distaff = s.distaff ∧ t.func = s.func ∧
      t.store = s.store ∧ t.core = s.core ∧ t.spool = s.spool ∧ t.emergency = s.emergency ∧ t.lanes = s.lanes ∧
      t.inputs = s.inputs ∧ t.strike = s.strike ∧ t.gnss = s.gnss ∧ t.clock = s.clock ∧ t.sun = s.sun ∧ t.eth = s.eth ∧
      t.panel = s.panel ∧ t.sent = s.sent ∧ t.free = s.free ∧ t.pending = s.pending := by
  unfold lswTripNow; dsimp only; (repeat' split) <;> simp
@[simp] theorem frame_lswTripNow_upd (n : Nat) (s : State) :
    (lswTripNow n s).upd = s.upd := by
  unfold lswTripNow; dsimp only; (repeat' split) <;> simp
@[simp] theorem frame_lswTripNow_reqs (n : Nat) (s : State) :
    (lswTripNow n s).reqs = s.reqs := by
  unfold lswTripNow; dsimp only; (repeat' split) <;> simp
@[simp] theorem frame_solClaimHold (n : Nat) (s : State) :
    let t := (solClaimHold n s); t.sys = s.sys ∧ t.reqs = s.reqs ∧ t.distaff = s.distaff ∧ t.func = s.func ∧
      t.store = s.store ∧ t.spool = s.spool ∧ t.emergency = s.emergency ∧ t.strike = s.strike ∧ t.clock = s.clock ∧
      t.sun = s.sun ∧ t.eth = s.eth ∧ t.pending = s.pending := by
  unfold solClaimHold; dsimp only; (repeat' split) <;> simp
@[simp] theorem frame_solBankOff (n : Nat) (s : State) :
    let t := (solBankOff n s); t.sys = s.sys ∧ t.reqs = s.reqs ∧ t.distaff = s.distaff ∧ t.func = s.func ∧
      t.store = s.store ∧ t.spool = s.spool ∧ t.emergency = s.emergency ∧ t.strike = s.strike ∧ t.clock = s.clock ∧
      t.sun = s.sun ∧ t.eth = s.eth ∧ t.pending = s.pending := by
  unfold solBankOff; dsimp only; (repeat' split) <;> simp
@[simp] theorem frame_bankOff (b : Nat) (trips : Bool) (s : State) :
    let t := (bankOff b trips s); t.sys = s.sys ∧ t.reqs = s.reqs ∧ t.distaff = s.distaff ∧ t.func = s.func ∧
      t.store = s.store ∧ t.spool = s.spool ∧ t.emergency = s.emergency ∧ t.strike = s.strike ∧ t.clock = s.clock ∧
      t.sun = s.sun ∧ t.eth = s.eth ∧ t.pending = s.pending := by
  unfold bankOff; dsimp only; (repeat' split) <;> simp (disch := (intros; (repeat' split) <;> simp))
@[simp] theorem frame_restartChan (c : Chan) (s : State) :
    let t := (restartChan c s); t.sys = s.sys ∧ t.reqs = s.reqs ∧ t.distaff = s.distaff ∧ t.func = s.func ∧
      t.store = s.store ∧ t.spool = s.spool ∧ t.emergency = s.emergency ∧ t.strike = s.strike ∧ t.clock = s.clock ∧
      t.sun = s.sun ∧ t.eth = s.eth ∧ t.pending = s.pending := by
  unfold restartChan; dsimp only; (repeat' split) <;> simp
@[simp] theorem frame_bankRestart (b : Nat) (s : State) :
    let t := (bankRestart b s); t.sys = s.sys ∧ t.reqs = s.reqs ∧ t.distaff = s.distaff ∧ t.func = s.func ∧
      t.store = s.store ∧ t.spool = s.spool ∧ t.emergency = s.emergency ∧ t.strike = s.strike ∧ t.clock = s.clock ∧
      t.sun = s.sun ∧ t.eth = s.eth ∧ t.pending = s.pending := by
  unfold bankRestart; dsimp only; (repeat' split) <;> simp
@[simp] theorem frame_gapSol (neutral : Bool) (n : Nat) (s : State) :
    let t := (gapSol neutral n s); t.sys = s.sys ∧ t.reqs = s.reqs ∧ t.counters = s.counters ∧ t.hank = s.hank ∧
      t.distaff = s.distaff ∧ t.func = s.func ∧ t.store = s.store ∧ t.core = s.core ∧ t.spool = s.spool ∧
      t.emergency = s.emergency ∧ t.lanes = s.lanes ∧ t.inputs = s.inputs ∧ t.strike = s.strike ∧ t.gnss = s.gnss ∧
      t.clock = s.clock ∧ t.sun = s.sun ∧ t.eth = s.eth ∧ t.skein = s.skein ∧ t.upd = s.upd ∧ t.panel = s.panel ∧
      t.sent = s.sent ∧ t.free = s.free ∧ t.pending = s.pending := by
  unfold gapSol; dsimp only; (repeat' split) <;> simp
@[simp] theorem frame_gapLsw (n : Nat) (s : State) :
    let t := (gapLsw n s); t.sys = s.sys ∧ t.reqs = s.reqs ∧ t.counters = s.counters ∧ t.hank = s.hank ∧
      t.distaff = s.distaff ∧ t.func = s.func ∧ t.store = s.store ∧ t.core = s.core ∧ t.spool = s.spool ∧
      t.emergency = s.emergency ∧ t.lanes = s.lanes ∧ t.tally = s.tally ∧ t.inputs = s.inputs ∧ t.strike = s.strike ∧
      t.gnss = s.gnss ∧ t.clock = s.clock ∧ t.sun = s.sun ∧ t.eth = s.eth ∧ t.skein = s.skein ∧ t.upd = s.upd ∧
      t.panel = s.panel ∧ t.sent = s.sent ∧ t.free = s.free ∧ t.pending = s.pending := by
  simp [gapLsw]
@[simp] theorem frame_gapOutputs (neutral : Bool) (s : State) :
    let t := (gapOutputs neutral s); t.sys = s.sys ∧ t.reqs = s.reqs ∧ t.hank = s.hank ∧ t.distaff = s.distaff ∧
      t.func = s.func ∧ t.core = s.core ∧ t.spool = s.spool ∧ t.emergency = s.emergency ∧ t.lanes = s.lanes ∧
      t.inputs = s.inputs ∧ t.strike = s.strike ∧ t.gnss = s.gnss ∧ t.clock = s.clock ∧ t.sun = s.sun ∧ t.eth = s.eth ∧
      t.panel = s.panel ∧ t.sent = s.sent ∧ t.free = s.free ∧ t.pending = s.pending := by
  simp [gapOutputs]
@[simp] theorem frame_shutChan (d : OutDecl) (s : State) :
    let t := (shutChan d s); t.sys = s.sys ∧ t.reqs = s.reqs ∧ t.distaff = s.distaff ∧ t.func = s.func ∧
      t.store = s.store ∧ t.spool = s.spool ∧ t.emergency = s.emergency ∧ t.strike = s.strike ∧ t.clock = s.clock ∧
      t.sun = s.sun ∧ t.eth = s.eth ∧ t.pending = s.pending := by
  unfold shutChan; dsimp only; (repeat' split) <;> simp
@[simp] theorem frame_shutDeclared (s : State) :
    let t := (shutDeclared s); t.sys = s.sys ∧ t.reqs = s.reqs ∧ t.distaff = s.distaff ∧ t.func = s.func ∧
      t.store = s.store ∧ t.spool = s.spool ∧ t.emergency = s.emergency ∧ t.strike = s.strike ∧ t.clock = s.clock ∧
      t.sun = s.sun ∧ t.eth = s.eth ∧ t.pending = s.pending := by
  unfold shutDeclared; (repeat' split) <;> simp
@[simp] theorem frame_allOff (s : State) :
    let t := (allOff s); t.sys = s.sys ∧ t.reqs = s.reqs ∧ t.distaff = s.distaff ∧ t.func = s.func ∧
      t.store = s.store ∧ t.spool = s.spool ∧ t.emergency = s.emergency ∧ t.strike = s.strike ∧ t.clock = s.clock ∧
      t.sun = s.sun ∧ t.eth = s.eth ∧ t.pending = s.pending := by
  simp [allOff]
@[simp] theorem frame_switchOffHeld (s : State) :
    let t := (switchOffHeld s); t.sys = s.sys ∧ t.reqs = s.reqs ∧ t.distaff = s.distaff ∧ t.func = s.func ∧
      t.store = s.store ∧ t.spool = s.spool ∧ t.emergency = s.emergency ∧ t.strike = s.strike ∧ t.clock = s.clock ∧
      t.sun = s.sun ∧ t.eth = s.eth ∧ t.pending = s.pending := by
  unfold switchOffHeld; dsimp only; (repeat' split) <;> simp (disch := (intros; (repeat' split) <;> simp))
@[simp] theorem frame_limpFollow (n : Nat) (s : State) :
    let t := (limpFollow n s); t.sys = s.sys ∧ t.reqs = s.reqs ∧ t.distaff = s.distaff ∧ t.func = s.func ∧
      t.store = s.store ∧ t.spool = s.spool ∧ t.emergency = s.emergency ∧ t.strike = s.strike ∧ t.clock = s.clock ∧
      t.sun = s.sun ∧ t.eth = s.eth ∧ t.pending = s.pending := by
  unfold limpFollow; dsimp only; (repeat' split) <;> simp
@[simp] theorem frame_limpStart (s : State) :
    let t := (limpStart s); t.sys = s.sys ∧ t.reqs = s.reqs ∧ t.distaff = s.distaff ∧ t.func = s.func ∧
      t.store = s.store ∧ t.spool = s.spool ∧ t.emergency = s.emergency ∧ t.strike = s.strike ∧ t.clock = s.clock ∧
      t.sun = s.sun ∧ t.eth = s.eth ∧ t.pending = s.pending := by
  simp [limpStart]
@[simp] theorem frame_limpEnd (s : State) :
    let t := (limpEnd s); t.sys = s.sys ∧ t.counters = s.counters ∧ t.hank = s.hank ∧ t.distaff = s.distaff ∧
      t.func = s.func ∧ t.store = s.store ∧ t.core = s.core ∧ t.spool = s.spool ∧ t.emergency = s.emergency ∧
      t.lanes = s.lanes ∧ t.inputs = s.inputs ∧ t.strike = s.strike ∧ t.gnss = s.gnss ∧ t.clock = s.clock ∧
      t.sun = s.sun ∧ t.eth = s.eth ∧ t.skein = s.skein ∧ t.upd = s.upd ∧ t.panel = s.panel ∧ t.sent = s.sent ∧
      t.free = s.free ∧ t.pending = s.pending := by
  dsimp only; unfold limpEnd; (repeat' split) <;> simp (disch := (intros; (repeat' split) <;> simp))
@[simp] theorem frame_limpEnd_reqs (s : State) :
    (limpEnd s).reqs = s.reqs := by
  unfold limpEnd; (repeat' split) <;> simp (disch := (intros; (repeat' split) <;> simp))
@[simp] theorem frame_startSundial (s : State) :
    let t := (startSundial s); t.sys = s.sys ∧ t.reqs = s.reqs ∧ t.counters = s.counters ∧ t.hank = s.hank ∧
      t.distaff = s.distaff ∧ t.func = s.func ∧ t.store = s.store ∧ t.core = s.core ∧ t.spool = s.spool ∧
      t.emergency = s.emergency ∧ t.lanes = s.lanes ∧ t.tally = s.tally ∧ t.outs = s.outs ∧ t.inputs = s.inputs ∧
      t.strike = s.strike ∧ t.gnss = s.gnss ∧ t.clock = s.clock ∧ t.eth = s.eth ∧ t.skein = s.skein ∧ t.upd = s.upd ∧
      t.panel = s.panel ∧ t.sent = s.sent ∧ t.free = s.free ∧ t.pending = s.pending := by
  dsimp only; unfold startSundial; (repeat' split) <;> simp
@[simp] theorem frame_enterHoldover (s : State) :
    let t := (enterHoldover s); t.sys = s.sys ∧ t.reqs = s.reqs ∧ t.counters = s.counters ∧ t.hank = s.hank ∧
      t.distaff = s.distaff ∧ t.func = s.func ∧ t.store = s.store ∧ t.core = s.core ∧ t.spool = s.spool ∧
      t.emergency = s.emergency ∧ t.lanes = s.lanes ∧ t.tally = s.tally ∧ t.outs = s.outs ∧ t.inputs = s.inputs ∧
      t.strike = s.strike ∧ t.gnss = s.gnss ∧ t.clock = s.clock ∧ t.eth = s.eth ∧ t.skein = s.skein ∧ t.upd = s.upd ∧
      t.panel = s.panel ∧ t.sent = s.sent ∧ t.free = s.free ∧ t.pending = s.pending := by
  simp [enterHoldover]
@[simp] theorem frame_loseGnss (s : State) :
    let t := (loseGnss s); t.sys = s.sys ∧ t.reqs = s.reqs ∧ t.counters = s.counters ∧ t.hank = s.hank ∧
      t.distaff = s.distaff ∧ t.func = s.func ∧ t.store = s.store ∧ t.core = s.core ∧ t.spool = s.spool ∧
      t.emergency = s.emergency ∧ t.lanes = s.lanes ∧ t.tally = s.tally ∧ t.outs = s.outs ∧ t.inputs = s.inputs ∧
      t.strike = s.strike ∧ t.gnss = s.gnss ∧ t.clock = s.clock ∧ t.eth = s.eth ∧ t.skein = s.skein ∧ t.upd = s.upd ∧
      t.panel = s.panel ∧ t.sent = s.sent ∧ t.free = s.free ∧ t.pending = s.pending := by
  dsimp only; unfold loseGnss; (repeat' split) <;> simp
@[simp] theorem frame_setInvalid (s : State) :
    let t := (setInvalid s); t.sys = s.sys ∧ t.reqs = s.reqs ∧ t.counters = s.counters ∧ t.hank = s.hank ∧
      t.distaff = s.distaff ∧ t.func = s.func ∧ t.store = s.store ∧ t.core = s.core ∧ t.spool = s.spool ∧
      t.emergency = s.emergency ∧ t.lanes = s.lanes ∧ t.tally = s.tally ∧ t.outs = s.outs ∧ t.inputs = s.inputs ∧
      t.strike = s.strike ∧ t.gnss = s.gnss ∧ t.clock = s.clock ∧ t.eth = s.eth ∧ t.skein = s.skein ∧ t.upd = s.upd ∧
      t.panel = s.panel ∧ t.sent = s.sent ∧ t.free = s.free ∧ t.pending = s.pending := by
  dsimp only; unfold setInvalid; (repeat' split) <;> simp
@[simp] theorem frame_enterLocked (o : Int) (s : State) :
    let t := (enterLocked o s); t.emergency = s.emergency ∧ t.clock = s.clock ∧ t.eth = s.eth ∧ t.free = s.free ∧
      t.pending = s.pending := by
  simp [enterLocked]
@[simp] theorem frame_enterLocked_core (o : Int) (s : State) :
    (enterLocked o s).core = s.core := by
  simp [enterLocked]
@[simp] theorem frame_enterLocked_counters (o : Int) (s : State) :
    (enterLocked o s).counters = s.counters := by
  simp [enterLocked]
@[simp] theorem frame_enterLocked_distaff (o : Int) (s : State) :
    (enterLocked o s).distaff = s.distaff := by
  simp [enterLocked]
@[simp] theorem frame_enterLocked_func (o : Int) (s : State) :
    (enterLocked o s).func = s.func := by
  simp [enterLocked]
@[simp] theorem frame_enterLocked_gnss (o : Int) (s : State) :
    (enterLocked o s).gnss = s.gnss := by
  simp [enterLocked]
@[simp] theorem frame_enterLocked_hank (o : Int) (s : State) :
    (enterLocked o s).hank = s.hank := by
  simp [enterLocked]
@[simp] theorem frame_enterLocked_inputs (o : Int) (s : State) :
    (enterLocked o s).inputs = s.inputs := by
  simp [enterLocked]
@[simp] theorem frame_enterLocked_lanes (o : Int) (s : State) :
    (enterLocked o s).lanes = s.lanes := by
  simp [enterLocked]
@[simp] theorem frame_enterLocked_outs (o : Int) (s : State) :
    (enterLocked o s).outs = s.outs := by
  simp [enterLocked]
@[simp] theorem frame_enterLocked_panel (o : Int) (s : State) :
    (enterLocked o s).panel = s.panel := by
  simp [enterLocked]
@[simp] theorem frame_enterLocked_reqs (o : Int) (s : State) :
    (enterLocked o s).reqs = s.reqs := by
  simp [enterLocked]
@[simp] theorem frame_enterLocked_sent (o : Int) (s : State) :
    (enterLocked o s).sent = s.sent := by
  simp [enterLocked]
@[simp] theorem frame_enterLocked_skein (o : Int) (s : State) :
    (enterLocked o s).skein = s.skein := by
  simp [enterLocked]
@[simp] theorem frame_enterLocked_spool (o : Int) (s : State) :
    (enterLocked o s).spool = s.spool := by
  simp [enterLocked]
@[simp] theorem frame_enterLocked_store (o : Int) (s : State) :
    (enterLocked o s).store = s.store := by
  simp [enterLocked]
@[simp] theorem frame_enterLocked_strike (o : Int) (s : State) :
    (enterLocked o s).strike = s.strike := by
  simp [enterLocked]
@[simp] theorem frame_enterLocked_sys (o : Int) (s : State) :
    (enterLocked o s).sys = s.sys := by
  simp [enterLocked]
@[simp] theorem frame_enterLocked_tally (o : Int) (s : State) :
    (enterLocked o s).tally = s.tally := by
  simp [enterLocked]
@[simp] theorem frame_enterLocked_upd (o : Int) (s : State) :
    (enterLocked o s).upd = s.upd := by
  simp [enterLocked]
@[simp] theorem frame_steer (s : State) :
    let t := (steer s); t.sys = s.sys ∧ t.reqs = s.reqs ∧ t.counters = s.counters ∧ t.hank = s.hank ∧
      t.distaff = s.distaff ∧ t.func = s.func ∧ t.store = s.store ∧ t.core = s.core ∧ t.spool = s.spool ∧
      t.emergency = s.emergency ∧ t.lanes = s.lanes ∧ t.tally = s.tally ∧ t.outs = s.outs ∧ t.inputs = s.inputs ∧
      t.strike = s.strike ∧ t.gnss = s.gnss ∧ t.clock = s.clock ∧ t.eth = s.eth ∧ t.skein = s.skein ∧ t.upd = s.upd ∧
      t.panel = s.panel ∧ t.sent = s.sent ∧ t.pending = s.pending := by
  simp [steer]
@[simp] theorem frame_timeJump (o : Int) (s : State) :
    let t := (timeJump o s); t.sys = s.sys ∧ t.reqs = s.reqs ∧ t.counters = s.counters ∧ t.hank = s.hank ∧
      t.distaff = s.distaff ∧ t.func = s.func ∧ t.store = s.store ∧ t.core = s.core ∧ t.spool = s.spool ∧
      t.emergency = s.emergency ∧ t.lanes = s.lanes ∧ t.tally = s.tally ∧ t.outs = s.outs ∧ t.inputs = s.inputs ∧
      t.strike = s.strike ∧ t.gnss = s.gnss ∧ t.clock = s.clock ∧ t.eth = s.eth ∧ t.panel = s.panel ∧ t.sent = s.sent ∧
      t.free = s.free ∧ t.pending = s.pending := by
  simp [timeJump]
@[simp] theorem frame_timeJump_upd (o : Int) (s : State) :
    (timeJump o s).upd = s.upd := by
  simp [timeJump]
@[simp] theorem frame_gnssOffset (o : Int) (s : State) :
    let t := (gnssOffset o s); t.emergency = s.emergency ∧ t.clock = s.clock ∧ t.eth = s.eth ∧ t.pending = s.pending := by
  unfold gnssOffset; dsimp only; (repeat' split) <;> simp
@[simp] theorem frame_gnssOffset_core (o : Int) (s : State) :
    (gnssOffset o s).core = s.core := by
  unfold gnssOffset; dsimp only; (repeat' split) <;> simp
@[simp] theorem frame_gnssOffset_counters (o : Int) (s : State) :
    (gnssOffset o s).counters = s.counters := by
  unfold gnssOffset; dsimp only; (repeat' split) <;> simp
@[simp] theorem frame_gnssOffset_distaff (o : Int) (s : State) :
    (gnssOffset o s).distaff = s.distaff := by
  unfold gnssOffset; dsimp only; (repeat' split) <;> simp
@[simp] theorem frame_gnssOffset_func (o : Int) (s : State) :
    (gnssOffset o s).func = s.func := by
  unfold gnssOffset; dsimp only; (repeat' split) <;> simp
@[simp] theorem frame_gnssOffset_gnss (o : Int) (s : State) :
    (gnssOffset o s).gnss = s.gnss := by
  unfold gnssOffset; dsimp only; (repeat' split) <;> simp
@[simp] theorem frame_gnssOffset_hank (o : Int) (s : State) :
    (gnssOffset o s).hank = s.hank := by
  unfold gnssOffset; dsimp only; (repeat' split) <;> simp
@[simp] theorem frame_gnssOffset_inputs (o : Int) (s : State) :
    (gnssOffset o s).inputs = s.inputs := by
  unfold gnssOffset; dsimp only; (repeat' split) <;> simp
@[simp] theorem frame_gnssOffset_lanes (o : Int) (s : State) :
    (gnssOffset o s).lanes = s.lanes := by
  unfold gnssOffset; dsimp only; (repeat' split) <;> simp
@[simp] theorem frame_gnssOffset_outs (o : Int) (s : State) :
    (gnssOffset o s).outs = s.outs := by
  unfold gnssOffset; dsimp only; (repeat' split) <;> simp
@[simp] theorem frame_gnssOffset_panel (o : Int) (s : State) :
    (gnssOffset o s).panel = s.panel := by
  unfold gnssOffset; dsimp only; (repeat' split) <;> simp
@[simp] theorem frame_gnssOffset_reqs (o : Int) (s : State) :
    (gnssOffset o s).reqs = s.reqs := by
  unfold gnssOffset; dsimp only; (repeat' split) <;> simp
@[simp] theorem frame_gnssOffset_sent (o : Int) (s : State) :
    (gnssOffset o s).sent = s.sent := by
  unfold gnssOffset; dsimp only; (repeat' split) <;> simp
@[simp] theorem frame_gnssOffset_spool (o : Int) (s : State) :
    (gnssOffset o s).spool = s.spool := by
  unfold gnssOffset; dsimp only; (repeat' split) <;> simp
@[simp] theorem frame_gnssOffset_store (o : Int) (s : State) :
    (gnssOffset o s).store = s.store := by
  unfold gnssOffset; dsimp only; (repeat' split) <;> simp
@[simp] theorem frame_gnssOffset_strike (o : Int) (s : State) :
    (gnssOffset o s).strike = s.strike := by
  unfold gnssOffset; dsimp only; (repeat' split) <;> simp
@[simp] theorem frame_gnssOffset_sys (o : Int) (s : State) :
    (gnssOffset o s).sys = s.sys := by
  unfold gnssOffset; dsimp only; (repeat' split) <;> simp
@[simp] theorem frame_gnssOffset_tally (o : Int) (s : State) :
    (gnssOffset o s).tally = s.tally := by
  unfold gnssOffset; dsimp only; (repeat' split) <;> simp
@[simp] theorem frame_gnssOffset_upd (o : Int) (s : State) :
    (gnssOffset o s).upd = s.upd := by
  unfold gnssOffset; dsimp only; (repeat' split) <;> simp
@[simp] theorem frame_gnssNone (s : State) :
    let t := (gnssNone s); t.sys = s.sys ∧ t.reqs = s.reqs ∧ t.counters = s.counters ∧ t.hank = s.hank ∧
      t.distaff = s.distaff ∧ t.func = s.func ∧ t.store = s.store ∧ t.core = s.core ∧ t.spool = s.spool ∧
      t.emergency = s.emergency ∧ t.lanes = s.lanes ∧ t.tally = s.tally ∧ t.outs = s.outs ∧ t.inputs = s.inputs ∧
      t.strike = s.strike ∧ t.gnss = s.gnss ∧ t.clock = s.clock ∧ t.eth = s.eth ∧ t.skein = s.skein ∧ t.upd = s.upd ∧
      t.panel = s.panel ∧ t.sent = s.sent ∧ t.free = s.free ∧ t.pending = s.pending := by
  simp [gnssNone]
@[simp] theorem frame_saveRtc (s : State) :
    let t := (saveRtc s); t.sys = s.sys ∧ t.reqs = s.reqs ∧ t.counters = s.counters ∧ t.hank = s.hank ∧
      t.distaff = s.distaff ∧ t.func = s.func ∧ t.store = s.store ∧ t.core = s.core ∧ t.spool = s.spool ∧
      t.emergency = s.emergency ∧ t.lanes = s.lanes ∧ t.tally = s.tally ∧ t.outs = s.outs ∧ t.inputs = s.inputs ∧
      t.strike = s.strike ∧ t.gnss = s.gnss ∧ t.clock = s.clock ∧ t.eth = s.eth ∧ t.skein = s.skein ∧ t.upd = s.upd ∧
      t.panel = s.panel ∧ t.sent = s.sent ∧ t.free = s.free ∧ t.pending = s.pending := by
  unfold saveRtc; dsimp only; (repeat' split) <;> simp
@[simp] theorem frame_claimBias (n : Nat) (s : State) :
    let t := (claimBias n s); t.sys = s.sys ∧ t.reqs = s.reqs ∧ t.distaff = s.distaff ∧ t.func = s.func ∧
      t.store = s.store ∧ t.spool = s.spool ∧ t.emergency = s.emergency ∧ t.strike = s.strike ∧ t.clock = s.clock ∧
      t.sun = s.sun ∧ t.eth = s.eth ∧ t.pending = s.pending := by
  unfold claimBias; (repeat' split) <;> simp
@[simp] theorem frame_dropBias (n : Nat) (v : BitVec 2) (s : State) :
    let t := (dropBias n v s); t.sys = s.sys ∧ t.reqs = s.reqs ∧ t.counters = s.counters ∧ t.hank = s.hank ∧
      t.distaff = s.distaff ∧ t.func = s.func ∧ t.store = s.store ∧ t.core = s.core ∧ t.spool = s.spool ∧
      t.emergency = s.emergency ∧ t.lanes = s.lanes ∧ t.outs = s.outs ∧ t.inputs = s.inputs ∧ t.strike = s.strike ∧
      t.clock = s.clock ∧ t.sun = s.sun ∧ t.eth = s.eth ∧ t.upd = s.upd ∧ t.panel = s.panel ∧ t.sent = s.sent ∧
      t.pending = s.pending := by
  simp [dropBias]
@[simp] theorem frame_latch (m : GnssMeas) (s : State) :
    let t := (latch m s); t.sys = s.sys ∧ t.reqs = s.reqs ∧ t.counters = s.counters ∧ t.hank = s.hank ∧
      t.distaff = s.distaff ∧ t.func = s.func ∧ t.store = s.store ∧ t.core = s.core ∧ t.spool = s.spool ∧
      t.emergency = s.emergency ∧ t.lanes = s.lanes ∧ t.tally = s.tally ∧ t.outs = s.outs ∧ t.inputs = s.inputs ∧
      t.strike = s.strike ∧ t.clock = s.clock ∧ t.sun = s.sun ∧ t.eth = s.eth ∧ t.skein = s.skein ∧ t.upd = s.upd ∧
      t.panel = s.panel ∧ t.sent = s.sent ∧ t.free = s.free ∧ t.pending = s.pending := by
  unfold latch; dsimp only; (repeat' split) <;> simp
@[simp] theorem frame_exclude (cause : Nat) (addr : Nat) (n : Nat) (s : State) :
    let t := (exclude cause addr n s); t.sys = s.sys ∧ t.reqs = s.reqs ∧ t.hank = s.hank ∧ t.distaff = s.distaff ∧
      t.func = s.func ∧ t.store = s.store ∧ t.core = s.core ∧ t.spool = s.spool ∧ t.emergency = s.emergency ∧
      t.lanes = s.lanes ∧ t.tally = s.tally ∧ t.outs = s.outs ∧ t.inputs = s.inputs ∧ t.strike = s.strike ∧
      t.clock = s.clock ∧ t.sun = s.sun ∧ t.eth = s.eth ∧ t.panel = s.panel ∧ t.sent = s.sent ∧ t.free = s.free ∧
      t.pending = s.pending := by
  unfold exclude; dsimp only; (repeat' split) <;> simp
@[simp] theorem frame_exclude_upd (cause : Nat) (addr : Nat) (n : Nat) (s : State) :
    (exclude cause addr n s).upd = s.upd := by
  unfold exclude; dsimp only; (repeat' split) <;> simp
@[simp] theorem frame_suspect (n : Nat) (s : State) :
    let t := (suspect n s); t.sys = s.sys ∧ t.reqs = s.reqs ∧ t.hank = s.hank ∧ t.distaff = s.distaff ∧
      t.func = s.func ∧ t.store = s.store ∧ t.core = s.core ∧ t.spool = s.spool ∧ t.emergency = s.emergency ∧
      t.lanes = s.lanes ∧ t.tally = s.tally ∧ t.outs = s.outs ∧ t.inputs = s.inputs ∧ t.strike = s.strike ∧
      t.clock = s.clock ∧ t.sun = s.sun ∧ t.eth = s.eth ∧ t.panel = s.panel ∧ t.sent = s.sent ∧ t.free = s.free ∧
      t.pending = s.pending := by
  simp [suspect]
@[simp] theorem frame_suspect_upd (n : Nat) (s : State) :
    (suspect n s).upd = s.upd := by
  simp [suspect]
@[simp] theorem frame_setSpoof (s : State) :
    let t := (setSpoof s); t.sys = s.sys ∧ t.reqs = s.reqs ∧ t.counters = s.counters ∧ t.hank = s.hank ∧
      t.distaff = s.distaff ∧ t.func = s.func ∧ t.store = s.store ∧ t.core = s.core ∧ t.spool = s.spool ∧
      t.emergency = s.emergency ∧ t.lanes = s.lanes ∧ t.tally = s.tally ∧ t.outs = s.outs ∧ t.inputs = s.inputs ∧
      t.strike = s.strike ∧ t.clock = s.clock ∧ t.eth = s.eth ∧ t.panel = s.panel ∧ t.sent = s.sent ∧ t.free = s.free ∧
      t.pending = s.pending := by
  dsimp only; unfold setSpoof; (repeat' split) <;> simp
@[simp] theorem frame_setSpoof_upd (s : State) :
    (setSpoof s).upd = s.upd := by
  unfold setSpoof; (repeat' split) <;> simp
@[simp] theorem frame_dopplerCheck (m : GnssMeas) (s : State) :
    let t := (dopplerCheck m s); t.sys = s.sys ∧ t.reqs = s.reqs ∧ t.counters = s.counters ∧ t.hank = s.hank ∧
      t.distaff = s.distaff ∧ t.func = s.func ∧ t.store = s.store ∧ t.core = s.core ∧ t.spool = s.spool ∧
      t.emergency = s.emergency ∧ t.lanes = s.lanes ∧ t.tally = s.tally ∧ t.outs = s.outs ∧ t.inputs = s.inputs ∧
      t.strike = s.strike ∧ t.clock = s.clock ∧ t.sun = s.sun ∧ t.eth = s.eth ∧ t.skein = s.skein ∧ t.upd = s.upd ∧
      t.panel = s.panel ∧ t.sent = s.sent ∧ t.free = s.free ∧ t.pending = s.pending := by
  unfold dopplerCheck; dsimp only; (repeat' split) <;> simp
@[simp] theorem frame_watchFlat (l : List GnssMeas) (ant : Bool) (s : State) :
    let t := (watchFlat l ant s); t.sys = s.sys ∧ t.reqs = s.reqs ∧ t.counters = s.counters ∧ t.hank = s.hank ∧
      t.distaff = s.distaff ∧ t.func = s.func ∧ t.store = s.store ∧ t.core = s.core ∧ t.spool = s.spool ∧
      t.emergency = s.emergency ∧ t.lanes = s.lanes ∧ t.tally = s.tally ∧ t.outs = s.outs ∧ t.inputs = s.inputs ∧
      t.strike = s.strike ∧ t.clock = s.clock ∧ t.sun = s.sun ∧ t.eth = s.eth ∧ t.skein = s.skein ∧ t.upd = s.upd ∧
      t.panel = s.panel ∧ t.sent = s.sent ∧ t.free = s.free ∧ t.pending = s.pending := by
  simp [watchFlat]
@[simp] theorem frame_watchNoise (f : GnssFronts) (s : State) :
    let t := (watchNoise f s); t.sys = s.sys ∧ t.reqs = s.reqs ∧ t.counters = s.counters ∧ t.hank = s.hank ∧
      t.distaff = s.distaff ∧ t.func = s.func ∧ t.store = s.store ∧ t.core = s.core ∧ t.spool = s.spool ∧
      t.emergency = s.emergency ∧ t.lanes = s.lanes ∧ t.tally = s.tally ∧ t.outs = s.outs ∧ t.inputs = s.inputs ∧
      t.strike = s.strike ∧ t.clock = s.clock ∧ t.sun = s.sun ∧ t.eth = s.eth ∧ t.skein = s.skein ∧ t.upd = s.upd ∧
      t.panel = s.panel ∧ t.sent = s.sent ∧ t.free = s.free ∧ t.pending = s.pending := by
  simp [watchNoise]
@[simp] theorem frame_learnNoise (f : GnssFronts) (clean : Bool) (s : State) :
    let t := (learnNoise f clean s); t.sys = s.sys ∧ t.reqs = s.reqs ∧ t.counters = s.counters ∧ t.hank = s.hank ∧
      t.distaff = s.distaff ∧ t.func = s.func ∧ t.store = s.store ∧ t.core = s.core ∧ t.spool = s.spool ∧
      t.emergency = s.emergency ∧ t.lanes = s.lanes ∧ t.tally = s.tally ∧ t.outs = s.outs ∧ t.inputs = s.inputs ∧
      t.strike = s.strike ∧ t.clock = s.clock ∧ t.sun = s.sun ∧ t.eth = s.eth ∧ t.skein = s.skein ∧ t.upd = s.upd ∧
      t.panel = s.panel ∧ t.sent = s.sent ∧ t.free = s.free ∧ t.pending = s.pending := by
  simp [learnNoise]
@[simp] theorem frame_flagFails (ifr dop clk : List Nat) (s : State) :
    let t := (flagFails ifr dop clk s); t.sys = s.sys ∧ t.reqs = s.reqs ∧ t.hank = s.hank ∧ t.distaff = s.distaff ∧
      t.func = s.func ∧ t.store = s.store ∧ t.core = s.core ∧ t.spool = s.spool ∧ t.emergency = s.emergency ∧
      t.lanes = s.lanes ∧ t.tally = s.tally ∧ t.outs = s.outs ∧ t.inputs = s.inputs ∧ t.strike = s.strike ∧
      t.clock = s.clock ∧ t.sun = s.sun ∧ t.eth = s.eth ∧ t.upd = s.upd ∧ t.panel = s.panel ∧ t.sent = s.sent ∧
      t.free = s.free ∧ t.pending = s.pending := by
  simp [flagFails]
@[simp] theorem frame_noteChecks (f : GnssFronts) (l : List GnssMeas) (other pat : Bool) (jam : BitVec 4) (s : State) :
    let t := (noteChecks f l other pat jam s); t.sys = s.sys ∧ t.reqs = s.reqs ∧ t.counters = s.counters ∧
      t.hank = s.hank ∧ t.distaff = s.distaff ∧ t.func = s.func ∧ t.store = s.store ∧ t.core = s.core ∧
      t.spool = s.spool ∧ t.emergency = s.emergency ∧ t.lanes = s.lanes ∧ t.tally = s.tally ∧ t.outs = s.outs ∧
      t.inputs = s.inputs ∧ t.strike = s.strike ∧ t.clock = s.clock ∧ t.sun = s.sun ∧ t.eth = s.eth ∧
      t.skein = s.skein ∧ t.upd = s.upd ∧ t.panel = s.panel ∧ t.sent = s.sent ∧ t.free = s.free ∧ t.pending = s.pending := by
  simp [noteChecks]
@[simp] theorem frame_judgeSpoof (before : Nat) (s : State) :
    let t := (judgeSpoof before s); t.sys = s.sys ∧ t.reqs = s.reqs ∧ t.counters = s.counters ∧ t.hank = s.hank ∧
      t.distaff = s.distaff ∧ t.func = s.func ∧ t.store = s.store ∧ t.core = s.core ∧ t.spool = s.spool ∧
      t.emergency = s.emergency ∧ t.lanes = s.lanes ∧ t.tally = s.tally ∧ t.outs = s.outs ∧ t.inputs = s.inputs ∧
      t.strike = s.strike ∧ t.clock = s.clock ∧ t.eth = s.eth ∧ t.upd = s.upd ∧ t.panel = s.panel ∧ t.sent = s.sent ∧
      t.free = s.free ∧ t.pending = s.pending := by
  unfold judgeSpoof; (repeat' split) <;> simp
@[simp] theorem frame_landOutput (stamp : Time) (posOk hdgOk : Bool) (e : Nat × Word) (s : State) :
    let t := (landOutput stamp posOk hdgOk e s); t.sys = s.sys ∧ t.reqs = s.reqs ∧ t.hank = s.hank ∧
      t.distaff = s.distaff ∧ t.func = s.func ∧ t.store = s.store ∧ t.spool = s.spool ∧ t.emergency = s.emergency ∧
      t.lanes = s.lanes ∧ t.tally = s.tally ∧ t.outs = s.outs ∧ t.inputs = s.inputs ∧ t.strike = s.strike ∧
      t.gnss = s.gnss ∧ t.clock = s.clock ∧ t.sun = s.sun ∧ t.eth = s.eth ∧ t.panel = s.panel ∧ t.sent = s.sent ∧
      t.free = s.free ∧ t.pending = s.pending := by
  dsimp only; unfold landOutput; (repeat' split) <;> simp
@[simp] theorem frame_corrAge (s : State) :
    let t := (corrAge s).2; t.sys = s.sys ∧ t.reqs = s.reqs ∧ t.counters = s.counters ∧ t.hank = s.hank ∧
      t.distaff = s.distaff ∧ t.func = s.func ∧ t.store = s.store ∧ t.core = s.core ∧ t.spool = s.spool ∧
      t.emergency = s.emergency ∧ t.lanes = s.lanes ∧ t.tally = s.tally ∧ t.outs = s.outs ∧ t.inputs = s.inputs ∧
      t.strike = s.strike ∧ t.gnss = s.gnss ∧ t.clock = s.clock ∧ t.sun = s.sun ∧ t.eth = s.eth ∧ t.skein = s.skein ∧
      t.upd = s.upd ∧ t.panel = s.panel ∧ t.sent = s.sent ∧ t.pending = s.pending := by
  unfold corrAge; (repeat' split) <;> simp
@[simp] theorem frame_takeRtcm (bytes : List Byte) (crcOk : Bool) (msg : Nat) (s : State) :
    let t := (takeRtcm bytes crcOk msg s); t.sys = s.sys ∧ t.reqs = s.reqs ∧ t.hank = s.hank ∧ t.distaff = s.distaff ∧
      t.func = s.func ∧ t.store = s.store ∧ t.spool = s.spool ∧ t.emergency = s.emergency ∧ t.lanes = s.lanes ∧
      t.tally = s.tally ∧ t.outs = s.outs ∧ t.inputs = s.inputs ∧ t.strike = s.strike ∧ t.gnss = s.gnss ∧
      t.clock = s.clock ∧ t.sun = s.sun ∧ t.eth = s.eth ∧ t.panel = s.panel ∧ t.sent = s.sent ∧ t.free = s.free ∧
      t.pending = s.pending := by
  unfold takeRtcm; dsimp only; (repeat' split) <;> simp
@[simp] theorem frame_takeRtcm_upd (bytes : List Byte) (crcOk : Bool) (msg : Nat) (s : State) :
    (takeRtcm bytes crcOk msg s).upd = s.upd := by
  unfold takeRtcm; dsimp only; (repeat' split) <;> simp
@[simp] theorem frame_assign (n : Nat) (c : BitVec 4) (sv : BitVec 8) (ant : Bool) (phase : Word) (s : State) :
    let t := (assign n c sv ant phase s); t.sys = s.sys ∧ t.reqs = s.reqs ∧ t.counters = s.counters ∧ t.hank = s.hank ∧
      t.distaff = s.distaff ∧ t.func = s.func ∧ t.store = s.store ∧ t.core = s.core ∧ t.spool = s.spool ∧
      t.emergency = s.emergency ∧ t.lanes = s.lanes ∧ t.tally = s.tally ∧ t.outs = s.outs ∧ t.inputs = s.inputs ∧
      t.strike = s.strike ∧ t.clock = s.clock ∧ t.sun = s.sun ∧ t.eth = s.eth ∧ t.skein = s.skein ∧ t.upd = s.upd ∧
      t.panel = s.panel ∧ t.sent = s.sent ∧ t.free = s.free ∧ t.pending = s.pending := by
  simp [assign]
@[simp] theorem frame_readHandle (sp : Nat) (d : GReg) (sel handle : Nat) (y : Activation) (s : State) :
    let t := (readHandle sp d sel handle y s); t.emergency = s.emergency ∧ t.clock = s.clock ∧ t.eth = s.eth ∧
      t.pending = s.pending := by
  unfold readHandle; dsimp only; (repeat' split) <;> simp
@[simp] theorem frame_readHandle_distaff (sp : Nat) (d : GReg) (sel handle : Nat) (y : Activation) (s : State) :
    (readHandle sp d sel handle y s).distaff = s.distaff := by
  unfold readHandle; dsimp only; (repeat' split) <;> simp
@[simp] theorem frame_readHandle_func (sp : Nat) (d : GReg) (sel handle : Nat) (y : Activation) (s : State) :
    (readHandle sp d sel handle y s).func = s.func := by
  unfold readHandle; dsimp only; (repeat' split) <;> simp
@[simp] theorem frame_readHandle_gnss (sp : Nat) (d : GReg) (sel handle : Nat) (y : Activation) (s : State) :
    (readHandle sp d sel handle y s).gnss = s.gnss := by
  unfold readHandle; dsimp only; (repeat' split) <;> simp
@[simp] theorem frame_readHandle_hank (sp : Nat) (d : GReg) (sel handle : Nat) (y : Activation) (s : State) :
    (readHandle sp d sel handle y s).hank = s.hank := by
  unfold readHandle; dsimp only; (repeat' split) <;> simp
@[simp] theorem frame_readHandle_inputs (sp : Nat) (d : GReg) (sel handle : Nat) (y : Activation) (s : State) :
    (readHandle sp d sel handle y s).inputs = s.inputs := by
  unfold readHandle; dsimp only; (repeat' split) <;> simp
@[simp] theorem frame_readHandle_lanes (sp : Nat) (d : GReg) (sel handle : Nat) (y : Activation) (s : State) :
    (readHandle sp d sel handle y s).lanes = s.lanes := by
  unfold readHandle; dsimp only; (repeat' split) <;> simp
@[simp] theorem frame_readHandle_outs (sp : Nat) (d : GReg) (sel handle : Nat) (y : Activation) (s : State) :
    (readHandle sp d sel handle y s).outs = s.outs := by
  unfold readHandle; dsimp only; (repeat' split) <;> simp
@[simp] theorem frame_readHandle_panel (sp : Nat) (d : GReg) (sel handle : Nat) (y : Activation) (s : State) :
    (readHandle sp d sel handle y s).panel = s.panel := by
  unfold readHandle; dsimp only; (repeat' split) <;> simp
@[simp] theorem frame_readHandle_reqs (sp : Nat) (d : GReg) (sel handle : Nat) (y : Activation) (s : State) :
    (readHandle sp d sel handle y s).reqs = s.reqs := by
  unfold readHandle; dsimp only; (repeat' split) <;> simp
@[simp] theorem frame_readHandle_sent (sp : Nat) (d : GReg) (sel handle : Nat) (y : Activation) (s : State) :
    (readHandle sp d sel handle y s).sent = s.sent := by
  unfold readHandle; dsimp only; (repeat' split) <;> simp
@[simp] theorem frame_readHandle_spool (sp : Nat) (d : GReg) (sel handle : Nat) (y : Activation) (s : State) :
    (readHandle sp d sel handle y s).spool = s.spool := by
  unfold readHandle; dsimp only; (repeat' split) <;> simp
@[simp] theorem frame_readHandle_store (sp : Nat) (d : GReg) (sel handle : Nat) (y : Activation) (s : State) :
    (readHandle sp d sel handle y s).store = s.store := by
  unfold readHandle; dsimp only; (repeat' split) <;> simp
@[simp] theorem frame_readHandle_strike (sp : Nat) (d : GReg) (sel handle : Nat) (y : Activation) (s : State) :
    (readHandle sp d sel handle y s).strike = s.strike := by
  unfold readHandle; dsimp only; (repeat' split) <;> simp
@[simp] theorem frame_readHandle_sun (sp : Nat) (d : GReg) (sel handle : Nat) (y : Activation) (s : State) :
    (readHandle sp d sel handle y s).sun = s.sun := by
  unfold readHandle; dsimp only; (repeat' split) <;> simp
@[simp] theorem frame_readHandle_sys (sp : Nat) (d : GReg) (sel handle : Nat) (y : Activation) (s : State) :
    (readHandle sp d sel handle y s).sys = s.sys := by
  unfold readHandle; dsimp only; (repeat' split) <;> simp
@[simp] theorem frame_readHandle_tally (sp : Nat) (d : GReg) (sel handle : Nat) (y : Activation) (s : State) :
    (readHandle sp d sel handle y s).tally = s.tally := by
  unfold readHandle; dsimp only; (repeat' split) <;> simp
@[simp] theorem frame_setLoop (k : Nat) (x : LoopSt) (s : State) :
    let t := (setLoop k x s); t.sys = s.sys ∧ t.reqs = s.reqs ∧ t.counters = s.counters ∧ t.hank = s.hank ∧
      t.distaff = s.distaff ∧ t.func = s.func ∧ t.store = s.store ∧ t.spool = s.spool ∧ t.emergency = s.emergency ∧
      t.lanes = s.lanes ∧ t.tally = s.tally ∧ t.outs = s.outs ∧ t.inputs = s.inputs ∧ t.strike = s.strike ∧
      t.gnss = s.gnss ∧ t.clock = s.clock ∧ t.sun = s.sun ∧ t.eth = s.eth ∧ t.skein = s.skein ∧ t.upd = s.upd ∧
      t.panel = s.panel ∧ t.sent = s.sent ∧ t.free = s.free ∧ t.pending = s.pending := by
  simp [setLoop]
@[simp] theorem frame_setTable (k : Nat) (x : TableSt) (s : State) :
    let t := (setTable k x s); t.sys = s.sys ∧ t.reqs = s.reqs ∧ t.counters = s.counters ∧ t.hank = s.hank ∧
      t.distaff = s.distaff ∧ t.func = s.func ∧ t.store = s.store ∧ t.spool = s.spool ∧ t.emergency = s.emergency ∧
      t.lanes = s.lanes ∧ t.tally = s.tally ∧ t.outs = s.outs ∧ t.inputs = s.inputs ∧ t.strike = s.strike ∧
      t.gnss = s.gnss ∧ t.clock = s.clock ∧ t.sun = s.sun ∧ t.eth = s.eth ∧ t.skein = s.skein ∧ t.upd = s.upd ∧
      t.panel = s.panel ∧ t.sent = s.sent ∧ t.free = s.free ∧ t.pending = s.pending := by
  simp [setTable]
@[simp] theorem frame_readAngle (d : TableDecl) (by_ : Stepper) (s : State) :
    let t := (readAngle d by_ s).2; t.sys = s.sys ∧ t.reqs = s.reqs ∧ t.counters = s.counters ∧ t.hank = s.hank ∧
      t.distaff = s.distaff ∧ t.func = s.func ∧ t.store = s.store ∧ t.spool = s.spool ∧ t.emergency = s.emergency ∧
      t.lanes = s.lanes ∧ t.tally = s.tally ∧ t.outs = s.outs ∧ t.inputs = s.inputs ∧ t.strike = s.strike ∧
      t.gnss = s.gnss ∧ t.clock = s.clock ∧ t.sun = s.sun ∧ t.eth = s.eth ∧ t.panel = s.panel ∧ t.sent = s.sent ∧
      t.pending = s.pending := by
  simp [readAngle]
@[simp] theorem frame_readTable (d : LoopDecl) (by_ : Stepper) (s : State) :
    let t := (readTable d by_ s).2; t.sys = s.sys ∧ t.reqs = s.reqs ∧ t.counters = s.counters ∧ t.hank = s.hank ∧
      t.distaff = s.distaff ∧ t.func = s.func ∧ t.store = s.store ∧ t.spool = s.spool ∧ t.emergency = s.emergency ∧
      t.lanes = s.lanes ∧ t.tally = s.tally ∧ t.outs = s.outs ∧ t.inputs = s.inputs ∧ t.strike = s.strike ∧
      t.gnss = s.gnss ∧ t.clock = s.clock ∧ t.sun = s.sun ∧ t.eth = s.eth ∧ t.panel = s.panel ∧ t.sent = s.sent ∧
      t.pending = s.pending := by
  unfold readTable; dsimp only; (repeat' split) <;> simp
@[simp] theorem frame_learnTable (d : LoopDecl) (r : TableRead) (held : Bool) (mode : Nat) (st : LoopSt) (f : TwistFlags) (s : State) :
    let t := (learnTable d r held mode st f s).2; t.sys = s.sys ∧ t.reqs = s.reqs ∧ t.hank = s.hank ∧
      t.distaff = s.distaff ∧ t.func = s.func ∧ t.store = s.store ∧ t.spool = s.spool ∧ t.emergency = s.emergency ∧
      t.lanes = s.lanes ∧ t.tally = s.tally ∧ t.outs = s.outs ∧ t.inputs = s.inputs ∧ t.strike = s.strike ∧
      t.gnss = s.gnss ∧ t.clock = s.clock ∧ t.sun = s.sun ∧ t.eth = s.eth ∧ t.upd = s.upd ∧ t.panel = s.panel ∧
      t.sent = s.sent ∧ t.free = s.free ∧ t.pending = s.pending := by
  unfold learnTable; dsimp only; (repeat' split) <;> simp
@[simp] theorem frame_readUnit (u : Option UnitSig) (by_ : Stepper) (s : State) :
    let t := (readUnit u by_ s).2; t.sys = s.sys ∧ t.reqs = s.reqs ∧ t.counters = s.counters ∧ t.hank = s.hank ∧
      t.distaff = s.distaff ∧ t.func = s.func ∧ t.store = s.store ∧ t.spool = s.spool ∧ t.emergency = s.emergency ∧
      t.lanes = s.lanes ∧ t.tally = s.tally ∧ t.outs = s.outs ∧ t.inputs = s.inputs ∧ t.strike = s.strike ∧
      t.gnss = s.gnss ∧ t.clock = s.clock ∧ t.sun = s.sun ∧ t.eth = s.eth ∧ t.panel = s.panel ∧ t.sent = s.sent ∧
      t.pending = s.pending := by
  unfold readUnit; dsimp only; (repeat' split) <;> simp
@[simp] theorem frame_countHeld (held : Bool) (s : State) :
    let t := (countHeld held s); t.sys = s.sys ∧ t.reqs = s.reqs ∧ t.hank = s.hank ∧ t.distaff = s.distaff ∧
      t.func = s.func ∧ t.store = s.store ∧ t.core = s.core ∧ t.spool = s.spool ∧ t.emergency = s.emergency ∧
      t.lanes = s.lanes ∧ t.tally = s.tally ∧ t.outs = s.outs ∧ t.inputs = s.inputs ∧ t.strike = s.strike ∧
      t.gnss = s.gnss ∧ t.clock = s.clock ∧ t.sun = s.sun ∧ t.eth = s.eth ∧ t.panel = s.panel ∧ t.sent = s.sent ∧
      t.free = s.free ∧ t.pending = s.pending := by
  dsimp only; unfold countHeld; (repeat' split) <;> simp
@[simp] theorem frame_countHeld_upd (held : Bool) (s : State) :
    (countHeld held s).upd = s.upd := by
  unfold countHeld; (repeat' split) <;> simp
@[simp] theorem frame_stepSingle (d : LoopDecl) (by_ : Stepper) (s : State) :
    let t := (stepSingle d by_ s); t.sys = s.sys ∧ t.reqs = s.reqs ∧ t.hank = s.hank ∧ t.distaff = s.distaff ∧
      t.func = s.func ∧ t.store = s.store ∧ t.spool = s.spool ∧ t.emergency = s.emergency ∧ t.lanes = s.lanes ∧
      t.tally = s.tally ∧ t.outs = s.outs ∧ t.inputs = s.inputs ∧ t.strike = s.strike ∧ t.gnss = s.gnss ∧
      t.clock = s.clock ∧ t.sun = s.sun ∧ t.eth = s.eth ∧ t.panel = s.panel ∧ t.sent = s.sent ∧ t.pending = s.pending := by
  unfold stepSingle; dsimp only; (repeat' split) <;> simp
@[simp] theorem frame_stepOuter (d : LoopDecl) (by_ : Stepper) (mode : Nat) (bad : Bool) (pv : Word) (limited : Bool) (s : State) :
    let t := (stepOuter d by_ mode bad pv limited s).2; t.sys = s.sys ∧ t.reqs = s.reqs ∧ t.hank = s.hank ∧
      t.distaff = s.distaff ∧ t.func = s.func ∧ t.store = s.store ∧ t.spool = s.spool ∧ t.emergency = s.emergency ∧
      t.lanes = s.lanes ∧ t.tally = s.tally ∧ t.outs = s.outs ∧ t.inputs = s.inputs ∧ t.strike = s.strike ∧
      t.gnss = s.gnss ∧ t.clock = s.clock ∧ t.sun = s.sun ∧ t.eth = s.eth ∧ t.panel = s.panel ∧ t.sent = s.sent ∧
      t.pending = s.pending := by
  simp [stepOuter]
@[simp] theorem frame_stepInner (d inner : LoopDecl) (by_ : Stepper) (m : Nat × Bool) (x : Word × Word) (isp : Word) (o : LoopSt × TwistFlags × Bool) (pv ff : Word) (s : State) :
    let t := (stepInner d inner by_ m x isp o pv ff s); t.sys = s.sys ∧ t.reqs = s.reqs ∧ t.hank = s.hank ∧
      t.distaff = s.distaff ∧ t.func = s.func ∧ t.store = s.store ∧ t.spool = s.spool ∧ t.emergency = s.emergency ∧
      t.lanes = s.lanes ∧ t.tally = s.tally ∧ t.outs = s.outs ∧ t.inputs = s.inputs ∧ t.strike = s.strike ∧
      t.gnss = s.gnss ∧ t.clock = s.clock ∧ t.sun = s.sun ∧ t.eth = s.eth ∧ t.panel = s.panel ∧ t.sent = s.sent ∧
      t.pending = s.pending := by
  simp [stepInner]
@[simp] theorem frame_stepCascade (d : LoopDecl) (inner : LoopDecl) (by_ : Stepper) (s : State) :
    let t := (stepCascade d inner by_ s); t.sys = s.sys ∧ t.reqs = s.reqs ∧ t.hank = s.hank ∧ t.distaff = s.distaff ∧
      t.func = s.func ∧ t.store = s.store ∧ t.spool = s.spool ∧ t.emergency = s.emergency ∧ t.lanes = s.lanes ∧
      t.tally = s.tally ∧ t.outs = s.outs ∧ t.inputs = s.inputs ∧ t.strike = s.strike ∧ t.gnss = s.gnss ∧
      t.clock = s.clock ∧ t.sun = s.sun ∧ t.eth = s.eth ∧ t.panel = s.panel ∧ t.sent = s.sent ∧ t.pending = s.pending := by
  unfold stepCascade; dsimp only; (repeat' split) <;> simp
@[simp] theorem frame_readMembers (by_ : Stepper) (l_ : List LoopDecl) (s : State) :
    let t := (readMembers by_ l_ s).2; t.sys = s.sys ∧ t.reqs = s.reqs ∧ t.counters = s.counters ∧ t.hank = s.hank ∧
      t.distaff = s.distaff ∧ t.func = s.func ∧ t.store = s.store ∧ t.spool = s.spool ∧ t.emergency = s.emergency ∧
      t.lanes = s.lanes ∧ t.tally = s.tally ∧ t.outs = s.outs ∧ t.inputs = s.inputs ∧ t.strike = s.strike ∧
      t.gnss = s.gnss ∧ t.clock = s.clock ∧ t.sun = s.sun ∧ t.eth = s.eth ∧ t.panel = s.panel ∧ t.sent = s.sent ∧
      t.pending = s.pending := by
  induction l_ generalizing by_ s with
  | nil => simp [readMembers]
  | cons a l ih => unfold readMembers; dsimp only; (repeat' split) <;> simp [ih]
@[simp] theorem frame_stepGroup (d : LoopDecl) (by_ : Stepper) (s : State) :
    let t := (stepGroup d by_ s); t.sys = s.sys ∧ t.reqs = s.reqs ∧ t.hank = s.hank ∧ t.distaff = s.distaff ∧
      t.func = s.func ∧ t.store = s.store ∧ t.spool = s.spool ∧ t.emergency = s.emergency ∧ t.lanes = s.lanes ∧
      t.tally = s.tally ∧ t.outs = s.outs ∧ t.inputs = s.inputs ∧ t.strike = s.strike ∧ t.gnss = s.gnss ∧
      t.clock = s.clock ∧ t.sun = s.sun ∧ t.eth = s.eth ∧ t.panel = s.panel ∧ t.sent = s.sent ∧ t.pending = s.pending := by
  unfold stepGroup; dsimp only; (repeat' split) <;> simp
@[simp] theorem frame_runLoop (d : LoopDecl) (by_ : Stepper) (s : State) :
    let t := (runLoop d by_ s); t.sys = s.sys ∧ t.reqs = s.reqs ∧ t.hank = s.hank ∧ t.distaff = s.distaff ∧
      t.func = s.func ∧ t.store = s.store ∧ t.spool = s.spool ∧ t.emergency = s.emergency ∧ t.lanes = s.lanes ∧
      t.tally = s.tally ∧ t.outs = s.outs ∧ t.inputs = s.inputs ∧ t.strike = s.strike ∧ t.gnss = s.gnss ∧
      t.clock = s.clock ∧ t.sun = s.sun ∧ t.eth = s.eth ∧ t.panel = s.panel ∧ t.sent = s.sent ∧ t.pending = s.pending := by
  unfold runLoop; dsimp only; (repeat' split) <;> simp
@[simp] theorem frame_stepHandle (sp l : Nat) (y : Activation) (s : State) :
    let t := (stepHandle sp l y s); t.sys = s.sys ∧ t.reqs = s.reqs ∧ t.hank = s.hank ∧ t.distaff = s.distaff ∧
      t.func = s.func ∧ t.store = s.store ∧ t.spool = s.spool ∧ t.emergency = s.emergency ∧ t.lanes = s.lanes ∧
      t.tally = s.tally ∧ t.outs = s.outs ∧ t.inputs = s.inputs ∧ t.strike = s.strike ∧ t.gnss = s.gnss ∧
      t.clock = s.clock ∧ t.sun = s.sun ∧ t.eth = s.eth ∧ t.panel = s.panel ∧ t.sent = s.sent ∧ t.pending = s.pending := by
  unfold stepHandle; dsimp only; (repeat' split) <;> simp
@[simp] theorem frame_saveDue (n : Nat) (ti : Time) (s : State) :
    let t := (saveDue n ti s); t.sys = s.sys ∧ t.reqs = s.reqs ∧ t.counters = s.counters ∧ t.hank = s.hank ∧
      t.distaff = s.distaff ∧ t.func = s.func ∧ t.store = s.store ∧ t.core = s.core ∧ t.emergency = s.emergency ∧
      t.lanes = s.lanes ∧ t.tally = s.tally ∧ t.outs = s.outs ∧ t.inputs = s.inputs ∧ t.strike = s.strike ∧
      t.gnss = s.gnss ∧ t.clock = s.clock ∧ t.sun = s.sun ∧ t.eth = s.eth ∧ t.skein = s.skein ∧ t.upd = s.upd ∧
      t.panel = s.panel ∧ t.sent = s.sent ∧ t.free = s.free ∧ t.pending = s.pending := by
  dsimp only; unfold saveDue; (repeat' split) <;> simp
@[simp] theorem frame_switchParts (toNew : Bool) (s : State) :
    let t := (switchParts toNew s); t.sys = s.sys ∧ t.reqs = s.reqs ∧ t.counters = s.counters ∧ t.hank = s.hank ∧
      t.distaff = s.distaff ∧ t.func = s.func ∧ t.store = s.store ∧ t.core = s.core ∧ t.spool = s.spool ∧
      t.emergency = s.emergency ∧ t.lanes = s.lanes ∧ t.tally = s.tally ∧ t.inputs = s.inputs ∧ t.strike = s.strike ∧
      t.clock = s.clock ∧ t.sun = s.sun ∧ t.eth = s.eth ∧ t.skein = s.skein ∧ t.upd = s.upd ∧ t.sent = s.sent ∧
      t.pending = s.pending := by
  unfold switchParts; dsimp only; (repeat' split) <;> simp
@[simp] theorem frame_restoreRecord (k : Settings) (n : Nat) (s : State) :
    let t := (restoreRecord k n s); t.sys = s.sys ∧ t.reqs = s.reqs ∧ t.counters = s.counters ∧ t.hank = s.hank ∧
      t.distaff = s.distaff ∧ t.func = s.func ∧ t.store = s.store ∧ t.core = s.core ∧ t.spool = s.spool ∧
      t.emergency = s.emergency ∧ t.lanes = s.lanes ∧ t.inputs = s.inputs ∧ t.strike = s.strike ∧ t.clock = s.clock ∧
      t.sun = s.sun ∧ t.eth = s.eth ∧ t.sent = s.sent ∧ t.free = s.free ∧ t.pending = s.pending := by
  dsimp only; unfold restoreRecord; (repeat' split) <;> simp
@[simp] theorem frame_restoreSettings (s : State) :
    let t := (restoreSettings s); t.sys = s.sys ∧ t.reqs = s.reqs ∧ t.counters = s.counters ∧ t.hank = s.hank ∧
      t.distaff = s.distaff ∧ t.func = s.func ∧ t.store = s.store ∧ t.core = s.core ∧ t.spool = s.spool ∧
      t.emergency = s.emergency ∧ t.lanes = s.lanes ∧ t.inputs = s.inputs ∧ t.strike = s.strike ∧ t.clock = s.clock ∧
      t.sun = s.sun ∧ t.eth = s.eth ∧ t.sent = s.sent ∧ t.free = s.free ∧ t.pending = s.pending := by
  dsimp only; unfold restoreSettings; (repeat' split) <;> simp (disch := (intros; (repeat' split) <;> simp))
@[simp] theorem frame_holderSlot (s : State) :
    let t := (holderSlot s); t.sys = s.sys ∧ t.reqs = s.reqs ∧ t.counters = s.counters ∧ t.hank = s.hank ∧
      t.distaff = s.distaff ∧ t.func = s.func ∧ t.store = s.store ∧ t.core = s.core ∧ t.spool = s.spool ∧
      t.emergency = s.emergency ∧ t.tally = s.tally ∧ t.outs = s.outs ∧ t.inputs = s.inputs ∧ t.strike = s.strike ∧
      t.gnss = s.gnss ∧ t.clock = s.clock ∧ t.sun = s.sun ∧ t.eth = s.eth ∧ t.skein = s.skein ∧ t.upd = s.upd ∧
      t.panel = s.panel ∧ t.sent = s.sent ∧ t.free = s.free ∧ t.pending = s.pending := by
  dsimp only; unfold holderSlot; (repeat' split) <;> simp
@[simp] theorem frame_beginTrial (s : State) :
    let t := (beginTrial s); t.emergency = s.emergency ∧ t.clock = s.clock ∧ t.eth = s.eth ∧ t.free = s.free ∧
      t.pending = s.pending := by
  simp [beginTrial]
@[simp] theorem frame_beginTrial_core (s : State) :
    (beginTrial s).core = s.core := by
  simp [beginTrial]
@[simp] theorem frame_beginTrial_counters (s : State) :
    (beginTrial s).counters = s.counters := by
  simp [beginTrial]
@[simp] theorem frame_beginTrial_distaff (s : State) :
    (beginTrial s).distaff = s.distaff := by
  simp [beginTrial]
@[simp] theorem frame_beginTrial_func (s : State) :
    (beginTrial s).func = s.func := by
  simp [beginTrial]
@[simp] theorem frame_beginTrial_gnss (s : State) :
    (beginTrial s).gnss = s.gnss := by
  simp [beginTrial]
@[simp] theorem frame_beginTrial_inputs (s : State) :
    (beginTrial s).inputs = s.inputs := by
  simp [beginTrial]
@[simp] theorem frame_beginTrial_outs (s : State) :
    (beginTrial s).outs = s.outs := by
  simp [beginTrial]
@[simp] theorem frame_beginTrial_reqs (s : State) :
    (beginTrial s).reqs = s.reqs := by
  simp [beginTrial]
@[simp] theorem frame_beginTrial_skein (s : State) :
    (beginTrial s).skein = s.skein := by
  simp [beginTrial]
@[simp] theorem frame_beginTrial_spool (s : State) :
    (beginTrial s).spool = s.spool := by
  simp [beginTrial]
@[simp] theorem frame_beginTrial_store (s : State) :
    (beginTrial s).store = s.store := by
  simp [beginTrial]
@[simp] theorem frame_beginTrial_strike (s : State) :
    (beginTrial s).strike = s.strike := by
  simp [beginTrial]
@[simp] theorem frame_beginTrial_sun (s : State) :
    (beginTrial s).sun = s.sun := by
  simp [beginTrial]
@[simp] theorem frame_beginTrial_sys (s : State) :
    (beginTrial s).sys = s.sys := by
  simp [beginTrial]
@[simp] theorem frame_beginTrial_tally (s : State) :
    (beginTrial s).tally = s.tally := by
  simp [beginTrial]
@[simp] theorem frame_oldSetBack (s : State) :
    let t := (oldSetBack s); t.sys = s.sys ∧ t.reqs = s.reqs ∧ t.hank = s.hank ∧ t.distaff = s.distaff ∧
      t.func = s.func ∧ t.store = s.store ∧ t.core = s.core ∧ t.spool = s.spool ∧ t.emergency = s.emergency ∧
      t.inputs = s.inputs ∧ t.strike = s.strike ∧ t.clock = s.clock ∧ t.sun = s.sun ∧ t.eth = s.eth ∧ t.sent = s.sent ∧
      t.pending = s.pending := by
  simp [oldSetBack]
@[simp] theorem frame_abandonSwitch (s : State) :
    let t := (abandonSwitch s); t.emergency = s.emergency ∧ t.clock = s.clock ∧ t.eth = s.eth ∧ t.free = s.free ∧
      t.pending = s.pending := by
  simp [abandonSwitch]
@[simp] theorem frame_abandonSwitch_core (s : State) :
    (abandonSwitch s).core = s.core := by
  simp [abandonSwitch]
@[simp] theorem frame_abandonSwitch_distaff (s : State) :
    (abandonSwitch s).distaff = s.distaff := by
  simp [abandonSwitch]
@[simp] theorem frame_abandonSwitch_func (s : State) :
    (abandonSwitch s).func = s.func := by
  simp [abandonSwitch]
@[simp] theorem frame_abandonSwitch_gnss (s : State) :
    (abandonSwitch s).gnss = s.gnss := by
  simp [abandonSwitch]
@[simp] theorem frame_abandonSwitch_inputs (s : State) :
    (abandonSwitch s).inputs = s.inputs := by
  simp [abandonSwitch]
@[simp] theorem frame_abandonSwitch_lanes (s : State) :
    (abandonSwitch s).lanes = s.lanes := by
  simp [abandonSwitch]
@[simp] theorem frame_abandonSwitch_outs (s : State) :
    (abandonSwitch s).outs = s.outs := by
  simp [abandonSwitch]
@[simp] theorem frame_abandonSwitch_reqs (s : State) :
    (abandonSwitch s).reqs = s.reqs := by
  simp [abandonSwitch]
@[simp] theorem frame_abandonSwitch_spool (s : State) :
    (abandonSwitch s).spool = s.spool := by
  simp [abandonSwitch]
@[simp] theorem frame_abandonSwitch_store (s : State) :
    (abandonSwitch s).store = s.store := by
  simp [abandonSwitch]
@[simp] theorem frame_abandonSwitch_strike (s : State) :
    (abandonSwitch s).strike = s.strike := by
  simp [abandonSwitch]
@[simp] theorem frame_abandonSwitch_sun (s : State) :
    (abandonSwitch s).sun = s.sun := by
  simp [abandonSwitch]
@[simp] theorem frame_abandonSwitch_sys (s : State) :
    (abandonSwitch s).sys = s.sys := by
  simp [abandonSwitch]
@[simp] theorem frame_abandonSwitch_tally (s : State) :
    (abandonSwitch s).tally = s.tally := by
  simp [abandonSwitch]
@[simp] theorem frame_returnLane (l : Lane) (s : State) :
    let t := (returnLane l s); t.sys = s.sys ∧ t.counters = s.counters ∧ t.hank = s.hank ∧ t.distaff = s.distaff ∧
      t.func = s.func ∧ t.store = s.store ∧ t.core = s.core ∧ t.spool = s.spool ∧ t.emergency = s.emergency ∧
      t.lanes = s.lanes ∧ t.outs = s.outs ∧ t.inputs = s.inputs ∧ t.strike = s.strike ∧ t.gnss = s.gnss ∧
      t.clock = s.clock ∧ t.sun = s.sun ∧ t.eth = s.eth ∧ t.skein = s.skein ∧ t.upd = s.upd ∧ t.panel = s.panel ∧
      t.sent = s.sent ∧ t.free = s.free ∧ t.pending = s.pending := by
  simp [returnLane]
@[simp] theorem frame_returnLane_reqs (l : Lane) (s : State) :
    (returnLane l s).reqs = s.reqs := by
  simp [returnLane]
@[simp] theorem frame_failLane (l : Lane) (cause : BitVec 4) (s : State) :
    let t := (failLane l cause s); t.sys = s.sys ∧ t.reqs = s.reqs ∧ t.counters = s.counters ∧ t.hank = s.hank ∧
      t.distaff = s.distaff ∧ t.func = s.func ∧ t.store = s.store ∧ t.core = s.core ∧ t.spool = s.spool ∧
      t.emergency = s.emergency ∧ t.tally = s.tally ∧ t.outs = s.outs ∧ t.inputs = s.inputs ∧ t.strike = s.strike ∧
      t.gnss = s.gnss ∧ t.clock = s.clock ∧ t.sun = s.sun ∧ t.eth = s.eth ∧ t.skein = s.skein ∧ t.upd = s.upd ∧
      t.panel = s.panel ∧ t.sent = s.sent ∧ t.free = s.free ∧ t.pending = s.pending := by
  simp [failLane]
@[simp] theorem frame_dropYield (s : State) :
    let t := (dropYield s); t.sys = s.sys ∧ t.reqs = s.reqs ∧ t.counters = s.counters ∧ t.hank = s.hank ∧
      t.distaff = s.distaff ∧ t.func = s.func ∧ t.store = s.store ∧ t.core = s.core ∧ t.spool = s.spool ∧
      t.emergency = s.emergency ∧ t.tally = s.tally ∧ t.outs = s.outs ∧ t.inputs = s.inputs ∧ t.strike = s.strike ∧
      t.gnss = s.gnss ∧ t.clock = s.clock ∧ t.sun = s.sun ∧ t.eth = s.eth ∧ t.panel = s.panel ∧ t.sent = s.sent ∧
      t.free = s.free ∧ t.pending = s.pending := by
  dsimp only; unfold dropYield; (repeat' split) <;> simp
@[simp] theorem frame_dropYield_upd (s : State) :
    (dropYield s).upd = s.upd := by
  unfold dropYield; (repeat' split) <;> simp
@[simp] theorem frame_dropCore (s : State) :
    let t := (dropCore s); t.sys = s.sys ∧ t.reqs = s.reqs ∧ t.hank = s.hank ∧ t.distaff = s.distaff ∧
      t.func = s.func ∧ t.store = s.store ∧ t.spool = s.spool ∧ t.emergency = s.emergency ∧ t.tally = s.tally ∧
      t.outs = s.outs ∧ t.inputs = s.inputs ∧ t.strike = s.strike ∧ t.gnss = s.gnss ∧ t.clock = s.clock ∧
      t.sun = s.sun ∧ t.eth = s.eth ∧ t.panel = s.panel ∧ t.sent = s.sent ∧ t.free = s.free ∧ t.pending = s.pending := by
  simp [dropCore]
@[simp] theorem frame_setSpoolSlot (b : Bool) (x : SpoolSlot) (s : State) :
    let t := (setSpoolSlot b x s); t.sys = s.sys ∧ t.reqs = s.reqs ∧ t.counters = s.counters ∧ t.hank = s.hank ∧
      t.distaff = s.distaff ∧ t.func = s.func ∧ t.store = s.store ∧ t.core = s.core ∧ t.emergency = s.emergency ∧
      t.lanes = s.lanes ∧ t.tally = s.tally ∧ t.outs = s.outs ∧ t.inputs = s.inputs ∧ t.strike = s.strike ∧
      t.gnss = s.gnss ∧ t.clock = s.clock ∧ t.sun = s.sun ∧ t.eth = s.eth ∧ t.skein = s.skein ∧ t.upd = s.upd ∧
      t.panel = s.panel ∧ t.sent = s.sent ∧ t.free = s.free ∧ t.pending = s.pending := by
  simp [setSpoolSlot]
@[simp] theorem frame_captureDue (s : State) :
    let t := (captureDue s); t.sys = s.sys ∧ t.reqs = s.reqs ∧ t.counters = s.counters ∧ t.hank = s.hank ∧
      t.distaff = s.distaff ∧ t.func = s.func ∧ t.store = s.store ∧ t.core = s.core ∧ t.emergency = s.emergency ∧
      t.lanes = s.lanes ∧ t.tally = s.tally ∧ t.outs = s.outs ∧ t.inputs = s.inputs ∧ t.strike = s.strike ∧
      t.gnss = s.gnss ∧ t.clock = s.clock ∧ t.sun = s.sun ∧ t.eth = s.eth ∧ t.skein = s.skein ∧ t.upd = s.upd ∧
      t.panel = s.panel ∧ t.sent = s.sent ∧ t.free = s.free ∧ t.pending = s.pending := by
  dsimp only; unfold captureDue; (repeat' split) <;> simp
@[simp] theorem frame_commitWritten (s : State) :
    let t := (commitWritten s); t.sys = s.sys ∧ t.reqs = s.reqs ∧ t.counters = s.counters ∧ t.hank = s.hank ∧
      t.distaff = s.distaff ∧ t.func = s.func ∧ t.store = s.store ∧ t.core = s.core ∧ t.emergency = s.emergency ∧
      t.lanes = s.lanes ∧ t.tally = s.tally ∧ t.outs = s.outs ∧ t.inputs = s.inputs ∧ t.strike = s.strike ∧
      t.gnss = s.gnss ∧ t.clock = s.clock ∧ t.sun = s.sun ∧ t.eth = s.eth ∧ t.skein = s.skein ∧ t.upd = s.upd ∧
      t.panel = s.panel ∧ t.sent = s.sent ∧ t.free = s.free ∧ t.pending = s.pending := by
  dsimp only; unfold commitWritten; (repeat' split) <;> simp
@[simp] theorem frame_checkpointNow (s : State) :
    let t := (checkpointNow s); t.sys = s.sys ∧ t.reqs = s.reqs ∧ t.counters = s.counters ∧ t.hank = s.hank ∧
      t.distaff = s.distaff ∧ t.func = s.func ∧ t.store = s.store ∧ t.core = s.core ∧ t.emergency = s.emergency ∧
      t.lanes = s.lanes ∧ t.tally = s.tally ∧ t.outs = s.outs ∧ t.inputs = s.inputs ∧ t.strike = s.strike ∧
      t.gnss = s.gnss ∧ t.clock = s.clock ∧ t.sun = s.sun ∧ t.eth = s.eth ∧ t.skein = s.skein ∧ t.upd = s.upd ∧
      t.panel = s.panel ∧ t.sent = s.sent ∧ t.free = s.free ∧ t.pending = s.pending := by
  simp [checkpointNow]
@[simp] theorem frame_restoreImage (im : Image) (s : State) :
    let t := (restoreImage im s); t.sys = s.sys ∧ t.reqs = s.reqs ∧ t.counters = s.counters ∧ t.hank = s.hank ∧
      t.distaff = s.distaff ∧ t.func = s.func ∧ t.store = s.store ∧ t.spool = s.spool ∧ t.emergency = s.emergency ∧
      t.lanes = s.lanes ∧ t.tally = s.tally ∧ t.outs = s.outs ∧ t.inputs = s.inputs ∧ t.strike = s.strike ∧
      t.gnss = s.gnss ∧ t.clock = s.clock ∧ t.sun = s.sun ∧ t.eth = s.eth ∧ t.skein = s.skein ∧ t.upd = s.upd ∧
      t.panel = s.panel ∧ t.sent = s.sent ∧ t.free = s.free ∧ t.pending = s.pending := by
  simp [restoreImage]
@[simp] theorem frame_enterHold (cause : BitVec 8) (refusal : BitVec 16) (why : DayCause) (s : State) :
    let t := (enterHold cause refusal why s); t.reqs = s.reqs ∧ t.distaff = s.distaff ∧ t.func = s.func ∧
      t.store = s.store ∧ t.spool = s.spool ∧ t.emergency = s.emergency ∧ t.strike = s.strike ∧ t.clock = s.clock ∧
      t.sun = s.sun ∧ t.eth = s.eth ∧ t.pending = s.pending := by
  unfold enterHold; dsimp only; (repeat' split) <;> simp
@[simp] theorem frame_enterDusk (why : DayCause) (s : State) :
    let t := (enterDusk why s); t.distaff = s.distaff ∧ t.func = s.func ∧ t.store = s.store ∧ t.spool = s.spool ∧
      t.emergency = s.emergency ∧ t.strike = s.strike ∧ t.clock = s.clock ∧ t.sun = s.sun ∧ t.eth = s.eth ∧
      t.panel = s.panel ∧ t.free = s.free ∧ t.pending = s.pending := by
  simp [enterDusk]
@[simp] theorem frame_enterDusk_core (why : DayCause) (s : State) :
    (enterDusk why s).core = s.core := by
  simp [enterDusk]
@[simp] theorem frame_enterDusk_counters (why : DayCause) (s : State) :
    (enterDusk why s).counters = s.counters := by
  simp [enterDusk]
@[simp] theorem frame_enterDusk_gnss (why : DayCause) (s : State) :
    (enterDusk why s).gnss = s.gnss := by
  simp [enterDusk]
@[simp] theorem frame_enterDusk_inputs (why : DayCause) (s : State) :
    (enterDusk why s).inputs = s.inputs := by
  simp [enterDusk]
@[simp] theorem frame_enterDusk_lanes (why : DayCause) (s : State) :
    (enterDusk why s).lanes = s.lanes := by
  simp [enterDusk]
@[simp] theorem frame_enterDusk_upd (why : DayCause) (s : State) :
    (enterDusk why s).upd = s.upd := by
  simp [enterDusk]
@[simp] theorem frame_enterDusk_reqs (why : DayCause) (s : State) :
    (enterDusk why s).reqs = s.reqs := by
  simp [enterDusk]
@[simp] theorem frame_reachHold (cause : BitVec 8) (refusal : BitVec 16) (s : State) :
    let t := (reachHold cause refusal s); t.reqs = s.reqs ∧ t.distaff = s.distaff ∧ t.func = s.func ∧
      t.store = s.store ∧ t.spool = s.spool ∧ t.emergency = s.emergency ∧ t.strike = s.strike ∧ t.clock = s.clock ∧
      t.sun = s.sun ∧ t.eth = s.eth ∧ t.pending = s.pending := by
  unfold reachHold; (repeat' split) <;> simp
@[simp] theorem frame_startDawn (code line : BitVec 4) (warm fault : Bool) (why : DayCause) (s : State) :
    let t := (startDawn code line warm fault why s); t.distaff = s.distaff ∧ t.func = s.func ∧ t.store = s.store ∧
      t.spool = s.spool ∧ t.emergency = s.emergency ∧ t.strike = s.strike ∧ t.clock = s.clock ∧ t.sun = s.sun ∧
      t.eth = s.eth ∧ t.panel = s.panel ∧ t.free = s.free ∧ t.pending = s.pending := by
  simp [startDawn]
@[simp] theorem frame_startDawn_core (code line : BitVec 4) (warm fault : Bool) (why : DayCause) (s : State) :
    (startDawn code line warm fault why s).core = s.core := by
  simp [startDawn]
@[simp] theorem frame_startDawn_counters (code line : BitVec 4) (warm fault : Bool) (why : DayCause) (s : State) :
    (startDawn code line warm fault why s).counters = s.counters := by
  simp [startDawn]
@[simp] theorem frame_startDawn_gnss (code line : BitVec 4) (warm fault : Bool) (why : DayCause) (s : State) :
    (startDawn code line warm fault why s).gnss = s.gnss := by
  simp [startDawn]
@[simp] theorem frame_startDawn_inputs (code line : BitVec 4) (warm fault : Bool) (why : DayCause) (s : State) :
    (startDawn code line warm fault why s).inputs = s.inputs := by
  simp [startDawn]
@[simp] theorem frame_startDawn_lanes (code line : BitVec 4) (warm fault : Bool) (why : DayCause) (s : State) :
    (startDawn code line warm fault why s).lanes = s.lanes := by
  simp [startDawn]
@[simp] theorem frame_startDawn_outs (code line : BitVec 4) (warm fault : Bool) (why : DayCause) (s : State) :
    (startDawn code line warm fault why s).outs = s.outs := by
  simp [startDawn]
@[simp] theorem frame_startDawn_reqs (code line : BitVec 4) (warm fault : Bool) (why : DayCause) (s : State) :
    (startDawn code line warm fault why s).reqs = s.reqs := by
  simp [startDawn]
@[simp] theorem frame_startDawn_tally (code line : BitVec 4) (warm fault : Bool) (why : DayCause) (s : State) :
    (startDawn code line warm fault why s).tally = s.tally := by
  simp [startDawn]
@[simp] theorem frame_startDawn_upd (code line : BitVec 4) (warm fault : Bool) (why : DayCause) (s : State) :
    (startDawn code line warm fault why s).upd = s.upd := by
  simp [startDawn]
@[simp] theorem frame_dropCanBuffers (s : State) :
    let t := (dropCanBuffers s); t.sys = s.sys ∧ t.reqs = s.reqs ∧ t.hank = s.hank ∧ t.distaff = s.distaff ∧
      t.func = s.func ∧ t.store = s.store ∧ t.core = s.core ∧ t.spool = s.spool ∧ t.emergency = s.emergency ∧
      t.lanes = s.lanes ∧ t.tally = s.tally ∧ t.outs = s.outs ∧ t.inputs = s.inputs ∧ t.strike = s.strike ∧
      t.gnss = s.gnss ∧ t.clock = s.clock ∧ t.sun = s.sun ∧ t.eth = s.eth ∧ t.panel = s.panel ∧ t.sent = s.sent ∧
      t.free = s.free ∧ t.pending = s.pending := by
  simp [dropCanBuffers]
@[simp] theorem frame_resetRegs (s : State) :
    let t := (resetRegs s); t.sys = s.sys ∧ t.hank = s.hank ∧ t.distaff = s.distaff ∧ t.func = s.func ∧
      t.store = s.store ∧ t.core = s.core ∧ t.spool = s.spool ∧ t.emergency = s.emergency ∧ t.lanes = s.lanes ∧
      t.tally = s.tally ∧ t.outs = s.outs ∧ t.gnss = s.gnss ∧ t.eth = s.eth ∧ t.skein = s.skein ∧ t.upd = s.upd ∧
      t.sent = s.sent ∧ t.free = s.free ∧ t.pending = s.pending := by
  simp [resetRegs]
@[simp] theorem frame_warmResetBy (fault : Bool) (code : BitVec 4) (why : DayCause) (s : State) :
    let t := (warmResetBy fault code why s); t.emergency = s.emergency ∧ t.gnss = s.gnss ∧ t.eth = s.eth ∧
      t.free = s.free ∧ t.pending = s.pending := by
  unfold warmResetBy; dsimp only; (repeat' split) <;> simp
@[simp] theorem frame_warmReset (code : BitVec 4) (why : DayCause) (s : State) :
    let t := (warmReset code why s); t.emergency = s.emergency ∧ t.gnss = s.gnss ∧ t.eth = s.eth ∧ t.free = s.free ∧
      t.pending = s.pending := by
  simp [warmReset]
@[simp] theorem frame_disarmNow (s : State) :
    let t := (disarmNow s); t.reqs = s.reqs ∧ t.distaff = s.distaff ∧ t.func = s.func ∧ t.store = s.store ∧
      t.spool = s.spool ∧ t.emergency = s.emergency ∧ t.strike = s.strike ∧ t.clock = s.clock ∧ t.sun = s.sun ∧
      t.eth = s.eth ∧ t.pending = s.pending := by
  simp [disarmNow]
@[simp] theorem frame_lateDisarm (s : State) :
    let t := (lateDisarm s); t.reqs = s.reqs ∧ t.distaff = s.distaff ∧ t.func = s.func ∧ t.store = s.store ∧
      t.spool = s.spool ∧ t.emergency = s.emergency ∧ t.strike = s.strike ∧ t.clock = s.clock ∧ t.sun = s.sun ∧
      t.eth = s.eth ∧ t.pending = s.pending := by
  unfold lateDisarm; dsimp only; (repeat' split) <;> simp
@[simp] theorem frame_lastLaneFailed (s : State) :
    let t := (lastLaneFailed s); t.reqs = s.reqs ∧ t.distaff = s.distaff ∧ t.func = s.func ∧ t.store = s.store ∧
      t.spool = s.spool ∧ t.emergency = s.emergency ∧ t.strike = s.strike ∧ t.clock = s.clock ∧ t.sun = s.sun ∧
      t.eth = s.eth ∧ t.pending = s.pending := by
  unfold lastLaneFailed; (repeat' split) <;> simp
@[simp] theorem frame_releaseWhorl (l : Lane) (cause : BitVec 4) (s : State) :
    let t := (releaseWhorl l cause s); t.reqs = s.reqs ∧ t.emergency = s.emergency ∧ t.strike = s.strike ∧
      t.clock = s.clock ∧ t.sun = s.sun ∧ t.eth = s.eth ∧ t.pending = s.pending := by
  unfold releaseWhorl; dsimp only; (repeat' split) <;> simp
@[simp] theorem frame_canJoin (s : State) :
    let t := (canJoin s); t.sys = s.sys ∧ t.reqs = s.reqs ∧ t.counters = s.counters ∧ t.hank = s.hank ∧
      t.distaff = s.distaff ∧ t.func = s.func ∧ t.store = s.store ∧ t.spool = s.spool ∧ t.emergency = s.emergency ∧
      t.lanes = s.lanes ∧ t.tally = s.tally ∧ t.outs = s.outs ∧ t.inputs = s.inputs ∧ t.strike = s.strike ∧
      t.gnss = s.gnss ∧ t.clock = s.clock ∧ t.sun = s.sun ∧ t.eth = s.eth ∧ t.skein = s.skein ∧ t.upd = s.upd ∧
      t.panel = s.panel ∧ t.sent = s.sent ∧ t.free = s.free ∧ t.pending = s.pending := by
  unfold canJoin; dsimp only; (repeat' split) <;> simp
@[simp] theorem frame_standbyLost (s : State) :
    let t := (standbyLost s); t.reqs = s.reqs ∧ t.counters = s.counters ∧ t.distaff = s.distaff ∧ t.func = s.func ∧
      t.store = s.store ∧ t.core = s.core ∧ t.spool = s.spool ∧ t.emergency = s.emergency ∧ t.lanes = s.lanes ∧
      t.tally = s.tally ∧ t.outs = s.outs ∧ t.inputs = s.inputs ∧ t.strike = s.strike ∧ t.gnss = s.gnss ∧
      t.clock = s.clock ∧ t.sun = s.sun ∧ t.eth = s.eth ∧ t.panel = s.panel ∧ t.free = s.free ∧ t.pending = s.pending := by
  dsimp only; unfold standbyLost; (repeat' split) <;> simp
@[simp] theorem frame_standbyLost_upd (s : State) :
    (standbyLost s).upd = s.upd := by
  unfold standbyLost; (repeat' split) <;> simp
@[simp] theorem frame_setGrade (l : Lane) (mgmt : Bool) (s : State) :
    let t := (setGrade l mgmt s); t.sys = s.sys ∧ t.reqs = s.reqs ∧ t.counters = s.counters ∧ t.hank = s.hank ∧
      t.distaff = s.distaff ∧ t.func = s.func ∧ t.store = s.store ∧ t.core = s.core ∧ t.spool = s.spool ∧
      t.emergency = s.emergency ∧ t.tally = s.tally ∧ t.outs = s.outs ∧ t.inputs = s.inputs ∧ t.strike = s.strike ∧
      t.gnss = s.gnss ∧ t.clock = s.clock ∧ t.sun = s.sun ∧ t.eth = s.eth ∧ t.skein = s.skein ∧ t.upd = s.upd ∧
      t.panel = s.panel ∧ t.sent = s.sent ∧ t.free = s.free ∧ t.pending = s.pending := by
  simp [setGrade]
@[simp] theorem frame_checkpointDue (s : State) :
    let t := (checkpointDue s); t.sys = s.sys ∧ t.reqs = s.reqs ∧ t.hank = s.hank ∧ t.distaff = s.distaff ∧
      t.func = s.func ∧ t.store = s.store ∧ t.core = s.core ∧ t.emergency = s.emergency ∧ t.lanes = s.lanes ∧
      t.tally = s.tally ∧ t.outs = s.outs ∧ t.inputs = s.inputs ∧ t.strike = s.strike ∧ t.gnss = s.gnss ∧
      t.clock = s.clock ∧ t.sun = s.sun ∧ t.eth = s.eth ∧ t.panel = s.panel ∧ t.sent = s.sent ∧ t.free = s.free ∧
      t.pending = s.pending := by
  dsimp only; unfold checkpointDue; (repeat' split) <;> simp
@[simp] theorem frame_checkpointDue_upd (s : State) :
    (checkpointDue s).upd = s.upd := by
  unfold checkpointDue; (repeat' split) <;> simp
@[simp] theorem frame_turnLoad (s : State) :
    let t := (turnLoad s); t.sys = s.sys ∧ t.reqs = s.reqs ∧ t.counters = s.counters ∧ t.hank = s.hank ∧
      t.distaff = s.distaff ∧ t.func = s.func ∧ t.store = s.store ∧ t.spool = s.spool ∧ t.emergency = s.emergency ∧
      t.lanes = s.lanes ∧ t.tally = s.tally ∧ t.outs = s.outs ∧ t.inputs = s.inputs ∧ t.strike = s.strike ∧
      t.gnss = s.gnss ∧ t.clock = s.clock ∧ t.sun = s.sun ∧ t.eth = s.eth ∧ t.skein = s.skein ∧ t.upd = s.upd ∧
      t.panel = s.panel ∧ t.sent = s.sent ∧ t.free = s.free ∧ t.pending = s.pending := by
  simp [turnLoad]
@[simp] theorem frame_yieldNow (f : Time) (s : State) :
    let t := (yieldNow f s); t.reqs = s.reqs ∧ t.emergency = s.emergency ∧ t.strike = s.strike ∧ t.clock = s.clock ∧
      t.sun = s.sun ∧ t.eth = s.eth ∧ t.pending = s.pending := by
  unfold yieldNow; (repeat' split) <;> simp
@[simp] theorem frame_freshLaneClocks (s : State) :
    let t := (freshLaneClocks s); t.sys = s.sys ∧ t.reqs = s.reqs ∧ t.counters = s.counters ∧ t.hank = s.hank ∧
      t.distaff = s.distaff ∧ t.func = s.func ∧ t.store = s.store ∧ t.core = s.core ∧ t.spool = s.spool ∧
      t.emergency = s.emergency ∧ t.lanes = s.lanes ∧ t.tally = s.tally ∧ t.outs = s.outs ∧ t.inputs = s.inputs ∧
      t.strike = s.strike ∧ t.gnss = s.gnss ∧ t.sun = s.sun ∧ t.eth = s.eth ∧ t.skein = s.skein ∧ t.upd = s.upd ∧
      t.panel = s.panel ∧ t.sent = s.sent ∧ t.free = s.free ∧ t.pending = s.pending := by
  simp [freshLaneClocks]
@[simp] theorem frame_updatingFailed (l : Lane) (cause : BitVec 4) (s : State) :
    let t := (updatingFailed l cause s); t.emergency = s.emergency ∧ t.eth = s.eth ∧ t.pending = s.pending := by
  unfold updatingFailed; dsimp only; (repeat' split) <;> simp
@[simp] theorem frame_laneFault (l : Lane) (cause : BitVec 4) (s : State) :
    let t := (laneFault l cause s); t.emergency = s.emergency ∧ t.eth = s.eth ∧ t.pending = s.pending := by
  unfold laneFault; dsimp only; (repeat' split) <;> simp
@[simp] theorem frame_acceptYield (byMask : Bool) (s : State) :
    let t := (acceptYield byMask s).2; t.sys = s.sys ∧ t.reqs = s.reqs ∧ t.counters = s.counters ∧ t.hank = s.hank ∧
      t.distaff = s.distaff ∧ t.func = s.func ∧ t.store = s.store ∧ t.core = s.core ∧ t.spool = s.spool ∧
      t.emergency = s.emergency ∧ t.tally = s.tally ∧ t.outs = s.outs ∧ t.inputs = s.inputs ∧ t.strike = s.strike ∧
      t.gnss = s.gnss ∧ t.clock = s.clock ∧ t.sun = s.sun ∧ t.eth = s.eth ∧ t.skein = s.skein ∧ t.upd = s.upd ∧
      t.panel = s.panel ∧ t.sent = s.sent ∧ t.free = s.free ∧ t.pending = s.pending := by
  dsimp only; unfold acceptYield; (repeat' split) <;> simp
@[simp] theorem frame_afterTake (s : State) :
    let t := (afterTake s); t.emergency = s.emergency ∧ t.eth = s.eth ∧ t.pending = s.pending := by
  unfold afterTake; dsimp only; (repeat' split) <;> simp
@[simp] theorem frame_takeWhorl (l : Lane) (s : State) :
    let t := (takeWhorl l s); t.sys = s.sys ∧ t.reqs = s.reqs ∧ t.counters = s.counters ∧ t.hank = s.hank ∧
      t.distaff = s.distaff ∧ t.store = s.store ∧ t.spool = s.spool ∧ t.emergency = s.emergency ∧ t.tally = s.tally ∧
      t.outs = s.outs ∧ t.inputs = s.inputs ∧ t.strike = s.strike ∧ t.gnss = s.gnss ∧ t.sun = s.sun ∧ t.eth = s.eth ∧
      t.skein = s.skein ∧ t.upd = s.upd ∧ t.panel = s.panel ∧ t.sent = s.sent ∧ t.free = s.free ∧ t.pending = s.pending := by
  simp [takeWhorl]
@[simp] theorem frame_closeResponder (s : State) :
    let t := (closeResponder s); t.sys = s.sys ∧ t.reqs = s.reqs ∧ t.counters = s.counters ∧ t.core = s.core ∧
      t.spool = s.spool ∧ t.emergency = s.emergency ∧ t.lanes = s.lanes ∧ t.tally = s.tally ∧ t.outs = s.outs ∧
      t.inputs = s.inputs ∧ t.strike = s.strike ∧ t.gnss = s.gnss ∧ t.clock = s.clock ∧ t.sun = s.sun ∧ t.eth = s.eth ∧
      t.skein = s.skein ∧ t.upd = s.upd ∧ t.panel = s.panel ∧ t.sent = s.sent ∧ t.free = s.free ∧ t.pending = s.pending := by
  dsimp only; unfold closeResponder; (repeat' split) <;> simp
@[simp] theorem frame_writeLk (guard : Bool) (v : Word) (s : State) :
    let t := (writeLk guard v s).2; t.sys = s.sys ∧ t.reqs = s.reqs ∧ t.hank = s.hank ∧ t.distaff = s.distaff ∧
      t.func = s.func ∧ t.store = s.store ∧ t.core = s.core ∧ t.spool = s.spool ∧ t.emergency = s.emergency ∧
      t.tally = s.tally ∧ t.outs = s.outs ∧ t.inputs = s.inputs ∧ t.strike = s.strike ∧ t.gnss = s.gnss ∧
      t.clock = s.clock ∧ t.sun = s.sun ∧ t.eth = s.eth ∧ t.panel = s.panel ∧ t.sent = s.sent ∧ t.free = s.free ∧
      t.pending = s.pending := by
  dsimp only; unfold writeLk; simp only [guarded]; (repeat' split) <;> simp
@[simp] theorem frame_laneSwitch (n : Nat) (on : Bool) (s : State) :
    let t := (laneSwitch n on s); t.sys = s.sys ∧ t.reqs = s.reqs ∧ t.distaff = s.distaff ∧ t.func = s.func ∧
      t.store = s.store ∧ t.spool = s.spool ∧ t.emergency = s.emergency ∧ t.strike = s.strike ∧ t.clock = s.clock ∧
      t.sun = s.sun ∧ t.eth = s.eth ∧ t.pending = s.pending := by
  unfold laneSwitch; dsimp only; (repeat' split) <;> simp
@[simp] theorem frame_laneDuty (n : Nat) (v : Word) (s : State) :
    let t := (laneDuty n v s); t.sys = s.sys ∧ t.reqs = s.reqs ∧ t.distaff = s.distaff ∧ t.func = s.func ∧
      t.store = s.store ∧ t.spool = s.spool ∧ t.emergency = s.emergency ∧ t.strike = s.strike ∧ t.clock = s.clock ∧
      t.sun = s.sun ∧ t.eth = s.eth ∧ t.pending = s.pending := by
  unfold laneDuty; dsimp only; (repeat' split) <;> simp
@[simp] theorem frame_ignoreSol (n : Nat) (s : State) :
    let t := (ignoreSol n s); t.sys = s.sys ∧ t.reqs = s.reqs ∧ t.hank = s.hank ∧ t.distaff = s.distaff ∧
      t.func = s.func ∧ t.store = s.store ∧ t.core = s.core ∧ t.spool = s.spool ∧ t.emergency = s.emergency ∧
      t.lanes = s.lanes ∧ t.tally = s.tally ∧ t.outs = s.outs ∧ t.inputs = s.inputs ∧ t.strike = s.strike ∧
      t.gnss = s.gnss ∧ t.clock = s.clock ∧ t.sun = s.sun ∧ t.eth = s.eth ∧ t.panel = s.panel ∧ t.sent = s.sent ∧
      t.free = s.free ∧ t.pending = s.pending := by
  simp [ignoreSol]
@[simp] theorem frame_ignoreSol_upd (n : Nat) (s : State) :
    (ignoreSol n s).upd = s.upd := by
  simp [ignoreSol]
@[simp] theorem frame_laneCur (n mA : Nat) (s : State) :
    let t := (laneCur n mA s); t.sys = s.sys ∧ t.reqs = s.reqs ∧ t.distaff = s.distaff ∧ t.func = s.func ∧
      t.store = s.store ∧ t.spool = s.spool ∧ t.emergency = s.emergency ∧ t.strike = s.strike ∧ t.clock = s.clock ∧
      t.sun = s.sun ∧ t.eth = s.eth ∧ t.pending = s.pending := by
  unfold laneCur; dsimp only; (repeat' split) <;> simp
@[simp] theorem frame_badProfile (n : Nat) (s : State) :
    let t := (badProfile n s); t.sys = s.sys ∧ t.reqs = s.reqs ∧ t.hank = s.hank ∧ t.distaff = s.distaff ∧
      t.func = s.func ∧ t.store = s.store ∧ t.spool = s.spool ∧ t.emergency = s.emergency ∧ t.lanes = s.lanes ∧
      t.tally = s.tally ∧ t.inputs = s.inputs ∧ t.strike = s.strike ∧ t.gnss = s.gnss ∧ t.clock = s.clock ∧
      t.sun = s.sun ∧ t.eth = s.eth ∧ t.panel = s.panel ∧ t.sent = s.sent ∧ t.free = s.free ∧ t.pending = s.pending := by
  unfold badProfile; dsimp only; (repeat' split) <;> simp
@[simp] theorem frame_badProfile_upd (n : Nat) (s : State) :
    (badProfile n s).upd = s.upd := by
  unfold badProfile; dsimp only; (repeat' split) <;> simp
@[simp] theorem frame_laneProf (n : Nat) (v : Word) (s : State) :
    let t := (laneProf n v s); t.sys = s.sys ∧ t.reqs = s.reqs ∧ t.distaff = s.distaff ∧ t.func = s.func ∧
      t.store = s.store ∧ t.spool = s.spool ∧ t.emergency = s.emergency ∧ t.strike = s.strike ∧ t.clock = s.clock ∧
      t.sun = s.sun ∧ t.eth = s.eth ∧ t.pending = s.pending := by
  unfold laneProf; dsimp only; (repeat' split) <;> simp
@[simp] theorem frame_laneRel (n : Nat) (s : State) :
    let t := (laneRel n s); t.sys = s.sys ∧ t.reqs = s.reqs ∧ t.distaff = s.distaff ∧ t.func = s.func ∧
      t.store = s.store ∧ t.spool = s.spool ∧ t.emergency = s.emergency ∧ t.strike = s.strike ∧ t.clock = s.clock ∧
      t.sun = s.sun ∧ t.eth = s.eth ∧ t.pending = s.pending := by
  simp [laneRel]
@[simp] theorem frame_refusePeak (n : Nat) (s : State) :
    let t := (refusePeak n s); t.sys = s.sys ∧ t.reqs = s.reqs ∧ t.distaff = s.distaff ∧ t.func = s.func ∧
      t.store = s.store ∧ t.spool = s.spool ∧ t.emergency = s.emergency ∧ t.strike = s.strike ∧ t.clock = s.clock ∧
      t.sun = s.sun ∧ t.eth = s.eth ∧ t.pending = s.pending := by
  unfold refusePeak; dsimp only; (repeat' split) <;> simp
@[simp] theorem frame_lswWaitOver (n : Nat) (always : Bool) (s : State) :
    let t := (lswWaitOver n always s); t.sys = s.sys ∧ t.reqs = s.reqs ∧ t.distaff = s.distaff ∧ t.func = s.func ∧
      t.store = s.store ∧ t.spool = s.spool ∧ t.emergency = s.emergency ∧ t.strike = s.strike ∧ t.clock = s.clock ∧
      t.sun = s.sun ∧ t.eth = s.eth ∧ t.pending = s.pending := by
  unfold lswWaitOver; dsimp only; (repeat' split) <;> simp
@[simp] theorem frame_clearLsw (n : Nat) (s : State) :
    let t := (clearLsw n s); t.sys = s.sys ∧ t.reqs = s.reqs ∧ t.distaff = s.distaff ∧ t.func = s.func ∧
      t.store = s.store ∧ t.spool = s.spool ∧ t.emergency = s.emergency ∧ t.strike = s.strike ∧ t.clock = s.clock ∧
      t.sun = s.sun ∧ t.eth = s.eth ∧ t.pending = s.pending := by
  unfold clearLsw clearLsw.lswIfOn; (repeat' split) <;> simp
@[simp] theorem frame_lswPeriod (n : Nat) (current : BitVec 16) (s : State) :
    let t := (lswPeriod n current s); t.sys = s.sys ∧ t.counters = s.counters ∧ t.hank = s.hank ∧
      t.distaff = s.distaff ∧ t.func = s.func ∧ t.store = s.store ∧ t.core = s.core ∧ t.spool = s.spool ∧
      t.emergency = s.emergency ∧ t.lanes = s.lanes ∧ t.inputs = s.inputs ∧ t.strike = s.strike ∧ t.gnss = s.gnss ∧
      t.clock = s.clock ∧ t.sun = s.sun ∧ t.eth = s.eth ∧ t.skein = s.skein ∧ t.upd = s.upd ∧ t.panel = s.panel ∧
      t.sent = s.sent ∧ t.free = s.free ∧ t.pending = s.pending := by
  unfold lswPeriod; dsimp only; (repeat' split) <;> simp
@[simp] theorem frame_lswPeriod_reqs (n : Nat) (current : BitVec 16) (s : State) :
    (lswPeriod n current s).reqs = s.reqs := by
  unfold lswPeriod; dsimp only; (repeat' split) <;> simp
@[simp] theorem frame_solPeriod (n : Nat) (current : BitVec 16) (cal : Option (BitVec 16)) (s : State) :
    let t := (solPeriod n current cal s); t.sys = s.sys ∧ t.reqs = s.reqs ∧ t.distaff = s.distaff ∧ t.func = s.func ∧
      t.store = s.store ∧ t.spool = s.spool ∧ t.emergency = s.emergency ∧ t.strike = s.strike ∧ t.clock = s.clock ∧
      t.sun = s.sun ∧ t.eth = s.eth ∧ t.pending = s.pending := by
  unfold solPeriod; dsimp only; (repeat' split) <;> simp
@[simp] theorem frame_setAin (i : Nat) (x : Ain) (s : State) :
    let t := (setAin i x s); t.sys = s.sys ∧ t.reqs = s.reqs ∧ t.counters = s.counters ∧ t.hank = s.hank ∧
      t.distaff = s.distaff ∧ t.func = s.func ∧ t.store = s.store ∧ t.core = s.core ∧ t.spool = s.spool ∧
      t.emergency = s.emergency ∧ t.lanes = s.lanes ∧ t.tally = s.tally ∧ t.outs = s.outs ∧ t.strike = s.strike ∧
      t.gnss = s.gnss ∧ t.clock = s.clock ∧ t.sun = s.sun ∧ t.eth = s.eth ∧ t.skein = s.skein ∧ t.upd = s.upd ∧
      t.panel = s.panel ∧ t.sent = s.sent ∧ t.free = s.free ∧ t.pending = s.pending := by
  simp [setAin]
@[simp] theorem frame_setAdc (a : Nat) (x : Adc) (s : State) :
    let t := (setAdc a x s); t.sys = s.sys ∧ t.reqs = s.reqs ∧ t.counters = s.counters ∧ t.hank = s.hank ∧
      t.distaff = s.distaff ∧ t.func = s.func ∧ t.store = s.store ∧ t.core = s.core ∧ t.spool = s.spool ∧
      t.emergency = s.emergency ∧ t.lanes = s.lanes ∧ t.tally = s.tally ∧ t.outs = s.outs ∧ t.strike = s.strike ∧
      t.gnss = s.gnss ∧ t.clock = s.clock ∧ t.sun = s.sun ∧ t.eth = s.eth ∧ t.skein = s.skein ∧ t.upd = s.upd ∧
      t.panel = s.panel ∧ t.sent = s.sent ∧ t.free = s.free ∧ t.pending = s.pending := by
  simp [setAdc]
@[simp] theorem frame_orFree (v : Option Word) (s : State) :
    let t := (orFree v s).2; t.sys = s.sys ∧ t.reqs = s.reqs ∧ t.counters = s.counters ∧ t.hank = s.hank ∧
      t.distaff = s.distaff ∧ t.func = s.func ∧ t.store = s.store ∧ t.core = s.core ∧ t.spool = s.spool ∧
      t.emergency = s.emergency ∧ t.lanes = s.lanes ∧ t.tally = s.tally ∧ t.outs = s.outs ∧ t.inputs = s.inputs ∧
      t.strike = s.strike ∧ t.gnss = s.gnss ∧ t.clock = s.clock ∧ t.sun = s.sun ∧ t.eth = s.eth ∧ t.skein = s.skein ∧
      t.upd = s.upd ∧ t.panel = s.panel ∧ t.sent = s.sent ∧ t.pending = s.pending := by
  dsimp only; unfold orFree; (repeat' split) <;> simp
@[simp] theorem frame_endWindow (i : Nat) (d : AinDecl) (s : State) :
    let t := (endWindow i d s); t.sys = s.sys ∧ t.reqs = s.reqs ∧ t.hank = s.hank ∧ t.distaff = s.distaff ∧
      t.func = s.func ∧ t.store = s.store ∧ t.spool = s.spool ∧ t.emergency = s.emergency ∧ t.lanes = s.lanes ∧
      t.tally = s.tally ∧ t.outs = s.outs ∧ t.strike = s.strike ∧ t.gnss = s.gnss ∧ t.clock = s.clock ∧ t.sun = s.sun ∧
      t.eth = s.eth ∧ t.panel = s.panel ∧ t.sent = s.sent ∧ t.pending = s.pending := by
  dsimp only; unfold endWindow; (repeat' split) <;> simp
@[simp] theorem frame_setShaft (k : Nat) (x : Shaft) (s : State) :
    let t := (setShaft k x s); t.sys = s.sys ∧ t.reqs = s.reqs ∧ t.counters = s.counters ∧ t.hank = s.hank ∧
      t.distaff = s.distaff ∧ t.func = s.func ∧ t.store = s.store ∧ t.core = s.core ∧ t.spool = s.spool ∧
      t.emergency = s.emergency ∧ t.lanes = s.lanes ∧ t.tally = s.tally ∧ t.outs = s.outs ∧ t.strike = s.strike ∧
      t.gnss = s.gnss ∧ t.clock = s.clock ∧ t.sun = s.sun ∧ t.eth = s.eth ∧ t.skein = s.skein ∧ t.upd = s.upd ∧
      t.panel = s.panel ∧ t.sent = s.sent ∧ t.free = s.free ∧ t.pending = s.pending := by
  simp [setShaft]
@[simp] theorem frame_setSensor (p : Nat) (x : Sensor) (s : State) :
    let t := (setSensor p x s); t.sys = s.sys ∧ t.reqs = s.reqs ∧ t.counters = s.counters ∧ t.hank = s.hank ∧
      t.distaff = s.distaff ∧ t.func = s.func ∧ t.store = s.store ∧ t.core = s.core ∧ t.spool = s.spool ∧
      t.emergency = s.emergency ∧ t.lanes = s.lanes ∧ t.tally = s.tally ∧ t.outs = s.outs ∧ t.strike = s.strike ∧
      t.gnss = s.gnss ∧ t.clock = s.clock ∧ t.sun = s.sun ∧ t.eth = s.eth ∧ t.skein = s.skein ∧ t.upd = s.upd ∧
      t.panel = s.panel ∧ t.sent = s.sent ∧ t.free = s.free ∧ t.pending = s.pending := by
  simp [setSensor]
@[simp] theorem frame_frameError (port slot code : Nat) (s : State) :
    let t := (frameError port slot code s); t.sys = s.sys ∧ t.reqs = s.reqs ∧ t.hank = s.hank ∧ t.distaff = s.distaff ∧
      t.func = s.func ∧ t.store = s.store ∧ t.core = s.core ∧ t.spool = s.spool ∧ t.emergency = s.emergency ∧
      t.lanes = s.lanes ∧ t.tally = s.tally ∧ t.outs = s.outs ∧ t.strike = s.strike ∧ t.gnss = s.gnss ∧
      t.clock = s.clock ∧ t.sun = s.sun ∧ t.eth = s.eth ∧ t.panel = s.panel ∧ t.sent = s.sent ∧ t.free = s.free ∧
      t.pending = s.pending := by
  simp [frameError]
@[simp] theorem frame_frameError_upd (port slot code : Nat) (s : State) :
    (frameError port slot code s).upd = s.upd := by
  simp [frameError]
@[simp] theorem frame_portDark (port : Nat) (s : State) :
    let t := (portDark port s); t.sys = s.sys ∧ t.reqs = s.reqs ∧ t.counters = s.counters ∧ t.hank = s.hank ∧
      t.distaff = s.distaff ∧ t.func = s.func ∧ t.store = s.store ∧ t.spool = s.spool ∧ t.emergency = s.emergency ∧
      t.lanes = s.lanes ∧ t.tally = s.tally ∧ t.outs = s.outs ∧ t.inputs = s.inputs ∧ t.strike = s.strike ∧
      t.gnss = s.gnss ∧ t.clock = s.clock ∧ t.sun = s.sun ∧ t.eth = s.eth ∧ t.panel = s.panel ∧ t.sent = s.sent ∧
      t.free = s.free ∧ t.pending = s.pending := by
  unfold portDark; (repeat' split) <;> simp
@[simp] theorem frame_suppliesOff (s : State) :
    let t := (suppliesOff s); t.sys = s.sys ∧ t.reqs = s.reqs ∧ t.counters = s.counters ∧ t.hank = s.hank ∧
      t.distaff = s.distaff ∧ t.func = s.func ∧ t.store = s.store ∧ t.spool = s.spool ∧ t.emergency = s.emergency ∧
      t.lanes = s.lanes ∧ t.outs = s.outs ∧ t.strike = s.strike ∧ t.gnss = s.gnss ∧ t.clock = s.clock ∧ t.sun = s.sun ∧
      t.eth = s.eth ∧ t.panel = s.panel ∧ t.sent = s.sent ∧ t.free = s.free ∧ t.pending = s.pending := by
  unfold suppliesOff; dsimp only; (repeat' split) <;> simp (disch := (intros; (repeat' split) <;> simp))
@[simp] theorem frame_setStk (n : Nat) (x : StkCh) (s : State) :
    let t := (setStk n x s); t.sys = s.sys ∧ t.reqs = s.reqs ∧ t.counters = s.counters ∧ t.hank = s.hank ∧
      t.distaff = s.distaff ∧ t.func = s.func ∧ t.store = s.store ∧ t.core = s.core ∧ t.spool = s.spool ∧
      t.emergency = s.emergency ∧ t.lanes = s.lanes ∧ t.tally = s.tally ∧ t.outs = s.outs ∧ t.inputs = s.inputs ∧
      t.gnss = s.gnss ∧ t.clock = s.clock ∧ t.sun = s.sun ∧ t.eth = s.eth ∧ t.skein = s.skein ∧ t.upd = s.upd ∧
      t.panel = s.panel ∧ t.sent = s.sent ∧ t.free = s.free ∧ t.pending = s.pending := by
  simp [setStk]
@[simp] theorem frame_startStrike (s : State) :
    let t := (startStrike s); t.sys = s.sys ∧ t.reqs = s.reqs ∧ t.counters = s.counters ∧ t.hank = s.hank ∧
      t.distaff = s.distaff ∧ t.func = s.func ∧ t.store = s.store ∧ t.core = s.core ∧ t.spool = s.spool ∧
      t.emergency = s.emergency ∧ t.lanes = s.lanes ∧ t.tally = s.tally ∧ t.outs = s.outs ∧ t.inputs = s.inputs ∧
      t.gnss = s.gnss ∧ t.clock = s.clock ∧ t.sun = s.sun ∧ t.eth = s.eth ∧ t.skein = s.skein ∧ t.upd = s.upd ∧
      t.panel = s.panel ∧ t.sent = s.sent ∧ t.free = s.free ∧ t.pending = s.pending := by
  simp [startStrike]
@[simp] theorem frame_setBin (b : StkBin) (s : State) :
    let t := (setBin b s); t.sys = s.sys ∧ t.reqs = s.reqs ∧ t.counters = s.counters ∧ t.hank = s.hank ∧
      t.distaff = s.distaff ∧ t.func = s.func ∧ t.store = s.store ∧ t.core = s.core ∧ t.spool = s.spool ∧
      t.emergency = s.emergency ∧ t.lanes = s.lanes ∧ t.tally = s.tally ∧ t.outs = s.outs ∧ t.inputs = s.inputs ∧
      t.gnss = s.gnss ∧ t.clock = s.clock ∧ t.sun = s.sun ∧ t.eth = s.eth ∧ t.skein = s.skein ∧ t.upd = s.upd ∧
      t.panel = s.panel ∧ t.sent = s.sent ∧ t.free = s.free ∧ t.pending = s.pending := by
  simp [setBin]
@[simp] theorem frame_countStrike (ch cls : Nat) (stamp : Time) (s : State) :
    let t := (countStrike ch cls stamp s); t.sys = s.sys ∧ t.reqs = s.reqs ∧ t.counters = s.counters ∧
      t.hank = s.hank ∧ t.distaff = s.distaff ∧ t.func = s.func ∧ t.store = s.store ∧ t.core = s.core ∧
      t.spool = s.spool ∧ t.emergency = s.emergency ∧ t.lanes = s.lanes ∧ t.tally = s.tally ∧ t.outs = s.outs ∧
      t.inputs = s.inputs ∧ t.gnss = s.gnss ∧ t.clock = s.clock ∧ t.sun = s.sun ∧ t.eth = s.eth ∧ t.skein = s.skein ∧
      t.upd = s.upd ∧ t.panel = s.panel ∧ t.sent = s.sent ∧ t.free = s.free ∧ t.pending = s.pending := by
  unfold countStrike; dsimp only; (repeat' split) <;> simp
@[simp] theorem frame_loseBin (s : State) :
    let t := (loseBin s); t.sys = s.sys ∧ t.reqs = s.reqs ∧ t.hank = s.hank ∧ t.distaff = s.distaff ∧ t.func = s.func ∧
      t.store = s.store ∧ t.core = s.core ∧ t.spool = s.spool ∧ t.emergency = s.emergency ∧ t.lanes = s.lanes ∧
      t.tally = s.tally ∧ t.outs = s.outs ∧ t.inputs = s.inputs ∧ t.gnss = s.gnss ∧ t.clock = s.clock ∧ t.sun = s.sun ∧
      t.eth = s.eth ∧ t.panel = s.panel ∧ t.sent = s.sent ∧ t.free = s.free ∧ t.pending = s.pending := by
  simp [loseBin]
@[simp] theorem frame_loseBin_upd (s : State) :
    (loseBin s).upd = s.upd := by
  simp [loseBin]
@[simp] theorem frame_pushBin (stamp : Time) (bytes : List Byte) (s : State) :
    let t := (pushBin stamp bytes s); t.sys = s.sys ∧ t.reqs = s.reqs ∧ t.hank = s.hank ∧ t.distaff = s.distaff ∧
      t.func = s.func ∧ t.store = s.store ∧ t.spool = s.spool ∧ t.emergency = s.emergency ∧ t.lanes = s.lanes ∧
      t.tally = s.tally ∧ t.outs = s.outs ∧ t.inputs = s.inputs ∧ t.gnss = s.gnss ∧ t.clock = s.clock ∧ t.sun = s.sun ∧
      t.eth = s.eth ∧ t.panel = s.panel ∧ t.sent = s.sent ∧ t.free = s.free ∧ t.pending = s.pending := by
  unfold pushBin; dsimp only; (repeat' split) <;> simp
@[simp] theorem frame_pushBin_upd (stamp : Time) (bytes : List Byte) (s : State) :
    (pushBin stamp bytes s).upd = s.upd := by
  unfold pushBin; dsimp only; (repeat' split) <;> simp
@[simp] theorem frame_writeRate (stamp : Time) (o : RateDecl) (s : State) :
    let t := (writeRate stamp o s); t.sys = s.sys ∧ t.reqs = s.reqs ∧ t.hank = s.hank ∧ t.distaff = s.distaff ∧
      t.func = s.func ∧ t.store = s.store ∧ t.spool = s.spool ∧ t.emergency = s.emergency ∧ t.lanes = s.lanes ∧
      t.tally = s.tally ∧ t.outs = s.outs ∧ t.inputs = s.inputs ∧ t.strike = s.strike ∧ t.gnss = s.gnss ∧
      t.clock = s.clock ∧ t.sun = s.sun ∧ t.eth = s.eth ∧ t.panel = s.panel ∧ t.sent = s.sent ∧ t.free = s.free ∧
      t.pending = s.pending := by
  dsimp only; unfold writeRate; (repeat' split) <;> simp
@[simp] theorem frame_markFaults (ch j : Nat) (n_ : Nat) (s : State) :
    let t := (markFaults ch j n_ s); t.sys = s.sys ∧ t.reqs = s.reqs ∧ t.counters = s.counters ∧ t.hank = s.hank ∧
      t.distaff = s.distaff ∧ t.func = s.func ∧ t.store = s.store ∧ t.core = s.core ∧ t.spool = s.spool ∧
      t.emergency = s.emergency ∧ t.lanes = s.lanes ∧ t.tally = s.tally ∧ t.outs = s.outs ∧ t.inputs = s.inputs ∧
      t.gnss = s.gnss ∧ t.clock = s.clock ∧ t.sun = s.sun ∧ t.eth = s.eth ∧ t.skein = s.skein ∧ t.upd = s.upd ∧
      t.panel = s.panel ∧ t.sent = s.sent ∧ t.free = s.free ∧ t.pending = s.pending := by
  induction n_ generalizing ch j s with
  | zero => simp [markFaults]
  | succ n ih => simp [markFaults, ih]
@[simp] theorem frame_setPlySrc (n : Nat) (x : PlySrcSt) (s : State) :
    let t := (setPlySrc n x s); t.sys = s.sys ∧ t.reqs = s.reqs ∧ t.counters = s.counters ∧ t.hank = s.hank ∧
      t.distaff = s.distaff ∧ t.func = s.func ∧ t.store = s.store ∧ t.spool = s.spool ∧ t.emergency = s.emergency ∧
      t.lanes = s.lanes ∧ t.tally = s.tally ∧ t.outs = s.outs ∧ t.inputs = s.inputs ∧ t.strike = s.strike ∧
      t.gnss = s.gnss ∧ t.clock = s.clock ∧ t.sun = s.sun ∧ t.eth = s.eth ∧ t.skein = s.skein ∧ t.upd = s.upd ∧
      t.panel = s.panel ∧ t.sent = s.sent ∧ t.free = s.free ∧ t.pending = s.pending := by
  simp [setPlySrc]
@[simp] theorem frame_setPly (p : PlySt) (s : State) :
    let t := (setPly p s); t.sys = s.sys ∧ t.reqs = s.reqs ∧ t.counters = s.counters ∧ t.hank = s.hank ∧
      t.distaff = s.distaff ∧ t.func = s.func ∧ t.store = s.store ∧ t.spool = s.spool ∧ t.emergency = s.emergency ∧
      t.lanes = s.lanes ∧ t.tally = s.tally ∧ t.outs = s.outs ∧ t.inputs = s.inputs ∧ t.strike = s.strike ∧
      t.gnss = s.gnss ∧ t.clock = s.clock ∧ t.sun = s.sun ∧ t.eth = s.eth ∧ t.skein = s.skein ∧ t.upd = s.upd ∧
      t.panel = s.panel ∧ t.sent = s.sent ∧ t.free = s.free ∧ t.pending = s.pending := by
  simp [setPly]
@[simp] theorem frame_alignRecord (n : Nat) (was now : Bool) (s : State) :
    let t := (alignRecord n was now s); t.sys = s.sys ∧ t.reqs = s.reqs ∧ t.counters = s.counters ∧ t.hank = s.hank ∧
      t.distaff = s.distaff ∧ t.func = s.func ∧ t.store = s.store ∧ t.core = s.core ∧ t.spool = s.spool ∧
      t.emergency = s.emergency ∧ t.lanes = s.lanes ∧ t.tally = s.tally ∧ t.outs = s.outs ∧ t.inputs = s.inputs ∧
      t.strike = s.strike ∧ t.gnss = s.gnss ∧ t.clock = s.clock ∧ t.sun = s.sun ∧ t.eth = s.eth ∧ t.panel = s.panel ∧
      t.sent = s.sent ∧ t.free = s.free ∧ t.pending = s.pending := by
  dsimp only; unfold alignRecord; (repeat' split) <;> simp
@[simp] theorem frame_alignRecord_upd (n : Nat) (was now : Bool) (s : State) :
    (alignRecord n was now s).upd = s.upd := by
  unfold alignRecord; (repeat' split) <;> simp
@[simp] theorem frame_plyLand (n : Nat) (d : PlySource) (x : PlySample) (s : State) :
    let t := (plyLand n d x s); t.sys = s.sys ∧ t.reqs = s.reqs ∧ t.hank = s.hank ∧ t.distaff = s.distaff ∧
      t.func = s.func ∧ t.store = s.store ∧ t.spool = s.spool ∧ t.emergency = s.emergency ∧ t.lanes = s.lanes ∧
      t.tally = s.tally ∧ t.outs = s.outs ∧ t.inputs = s.inputs ∧ t.strike = s.strike ∧ t.gnss = s.gnss ∧
      t.clock = s.clock ∧ t.sun = s.sun ∧ t.eth = s.eth ∧ t.panel = s.panel ∧ t.sent = s.sent ∧ t.free = s.free ∧
      t.pending = s.pending := by
  unfold plyLand; dsimp only; (repeat' split) <;> simp
@[simp] theorem frame_plyEntry (n : Nat) (d : PlySource) (e : BobEntry) (s : State) :
    let t := (plyEntry n d e s); t.sys = s.sys ∧ t.reqs = s.reqs ∧ t.hank = s.hank ∧ t.distaff = s.distaff ∧
      t.func = s.func ∧ t.store = s.store ∧ t.spool = s.spool ∧ t.emergency = s.emergency ∧ t.lanes = s.lanes ∧
      t.tally = s.tally ∧ t.outs = s.outs ∧ t.inputs = s.inputs ∧ t.strike = s.strike ∧ t.gnss = s.gnss ∧
      t.clock = s.clock ∧ t.sun = s.sun ∧ t.eth = s.eth ∧ t.panel = s.panel ∧ t.sent = s.sent ∧ t.free = s.free ∧
      t.pending = s.pending := by
  unfold plyEntry; dsimp only; (repeat' split) <;> simp
@[simp] theorem frame_freeWords (n_ : Nat) (s : State) :
    let t := (freeWords n_ s).2; t.sys = s.sys ∧ t.reqs = s.reqs ∧ t.counters = s.counters ∧ t.hank = s.hank ∧
      t.distaff = s.distaff ∧ t.func = s.func ∧ t.store = s.store ∧ t.core = s.core ∧ t.spool = s.spool ∧
      t.emergency = s.emergency ∧ t.lanes = s.lanes ∧ t.tally = s.tally ∧ t.outs = s.outs ∧ t.inputs = s.inputs ∧
      t.strike = s.strike ∧ t.gnss = s.gnss ∧ t.clock = s.clock ∧ t.sun = s.sun ∧ t.eth = s.eth ∧ t.skein = s.skein ∧
      t.upd = s.upd ∧ t.panel = s.panel ∧ t.sent = s.sent ∧ t.pending = s.pending := by
  induction n_ generalizing s with
  | zero => simp [freeWords]
  | succ n ih => simp [freeWords, ih]
@[simp] theorem frame_gateFails (d : PlySource) (v noise : Word) (s : State) :
    let t := (gateFails d v noise s).2; t.sys = s.sys ∧ t.reqs = s.reqs ∧ t.counters = s.counters ∧ t.hank = s.hank ∧
      t.distaff = s.distaff ∧ t.func = s.func ∧ t.store = s.store ∧ t.core = s.core ∧ t.spool = s.spool ∧
      t.emergency = s.emergency ∧ t.lanes = s.lanes ∧ t.tally = s.tally ∧ t.outs = s.outs ∧ t.inputs = s.inputs ∧
      t.strike = s.strike ∧ t.gnss = s.gnss ∧ t.clock = s.clock ∧ t.sun = s.sun ∧ t.eth = s.eth ∧ t.skein = s.skein ∧
      t.upd = s.upd ∧ t.panel = s.panel ∧ t.sent = s.sent ∧ t.pending = s.pending := by
  dsimp only; unfold gateFails; (repeat' split) <;> simp
@[simp] theorem frame_gateSource (n : Nat) (d : PlySource) (fails : Bool) (s : State) :
    let t := (gateSource n d fails s); t.sys = s.sys ∧ t.reqs = s.reqs ∧ t.hank = s.hank ∧ t.distaff = s.distaff ∧
      t.func = s.func ∧ t.store = s.store ∧ t.spool = s.spool ∧ t.emergency = s.emergency ∧ t.lanes = s.lanes ∧
      t.tally = s.tally ∧ t.outs = s.outs ∧ t.inputs = s.inputs ∧ t.strike = s.strike ∧ t.gnss = s.gnss ∧
      t.clock = s.clock ∧ t.sun = s.sun ∧ t.eth = s.eth ∧ t.panel = s.panel ∧ t.sent = s.sent ∧ t.free = s.free ∧
      t.pending = s.pending := by
  unfold gateSource; dsimp only; (repeat' split) <;> simp
@[simp] theorem frame_gateSource_upd (n : Nat) (d : PlySource) (fails : Bool) (s : State) :
    (gateSource n d fails s).upd = s.upd := by
  unfold gateSource; dsimp only; (repeat' split) <;> simp
@[simp] theorem frame_landSource (tk : Time) (d : PlySource) (st : SigStatus) (vs : Option (List Word)) (s : State) :
    let t := (landSource tk d st vs s); t.sys = s.sys ∧ t.reqs = s.reqs ∧ t.hank = s.hank ∧ t.distaff = s.distaff ∧
      t.func = s.func ∧ t.store = s.store ∧ t.spool = s.spool ∧ t.emergency = s.emergency ∧ t.lanes = s.lanes ∧
      t.tally = s.tally ∧ t.outs = s.outs ∧ t.inputs = s.inputs ∧ t.strike = s.strike ∧ t.gnss = s.gnss ∧
      t.clock = s.clock ∧ t.sun = s.sun ∧ t.eth = s.eth ∧ t.panel = s.panel ∧ t.sent = s.sent ∧ t.free = s.free ∧
      t.pending = s.pending := by
  dsimp only; unfold landSource; (repeat' split) <;> simp (disch := (intros; (repeat' split) <;> simp))
@[simp] theorem frame_unalignedValues (d : PlySource) (una : Bool) (vs : Option (List Word)) (s : State) :
    let t := (unalignedValues d una vs s).2; t.sys = s.sys ∧ t.reqs = s.reqs ∧ t.counters = s.counters ∧
      t.hank = s.hank ∧ t.distaff = s.distaff ∧ t.func = s.func ∧ t.store = s.store ∧ t.core = s.core ∧
      t.spool = s.spool ∧ t.emergency = s.emergency ∧ t.lanes = s.lanes ∧ t.tally = s.tally ∧ t.outs = s.outs ∧
      t.inputs = s.inputs ∧ t.strike = s.strike ∧ t.gnss = s.gnss ∧ t.clock = s.clock ∧ t.sun = s.sun ∧ t.eth = s.eth ∧
      t.skein = s.skein ∧ t.upd = s.upd ∧ t.panel = s.panel ∧ t.sent = s.sent ∧ t.pending = s.pending := by
  unfold unalignedValues; dsimp only; (repeat' split) <;> simp
@[simp] theorem frame_filterEpoch (gnss : Bool) (s : State) :
    let t := (filterEpoch gnss s); t.sys = s.sys ∧ t.reqs = s.reqs ∧ t.counters = s.counters ∧ t.hank = s.hank ∧
      t.distaff = s.distaff ∧ t.func = s.func ∧ t.store = s.store ∧ t.spool = s.spool ∧ t.emergency = s.emergency ∧
      t.lanes = s.lanes ∧ t.tally = s.tally ∧ t.outs = s.outs ∧ t.inputs = s.inputs ∧ t.strike = s.strike ∧
      t.gnss = s.gnss ∧ t.clock = s.clock ∧ t.sun = s.sun ∧ t.eth = s.eth ∧ t.skein = s.skein ∧ t.upd = s.upd ∧
      t.panel = s.panel ∧ t.sent = s.sent ∧ t.pending = s.pending := by
  simp [filterEpoch]
@[simp] theorem frame_turnPrimary (s : State) :
    let t := (turnPrimary s); t.sys = s.sys ∧ t.reqs = s.reqs ∧ t.counters = s.counters ∧ t.hank = s.hank ∧
      t.distaff = s.distaff ∧ t.func = s.func ∧ t.store = s.store ∧ t.spool = s.spool ∧ t.emergency = s.emergency ∧
      t.lanes = s.lanes ∧ t.tally = s.tally ∧ t.outs = s.outs ∧ t.inputs = s.inputs ∧ t.strike = s.strike ∧
      t.gnss = s.gnss ∧ t.clock = s.clock ∧ t.sun = s.sun ∧ t.eth = s.eth ∧ t.skein = s.skein ∧ t.upd = s.upd ∧
      t.panel = s.panel ∧ t.sent = s.sent ∧ t.free = s.free ∧ t.pending = s.pending := by
  unfold turnPrimary; dsimp only; (repeat' split) <;> simp
@[simp] theorem frame_sendAiding (tk : Time) (st : SigStatus) (s : State) :
    let t := (sendAiding tk st s); t.sys = s.sys ∧ t.reqs = s.reqs ∧ t.counters = s.counters ∧ t.hank = s.hank ∧
      t.distaff = s.distaff ∧ t.func = s.func ∧ t.store = s.store ∧ t.spool = s.spool ∧ t.emergency = s.emergency ∧
      t.lanes = s.lanes ∧ t.tally = s.tally ∧ t.outs = s.outs ∧ t.inputs = s.inputs ∧ t.strike = s.strike ∧
      t.clock = s.clock ∧ t.sun = s.sun ∧ t.eth = s.eth ∧ t.skein = s.skein ∧ t.upd = s.upd ∧ t.panel = s.panel ∧
      t.pending = s.pending := by
  unfold sendAiding; dsimp only; (repeat' split) <;> simp
@[simp] theorem frame_appendPose (e : PoseEntry) (s : State) :
    let t := (appendPose e s); t.sys = s.sys ∧ t.reqs = s.reqs ∧ t.counters = s.counters ∧ t.hank = s.hank ∧
      t.distaff = s.distaff ∧ t.func = s.func ∧ t.store = s.store ∧ t.core = s.core ∧ t.emergency = s.emergency ∧
      t.lanes = s.lanes ∧ t.tally = s.tally ∧ t.outs = s.outs ∧ t.inputs = s.inputs ∧ t.strike = s.strike ∧
      t.gnss = s.gnss ∧ t.clock = s.clock ∧ t.sun = s.sun ∧ t.eth = s.eth ∧ t.skein = s.skein ∧ t.upd = s.upd ∧
      t.panel = s.panel ∧ t.sent = s.sent ∧ t.free = s.free ∧ t.pending = s.pending := by
  simp [appendPose]
@[simp] theorem frame_appendFrom (p : Nat) (n_ : Nat) (s : State) :
    let t := (appendFrom p n_ s); t.sys = s.sys ∧ t.reqs = s.reqs ∧ t.counters = s.counters ∧ t.hank = s.hank ∧
      t.distaff = s.distaff ∧ t.func = s.func ∧ t.store = s.store ∧ t.core = s.core ∧ t.emergency = s.emergency ∧
      t.lanes = s.lanes ∧ t.tally = s.tally ∧ t.outs = s.outs ∧ t.inputs = s.inputs ∧ t.strike = s.strike ∧
      t.gnss = s.gnss ∧ t.clock = s.clock ∧ t.sun = s.sun ∧ t.eth = s.eth ∧ t.skein = s.skein ∧ t.upd = s.upd ∧
      t.panel = s.panel ∧ t.sent = s.sent ∧ t.pending = s.pending := by
  induction n_ generalizing p s with
  | zero => simp [appendFrom]
  | succ n ih => unfold appendFrom; dsimp only; (repeat' split) <;> simp [ih]
@[simp] theorem frame_setYield (n : Nat) (x : YieldSt) (s : State) :
    let t := (setYield n x s); t.sys = s.sys ∧ t.reqs = s.reqs ∧ t.counters = s.counters ∧ t.hank = s.hank ∧
      t.distaff = s.distaff ∧ t.func = s.func ∧ t.store = s.store ∧ t.spool = s.spool ∧ t.emergency = s.emergency ∧
      t.lanes = s.lanes ∧ t.tally = s.tally ∧ t.outs = s.outs ∧ t.inputs = s.inputs ∧ t.strike = s.strike ∧
      t.gnss = s.gnss ∧ t.clock = s.clock ∧ t.sun = s.sun ∧ t.eth = s.eth ∧ t.skein = s.skein ∧ t.upd = s.upd ∧
      t.panel = s.panel ∧ t.sent = s.sent ∧ t.free = s.free ∧ t.pending = s.pending := by
  simp [setYield]
@[simp] theorem frame_sumFlow (n : Nat) (d : YieldDecl) (n_ : Nat) (s : State) :
    let t := (sumFlow n d n_ s); t.sys = s.sys ∧ t.reqs = s.reqs ∧ t.counters = s.counters ∧ t.hank = s.hank ∧
      t.distaff = s.distaff ∧ t.func = s.func ∧ t.store = s.store ∧ t.spool = s.spool ∧ t.emergency = s.emergency ∧
      t.lanes = s.lanes ∧ t.tally = s.tally ∧ t.outs = s.outs ∧ t.inputs = s.inputs ∧ t.strike = s.strike ∧
      t.gnss = s.gnss ∧ t.clock = s.clock ∧ t.sun = s.sun ∧ t.eth = s.eth ∧ t.panel = s.panel ∧ t.sent = s.sent ∧
      t.pending = s.pending := by
  induction n_ generalizing n d s with
  | zero => simp [sumFlow]
  | succ k ih => unfold sumFlow; dsimp only; (repeat' split) <;> simp [ih]
@[simp] theorem frame_readTau (n : Nat) (d : YieldDecl) (at_ : Time) (s : State) :
    let t := (readTau n d at_ s).2.2; t.sys = s.sys ∧ t.reqs = s.reqs ∧ t.counters = s.counters ∧ t.hank = s.hank ∧
      t.distaff = s.distaff ∧ t.func = s.func ∧ t.store = s.store ∧ t.spool = s.spool ∧ t.emergency = s.emergency ∧
      t.lanes = s.lanes ∧ t.tally = s.tally ∧ t.outs = s.outs ∧ t.inputs = s.inputs ∧ t.strike = s.strike ∧
      t.gnss = s.gnss ∧ t.clock = s.clock ∧ t.sun = s.sun ∧ t.eth = s.eth ∧ t.panel = s.panel ∧ t.sent = s.sent ∧
      t.pending = s.pending := by
  unfold readTau; dsimp only; (repeat' split) <;> simp
@[simp] theorem frame_setCan (n : Nat) (x : CanSt) (s : State) :
    let t := (setCan n x s); t.sys = s.sys ∧ t.reqs = s.reqs ∧ t.counters = s.counters ∧ t.hank = s.hank ∧
      t.distaff = s.distaff ∧ t.func = s.func ∧ t.store = s.store ∧ t.spool = s.spool ∧ t.emergency = s.emergency ∧
      t.lanes = s.lanes ∧ t.tally = s.tally ∧ t.outs = s.outs ∧ t.inputs = s.inputs ∧ t.strike = s.strike ∧
      t.gnss = s.gnss ∧ t.clock = s.clock ∧ t.sun = s.sun ∧ t.eth = s.eth ∧ t.skein = s.skein ∧ t.upd = s.upd ∧
      t.panel = s.panel ∧ t.sent = s.sent ∧ t.free = s.free ∧ t.pending = s.pending := by
  simp [setCan]
@[simp] theorem frame_canBump (n offset : Nat) (s : State) :
    let t := (canBump n offset s); t.sys = s.sys ∧ t.reqs = s.reqs ∧ t.hank = s.hank ∧ t.distaff = s.distaff ∧
      t.func = s.func ∧ t.store = s.store ∧ t.core = s.core ∧ t.spool = s.spool ∧ t.emergency = s.emergency ∧
      t.lanes = s.lanes ∧ t.tally = s.tally ∧ t.outs = s.outs ∧ t.inputs = s.inputs ∧ t.strike = s.strike ∧
      t.gnss = s.gnss ∧ t.clock = s.clock ∧ t.sun = s.sun ∧ t.eth = s.eth ∧ t.panel = s.panel ∧ t.sent = s.sent ∧
      t.free = s.free ∧ t.pending = s.pending := by
  simp [canBump]
@[simp] theorem frame_canBump_upd (n offset : Nat) (s : State) :
    (canBump n offset s).upd = s.upd := by
  simp [canBump]
@[simp] theorem frame_canPush (n b : Nat) (e : BobEntry) (s : State) :
    let t := (canPush n b e s); t.sys = s.sys ∧ t.reqs = s.reqs ∧ t.hank = s.hank ∧ t.distaff = s.distaff ∧
      t.func = s.func ∧ t.store = s.store ∧ t.spool = s.spool ∧ t.emergency = s.emergency ∧ t.lanes = s.lanes ∧
      t.tally = s.tally ∧ t.outs = s.outs ∧ t.inputs = s.inputs ∧ t.strike = s.strike ∧ t.gnss = s.gnss ∧
      t.clock = s.clock ∧ t.sun = s.sun ∧ t.eth = s.eth ∧ t.panel = s.panel ∧ t.sent = s.sent ∧ t.free = s.free ∧
      t.pending = s.pending := by
  unfold canPush; dsimp only; (repeat' split) <;> simp
@[simp] theorem frame_canPush_upd (n b : Nat) (e : BobEntry) (s : State) :
    (canPush n b e s).upd = s.upd := by
  unfold canPush; dsimp only; (repeat' split) <;> simp
@[simp] theorem frame_extract (sof : Time) (data : List Byte) (l : List CanField) (s : State) :
    let t := (extract sof data l s); t.sys = s.sys ∧ t.reqs = s.reqs ∧ t.hank = s.hank ∧ t.distaff = s.distaff ∧
      t.func = s.func ∧ t.store = s.store ∧ t.spool = s.spool ∧ t.emergency = s.emergency ∧ t.lanes = s.lanes ∧
      t.tally = s.tally ∧ t.outs = s.outs ∧ t.inputs = s.inputs ∧ t.strike = s.strike ∧ t.gnss = s.gnss ∧
      t.clock = s.clock ∧ t.sun = s.sun ∧ t.eth = s.eth ∧ t.panel = s.panel ∧ t.sent = s.sent ∧ t.free = s.free ∧
      t.pending = s.pending := by
  dsimp only; unfold extract; (repeat' split) <;> simp (disch := (intros; (repeat' split) <;> simp))
@[simp] theorem frame_runFilter (n k : Nat) (sof : Time) (d : CanFilter) (f : CanFrame) (s : State) :
    let t := (runFilter n k sof d f s); t.sys = s.sys ∧ t.reqs = s.reqs ∧ t.hank = s.hank ∧ t.distaff = s.distaff ∧
      t.func = s.func ∧ t.store = s.store ∧ t.spool = s.spool ∧ t.emergency = s.emergency ∧ t.lanes = s.lanes ∧
      t.tally = s.tally ∧ t.outs = s.outs ∧ t.inputs = s.inputs ∧ t.strike = s.strike ∧ t.gnss = s.gnss ∧
      t.clock = s.clock ∧ t.sun = s.sun ∧ t.eth = s.eth ∧ t.panel = s.panel ∧ t.sent = s.sent ∧ t.free = s.free ∧
      t.pending = s.pending := by
  dsimp only; unfold runFilter; (repeat' split) <;> simp
@[simp] theorem frame_dropBufs (n : Nat) (s : State) :
    let t := (dropBufs n s); t.sys = s.sys ∧ t.reqs = s.reqs ∧ t.hank = s.hank ∧ t.distaff = s.distaff ∧
      t.func = s.func ∧ t.store = s.store ∧ t.spool = s.spool ∧ t.emergency = s.emergency ∧ t.lanes = s.lanes ∧
      t.tally = s.tally ∧ t.outs = s.outs ∧ t.inputs = s.inputs ∧ t.strike = s.strike ∧ t.gnss = s.gnss ∧
      t.clock = s.clock ∧ t.sun = s.sun ∧ t.eth = s.eth ∧ t.panel = s.panel ∧ t.sent = s.sent ∧ t.free = s.free ∧
      t.pending = s.pending := by
  simp [dropBufs]
@[simp] theorem frame_canRecover (n : Nat) (s : State) :
    let t := (canRecover n s); t.sys = s.sys ∧ t.reqs = s.reqs ∧ t.counters = s.counters ∧ t.hank = s.hank ∧
      t.distaff = s.distaff ∧ t.func = s.func ∧ t.store = s.store ∧ t.spool = s.spool ∧ t.emergency = s.emergency ∧
      t.lanes = s.lanes ∧ t.tally = s.tally ∧ t.outs = s.outs ∧ t.inputs = s.inputs ∧ t.strike = s.strike ∧
      t.gnss = s.gnss ∧ t.clock = s.clock ∧ t.sun = s.sun ∧ t.eth = s.eth ∧ t.skein = s.skein ∧ t.upd = s.upd ∧
      t.panel = s.panel ∧ t.sent = s.sent ∧ t.free = s.free ∧ t.pending = s.pending := by
  dsimp only; unfold canRecover; (repeat' split) <;> simp
@[simp] theorem frame_canListen (n : Nat) (on : Bool) (s : State) :
    let t := (canListen n on s); t.sys = s.sys ∧ t.reqs = s.reqs ∧ t.counters = s.counters ∧ t.hank = s.hank ∧
      t.distaff = s.distaff ∧ t.func = s.func ∧ t.store = s.store ∧ t.spool = s.spool ∧ t.emergency = s.emergency ∧
      t.lanes = s.lanes ∧ t.tally = s.tally ∧ t.outs = s.outs ∧ t.inputs = s.inputs ∧ t.strike = s.strike ∧
      t.gnss = s.gnss ∧ t.clock = s.clock ∧ t.sun = s.sun ∧ t.eth = s.eth ∧ t.skein = s.skein ∧ t.upd = s.upd ∧
      t.panel = s.panel ∧ t.sent = s.sent ∧ t.free = s.free ∧ t.pending = s.pending := by
  dsimp only; unfold canListen; (repeat' split) <;> simp
@[simp] theorem frame_canLeave (n : Nat) (s : State) :
    let t := (canLeave n s); t.sys = s.sys ∧ t.reqs = s.reqs ∧ t.hank = s.hank ∧ t.distaff = s.distaff ∧
      t.func = s.func ∧ t.store = s.store ∧ t.spool = s.spool ∧ t.emergency = s.emergency ∧ t.lanes = s.lanes ∧
      t.tally = s.tally ∧ t.outs = s.outs ∧ t.inputs = s.inputs ∧ t.strike = s.strike ∧ t.gnss = s.gnss ∧
      t.clock = s.clock ∧ t.sun = s.sun ∧ t.eth = s.eth ∧ t.panel = s.panel ∧ t.sent = s.sent ∧ t.free = s.free ∧
      t.pending = s.pending := by
  simp [canLeave]
@[simp] theorem frame_canLeaveAll (s : State) :
    let t := (canLeaveAll s); t.sys = s.sys ∧ t.reqs = s.reqs ∧ t.hank = s.hank ∧ t.distaff = s.distaff ∧
      t.func = s.func ∧ t.store = s.store ∧ t.spool = s.spool ∧ t.emergency = s.emergency ∧ t.lanes = s.lanes ∧
      t.tally = s.tally ∧ t.outs = s.outs ∧ t.inputs = s.inputs ∧ t.strike = s.strike ∧ t.gnss = s.gnss ∧
      t.clock = s.clock ∧ t.sun = s.sun ∧ t.eth = s.eth ∧ t.panel = s.panel ∧ t.sent = s.sent ∧ t.free = s.free ∧
      t.pending = s.pending := by
  simp [canLeaveAll]
@[simp] theorem frame_canReinit (n : Nat) (s : State) :
    let t := (canReinit n s); t.sys = s.sys ∧ t.reqs = s.reqs ∧ t.hank = s.hank ∧ t.distaff = s.distaff ∧
      t.func = s.func ∧ t.store = s.store ∧ t.spool = s.spool ∧ t.emergency = s.emergency ∧ t.lanes = s.lanes ∧
      t.tally = s.tally ∧ t.outs = s.outs ∧ t.inputs = s.inputs ∧ t.strike = s.strike ∧ t.gnss = s.gnss ∧
      t.clock = s.clock ∧ t.sun = s.sun ∧ t.eth = s.eth ∧ t.panel = s.panel ∧ t.sent = s.sent ∧ t.free = s.free ∧
      t.pending = s.pending := by
  dsimp only; unfold canReinit; (repeat' split) <;> simp
@[simp] theorem frame_setEthPort (p : Nat) (x : EthPort) (s : State) :
    let t := (setEthPort p x s); t.sys = s.sys ∧ t.reqs = s.reqs ∧ t.counters = s.counters ∧ t.hank = s.hank ∧
      t.distaff = s.distaff ∧ t.func = s.func ∧ t.store = s.store ∧ t.core = s.core ∧ t.spool = s.spool ∧
      t.emergency = s.emergency ∧ t.lanes = s.lanes ∧ t.tally = s.tally ∧ t.outs = s.outs ∧ t.inputs = s.inputs ∧
      t.strike = s.strike ∧ t.gnss = s.gnss ∧ t.clock = s.clock ∧ t.sun = s.sun ∧ t.skein = s.skein ∧ t.upd = s.upd ∧
      t.panel = s.panel ∧ t.sent = s.sent ∧ t.free = s.free ∧ t.pending = s.pending := by
  simp [setEthPort]
@[simp] theorem frame_ethBump (p offset : Nat) (s : State) :
    let t := (ethBump p offset s); t.sys = s.sys ∧ t.reqs = s.reqs ∧ t.hank = s.hank ∧ t.distaff = s.distaff ∧
      t.func = s.func ∧ t.store = s.store ∧ t.core = s.core ∧ t.spool = s.spool ∧ t.emergency = s.emergency ∧
      t.lanes = s.lanes ∧ t.tally = s.tally ∧ t.outs = s.outs ∧ t.inputs = s.inputs ∧ t.strike = s.strike ∧
      t.gnss = s.gnss ∧ t.clock = s.clock ∧ t.sun = s.sun ∧ t.eth = s.eth ∧ t.panel = s.panel ∧ t.sent = s.sent ∧
      t.free = s.free ∧ t.pending = s.pending := by
  simp [ethBump]
@[simp] theorem frame_ethBump_upd (p offset : Nat) (s : State) :
    (ethBump p offset s).upd = s.upd := by
  simp [ethBump]
@[simp] theorem frame_learn (p : Nat) (a : BitVec 48) (s : State) :
    let t := (learn p a s); t.sys = s.sys ∧ t.reqs = s.reqs ∧ t.counters = s.counters ∧ t.hank = s.hank ∧
      t.distaff = s.distaff ∧ t.func = s.func ∧ t.store = s.store ∧ t.core = s.core ∧ t.spool = s.spool ∧
      t.emergency = s.emergency ∧ t.lanes = s.lanes ∧ t.tally = s.tally ∧ t.outs = s.outs ∧ t.inputs = s.inputs ∧
      t.strike = s.strike ∧ t.gnss = s.gnss ∧ t.clock = s.clock ∧ t.sun = s.sun ∧ t.skein = s.skein ∧ t.upd = s.upd ∧
      t.panel = s.panel ∧ t.sent = s.sent ∧ t.free = s.free ∧ t.pending = s.pending := by
  unfold learn; dsimp only; (repeat' split) <;> simp
@[simp] theorem frame_ethEnqueue (p pcp : Nat) (f : EthFrame) (s : State) :
    let t := (ethEnqueue p pcp f s); t.sys = s.sys ∧ t.reqs = s.reqs ∧ t.hank = s.hank ∧ t.distaff = s.distaff ∧
      t.func = s.func ∧ t.store = s.store ∧ t.core = s.core ∧ t.spool = s.spool ∧ t.emergency = s.emergency ∧
      t.lanes = s.lanes ∧ t.tally = s.tally ∧ t.outs = s.outs ∧ t.inputs = s.inputs ∧ t.strike = s.strike ∧
      t.gnss = s.gnss ∧ t.clock = s.clock ∧ t.sun = s.sun ∧ t.panel = s.panel ∧ t.sent = s.sent ∧ t.free = s.free ∧
      t.pending = s.pending := by
  unfold ethEnqueue; dsimp only; (repeat' split) <;> simp
@[simp] theorem frame_ethEnqueue_upd (p pcp : Nat) (f : EthFrame) (s : State) :
    (ethEnqueue p pcp f s).upd = s.upd := by
  unfold ethEnqueue; dsimp only; (repeat' split) <;> simp
@[simp] theorem frame_toLane (pcp : Nat) (f : EthFrame) (s : State) :
    let t := (toLane pcp f s); t.sys = s.sys ∧ t.reqs = s.reqs ∧ t.hank = s.hank ∧ t.distaff = s.distaff ∧
      t.func = s.func ∧ t.store = s.store ∧ t.core = s.core ∧ t.spool = s.spool ∧ t.emergency = s.emergency ∧
      t.lanes = s.lanes ∧ t.tally = s.tally ∧ t.outs = s.outs ∧ t.inputs = s.inputs ∧ t.strike = s.strike ∧
      t.gnss = s.gnss ∧ t.clock = s.clock ∧ t.sun = s.sun ∧ t.panel = s.panel ∧ t.sent = s.sent ∧ t.free = s.free ∧
      t.pending = s.pending := by
  dsimp only; unfold toLane; (repeat' split) <;> simp
@[simp] theorem frame_toLane_upd (pcp : Nat) (f : EthFrame) (s : State) :
    (toLane pcp f s).upd = s.upd := by
  unfold toLane; (repeat' split) <;> simp
@[simp] theorem frame_flood (from_ vid pcp : Nat) (f : EthFrame) (s : State) :
    let t := (flood from_ vid pcp f s); t.sys = s.sys ∧ t.reqs = s.reqs ∧ t.hank = s.hank ∧ t.distaff = s.distaff ∧
      t.func = s.func ∧ t.store = s.store ∧ t.core = s.core ∧ t.spool = s.spool ∧ t.emergency = s.emergency ∧
      t.lanes = s.lanes ∧ t.tally = s.tally ∧ t.outs = s.outs ∧ t.inputs = s.inputs ∧ t.strike = s.strike ∧
      t.gnss = s.gnss ∧ t.clock = s.clock ∧ t.sun = s.sun ∧ t.panel = s.panel ∧ t.sent = s.sent ∧ t.free = s.free ∧
      t.pending = s.pending := by
  dsimp only; unfold flood; (repeat' split) <;> simp (disch := (intros; (repeat' split) <;> simp))
@[simp] theorem frame_flood_upd (from_ vid pcp : Nat) (f : EthFrame) (s : State) :
    (flood from_ vid pcp f s).upd = s.upd := by
  unfold flood; (repeat' split) <;> simp (disch := (intros; (repeat' split) <;> simp))
@[simp] theorem frame_ethDown (p : Nat) (s : State) :
    let t := (ethDown p s); t.sys = s.sys ∧ t.reqs = s.reqs ∧ t.hank = s.hank ∧ t.distaff = s.distaff ∧
      t.func = s.func ∧ t.store = s.store ∧ t.core = s.core ∧ t.spool = s.spool ∧ t.emergency = s.emergency ∧
      t.lanes = s.lanes ∧ t.tally = s.tally ∧ t.outs = s.outs ∧ t.inputs = s.inputs ∧ t.strike = s.strike ∧
      t.gnss = s.gnss ∧ t.clock = s.clock ∧ t.sun = s.sun ∧ t.panel = s.panel ∧ t.sent = s.sent ∧ t.free = s.free ∧
      t.pending = s.pending := by
  simp [ethDown]
@[simp] theorem frame_applyEth (s : State) :
    let t := (applyEth s); t.sys = s.sys ∧ t.reqs = s.reqs ∧ t.counters = s.counters ∧ t.hank = s.hank ∧
      t.distaff = s.distaff ∧ t.func = s.func ∧ t.store = s.store ∧ t.core = s.core ∧ t.spool = s.spool ∧
      t.emergency = s.emergency ∧ t.lanes = s.lanes ∧ t.tally = s.tally ∧ t.outs = s.outs ∧ t.inputs = s.inputs ∧
      t.strike = s.strike ∧ t.gnss = s.gnss ∧ t.clock = s.clock ∧ t.sun = s.sun ∧ t.skein = s.skein ∧ t.upd = s.upd ∧
      t.panel = s.panel ∧ t.sent = s.sent ∧ t.free = s.free ∧ t.pending = s.pending := by
  simp [applyEth]
@[simp] theorem frame_writeRecord (r : Record) (s : State) :
    let t := (writeRecord r s); t.sys = s.sys ∧ t.reqs = s.reqs ∧ t.hank = s.hank ∧ t.distaff = s.distaff ∧
      t.func = s.func ∧ t.store = s.store ∧ t.core = s.core ∧ t.spool = s.spool ∧ t.emergency = s.emergency ∧
      t.lanes = s.lanes ∧ t.tally = s.tally ∧ t.outs = s.outs ∧ t.inputs = s.inputs ∧ t.strike = s.strike ∧
      t.gnss = s.gnss ∧ t.clock = s.clock ∧ t.sun = s.sun ∧ t.eth = s.eth ∧ t.panel = s.panel ∧ t.sent = s.sent ∧
      t.free = s.free ∧ t.pending = s.pending := by
  dsimp only; unfold writeRecord; (repeat' split) <;> simp
@[simp] theorem frame_writeRecord_upd (r : Record) (s : State) :
    (writeRecord r s).upd = s.upd := by
  unfold writeRecord; (repeat' split) <;> simp
@[simp] theorem frame_newChallenge (s : State) :
    let t := (newChallenge s); t.sys = s.sys ∧ t.reqs = s.reqs ∧ t.counters = s.counters ∧ t.hank = s.hank ∧
      t.distaff = s.distaff ∧ t.func = s.func ∧ t.store = s.store ∧ t.core = s.core ∧ t.spool = s.spool ∧
      t.emergency = s.emergency ∧ t.lanes = s.lanes ∧ t.tally = s.tally ∧ t.outs = s.outs ∧ t.inputs = s.inputs ∧
      t.strike = s.strike ∧ t.gnss = s.gnss ∧ t.clock = s.clock ∧ t.sun = s.sun ∧ t.eth = s.eth ∧ t.upd = s.upd ∧
      t.panel = s.panel ∧ t.sent = s.sent ∧ t.pending = s.pending := by
  simp [newChallenge]
@[simp] theorem frame_startClear (s : State) :
    let t := (startClear s); t.sys = s.sys ∧ t.reqs = s.reqs ∧ t.hank = s.hank ∧ t.distaff = s.distaff ∧
      t.func = s.func ∧ t.store = s.store ∧ t.core = s.core ∧ t.spool = s.spool ∧ t.emergency = s.emergency ∧
      t.lanes = s.lanes ∧ t.tally = s.tally ∧ t.outs = s.outs ∧ t.inputs = s.inputs ∧ t.strike = s.strike ∧
      t.gnss = s.gnss ∧ t.clock = s.clock ∧ t.sun = s.sun ∧ t.eth = s.eth ∧ t.panel = s.panel ∧ t.sent = s.sent ∧
      t.free = s.free ∧ t.pending = s.pending := by
  unfold startClear; dsimp only; (repeat' split) <;> simp
@[simp] theorem frame_startClear_upd (s : State) :
    (startClear s).upd = s.upd := by
  unfold startClear; dsimp only; (repeat' split) <;> simp
@[simp] theorem frame_writeSknCtrl (v : Word) (s : State) :
    let t := (writeSknCtrl v s); t.sys = s.sys ∧ t.reqs = s.reqs ∧ t.hank = s.hank ∧ t.distaff = s.distaff ∧
      t.func = s.func ∧ t.store = s.store ∧ t.core = s.core ∧ t.spool = s.spool ∧ t.emergency = s.emergency ∧
      t.lanes = s.lanes ∧ t.tally = s.tally ∧ t.outs = s.outs ∧ t.inputs = s.inputs ∧ t.strike = s.strike ∧
      t.gnss = s.gnss ∧ t.clock = s.clock ∧ t.sun = s.sun ∧ t.eth = s.eth ∧ t.panel = s.panel ∧ t.sent = s.sent ∧
      t.pending = s.pending := by
  dsimp only; unfold writeSknCtrl; (repeat' split) <;> simp
@[simp] theorem frame_writeSknCtrl_upd (v : Word) (s : State) :
    (writeSknCtrl v s).upd = s.upd := by
  unfold writeSknCtrl; (repeat' split) <;> simp
@[simp] theorem frame_writeSknKey (n : Nat) (v : Word) (s : State) :
    let t := (writeSknKey n v s); t.sys = s.sys ∧ t.reqs = s.reqs ∧ t.counters = s.counters ∧ t.hank = s.hank ∧
      t.distaff = s.distaff ∧ t.func = s.func ∧ t.store = s.store ∧ t.core = s.core ∧ t.spool = s.spool ∧
      t.emergency = s.emergency ∧ t.lanes = s.lanes ∧ t.tally = s.tally ∧ t.outs = s.outs ∧ t.inputs = s.inputs ∧
      t.strike = s.strike ∧ t.gnss = s.gnss ∧ t.clock = s.clock ∧ t.sun = s.sun ∧ t.eth = s.eth ∧ t.panel = s.panel ∧
      t.sent = s.sent ∧ t.free = s.free ∧ t.pending = s.pending := by
  simp [writeSknKey]
@[simp] theorem frame_writeSknKey_upd (n : Nat) (v : Word) (s : State) :
    (writeSknKey n v s).upd = s.upd := by
  simp [writeSknKey]
@[simp] theorem frame_setPanel (p : Panel) (s : State) :
    let t := (setPanel p s); t.sys = s.sys ∧ t.reqs = s.reqs ∧ t.counters = s.counters ∧ t.hank = s.hank ∧
      t.distaff = s.distaff ∧ t.func = s.func ∧ t.store = s.store ∧ t.core = s.core ∧ t.spool = s.spool ∧
      t.emergency = s.emergency ∧ t.lanes = s.lanes ∧ t.tally = s.tally ∧ t.outs = s.outs ∧ t.inputs = s.inputs ∧
      t.strike = s.strike ∧ t.gnss = s.gnss ∧ t.clock = s.clock ∧ t.sun = s.sun ∧ t.eth = s.eth ∧ t.skein = s.skein ∧
      t.upd = s.upd ∧ t.sent = s.sent ∧ t.free = s.free ∧ t.pending = s.pending := by
  simp [setPanel]
@[simp] theorem frame_driveFrame (j : PanelJob) (s : State) :
    let t := (driveFrame j s); t.sys = s.sys ∧ t.reqs = s.reqs ∧ t.counters = s.counters ∧ t.hank = s.hank ∧
      t.distaff = s.distaff ∧ t.func = s.func ∧ t.store = s.store ∧ t.core = s.core ∧ t.spool = s.spool ∧
      t.emergency = s.emergency ∧ t.lanes = s.lanes ∧ t.tally = s.tally ∧ t.outs = s.outs ∧ t.inputs = s.inputs ∧
      t.strike = s.strike ∧ t.gnss = s.gnss ∧ t.clock = s.clock ∧ t.sun = s.sun ∧ t.eth = s.eth ∧ t.skein = s.skein ∧
      t.upd = s.upd ∧ t.sent = s.sent ∧ t.free = s.free ∧ t.pending = s.pending := by
  simp [driveFrame]
@[simp] theorem frame_addStress (j : PanelJob) (s : State) :
    let t := (addStress j s); t.sys = s.sys ∧ t.reqs = s.reqs ∧ t.counters = s.counters ∧ t.hank = s.hank ∧
      t.distaff = s.distaff ∧ t.func = s.func ∧ t.store = s.store ∧ t.core = s.core ∧ t.spool = s.spool ∧
      t.emergency = s.emergency ∧ t.lanes = s.lanes ∧ t.tally = s.tally ∧ t.outs = s.outs ∧ t.inputs = s.inputs ∧
      t.strike = s.strike ∧ t.gnss = s.gnss ∧ t.clock = s.clock ∧ t.sun = s.sun ∧ t.eth = s.eth ∧ t.skein = s.skein ∧
      t.upd = s.upd ∧ t.sent = s.sent ∧ t.free = s.free ∧ t.pending = s.pending := by
  dsimp only; unfold addStress; (repeat' split) <;> simp (disch := (intros; (repeat' split) <;> simp))
@[simp] theorem frame_storeRegion (j : PanelJob) (s : State) :
    let t := (storeRegion j s); t.sys = s.sys ∧ t.hank = s.hank ∧ t.distaff = s.distaff ∧ t.func = s.func ∧
      t.store = s.store ∧ t.spool = s.spool ∧ t.emergency = s.emergency ∧ t.strike = s.strike ∧ t.clock = s.clock ∧
      t.sun = s.sun ∧ t.eth = s.eth ∧ t.sent = s.sent ∧ t.free = s.free ∧ t.pending = s.pending := by
  simp [storeRegion]
@[simp] theorem frame_storeRegion_reqs (j : PanelJob) (s : State) :
    (storeRegion j s).reqs = s.reqs := by
  simp [storeRegion]
@[simp] theorem frame_storeRegion_upd (j : PanelJob) (s : State) :
    (storeRegion j s).upd = s.upd := by
  simp [storeRegion]
@[simp] theorem frame_wantRails (s : State) :
    let t := (wantRails s); t.sys = s.sys ∧ t.reqs = s.reqs ∧ t.distaff = s.distaff ∧ t.func = s.func ∧
      t.store = s.store ∧ t.spool = s.spool ∧ t.emergency = s.emergency ∧ t.strike = s.strike ∧ t.clock = s.clock ∧
      t.sun = s.sun ∧ t.eth = s.eth ∧ t.pending = s.pending := by
  unfold wantRails; dsimp only; (repeat' split) <;> simp
@[simp] theorem frame_startJob (j : PanelJob) (s : State) :
    let t := (startJob j s); t.sys = s.sys ∧ t.reqs = s.reqs ∧ t.hank = s.hank ∧ t.distaff = s.distaff ∧
      t.func = s.func ∧ t.store = s.store ∧ t.core = s.core ∧ t.spool = s.spool ∧ t.emergency = s.emergency ∧
      t.lanes = s.lanes ∧ t.tally = s.tally ∧ t.outs = s.outs ∧ t.inputs = s.inputs ∧ t.strike = s.strike ∧
      t.gnss = s.gnss ∧ t.clock = s.clock ∧ t.sun = s.sun ∧ t.eth = s.eth ∧ t.sent = s.sent ∧ t.free = s.free ∧
      t.pending = s.pending := by
  unfold startJob; dsimp only; (repeat' split) <;> simp
@[simp] theorem frame_startPending (l_ : List PanelJob) (l__ : List PanelJob) (s : State) :
    let t := (startPending l_ l__ s); t.sys = s.sys ∧ t.reqs = s.reqs ∧ t.hank = s.hank ∧ t.distaff = s.distaff ∧
      t.func = s.func ∧ t.store = s.store ∧ t.core = s.core ∧ t.spool = s.spool ∧ t.emergency = s.emergency ∧
      t.lanes = s.lanes ∧ t.tally = s.tally ∧ t.outs = s.outs ∧ t.inputs = s.inputs ∧ t.strike = s.strike ∧
      t.gnss = s.gnss ∧ t.clock = s.clock ∧ t.sun = s.sun ∧ t.eth = s.eth ∧ t.sent = s.sent ∧ t.free = s.free ∧
      t.pending = s.pending := by
  induction l__ generalizing l_ s with
  | nil => simp [startPending]
  | cons a l ih => unfold startPending; dsimp only; (repeat' split) <;> simp [ih]
@[simp] theorem frame_stepJob (j : PanelJob) (s : State) :
    let t := (stepJob j s); t.sys = s.sys ∧ t.reqs = s.reqs ∧ t.counters = s.counters ∧ t.hank = s.hank ∧
      t.distaff = s.distaff ∧ t.func = s.func ∧ t.store = s.store ∧ t.core = s.core ∧ t.spool = s.spool ∧
      t.emergency = s.emergency ∧ t.lanes = s.lanes ∧ t.tally = s.tally ∧ t.outs = s.outs ∧ t.inputs = s.inputs ∧
      t.strike = s.strike ∧ t.gnss = s.gnss ∧ t.clock = s.clock ∧ t.sun = s.sun ∧ t.eth = s.eth ∧ t.skein = s.skein ∧
      t.upd = s.upd ∧ t.sent = s.sent ∧ t.free = s.free ∧ t.pending = s.pending := by
  dsimp only; unfold stepJob; (repeat' split) <;> simp
@[simp] theorem frame_stepRecovery (j : PanelJob) (s : State) :
    let t := (stepRecovery j s); t.sys = s.sys ∧ t.reqs = s.reqs ∧ t.distaff = s.distaff ∧ t.func = s.func ∧
      t.store = s.store ∧ t.spool = s.spool ∧ t.emergency = s.emergency ∧ t.strike = s.strike ∧ t.clock = s.clock ∧
      t.sun = s.sun ∧ t.eth = s.eth ∧ t.pending = s.pending := by
  unfold stepRecovery; dsimp only; (repeat' split) <;> simp
@[simp] theorem frame_stepFrame (s : State) :
    let t := (stepFrame s); t.sys = s.sys ∧ t.reqs = s.reqs ∧ t.distaff = s.distaff ∧ t.func = s.func ∧
      t.store = s.store ∧ t.spool = s.spool ∧ t.emergency = s.emergency ∧ t.strike = s.strike ∧ t.clock = s.clock ∧
      t.sun = s.sun ∧ t.eth = s.eth ∧ t.pending = s.pending := by
  simp [stepFrame]
@[simp] theorem frame_railsOff (s : State) :
    let t := (railsOff s); t.sys = s.sys ∧ t.counters = s.counters ∧ t.hank = s.hank ∧ t.distaff = s.distaff ∧
      t.func = s.func ∧ t.store = s.store ∧ t.core = s.core ∧ t.spool = s.spool ∧ t.emergency = s.emergency ∧
      t.lanes = s.lanes ∧ t.outs = s.outs ∧ t.inputs = s.inputs ∧ t.strike = s.strike ∧ t.gnss = s.gnss ∧
      t.clock = s.clock ∧ t.sun = s.sun ∧ t.eth = s.eth ∧ t.skein = s.skein ∧ t.upd = s.upd ∧ t.sent = s.sent ∧
      t.free = s.free ∧ t.pending = s.pending := by
  simp [railsOff]
@[simp] theorem frame_railsOff_reqs (s : State) :
    (railsOff s).reqs = s.reqs := by
  simp [railsOff]
@[simp] theorem frame_panelAbandon (s : State) :
    let t := (panelAbandon s); t.sys = s.sys ∧ t.counters = s.counters ∧ t.hank = s.hank ∧ t.distaff = s.distaff ∧
      t.func = s.func ∧ t.store = s.store ∧ t.core = s.core ∧ t.spool = s.spool ∧ t.emergency = s.emergency ∧
      t.lanes = s.lanes ∧ t.outs = s.outs ∧ t.inputs = s.inputs ∧ t.strike = s.strike ∧ t.gnss = s.gnss ∧
      t.clock = s.clock ∧ t.sun = s.sun ∧ t.eth = s.eth ∧ t.skein = s.skein ∧ t.upd = s.upd ∧ t.sent = s.sent ∧
      t.free = s.free ∧ t.pending = s.pending := by
  simp [panelAbandon]
@[simp] theorem frame_panelAbandon_reqs (s : State) :
    (panelAbandon s).reqs = s.reqs := by
  simp [panelAbandon]
@[simp] theorem frame_clearJob (j : PanelJob) (s : State) :
    let t := (clearJob j s); t.sys = s.sys ∧ t.reqs = s.reqs ∧ t.counters = s.counters ∧ t.hank = s.hank ∧
      t.distaff = s.distaff ∧ t.func = s.func ∧ t.store = s.store ∧ t.core = s.core ∧ t.spool = s.spool ∧
      t.emergency = s.emergency ∧ t.lanes = s.lanes ∧ t.tally = s.tally ∧ t.outs = s.outs ∧ t.inputs = s.inputs ∧
      t.strike = s.strike ∧ t.gnss = s.gnss ∧ t.clock = s.clock ∧ t.sun = s.sun ∧ t.eth = s.eth ∧ t.skein = s.skein ∧
      t.upd = s.upd ∧ t.sent = s.sent ∧ t.free = s.free ∧ t.pending = s.pending := by
  simp [clearJob]
@[simp] theorem frame_keepStored (j : PanelJob) (s : State) :
    let t := (keepStored j s); t.sys = s.sys ∧ t.reqs = s.reqs ∧ t.counters = s.counters ∧ t.hank = s.hank ∧
      t.distaff = s.distaff ∧ t.func = s.func ∧ t.store = s.store ∧ t.core = s.core ∧ t.spool = s.spool ∧
      t.emergency = s.emergency ∧ t.lanes = s.lanes ∧ t.tally = s.tally ∧ t.outs = s.outs ∧ t.inputs = s.inputs ∧
      t.strike = s.strike ∧ t.gnss = s.gnss ∧ t.clock = s.clock ∧ t.sun = s.sun ∧ t.eth = s.eth ∧ t.skein = s.skein ∧
      t.upd = s.upd ∧ t.sent = s.sent ∧ t.free = s.free ∧ t.pending = s.pending := by
  simp [keepStored]
@[simp] theorem frame_panelRequest (pos : Word) (mode : BitVec 2) (w : BitVec 11) (h : BitVec 10) (s : State) :
    let t := (panelRequest pos mode w h s).2; t.sys = s.sys ∧ t.reqs = s.reqs ∧ t.distaff = s.distaff ∧
      t.func = s.func ∧ t.store = s.store ∧ t.spool = s.spool ∧ t.emergency = s.emergency ∧ t.strike = s.strike ∧
      t.clock = s.clock ∧ t.sun = s.sun ∧ t.eth = s.eth ∧ t.pending = s.pending := by
  unfold panelRequest; dsimp only; (repeat' split) <;> simp
@[simp] theorem frame_drawAsset (k : Nat) (s : State) :
    let t := (drawAsset k s); t.sys = s.sys ∧ t.reqs = s.reqs ∧ t.distaff = s.distaff ∧ t.func = s.func ∧
      t.store = s.store ∧ t.spool = s.spool ∧ t.emergency = s.emergency ∧ t.strike = s.strike ∧ t.clock = s.clock ∧
      t.sun = s.sun ∧ t.eth = s.eth ∧ t.pending = s.pending := by
  unfold drawAsset; dsimp only; (repeat' split) <;> simp
@[simp] theorem frame_setDegraded (on : Bool) (sev : Severity) (s : State) :
    let t := (setDegraded on sev s); t.sys = s.sys ∧ t.reqs = s.reqs ∧ t.counters = s.counters ∧ t.hank = s.hank ∧
      t.distaff = s.distaff ∧ t.func = s.func ∧ t.store = s.store ∧ t.core = s.core ∧ t.spool = s.spool ∧
      t.emergency = s.emergency ∧ t.lanes = s.lanes ∧ t.tally = s.tally ∧ t.outs = s.outs ∧ t.strike = s.strike ∧
      t.gnss = s.gnss ∧ t.clock = s.clock ∧ t.sun = s.sun ∧ t.eth = s.eth ∧ t.panel = s.panel ∧ t.sent = s.sent ∧
      t.free = s.free ∧ t.pending = s.pending := by
  dsimp only; unfold setDegraded; (repeat' split) <;> simp
@[simp] theorem frame_quarantineAll (p : Writer → Bool) (s : State) :
    let t := (quarantineAll p s); t.sys = s.sys ∧ t.reqs = s.reqs ∧ t.counters = s.counters ∧ t.hank = s.hank ∧
      t.distaff = s.distaff ∧ t.func = s.func ∧ t.store = s.store ∧ t.spool = s.spool ∧ t.emergency = s.emergency ∧
      t.lanes = s.lanes ∧ t.tally = s.tally ∧ t.outs = s.outs ∧ t.inputs = s.inputs ∧ t.strike = s.strike ∧
      t.gnss = s.gnss ∧ t.clock = s.clock ∧ t.sun = s.sun ∧ t.eth = s.eth ∧ t.panel = s.panel ∧ t.sent = s.sent ∧
      t.free = s.free ∧ t.pending = s.pending := by
  simp [quarantineAll]
@[simp] theorem frame_gnssStop (s : State) :
    let t := (gnssStop s); t.sys = s.sys ∧ t.reqs = s.reqs ∧ t.counters = s.counters ∧ t.hank = s.hank ∧
      t.distaff = s.distaff ∧ t.func = s.func ∧ t.store = s.store ∧ t.spool = s.spool ∧ t.emergency = s.emergency ∧
      t.lanes = s.lanes ∧ t.tally = s.tally ∧ t.outs = s.outs ∧ t.inputs = s.inputs ∧ t.strike = s.strike ∧
      t.clock = s.clock ∧ t.eth = s.eth ∧ t.panel = s.panel ∧ t.sent = s.sent ∧ t.free = s.free ∧ t.pending = s.pending := by
  simp [gnssStop]
@[simp] theorem frame_domainEffect (d : Nat) (src : ClkSrc) (s : State) :
    let t := (domainEffect d src s); t.sys = s.sys ∧ t.hank = s.hank ∧ t.distaff = s.distaff ∧ t.func = s.func ∧
      t.store = s.store ∧ t.spool = s.spool ∧ t.emergency = s.emergency ∧ t.lanes = s.lanes ∧ t.outs = s.outs ∧
      t.strike = s.strike ∧ t.clock = s.clock ∧ t.sent = s.sent ∧ t.free = s.free ∧ t.pending = s.pending := by
  unfold domainEffect; (repeat' split) <;> simp (disch := (intros; (repeat' split) <;> simp))
@[simp] theorem frame_domainEffect_reqs (d : Nat) (src : ClkSrc) (s : State) :
    (domainEffect d src s).reqs = s.reqs := by
  unfold domainEffect; (repeat' split) <;> simp (disch := (intros; (repeat' split) <;> simp))
@[simp] theorem frame_toSource (d : Nat) (src : ClkSrc) (s : State) :
    let t := (toSource d src s); t.sys = s.sys ∧ t.hank = s.hank ∧ t.distaff = s.distaff ∧ t.func = s.func ∧
      t.store = s.store ∧ t.spool = s.spool ∧ t.emergency = s.emergency ∧ t.lanes = s.lanes ∧ t.outs = s.outs ∧
      t.strike = s.strike ∧ t.sent = s.sent ∧ t.free = s.free ∧ t.pending = s.pending := by
  dsimp only; unfold toSource; (repeat' split) <;> simp
@[simp] theorem frame_toSource_reqs (d : Nat) (src : ClkSrc) (s : State) :
    (toSource d src s).reqs = s.reqs := by
  unfold toSource; (repeat' split) <;> simp
@[simp] theorem frame_writeClkSrc (v : Word) (s : State) :
    let t := (writeClkSrc v s); t.sys = s.sys ∧ t.hank = s.hank ∧ t.distaff = s.distaff ∧ t.func = s.func ∧
      t.store = s.store ∧ t.spool = s.spool ∧ t.emergency = s.emergency ∧ t.lanes = s.lanes ∧ t.outs = s.outs ∧
      t.strike = s.strike ∧ t.sent = s.sent ∧ t.free = s.free ∧ t.pending = s.pending := by
  dsimp only; unfold writeClkSrc; (repeat' split) <;> simp (disch := (intros; (repeat' split) <;> simp))
@[simp] theorem frame_lockDomains (refOk : Bool) (s : State) :
    let t := (lockDomains refOk s); t.sys = s.sys ∧ t.reqs = s.reqs ∧ t.hank = s.hank ∧ t.distaff = s.distaff ∧
      t.func = s.func ∧ t.store = s.store ∧ t.spool = s.spool ∧ t.emergency = s.emergency ∧ t.lanes = s.lanes ∧
      t.outs = s.outs ∧ t.strike = s.strike ∧ t.sent = s.sent ∧ t.pending = s.pending := by
  unfold lockDomains; dsimp only; (repeat' split) <;> simp
@[simp] theorem frame_endRise (n : Nat) (s : State) :
    let t := (endRise n s); t.sys = s.sys ∧ t.reqs = s.reqs ∧ t.counters = s.counters ∧ t.hank = s.hank ∧
      t.distaff = s.distaff ∧ t.func = s.func ∧ t.store = s.store ∧ t.core = s.core ∧ t.spool = s.spool ∧
      t.emergency = s.emergency ∧ t.lanes = s.lanes ∧ t.tally = s.tally ∧ t.inputs = s.inputs ∧ t.strike = s.strike ∧
      t.gnss = s.gnss ∧ t.clock = s.clock ∧ t.sun = s.sun ∧ t.eth = s.eth ∧ t.panel = s.panel ∧ t.sent = s.sent ∧
      t.free = s.free ∧ t.pending = s.pending := by
  unfold endRise; dsimp only; (repeat' split) <;> simp
@[simp] theorem frame_endRise_upd (n : Nat) (s : State) :
    (endRise n s).upd = s.upd := by
  unfold endRise; dsimp only; (repeat' split) <;> simp
@[simp] theorem frame_startHold (n : Nat) (s : State) :
    let t := (startHold n s); t.sys = s.sys ∧ t.reqs = s.reqs ∧ t.counters = s.counters ∧ t.hank = s.hank ∧
      t.distaff = s.distaff ∧ t.func = s.func ∧ t.store = s.store ∧ t.core = s.core ∧ t.spool = s.spool ∧
      t.emergency = s.emergency ∧ t.lanes = s.lanes ∧ t.tally = s.tally ∧ t.inputs = s.inputs ∧ t.strike = s.strike ∧
      t.gnss = s.gnss ∧ t.clock = s.clock ∧ t.sun = s.sun ∧ t.eth = s.eth ∧ t.skein = s.skein ∧ t.upd = s.upd ∧
      t.panel = s.panel ∧ t.sent = s.sent ∧ t.free = s.free ∧ t.pending = s.pending := by
  simp [startHold]
@[simp] theorem frame_clearSol (n : Nat) (s : State) :
    let t := (clearSol n s); t.sys = s.sys ∧ t.reqs = s.reqs ∧ t.counters = s.counters ∧ t.hank = s.hank ∧
      t.distaff = s.distaff ∧ t.func = s.func ∧ t.store = s.store ∧ t.core = s.core ∧ t.spool = s.spool ∧
      t.emergency = s.emergency ∧ t.lanes = s.lanes ∧ t.tally = s.tally ∧ t.inputs = s.inputs ∧ t.strike = s.strike ∧
      t.gnss = s.gnss ∧ t.clock = s.clock ∧ t.sun = s.sun ∧ t.eth = s.eth ∧ t.skein = s.skein ∧ t.upd = s.upd ∧
      t.panel = s.panel ∧ t.sent = s.sent ∧ t.free = s.free ∧ t.pending = s.pending := by
  simp [clearSol]
@[simp] theorem frame_failHealth (s : State) :
    let t := (failHealth s); t.emergency = s.emergency ∧ t.eth = s.eth ∧ t.pending = s.pending := by
  unfold failHealth; dsimp only; (repeat' split) <;> simp
@[simp] theorem frame_confirmTrial (s : State) :
    let t := (confirmTrial s); t.sys = s.sys ∧ t.reqs = s.reqs ∧ t.counters = s.counters ∧ t.hank = s.hank ∧
      t.distaff = s.distaff ∧ t.func = s.func ∧ t.store = s.store ∧ t.core = s.core ∧ t.spool = s.spool ∧
      t.emergency = s.emergency ∧ t.lanes = s.lanes ∧ t.tally = s.tally ∧ t.outs = s.outs ∧ t.inputs = s.inputs ∧
      t.strike = s.strike ∧ t.gnss = s.gnss ∧ t.clock = s.clock ∧ t.sun = s.sun ∧ t.eth = s.eth ∧ t.skein = s.skein ∧
      t.panel = s.panel ∧ t.sent = s.sent ∧ t.free = s.free ∧ t.pending = s.pending := by
  dsimp only; unfold confirmTrial; (repeat' split) <;> simp
@[simp] theorem frame_rejectTrial (s : State) :
    let t := (rejectTrial s); t.emergency = s.emergency ∧ t.eth = s.eth ∧ t.pending = s.pending := by
  unfold rejectTrial; (repeat' split) <;> simp
@[simp] theorem frame_restageSet (s : State) :
    let t := (restageSet s); t.emergency = s.emergency ∧ t.clock = s.clock ∧ t.eth = s.eth ∧ t.free = s.free ∧
      t.pending = s.pending := by
  dsimp only; unfold restageSet; (repeat' split) <;> simp
@[simp] theorem frame_restageSet_core (s : State) :
    (restageSet s).core = s.core := by
  unfold restageSet; (repeat' split) <;> simp
@[simp] theorem frame_restageSet_distaff (s : State) :
    (restageSet s).distaff = s.distaff := by
  unfold restageSet; (repeat' split) <;> simp
@[simp] theorem frame_restageSet_func (s : State) :
    (restageSet s).func = s.func := by
  unfold restageSet; (repeat' split) <;> simp
@[simp] theorem frame_restageSet_gnss (s : State) :
    (restageSet s).gnss = s.gnss := by
  unfold restageSet; (repeat' split) <;> simp
@[simp] theorem frame_restageSet_inputs (s : State) :
    (restageSet s).inputs = s.inputs := by
  unfold restageSet; (repeat' split) <;> simp
@[simp] theorem frame_restageSet_lanes (s : State) :
    (restageSet s).lanes = s.lanes := by
  unfold restageSet; (repeat' split) <;> simp
@[simp] theorem frame_restageSet_outs (s : State) :
    (restageSet s).outs = s.outs := by
  unfold restageSet; (repeat' split) <;> simp
@[simp] theorem frame_restageSet_panel (s : State) :
    (restageSet s).panel = s.panel := by
  unfold restageSet; (repeat' split) <;> simp
@[simp] theorem frame_restageSet_reqs (s : State) :
    (restageSet s).reqs = s.reqs := by
  unfold restageSet; (repeat' split) <;> simp
@[simp] theorem frame_restageSet_spool (s : State) :
    (restageSet s).spool = s.spool := by
  unfold restageSet; (repeat' split) <;> simp
@[simp] theorem frame_restageSet_store (s : State) :
    (restageSet s).store = s.store := by
  unfold restageSet; (repeat' split) <;> simp
@[simp] theorem frame_restageSet_strike (s : State) :
    (restageSet s).strike = s.strike := by
  unfold restageSet; (repeat' split) <;> simp
@[simp] theorem frame_restageSet_sun (s : State) :
    (restageSet s).sun = s.sun := by
  unfold restageSet; (repeat' split) <;> simp
@[simp] theorem frame_restageSet_sys (s : State) :
    (restageSet s).sys = s.sys := by
  unfold restageSet; (repeat' split) <;> simp
@[simp] theorem frame_restageSet_tally (s : State) :
    (restageSet s).tally = s.tally := by
  unfold restageSet; (repeat' split) <;> simp
@[simp] theorem frame_writeUpdCtrl (v : Word) (s : State) :
    let t := (writeUpdCtrl v s); t.emergency = s.emergency ∧ t.eth = s.eth ∧ t.pending = s.pending := by
  unfold writeUpdCtrl; dsimp only; (repeat' split) <;> simp
@[simp] theorem frame_indDone (who : Requester) (range tmo : Bool) (s : State) :
    let t := (indDone who range tmo s); t.sys = s.sys ∧ t.counters = s.counters ∧ t.hank = s.hank ∧
      t.distaff = s.distaff ∧ t.func = s.func ∧ t.store = s.store ∧ t.core = s.core ∧ t.spool = s.spool ∧
      t.emergency = s.emergency ∧ t.lanes = s.lanes ∧ t.tally = s.tally ∧ t.outs = s.outs ∧ t.inputs = s.inputs ∧
      t.strike = s.strike ∧ t.gnss = s.gnss ∧ t.clock = s.clock ∧ t.sun = s.sun ∧ t.eth = s.eth ∧ t.skein = s.skein ∧
      t.upd = s.upd ∧ t.panel = s.panel ∧ t.sent = s.sent ∧ t.free = s.free ∧ t.pending = s.pending := by
  simp [indDone]
@[simp] theorem frame_indRead (who : Requester) (s : State) :
    let t := (indRead who s).2; t.sys = s.sys ∧ t.counters = s.counters ∧ t.hank = s.hank ∧ t.distaff = s.distaff ∧
      t.func = s.func ∧ t.store = s.store ∧ t.core = s.core ∧ t.spool = s.spool ∧ t.emergency = s.emergency ∧
      t.lanes = s.lanes ∧ t.tally = s.tally ∧ t.outs = s.outs ∧ t.inputs = s.inputs ∧ t.strike = s.strike ∧
      t.gnss = s.gnss ∧ t.clock = s.clock ∧ t.sun = s.sun ∧ t.eth = s.eth ∧ t.skein = s.skein ∧ t.upd = s.upd ∧
      t.panel = s.panel ∧ t.sent = s.sent ∧ t.free = s.free ∧ t.pending = s.pending := by
  unfold indRead; dsimp only; (repeat' split) <;> simp
@[simp] theorem frame_indWrite (who : Requester) (v : Word) (s : State) :
    let t := (indWrite who v s); t.sys = s.sys ∧ t.counters = s.counters ∧ t.hank = s.hank ∧ t.distaff = s.distaff ∧
      t.func = s.func ∧ t.store = s.store ∧ t.core = s.core ∧ t.spool = s.spool ∧ t.emergency = s.emergency ∧
      t.lanes = s.lanes ∧ t.tally = s.tally ∧ t.outs = s.outs ∧ t.inputs = s.inputs ∧ t.strike = s.strike ∧
      t.gnss = s.gnss ∧ t.clock = s.clock ∧ t.sun = s.sun ∧ t.eth = s.eth ∧ t.skein = s.skein ∧ t.upd = s.upd ∧
      t.sent = s.sent ∧ t.free = s.free ∧ t.pending = s.pending := by
  have h : ∀ w o t, winPut s w o v = some t → t = { s with panel := t.panel } := by
    intro w o t h; unfold winPut at h; split at h <;> simp at h; subst h; rfl
  unfold indWrite; dsimp only; split; · simp
  split; · simp
  split; · simp
  split
  · next h' => rw [h _ _ _ h']; simp
  · simp
@[simp] theorem frame_tripRewrite (addr : Nat) (s : State) :
    let t := (tripRewrite addr s); t.reqs = s.reqs ∧ t.counters = s.counters ∧ t.hank = s.hank ∧
      t.distaff = s.distaff ∧ t.func = s.func ∧ t.store = s.store ∧ t.core = s.core ∧ t.spool = s.spool ∧
      t.emergency = s.emergency ∧ t.inputs = s.inputs ∧ t.strike = s.strike ∧ t.gnss = s.gnss ∧ t.clock = s.clock ∧
      t.sun = s.sun ∧ t.eth = s.eth ∧ t.skein = s.skein ∧ t.upd = s.upd ∧ t.panel = s.panel ∧ t.sent = s.sent ∧
      t.free = s.free ∧ t.pending = s.pending := by
  dsimp only; unfold tripRewrite; (repeat' split) <;> simp
@[simp] theorem frame_mend (addr : Nat) (s : State) :
    let t := (mend addr s); t.reqs = s.reqs ∧ t.hank = s.hank ∧ t.distaff = s.distaff ∧ t.func = s.func ∧
      t.store = s.store ∧ t.core = s.core ∧ t.spool = s.spool ∧ t.emergency = s.emergency ∧ t.inputs = s.inputs ∧
      t.strike = s.strike ∧ t.gnss = s.gnss ∧ t.clock = s.clock ∧ t.sun = s.sun ∧ t.eth = s.eth ∧ t.panel = s.panel ∧
      t.sent = s.sent ∧ t.free = s.free ∧ t.pending = s.pending := by
  dsimp only; unfold mend; (repeat' split) <;> simp (disch := (intros; (repeat' split) <;> simp))
@[simp] theorem frame_mend_upd (addr : Nat) (s : State) :
    (mend addr s).upd = s.upd := by
  unfold mend; (repeat' split) <;> simp (disch := (intros; (repeat' split) <;> simp))
@[simp] theorem frame_readReg (who : Requester) (addr : Nat) (s : State) :
    let t := (readReg who addr s).2; t.hank = s.hank ∧ t.distaff = s.distaff ∧ t.func = s.func ∧ t.store = s.store ∧
      t.core = s.core ∧ t.spool = s.spool ∧ t.emergency = s.emergency ∧ t.inputs = s.inputs ∧ t.strike = s.strike ∧
      t.gnss = s.gnss ∧ t.clock = s.clock ∧ t.sun = s.sun ∧ t.eth = s.eth ∧ t.panel = s.panel ∧ t.sent = s.sent ∧
      t.pending = s.pending := by
  dsimp only; unfold readReg; (repeat' split) <;> simp
@[simp] theorem frame_readReg_upd (who : Requester) (addr : Nat) (s : State) :
    (readReg who addr s).2.upd = s.upd := by
  unfold readReg; (repeat' split) <;> simp
@[simp] theorem frame_keep (who : Requester) (f : PerReq → PerReq) (s : State) :
    let t := (keep who f s).2; t.sys = s.sys ∧ t.counters = s.counters ∧ t.hank = s.hank ∧ t.distaff = s.distaff ∧
      t.func = s.func ∧ t.store = s.store ∧ t.core = s.core ∧ t.spool = s.spool ∧ t.emergency = s.emergency ∧
      t.lanes = s.lanes ∧ t.tally = s.tally ∧ t.outs = s.outs ∧ t.inputs = s.inputs ∧ t.strike = s.strike ∧
      t.gnss = s.gnss ∧ t.clock = s.clock ∧ t.sun = s.sun ∧ t.eth = s.eth ∧ t.skein = s.skein ∧ t.upd = s.upd ∧
      t.panel = s.panel ∧ t.sent = s.sent ∧ t.free = s.free ∧ t.pending = s.pending := by
  simp [keep]
@[simp] theorem frame_done (s : State) :
    let t := (done s).2; t.sys = s.sys ∧ t.reqs = s.reqs ∧ t.counters = s.counters ∧ t.hank = s.hank ∧
      t.distaff = s.distaff ∧ t.func = s.func ∧ t.store = s.store ∧ t.core = s.core ∧ t.spool = s.spool ∧
      t.emergency = s.emergency ∧ t.lanes = s.lanes ∧ t.tally = s.tally ∧ t.outs = s.outs ∧ t.inputs = s.inputs ∧
      t.strike = s.strike ∧ t.gnss = s.gnss ∧ t.clock = s.clock ∧ t.sun = s.sun ∧ t.eth = s.eth ∧ t.skein = s.skein ∧
      t.upd = s.upd ∧ t.panel = s.panel ∧ t.sent = s.sent ∧ t.free = s.free ∧ t.pending = s.pending := by
  simp [done]
@[simp] theorem frame_refuse (c : NakCode) (s : State) :
    let t := (refuse c s).2; t.sys = s.sys ∧ t.reqs = s.reqs ∧ t.counters = s.counters ∧ t.hank = s.hank ∧
      t.distaff = s.distaff ∧ t.func = s.func ∧ t.store = s.store ∧ t.core = s.core ∧ t.spool = s.spool ∧
      t.emergency = s.emergency ∧ t.lanes = s.lanes ∧ t.tally = s.tally ∧ t.outs = s.outs ∧ t.inputs = s.inputs ∧
      t.strike = s.strike ∧ t.gnss = s.gnss ∧ t.clock = s.clock ∧ t.sun = s.sun ∧ t.eth = s.eth ∧ t.skein = s.skein ∧
      t.upd = s.upd ∧ t.panel = s.panel ∧ t.sent = s.sent ∧ t.free = s.free ∧ t.pending = s.pending := by
  simp [refuse]
@[simp] theorem frame_holdOff (s : State) :
    let t := (holdOff s); t.reqs = s.reqs ∧ t.distaff = s.distaff ∧ t.func = s.func ∧ t.store = s.store ∧
      t.spool = s.spool ∧ t.emergency = s.emergency ∧ t.strike = s.strike ∧ t.clock = s.clock ∧ t.sun = s.sun ∧
      t.eth = s.eth ∧ t.pending = s.pending := by
  simp [holdOff]
@[simp] theorem frame_writeSysCtrl (v : Word) (s : State) :
    let t := (writeSysCtrl v s).2; t.reqs = s.reqs ∧ t.distaff = s.distaff ∧ t.func = s.func ∧ t.store = s.store ∧
      t.spool = s.spool ∧ t.emergency = s.emergency ∧ t.strike = s.strike ∧ t.clock = s.clock ∧ t.sun = s.sun ∧
      t.eth = s.eth ∧ t.pending = s.pending := by
  unfold writeSysCtrl; dsimp only; (repeat' split) <;> simp
@[simp] theorem frame_setLocks (bits : BitVec 5) (s : State) :
    let t := (setLocks bits s); t.reqs = s.reqs ∧ t.counters = s.counters ∧ t.hank = s.hank ∧ t.distaff = s.distaff ∧
      t.func = s.func ∧ t.store = s.store ∧ t.core = s.core ∧ t.spool = s.spool ∧ t.emergency = s.emergency ∧
      t.lanes = s.lanes ∧ t.tally = s.tally ∧ t.outs = s.outs ∧ t.inputs = s.inputs ∧ t.strike = s.strike ∧
      t.gnss = s.gnss ∧ t.clock = s.clock ∧ t.sun = s.sun ∧ t.eth = s.eth ∧ t.skein = s.skein ∧ t.upd = s.upd ∧
      t.panel = s.panel ∧ t.sent = s.sent ∧ t.free = s.free ∧ t.pending = s.pending := by
  simp [setLocks]
@[simp] theorem frame_writePps (v : Word) (s : State) :
    let t := (writePps v s).2; t.sys = s.sys ∧ t.reqs = s.reqs ∧ t.counters = s.counters ∧ t.hank = s.hank ∧
      t.distaff = s.distaff ∧ t.func = s.func ∧ t.store = s.store ∧ t.core = s.core ∧ t.spool = s.spool ∧
      t.emergency = s.emergency ∧ t.lanes = s.lanes ∧ t.tally = s.tally ∧ t.outs = s.outs ∧ t.inputs = s.inputs ∧
      t.strike = s.strike ∧ t.gnss = s.gnss ∧ t.clock = s.clock ∧ t.eth = s.eth ∧ t.skein = s.skein ∧ t.upd = s.upd ∧
      t.panel = s.panel ∧ t.sent = s.sent ∧ t.free = s.free ∧ t.pending = s.pending := by
  unfold writePps; dsimp only; (repeat' split) <;> simp
@[simp] theorem frame_writeLimit (n : Nat) (v : Word) (s : State) :
    let t := (writeLimit n v s).2; t.sys = s.sys ∧ t.reqs = s.reqs ∧ t.hank = s.hank ∧ t.distaff = s.distaff ∧
      t.func = s.func ∧ t.store = s.store ∧ t.core = s.core ∧ t.spool = s.spool ∧ t.emergency = s.emergency ∧
      t.lanes = s.lanes ∧ t.outs = s.outs ∧ t.inputs = s.inputs ∧ t.strike = s.strike ∧ t.gnss = s.gnss ∧
      t.clock = s.clock ∧ t.sun = s.sun ∧ t.eth = s.eth ∧ t.panel = s.panel ∧ t.sent = s.sent ∧ t.free = s.free ∧
      t.pending = s.pending := by
  dsimp only; unfold writeLimit; simp only [guarded]; (repeat' split) <;> simp
@[simp] theorem frame_writeTally (off : Nat) (v : Word) (s : State) :
    let t := (writeTally off v s).2; t.sys = s.sys ∧ t.reqs = s.reqs ∧ t.hank = s.hank ∧ t.distaff = s.distaff ∧
      t.func = s.func ∧ t.store = s.store ∧ t.core = s.core ∧ t.spool = s.spool ∧ t.emergency = s.emergency ∧
      t.lanes = s.lanes ∧ t.outs = s.outs ∧ t.inputs = s.inputs ∧ t.strike = s.strike ∧ t.gnss = s.gnss ∧
      t.clock = s.clock ∧ t.sun = s.sun ∧ t.eth = s.eth ∧ t.panel = s.panel ∧ t.sent = s.sent ∧ t.free = s.free ∧
      t.pending = s.pending := by
  dsimp only; unfold writeTally; simp only [guarded]; (repeat' split) <;> simp
@[simp] theorem frame_writeDirMap (n : Nat) (v : Word) (s : State) :
    let t := (writeDirMap n v s).2; t.sys = s.sys ∧ t.reqs = s.reqs ∧ t.distaff = s.distaff ∧ t.func = s.func ∧
      t.store = s.store ∧ t.spool = s.spool ∧ t.emergency = s.emergency ∧ t.strike = s.strike ∧ t.clock = s.clock ∧
      t.sun = s.sun ∧ t.eth = s.eth ∧ t.pending = s.pending := by
  unfold writeDirMap; dsimp only; (repeat' split) <;> simp
@[simp] theorem frame_writeLimp (on : Bool) (s : State) :
    let t := (writeLimp on s).2; t.sys = s.sys ∧ t.reqs = s.reqs ∧ t.distaff = s.distaff ∧ t.func = s.func ∧
      t.store = s.store ∧ t.spool = s.spool ∧ t.emergency = s.emergency ∧ t.strike = s.strike ∧ t.clock = s.clock ∧
      t.sun = s.sun ∧ t.eth = s.eth ∧ t.pending = s.pending := by
  unfold writeLimp; dsimp only; (repeat' split) <;> simp
@[simp] theorem frame_writeLsw (who : Requester) (off : Nat) (v : Word) (s : State) :
    let t := (writeLsw who off v s).2; t.sys = s.sys ∧ t.distaff = s.distaff ∧ t.func = s.func ∧ t.store = s.store ∧
      t.spool = s.spool ∧ t.emergency = s.emergency ∧ t.strike = s.strike ∧ t.clock = s.clock ∧ t.sun = s.sun ∧
      t.eth = s.eth ∧ t.pending = s.pending := by
  unfold writeLsw; dsimp only; (repeat' split) <;> simp
@[simp] theorem frame_writeSol (who : Requester) (off : Nat) (v : Word) (s : State) :
    let t := (writeSol who off v s).2; t.sys = s.sys ∧ t.hank = s.hank ∧ t.distaff = s.distaff ∧ t.func = s.func ∧
      t.store = s.store ∧ t.core = s.core ∧ t.spool = s.spool ∧ t.emergency = s.emergency ∧ t.lanes = s.lanes ∧
      t.tally = s.tally ∧ t.inputs = s.inputs ∧ t.strike = s.strike ∧ t.gnss = s.gnss ∧ t.clock = s.clock ∧
      t.sun = s.sun ∧ t.eth = s.eth ∧ t.panel = s.panel ∧ t.sent = s.sent ∧ t.free = s.free ∧ t.pending = s.pending := by
  dsimp only; unfold writeSol; simp only [guarded]; (repeat' split) <;> simp
@[simp] theorem frame_writeSpindle (who : Requester) (off : Nat) (v : Word) (s : State) :
    let t := (writeSpindle who off v s).2; t.sys = s.sys ∧ t.counters = s.counters ∧ t.hank = s.hank ∧
      t.distaff = s.distaff ∧ t.func = s.func ∧ t.store = s.store ∧ t.spool = s.spool ∧ t.emergency = s.emergency ∧
      t.lanes = s.lanes ∧ t.tally = s.tally ∧ t.outs = s.outs ∧ t.inputs = s.inputs ∧ t.strike = s.strike ∧
      t.gnss = s.gnss ∧ t.clock = s.clock ∧ t.sun = s.sun ∧ t.eth = s.eth ∧ t.skein = s.skein ∧ t.upd = s.upd ∧
      t.panel = s.panel ∧ t.sent = s.sent ∧ t.free = s.free ∧ t.pending = s.pending := by
  unfold writeSpindle; dsimp only; (repeat' split) <;> simp
@[simp] theorem frame_clearTable (unit table : Nat) (s : State) :
    let t := (clearTable unit table s); t.sys = s.sys ∧ t.reqs = s.reqs ∧ t.counters = s.counters ∧ t.hank = s.hank ∧
      t.distaff = s.distaff ∧ t.func = s.func ∧ t.store = s.store ∧ t.spool = s.spool ∧ t.emergency = s.emergency ∧
      t.lanes = s.lanes ∧ t.tally = s.tally ∧ t.outs = s.outs ∧ t.inputs = s.inputs ∧ t.strike = s.strike ∧
      t.gnss = s.gnss ∧ t.clock = s.clock ∧ t.sun = s.sun ∧ t.eth = s.eth ∧ t.panel = s.panel ∧ t.sent = s.sent ∧
      t.free = s.free ∧ t.pending = s.pending := by
  dsimp only; unfold clearTable; (repeat' split) <;> simp
@[simp] theorem frame_clearTable_upd (unit table : Nat) (s : State) :
    (clearTable unit table s).upd = s.upd := by
  unfold clearTable; (repeat' split) <;> simp
@[simp] theorem frame_writeTwist (who : Requester) (off : Nat) (v : Word) (s : State) :
    let t := (writeTwist who off v s).2; t.sys = s.sys ∧ t.counters = s.counters ∧ t.hank = s.hank ∧
      t.distaff = s.distaff ∧ t.func = s.func ∧ t.store = s.store ∧ t.spool = s.spool ∧ t.emergency = s.emergency ∧
      t.lanes = s.lanes ∧ t.tally = s.tally ∧ t.outs = s.outs ∧ t.inputs = s.inputs ∧ t.strike = s.strike ∧
      t.gnss = s.gnss ∧ t.clock = s.clock ∧ t.sun = s.sun ∧ t.eth = s.eth ∧ t.panel = s.panel ∧ t.sent = s.sent ∧
      t.free = s.free ∧ t.pending = s.pending := by
  dsimp only; unfold writeTwist; (repeat' split) <;> simp
@[simp] theorem frame_writeTwist_upd (who : Requester) (off : Nat) (v : Word) (s : State) :
    (writeTwist who off v s).2.upd = s.upd := by
  unfold writeTwist; (repeat' split) <;> simp
@[simp] theorem frame_writeStrike (who : Requester) (off : Nat) (v : Word) (s : State) :
    let t := (writeStrike who off v s).2; t.sys = s.sys ∧ t.counters = s.counters ∧ t.hank = s.hank ∧
      t.distaff = s.distaff ∧ t.func = s.func ∧ t.store = s.store ∧ t.core = s.core ∧ t.spool = s.spool ∧
      t.emergency = s.emergency ∧ t.lanes = s.lanes ∧ t.tally = s.tally ∧ t.outs = s.outs ∧ t.inputs = s.inputs ∧
      t.gnss = s.gnss ∧ t.clock = s.clock ∧ t.sun = s.sun ∧ t.eth = s.eth ∧ t.skein = s.skein ∧ t.upd = s.upd ∧
      t.panel = s.panel ∧ t.sent = s.sent ∧ t.free = s.free ∧ t.pending = s.pending := by
  dsimp only; unfold writeStrike; (repeat' split) <;> simp
@[simp] theorem frame_writeAin (who : Requester) (off : Nat) (v : Word) (s : State) :
    let t := (writeAin who off v s).2; t.sys = s.sys ∧ t.counters = s.counters ∧ t.hank = s.hank ∧
      t.distaff = s.distaff ∧ t.func = s.func ∧ t.store = s.store ∧ t.core = s.core ∧ t.spool = s.spool ∧
      t.emergency = s.emergency ∧ t.lanes = s.lanes ∧ t.tally = s.tally ∧ t.outs = s.outs ∧ t.strike = s.strike ∧
      t.gnss = s.gnss ∧ t.clock = s.clock ∧ t.sun = s.sun ∧ t.eth = s.eth ∧ t.skein = s.skein ∧ t.upd = s.upd ∧
      t.panel = s.panel ∧ t.sent = s.sent ∧ t.free = s.free ∧ t.pending = s.pending := by
  unfold writeAin; dsimp only; (repeat' split) <;> simp
@[simp] theorem frame_writeSensor (who : Requester) (off : Nat) (v : Word) (s : State) :
    let t := (writeSensor who off v s).2; t.sys = s.sys ∧ t.counters = s.counters ∧ t.hank = s.hank ∧
      t.distaff = s.distaff ∧ t.func = s.func ∧ t.store = s.store ∧ t.core = s.core ∧ t.spool = s.spool ∧
      t.emergency = s.emergency ∧ t.lanes = s.lanes ∧ t.tally = s.tally ∧ t.outs = s.outs ∧ t.strike = s.strike ∧
      t.gnss = s.gnss ∧ t.clock = s.clock ∧ t.sun = s.sun ∧ t.eth = s.eth ∧ t.skein = s.skein ∧ t.upd = s.upd ∧
      t.panel = s.panel ∧ t.sent = s.sent ∧ t.free = s.free ∧ t.pending = s.pending := by
  dsimp only; unfold writeSensor; (repeat' split) <;> simp
@[simp] theorem frame_setBias (n : Nat) (on : Bool) (s : State) :
    let t := (setBias n on s); t.sys = s.sys ∧ t.reqs = s.reqs ∧ t.distaff = s.distaff ∧ t.func = s.func ∧
      t.store = s.store ∧ t.spool = s.spool ∧ t.emergency = s.emergency ∧ t.strike = s.strike ∧ t.clock = s.clock ∧
      t.sun = s.sun ∧ t.eth = s.eth ∧ t.pending = s.pending := by
  unfold setBias; dsimp only; (repeat' split) <;> simp
@[simp] theorem frame_writeGnss (off : Nat) (v : Word) (s : State) :
    let t := (writeGnss off v s).2; t.sys = s.sys ∧ t.reqs = s.reqs ∧ t.distaff = s.distaff ∧ t.func = s.func ∧
      t.store = s.store ∧ t.spool = s.spool ∧ t.emergency = s.emergency ∧ t.strike = s.strike ∧ t.clock = s.clock ∧
      t.sun = s.sun ∧ t.eth = s.eth ∧ t.pending = s.pending := by
  unfold writeGnss; dsimp only; (repeat' split) <;> simp
@[simp] theorem frame_writeSkein (who : Requester) (off : Nat) (v : Word) (s : State) :
    let t := (writeSkein who off v s).2; t.sys = s.sys ∧ t.hank = s.hank ∧ t.distaff = s.distaff ∧ t.func = s.func ∧
      t.store = s.store ∧ t.core = s.core ∧ t.spool = s.spool ∧ t.emergency = s.emergency ∧ t.lanes = s.lanes ∧
      t.tally = s.tally ∧ t.outs = s.outs ∧ t.inputs = s.inputs ∧ t.strike = s.strike ∧ t.gnss = s.gnss ∧
      t.clock = s.clock ∧ t.sun = s.sun ∧ t.eth = s.eth ∧ t.panel = s.panel ∧ t.sent = s.sent ∧ t.pending = s.pending := by
  dsimp only; unfold writeSkein; simp only [guarded]; (repeat' split) <;> simp
@[simp] theorem frame_writePanel (who : Requester) (off : Nat) (v : Word) (s : State) :
    let t := (writePanel who off v s).2; t.sys = s.sys ∧ t.distaff = s.distaff ∧ t.func = s.func ∧ t.store = s.store ∧
      t.spool = s.spool ∧ t.emergency = s.emergency ∧ t.strike = s.strike ∧ t.clock = s.clock ∧ t.sun = s.sun ∧
      t.eth = s.eth ∧ t.pending = s.pending := by
  unfold writePanel; dsimp only; (repeat' split) <;> simp
@[simp] theorem frame_writeUpdate (off : Nat) (v : Word) (s : State) :
    let t := (writeUpdate off v s).2; t.emergency = s.emergency ∧ t.eth = s.eth ∧ t.pending = s.pending := by
  unfold writeUpdate; dsimp only; (repeat' split) <;> simp
@[simp] theorem frame_writeBobbin (who : Requester) (off : Nat) (v : Word) (s : State) :
    let t := (writeBobbin who off v s).2; t.sys = s.sys ∧ t.counters = s.counters ∧ t.hank = s.hank ∧
      t.distaff = s.distaff ∧ t.func = s.func ∧ t.store = s.store ∧ t.spool = s.spool ∧ t.emergency = s.emergency ∧
      t.lanes = s.lanes ∧ t.tally = s.tally ∧ t.outs = s.outs ∧ t.inputs = s.inputs ∧ t.strike = s.strike ∧
      t.gnss = s.gnss ∧ t.clock = s.clock ∧ t.sun = s.sun ∧ t.eth = s.eth ∧ t.skein = s.skein ∧ t.upd = s.upd ∧
      t.panel = s.panel ∧ t.sent = s.sent ∧ t.free = s.free ∧ t.pending = s.pending := by
  unfold writeBobbin; dsimp only; (repeat' split) <;> simp
@[simp] theorem frame_writeHank (who : Requester) (off : Nat) (v : Word) (s : State) :
    let t := (writeHank who off v s).2; t.sys = s.sys ∧ t.reqs = s.reqs ∧ t.counters = s.counters ∧
      t.distaff = s.distaff ∧ t.func = s.func ∧ t.store = s.store ∧ t.core = s.core ∧ t.spool = s.spool ∧
      t.emergency = s.emergency ∧ t.lanes = s.lanes ∧ t.tally = s.tally ∧ t.outs = s.outs ∧ t.inputs = s.inputs ∧
      t.strike = s.strike ∧ t.gnss = s.gnss ∧ t.clock = s.clock ∧ t.sun = s.sun ∧ t.eth = s.eth ∧ t.skein = s.skein ∧
      t.upd = s.upd ∧ t.panel = s.panel ∧ t.sent = s.sent ∧ t.free = s.free ∧ t.pending = s.pending := by
  dsimp only; unfold writeHank; (repeat' split) <;> simp
@[simp] theorem frame_writeInd (who : Requester) (off : Nat) (v : Word) (s : State) :
    let t := (writeInd who off v s).2; t.sys = s.sys ∧ t.counters = s.counters ∧ t.hank = s.hank ∧
      t.distaff = s.distaff ∧ t.func = s.func ∧ t.store = s.store ∧ t.core = s.core ∧ t.spool = s.spool ∧
      t.emergency = s.emergency ∧ t.lanes = s.lanes ∧ t.tally = s.tally ∧ t.outs = s.outs ∧ t.inputs = s.inputs ∧
      t.strike = s.strike ∧ t.gnss = s.gnss ∧ t.clock = s.clock ∧ t.sun = s.sun ∧ t.eth = s.eth ∧ t.skein = s.skein ∧
      t.upd = s.upd ∧ t.sent = s.sent ∧ t.free = s.free ∧ t.pending = s.pending := by
  dsimp only; unfold writeInd; (repeat' split) <;> simp
@[simp] theorem frame_stageLo (who : Requester) (addr : Nat) (v : Word) (s : State) :
    let t := (stageLo who addr v s); t.sys = s.sys ∧ t.counters = s.counters ∧ t.hank = s.hank ∧
      t.distaff = s.distaff ∧ t.func = s.func ∧ t.store = s.store ∧ t.core = s.core ∧ t.spool = s.spool ∧
      t.emergency = s.emergency ∧ t.lanes = s.lanes ∧ t.tally = s.tally ∧ t.outs = s.outs ∧ t.inputs = s.inputs ∧
      t.strike = s.strike ∧ t.gnss = s.gnss ∧ t.clock = s.clock ∧ t.sun = s.sun ∧ t.eth = s.eth ∧ t.skein = s.skein ∧
      t.upd = s.upd ∧ t.panel = s.panel ∧ t.sent = s.sent ∧ t.free = s.free ∧ t.pending = s.pending := by
  simp [stageLo]
@[simp] theorem frame_commitHi (who : Requester) (lo : Nat) (s : State) :
    let t := (commitHi who lo s); t.sys = s.sys ∧ t.counters = s.counters ∧ t.hank = s.hank ∧ t.distaff = s.distaff ∧
      t.func = s.func ∧ t.store = s.store ∧ t.core = s.core ∧ t.spool = s.spool ∧ t.emergency = s.emergency ∧
      t.lanes = s.lanes ∧ t.tally = s.tally ∧ t.outs = s.outs ∧ t.inputs = s.inputs ∧ t.strike = s.strike ∧
      t.gnss = s.gnss ∧ t.clock = s.clock ∧ t.sun = s.sun ∧ t.eth = s.eth ∧ t.skein = s.skein ∧ t.upd = s.upd ∧
      t.panel = s.panel ∧ t.sent = s.sent ∧ t.free = s.free ∧ t.pending = s.pending := by
  unfold commitHi; dsimp only; (repeat' split) <;> simp
@[simp] theorem frame_writeReg (who : Requester) (addr : Nat) (v : Word) (s : State) :
    let t := (writeReg who addr v s).2; t.emergency = s.emergency ∧ t.pending = s.pending := by
  dsimp only; unfold writeReg; simp only [guarded]; (repeat' split) <;> simp
@[simp] theorem frame_maskedWrite (who : Requester) (addr mask v : Word) (s : State) :
    let t := (maskedWrite who addr mask v s).2; t.emergency = s.emergency ∧ t.pending = s.pending := by
  unfold maskedWrite; dsimp only; (repeat' split) <;> simp
@[simp] theorem frame_readMany (who : Requester) (win : Bool) (addr : Nat) (n_ : Nat) (s : State) :
    let t := (readMany who win addr n_ s).2; t.hank = s.hank ∧ t.distaff = s.distaff ∧ t.func = s.func ∧
      t.store = s.store ∧ t.core = s.core ∧ t.spool = s.spool ∧ t.emergency = s.emergency ∧ t.inputs = s.inputs ∧
      t.strike = s.strike ∧ t.gnss = s.gnss ∧ t.clock = s.clock ∧ t.sun = s.sun ∧ t.eth = s.eth ∧ t.upd = s.upd ∧
      t.panel = s.panel ∧ t.sent = s.sent ∧ t.pending = s.pending := by
  induction n_ generalizing who win addr s with
  | zero => simp [readMany]
  | succ n ih => unfold readMany; dsimp only; (repeat' split) <;> simp [ih]
@[simp] theorem frame_snapshot (addr : Word) (s : State) :
    let t := (snapshot addr s).2; t.hank = s.hank ∧ t.distaff = s.distaff ∧ t.func = s.func ∧ t.store = s.store ∧
      t.core = s.core ∧ t.spool = s.spool ∧ t.emergency = s.emergency ∧ t.inputs = s.inputs ∧ t.strike = s.strike ∧
      t.gnss = s.gnss ∧ t.clock = s.clock ∧ t.sun = s.sun ∧ t.eth = s.eth ∧ t.panel = s.panel ∧ t.sent = s.sent ∧
      t.pending = s.pending := by
  simp [snapshot]
@[simp] theorem frame_snapshot_reqs (addr : Word) (s : State) :
    (snapshot addr s).2.reqs = s.reqs := by
  simp [snapshot]
@[simp] theorem frame_snapshot_upd (addr : Word) (s : State) :
    (snapshot addr s).2.upd = s.upd := by
  simp [snapshot]
@[simp] theorem frame_snapshots (l_ : List Word) (s : State) :
    let t := (snapshots l_ s).2; t.hank = s.hank ∧ t.distaff = s.distaff ∧ t.func = s.func ∧ t.store = s.store ∧
      t.core = s.core ∧ t.spool = s.spool ∧ t.emergency = s.emergency ∧ t.inputs = s.inputs ∧ t.strike = s.strike ∧
      t.gnss = s.gnss ∧ t.clock = s.clock ∧ t.sun = s.sun ∧ t.eth = s.eth ∧ t.panel = s.panel ∧ t.sent = s.sent ∧
      t.pending = s.pending := by
  induction l_ generalizing s with
  | nil => simp [snapshots]
  | cons a l ih => simp [snapshots, ih]
@[simp] theorem frame_numbered (seq : BitVec 64) (e : Raised) (s : State) :
    let t := (numbered seq e s).2; t.hank = s.hank ∧ t.distaff = s.distaff ∧ t.func = s.func ∧ t.store = s.store ∧
      t.core = s.core ∧ t.spool = s.spool ∧ t.emergency = s.emergency ∧ t.inputs = s.inputs ∧ t.strike = s.strike ∧
      t.gnss = s.gnss ∧ t.clock = s.clock ∧ t.sun = s.sun ∧ t.eth = s.eth ∧ t.panel = s.panel ∧ t.sent = s.sent ∧
      t.pending = s.pending := by
  simp [numbered]
@[simp] theorem frame_eventRecordTo (r : Record) (who : Requester) (s : State) :
    let t := (eventRecordTo r who s); t.sys = s.sys ∧ t.reqs = s.reqs ∧ t.counters = s.counters ∧
      t.distaff = s.distaff ∧ t.func = s.func ∧ t.store = s.store ∧ t.core = s.core ∧ t.spool = s.spool ∧
      t.emergency = s.emergency ∧ t.lanes = s.lanes ∧ t.tally = s.tally ∧ t.outs = s.outs ∧ t.inputs = s.inputs ∧
      t.strike = s.strike ∧ t.gnss = s.gnss ∧ t.clock = s.clock ∧ t.sun = s.sun ∧ t.eth = s.eth ∧ t.skein = s.skein ∧
      t.upd = s.upd ∧ t.panel = s.panel ∧ t.free = s.free ∧ t.pending = s.pending := by
  unfold eventRecordTo; dsimp only; (repeat' split) <;> simp
@[simp] theorem frame_eventRecord (r : Record) (s : State) :
    let t := (eventRecord r s); t.sys = s.sys ∧ t.reqs = s.reqs ∧ t.counters = s.counters ∧ t.distaff = s.distaff ∧
      t.func = s.func ∧ t.store = s.store ∧ t.core = s.core ∧ t.spool = s.spool ∧ t.emergency = s.emergency ∧
      t.lanes = s.lanes ∧ t.tally = s.tally ∧ t.outs = s.outs ∧ t.inputs = s.inputs ∧ t.strike = s.strike ∧
      t.gnss = s.gnss ∧ t.clock = s.clock ∧ t.sun = s.sun ∧ t.eth = s.eth ∧ t.skein = s.skein ∧ t.upd = s.upd ∧
      t.panel = s.panel ∧ t.free = s.free ∧ t.pending = s.pending := by
  simp [eventRecord]
@[simp] theorem frame_receiveOne (s : State) :
    let t := (receiveOne s); t.distaff = s.distaff ∧ t.func = s.func ∧ t.store = s.store ∧ t.core = s.core ∧
      t.spool = s.spool ∧ t.emergency = s.emergency ∧ t.inputs = s.inputs ∧ t.strike = s.strike ∧ t.gnss = s.gnss ∧
      t.clock = s.clock ∧ t.sun = s.sun ∧ t.eth = s.eth ∧ t.panel = s.panel ∧ t.pending = s.pending := by
  unfold receiveOne; dsimp only; (repeat' split) <;> simp
@[simp] theorem frame_clearDone (s : State) :
    let t := (clearDone s); t.distaff = s.distaff ∧ t.func = s.func ∧ t.store = s.store ∧ t.core = s.core ∧
      t.spool = s.spool ∧ t.emergency = s.emergency ∧ t.inputs = s.inputs ∧ t.strike = s.strike ∧ t.gnss = s.gnss ∧
      t.clock = s.clock ∧ t.sun = s.sun ∧ t.eth = s.eth ∧ t.panel = s.panel ∧ t.pending = s.pending := by
  dsimp only; unfold clearDone; (repeat' split) <;> simp
@[simp] theorem frame_receiveMany (n_ : Nat) (s : State) :
    let t := (receiveMany n_ s); t.distaff = s.distaff ∧ t.func = s.func ∧ t.store = s.store ∧ t.core = s.core ∧
      t.spool = s.spool ∧ t.emergency = s.emergency ∧ t.inputs = s.inputs ∧ t.strike = s.strike ∧ t.gnss = s.gnss ∧
      t.clock = s.clock ∧ t.sun = s.sun ∧ t.eth = s.eth ∧ t.panel = s.panel ∧ t.pending = s.pending := by
  induction n_ generalizing s with
  | zero => simp [receiveMany]
  | succ n ih => simp [receiveMany, ih]
@[simp] theorem frame_flushSkein (s : State) :
    let t := (flushSkein s); t.distaff = s.distaff ∧ t.func = s.func ∧ t.store = s.store ∧ t.core = s.core ∧
      t.spool = s.spool ∧ t.emergency = s.emergency ∧ t.inputs = s.inputs ∧ t.strike = s.strike ∧ t.gnss = s.gnss ∧
      t.clock = s.clock ∧ t.sun = s.sun ∧ t.eth = s.eth ∧ t.panel = s.panel ∧ t.pending = s.pending := by
  simp [flushSkein]
@[simp] theorem frame_sendChunk (id : BitVec 64) (index : Nat) (s : State) :
    let t := (sendChunk id index s); t.sys = s.sys ∧ t.reqs = s.reqs ∧ t.counters = s.counters ∧ t.hank = s.hank ∧
      t.distaff = s.distaff ∧ t.func = s.func ∧ t.store = s.store ∧ t.core = s.core ∧ t.spool = s.spool ∧
      t.emergency = s.emergency ∧ t.lanes = s.lanes ∧ t.tally = s.tally ∧ t.outs = s.outs ∧ t.inputs = s.inputs ∧
      t.strike = s.strike ∧ t.gnss = s.gnss ∧ t.clock = s.clock ∧ t.sun = s.sun ∧ t.eth = s.eth ∧ t.skein = s.skein ∧
      t.panel = s.panel ∧ t.free = s.free ∧ t.pending = s.pending := by
  unfold sendChunk; (repeat' split) <;> simp
@[simp] theorem frame_sendSegment (id : BitVec 64) (k : Nat) (s : State) :
    let t := (sendSegment id k s); t.sys = s.sys ∧ t.reqs = s.reqs ∧ t.counters = s.counters ∧ t.hank = s.hank ∧
      t.distaff = s.distaff ∧ t.func = s.func ∧ t.store = s.store ∧ t.core = s.core ∧ t.spool = s.spool ∧
      t.emergency = s.emergency ∧ t.lanes = s.lanes ∧ t.tally = s.tally ∧ t.outs = s.outs ∧ t.inputs = s.inputs ∧
      t.strike = s.strike ∧ t.gnss = s.gnss ∧ t.clock = s.clock ∧ t.sun = s.sun ∧ t.eth = s.eth ∧ t.skein = s.skein ∧
      t.upd = s.upd ∧ t.panel = s.panel ∧ t.free = s.free ∧ t.pending = s.pending := by
  unfold sendSegment; (repeat' split) <;> simp
@[simp] theorem frame_ackAgain (id : BitVec 64) (index : Nat) (segment : Bool) (s : State) :
    let t := (ackAgain id index segment s); t.sys = s.sys ∧ t.reqs = s.reqs ∧ t.counters = s.counters ∧
      t.hank = s.hank ∧ t.distaff = s.distaff ∧ t.func = s.func ∧ t.store = s.store ∧ t.core = s.core ∧
      t.spool = s.spool ∧ t.emergency = s.emergency ∧ t.lanes = s.lanes ∧ t.tally = s.tally ∧ t.outs = s.outs ∧
      t.inputs = s.inputs ∧ t.strike = s.strike ∧ t.gnss = s.gnss ∧ t.clock = s.clock ∧ t.sun = s.sun ∧ t.eth = s.eth ∧
      t.skein = s.skein ∧ t.upd = s.upd ∧ t.panel = s.panel ∧ t.free = s.free ∧ t.pending = s.pending := by
  unfold ackAgain; (repeat' split) <;> simp
@[simp] theorem frame_takeChunk (id : BitVec 64) (m : Manifest) (index : Nat) (bytes : List Byte) (s : State) :
    let t := (takeChunk id m index bytes s); t.sys = s.sys ∧ t.reqs = s.reqs ∧ t.distaff = s.distaff ∧
      t.func = s.func ∧ t.store = s.store ∧ t.spool = s.spool ∧ t.emergency = s.emergency ∧ t.strike = s.strike ∧
      t.clock = s.clock ∧ t.sun = s.sun ∧ t.eth = s.eth ∧ t.pending = s.pending := by
  unfold takeChunk; dsimp only; (repeat' split) <;> simp
@[simp] theorem frame_startSet (m : Manifest) (s : State) :
    let t := (startSet m s); t.emergency = s.emergency ∧ t.clock = s.clock ∧ t.eth = s.eth ∧ t.free = s.free ∧
      t.pending = s.pending := by
  unfold startSet; dsimp only; (repeat' split) <;> simp
@[simp] theorem frame_startSet_core (m : Manifest) (s : State) :
    (startSet m s).core = s.core := by
  unfold startSet; dsimp only; (repeat' split) <;> simp
@[simp] theorem frame_startSet_distaff (m : Manifest) (s : State) :
    (startSet m s).distaff = s.distaff := by
  unfold startSet; dsimp only; (repeat' split) <;> simp
@[simp] theorem frame_startSet_func (m : Manifest) (s : State) :
    (startSet m s).func = s.func := by
  unfold startSet; dsimp only; (repeat' split) <;> simp
@[simp] theorem frame_startSet_gnss (m : Manifest) (s : State) :
    (startSet m s).gnss = s.gnss := by
  unfold startSet; dsimp only; (repeat' split) <;> simp
@[simp] theorem frame_startSet_inputs (m : Manifest) (s : State) :
    (startSet m s).inputs = s.inputs := by
  unfold startSet; dsimp only; (repeat' split) <;> simp
@[simp] theorem frame_startSet_lanes (m : Manifest) (s : State) :
    (startSet m s).lanes = s.lanes := by
  unfold startSet; dsimp only; (repeat' split) <;> simp
@[simp] theorem frame_startSet_outs (m : Manifest) (s : State) :
    (startSet m s).outs = s.outs := by
  unfold startSet; dsimp only; (repeat' split) <;> simp
@[simp] theorem frame_startSet_panel (m : Manifest) (s : State) :
    (startSet m s).panel = s.panel := by
  unfold startSet; dsimp only; (repeat' split) <;> simp
@[simp] theorem frame_startSet_reqs (m : Manifest) (s : State) :
    (startSet m s).reqs = s.reqs := by
  unfold startSet; dsimp only; (repeat' split) <;> simp
@[simp] theorem frame_startSet_spool (m : Manifest) (s : State) :
    (startSet m s).spool = s.spool := by
  unfold startSet; dsimp only; (repeat' split) <;> simp
@[simp] theorem frame_startSet_store (m : Manifest) (s : State) :
    (startSet m s).store = s.store := by
  unfold startSet; dsimp only; (repeat' split) <;> simp
@[simp] theorem frame_startSet_strike (m : Manifest) (s : State) :
    (startSet m s).strike = s.strike := by
  unfold startSet; dsimp only; (repeat' split) <;> simp
@[simp] theorem frame_startSet_sun (m : Manifest) (s : State) :
    (startSet m s).sun = s.sun := by
  unfold startSet; dsimp only; (repeat' split) <;> simp
@[simp] theorem frame_startSet_sys (m : Manifest) (s : State) :
    (startSet m s).sys = s.sys := by
  unfold startSet; dsimp only; (repeat' split) <;> simp
@[simp] theorem frame_startSet_tally (m : Manifest) (s : State) :
    (startSet m s).tally = s.tally := by
  unfold startSet; dsimp only; (repeat' split) <;> simp
@[simp] theorem frame_manifestHeld (id : BitVec 64) (bytes : List Byte) (s : State) :
    let t := (manifestHeld id bytes s); t.sys = s.sys ∧ t.reqs = s.reqs ∧ t.distaff = s.distaff ∧ t.func = s.func ∧
      t.store = s.store ∧ t.spool = s.spool ∧ t.emergency = s.emergency ∧ t.strike = s.strike ∧ t.clock = s.clock ∧
      t.sun = s.sun ∧ t.eth = s.eth ∧ t.pending = s.pending := by
  unfold manifestHeld; dsimp only; (repeat' split) <;> simp
@[simp] theorem frame_choosePause (asked : BitVec 2) (s : State) :
    let t := (choosePause asked s); t.sys = s.sys ∧ t.reqs = s.reqs ∧ t.counters = s.counters ∧ t.hank = s.hank ∧
      t.distaff = s.distaff ∧ t.func = s.func ∧ t.store = s.store ∧ t.core = s.core ∧ t.spool = s.spool ∧
      t.emergency = s.emergency ∧ t.lanes = s.lanes ∧ t.tally = s.tally ∧ t.outs = s.outs ∧ t.inputs = s.inputs ∧
      t.strike = s.strike ∧ t.gnss = s.gnss ∧ t.clock = s.clock ∧ t.sun = s.sun ∧ t.eth = s.eth ∧ t.skein = s.skein ∧
      t.panel = s.panel ∧ t.sent = s.sent ∧ t.free = s.free ∧ t.pending = s.pending := by
  simp [choosePause]
@[simp] theorem frame_startHandover (asked : BitVec 2) (s : State) :
    let t := (startHandover asked s); t.sys = s.sys ∧ t.reqs = s.reqs ∧ t.distaff = s.distaff ∧ t.func = s.func ∧
      t.store = s.store ∧ t.spool = s.spool ∧ t.emergency = s.emergency ∧ t.strike = s.strike ∧ t.clock = s.clock ∧
      t.sun = s.sun ∧ t.eth = s.eth ∧ t.pending = s.pending := by
  unfold startHandover; dsimp only; (repeat' split) <;> simp
@[simp] theorem frame_activateSet (id : BitVec 64) (mode : Nat) (s : State) :
    let t := (activateSet id mode s).2; t.sys = s.sys ∧ t.reqs = s.reqs ∧ t.distaff = s.distaff ∧ t.func = s.func ∧
      t.store = s.store ∧ t.spool = s.spool ∧ t.emergency = s.emergency ∧ t.strike = s.strike ∧ t.clock = s.clock ∧
      t.sun = s.sun ∧ t.eth = s.eth ∧ t.pending = s.pending := by
  unfold activateSet; dsimp only; (repeat' split) <;> simp
@[simp] theorem frame_pauseClose (s : State) :
    let t := (pauseClose s); t.emergency = s.emergency ∧ t.core = s.core ∧ t.spool = s.spool ∧
      t.inputs = s.inputs ∧ t.strike = s.strike ∧ t.clock = s.clock ∧ t.sun = s.sun ∧ t.eth = s.eth ∧ t.panel = s.panel ∧
      t.reqs = s.reqs ∧ t.gnss = s.gnss ∧ t.free = s.free ∧ t.pending = s.pending := by
  dsimp only; unfold pauseClose; simp
@[simp] theorem frame_handoverDrop (s : State) :
    let t := (handoverDrop s); t.sys = s.sys ∧ t.reqs = s.reqs ∧ t.distaff = s.distaff ∧ t.func = s.func ∧ t.store = s.store ∧
      t.spool = s.spool ∧ t.emergency = s.emergency ∧ t.strike = s.strike ∧ t.clock = s.clock ∧ t.sun = s.sun ∧ t.eth = s.eth ∧
      t.pending = s.pending := by
  unfold handoverDrop; dsimp only; (repeat' split) <;> simp
@[simp] theorem frame_awaitBoundary (s : State) :
    let t := (awaitBoundary s); t.sys = s.sys ∧ t.reqs = s.reqs ∧ t.counters = s.counters ∧ t.hank = s.hank ∧
      t.distaff = s.distaff ∧ t.func = s.func ∧ t.store = s.store ∧ t.core = s.core ∧ t.emergency = s.emergency ∧
      t.lanes = s.lanes ∧ t.tally = s.tally ∧ t.outs = s.outs ∧ t.inputs = s.inputs ∧ t.strike = s.strike ∧ t.gnss = s.gnss ∧
      t.clock = s.clock ∧ t.sun = s.sun ∧ t.eth = s.eth ∧ t.skein = s.skein ∧ t.panel = s.panel ∧ t.sent = s.sent ∧
      t.free = s.free ∧ t.pending = s.pending := by
  simp [awaitBoundary]
@[simp] theorem frame_afterCommit (f : Time) (s : State) :
    let t := (afterCommit f s); t.reqs = s.reqs ∧ t.emergency = s.emergency ∧ t.strike = s.strike ∧ t.clock = s.clock ∧
      t.sun = s.sun ∧ t.eth = s.eth ∧ t.pending = s.pending := by
  unfold afterCommit; dsimp only; (repeat' split) <;> simp
@[simp] theorem frame_pauseBoundary (s : State) :
    let t := (pauseBoundary s); t.emergency = s.emergency ∧ t.clock = s.clock ∧ t.eth = s.eth ∧ t.free = s.free ∧
      t.pending = s.pending := by
  unfold pauseBoundary; dsimp only; (repeat' split) <;> simp
@[simp] theorem frame_pauseBoundary_core (s : State) :
    (pauseBoundary s).core = s.core := by
  unfold pauseBoundary; dsimp only; (repeat' split) <;> simp
@[simp] theorem frame_pauseBoundary_gnss (s : State) :
    (pauseBoundary s).gnss = s.gnss := by
  unfold pauseBoundary; dsimp only; (repeat' split) <;> simp
@[simp] theorem frame_pauseBoundary_inputs (s : State) :
    (pauseBoundary s).inputs = s.inputs := by
  unfold pauseBoundary; dsimp only; (repeat' split) <;> simp
@[simp] theorem frame_pauseBoundary_panel (s : State) :
    (pauseBoundary s).panel = s.panel := by
  unfold pauseBoundary; dsimp only; (repeat' split) <;> simp
@[simp] theorem frame_pauseBoundary_reqs (s : State) :
    (pauseBoundary s).reqs = s.reqs := by
  unfold pauseBoundary; dsimp only; (repeat' split) <;> simp
@[simp] theorem frame_pauseBoundary_strike (s : State) :
    (pauseBoundary s).strike = s.strike := by
  unfold pauseBoundary; dsimp only; (repeat' split) <;> simp
@[simp] theorem frame_pauseBoundary_sun (s : State) :
    (pauseBoundary s).sun = s.sun := by
  unfold pauseBoundary; dsimp only; (repeat' split) <;> simp
@[simp] theorem frame_handoverBoundary (s : State) :
    let t := (handoverBoundary s); t.sys = s.sys ∧ t.reqs = s.reqs ∧ t.distaff = s.distaff ∧ t.func = s.func ∧
      t.store = s.store ∧ t.emergency = s.emergency ∧ t.strike = s.strike ∧ t.clock = s.clock ∧ t.sun = s.sun ∧
      t.eth = s.eth ∧ t.pending = s.pending := by
  unfold handoverBoundary; dsimp only; (repeat' split) <;> simp
@[simp] theorem frame_rejoin (s : State) :
    let t := (rejoin s); t.sys = s.sys ∧ t.reqs = s.reqs ∧ t.hank = s.hank ∧ t.distaff = s.distaff ∧ t.func = s.func ∧
      t.store = s.store ∧ t.spool = s.spool ∧ t.emergency = s.emergency ∧ t.tally = s.tally ∧ t.outs = s.outs ∧
      t.inputs = s.inputs ∧ t.strike = s.strike ∧ t.gnss = s.gnss ∧ t.clock = s.clock ∧ t.sun = s.sun ∧ t.eth = s.eth ∧
      t.panel = s.panel ∧ t.sent = s.sent ∧ t.free = s.free ∧ t.pending = s.pending := by
  unfold rejoin; dsimp only; (repeat' split) <;> simp
@[simp] theorem frame_commitSet (s : State) :
    let t := (commitSet s); t.emergency = s.emergency ∧ t.clock = s.clock ∧ t.eth = s.eth ∧ t.free = s.free ∧
      t.pending = s.pending := by
  unfold commitSet; dsimp only; (repeat' split) <;> simp
@[simp] theorem frame_commitSet_core (s : State) :
    (commitSet s).core = s.core := by
  unfold commitSet; dsimp only; (repeat' split) <;> simp
@[simp] theorem frame_commitSet_counters (s : State) :
    (commitSet s).counters = s.counters := by
  unfold commitSet; dsimp only; (repeat' split) <;> simp
@[simp] theorem frame_commitSet_distaff (s : State) :
    (commitSet s).distaff = s.distaff := by
  unfold commitSet; dsimp only; (repeat' split) <;> simp
@[simp] theorem frame_commitSet_func (s : State) :
    (commitSet s).func = s.func := by
  unfold commitSet; dsimp only; (repeat' split) <;> simp
@[simp] theorem frame_commitSet_gnss (s : State) :
    (commitSet s).gnss = s.gnss := by
  unfold commitSet; dsimp only; (repeat' split) <;> simp
@[simp] theorem frame_commitSet_inputs (s : State) :
    (commitSet s).inputs = s.inputs := by
  unfold commitSet; dsimp only; (repeat' split) <;> simp
@[simp] theorem frame_commitSet_outs (s : State) :
    (commitSet s).outs = s.outs := by
  unfold commitSet; dsimp only; (repeat' split) <;> simp
@[simp] theorem frame_commitSet_reqs (s : State) :
    (commitSet s).reqs = s.reqs := by
  unfold commitSet; dsimp only; (repeat' split) <;> simp
@[simp] theorem frame_commitSet_skein (s : State) :
    (commitSet s).skein = s.skein := by
  unfold commitSet; dsimp only; (repeat' split) <;> simp
@[simp] theorem frame_commitSet_spool (s : State) :
    (commitSet s).spool = s.spool := by
  unfold commitSet; dsimp only; (repeat' split) <;> simp
@[simp] theorem frame_commitSet_store (s : State) :
    (commitSet s).store = s.store := by
  unfold commitSet; dsimp only; (repeat' split) <;> simp
@[simp] theorem frame_commitSet_strike (s : State) :
    (commitSet s).strike = s.strike := by
  unfold commitSet; dsimp only; (repeat' split) <;> simp
@[simp] theorem frame_commitSet_sun (s : State) :
    (commitSet s).sun = s.sun := by
  unfold commitSet; dsimp only; (repeat' split) <;> simp
@[simp] theorem frame_commitSet_sys (s : State) :
    (commitSet s).sys = s.sys := by
  unfold commitSet; dsimp only; (repeat' split) <;> simp
@[simp] theorem frame_commitSet_tally (s : State) :
    (commitSet s).tally = s.tally := by
  unfold commitSet; dsimp only; (repeat' split) <;> simp
@[simp] theorem frame_recoverJournal (s : State) :
    let t := (recoverJournal s); t.emergency = s.emergency ∧ t.clock = s.clock ∧ t.eth = s.eth ∧ t.pending = s.pending := by
  dsimp only; unfold recoverJournal; (repeat' split) <;> simp
@[simp] theorem frame_recoverJournal_core (s : State) :
    (recoverJournal s).core = s.core := by
  unfold recoverJournal; (repeat' split) <;> simp
@[simp] theorem frame_recoverJournal_distaff (s : State) :
    (recoverJournal s).distaff = s.distaff := by
  unfold recoverJournal; (repeat' split) <;> simp
@[simp] theorem frame_recoverJournal_func (s : State) :
    (recoverJournal s).func = s.func := by
  unfold recoverJournal; (repeat' split) <;> simp
@[simp] theorem frame_recoverJournal_inputs (s : State) :
    (recoverJournal s).inputs = s.inputs := by
  unfold recoverJournal; (repeat' split) <;> simp
@[simp] theorem frame_recoverJournal_reqs (s : State) :
    (recoverJournal s).reqs = s.reqs := by
  unfold recoverJournal; (repeat' split) <;> simp
@[simp] theorem frame_recoverJournal_spool (s : State) :
    (recoverJournal s).spool = s.spool := by
  unfold recoverJournal; (repeat' split) <;> simp
@[simp] theorem frame_recoverJournal_store (s : State) :
    (recoverJournal s).store = s.store := by
  unfold recoverJournal; (repeat' split) <;> simp
@[simp] theorem frame_recoverJournal_strike (s : State) :
    (recoverJournal s).strike = s.strike := by
  unfold recoverJournal; (repeat' split) <;> simp
@[simp] theorem frame_recoverJournal_sun (s : State) :
    (recoverJournal s).sun = s.sun := by
  unfold recoverJournal; (repeat' split) <;> simp
@[simp] theorem frame_recoverJournal_sys (s : State) :
    (recoverJournal s).sys = s.sys := by
  unfold recoverJournal; (repeat' split) <;> simp
@[simp] theorem frame_dark (s : State) :
    let t := (dark s); t.emergency = s.emergency ∧ t.sent = s.sent ∧ t.free = s.free ∧ t.pending = s.pending := by
  simp [dark]
@[simp] theorem frame_enterMidnight (s : State) :
    let t := (enterMidnight s); t.emergency = s.emergency ∧ t.pending = s.pending := by
  simp [enterMidnight]
@[simp] theorem frame_powerOff (t : Time) (s : State) :
    let t := (powerOff t s); t.emergency = s.emergency ∧ t.sent = s.sent ∧ t.free = s.free ∧ t.pending = s.pending := by
  simp [powerOff]
@[simp] theorem frame_coldDawn (code line : BitVec 4) (why : DayCause) (s : State) :
    let t := (coldDawn code line why s); t.distaff = s.distaff ∧ t.func = s.func ∧ t.store = s.store ∧
      t.spool = s.spool ∧ t.emergency = s.emergency ∧ t.strike = s.strike ∧ t.clock = s.clock ∧ t.sun = s.sun ∧
      t.eth = s.eth ∧ t.panel = s.panel ∧ t.free = s.free ∧ t.pending = s.pending := by
  simp [coldDawn]
@[simp] theorem frame_coldDawn_core (code line : BitVec 4) (why : DayCause) (s : State) :
    (coldDawn code line why s).core = s.core := by
  simp [coldDawn]
@[simp] theorem frame_coldDawn_counters (code line : BitVec 4) (why : DayCause) (s : State) :
    (coldDawn code line why s).counters = s.counters := by
  simp [coldDawn]
@[simp] theorem frame_coldDawn_gnss (code line : BitVec 4) (why : DayCause) (s : State) :
    (coldDawn code line why s).gnss = s.gnss := by
  simp [coldDawn]
@[simp] theorem frame_coldDawn_inputs (code line : BitVec 4) (why : DayCause) (s : State) :
    (coldDawn code line why s).inputs = s.inputs := by
  simp [coldDawn]
@[simp] theorem frame_coldDawn_lanes (code line : BitVec 4) (why : DayCause) (s : State) :
    (coldDawn code line why s).lanes = s.lanes := by
  simp [coldDawn]
@[simp] theorem frame_coldDawn_reqs (code line : BitVec 4) (why : DayCause) (s : State) :
    (coldDawn code line why s).reqs = s.reqs := by
  simp [coldDawn]
@[simp] theorem frame_coldDawn_tally (code line : BitVec 4) (why : DayCause) (s : State) :
    (coldDawn code line why s).tally = s.tally := by
  simp [coldDawn]
@[simp] theorem frame_coldDawn_upd (code line : BitVec 4) (why : DayCause) (s : State) :
    (coldDawn code line why s).upd = s.upd := by
  simp [coldDawn]
@[simp] theorem frame_spendBackup (t : Time) (s : State) :
    let t := (spendBackup t s); t.sys = s.sys ∧ t.reqs = s.reqs ∧ t.counters = s.counters ∧ t.hank = s.hank ∧
      t.distaff = s.distaff ∧ t.func = s.func ∧ t.store = s.store ∧ t.core = s.core ∧ t.spool = s.spool ∧
      t.emergency = s.emergency ∧ t.lanes = s.lanes ∧ t.tally = s.tally ∧ t.outs = s.outs ∧ t.inputs = s.inputs ∧
      t.strike = s.strike ∧ t.gnss = s.gnss ∧ t.clock = s.clock ∧ t.eth = s.eth ∧ t.skein = s.skein ∧ t.upd = s.upd ∧
      t.panel = s.panel ∧ t.sent = s.sent ∧ t.free = s.free ∧ t.pending = s.pending := by
  unfold spendBackup; dsimp only; (repeat' split) <;> simp
@[simp] theorem frame_fromOff (t : Time) (s : State) :
    let t := (fromOff t s); t.reqs = s.reqs ∧ t.counters = s.counters ∧ t.distaff = s.distaff ∧ t.func = s.func ∧
      t.store = s.store ∧ t.core = s.core ∧ t.spool = s.spool ∧ t.emergency = s.emergency ∧ t.lanes = s.lanes ∧
      t.tally = s.tally ∧ t.inputs = s.inputs ∧ t.strike = s.strike ∧ t.gnss = s.gnss ∧ t.clock = s.clock ∧
      t.eth = s.eth ∧ t.upd = s.upd ∧ t.panel = s.panel ∧ t.pending = s.pending := by
  unfold fromOff; dsimp only; (repeat' split) <;> simp
@[simp] theorem frame_goStep (d : DawnStep) (s : State) :
    let t := (goStep d s); t.reqs = s.reqs ∧ t.counters = s.counters ∧ t.hank = s.hank ∧ t.distaff = s.distaff ∧
      t.func = s.func ∧ t.store = s.store ∧ t.core = s.core ∧ t.spool = s.spool ∧ t.emergency = s.emergency ∧
      t.lanes = s.lanes ∧ t.tally = s.tally ∧ t.outs = s.outs ∧ t.inputs = s.inputs ∧ t.strike = s.strike ∧
      t.gnss = s.gnss ∧ t.clock = s.clock ∧ t.sun = s.sun ∧ t.eth = s.eth ∧ t.skein = s.skein ∧ t.upd = s.upd ∧
      t.panel = s.panel ∧ t.sent = s.sent ∧ t.free = s.free ∧ t.pending = s.pending := by
  simp [goStep]
@[simp] theorem frame_tested (l : Lane) (pass : Bool) (s : State) :
    let t := (tested l pass s); t.sys = s.sys ∧ t.reqs = s.reqs ∧ t.counters = s.counters ∧ t.hank = s.hank ∧
      t.distaff = s.distaff ∧ t.func = s.func ∧ t.store = s.store ∧ t.core = s.core ∧ t.spool = s.spool ∧
      t.emergency = s.emergency ∧ t.tally = s.tally ∧ t.outs = s.outs ∧ t.inputs = s.inputs ∧ t.strike = s.strike ∧
      t.gnss = s.gnss ∧ t.clock = s.clock ∧ t.sun = s.sun ∧ t.eth = s.eth ∧ t.skein = s.skein ∧ t.upd = s.upd ∧
      t.panel = s.panel ∧ t.sent = s.sent ∧ t.free = s.free ∧ t.pending = s.pending := by
  dsimp only; unfold tested; (repeat' split) <;> simp
@[simp] theorem frame_setCopSlot (b : Bool) (x : CopSlot) (s : State) :
    let t := (setCopSlot b x s); t.sys = s.sys ∧ t.reqs = s.reqs ∧ t.counters = s.counters ∧ t.hank = s.hank ∧
      t.distaff = s.distaff ∧ t.func = s.func ∧ t.core = s.core ∧ t.spool = s.spool ∧ t.emergency = s.emergency ∧
      t.lanes = s.lanes ∧ t.tally = s.tally ∧ t.outs = s.outs ∧ t.inputs = s.inputs ∧ t.strike = s.strike ∧
      t.gnss = s.gnss ∧ t.clock = s.clock ∧ t.sun = s.sun ∧ t.eth = s.eth ∧ t.skein = s.skein ∧ t.upd = s.upd ∧
      t.panel = s.panel ∧ t.sent = s.sent ∧ t.free = s.free ∧ t.pending = s.pending := by
  simp [setCopSlot]
@[simp] theorem frame_setVal (x : CopSlot) (s : State) :
    let t := (setVal x s); t.sys = s.sys ∧ t.reqs = s.reqs ∧ t.counters = s.counters ∧ t.hank = s.hank ∧
      t.distaff = s.distaff ∧ t.func = s.func ∧ t.core = s.core ∧ t.spool = s.spool ∧ t.emergency = s.emergency ∧
      t.lanes = s.lanes ∧ t.tally = s.tally ∧ t.outs = s.outs ∧ t.inputs = s.inputs ∧ t.strike = s.strike ∧
      t.gnss = s.gnss ∧ t.clock = s.clock ∧ t.sun = s.sun ∧ t.eth = s.eth ∧ t.skein = s.skein ∧ t.upd = s.upd ∧
      t.panel = s.panel ∧ t.sent = s.sent ∧ t.free = s.free ∧ t.pending = s.pending := by
  simp [setVal]
@[simp] theorem frame_reachNoCop (cause : BitVec 8) (refusal : BitVec 16) (s : State) :
    let t := (reachNoCop cause refusal s); t.reqs = s.reqs ∧ t.distaff = s.distaff ∧ t.func = s.func ∧
      t.store = s.store ∧ t.spool = s.spool ∧ t.emergency = s.emergency ∧ t.strike = s.strike ∧ t.clock = s.clock ∧
      t.sun = s.sun ∧ t.eth = s.eth ∧ t.pending = s.pending := by
  unfold reachNoCop; dsimp only; (repeat' split) <;> simp
@[simp] theorem frame_copEvent (s : State) :
    let t := (copEvent s); t.sys = s.sys ∧ t.reqs = s.reqs ∧ t.counters = s.counters ∧ t.distaff = s.distaff ∧
      t.func = s.func ∧ t.store = s.store ∧ t.core = s.core ∧ t.spool = s.spool ∧ t.emergency = s.emergency ∧
      t.lanes = s.lanes ∧ t.tally = s.tally ∧ t.outs = s.outs ∧ t.inputs = s.inputs ∧ t.strike = s.strike ∧
      t.gnss = s.gnss ∧ t.clock = s.clock ∧ t.sun = s.sun ∧ t.eth = s.eth ∧ t.skein = s.skein ∧ t.upd = s.upd ∧
      t.panel = s.panel ∧ t.free = s.free ∧ t.pending = s.pending := by
  simp [copEvent]
@[simp] theorem frame_copRefused (f : CopFault) (s : State) :
    let t := (copRefused f s); t.reqs = s.reqs ∧ t.distaff = s.distaff ∧ t.func = s.func ∧ t.spool = s.spool ∧
      t.emergency = s.emergency ∧ t.strike = s.strike ∧ t.clock = s.clock ∧ t.sun = s.sun ∧ t.eth = s.eth ∧
      t.pending = s.pending := by
  unfold copRefused; dsimp only; (repeat' split) <;> simp
@[simp] theorem frame_copPassed (r : CopResult) (s : State) :
    let t := (copPassed r s); t.reqs = s.reqs ∧ t.counters = s.counters ∧ t.distaff = s.distaff ∧ t.func = s.func ∧
      t.core = s.core ∧ t.spool = s.spool ∧ t.emergency = s.emergency ∧ t.lanes = s.lanes ∧ t.tally = s.tally ∧
      t.outs = s.outs ∧ t.inputs = s.inputs ∧ t.strike = s.strike ∧ t.gnss = s.gnss ∧ t.clock = s.clock ∧
      t.sun = s.sun ∧ t.eth = s.eth ∧ t.upd = s.upd ∧ t.panel = s.panel ∧ t.free = s.free ∧ t.pending = s.pending := by
  unfold copPassed; dsimp only; (repeat' split) <;> simp
@[simp] theorem frame_portMorning (n : Nat) (s : State) :
    let t := (portMorning n s); t.sys = s.sys ∧ t.reqs = s.reqs ∧ t.distaff = s.distaff ∧ t.func = s.func ∧
      t.store = s.store ∧ t.spool = s.spool ∧ t.emergency = s.emergency ∧ t.strike = s.strike ∧ t.clock = s.clock ∧
      t.sun = s.sun ∧ t.eth = s.eth ∧ t.pending = s.pending := by
  unfold portMorning; dsimp only; (repeat' split) <;> simp
@[simp] theorem frame_supMorning (n : Nat) (s : State) :
    let t := (supMorning n s); t.sys = s.sys ∧ t.reqs = s.reqs ∧ t.distaff = s.distaff ∧ t.func = s.func ∧
      t.store = s.store ∧ t.spool = s.spool ∧ t.emergency = s.emergency ∧ t.strike = s.strike ∧ t.clock = s.clock ∧
      t.sun = s.sun ∧ t.eth = s.eth ∧ t.pending = s.pending := by
  unfold supMorning; dsimp only; (repeat' split) <;> simp
@[simp] theorem frame_enterMorning (s : State) :
    let t := (enterMorning s); t.reqs = s.reqs ∧ t.distaff = s.distaff ∧ t.func = s.func ∧ t.spool = s.spool ∧
      t.emergency = s.emergency ∧ t.clock = s.clock ∧ t.sun = s.sun ∧ t.pending = s.pending := by
  unfold enterMorning; dsimp only; (repeat' split) <;> simp
@[simp] theorem frame_dropStale (n : Nat) (s : State) :
    let t := (dropStale n s); t.sys = s.sys ∧ t.reqs = s.reqs ∧ t.counters = s.counters ∧ t.hank = s.hank ∧
      t.distaff = s.distaff ∧ t.func = s.func ∧ t.store = s.store ∧ t.core = s.core ∧ t.spool = s.spool ∧
      t.emergency = s.emergency ∧ t.lanes = s.lanes ∧ t.tally = s.tally ∧ t.inputs = s.inputs ∧ t.strike = s.strike ∧
      t.gnss = s.gnss ∧ t.clock = s.clock ∧ t.sun = s.sun ∧ t.eth = s.eth ∧ t.skein = s.skein ∧ t.upd = s.upd ∧
      t.panel = s.panel ∧ t.sent = s.sent ∧ t.free = s.free ∧ t.pending = s.pending := by
  unfold dropStale; dsimp only; (repeat' split) <;> simp
@[simp] theorem frame_armNow (why : DayCause) (s : State) :
    let t := (armNow why s); t.reqs = s.reqs ∧ t.counters = s.counters ∧ t.distaff = s.distaff ∧ t.func = s.func ∧
      t.store = s.store ∧ t.spool = s.spool ∧ t.emergency = s.emergency ∧ t.lanes = s.lanes ∧ t.tally = s.tally ∧
      t.inputs = s.inputs ∧ t.strike = s.strike ∧ t.gnss = s.gnss ∧ t.clock = s.clock ∧ t.sun = s.sun ∧ t.eth = s.eth ∧
      t.panel = s.panel ∧ t.free = s.free ∧ t.pending = s.pending := by
  simp [armNow]
@[simp] theorem frame_armNow_upd (why : DayCause) (s : State) :
    (armNow why s).upd = s.upd := by
  simp [armNow]
@[simp] theorem frame_startChan (c : Chan) (s : State) :
    let t := (startChan c s); t.sys = s.sys ∧ t.reqs = s.reqs ∧ t.distaff = s.distaff ∧ t.func = s.func ∧
      t.store = s.store ∧ t.spool = s.spool ∧ t.emergency = s.emergency ∧ t.strike = s.strike ∧ t.clock = s.clock ∧
      t.sun = s.sun ∧ t.eth = s.eth ∧ t.pending = s.pending := by
  unfold startChan; (repeat' split) <;> simp
@[simp] theorem frame_stopTasks (s : State) :
    let t := (stopTasks s); t.sys = s.sys ∧ t.reqs = s.reqs ∧ t.counters = s.counters ∧ t.hank = s.hank ∧
      t.distaff = s.distaff ∧ t.func = s.func ∧ t.store = s.store ∧ t.spool = s.spool ∧ t.emergency = s.emergency ∧
      t.lanes = s.lanes ∧ t.tally = s.tally ∧ t.outs = s.outs ∧ t.inputs = s.inputs ∧ t.strike = s.strike ∧
      t.gnss = s.gnss ∧ t.clock = s.clock ∧ t.sun = s.sun ∧ t.eth = s.eth ∧ t.skein = s.skein ∧ t.upd = s.upd ∧
      t.panel = s.panel ∧ t.sent = s.sent ∧ t.free = s.free ∧ t.pending = s.pending := by
  simp [stopTasks]
@[simp] theorem frame_duskOutputs (s : State) :
    let t := (duskOutputs s); t.reqs = s.reqs ∧ t.distaff = s.distaff ∧ t.func = s.func ∧ t.store = s.store ∧
      t.spool = s.spool ∧ t.emergency = s.emergency ∧ t.clock = s.clock ∧ t.sun = s.sun ∧ t.eth = s.eth ∧
      t.pending = s.pending := by
  unfold duskOutputs; dsimp only; (repeat' split) <;> simp
@[simp] theorem frame_duskPanel (s : State) :
    let t := (duskPanel s); t.sys = s.sys ∧ t.reqs = s.reqs ∧ t.distaff = s.distaff ∧ t.func = s.func ∧
      t.store = s.store ∧ t.spool = s.spool ∧ t.emergency = s.emergency ∧ t.strike = s.strike ∧ t.clock = s.clock ∧
      t.sun = s.sun ∧ t.eth = s.eth ∧ t.pending = s.pending := by
  simp [duskPanel]
@[simp] theorem frame_goDusk (n : Nat) (s : State) :
    let t := (goDusk n s); t.reqs = s.reqs ∧ t.counters = s.counters ∧ t.hank = s.hank ∧ t.distaff = s.distaff ∧
      t.func = s.func ∧ t.store = s.store ∧ t.core = s.core ∧ t.spool = s.spool ∧ t.emergency = s.emergency ∧
      t.lanes = s.lanes ∧ t.tally = s.tally ∧ t.outs = s.outs ∧ t.inputs = s.inputs ∧ t.strike = s.strike ∧
      t.gnss = s.gnss ∧ t.clock = s.clock ∧ t.sun = s.sun ∧ t.eth = s.eth ∧ t.skein = s.skein ∧ t.upd = s.upd ∧
      t.panel = s.panel ∧ t.sent = s.sent ∧ t.free = s.free ∧ t.pending = s.pending := by
  simp [goDusk]
@[simp] theorem frame_copyEmergency (s : State) :
    let t := (copyEmergency s); t.sys = s.sys ∧ t.reqs = s.reqs ∧ t.counters = s.counters ∧ t.hank = s.hank ∧
      t.distaff = s.distaff ∧ t.func = s.func ∧ t.store = s.store ∧ t.core = s.core ∧ t.spool = s.spool ∧
      t.lanes = s.lanes ∧ t.tally = s.tally ∧ t.outs = s.outs ∧ t.inputs = s.inputs ∧ t.strike = s.strike ∧
      t.gnss = s.gnss ∧ t.clock = s.clock ∧ t.sun = s.sun ∧ t.eth = s.eth ∧ t.skein = s.skein ∧ t.upd = s.upd ∧
      t.panel = s.panel ∧ t.sent = s.sent ∧ t.free = s.free ∧ t.pending = s.pending := by
  unfold copyEmergency; (repeat' split) <;> simp
@[simp] theorem frame_panelHoldup (s : State) :
    let t := (panelHoldup s); t.sys = s.sys ∧ t.reqs = s.reqs ∧ t.distaff = s.distaff ∧ t.func = s.func ∧
      t.store = s.store ∧ t.spool = s.spool ∧ t.emergency = s.emergency ∧ t.strike = s.strike ∧ t.clock = s.clock ∧
      t.sun = s.sun ∧ t.eth = s.eth ∧ t.pending = s.pending := by
  unfold panelHoldup; (repeat' split) <;> simp
@[simp] theorem frame_enterFlight (who : Requester) (s : State) :
    let t := (enterFlight who s); t.sys = s.sys ∧ t.reqs = s.reqs ∧ t.counters = s.counters ∧ t.distaff = s.distaff ∧
      t.func = s.func ∧ t.store = s.store ∧ t.core = s.core ∧ t.spool = s.spool ∧ t.emergency = s.emergency ∧
      t.lanes = s.lanes ∧ t.tally = s.tally ∧ t.outs = s.outs ∧ t.inputs = s.inputs ∧ t.strike = s.strike ∧
      t.gnss = s.gnss ∧ t.clock = s.clock ∧ t.sun = s.sun ∧ t.eth = s.eth ∧ t.skein = s.skein ∧ t.upd = s.upd ∧
      t.panel = s.panel ∧ t.sent = s.sent ∧ t.free = s.free ∧ t.pending = s.pending := by
  simp [enterFlight]
@[simp] theorem frame_leaveFlight (who : Requester) (s : State) :
    let t := (leaveFlight who s); t.sys = s.sys ∧ t.reqs = s.reqs ∧ t.counters = s.counters ∧ t.distaff = s.distaff ∧
      t.func = s.func ∧ t.store = s.store ∧ t.core = s.core ∧ t.spool = s.spool ∧ t.emergency = s.emergency ∧
      t.lanes = s.lanes ∧ t.tally = s.tally ∧ t.outs = s.outs ∧ t.inputs = s.inputs ∧ t.strike = s.strike ∧
      t.gnss = s.gnss ∧ t.clock = s.clock ∧ t.sun = s.sun ∧ t.eth = s.eth ∧ t.skein = s.skein ∧ t.upd = s.upd ∧
      t.panel = s.panel ∧ t.sent = s.sent ∧ t.free = s.free ∧ t.pending = s.pending := by
  simp [leaveFlight]
@[simp] theorem frame_warnDepth (s : State) :
    let t := (warnDepth s); t.sys = s.sys ∧ t.reqs = s.reqs ∧ t.counters = s.counters ∧ t.hank = s.hank ∧
      t.func = s.func ∧ t.store = s.store ∧ t.core = s.core ∧ t.spool = s.spool ∧ t.emergency = s.emergency ∧
      t.lanes = s.lanes ∧ t.tally = s.tally ∧ t.outs = s.outs ∧ t.inputs = s.inputs ∧ t.strike = s.strike ∧
      t.gnss = s.gnss ∧ t.clock = s.clock ∧ t.sun = s.sun ∧ t.eth = s.eth ∧ t.panel = s.panel ∧ t.sent = s.sent ∧
      t.free = s.free ∧ t.pending = s.pending := by
  dsimp only; unfold warnDepth; (repeat' split) <;> simp
@[simp] theorem frame_warnDepth_upd (s : State) :
    (warnDepth s).upd = s.upd := by
  unfold warnDepth; (repeat' split) <;> simp
@[simp] theorem frame_queueRequest (cls : Nat) (r : Req) (c : Instr) (s : State) :
    let t := (queueRequest cls r c s); t.sys = s.sys ∧ t.reqs = s.reqs ∧ t.func = s.func ∧ t.store = s.store ∧
      t.core = s.core ∧ t.spool = s.spool ∧ t.emergency = s.emergency ∧ t.lanes = s.lanes ∧ t.tally = s.tally ∧
      t.outs = s.outs ∧ t.inputs = s.inputs ∧ t.strike = s.strike ∧ t.gnss = s.gnss ∧ t.clock = s.clock ∧
      t.sun = s.sun ∧ t.eth = s.eth ∧ t.panel = s.panel ∧ t.free = s.free ∧ t.pending = s.pending := by
  dsimp only; unfold queueRequest; (repeat' split) <;> simp
@[simp] theorem frame_queueRequest_upd (cls : Nat) (r : Req) (c : Instr) (s : State) :
    (queueRequest cls r c s).upd = s.upd := by
  unfold queueRequest; (repeat' split) <;> simp
@[simp] theorem frame_dropQueue (s : State) :
    let t := (dropQueue s); t.sys = s.sys ∧ t.reqs = s.reqs ∧ t.counters = s.counters ∧ t.func = s.func ∧
      t.store = s.store ∧ t.core = s.core ∧ t.spool = s.spool ∧ t.emergency = s.emergency ∧ t.lanes = s.lanes ∧
      t.tally = s.tally ∧ t.outs = s.outs ∧ t.inputs = s.inputs ∧ t.strike = s.strike ∧ t.gnss = s.gnss ∧
      t.clock = s.clock ∧ t.sun = s.sun ∧ t.eth = s.eth ∧ t.skein = s.skein ∧ t.upd = s.upd ∧ t.panel = s.panel ∧
      t.sent = s.sent ∧ t.free = s.free ∧ t.pending = s.pending := by
  dsimp only; unfold dropQueue; (repeat' split) <;> simp (disch := (intros; (repeat' split) <;> simp))
@[simp] theorem frame_helloStart (r : Req) (m : HelloMsg) (s : State) :
    let t := (helloStart r m s); t.sys = s.sys ∧ t.reqs = s.reqs ∧ t.counters = s.counters ∧ t.distaff = s.distaff ∧
      t.func = s.func ∧ t.store = s.store ∧ t.core = s.core ∧ t.spool = s.spool ∧ t.emergency = s.emergency ∧
      t.lanes = s.lanes ∧ t.tally = s.tally ∧ t.outs = s.outs ∧ t.inputs = s.inputs ∧ t.strike = s.strike ∧
      t.gnss = s.gnss ∧ t.clock = s.clock ∧ t.sun = s.sun ∧ t.eth = s.eth ∧ t.skein = s.skein ∧ t.upd = s.upd ∧
      t.panel = s.panel ∧ t.pending = s.pending := by
  unfold helloStart; dsimp only; (repeat' split) <;> simp
@[simp] theorem frame_freshRequester (who : Requester) (s : State) :
    let t := (freshRequester who s); t.sys = s.sys ∧ t.counters = s.counters ∧ t.hank = s.hank ∧
      t.distaff = s.distaff ∧ t.func = s.func ∧ t.store = s.store ∧ t.core = s.core ∧ t.spool = s.spool ∧
      t.emergency = s.emergency ∧ t.lanes = s.lanes ∧ t.tally = s.tally ∧ t.outs = s.outs ∧ t.inputs = s.inputs ∧
      t.strike = s.strike ∧ t.gnss = s.gnss ∧ t.clock = s.clock ∧ t.sun = s.sun ∧ t.eth = s.eth ∧ t.skein = s.skein ∧
      t.upd = s.upd ∧ t.panel = s.panel ∧ t.sent = s.sent ∧ t.free = s.free ∧ t.pending = s.pending := by
  unfold freshRequester; (repeat' split) <;> simp
@[simp] theorem frame_helloEnd (r : Req) (m : HelloMsg) (s : State) :
    let t := (helloEnd r m s); t.sys = s.sys ∧ t.core = s.core ∧ t.spool = s.spool ∧ t.emergency = s.emergency ∧
      t.lanes = s.lanes ∧ t.tally = s.tally ∧ t.outs = s.outs ∧ t.inputs = s.inputs ∧ t.strike = s.strike ∧
      t.gnss = s.gnss ∧ t.clock = s.clock ∧ t.sun = s.sun ∧ t.eth = s.eth ∧ t.upd = s.upd ∧ t.panel = s.panel ∧
      t.free = s.free ∧ t.pending = s.pending := by
  unfold helloEnd; dsimp only; (repeat' split) <;> simp
@[simp] theorem frame_runHello (r : Req) (m : HelloMsg) (s : State) :
    let t := (runHello r m s); t.sys = s.sys ∧ t.core = s.core ∧ t.spool = s.spool ∧ t.emergency = s.emergency ∧
      t.lanes = s.lanes ∧ t.tally = s.tally ∧ t.outs = s.outs ∧ t.inputs = s.inputs ∧ t.strike = s.strike ∧
      t.gnss = s.gnss ∧ t.clock = s.clock ∧ t.sun = s.sun ∧ t.eth = s.eth ∧ t.upd = s.upd ∧ t.panel = s.panel ∧
      t.pending = s.pending := by
  unfold runHello; (repeat' split) <;> simp
@[simp] theorem frame_copBegin (who : Requester) (total : Nat) (digest : BitVec 256) (s : State) :
    let t := (copBegin who total digest s).2; t.sys = s.sys ∧ t.reqs = s.reqs ∧ t.counters = s.counters ∧
      t.hank = s.hank ∧ t.distaff = s.distaff ∧ t.func = s.func ∧ t.core = s.core ∧ t.spool = s.spool ∧
      t.emergency = s.emergency ∧ t.lanes = s.lanes ∧ t.outs = s.outs ∧ t.inputs = s.inputs ∧ t.strike = s.strike ∧
      t.gnss = s.gnss ∧ t.clock = s.clock ∧ t.sun = s.sun ∧ t.eth = s.eth ∧ t.skein = s.skein ∧ t.upd = s.upd ∧
      t.panel = s.panel ∧ t.sent = s.sent ∧ t.free = s.free ∧ t.pending = s.pending := by
  unfold copBegin; dsimp only; (repeat' split) <;> simp
@[simp] theorem frame_copData (who : Requester) (offset : Nat) (bytes : List Byte) (s : State) :
    let t := (copData who offset bytes s).2; t.sys = s.sys ∧ t.reqs = s.reqs ∧ t.distaff = s.distaff ∧
      t.func = s.func ∧ t.spool = s.spool ∧ t.emergency = s.emergency ∧ t.strike = s.strike ∧ t.clock = s.clock ∧
      t.sun = s.sun ∧ t.eth = s.eth ∧ t.pending = s.pending := by
  unfold copData; dsimp only; (repeat' split) <;> simp
@[simp] theorem frame_copCommit (who : Requester) (s : State) :
    let t := (copCommit who s).2; t.sys = s.sys ∧ t.reqs = s.reqs ∧ t.counters = s.counters ∧ t.hank = s.hank ∧
      t.distaff = s.distaff ∧ t.func = s.func ∧ t.core = s.core ∧ t.spool = s.spool ∧ t.emergency = s.emergency ∧
      t.lanes = s.lanes ∧ t.tally = s.tally ∧ t.outs = s.outs ∧ t.inputs = s.inputs ∧ t.strike = s.strike ∧
      t.gnss = s.gnss ∧ t.clock = s.clock ∧ t.sun = s.sun ∧ t.eth = s.eth ∧ t.skein = s.skein ∧ t.upd = s.upd ∧
      t.panel = s.panel ∧ t.sent = s.sent ∧ t.free = s.free ∧ t.pending = s.pending := by
  unfold copCommit; dsimp only; (repeat' split) <;> simp
@[simp] theorem frame_copRevert (s : State) :
    let t := (copRevert s).2; t.sys = s.sys ∧ t.reqs = s.reqs ∧ t.counters = s.counters ∧ t.hank = s.hank ∧
      t.distaff = s.distaff ∧ t.func = s.func ∧ t.core = s.core ∧ t.spool = s.spool ∧ t.emergency = s.emergency ∧
      t.lanes = s.lanes ∧ t.tally = s.tally ∧ t.outs = s.outs ∧ t.inputs = s.inputs ∧ t.strike = s.strike ∧
      t.gnss = s.gnss ∧ t.clock = s.clock ∧ t.sun = s.sun ∧ t.eth = s.eth ∧ t.skein = s.skein ∧ t.upd = s.upd ∧
      t.panel = s.panel ∧ t.sent = s.sent ∧ t.free = s.free ∧ t.pending = s.pending := by
  dsimp only; unfold copRevert; (repeat' split) <;> simp
@[simp] theorem frame_copAbort (who : Requester) (s : State) :
    let t := (copAbort who s).2; t.sys = s.sys ∧ t.reqs = s.reqs ∧ t.counters = s.counters ∧ t.hank = s.hank ∧
      t.distaff = s.distaff ∧ t.func = s.func ∧ t.core = s.core ∧ t.spool = s.spool ∧ t.emergency = s.emergency ∧
      t.lanes = s.lanes ∧ t.outs = s.outs ∧ t.inputs = s.inputs ∧ t.strike = s.strike ∧ t.gnss = s.gnss ∧
      t.clock = s.clock ∧ t.sun = s.sun ∧ t.eth = s.eth ∧ t.skein = s.skein ∧ t.upd = s.upd ∧ t.panel = s.panel ∧
      t.sent = s.sent ∧ t.free = s.free ∧ t.pending = s.pending := by
  unfold copAbort; dsimp only; (repeat' split) <;> simp
@[simp] theorem frame_closePort (p : Nat) (s : State) :
    let t := (closePort p s); t.sys = s.sys ∧ t.reqs = s.reqs ∧ t.counters = s.counters ∧ t.core = s.core ∧
      t.spool = s.spool ∧ t.emergency = s.emergency ∧ t.lanes = s.lanes ∧ t.tally = s.tally ∧ t.outs = s.outs ∧
      t.inputs = s.inputs ∧ t.strike = s.strike ∧ t.gnss = s.gnss ∧ t.clock = s.clock ∧ t.sun = s.sun ∧ t.eth = s.eth ∧
      t.skein = s.skein ∧ t.upd = s.upd ∧ t.panel = s.panel ∧ t.sent = s.sent ∧ t.free = s.free ∧ t.pending = s.pending := by
  dsimp only; unfold closePort; (repeat' apply And.intro) <;> (first | exact foldl_sys _ (by intros; dsimp only; (repeat' split) <;> simp) _ _ | exact foldl_reqs _ (by intros; dsimp only; (repeat' split) <;> simp) _ _ | exact foldl_counters _ (by intros; dsimp only; (repeat' split) <;> simp) _ _ | exact foldl_hank _ (by intros; dsimp only; (repeat' split) <;> simp) _ _ | exact foldl_distaff _ (by intros; dsimp only; (repeat' split) <;> simp) _ _ | exact foldl_func _ (by intros; dsimp only; (repeat' split) <;> simp) _ _ | exact foldl_store _ (by intros; dsimp only; (repeat' split) <;> simp) _ _ | exact foldl_core _ (by intros; dsimp only; (repeat' split) <;> simp) _ _ | exact foldl_spool _ (by intros; dsimp only; (repeat' split) <;> simp) _ _ | exact foldl_emergency _ (by intros; dsimp only; (repeat' split) <;> simp) _ _ | exact foldl_lanes _ (by intros; dsimp only; (repeat' split) <;> simp) _ _ | exact foldl_tally _ (by intros; dsimp only; (repeat' split) <;> simp) _ _ | exact foldl_outs _ (by intros; dsimp only; (repeat' split) <;> simp) _ _ | exact foldl_inputs _ (by intros; dsimp only; (repeat' split) <;> simp) _ _ | exact foldl_strike _ (by intros; dsimp only; (repeat' split) <;> simp) _ _ | exact foldl_gnss _ (by intros; dsimp only; (repeat' split) <;> simp) _ _ | exact foldl_clock _ (by intros; dsimp only; (repeat' split) <;> simp) _ _ | exact foldl_sun _ (by intros; dsimp only; (repeat' split) <;> simp) _ _ | exact foldl_eth _ (by intros; dsimp only; (repeat' split) <;> simp) _ _ | exact foldl_skein _ (by intros; dsimp only; (repeat' split) <;> simp) _ _ | exact foldl_upd _ (by intros; dsimp only; (repeat' split) <;> simp) _ _ | exact foldl_panel _ (by intros; dsimp only; (repeat' split) <;> simp) _ _ | exact foldl_sent _ (by intros; dsimp only; (repeat' split) <;> simp) _ _ | exact foldl_free _ (by intros; dsimp only; (repeat' split) <;> simp) _ _ | exact foldl_pending _ (by intros; dsimp only; (repeat' split) <;> simp) _ _)
@[simp] theorem frame_ethReinit (p : Nat) (s : State) :
    let t := (ethReinit p s); t.sys = s.sys ∧ t.reqs = s.reqs ∧ t.core = s.core ∧ t.spool = s.spool ∧
      t.emergency = s.emergency ∧ t.lanes = s.lanes ∧ t.tally = s.tally ∧ t.outs = s.outs ∧ t.inputs = s.inputs ∧
      t.strike = s.strike ∧ t.gnss = s.gnss ∧ t.clock = s.clock ∧ t.sun = s.sun ∧ t.panel = s.panel ∧ t.sent = s.sent ∧
      t.free = s.free ∧ t.pending = s.pending := by
  unfold ethReinit; dsimp only; (repeat' split) <;> simp
@[simp] theorem frame_abandonBoot (s : State) :
    let t := (abandonBoot s); t.sys = s.sys ∧ t.reqs = s.reqs ∧ t.counters = s.counters ∧ t.hank = s.hank ∧
      t.distaff = s.distaff ∧ t.func = s.func ∧ t.store = s.store ∧ t.core = s.core ∧ t.spool = s.spool ∧
      t.emergency = s.emergency ∧ t.outs = s.outs ∧ t.inputs = s.inputs ∧ t.strike = s.strike ∧ t.gnss = s.gnss ∧
      t.clock = s.clock ∧ t.sun = s.sun ∧ t.eth = s.eth ∧ t.skein = s.skein ∧ t.panel = s.panel ∧ t.sent = s.sent ∧
      t.free = s.free ∧ t.pending = s.pending := by
  unfold abandonBoot; dsimp only; (repeat' split) <;> simp
@[simp] theorem frame_resetFunction (n : Nat) (s : State) :
    let t := (resetFunction n s); t.sys = s.sys ∧ t.reqs = s.reqs ∧ t.spool = s.spool ∧ t.emergency = s.emergency ∧
      t.clock = s.clock ∧ t.sun = s.sun ∧ t.pending = s.pending := by
  unfold resetFunction; dsimp only; (repeat' split) <;> simp
@[simp] theorem frame_restart (n : Nat) (s : State) :
    let t := (restart n s); t.sys = s.sys ∧ t.reqs = s.reqs ∧ t.spool = s.spool ∧ t.emergency = s.emergency ∧
      t.clock = s.clock ∧ t.sun = s.sun ∧ t.pending = s.pending := by
  simp [restart]
@[simp] theorem frame_restartMask (m : BitVec 64) (s : State) :
    let t := (restartMask m s); t.sys = s.sys ∧ t.reqs = s.reqs ∧ t.spool = s.spool ∧ t.emergency = s.emergency ∧
      t.clock = s.clock ∧ t.sun = s.sun ∧ t.pending = s.pending := by
  unfold restartMask; (repeat' split) <;> simp (disch := (intros; (repeat' split) <;> simp))
@[simp] theorem frame_answerReinit (w : Reinit) (s : State) :
    let t := (answerReinit w s); t.sys = s.sys ∧ t.spool = s.spool ∧ t.emergency = s.emergency ∧ t.clock = s.clock ∧
      t.sun = s.sun ∧ t.pending = s.pending := by
  dsimp only; unfold answerReinit; (repeat' split) <;> simp
@[simp] theorem frame_answerReinit_reqs (w : Reinit) (s : State) :
    (answerReinit w s).reqs = s.reqs := by
  unfold answerReinit; (repeat' split) <;> simp
@[simp] theorem frame_settle (s : State) :
    let t := (settle s); t.sys = s.sys ∧ t.spool = s.spool ∧ t.emergency = s.emergency ∧ t.clock = s.clock ∧
      t.sun = s.sun ∧ t.pending = s.pending := by
  simp [settle]
@[simp] theorem frame_settle_reqs (s : State) :
    (settle s).reqs = s.reqs := by
  simp [settle]
@[simp] theorem frame_streamEntry (r : Req) (b : Nat) (l : List Byte) (s : State) :
    let t := (streamEntry r b l s).2; t.sys = s.sys ∧ t.reqs = s.reqs ∧ t.hank = s.hank ∧ t.distaff = s.distaff ∧
      t.func = s.func ∧ t.store = s.store ∧ t.spool = s.spool ∧ t.emergency = s.emergency ∧ t.lanes = s.lanes ∧
      t.tally = s.tally ∧ t.outs = s.outs ∧ t.inputs = s.inputs ∧ t.strike = s.strike ∧ t.gnss = s.gnss ∧
      t.clock = s.clock ∧ t.sun = s.sun ∧ t.eth = s.eth ∧ t.panel = s.panel ∧ t.sent = s.sent ∧ t.free = s.free ∧
      t.pending = s.pending := by
  unfold streamEntry; dsimp only; (repeat' split) <;> simp
@[simp] theorem frame_streamEntry_upd (r : Req) (b : Nat) (l : List Byte) (s : State) :
    (streamEntry r b l s).2.upd = s.upd := by
  unfold streamEntry; dsimp only; (repeat' split) <;> simp

@[simp] theorem frame_streamRecord (chan : Nat) (x : StreamRecord) (s : State) :
    let t := (streamRecord chan x s); t.sys = s.sys ∧ t.reqs = s.reqs ∧ t.hank = s.hank ∧ t.distaff = s.distaff ∧
      t.func = s.func ∧ t.store = s.store ∧ t.spool = s.spool ∧ t.emergency = s.emergency ∧ t.lanes = s.lanes ∧
      t.tally = s.tally ∧ t.outs = s.outs ∧ t.inputs = s.inputs ∧ t.strike = s.strike ∧ t.gnss = s.gnss ∧
      t.clock = s.clock ∧ t.sun = s.sun ∧ t.eth = s.eth ∧ t.panel = s.panel ∧ t.sent = s.sent ∧ t.free = s.free ∧
      t.pending = s.pending := by
  simp [streamRecord]


end Sys2Proof.Machine
end

