-- ==== Sys2Proof/Laws/MoreFrames.lean ====
section
/-! SUPPORT. Frames of the operations that run through a list of pairs, or recur: the checks of a GNSS epoch, an epoch of Ply, blocks of
registers, a queued request. -/
set_option linter.all false
namespace Sys2Proof.Machine

/-- What every step of a fold over a pair leaves, the fold leaves. -/
theorem foldl_snd {α β γ : Type} (g : State → β) (f : α × State → γ → α × State) (h : ∀ r c, g (f r c).2 = g r.2)
    (l : List γ) (r : α × State) : g (l.foldl f r).2 = g r.2 := by
  induction l generalizing r with
  | nil => rfl
  | cons c l ih => simp [ih, h]

theorem ifreqFails_eq (l : List GnssMeas) (s : State) : (ifreqFails l s).2 = { s with free := (ifreqFails l s).2.free } := by
  have h := foldl_snd (fun t : State => { t with free := 0 }) (fun (r : List Nat × State) (a : GnssMeas) =>
    let x := gch r.2 a.ch
    match l.find? fun b => decide (l5Of x.signal = some (gch r.2 b.ch).signal) && decide ((gch r.2 b.ch).sv = x.sv)
        && decide ((gch r.2 b.ch).ant = x.ant) with
    | some b =>
      let (w, s) := nextFree r.2
      if 10000 < (b.pseudorange - a.pseudorange - w.toInt).natAbs then (r.1 ++ [a.ch, b.ch], s) else (r.1, s)
    | none => r) (by intro r c; dsimp only; split <;> (try split) <;> rfl) l ([], s)
  have e : ∀ t : State, ({ t with free := 0 } : State) = { s with free := 0 } → t = { s with free := t.free } := by
    intro t ht
    calc t = { ({ t with free := 0 } : State) with free := t.free } := rfl
      _ = _ := by rw [ht]
  exact e _ h

@[simp] theorem frame_ifreqFails (l : List GnssMeas) (s : State) :
    let t := (ifreqFails l s).2; t.sys = s.sys ∧ t.reqs = s.reqs ∧ t.counters = s.counters ∧ t.hank = s.hank ∧
      t.distaff = s.distaff ∧ t.func = s.func ∧ t.store = s.store ∧ t.core = s.core ∧ t.spool = s.spool ∧
      t.emergency = s.emergency ∧ t.lanes = s.lanes ∧ t.tally = s.tally ∧ t.outs = s.outs ∧ t.inputs = s.inputs ∧
      t.strike = s.strike ∧ t.gnss = s.gnss ∧ t.clock = s.clock ∧ t.sun = s.sun ∧ t.eth = s.eth ∧ t.skein = s.skein ∧
      t.upd = s.upd ∧ t.panel = s.panel ∧ t.sent = s.sent ∧ t.pending = s.pending := by
  dsimp only; rw [ifreqFails_eq]; simp

@[simp] theorem frame_runChecks (l : List GnssMeas) (f : GnssFronts) (s : State) :
    let t := runChecks l f s; t.sys = s.sys ∧ t.reqs = s.reqs ∧ t.hank = s.hank ∧ t.distaff = s.distaff ∧ t.func = s.func ∧
      t.store = s.store ∧ t.core = s.core ∧ t.spool = s.spool ∧ t.emergency = s.emergency ∧ t.lanes = s.lanes ∧ t.tally = s.tally ∧
      t.outs = s.outs ∧ t.inputs = s.inputs ∧ t.strike = s.strike ∧ t.clock = s.clock ∧ t.eth = s.eth ∧ t.upd = s.upd ∧
      t.panel = s.panel ∧ t.sent = s.sent ∧ t.pending = s.pending := by
  simp [runChecks]

@[simp] theorem frame_writeMany (who : Requester) (win : Bool) (addr : Word) (l : List Word) (s : State) :
    (writeMany who win addr l s).2.pending = s.pending := by
  induction l generalizing addr s with
  | nil => simp [writeMany, done]
  | cons v l ih =>
    unfold writeMany; split
    · simp [ih]
    · split
      · rename_i h; rw [ih]; have := congrArg (fun p => p.2.pending) h; simpa using this.symm
      · simp

@[simp] theorem frame_judgeSource (d : PlySource) (una : Bool) (v : Option (List Word)) (s : State) :
    let t := (judgeSource d una v s).2; t.sys = s.sys ∧ t.reqs = s.reqs ∧ t.hank = s.hank ∧ t.distaff = s.distaff ∧ t.func = s.func ∧ t.store = s.store ∧ t.spool = s.spool ∧ t.emergency = s.emergency ∧ t.lanes = s.lanes ∧ t.tally = s.tally ∧ t.outs = s.outs ∧ t.inputs = s.inputs ∧ t.strike = s.strike ∧ t.gnss = s.gnss ∧ t.clock = s.clock ∧ t.sun = s.sun ∧ t.eth = s.eth ∧ t.upd = s.upd ∧ t.panel = s.panel ∧ t.sent = s.sent ∧ t.pending = s.pending := by
  unfold judgeSource; dsimp only; split
  · have h : ∀ (l : List (Word × Nat)) (r : Bool × State), let t := (l.foldl (fun r e =>
        let (fails, s) := gateFails d e.1 (d.noise[e.2]?.getD 0) r.2
        (r.1 && fails, gateSource d.number d fails s)) r).2; t.sys = r.2.sys ∧ t.reqs = r.2.reqs ∧ t.hank = r.2.hank ∧ t.distaff = r.2.distaff ∧ t.func = r.2.func ∧ t.store = r.2.store ∧ t.spool = r.2.spool ∧ t.emergency = r.2.emergency ∧ t.lanes = r.2.lanes ∧ t.tally = r.2.tally ∧ t.outs = r.2.outs ∧ t.inputs = r.2.inputs ∧ t.strike = r.2.strike ∧ t.gnss = r.2.gnss ∧ t.clock = r.2.clock ∧ t.sun = r.2.sun ∧ t.eth = r.2.eth ∧ t.upd = r.2.upd ∧ t.panel = r.2.panel ∧ t.sent = r.2.sent ∧ t.pending = r.2.pending := by
      intro l; induction l with
      | nil => simp
      | cons a l ih => intro r; have := ih (r.1 && (gateFails d a.1 (d.noise[a.2]?.getD 0) r.2).1, gateSource d.number d (gateFails d a.1 (d.noise[a.2]?.getD 0) r.2).1 (gateFails d a.1 (d.noise[a.2]?.getD 0) r.2).2); simpa using this
    exact h _ (true, s)
  · simp
@[simp] theorem frame_sourceEpoch (tk : Time) (d : PlySource) (s : State) :
    let t := sourceEpoch tk d s; t.sys = s.sys ∧ t.reqs = s.reqs ∧ t.hank = s.hank ∧ t.distaff = s.distaff ∧ t.func = s.func ∧ t.store = s.store ∧ t.spool = s.spool ∧ t.emergency = s.emergency ∧ t.lanes = s.lanes ∧ t.tally = s.tally ∧ t.outs = s.outs ∧ t.inputs = s.inputs ∧ t.strike = s.strike ∧ t.gnss = s.gnss ∧ t.clock = s.clock ∧ t.sun = s.sun ∧ t.eth = s.eth ∧ t.panel = s.panel ∧ t.sent = s.sent ∧ t.pending = s.pending := by
  simp [sourceEpoch]
theorem copData_pending_of (w : Requester) (o : Nat) (b : List Byte) (s : State) (p : Option Reply × State)
    (h : copData w o b s = p) : p.2.pending = s.pending := by subst h; simp
@[simp] theorem frame_runQueued (c : Instr) (s : State) : (runQueued c s).2.pending = s.pending := by
  unfold runQueued; split <;> simp [replyQueued]
  split
  · rename_i heq; simpa [heq] using copData_pending_of _ _ _ _ _ heq
  · rename_i heq; simpa [heq] using copData_pending_of _ _ _ _ _ heq
end Sys2Proof.Machine
end

