-- ==== Sys2Proof/Laws/Time.lean ====
section
/-! SUPPORT. What the passing of time leaves of the parts it moves: the fields of `sys`, `lanes` and `sun` other than the clocks. -/
namespace Sys2Proof.Machine

@[simp] theorem elapse_sys (d : Nat) (s : State) :
    let x := (elapse d s).sys; x.powered = s.sys.powered ∧ x.state = s.sys.state ∧ x.hold = s.sys.hold ∧ x.holdCause =
      s.sys.holdCause ∧ x.refusal = s.sys.refusal ∧ x.dawn = s.sys.dawn ∧ x.warm = s.sys.warm ∧ x.held = s.sys.held ∧ x.stayDawn =
      s.sys.stayDawn ∧ x.holdOff = s.sys.holdOff ∧ x.duskStep = s.sys.duskStep ∧ x.kl15 = s.sys.kl15 ∧ x.dawnAt = s.sys.dawnAt ∧
      x.kl15Latched = s.sys.kl15Latched ∧ x.kl15Pending = s.sys.kl15Pending ∧ x.cause = s.sys.cause ∧ x.line = s.sys.line ∧
      x.holdupFlag = s.sys.holdupFlag ∧ x.holdupRun = s.sys.holdupRun ∧ x.holdupDone = s.sys.holdupDone ∧ x.lock = s.sys.lock ∧
      x.armedAt = s.sys.armedAt ∧ x.driving = s.sys.driving ∧ x.autoarmDone = s.sys.autoarmDone ∧ x.disarmPending =
      s.sys.disarmPending ∧ x.disarmedAt = s.sys.disarmedAt ∧ x.ov = s.sys.ov ∧ x.hot = s.sys.hot ∧ x.pgnd = s.sys.pgnd ∧ x.huLow =
      s.sys.huLow ∧ x.huReady = s.sys.huReady ∧ x.tplate = s.sys.tplate ∧ x.huMs = s.sys.huMs ∧ x.hotWarnedAt = s.sys.hotWarnedAt ∧
      x.offAt = s.sys.offAt := by
  simp [elapse]

@[simp] theorem elapse_lanes (d : Nat) (s : State) :
    let x := (elapse d s).lanes; x.la = s.lanes.la ∧ x.lb = s.lanes.lb ∧ x.holder = s.lanes.holder ∧ x.gate = s.lanes.gate ∧
      x.lastHolder = s.lanes.lastHolder ∧ x.noCkpt = s.lanes.noCkpt ∧ x.lease = s.lanes.lease ∧ x.guard = s.lanes.guard ∧ x.leaseIn =
      s.lanes.leaseIn ∧ x.guardIn = s.lanes.guardIn ∧ x.lastGap = s.lanes.lastGap ∧ x.yieldAt = s.lanes.yieldAt ∧ x.yieldBy =
      s.lanes.yieldBy ∧ x.switch = s.lanes.switch ∧ x.gapOccupancy = s.lanes.gapOccupancy := by
  simp [elapse]

@[simp] theorem elapse_sun (d : Nat) (s : State) :
    let x := (elapse d s).sun; x.run = s.sun.run ∧ x.time = s.sun.time ∧ x.phase30 = s.sun.phase30 ∧ x.rateAcc = s.sun.rateAcc ∧
      x.state = s.sun.state ∧ x.known = s.sun.known ∧ x.invalid = s.sun.invalid ∧ x.stepFlag = s.sun.stepFlag ∧ x.leapAnn =
      s.sun.leapAnn ∧ x.leapMjd = s.sun.leapMjd ∧ x.taiUtc = s.sun.taiUtc ∧ x.err0 = s.sun.err0 ∧ x.holdAt = s.sun.holdAt ∧ x.hasErr =
      s.sun.hasErr ∧ x.offset = s.sun.offset ∧ x.rate = s.sun.rate ∧ x.storedRate = s.sun.storedRate ∧ x.pendingStep =
      s.sun.pendingStep ∧ x.stepArmed = s.sun.stepArmed ∧ x.jumpOffsets = s.sun.jumpOffsets ∧ x.jumped = s.sun.jumped ∧ x.backSlew =
      s.sun.backSlew ∧ x.stepSpan = s.sun.stepSpan ∧ x.lastPps = s.sun.lastPps ∧ x.lastUsable = s.sun.lastUsable ∧ x.pps0 = s.sun.pps0
      ∧ x.pps1 = s.sun.pps1 ∧ x.ppsEnd = s.sun.ppsEnd ∧ x.ppsCfg = s.sun.ppsCfg ∧ x.ptpCfg = s.sun.ptpCfg ∧ x.tbi = s.sun.tbi ∧
      x.gmPhase = s.sun.gmPhase ∧ x.pdelay = s.sun.pdelay ∧ x.rtcValid = s.sun.rtcValid := by
  simp [elapse]

@[simp] theorem advanceTo_sys (t : Time) (s : State) :
    let x := (advanceTo t s).sys; x.powered = s.sys.powered ∧ x.state = s.sys.state ∧ x.hold = s.sys.hold ∧ x.holdCause =
      s.sys.holdCause ∧ x.refusal = s.sys.refusal ∧ x.dawn = s.sys.dawn ∧ x.warm = s.sys.warm ∧ x.held = s.sys.held ∧ x.stayDawn =
      s.sys.stayDawn ∧ x.holdOff = s.sys.holdOff ∧ x.duskStep = s.sys.duskStep ∧ x.kl15 = s.sys.kl15 ∧ x.dawnAt = s.sys.dawnAt ∧
      x.kl15Latched = s.sys.kl15Latched ∧ x.kl15Pending = s.sys.kl15Pending ∧ x.cause = s.sys.cause ∧ x.line = s.sys.line ∧
      x.holdupFlag = s.sys.holdupFlag ∧ x.holdupRun = s.sys.holdupRun ∧ x.holdupDone = s.sys.holdupDone ∧ x.lock = s.sys.lock ∧
      x.armedAt = s.sys.armedAt ∧ x.driving = s.sys.driving ∧ x.autoarmDone = s.sys.autoarmDone ∧ x.disarmPending =
      s.sys.disarmPending ∧ x.disarmedAt = s.sys.disarmedAt ∧ x.ov = s.sys.ov ∧ x.hot = s.sys.hot ∧ x.pgnd = s.sys.pgnd ∧ x.huLow =
      s.sys.huLow ∧ x.huReady = s.sys.huReady ∧ x.tplate = s.sys.tplate ∧ x.huMs = s.sys.huMs ∧ x.hotWarnedAt = s.sys.hotWarnedAt ∧
      x.offAt = s.sys.offAt := by
  dsimp only; unfold advanceTo; (repeat' split) <;> simp

@[simp] theorem advanceTo_lanes (t : Time) (s : State) :
    let x := (advanceTo t s).lanes; x.la = s.lanes.la ∧ x.lb = s.lanes.lb ∧ x.holder = s.lanes.holder ∧ x.gate = s.lanes.gate ∧
      x.lastHolder = s.lanes.lastHolder ∧ x.noCkpt = s.lanes.noCkpt ∧ x.lease = s.lanes.lease ∧ x.guard = s.lanes.guard ∧ x.leaseIn =
      s.lanes.leaseIn ∧ x.guardIn = s.lanes.guardIn ∧ x.lastGap = s.lanes.lastGap ∧ x.yieldAt = s.lanes.yieldAt ∧ x.yieldBy =
      s.lanes.yieldBy ∧ x.switch = s.lanes.switch ∧ x.gapOccupancy = s.lanes.gapOccupancy := by
  dsimp only; unfold advanceTo; (repeat' split) <;> simp

@[simp] theorem advanceTo_sun (t : Time) (s : State) :
    let x := (advanceTo t s).sun; x.run = s.sun.run ∧ x.phase30 = s.sun.phase30 ∧ x.rateAcc = s.sun.rateAcc ∧ x.state = s.sun.state
      ∧ x.known = s.sun.known ∧ x.invalid = s.sun.invalid ∧ x.stepFlag = s.sun.stepFlag ∧ x.leapAnn = s.sun.leapAnn ∧ x.leapMjd =
      s.sun.leapMjd ∧ x.taiUtc = s.sun.taiUtc ∧ x.err0 = s.sun.err0 ∧ x.holdAt = s.sun.holdAt ∧ x.hasErr = s.sun.hasErr ∧ x.offset =
      s.sun.offset ∧ x.rate = s.sun.rate ∧ x.storedRate = s.sun.storedRate ∧ x.pendingStep = s.sun.pendingStep ∧ x.stepArmed =
      s.sun.stepArmed ∧ x.jumpOffsets = s.sun.jumpOffsets ∧ x.jumped = s.sun.jumped ∧ x.backSlew = s.sun.backSlew ∧ x.stepSpan =
      s.sun.stepSpan ∧ x.lastPps = s.sun.lastPps ∧ x.lastUsable = s.sun.lastUsable ∧ x.pps0 = s.sun.pps0 ∧ x.pps1 = s.sun.pps1 ∧
      x.ppsEnd = s.sun.ppsEnd ∧ x.ppsCfg = s.sun.ppsCfg ∧ x.ptpCfg = s.sun.ptpCfg ∧ x.tbi = s.sun.tbi ∧ x.gmPhase = s.sun.gmPhase ∧
      x.pdelay = s.sun.pdelay ∧ x.rtcValid = s.sun.rtcValid := by
  dsimp only; unfold advanceTo; (repeat' split) <;> simp

@[simp] theorem tick_sys (s : State) :
    let x := (tick s).sys; x.powered = s.sys.powered ∧ x.state = s.sys.state ∧ x.hold = s.sys.hold ∧ x.holdCause = s.sys.holdCause ∧
      x.refusal = s.sys.refusal ∧ x.dawn = s.sys.dawn ∧ x.warm = s.sys.warm ∧ x.held = s.sys.held ∧ x.stayDawn = s.sys.stayDawn ∧
      x.holdOff = s.sys.holdOff ∧ x.duskStep = s.sys.duskStep ∧ x.kl15 = s.sys.kl15 ∧ x.dawnAt = s.sys.dawnAt ∧ x.kl15Latched =
      s.sys.kl15Latched ∧ x.kl15Pending = s.sys.kl15Pending ∧ x.cause = s.sys.cause ∧ x.line = s.sys.line ∧ x.holdupFlag =
      s.sys.holdupFlag ∧ x.holdupRun = s.sys.holdupRun ∧ x.holdupDone = s.sys.holdupDone ∧ x.lock = s.sys.lock ∧ x.armedAt =
      s.sys.armedAt ∧ x.driving = s.sys.driving ∧ x.autoarmDone = s.sys.autoarmDone ∧ x.disarmPending = s.sys.disarmPending ∧
      x.disarmedAt = s.sys.disarmedAt ∧ x.ov = s.sys.ov ∧ x.hot = s.sys.hot ∧ x.pgnd = s.sys.pgnd ∧ x.huLow = s.sys.huLow ∧ x.huReady
      = s.sys.huReady ∧ x.tplate = s.sys.tplate ∧ x.huMs = s.sys.huMs ∧ x.hotWarnedAt = s.sys.hotWarnedAt ∧ x.offAt = s.sys.offAt :=
      by
  dsimp only; unfold tick; (repeat' split) <;> simp

@[simp] theorem tick_lanes (s : State) :
    let x := (tick s).lanes; x.la = s.lanes.la ∧ x.lb = s.lanes.lb ∧ x.holder = s.lanes.holder ∧ x.gate = s.lanes.gate ∧
      x.lastHolder = s.lanes.lastHolder ∧ x.noCkpt = s.lanes.noCkpt ∧ x.lease = s.lanes.lease ∧ x.guard = s.lanes.guard ∧ x.leaseIn =
      s.lanes.leaseIn ∧ x.guardIn = s.lanes.guardIn ∧ x.lastGap = s.lanes.lastGap ∧ x.yieldAt = s.lanes.yieldAt ∧ x.yieldBy =
      s.lanes.yieldBy ∧ x.switch = s.lanes.switch ∧ x.gapOccupancy = s.lanes.gapOccupancy := by
  dsimp only; unfold tick; (repeat' split) <;> simp

@[simp] theorem tick_sun (s : State) :
    let x := (tick s).sun; x.run = s.sun.run ∧ x.state = s.sun.state ∧ x.known = s.sun.known ∧ x.invalid = s.sun.invalid ∧
      x.stepFlag = s.sun.stepFlag ∧ x.leapAnn = s.sun.leapAnn ∧ x.leapMjd = s.sun.leapMjd ∧ x.taiUtc = s.sun.taiUtc ∧ x.err0 =
      s.sun.err0 ∧ x.holdAt = s.sun.holdAt ∧ x.hasErr = s.sun.hasErr ∧ x.offset = s.sun.offset ∧ x.rate = s.sun.rate ∧ x.storedRate =
      s.sun.storedRate ∧ x.pendingStep = s.sun.pendingStep ∧ x.stepArmed = s.sun.stepArmed ∧ x.jumpOffsets = s.sun.jumpOffsets ∧
      x.jumped = s.sun.jumped ∧ x.backSlew = s.sun.backSlew ∧ x.stepSpan = s.sun.stepSpan ∧ x.lastPps = s.sun.lastPps ∧ x.lastUsable =
      s.sun.lastUsable ∧ x.pps0 = s.sun.pps0 ∧ x.pps1 = s.sun.pps1 ∧ x.ppsEnd = s.sun.ppsEnd ∧ x.ppsCfg = s.sun.ppsCfg ∧ x.ptpCfg =
      s.sun.ptpCfg ∧ x.tbi = s.sun.tbi ∧ x.gmPhase = s.sun.gmPhase ∧ x.pdelay = s.sun.pdelay ∧ x.rtcValid = s.sun.rtcValid := by
  dsimp only; unfold tick; (repeat' split) <;> simp

end Sys2Proof.Machine
end

