-- ==== Sys2Proof/Laws/Ops.lean ====
section
/-! SUPPORT. What the shared operations do to the parts they touch: time, records, the day state, requests and their replies, the
release and the taking of the Whorl, the start of a DAWN, channels switched off. -/
namespace Sys2Proof.Machine

/-! ### Time -/

/-- Device time as a command brings it: all that `advanceTo` can do. -/
theorem advanceTo_eq (t : Time) (s : State) : advanceTo t s = { s with
    sys := { s.sys with onTime := (advanceTo t s).sys.onTime, subNs := (advanceTo t s).sys.subNs }
    lanes := { s.lanes with remain := (advanceTo t s).lanes.remain }
    sun := { s.sun with time := (advanceTo t s).sun.time, rtc := (advanceTo t s).sun.rtc } } := by
  unfold advanceTo; (repeat' split) <;> rfl

/-! ### Events and the day state -/

@[simp] theorem eventTo_sent_mem (who : Requester) (c : Nat) (l : List Word) (m : Sent) (s : State) (h : m ∈ s.sent) :
    m ∈ (eventTo who c l s).sent := by
  unfold eventTo; dsimp only; split <;> simp [h]

@[simp] theorem event_sent_mem (c : Nat) (l : List Word) (m : Sent) (s : State) (h : m ∈ s.sent) : m ∈ (event c l s).sent := by
  unfold event; exact eventTo_sent_mem _ _ _ _ _ (eventTo_sent_mem _ _ _ _ _ (eventTo_sent_mem _ _ _ _ _ (eventTo_sent_mem _ _ _ _ _
    (eventTo_sent_mem _ _ _ _ _ h))))

@[simp] theorem toDay_sys (d : DayState) (c : DayCause) (f : Bool) (s : State) :
    (toDay d c f s).sys = { s.sys with state := d } := by simp [toDay]

@[simp] theorem toDay_sent_mem (d : DayState) (c : DayCause) (f : Bool) (m : Sent) (s : State) (h : m ∈ s.sent) :
    m ∈ (toDay d c f s).sent := by simp [toDay, h]

@[simp] theorem startDawn_sys (code line : BitVec 4) (warm fault : Bool) (why : DayCause) (s : State) :
    (startDawn code line warm fault why s).sys = { s.sys with
      state := .dawn, hold := false, holdCause := 0, refusal := 0, holdOff := false, dawn := .supplies, warm := warm
      held := warm, duskStep := 0, kl15Latched := false, kl15Pending := false, cause := code, line := line
      dawnAt := s.sun.time, armedAt := none, driving := false, autoarmDone := false, disarmPending := false } := by
  simp [startDawn]

@[simp] theorem enterDusk_sys (why : DayCause) (s : State) :
    (enterDusk why s).sys = { s.sys with
      state := .dusk, hold := false, holdCause := 0, refusal := 0, holdOff := false, duskStep := 1, dawn := .done, kl15Latched := false
      driving := false, armedAt := none, disarmPending := false } := by
  simp [enterDusk]

@[simp] theorem enterHold_sys (cause : BitVec 8) (refusal : BitVec 16) (why : DayCause) (s : State) :
    (enterHold cause refusal why s).sys = { s.sys with
      state := .dawn, hold := true, holdCause := cause, refusal := if cause = 3 || cause = 4 then refusal else 0, dawn := .done
      held := s.sys.held || decide (s.sys.state ≠ .dawn), driving := false, armedAt := none, disarmPending := false } := by
  unfold enterHold; dsimp only; split <;> simp

/-! ### Requests -/

@[simp] theorem answer_sent (r : Req) (l : List Word) (s : State) :
    (answer r (.ack l) s).sent = .reply r.who r.seq (.ack l) :: s.sent := rfl
@[simp] theorem answer_nak_sent (r : Req) (c : NakCode) (d : Word) (s : State) :
    (answer r (.nak c d) s).sent = .reply r.who r.seq (.nak c d) :: s.sent := rfl
@[simp] theorem answer_dropped_sent (r : Req) (s : State) :
    (answer r .ackDropped s).sent = .reply r.who r.seq .ackDropped :: s.sent := rfl

/-- A request that its server takes is executed and answered, and what follows its ACK follows. -/
theorem serveThen_taken (r : Req) (a b : Bool) (f : State → Reply × State) (g : State → State) (s : State) (h : Safety.Taken r a b s) :
    serveThen r a b f g s = match f (Safety.arrived r s) with
      | (.ack l, t) => g (answer r (.ack l) t)
      | (rep, t) => answer r rep t := by
  obtain ⟨h1, h2, h3, h4, h5, h6, h7, h8⟩ := h
  have e1 : ∀ x : Session, inFlight (setSession r.who x (advanceTo r.at_ s)) r.who r.seq = inFlight (advanceTo r.at_ s) r.who r.seq :=
    fun _ => rfl
  have e2 : ∀ x : Session, responder (setSession r.who x (advanceTo r.at_ s)) = responder (advanceTo r.at_ s) := fun _ => rfl
  have e3 : (!a && decide ((session (advanceTo r.at_ s) r.who).major = 1)) = false := by
    rcases h6 with h | h
    · simp [h]
    · rw [decide_eq_false h, Bool.and_false]
  have e4 : (!b && responder (advanceTo r.at_ s)) = false := by rcases h7 with h | h <;> simp [h]
  unfold serveThen meetServer
  dsimp only
  rw [if_neg (by simp [h1]), if_neg (by simp [h2])]
  split
  · rw [h3] at *; contradiction
  · rw [e1, if_neg (by simp [h4]), if_neg (by simp [h5]), if_neg (by rw [e3]; simp), e2, if_neg (by rw [e4]; simp),
      if_neg (by omega)]
    rfl

theorem serve_taken (r : Req) (a b : Bool) (f : State → Reply × State) (s : State) (h : Safety.Taken r a b s) :
    serve r a b f s = answer r (f (Safety.arrived r s)).1 (f (Safety.arrived r s)).2 := by
  unfold serve; rw [serveThen_taken r a b f id s h]; split <;> simp_all

end Sys2Proof.Machine
end

