-- ==== Sys2Proof/Laws/Spindle.lean ====
section
/-! SUPPORT. How a Tister instruction runs on a Spindle: the frame of every instruction taken apart once (R87, R90, R112), results into
registers and predicates, the end of an activation, traps. -/
namespace Sys2Proof.Machine
open Sys2Proof.Safety

@[simp] theorem getG_charged (y : Activation) (c : Nat) (a : GReg) : Activation.getG { y with charged := c } a = y.getG a := rfl
@[simp] theorem getP_charged (y : Activation) (c : Nat) (a : PReg) : Activation.getP { y with charged := c } a = y.getP a := rfl

/-- An instruction that may run, its guard true: its own effect, on the activation with its charge taken. -/
theorem onSpindle_runs (x : Slot) (l c : Nat) (ok : Bool) (f : Activation → State → State) (s : State) (y : Activation)
    (h : Runs x l c s y) (hk : ok = true) (hp : y.getP x.p = true) :
    onSpindle x l c ok f s = .next (f { y with charged := y.charged + c } s) := by
  obtain ⟨h1, h2, h3, h4⟩ := h
  have e1 : (!ok || decide ((cop s).minIsa < l)) = false := by rw [hk, decide_eq_false (Nat.not_lt.mpr h3)]; rfl
  unfold onSpindle
  rw [h1]; dsimp only
  rw [if_neg (by rw [h2]; decide), e1, if_neg (by decide), if_neg (Nat.not_lt.mpr h4), getP_charged, hp, if_pos rfl]

/-- The same with a false guard: the charge is taken and the next instruction is due. -/
theorem onSpindle_skips (x : Slot) (l c : Nat) (ok : Bool) (f : Activation → State → State) (s : State) (y : Activation)
    (h : Runs x l c s y) (hk : ok = true) (hp : y.getP x.p = false) :
    onSpindle x l c ok f s = .next (setAct x.sp.val { y with charged := y.charged + c, pc := y.pc + 1 } s) := by
  obtain ⟨h1, h2, h3, h4⟩ := h
  have e1 : (!ok || decide ((cop s).minIsa < l)) = false := by rw [hk, decide_eq_false (Nat.not_lt.mpr h3)]; rfl
  unfold onSpindle
  rw [h1]; dsimp only
  rw [if_neg (by rw [h2]; decide), e1, if_neg (by decide), if_neg (Nat.not_lt.mpr h4), getP_charged, hp, if_neg (by decide)]
  rfl

/-- No activation, or one that waits: nothing happens. -/
theorem onSpindle_idle (x : Slot) (l c : Nat) (ok : Bool) (f : Activation → State → State) (s : State)
    (h : ∀ y, SMap.find s.core.acts x.sp.val = some y → y.wait.isSome = true) : onSpindle x l c ok f s = .next s := by
  unfold onSpindle
  cases e : SMap.find s.core.acts x.sp.val with
  | none => rfl
  | some y => dsimp only; rw [if_pos (h y e)]

/-- An undefined encoding, or a level above the cop's, traps ENCODING. -/
theorem onSpindle_encoding (x : Slot) (l c : Nat) (ok : Bool) (f : Activation → State → State) (s : State) (y : Activation)
    (h : SMap.find s.core.acts x.sp.val = some y) (hw : y.wait = none) (hl : ok = false ∨ (cop s).minIsa < l) :
    onSpindle x l c ok f s = .next (trap x.sp.val 7 [] y s) := by
  have e1 : (!ok || decide ((cop s).minIsa < l)) = true := by
    rcases hl with h | h
    · rw [h]; rfl
    · rw [decide_eq_true h, Bool.or_true]
  unfold onSpindle
  rw [h]; dsimp only
  rw [if_neg (by rw [hw]; decide), e1, if_pos rfl]

/-- A charge past the task's BUDGET traps BUDGET. -/
theorem onSpindle_budget (x : Slot) (l c : Nat) (ok : Bool) (f : Activation → State → State) (s : State) (y : Activation)
    (h : SMap.find s.core.acts x.sp.val = some y) (hw : y.wait = none) (hk : ok = true) (hl : l ≤ (cop s).minIsa)
    (hb : (declOf s y.task).budget < y.charged + c) : onSpindle x l c ok f s = .next (trap x.sp.val 5 [] y s) := by
  have e1 : (!ok || decide ((cop s).minIsa < l)) = false := by rw [hk, decide_eq_false (Nat.not_lt.mpr hl)]; rfl
  unfold onSpindle
  rw [h]; dsimp only
  rw [if_neg (by rw [hw]; decide), e1, if_neg (by decide), if_pos hb]

theorem onRegs_runs (x : Slot) (l c : Nat) (f : Activation → Activation) (s : State) (y : Activation) (h : Runs x l c s y)
    (hp : y.getP x.p = true) : onRegs x l c f s = .next (setAct x.sp.val (f { y with charged := y.charged + c }).step s) :=
  onSpindle_runs x l c true _ s y h rfl hp

theorem onlyAct_setAct (sp : Nat) (s : State) (y : Activation) : OnlyAct sp s (setAct sp y s) y :=
  ⟨rfl, find_setAct _ _ _, fun _ h => find_setAct_ne _ _ _ _ h⟩

theorem went_setG (y : Activation) (c : Nat) (d : GReg) (v : Word) :
    (Activation.setG d v { y with charged := y.charged + c }).step = went y c (withG y d v) y.preds := by
  unfold Activation.setG withG; split <;> rfl

theorem went_setP (y : Activation) (c : Nat) (d : PReg) (v : Bool) :
    (Activation.setP d v { y with charged := y.charged + c }).step = went y c y.regs (withP y d v) := by
  unfold Activation.setP withP; split <;> rfl

/-- A result into a register (R73). -/
theorem runG (x : Slot) (l c : Nat) (d : GReg) (f : Activation → Word) (s : State) (y : Activation) (w : Word) (h : Runs x l c s y)
    (hp : y.getP x.p = true) (hw : f { y with charged := y.charged + c } = w) :
    ∃ v, onRegs x l c (fun y => y.setG d (f y)) s = .next v ∧ OnlyAct x.sp.val s v (went y c (withG y d w) y.preds) :=
  ⟨_, onRegs_runs x l c _ s y h hp, by rw [hw, went_setG]; exact onlyAct_setAct _ _ _⟩

/-- A result into a predicate (R73). -/
theorem runP (x : Slot) (l c : Nat) (d : PReg) (f : Activation → Bool) (s : State) (y : Activation) (w : Bool) (h : Runs x l c s y)
    (hp : y.getP x.p = true) (hw : f { y with charged := y.charged + c } = w) :
    ∃ v, onRegs x l c (fun y => y.setP d (f y)) s = .next v ∧ OnlyAct x.sp.val s v (went y c y.regs (withP y d w)) :=
  ⟨_, onRegs_runs x l c _ s y h hp, by rw [hw, went_setP]; exact onlyAct_setAct _ _ _⟩

theorem intoG_runs (x : Slot) (l c : Nat) (d a b : GReg) (f : Word → Word → Word) (s : State) (y : Activation) (w : Word)
    (h : Runs x l c s y) (hp : y.getP x.p = true) (hw : f (y.getG a) (y.getG b) = w) :
    ∃ v, intoG x l c d a b f s = .next v ∧ OnlyAct x.sp.val s v (went y c (withG y d w) y.preds) := runG x l c d _ s y w h hp hw

theorem intoG1_runs (x : Slot) (l c : Nat) (d a : GReg) (f : Word → Word) (s : State) (y : Activation) (w : Word)
    (h : Runs x l c s y) (hp : y.getP x.p = true) (hw : f (y.getG a) = w) :
    ∃ v, intoG1 x l c d a f s = .next v ∧ OnlyAct x.sp.val s v (went y c (withG y d w) y.preds) := runG x l c d _ s y w h hp hw

theorem intoP_runs (x : Slot) (l c : Nat) (d : PReg) (a b : GReg) (f : Word → Word → Bool) (s : State) (y : Activation) (w : Bool)
    (h : Runs x l c s y) (hp : y.getP x.p = true) (hw : f (y.getG a) (y.getG b) = w) :
    ∃ v, intoP x l c d a b f s = .next v ∧ OnlyAct x.sp.val s v (went y c y.regs (withP y d w)) := runP x l c d _ s y w h hp hw

theorem intoPP_runs (x : Slot) (d a b : PReg) (f : Bool → Bool → Bool) (s : State) (y : Activation) (w : Bool)
    (h : Runs x 1 1 s y) (hp : y.getP x.p = true) (hw : f (y.getP a) (y.getP b) = w) :
    ∃ v, intoPP x d a b f s = .next v ∧ OnlyAct x.sp.val s v (went y 1 y.regs (withP y d w)) := runP x 1 1 d _ s y w h hp hw

/-! ### The end of an activation -/

theorem counter_bump_ne (a i a' i' : Nat) (s : State) (h : ckey a' i' ≠ ckey a i) :
    counter (bump a i s) a' i' = counter s a' i' := by
  unfold counter; rw [bump_counters]; exact SMap.get_put_ne _ _ _ h

/-- Entries that leave a Bobbin change nothing else. -/
theorem discardHead_eq (b : Nat) (s : State) :
    discardHead b s = { s with core := { s.core with bobs := (discardHead b s).core.bobs } } := by
  unfold discardHead; split <;> rfl

theorem clearDropped_eq (b : Nat) (l : List (Bool × Bool)) (s : State) : (clearDropped b l s).2 =
    { s with core := { s.core with bobs := (clearDropped b l s).2.core.bobs } } := by
  induction l generalizing s with
  | nil => rfl
  | cons e r ih =>
    obtain ⟨k, inBob⟩ := e
    cases k
    · cases inBob
      · exact ih s
      · show (clearDropped b r (discardHead b s)).2 = { s with core := { s.core with bobs := (clearDropped b r (discardHead b s)).2.core.bobs } }
        rw [ih, discardHead_eq]
    · rfl

theorem clearReleased_eq (b : Nat) (l : List (Bool × Bool)) (s : State) : clearReleased b l s =
    { s with core := { s.core with bobs := (clearReleased b l s).core.bobs } } := by
  induction l generalizing s with
  | nil => rfl
  | cons e r ih =>
    obtain ⟨k, inBob⟩ := e
    cases inBob
    · exact ih s
    · show clearReleased b r (discardHead b s) = { s with core := { s.core with bobs := (clearReleased b r (discardHead b s)).core.bobs } }
      rw [ih, discardHead_eq]

/-- The entries of a completed release: those that its end takes out of the Bobbin, and what stands behind. -/
def endEntries (b : Nat) (l : List (Bool × Bool)) (s : State) : List (Bool × Bool) × State :=
  match l with
  | (_, inBob) :: r => clearDropped b r (if inBob then discardHead b s else s)
  | [] => ([], s)

theorem endEntries_eq (b : Nat) (l : List (Bool × Bool)) (s : State) : (endEntries b l s).2 =
    { s with core := { s.core with bobs := (endEntries b l s).2.core.bobs } } := by
  unfold endEntries
  cases l with
  | nil => rfl
  | cons e r =>
    obtain ⟨k, inBob⟩ := e
    dsimp only
    rw [clearDropped_eq]; split
    · rw [discardHead_eq]
    · rfl

/-- The end of an activation, taken apart (R81, R86, R94). -/
theorem finish_eq (sp : Nat) (a : Activation) (s : State) :
    let d := declOf s a.task
    let t := taskOf s a.task
    let resp := s.sun.time.toNat - a.ti.toNat
    finish sp a s =
      (let p := endEntries d.bobbin t.entries (dropAct sp s)
       let t' : TaskState := { t with
         entries := p.1, pending := t.pending.tail, doneTi := some a.ti
         maxResp := if t.maxResp.toNat < resp then hold32 resp else t.maxResp }
       if d.deadlineUs * 1000 < resp then
         let s' := bump 0x00080010 0 (setTask a.task { t' with missWarned := true } p.2)
         if t'.missWarned then s'
         else raise .warning 0x08 0x0010 [BitVec.ofNat 32 a.task, lo32 a.ti, hi32 a.ti] s'
       else setTask a.task t' p.2) := by
  intro d t resp
  have hp : (endEntries d.bobbin t.entries (dropAct sp s)).2.sun = s.sun := by rw [endEntries_eq]; rfl
  have hg : ∀ sn : Sundial, (endEntries d.bobbin t.entries (dropAct sp s)).2.sun = sn → finish sp a s =
    (let p := endEntries d.bobbin t.entries (dropAct sp s)
     let resp := sn.time.toNat - a.ti.toNat
     let t' : TaskState := { t with
       entries := p.1, pending := t.pending.tail, doneTi := some a.ti
       maxResp := if t.maxResp.toNat < resp then hold32 resp else t.maxResp }
     if d.deadlineUs * 1000 < resp then
       let s' := bump 0x00080010 0 (setTask a.task { t' with missWarned := true } p.2)
       if t'.missWarned then s'
       else raise .warning 0x08 0x0010 [BitVec.ofNat 32 a.task, lo32 a.ti, hi32 a.ti] s'
     else setTask a.task t' p.2) := by
    intro sn h; rw [← h]; rfl
  exact hg s.sun hp

/-- What the end of an activation does (R81, R86, R94). -/
theorem finish_spec (sp : Nat) (a : Activation) (s : State) :
    let d := declOf s a.task
    let t := taskOf s a.task
    let resp := s.sun.time.toNat - a.ti.toNat
    let miss := d.deadlineUs * 1000 < resp
    let v := finish sp a s
    v.core = { s.core with
      acts := SMap.drop s.core.acts sp
      tasks := SMap.put s.core.tasks {} a.task { t with
        entries := (endEntries d.bobbin t.entries (dropAct sp s)).1
        pending := t.pending.tail, doneTi := some a.ti
        missWarned := t.missWarned || decide miss
        maxResp := if t.maxResp.toNat < resp then hold32 resp else t.maxResp }
      bobs := (endEntries d.bobbin t.entries (dropAct sp s)).2.core.bobs } ∧
    v.counters = if miss then (bump 0x00080010 0 s).counters else s.counters := by
  intro d t resp miss v
  have hf := finish_eq sp a s
  have he := endEntries_eq d.bobbin t.entries (dropAct sp s)
  show (finish sp a s).core = _ ∧ (finish sp a s).counters = _
  rw [hf]
  have hc : ∀ x : TaskState, (setTask a.task x (endEntries d.bobbin t.entries (dropAct sp s)).2).core = { s.core with
      acts := SMap.drop s.core.acts sp
      tasks := SMap.put s.core.tasks {} a.task x
      bobs := (endEntries d.bobbin t.entries (dropAct sp s)).2.core.bobs } := by
    intro x; rw [setTask_core]; rw [he]; rfl
  have hn : ∀ x : TaskState, (setTask a.task x (endEntries d.bobbin t.entries (dropAct sp s)).2).counters = s.counters := by
    intro x; show (endEntries d.bobbin t.entries (dropAct sp s)).2.counters = _; rw [he]; rfl
  have hb : ∀ z : State, z.counters = s.counters → (bump 0x00080010 0 z).counters = (bump 0x00080010 0 s).counters := by
    intro z hz; rw [bump_counters, bump_counters]; unfold counter; rw [hz]
  by_cases hm : miss
  · rw [if_pos hm, if_pos hm]
    have e1 : (t.missWarned || decide miss) = true := by rw [decide_eq_true hm, Bool.or_true]
    rw [e1]
    by_cases hw : t.missWarned = true
    · rw [if_pos hw]; exact ⟨by simp only [frame_bump]; exact hc _, hb _ (hn _)⟩
    · rw [if_neg hw]; exact ⟨by simp only [frame_raise, frame_bump]; exact hc _, by simp only [frame_raise]; exact hb _ (hn _)⟩
  · rw [if_neg hm, if_neg hm]
    have e1 : (t.missWarned || decide miss) = t.missWarned := by rw [decide_eq_false hm, Bool.or_false]
    rw [e1]; exact ⟨hc _, hn _⟩
/-! ### What stays -/

theorem raise_mem (v : Severity) (b : BitVec 8) (c : BitVec 16) (l : List Word) (s : State) (r : Raised) (h : r ∈ s.skein.raised) :
    r ∈ (raise v b c l s).skein.raised := by
  show r ∈ s.skein.raised ++ _; exact List.mem_append_left _ h

theorem bump_mem (a i : Nat) (s : State) (r : Raised) (h : r ∈ s.skein.raised) : r ∈ (bump a i s).skein.raised := by
  unfold bump; dsimp only; split
  · exact raise_mem _ _ _ _ _ _ h
  · exact h

theorem finish_mem (sp : Nat) (a : Activation) (s : State) (r : Raised) (h : r ∈ s.skein.raised) :
    r ∈ (finish sp a s).skein.raised := by
  have he : (endEntries (declOf s a.task).bobbin (taskOf s a.task).entries (dropAct sp s)).2.skein = s.skein := by
    rw [endEntries_eq]; rfl
  have hm : ∀ x : TaskState,
      r ∈ (setTask a.task x (endEntries (declOf s a.task).bobbin (taskOf s a.task).entries (dropAct sp s)).2).skein.raised := by
    intro x; show r ∈ (endEntries _ _ _).2.skein.raised; rw [he]; exact h
  rw [finish_eq]; dsimp only; split
  · split
    · exact bump_mem _ _ _ _ (hm _)
    · exact raise_mem _ _ _ _ _ _ (bump_mem _ _ _ _ (hm _))
  · exact hm _

theorem staleAll_eq (l : List Nat) (s : State) :
    staleAll l s = { s with core := { s.core with signals := (staleAll l s).core.signals } } := by
  induction l generalizing s with
  | nil => rfl
  | cons i r ih =>
    show staleAll r (staleNewest i s) = { s with core := { s.core with signals := (staleAll r (staleNewest i s)).core.signals } }
    rw [ih]
    have h1 : staleNewest i s = { s with core := { s.core with signals := (staleNewest i s).core.signals } } := by
      unfold staleNewest; dsimp only; split <;> rfl
    rw [h1]

/-- What stopping a task does (R87). -/
theorem stopTask_spec (n : Nat) (s : State) : stopTask n s = { s with core := { s.core with
    tasks := SMap.put s.core.tasks {} n { taskOf s n with stopped := true, pending := [], entries := [] }
    bobs := (stopTask n s).core.bobs, signals := (stopTask n s).core.signals } } := by
  unfold stopTask; dsimp only
  rw [staleAll_eq, clearReleased_eq]
  rfl

/-! ### Traps -/

/-- The groups of an activation whose barrier has not been passed for its ti. -/
def openGroups (a : Activation) (s : State) : List (Nat × Time) :=
  ((cop s).barriers.filter fun b => b.tasks.contains a.task && !a.passed.contains b.group
    && !barrierFull s b.group a.ti).map fun b => (b.group, a.ti)

/-- A trap's state before the activation ends: counted, shown, recorded. -/
def trapSeen (cause : Nat) (args : List Word) (a : Activation) (s : State) : State :=
  let s1 := bump 0x00080018 0 s
  raise .error 0x08 0x0018
    ([BitVec.ofNat 32 a.task, BitVec.ofNat 32 cause, a.pc.zeroExtend 32, lo32 a.ti, hi32 a.ti] ++ args)
    { s1 with core := { s1.core with
        lastTrap := at32 cause 28 ||| at32 a.task 14 ||| a.pc.zeroExtend 32
        barriers := s1.core.barriers.filter fun e => !(decide (e.2.1 = a.ti) && decide (e.2.2 = a.task))
        broken := s1.core.broken ++ openGroups a s } }

theorem trapSeen_core (cause : Nat) (args : List Word) (a : Activation) (s : State) :
    (trapSeen cause args a s).core = { s.core with
      lastTrap := at32 cause 28 ||| at32 a.task 14 ||| a.pc.zeroExtend 32
      barriers := s.core.barriers.filter fun e => !(decide (e.2.1 = a.ti) && decide (e.2.2 = a.task))
      broken := s.core.broken ++ openGroups a s } := by
  have h : (bump 0x00080018 0 s).core = s.core := by simp
  unfold trapSeen; simp only [frame_raise]; rw [h]

theorem trapSeen_counters (cause : Nat) (args : List Word) (a : Activation) (s : State) :
    (trapSeen cause args a s).counters = (bump 0x00080018 0 s).counters := by
  unfold trapSeen; simp only [frame_raise]

theorem trapSeen_mem (cause : Nat) (args : List Word) (a : Activation) (s : State) :
    ∃ r ∈ (trapSeen cause args a s).skein.raised, r.sev = .error ∧ r.source = 8 ∧ r.code = 0x18 ∧
      r.args = [BitVec.ofNat 32 a.task, BitVec.ofNat 32 cause, a.pc.zeroExtend 32, lo32 a.ti, hi32 a.ti] ++ args := by
  unfold trapSeen; dsimp only; rw [raise_skein]
  exact ⟨_, List.mem_append_right _ (List.mem_singleton_self _), rfl, rfl, rfl, rfl⟩

theorem trapOne_eq (sp cause : Nat) (args : List Word) (a : Activation) (s : State) : trapOne sp cause args a s =
    if (declOf s a.task).onTrapStop then stopTask a.task (finish sp a (trapSeen cause args a s))
    else finish sp a (trapSeen cause args a s) := rfl

theorem declOf_congr (s t : State) (n : Nat) (h : t.store = s.store) : declOf t n = declOf s n := by
  unfold declOf taskDecl cop; rw [h]

theorem breakBarriers_idle (n : Nat) (s : State) (h : stuckAtBarrier s = none) : breakBarriers n s = s := by
  cases n with
  | zero => rfl
  | succ n => unfold breakBarriers; rw [h]

theorem trapOne_acts (sp cause : Nat) (args : List Word) (a : Activation) (s : State) :
    (trapOne sp cause args a s).core.acts = SMap.drop s.core.acts sp := by
  have h : (finish sp a (trapSeen cause args a s)).core.acts = SMap.drop s.core.acts sp := by
    rw [(finish_spec sp a (trapSeen cause args a s)).1]; dsimp only; rw [trapSeen_core]
  rw [trapOne_eq]; split
  · rw [stopTask_spec]; exact h
  · exact h

/-- A trap where no other activation waits at a barrier is that one trap. -/
theorem trap_alone (sp cause : Nat) (args : List Word) (a : Activation) (s : State)
    (h : ∀ e ∈ s.core.acts, ∀ g, e.2.wait ≠ some (.barrier g)) : trap sp cause args a s = trapOne sp cause args a s := by
  apply breakBarriers_idle
  unfold stuckAtBarrier
  rw [trapOne_acts, List.find?_eq_none]
  intro e he
  have := h e (SMap.mem_drop _ _ _ he)
  split
  · next g hg => exact absurd hg (this g)
  · decide

end Sys2Proof.Machine
end

