-- ==== Sys2Proof/Tests/Slice0.lean ====
section
/-! SUPPORT. Tests: what well-formedness refuses; words of the Tister; and, statement by statement of the obligations, concrete states and
operands that meet the hypotheses of each clause, with what the command then does. Expected results come from the rules cited. -/
set_option Elab.async false

namespace Sys2Proof.Tests
open Sys2Proof Sys2Proof.Machine Sys2Proof.Safety

/-! ### Helpers -/

/-- Whether a command answers a next state with a property. -/
def ran (i : Instr) (s : State) (p : State → Bool) : Bool :=
  match exec i s with
  | .next v => p v
  | _ => false

/-- Whether a command answers a next state in which a record of this severity and source is raised last. -/
def raisesLast (sev : Severity) (source : BitVec 8) (v : State) : Bool :=
  match v.skein.raised.getLast? with
  | some r => decide (r.sev = sev) && decide (r.source = source)
  | none => false

/-- The last message sent is this reply. -/
def repliedTo (r : Req) (rep : Reply) (v : State) : Bool := decide (v.sent.head? = some (.reply r.who r.seq rep))

/-- The instant at which the tests' states stand: 1,000 s, the start of a second, a major frame and a slot of every input. -/
def now : Time := 1000000000000

/-- A module with its supplies up and a running Sundial, in the DAWN step SUPPLIES. -/
def up : State :=
  { State.reset with sys := { State.reset.sys with powered := true }, sun := { State.reset.sun with run := true, time := now } }

/-- The same in a day state, or in a step of DAWN. -/
def inDay (d : DayState) (s : State) : State := { s with sys := { s.sys with state := d, dawn := .done } }
def atDawn (d : DawnStep) (s : State) : State := { s with sys := { s.sys with state := .dawn, dawn := d } }

/-- A task, its code and what it names: one of everything that an instruction can reach. -/
def task0 : TaskDecl :=
  { spindle := 0, priority := 0, period := 10, deadlineUs := 500, budget := 1000, entry := 2, keepBase := 0x100, keepSize := 64
    scratchBase := 0x200, scratchSize := 128, sigs := [⟨0, .pass⟩, ⟨1, .pass⟩, ⟨2, .hold⟩], loops := [(0, 0)]
    outs := [.lsw 0, .sol 0, .lsw 1], bobs := [40, 41], onTrapStop := true }
def task1 : TaskDecl := { spindle := 1, priority := 1, arrival := true, bobbin := 42, spacingUs := 100, budget := 100, deadlineUs := 100 }
def tinyCop : Cop :=
  { minIsa := 3
    images := [{ spindle := 0, code := [0x7000000A, 0x6C000003, 0x74000000, 0x74000002], constBase := 0x40, consts := [0x11223344] }]
    tasks := [task0, task1]
    signals := [{ index := 0, type := 0, writer := .task 0, depth := 2 }, { index := 1, type := 0, writer := .task 1 },
      { index := 2, type := 0, writer := .hank 4, maxAgeUs := 1000 }, { index := 3, type := 0, writer := .shaft },
      { index := 4, type := 1, writer := .shaft }, { index := 5, type := 1, writer := .imu }, { index := 6, type := 1, writer := .port }]
    bobbins := [{ number := 40, size := 4096, dropNew := true, producer := 1, consumer := 1 },
      { number := 41, size := 4096, dropNew := false, producer := 1, consumer := 1 },
      { number := 42, size := 4096, dropNew := true, producer := 2, consumer := 1, consumerTask := 1 },
      { number := 43, size := 4096, dropNew := false, producer := 2, consumer := 2 },
      { number := 0, size := 4096, dropNew := false, producer := 3, consumer := 1 }]
    loops := [{ unit := 0, loop := 0, type := .pid, kp := 0x3F800000, outHi := 0x42C80000, outLo := 0xC2C80000, rate := 0x42C80000
                h := 0x3F800000 }]
    tables := [{ unit := 0, table := 0, loop := 0, angle := ⟨3, .pass⟩, lead := 0, gamma := 0, rho := 0, alpha := 0, tmax := 0 }]
    bindings := [(0, [0])]
    outputs := [{ chan := .lsw 0, kind := 1, iNom := 1000, freq := 100, armOrder := 0 },
      { chan := .lsw 1, iNom := 1000, armOrder := 1, shutOrder := 1 },
      { chan := .sol 0, kind := 2, iPeak := 1000, tPeak := 50, iHold := 400, freq := 1000, r20 := 8000, armOrder := 2, shutOrder := 2 }]
    profiles := [{ number := 1, peak := 900, riseMaxUs := 2000, tPeakUs := 5000, hold := 300, tHoldMs := 100, stay := false, detect := true
                   dip := 10, tFallMaxUs := 3000 }]
    streams := [{ chan := 1, kind := .bobbinOut 43 }, { chan := 4, kind := .signalsIn }, { chan := 5, kind := .bobbinIn 42 },
      { chan := 6, kind := .bobbinIn 43 }] }

/-- A module whose lane A drives, with lane B standing by COLD. -/
def noonOf (c : Cop) : State :=
  let s := inDay .noon up
  { s with
    sys := { s.sys with driving := true }
    store := { s.store with running := some c }
    lanes := { s.lanes with
      la := { s.lanes.la with state := .active, clocks := true }, lb := { s.lanes.lb with state := .cold }, holder := some .a, gate := true
      remain := 96000 } }
def noon : State := noonOf tinyCop

/-- An open session of slot 0, and a request of it. -/
def hosted (s : State) : State := { s with hank := { s.hank with sessions := [(0, { isOpen := true, major := 2, minor := 4 })] } }
def req : Req := { who := 0, seq := 7, at_ := now }

/-- `Taken` as a check. -/
def takes (r : Req) (in1x responderToo : Bool) (s : State) : Bool :=
  let u := advanceTo r.at_ s
  let x := session u r.who
  reachable r.who u && x.isOpen && decide (cached x r.seq = none) && !inFlight u r.who r.seq &&
    decide (r.ver = x.major ++ x.minor) && (in1x || decide (x.major ≠ 1)) && (responderToo || !responder u) && decide (x.outst < outLimit x)

theorem taken_of {r : Req} {a b : Bool} {s : State} (h : takes r a b s = true) : Taken r a b s := by
  simpa [takes, Taken, and_assoc] using h

/-- An activation of task 0 on Spindle 0, at its entry, with registers written. -/
def act (regs : List (Fin 32 × Word) := []) : Activation :=
  { task := 0, ti := now, start := now, pc := 2
    regs := regs.foldl (fun v e => v.set e.1 e.2) (Vector.replicate 32 0) }
def running0 (y : Activation) (s : State := noon) : State :=
  { s with core := { s.core with acts := [(0, y)], tasks := [(0, { pending := [(now, now)], lastRelease := some now })] } }
def sl : Slot := { sp := 0 }

/-- `Runs` as a check. -/
def mayRun (x : Slot) (level charge : Nat) (s : State) (y : Activation) : Bool :=
  decide (SMap.find s.core.acts x.sp.val = some y) && decide (y.wait = none) && decide (level ≤ (cop s).minIsa) &&
    decide (y.charged + charge ≤ (declOf s y.task).budget)

theorem runs_of {x : Slot} {l c : Nat} {s : State} {y : Activation} (h : mayRun x l c s y = true) : Runs x l c s y := by
  simpa [mayRun, Runs, and_assoc] using h

/-- What the activation of Spindle 0 holds behind an instruction. -/
def reg0 (v : State) (d : GReg) : Option Word := (SMap.find v.core.acts 0).map fun y => y.getG d
def pred0 (v : State) (d : PReg) : Option Bool := (SMap.find v.core.acts 0).map fun y => y.getP d
def pc0 (v : State) : Option (BitVec 14 × Nat) := (SMap.find v.core.acts 0).map fun y => (y.pc, y.charged)

/-! ### The queue and time -/

theorem test_step_takes_front :
    (match step { inDay .midnight up with pending := [.kl15Rising now, .rtcAlarm now] } with
      | .next v => decide (v.pending = [.rtcAlarm now]) && decide (v.sys.state = .dawn)
      | _ => false) = true ∧
    (match step up with | .next v => decide (v.sun.time = now + 10) | _ => false) = true := by decide +kernel

theorem test_time :
    (advanceTo (now + 5) up).sun.time = now + 5 ∧ (advanceTo (now - 1) up).sun.time = now ∧ (advanceTo now State.reset).sun.time = 0 := by
  decide +kernel

theorem test_taken : Taken req true true (hosted (atDawn .copRead noon)) ∧ Taken req false false (hosted noon) ∧
    takes req true true (hosted up) = false := ⟨taken_of (by decide +kernel), taken_of (by decide +kernel), by decide +kernel⟩

theorem test_runs : Runs sl 3 900 (running0 (act)) (act) := runs_of (by decide +kernel)

theorem reset_inv : Safety.Inv State.reset := by
  unfold Safety.Inv GateHeld BufferFits HoldSound; decide

theorem test_inv_steps : Safety.Inv State.reset ∧ (match step State.reset with | .next _ => true | _ => false) = true :=
  ⟨reset_inv, by decide +kernel⟩

/-! ### Well-formedness: an ill-formed term for each check, and terms at the bounds (R58, R353, R355 and the formats of the commands) -/

def bytes (n : Nat) : List Byte := List.replicate n 0

theorem test_ill_formed :
    ([.huReady 0 256, .hello req { complete := false, lo := 0, hi := 0, authOk := true, port := 8 }, .blockRd req 0 0 0, .blockRd req 0 351 0,
      .blockRd req 0 1 256, .blockWr req 0 0 [], .blockWr req 0 256 [0], .blockWr req 0 0 (List.replicate 351 0),
      .copLoadBegin req 4294967296 0, .copLoadData req 4294967296 [], .copLoadData req 0 (bytes 1401), .activate req 0 256,
      .streamHostWrite req 65536 (.entry []), .streamHostWrite req 1 (.entry (bytes 1409)),
      .streamHostWrite req 1 (.records (List.replicate 89 ⟨0, 0, 0⟩)), .streamHostWrite req 1 (.rtcm (bytes 1409)),
      .streamSubscribe req 65536 true, .streamOutSend 0 96, .taskReleasePeriodic 0 1024, .taskReleaseArrival 0 1024, .br sl 0,
      .loop sl 1 0, .sigWr sl 0 0 1 0, .bobPeek sl 0 0 5, .lawIn sl 0 8 0, .lawOut sl 0 0 5, .bobbinWaitResume 0 128, .twiRcClear req 8 0,
      .twiRcClear req 0 16] : List Instr).all (fun i => !wellFormed i) = true := by decide +kernel

theorem test_ill_formed_events :
    ([.imuSample 0 [0, 0, 0, 0, 0] 0 false, .gnssMeasEpoch 0 [⟨256, 0, 0, 0, 0, 0, false, none, 0⟩] ⟨[0, 0, 0, 0], [0, 0, 0, 0]⟩ none,
      .gnssMeasEpoch 0 [] ⟨[0, 0, 0], [0, 0, 0, 0]⟩ none, .gnssMeasEpoch 0 [] ⟨[0, 0, 0, 0], [0]⟩ none,
      .positionSolution 0 { epoch := 0, mode := 3, svUsed := 0, outputs := [], hdgFixed := false, baselineMm := 0 },
      .rtcmFrame 0 (bytes 1030) true 0, .rtcmFrame 0 [] true 4096, .tallyClaimRefused 0 0 (.lsw 48), .tallyClaimRefused 0 0 (.sol 32),
      .lswClear req 48, .pwmPeriodStart 0 (.sol 32) 0 none, .canFrameReceived 0 0 0 { id := 0, dlc := 16 },
      .canFrameReceived 0 0 0 { id := 0, dlc := 8, data := bytes 9 }, .canFrameReceived 0 0 0 { id := 0, fdf := true, dlc := 15, data := bytes 65 },
      .ethFrameReceived 0 0 { src := 0, dst := 0, length := 63 }, .ethFrameReceived 0 0 { src := 0, dst := 0, length := 64, payload := bytes 65 },
      .ibyarManifest 0 0 512 [0], .ibyarManifest 0 0 0 [], .ibyarManifest 0 0 0 (bytes 4097), .ibyarChunk 0 0 4294967296 [],
      .ibyarChunk 0 0 0 (bytes 4097), .ibyarAck 0 0 4294967296 true, .ibyarRequest 0 0 4294967296 true, .ibyarResendTimeout 0 0 4294967296,
      .panelTableLoad 0 { entries := [⟨0, 0, 0, 16, 0, []⟩] }, .panelTableLoad 0 { entries := [⟨0, 0, 0, 0, 16, []⟩] },
      .tallyLimitWrite req 7 0] : List Instr).all (fun i => !wellFormed i) = true := by decide +kernel

theorem test_well_formed_at_the_bounds :
    ([.huReady 0 255, .hello { req with who := 4 } { complete := false, lo := 0, hi := 0, authOk := true, port := 0 },
      .hello req { complete := false, lo := 0, hi := 0, authOk := true, port := 7 }, .blockRd req 0 350 255, .blockWr req 0 255 (List.replicate 350 0),
      .copLoadData req 4294967295 (bytes 1400), .activate req 0 255, .streamHostWrite req 65535 (.entry (bytes 1408)),
      .streamHostWrite req 1 (.records (List.replicate 88 ⟨0, 0, 0⟩)), .streamOutSend 0 95, .taskReleasePeriodic 0 1023, .br sl 1, .loop sl 0 0,
      .loop sl 1 1, .sigWr sl 0 0 4 0, .bobPeek sl 0 0 4, .lawIn sl 0 7 0, .lawOut sl 0 0 4, .bobbinWaitResume 0 127, .twiRcClear req 7 15,
      .imuSample 0 [0, 0, 0, 0, 0, 0] 0 false, .rtcmFrame 0 (bytes 1029) true 4095, .tallyClaimRefused 0 0 (.sol 31), .lswClear req 47,
      .canFrameReceived 0 0 0 { id := 0, fdf := true, dlc := 15, data := bytes 64 }, .ethFrameReceived 0 0 { src := 0, dst := 0, length := 64 },
      .ibyarManifest 0 0 511 (bytes 4096), .tallyLimitWrite req 6 0] : List Instr).all wellFormed = true := by decide +kernel

/-! ### Words of the Tister, each written out from the encoding tables: OP in 31:26, guard in 25:23, the fields of its row below -/

theorem test_words :
    ([(0x04044300, .add sl 1 2 3), (0x04044303, .mulh sl 1 2 3), (0x0914DFFF, .addi { sl with p := 2 } 5 6 0x1FFF),
      (0x1C7C0005, .movi sl 31 5), (0x18044047, .srai sl 1 2 7), (0x2410FFFC, .ldw sl 4 7 0x1FFC), (0x3810E008, .stw sl 4 7 8),
      (0x44044305, .qmul31 sl 1 2 3), (0x48044305, .ffma sl 1 2 3), (0x4C044000, .f2i sl 1 2), (0x500C2202, .ilt sl 3 1 2),
      (0x68102200, .pand sl 4 1 2), (0x6C000003, .br sl 3), (0x7000000A, .loop sl 0 10), (0x74800002, .end_ { sl with p := 1 }),
      (0x78000011, .trap sl 17), (0x84080009, .sigRd sl 2 9 0), (0x94104083, .bobPeek sl 4 3 2), (0x9C000005, .lawStep sl 5),
      (0xA4006004, .outSw sl 4 3), (0x80040001, .timeTi sl 1 true)] : List (Word × Instr)).all (fun e => decide (decodeTister 0 e.1 = some e.2))
      = true ∧
    ([0x00000000, 0xB0000000, 0x68202200, 0x0404031D] : List Word).all (fun w => decide (decodeTister 0 w = none)) = true := by decide +kernel

theorem test_words_round_trip :
    ([.add sl 1 2 3, .ldw sl 4 7 0x1FFC, .bobPeek sl 4 3 2, .br sl 0x1FFF] : List Instr).all (fun i =>
      wellFormed i && match encodeTister i with
        | some w => decide (decodeTister 0 w = some i)
        | none => false) = true := by decide +kernel

/-! ### Counters, memory, the ring -/

theorem test_counter_saturates :
    counter (bumps 0x00010014 0 2 { up with counters := [(ckey 0x00010014 0, { count := 0x7FFFFFFE })] }) 0x00010014 0
      = { count := 0x7FFFFFFF, sat := true } ∧
    noLane noon 0x00010014 = false ∧ wideAt noon 0x00010014 = none ∧ loOfHi 0x00010014 = none ∧
    counterIndex (perReq noon 0) 0x00010014 = some 0 ∧
    (writeReg 0 0x00010014 0x80000000 { noon with counters := [(ckey 0x00010014 0, { count := 5, sat := true })] }).2.counters = [] := by
  decide +kernel

theorem test_memory : Memory.wf noon = true ∧ readByte (writeBytes 0 0x200 [1, 0, 3] noon) 0 0x202 = 3 ∧
    Memory.wf (writeBytes 0 0x200 [1, 0, 3] noon) = true ∧ memKey 1 0 ≥ memKey 0 0x200 + 3 := by decide +kernel

def rec0 (seq : BitVec 64) (clear : Bool) : Record :=
  { seq := seq, ev := { makeRecord .critical 0x1A 0 [] up with clear := clear }, snaps := [], trunc := false }

theorem test_ring :
    ((List.map (·.1) [(0, rec0 1 true)]).Pairwise (· < ·)) ∧ otherHeld [(0, rec0 1 true)] = 0 ∧
    (match placeRecord 2 (rec0 2 false) [(0, rec0 1 true)] with
      | some l => decide (l.map (·.1) = [0, 1])
      | none => false) = true := by decide +kernel

/-! ### The day (R24 to R40, R71, R72, R412 to R418) -/

theorem test_control_refused :
    (arrived req (hosted (atDawn .copRead noon))).sys.hold = false ∧ bit (0x00010001 : Word) 0 = true ∧ bit (0x00010001 : Word) 16 = true ∧
    ran (.regWr req 0x00010004 0x00010001) (hosted (atDawn .copRead noon)) (repliedTo req (.nak .wrongState 0)) = true ∧
    ran (.regWrm req 0x00010004 0x2 0x2) (hosted noon) (repliedTo req (.nak .wrongState 0)) = true := by decide +kernel

def dead : State := { up with sys := { up.sys with powered := false, state := .midnight }, sun := { up.sun with run := false } }

theorem test_vbat :
    ran (.vbatQualified now) dead (fun v => decide (v.sys.state = .dawn) && decide (v.sys.cause = 0) && decide (v.outs.uv = 0xF)) = true ∧
    ran (.vbatQualified now) { dead with
        sys := { dead.sys with offAt := some (now - 2000000000) }, sun := { dead.sun with rtcValid := true } }
      (fun v => !v.sys.warm && v.sun.rtcValid) = true ∧
    ran (.vbatQualified now) { dead with sys := { dead.sys with offAt := some 0 }, sun := { dead.sun with rtcValid := true } }
      (fun v => v.sun.rtcValid) = true ∧
    ran (.vbatQualified (604800000000001 : Time)) { dead with sys := { dead.sys with offAt := some 0 }, sun := { dead.sun with rtcValid := true } }
      (fun v => !v.sun.rtcValid) = true ∧
    ran (.vbatQualified now) { noon with sys := { noon.sys with holdupRun := true, holdupDone := true } }
      (fun v => decide (v.sys.state = .dawn) && v.sys.holdupFlag && decide (v.core = {})) = true := by decide +kernel

theorem test_wakes :
    ran (.kl15Rising now) (inDay .midnight up) (fun v => decide (v.sys.cause = 3) && decide (v.sys.dawn = .supplies)) = true ∧
    ran (.wakeLineAsserted now 2) (inDay .midnight up) (fun v => decide (v.sys.cause = 4) && decide (v.sys.line = 2)) = true ∧
    ran (.rtcAlarm now) { inDay .midnight up with sun := { up.sun with rtcValid := true } } (fun v => decide (v.sys.cause = 5)) = true ∧
    ran (.midnightPendingWake now) { inDay .midnight up with sys := { (inDay .midnight up).sys with kl15Pending := true } }
      (fun v => decide (v.sys.cause = 6) && !v.sys.kl15Pending) = true := by decide +kernel

/-- Lane A's running claim stands. -/
def withRun (s : State) : State := submit 4 (runClaim .a) s

theorem test_dawn_steps :
    inStep up .supplies = true ∧ ran (.logicSuppliesUp now) up (fun v => decide (v.sys.dawn = .plls) && holds v 4 .logic) = true ∧
    inStep (atDawn .plls up) .plls = true ∧
    ran (.refPllsLocked now true) { atDawn .plls up with sun := { up.sun with run := false } }
      (fun v => v.sun.run && decide (v.sun.state = .unset) && decide (v.sun.time = 0)) = true ∧
    ran (.refPllsLocked now true) { atDawn .plls up with sun := { up.sun with run := false, rtcValid := true, rtc := 9 } }
      (fun v => decide (v.sun.time = now) && v.sun.known) = true ∧
    inStep (atDawn .selfTest (withRun up)) .selfTest = true ∧ holds (atDawn .selfTest (withRun up)) 4 (.run .a) = true ∧
    kl15Ends (atDawn .selfTest (withRun up)) = false ∧
    ran (.selfTestComplete now false false true true) (atDawn .selfTest (withRun up))
      (fun v => v.sys.hold && decide (v.sys.holdCause = 5) && decide (v.lanes.holder = none)) = true ∧
    ran (.selfTestComplete now true false true true) (atDawn .selfTest (withRun up))
      (fun v => decide (v.sys.dawn = .distaff) && decide (v.lanes.holder = some .a) && decide (v.lanes.lb.state = .failed)) = true ∧
    ran (.selfTestComplete now false true true true) (atDawn .selfTest (withRun up))
      (fun v => decide (v.lanes.holder = some .b) && decide (v.lanes.la.state = .failed)) = true ∧
    ran (.selfTestComplete now true true true true)
      { atDawn .selfTest (withRun up) with sys := { (atDawn .selfTest up).sys with stayDawn := true, warm := true } }
      (fun v => decide (v.sys.holdCause = 6) && decide (v.lanes.holder = some .a) && v.lanes.gate) = true ∧
    inStep (atDawn .distaff noon) .distaff = true ∧
    ran (.distaffBooted now) (atDawn .distaff noon) (fun v => decide (v.sys.dawn = .journal) && v.gnss.run) = true := by decide +kernel

theorem test_resets :
    ran (.resetNAsserted now) noon (fun v => decide (v.sys.cause = 2) && v.sys.warm && v.sys.held && decide (v.lanes.holder = none)) = true ∧
    ran (.warmReset req) (hosted noon) (fun v => decide (v.sys.cause = 1) && decide (v.hank.sessions = []) &&
      v.sent.any (fun m => decide (m = .reply 0 7 (.ack [])))) = true := by decide +kernel

theorem test_func_reinit :
    ran (.funcReinit req 0) (hosted noon) (repliedTo req (.nak .badMask 0)) = true ∧
    ran (.funcReinit req (1#64 <<< 45)) (hosted noon) (repliedTo req (.nak .badMask 0)) = true ∧
    standbyCold (hosted { noon with lanes := { noon.lanes with lb := { noon.lanes.lb with state := .failed } } }) = false ∧
    ran (.funcReinit req (1#64 <<< 44)) (hosted { noon with lanes := { noon.lanes with lb := { noon.lanes.lb with state := .failed } } })
      (repliedTo req (.nak .noStandby 0)) = true ∧
    ran (.funcReinit req (1#64 <<< 42)) (hosted { noon with upd := { noon.upd with step := .trial } }) (repliedTo req (.nak .busyStep 0)) = true ∧
    ran (.funcReinit req (1#64 <<< 41)) (hosted noon) (fun v => restarts v 41 && decide (v.sent = [])) = true ∧
    ran (.funcRestartDone now 41) { hosted noon with func := {
        restarting := 1#64 <<< 41, waits := [{ req := some req, mask := 1#64 <<< 41, todo := 1#64 <<< 41, late := 0 }] } }
      (fun v => !restarts v 41 && repliedTo req (.ack [0, 512, 0, 0]) v) = true := by decide +kernel

def journalAt (k : UpdStep) : State := { atDawn .journal noon with upd := { noon.upd with step := k } }

theorem test_journal :
    inStep (journalAt .staged) .journal = true ∧ ran (.journalRecovery now) (journalAt .staged) (fun v => decide (v.sys.dawn = .copRead)) = true ∧
    ran (.journalRecovery now) (journalAt .switching) (fun v => decide (v.upd.step = .trial) && v.upd.slot) = true ∧
    ran (.journalRecovery now) { journalAt .trial with upd := { (journalAt .trial).upd with healthOk := true } }
      (fun v => decide (v.upd.step = .none)) = true ∧
    ran (.journalRecovery now) (journalAt .trial) (fun v => decide (v.upd.step = .reverted) && v.upd.revertedBlocked && v.upd.slot) = true ∧
    ran (.journalRecovery now) (journalAt .committed) (fun v => decide (v.upd.step = .none) && !v.upd.slot) = true := by decide +kernel

def slotAs (x : CopSlot) (s : State) : State := { s with store := { s.store with s0 := x } }

theorem test_cop_read :
    inStep (atDawn .copRead noon) .copRead = true ∧ (copSlot (atDawn .copRead noon) noon.store.sel).state = .empty ∧
    kl15Ends (atDawn .copRead noon) = false ∧
    ran (.copReadDone now) (atDawn .copRead noon) (fun v => v.sys.hold && decide (v.sys.holdCause = 1)) = true ∧
    ran (.copReadDone now) (slotAs { state := .writing } (atDawn .copRead noon)) (fun v => v.sys.hold && decide (v.sys.holdCause = 2)) = true ∧
    ran (.copReadDone now) (slotAs { state := .valid, commit := true } (atDawn .copRead noon))
      (fun v => decide (v.sys.dawn = .validation) && v.store.validating && decide (v.store.s0.state = .committed)) = true := by decide +kernel

def judging (s : State) : State := { s with store := { s.store with validating := true } }

theorem test_validation_refuses :
    distaffRuns (judging noon) = true ∧ magicOk (valSlot (judging noon)).bytes = false ∧
    ran (.copValidationDone now {}) (judging noon) (fun v => decide (v.store.refusal = 0x0101) && decide (v.store.s0.state = .refused) &&
      decide (v.store.running = some tinyCop)) = true ∧
    ran (.copValidationDone now {}) (judging (atDawn .validation noon))
      (fun v => v.sys.hold && decide (v.sys.holdCause = 3) && decide (v.sys.refusal = 0x0101)) = true := by decide +kernel

theorem test_standby_copy :
    ran (.standbyCopyDone now true) { atDawn .copy noon with
        lanes := { noon.lanes with lb := { noon.lanes.lb with state := .waking, clocks := true } }
        store := { noon.store with candidate := some tinyCop } }
      (fun v => decide (v.sys.state = .morning) && decide (v.lanes.lb.state = .cold)) = true := by decide +kernel

theorem test_arm :
    takes req true false (hosted (inDay .morning noon)) = true ∧ standbyReady (inDay .morning noon) = true ∧
    ran (.arm req) (hosted (inDay .morning noon)) (fun v => decide (v.sys.state = .noon) && decide (v.sys.armedAt = some now) && !v.sys.driving
      && repliedTo req (.ack []) v) = true ∧
    ran (.arm req) (hosted noon) (repliedTo req (.nak .wrongState 0)) = true ∧
    ran (.autoarm now) { inDay .morning noon with store := { noon.store with running := some { tinyCop with autoarm := true } } }
      (fun v => decide (v.sys.state = .noon) && v.sys.autoarmDone) = true ∧
    ran (.armOutputStart now) { noon with sys := { noon.sys with driving := false, armedAt := some (now - 1000000) } }
      (fun v => v.sys.driving && decide (v.sys.armedAt = none)) = true ∧
    ran (.armOutputStart now) { noon with sys := { noon.sys with driving := false, armedAt := some (now - 999999) } }
      (fun v => !v.sys.driving) = true := by decide +kernel

theorem test_disarm :
    ran (.disarm req) (hosted noon) (fun v => decide (v.sys.state = .morning) && !v.sys.driving && repliedTo req (.ack []) v) = true ∧
    ran (.disarm { req with who := 4 })
      { hosted noon with
        hank := { noon.hank with sessions := [(4, { isOpen := true, major := 2, minor := 4 })] }
        lanes := { noon.lanes with gate := false } } (fun v => v.sys.disarmPending && decide (v.sys.state = .noon)) = true ∧
    ran (.disarm req) (hosted { inDay .morning noon with sys := { (inDay .morning noon).sys with held := true } })
      (fun v => !v.sys.held && decide (v.sys.state = .morning)) = true := by decide +kernel

theorem test_dusk_starts :
    ran (.kl15Low200ms now) noon (fun v => decide (v.sys.state = .dusk) && decide (v.sys.duskStep = 1) && !v.sys.driving) = true ∧
    ran (.kl15Low200ms now) { atDawn .copRead noon with sys := { (atDawn .copRead noon).sys with hold := true } }
      (fun v => decide (v.sys.state = .dusk)) = true ∧
    ran (.kl15Low200ms now) (atDawn .copRead noon) (fun v => v.sys.kl15Latched && decide (v.sys.state = .dawn)) = true ∧
    ran (.kl15Low200ms now) { atDawn .copRead noon with sys := { (atDawn .copRead noon).sys with warm := true, dawnAt := now - 199999999 } }
      (fun v => !v.sys.kl15Latched) = true ∧
    ran (.kl15Low200ms now) (inDay .midnight up) (fun v => decide (v.sys.state = .midnight) && !v.sys.kl15) = true ∧
    ran (.sysCtrlDusk req) (hosted noon) (fun v => decide (v.sys.state = .dusk)) = true ∧
    ran (.sysCtrlDusk req) (hosted (atDawn .copRead noon)) (repliedTo req (.nak .wrongState 0)) = true := by decide +kernel

def dusk (k : Nat) : State := { inDay .dusk noon with sys := { (inDay .dusk noon).sys with duskStep := k } }

theorem test_dusk_steps :
    atFrame (dusk 1) = true ∧ quietBefore now (dusk 1) = true ∧
    ran (.duskStepDone now) (dusk 1) (fun v => decide (v.sys.duskStep = 2)) = true ∧
    ran (.duskStepDone now) (dusk 2) (fun v => decide (v.sys.duskStep = 3) && !v.strike.run) = true ∧
    ran (.duskStepDone now) (dusk 3) (fun v => decide (v.sys.duskStep = 4)) = true ∧
    skeinFlushed (dusk 4) = true ∧ ran (.duskStepDone now) (dusk 4) (fun v => decide (v.sys.duskStep = 5)) = true ∧
    panelDone (dusk 5) = true ∧
    ran (.duskStepDone now) { dusk 5 with sun := { (dusk 5).sun with state := .locked } }
      (fun v => decide (v.sys.state = .midnight) && v.sys.kl15Pending && decide (v.sun.rtc = now) && v.sun.rtcValid) = true ∧
    ran (.duskTimeout now) (dusk 2) (fun v => decide (v.sys.state = .midnight) && decide (v.lanes.holder = none)) = true := by decide +kernel

theorem test_holdup :
    ran (.holdupStart now) { noon with outs := { noon.outs with lsw := [(0, { on := true, cmd := true })] } }
      (fun v => v.sys.holdupRun && !(lsw v 0).on && !fits v 0 { owner := .logic, c := 1 }) = true ∧
    ran (.holdupStepsComplete now false) { noon with sys := { noon.sys with holdupRun := true } } (fun v => v.sys.holdupDone) = true ∧
    ran (.holdupStepsComplete now true) { noon with
        sys := { noon.sys with holdupRun := true }, spool := { noon.spool with s0 := { noon.spool.s0 with committed := true, frame := 5 } } }
      (fun v => decide (v.sys.state = .dawn) && v.sys.holdupFlag && decide (v.emergency.frame = 5)) = true ∧
    ran (.holdupExhausted now) { noon with sys := { noon.sys with holdupRun := true } } (fun v => !v.sys.powered && decide (v.sys.offAt = some now))
      = true ∧
    ran (.huReady now 49) noon (fun v => v.sys.huReady && v.sys.huLow) = true ∧
    ran (.huReady now 50) noon (fun v => v.sys.huReady && !v.sys.huLow) = true ∧
    ran (.plateHot now 96) noon (fun v => v.sys.hot && decide (v.sys.tplate = 96)) = true := by decide +kernel

/-! ### Registers, windows, sessions, the Distaff (03, 08, 19) -/

theorem test_register_reads :
    addrOk 2 = false ∧ ran (.regRd req 2) (hosted noon) (repliedTo req (.nak .badAddr 0)) = true ∧
    addrOk 0x00080000 = true ∧ noLane (hosted { noon with lanes := { noon.lanes with holder := none, gate := false } }) 0x00080000 = true ∧
    ran (.regRd { req with who := 4 } 0x00080010) { noon with
        lanes := { noon.lanes with holder := none, gate := false }
        hank := { noon.hank with sessions := [(4, { isOpen := true, major := 2, minor := 4, byResponder := true })] } }
      (repliedTo { req with who := 4 } (.ack [0])) = true ∧
    wideAt (hosted noon) 0x00030000 = some now ∧
    ran (.loRegisterRead req 0x00030000) (hosted noon)
      (fun v => repliedTo req (.ack [lo32 now]) v && decide ((perReq v 0).shadow = hi32 now)) = true ∧
    loOfHi 0x00030004 = some 0x00030000 ∧
    ran (.regRd req 0x00030004) { hosted noon with reqs := [(0, { shadow := 77 })] } (repliedTo req (.ack [77])) = true ∧
    tripFields 0x0001001C = [] ∧ ran (.regRd req 0x00000014) (hosted noon) (repliedTo req (.ack [0x02040103])) = true := by decide +kernel

theorem test_register_writes :
    ran (.regWr req 0x1 0) (hosted noon) (repliedTo req (.nak .badAddr 0)) = true ∧
    wideAt (hosted noon) 0x00000000 = none ∧ loOfHi 0x00000000 = none ∧
    ran (.regWr req 0x00000000 5) (hosted noon) (repliedTo req (.ack [])) = true ∧
    ran (.loRegisterWrite req 0x00030000 5) (hosted noon) (fun v => decide ((perReq v 0).staged = some (0x00030000, 5))) = true ∧
    ran (.hiRegisterWrite req 0x00030004 5) { hosted noon with reqs := [(0, { staged := some (0x00030000, 5) })] }
      (fun v => decide ((perReq v 0).staged = none)) = true ∧
    ran (.counterSatClear req 0x00010014) { hosted noon with counters := [(ckey 0x00010014 0, { count := 5, sat := true })] }
      (fun v => decide (counter v 0x00010014 0 = {})) = true ∧
    ran (.sysLockSet req 0x1F) (hosted noon) (fun v => decide (v.sys.lock.vote = 0x1F)) = true ∧
    (0x80000000 : Word) &&& (access 0x00060018).2 ≠ 0 ∧
    ran (.regWrm req 0x00060018 0x80000000 0) (hosted noon) (repliedTo req (.nak .badValue 0)) = true ∧
    (0x1F : Word) &&& (access 0x00010008).2 = 0 ∧
    ran (.regWrm req 0x00010008 0x1 0xFF) (hosted noon) (repliedTo req (.ack [1])) = true := by decide +kernel

theorem test_windows :
    ran (.indCtrlWrite req 0x11) { hosted noon with reqs := [(0, { indAddr := 8 })] }
      (fun v => decide ((perReq v 0).indWin = 1) && (perReq v 0).indAinc && decide ((perReq v 0).indAddr = 0)) = true ∧
    0 < winSize 3 ∧
    ran (.indDataRead req) { hosted noon with reqs := [(0, { indWin := 1, indAinc := true })] }
      (fun v => decide ((perReq v 0).indAddr = 4) && !(perReq v 0).indRange) = true ∧
    winSize 1 ≤ 0x7FFFFFFC ∧
    ran (.indDataRead req) { hosted noon with reqs := [(0, { indWin := 1, indAddr := 0x7FFFFFFC })] }
      (fun v => (perReq v 0).indRange && repliedTo req (.ack [0]) v) = true ∧
    ran (.indDataWrite req 0x21) { hosted noon with reqs := [(0, { indWin := 3, indAddr := 4 })] }
      (fun v => decide (SMap.get v.panel.pendingPlane 0 8 = 1) && decide (SMap.get v.panel.pendingPlane 0 9 = 2)) = true ∧
    ran (.indDataRead req) { hosted noon with reqs := [(0, { indWin := 7, indAddr := 0x7FFFFFFC })] } (fun v => !(perReq v 0).indRange) = true := by
  decide +kernel

theorem test_blocks :
    ran (.blockRd req 0 0 0) (hosted noon) (repliedTo req (.nak .badValue 0)) = true ∧
    ran (.blockRd req 0 351 0) (hosted noon) (repliedTo req (.nak .badValue 0)) = true ∧
    ran (.blockWr req 0x00010008 0 []) (hosted noon) (repliedTo req (.nak .badValue 0)) = true ∧
    ran (.blockRd req 0x00000014 2 0) (hosted noon) (repliedTo req (.ack [0x02040103, 0x02010502])) = true ∧
    ran (.blockWr req 0x00010008 0 [0x1F]) (hosted noon) (fun v => decide (v.sys.lock.vote = 0x1F)) = true := by decide +kernel

/-- Sessions with a change; a state in DAWN's hold, whose lane runs and whose Distaff serves. -/
def withX (s : State) (x : Session) : State := { s with hank := { s.hank with sessions := [(0, x)] } }
def x0 : Session := { isOpen := true, major := 2, minor := 4 }
def dark0 (s : State) : State := { s with lanes := { s.lanes with holder := none, gate := false } }
def svc : Req := { req with who := 4 }

theorem test_once :
    reachable 0 noon = true ∧ responder noon = false ∧
    repliedTo req (.ack [9]) (meetServer req true true id (withX noon { x0 with cache := [(7, .ack [9])] })) = true ∧
    inFlight { noon with distaff := { queue := [⟨2, req, .copLoadAbort req, now⟩] } } 0 7 = true ∧
    repliedTo req (.nak .version 0x0204) (meetServer req true true id (withX noon { x0 with minor := 3 })) = true ∧
    outLimit x0 = 256 ∧ repliedTo req (.busy 1) (meetServer req true true id (withX noon { x0 with outst := 256 })) = true := by decide +kernel

theorem test_hello :
    reachable 4 (dark0 noon) = true ∧ responder (dark0 noon) = true ∧
    chooseVersion true ⟨false, 0x0100, 0x0204, true, 4⟩ = some 0x0204 ∧ freeSlot 4 (dark0 noon) = some 4 ∧
    ran (.hello svc ⟨false, 0x0100, 0x0204, true, 4⟩) (dark0 noon) (fun v => (session v 4).half && !(session v 4).isOpen) = true ∧
    ran (.hello svc ⟨true, 0x0100, 0x0204, true, 4⟩)
      { dark0 noon with hank := { noon.hank with sessions := [(4, { half := true })] } } (fun v => (session v 4).isOpen) = true ∧
    ran (.hello req ⟨false, 0x0100, 0x0204, true, 4⟩) noon (fun v => decide (v.distaff.queue.map (·.cls) = [1])) = true ∧
    ran (.hankSessionTimeout now 0) (withX noon { x0 with lastValid := now - 60000000000 }) (fun v => decide (session v 0 = {})) = true ∧
    ran (.hankAuthFail now) noon (fun v => decide ((counter v 0x001E0010 0).count = 1)) = true ∧
    ran (.serviceFrameBad now) noon (fun v => decide (v = noon)) = true := by decide +kernel

def entry8 : BobEntry := ⟨now, 0, 0, [1, 2, 3, 4, 5, 6, 7, 8]⟩
def withBob (n : Nat) (b : Bob) (s : State) : State := { s with core := { s.core with bobs := [(n, b)] } }
def one8 : Bob := { entries := [(0, entry8)], wptr := 32, seq := 1 }

theorem test_streams :
    streamKind noon 4 = some .signalsIn ∧
    ran (.streamHostWrite req 4 (.records [⟨2, 0x3F800000, 0⟩])) (hosted noon)
      (fun v => repliedTo req (.ack []) v && decide ((ring v 2).samples.map (·.stamp) = [now])) = true ∧
    streamKind noon 6 = some (.bobbinIn 43) ∧ (bob noon 43).held = [] ∧
    ran (.streamHostWrite req 6 (.entry [1])) (hosted noon) (fun v => decide ((bob v 43).entries.length = 1)) = true ∧
    ran (.streamHostWrite req 6 (.entry [1])) (hosted (withBob 43 { held := [entry8] } noon)) (repliedTo req (.busy 1)) = true ∧
    streamKind noon 1 = some (.bobbinOut 43) ∧
    ran (.streamSubscribe req 1 true) (hosted noon) (fun v => decide (SMap.get v.hank.subs 0 1 = 1)) = true ∧
    ran (.streamSubscribe req 1 false) { hosted noon with hank := { (hosted noon).hank with subs := [(1, 1)] } }
      (fun v => decide (SMap.get v.hank.subs 0 1 = 0)) = true ∧
    ran (.streamOutSend now 1) { withBob 43 one8 (hosted noon) with hank := { (hosted noon).hank with subs := [(1, 1)] } }
      (fun v => decide ((bob v 43).entries = []) && decide ((session v 0).evtNo = 1)) = true ∧
    ran (.rtcmFrame now [0xD3] true 1019) noon (fun v => decide (v.core.pos.rtcm = [[0xD3]])) = true ∧
    ran (.rtcmFrame now [] false 0) noon (fun v => decide ((counter v 0x0016000C 0).count = 1)) = true := by decide +kernel

theorem test_distaff_queues :
    takes req true false (hosted noon) = true ∧
    ran (.copLoadBegin req 64 0) (hosted noon) (fun v => decide (v.distaff.queue.map (·.cls) = [2]) && decide ((session v 0).outst = 1)) = true ∧
    ran (.copLoadData req 0 [1]) (hosted noon) (fun v => decide (v.distaff.queue.map (·.cls) = [2])) = true ∧
    ran (.copLoadCommit req) (hosted noon) (fun v => decide (v.distaff.queue.map (·.cls) = [2])) = true ∧
    ran (.copLoadRevert req) (hosted noon) (fun v => decide (v.distaff.queue.map (·.cls) = [2])) = true ∧
    ran (.copLoadAbort req) (hosted noon) (fun v => decide (v.distaff.queue.map (·.cls) = [2])) = true ∧
    takes req false false (hosted noon) = true ∧
    ran (.activate req 1 0) (hosted noon) (fun v => decide (v.distaff.queue.map (·.cls) = [3])) = true ∧
    nextEntry { queue := [⟨1, req, .arm req, now⟩, ⟨2, req, .arm req, now⟩] } = some (0, 0) := by decide +kernel

/-- A state whose Distaff has one entry of the validate class. -/
def queued (c : Instr) (st : CopStore) : State := { hosted noon with distaff := { queue := [⟨2, req, c, now⟩] }, store := st }
def loading (x : CopSlot) : CopStore := { noon.store with s0 := x, loading := true, owner := some 0 }

theorem test_distaff_serves :
    distaffRuns noon = true ∧
    ran (.distaffQueueService now 10) (queued (.copLoadBegin req 64 5) noon.store)
      (fun v => v.store.loading && decide (selSlot v = { state := .writing, total := 64, digest := 5 }) && repliedTo req (.ack []) v) = true ∧
    fits noon 4 (flashClaim 0 noon.tally.bursts) = true ∧
    ran (.distaffQueueService now 10) (queued (.copLoadData req 0 [1, 2]) (loading { state := .writing, total := 64 }))
      (fun v => decide ((selSlot v).next = 2) && repliedTo req (.ack []) v) = true ∧
    ran (.distaffQueueService now 10) (queued (.copLoadCommit req) (loading { state := .writing, digest := 1 }))
      (fun v => decide ((selSlot v).state = .committed) && (selSlot v).badDigest && v.store.validating) = true ∧
    ran (.distaffQueueService now 10) (queued (.copLoadRevert req) { noon.store with s1 := { state := .valid } })
      (fun v => v.store.sel && repliedTo req (.ack []) v) = true ∧
    ran (.distaffQueueService now 10) (queued (.copLoadAbort req) (loading { state := .writing })) (fun v => !v.store.loading) = true ∧
    ran (.distaffEntryWaitWarning now) { noon with distaff := { queue := [⟨2, req, .arm req, now - 100000001⟩] } }
      (raisesLast .warning 0x01) = true ∧
    ran (.distaffWatchdogMiss now) (queued (.copLoadAbort req) noon.store) (fun v => decide (v.distaff = {}) && restarts v 43) = true := by
  decide +kernel

/-! ### Tister (04 to 07) -/

/-- g1 = A and g2 = B, and what g3 holds behind an instruction of Spindle 0; what p1 holds behind a comparison. -/
def ab (A B : Word) : State := running0 (act [(1, A), (2, B), (4, 0x100)])
def g3 (i : Instr) (A B : Word) : Option Word := match exec i (ab A B) with
  | .next v => reg0 v 3
  | _ => none
def p1 (i : Instr) (A B : Word) : Option Bool := match exec i (ab A B) with
  | .next v => pred0 v 1
  | _ => none

theorem test_may_run : mayRun sl 3 110 (ab 0 0) (act [(1, 0), (2, 0), (4, 0x100)]) = true := by decide +kernel

theorem test_integer_1 :
    g3 (.add sl 3 1 2) 0xFFFFFFFF 2 = some 1 ∧ g3 (.sub sl 3 1 2) 1 2 = some 0xFFFFFFFF ∧ g3 (.mul sl 3 1 2) 0x10000 0x10001 = some 0x10000 ∧
    g3 (.mulh sl 3 1 2) 0xFFFFFFFF 2 = some 0xFFFFFFFF ∧ g3 (.mulhu sl 3 1 2) 0xFFFFFFFF 2 = some 1 ∧
    g3 (.div sl 3 1 2) 0xFFFFFFF9 2 = some 0xFFFFFFFD ∧ g3 (.div sl 3 1 2) 7 0 = some 0 ∧
    g3 (.div sl 3 1 2) 0x80000000 0xFFFFFFFF = some 0x80000000 ∧ g3 (.divu sl 3 1 2) 0xFFFFFFF9 2 = some 0x7FFFFFFC ∧
    g3 (.rem sl 3 1 2) 0xFFFFFFF9 2 = some 0xFFFFFFFF ∧ g3 (.rem sl 3 1 2) 7 0 = some 7 ∧ g3 (.remu sl 3 1 2) 7 4 = some 3 ∧
    g3 (.and_ sl 3 1 2) 12 10 = some 8 ∧ g3 (.or_ sl 3 1 2) 12 10 = some 14 ∧ g3 (.xor sl 3 1 2) 12 10 = some 6 ∧
    g3 (.andn sl 3 1 2) 12 10 = some 4 := by decide +kernel

theorem test_integer_2 :
    g3 (.shl sl 3 1 2) 1 33 = some 2 ∧ g3 (.shr sl 3 1 2) 0x80000000 31 = some 1 ∧ g3 (.sra sl 3 1 2) 0x80000000 31 = some 0xFFFFFFFF ∧
    g3 (.rol sl 3 1 2) 0x80000001 0 = some 0x80000001 ∧ g3 (.rol sl 3 1 2) 0x80000001 1 = some 3 ∧
    g3 (.min sl 3 1 2) 0xFFFFFFFF 1 = some 0xFFFFFFFF ∧ g3 (.max sl 3 1 2) 0xFFFFFFFF 1 = some 1 ∧
    g3 (.minu sl 3 1 2) 0xFFFFFFFF 1 = some 1 ∧ g3 (.maxu sl 3 1 2) 0xFFFFFFFF 1 = some 0xFFFFFFFF ∧
    g3 (.qadd sl 3 1 2) 0x7FFFFFFF 1 = some 0x7FFFFFFF ∧ g3 (.qsub sl 3 1 2) 0x80000000 1 = some 0x80000000 ∧
    g3 (.qshl sl 3 1 2) 0x40000000 1 = some 0x7FFFFFFF := by decide +kernel

theorem test_float :
    g3 (.fadd sl 3 1 2) 0x3F800000 0x40000000 = some 0x40400000 ∧ g3 (.fsub sl 3 1 2) 0x3F800000 0x40000000 = some 0xBF800000 ∧
    g3 (.fmul sl 3 1 2) 0x40000000 0x40400000 = some 0x40C00000 ∧ g3 (.fdiv sl 3 1 2) 0x40C00000 0x40000000 = some 0x40400000 ∧
    g3 (.fdiv sl 3 1 2) 0x3F800000 0 = some 0x7F800000 ∧ g3 (.fsqrt sl 3 1) 0x40800000 0 = some 0x40000000 ∧
    g3 (.fsqrt sl 3 1) 0xBF800000 0 = some 0x7FC00000 ∧ g3 (.ffma sl 3 1 2) 0x40000000 0x40400000 = some 0x40C00000 ∧
    g3 (.fmin sl 3 1 2) 0x3F800000 0x40000000 = some 0x3F800000 ∧ g3 (.fmax sl 3 1 2) 0x3F800000 0x40000000 = some 0x40000000 ∧
    g3 (.fabs sl 3 1) 0xBF800000 0 = some 0x3F800000 ∧ g3 (.fneg sl 3 1) 0xFF800001 0 = some 0x7FC00000 ∧
    g3 (.f2i sl 3 1) 0x40400000 0 = some 3 ∧ g3 (.f2i sl 3 1) 0x7FC00000 0 = some 0 ∧ g3 (.i2f sl 3 1) 3 0 = some 0x40400000 ∧
    g3 (.f2q16 sl 3 1) 0x3F800000 0 = some 0x10000 ∧ g3 (.q162f sl 3 1) 0x10000 0 = some 0x3F800000 ∧
    g3 (.f2q31 sl 3 1) 0x3F000000 0 = some 0x40000000 ∧ g3 (.q312f sl 3 1) 0x40000000 0 = some 0x3F000000 ∧
    isNan 0x7F800001 = true ∧ fadd 0x7F800001 0x3F800000 = nan := by decide +kernel

theorem test_one_operand :
    g3 (.clz sl 3 1) 0 0 = some 32 ∧ g3 (.clz sl 3 1) 1 0 = some 31 ∧ g3 (.popc sl 3 1) 0xF00F 0 = some 8 ∧
    g3 (.addi sl 3 1 0x1FFF) 5 0 = some 4 ∧ g3 (.andi sl 3 1 0x1FFF) 0xFFFFFFFF 0 = some 0x1FFF ∧
    g3 (.ori sl 3 1 0x1000) 1 0 = some 0x1001 ∧ g3 (.xori sl 3 1 1) 1 0 = some 0 ∧ g3 (.shli sl 3 1 31) 3 0 = some 0x80000000 ∧
    g3 (.shri sl 3 1 1) 3 0 = some 1 ∧ g3 (.srai sl 3 1 1) 0xFFFFFFFE 0 = some 0xFFFFFFFF ∧ g3 (.roli sl 3 1 4) 0xF0000000 0 = some 0xF ∧
    g3 (.movi sl 3 0x1FFF) 0 0 = some 0xFFFFFFFF ∧ g3 (.qneg sl 3 1) 0x80000000 0 = some 0x7FFFFFFF ∧
    g3 (.qabs sl 3 1) 0x80000000 0 = some 0x7FFFFFFF ∧ g3 (.qmul16 sl 3 1 2) 0x18000 0x20000 = some 0x30000 ∧
    g3 (.qmul31 sl 3 1 2) 0x40000000 0x40000000 = some 0x20000000 ∧ g3 (.timeTi sl 3 true) 0 0 = some 0xE8 ∧
    g3 (.timeTi sl 3 false) 0 0 = some 0xD4A51000 := by decide +kernel

theorem test_compare :
    p1 (.ieq sl 1 1 2) 5 5 = some true ∧ p1 (.ine sl 1 1 2) 5 5 = some false ∧ p1 (.ilt sl 1 1 2) 0xFFFFFFFF 0 = some true ∧
    p1 (.ige sl 1 1 2) 0xFFFFFFFF 0 = some false ∧ p1 (.iltu sl 1 1 2) 0xFFFFFFFF 0 = some false ∧
    p1 (.igeu sl 1 1 2) 0xFFFFFFFF 0 = some true ∧ p1 (.ieqi sl 1 1 0x1FFF) 0xFFFFFFFF 0 = some true ∧
    p1 (.inei sl 1 1 1) 1 0 = some false ∧ p1 (.ilti sl 1 1 0x1FFF) 0xFFFFFFFE 0 = some true ∧ p1 (.igei sl 1 1 1) 1 0 = some true ∧
    p1 (.feq sl 1 1 2) 0x80000000 0 = some true ∧ p1 (.fne sl 1 1 2) 0x7FC00000 0x7FC00000 = some true ∧
    p1 (.flt sl 1 1 2) 0xBF800000 0 = some true ∧ p1 (.fle sl 1 1 2) 0 0x7FC00000 = some false ∧ p1 (.fgt sl 1 1 2) 0 0xBF800000 = some true ∧
    p1 (.fge sl 1 1 2) 0 0 = some true ∧ p1 (.fun sl 1 1 2) 0x7FC00000 0 = some true := by decide +kernel

theorem test_predicates :
    p1 (.pand sl 1 0 0) 0 0 = some true ∧ p1 (.por sl 1 2 3) 0 0 = some false ∧ p1 (.pxor sl 1 0 0) 0 0 = some false ∧
    p1 (.pandn sl 1 0 2) 0 0 = some true ∧ p1 (.pnot sl 1 2) 0 0 = some true ∧ p1 (.pmov sl 1 2) 0 0 = some false := by decide +kernel

/-- g4 names the first byte of KEEP, where the bytes FE 80 01 02 stand. -/
def kept4 : State := { ab 0 0 with core := { (ab 0 0).core with
  sram := [(memKey 0 0x40, 0x44), (memKey 0 0x41, 0x33), (memKey 0 0x42, 0x22), (memKey 0 0x43, 0x11),
    (memKey 0 0x100, 0xFE), (memKey 0 0x101, 0x80), (memKey 0 0x102, 1), (memKey 0 0x103, 2)] } }
def loaded (i : Instr) : Option Word := match exec i kept4 with
  | .next v => reg0 v 3
  | _ => none

theorem test_memory_instructions :
    mayRead tinyCop task0 0x100 4 = true ∧ loaded (.ldw sl 3 4 0) = some 0x020180FE ∧ loaded (.ldh sl 3 4 0) = some 0xFFFF80FE ∧
    loaded (.ldhu sl 3 4 0) = some 0x80FE ∧ loaded (.ldb sl 3 4 0) = some 0xFFFFFFFE ∧ loaded (.ldbu sl 3 4 0) = some 0xFE ∧
    (image tinyCop 0).consts.length = 1 ∧ loaded (.ldc sl 3 0) = some 0x11223344 ∧
    mayWrite task0 0x100 4 = true ∧ ran (.stw sl 4 4 0) kept4 (fun v => decide (readBytes v 0 0x100 4 = [0, 1, 0, 0])) = true ∧
    ran (.sth sl 4 4 2) kept4 (fun v => decide (readBytes v 0 0x100 4 = [0xFE, 0x80, 0, 1])) = true ∧
    ran (.stb sl 4 4 3) kept4 (fun v => decide (readBytes v 0 0x100 4 = [0xFE, 0x80, 1, 0])) = true := by decide +kernel

/-- At a word of the code loop 10, br 3, next, end, in the frame of that loop with iterations left. -/
def inLoop (left : Nat) : State := running0 { act with pc := 2, loops := [⟨0, 2, left⟩] }
def atPc (i : Instr) (s : State) : Option (BitVec 14 × Nat) := match exec i s with
  | .next v => pc0 v
  | _ => none

theorem test_control_flow :
    atPc (.br sl 5) (ab 0 0) = some (7, 2) ∧ loopEnd (image tinyCop 0).code 0 = some 2 ∧
    atPc (.loop sl 0 10) (running0 { act with pc := 0 }) = some (1, 2) ∧ atPc (.loop sl 0 0) (running0 { act with pc := 0 }) = some (3, 2) ∧
    ran (.loop sl 1 10) (running0 { act [(1, 10)] with pc := 0 })
      (fun v => decide ((SMap.find v.core.acts 0).map (·.loops) = some [⟨0, 2, 10⟩])) = true ∧
    atPc (.next_ sl) (inLoop 1) = some (3, 0) ∧ atPc (.next_ sl) (inLoop 2) = some (1, 2) ∧ atPc (.brk sl) (inLoop 2) = some (3, 2) ∧
    act.getP 1 = false ∧ atPc (.div { sp := 0, p := 1 } 3 1 2) (ab 0 0) = some (3, 18) := by decide +kernel

def trapsWith (i : Instr) (cause : Nat) (s : State) : Bool := ran i s fun v =>
  decide (SMap.find v.core.acts 0 = none) && decide (v.core.lastTrap = BitVec.ofNat 32 (cause * 2 ^ 28 + 2)) &&
    decide ((counter v 0x00080018 0).count = 1) && raisesLast .error 8 v && (taskOf v 0).stopped

theorem test_ends_and_traps :
    ran (.end_ sl) (running0 { act with ti := now - 600000 })
      (fun v => decide (SMap.find v.core.acts 0 = none) && decide ((taskOf v 0).maxResp = 600000) && decide ((counter v 0x00080010 0).count = 1))
      = true ∧
    trapsWith (.trap sl 5) 1 (ab 0 0) = true ∧ trapsWith (.ldw sl 3 1 0) 3 (ab 0x1000 0) = true ∧ trapsWith (.ldw sl 3 1 0) 2 (ab 0x101 0) = true ∧
    trapsWith (.stw sl 3 1 0) 3 (ab 0x40 0) = true ∧ trapsWith (.add sl 3 1 2) 5 (running0 { act with charged := 1000 }) = true ∧
    trapsWith (.fadd sl 3 1 2) 7 (running0 act (noonOf { tinyCop with minIsa := 1 })) = true ∧
    trapsWith (.sigRd sl 3 9 0) 8 (ab 0 0) = true := by decide +kernel

def barred : State := noonOf { tinyCop with barriers := [{ group := 3, tasks := [0] }, { group := 4, tasks := [0, 1] }] }
def waits0 (w : Wait) (s : State := noon) : State := running0 { act with wait := some w } s

theorem test_time_and_barriers :
    g3 (.timeNow sl 3 false) 0 0 = some 0xD4A51000 ∧ g3 (.timeNow sl 3 true) 0 0 = some 0 ∧
    barrierBroken (running0 act barred) 4 now = false ∧
    ran (.bar sl 4) (running0 act barred) (fun v => decide (v.core.barriers = [(4, now, 0)]) &&
      decide ((SMap.find v.core.acts 0).map (·.wait) = some (some (.barrier 4)))) = true ∧
    (let s := waits0 (.barrier 3) barred
     ran (.barrierResume now 3 now) { s with core := { s.core with barriers := [(3, now, 0)] } }
       (fun v => decide (v.core.barriers = []) && decide (pc0 v = some (3, 0)))) = true ∧
    barrierBroken { running0 act barred with core := { (running0 act barred).core with broken := [(4, now)] } } 4 now = true ∧
    trapsWith (.bar sl 4) 6 { running0 act barred with core := { (running0 act barred).core with broken := [(4, now)] } } = true ∧
    trapsWith (.loop sl 1 9) 4 (running0 { act [(1, 10)] with pc := 2 }
      (noonOf { tinyCop with images := [{ spindle := 0, code := [0, 0, 0x70020009, 0x74000000] }] })) = true := by decide +kernel

def late1 : State := { running0 act with core := { (running0 act).core with tasks := [(1, { pending := [(now, now)] })] } }
def sampled (n : Nat) (q : Sample) (s : State) : State := { s with core := { s.core with signals := [(n, { samples := [q] })] } }
def q0 : Sample := { value := 0x3F800000, stamp := now - 500, status := .valid, landed := now - 400 }

theorem test_signal_reads :
    mustWait late1 0 1 now = true ∧ mustWait noon 0 1 now = false ∧
    ran (.sigWaitResume now 0) { late1 with core := { late1.core with acts := [(0, { act with wait := some (.signal 3 0 1) })] } }
      (fun v => decide ((SMap.find v.core.acts 0).map (·.wait) = some (some (.signal 3 0 1)))) = true ∧
    ran (.sigWaitResume now 0) (sampled 1 q0 (waits0 (.signal 3 0 1)))
      (fun v => decide (reg0 v 3 = some 0x3F800000) && decide (pc0 v = some (3, 0))) = true ∧
    ran (.sigRd sl 3 2 0) (running0 { act with picked := [(2, ⟨5, 1, 9⟩)] }) (fun v => decide (reg0 v 3 = some 5)) = true ∧
    ran (.sigSt sl 3 2 0) (running0 { act with picked := [(2, ⟨5, 1, 9⟩)] }) (fun v => decide (reg0 v 3 = some 1)) = true ∧
    ran (.sigRd sl 3 1 0) late1 (fun v => decide ((SMap.find v.core.acts 0).map (·.wait) = some (some (.signal 3 0 1)))) = true ∧
    ran (.sigAge sl 3 2 0) (sampled 2 q0 (running0 act)) (fun v => decide (reg0 v 3 = some 500)) = true ∧
    usable false now now q0 = true := by decide +kernel

theorem test_signal_writes :
    ran (.sigWr sl 0 0 0 1) (running0 (act [(1, 7)]))
      (fun v => decide ((ring v 0).samples = [{ value := 7, stamp := now, status := .valid, landed := now, spin := true }])) = true ∧
    ran (.sigWr sl 0 1 4 1) (running0 (act [(1, 7)])) (fun v => decide ((counter v 0x00080020 0).count = 1) && decide (ring v 1 = {})) = true ∧
    (SigRing.land 2 q0 { samples := [{ q0 with stamp := now }, { q0 with stamp := now - 600 }] })
      = ({ samples := [{ q0 with stamp := now }, q0], lost := some (now - 600) }, false) := by decide +kernel

def full : Bob := { entries := [(0, ⟨now, 0, 0, []⟩)], wptr := 0, wlap := true, seq := 1 }
def pushes (b : Bob) : State := withBob 40 b (running0 (act [(1, 0x100), (2, 8)]))
def pushes41 (b : Bob) : State := withBob 41 b (running0 (act [(1, 0x100), (2, 8)]))

theorem test_bobbins :
    mayWrite task0 0x100 8 = true ∧
    ran (.bobPush sl 1 0 1 2) (pushes {}) (fun v => decide ((bob v 40).entries.length = 1) && decide (pred0 v 1 = some true)) = true ∧
    full.place 4096 entry8 = none ∧
    ran (.bobPush sl 1 0 1 2) (pushes full)
      (fun v => decide ((counter v 0x001D0018 40).count = 1) && decide (pred0 v 1 = some false)) = true ∧
    ran (.bobPush sl 1 1 1 2) (pushes41 full)
      (fun v => decide ((bob v 41).held.length = 1) && decide ((counter v 0x001D001C 41).count = 1)) = true ∧
    ran (.bobPop sl 3 0 1 2) (pushes {}) (fun v => decide (reg0 v 3 = some 0xFFFFFFFF)) = true ∧
    ran (.bobPop sl 3 0 1 2) (pushes one8)
      (fun v => decide (reg0 v 3 = some 8) && decide (readBytes v 0 0x100 8 = [1, 2, 3, 4, 5, 6, 7, 8]) && decide ((bob v 40).entries = [])) = true ∧
    ran (.bobPeek sl 3 0 0) (pushes {}) (fun v => decide (reg0 v 3 = some 0xFFFFFFFF)) = true ∧
    ran (.bobPeek sl 3 0 4) (pushes one8) (fun v => decide (reg0 v 3 = some 0xE8)) = true ∧
    ran (.bobbinWaitResume now 41) (withBob 41 { held := [entry8] } noon) (fun v => decide ((bob v 41).entries = [(0, entry8)])) = true := by
  decide +kernel

/-- The loop of the tests: KP 1, SP 3, PV 1 in AUTO, not due to initialise. -/
def law0 : State :=
  let s := running0 (act [(1, 0x40400000)])
  { s with core := { s.core with loops := [(loopKey 0 0, { sp := 0x40400000, pv := 0x3F800000, init := none })] } }

theorem test_law :
    (handleLoop law0 act 0).map (·.loop) = some 0 ∧
    ran (.lawIn sl 0 2 1) law0 (fun v => decide ((loopSt v 0).ff = 0x40400000)) = true ∧
    ran (.lawIn sl 0 7 1) law0 (fun v => decide ((loopSt v 0).llim = 0x40400000)) = true ∧
    ran (.lawOut sl 3 0 0) law0 (fun v => decide (reg0 v 3 = some 0)) = true ∧
    ran (.lawOut sl 3 0 4) law0 (fun v => decide (reg0 v 3 = some 0)) = true ∧
    mayRun sl 1 48 law0 (act [(1, 0x40400000)]) = true ∧
    ran (.lawStep sl 0) law0 (fun v => decide ((loopSt v 0).e = 0x40000000) && decide ((loopSt v 0).rc = 0)) = true := by decide +kernel

def silent : State := { running0 (act [(1, 1)]) with sys := { noon.sys with driving := false } }
def live (o : Outs := noon.outs) : State := { running0 (act [(1, 1)]) with outs := o }

theorem test_outputs :
    drives silent = false ∧ recordsOnly silent = false ∧
    ran (.outSw sl 0 1) silent (fun v => decide (v.outs = silent.outs)) = true ∧ ran (.outPwm sl 0 1) silent (fun v => decide (v.outs = silent.outs)) = true ∧
    ran (.outSolCur sl 1 1) silent (fun v => decide (v.outs = silent.outs)) = true ∧
    ran (.outSolProf sl 1 1) silent (fun v => decide (v.outs = silent.outs)) = true ∧
    ran (.outSolRel sl 1) silent (fun v => decide (v.outs = silent.outs)) = true ∧
    drives (live) = true ∧ ran (.outSw sl 2 0) (live { noon.outs with lsw := [(1, { on := true, cmd := true, pin := true })] })
      (fun v => !(lsw v 1).on && !(lsw v 1).cmd) = true ∧
    ran (.outSw sl 2 1) (live) (fun v => (lsw v 1).on && holds v 0 (.chan (.lsw 1))) = true ∧
    ran (.outPwm sl 0 1) (live { noon.outs with lsw := [(0, { on := true })] }) (fun v => (lsw v 0).on) = true := by decide +kernel

def coil (x : Sol) : State := live { noon.outs with sol := [(0, x)] }

theorem test_solenoid_outputs :
    groupDown (coil {}) 0 = false ∧
    ran (.outSolCur sl 1 1) (coil { phase := .cur, setpoint := 100 }) (fun v => decide ((sol v 0).nextSet = some 0)) = true ∧
    ran (.outSolProf sl 1 1) (coil { phase := .hold }) (fun v => decide ((counter v 0x00060018 0).count = 1)) = true ∧
    groupFree (coil {}) 0 = true ∧ (profileOf (coil {}) 1).isSome = true ∧
    ran (.outSolProf sl 1 1) (coil {}) (fun v => decide ((sol v 0).phase = .rise) && decide ((sol v 0).peak = 900)) = true ∧
    ran (.outSolRel sl 1) (coil { phase := .cur, setpoint := 100 }) (fun v => decide ((sol v 0).phase = .off)) = true := by decide +kernel

def pended (n : Nat) (x : TaskState) : State := { noon with core := { noon.core with tasks := [(n, x)] } }

theorem test_tasks :
    ran (.taskReleasePeriodic now 0) noon (fun v => decide ((taskOf v 0).pending = [(now, now)])) = true ∧
    ran (.taskReleasePeriodic now 0) { noon with upd := { noon.upd with boundary := some now } } (fun v => decide ((taskOf v 0).pending = [])) = true ∧
    ran (.taskReleasePeriodic now 0) (pended 0 { pending := List.replicate 15 (now - 1000000, now - 1000000) })
      (fun v => decide ((counter v 0x00080014 0).count = 1) && (taskOf v 0).outside) = true ∧
    ran (.taskReleaseArrival now 1) (withBob 42 one8 noon)
      (fun v => decide ((taskOf v 1).pending = [(now, now)]) && decide ((taskOf v 1).entries = [(true, true)])) = true ∧
    (readyTask (pended 0 { pending := [(now, now)] }) 0).map (·.1) = some 0 ∧
    ran (.activationStart now 0) (pended 0 { pending := [(now, now)] }) (fun v => decide (pc0 v = some (2, 42))) = true := by decide +kernel

/-! ### Tally, load switches, solenoids (13 to 15) -/

def cl (c : Chan) (since : Time := now) : Queued := { claim := { owner := .chan c, c := 1000, rest := 1000 }, since := since }
def tally (k : Nat) (l : Ledger) (s : State := noon) : State := { s with tally := { s.tally with ledgers := [(k, l)] } }
def runs1 (n : Nat) : Admitted := { claim := { owner := .chan (.lsw n), c := 1000, x := 2000, tNs := 5000, rest := 1000 }, since := now - 5000, transient := true }
def swt (n : Nat) (x : Lsw) (s : State := noon) : State := { s with outs := { s.outs with lsw := [(n, x)] } }

theorem test_tally :
    ran (.tallyQueueAdmit now 0) (tally 0 { queue := [cl (.lsw 0)] })
      (fun v => decide ((ledger v 0).queue = []) && holds v 0 (.chan (.lsw 0)) && (lsw v 0).on) = true ∧
    fits (tally 0 { queue := [cl (.lsw 0)] } { noon with sys := { noon.sys with holdupRun := true } }) 0 (cl (.lsw 0)).claim = false ∧
    ran (.tallyClaimRefused now 0 (.lsw 0)) (tally 0 { queue := [cl (.lsw 0) (now - 1000000000)] })
      (fun v => decide ((counter v 0x00040044 0).count = 1) && !waits v 0 (.chan (.lsw 0))) = true ∧
    ran (.tallyTransientEnd now 0 0) (tally 0 { admitted := [runs1 0] })
      (fun v => decide ((ledger v 0).admitted.map (·.transient) = [false])) = true ∧
    ran (.vbatClaimWaitWarn now 0) (tally 4 { queue := [{ cl (.lsw 0) (now - 1000000001) with claim := { owner := .port 1, c := 10 } }] })
      (raisesLast .warning 4) = true ∧
    fits noon 0 (lswClaim { chan := .lsw 0, iNom := 1000 }) = true := by decide +kernel

theorem test_load_switches :
    ran (.lswLimitEngage now 1 2200) (swt 1 { on := true }) (fun v => decide ((lsw v 1).limit = some now)) = true ∧
    ran (.lswTrip now 1) (swt 1 { on := true, limit := some (now - 150000) })
      (fun v => !(lsw v 1).on && (lsw v 1).trip && decide ((lsw v 1).backoff = some 100000) && decide ((counter v 0x00050014 1).count = 1)) = true ∧
    ran (.lswTrip now 1) (swt 1 { on := true, limit := some (now - 150000), retries := [0, 0, 0] }) (fun v => (lsw v 1).exh) = true ∧
    ran (.lswThermalLatch now 1) (swt 1 { on := true }) (fun v => !(lsw v 1).on && (lsw v 1).therm && !(lsw v 1).trip) = true ∧
    ran (.lswThermalRelease now 1) (swt 1 { therm := true }) (fun v => !(lsw v 1).therm) = true ∧
    ran (.lswBackoffEnd now 1) (swt 1 { trip := true, backoff := some 0 }) (fun v => !(lsw v 1).trip && decide ((lsw v 1).backoff = none)) = true ∧
    ran (.lswBackoffEnd now 1) (swt 1 { trip := true, backoff := some 0, cmd := true })
      (fun v => (lsw v 1).on && decide ((lsw v 1).retries = [0])) = true := by decide +kernel

def pwm0 (x : Lsw) (m : Word := 0) (s : State := noonOf { tinyCop with outputs := [{ chan := .lsw 0, iNom := 1000, kind := 1, freq := 100, dutyMax := m }] }) : State := swt 0 x s
def coil0 (x : Sol) (s : State := noon) : State := { s with outs := { s.outs with sol := [(0, x)] } }

def quiet (m : Word) : State :=
  let s := pwm0 { on := true, src := .held, duty := 512 } m
  { s with outs := { s.outs with laneQuiet := some (now - 20000001) } }

theorem test_periods :
    periodStart noon 100 0 = true ∧ ran (.pwmPeriodStart now (.lsw 0) 7 none) (pwm0 { on := true, duty := 512 })
      (fun v => decide ((lsw v 0).applied = 512) && decide ((lsw v 0).current = 7)) = true ∧
    ran (.pwmPeriodStart now (.lsw 0) 7 none) (pwm0 { on := true }) (fun v => !(lsw v 0).on) = true ∧
    ran (.pwmPeriodStart now (.sol 0) 7 none) (coil0 { phase := .cur, setpoint := 100, nextSet := some 200 })
      (fun v => decide ((sol v 0).setpoint = 200) && decide ((sol v 0).measured = 7)) = true ∧
    calQualifies (coil0 { phase := .cur, setpoint := 100, since := now - 1000000000 }) 0 = true ∧
    ran (.pwmPeriodStart now (.sol 0) 7 (some 9)) (coil0 { phase := .cur, setpoint := 100, since := now - 1000000000 })
      (fun v => decide ((sol v 0).gain = 9) && decide ((sol v 0).calWait = 63)) = true ∧
    ran (.pwmUndrivenSettle now 0) (quiet 0x7FFFFFFF) (fun v => decide ((lsw v 0).applied = 1024) && (lsw v 0).on) = true ∧
    ran (.pwmUndrivenSettle now 0) (quiet 0) (fun v => !(lsw v 0).on && decide ((lsw v 0).src = .held)) = true := by decide +kernel

theorem test_banks :
    diesOn noon = true ∧
    ran (.bankUndervoltage now 0) (swt 1 { on := true }) (fun v => bit v.outs.uv 0 && !(lsw v 1).on && decide ((counter v 0x0005002C 0).count = 1))
      = true ∧
    ran (.bankUndervoltage now 0) { noon with outs := { noon.outs with uv := 1, stood := 1 } } (fun v => decide (v.outs.stood = 0)) = true ∧
    ran (.bankOvervoltage now 0) (swt 1 { on := true }) (fun v => bit v.sys.ov 0 && !(lsw v 1).on) = true ∧
    ran (.bankUvRestart now 0 20) { noon with outs := { noon.outs with uv := 1 }, sys := { noon.sys with ov := 1 } }
      (fun v => decide (v.outs.uv = 0) && decide (v.sys.ov = 1)) = true ∧
    ran (.bankOvRestart now 0) { noon with outs := { noon.outs with uv := 1 }, sys := { noon.sys with ov := 1 } } (fun v => decide (v.sys.ov = 0))
      = true ∧
    ran (.bankUvRestart now 0 20) { noon with outs := { noon.outs with uv := 1, lsw := [(1, { cmd := true })] } }
      (fun v => decide (v.outs.uv = 0) && (lsw v 1).on) = true ∧
    ran (.bankOvRestart now 0) { noon with sys := { noon.sys with ov := 1 } } (fun v => decide (v.sys.ov = 0)) = true ∧
    ran (.pgndFault now) (coil0 { phase := .cur }) (fun v => v.sys.pgnd && decide ((sol v 0).phase = .off)) = true ∧
    ran (.pgndRecover now) { noon with sys := { noon.sys with pgnd := true } } (fun v => !v.sys.pgnd) = true := by decide +kernel

def limp : State :=
  let s := atDawn .copRead (swt 1 { dirMap := 0x10 })
  { s with sys := { s.sys with hold := true }, outs := { s.outs with limp := true, limpEn := true } }

theorem test_pins :
    ran (.dirInputHigh now 3) noon (fun v => decide (v.outs.dir = 8)) = true ∧
    ran (.dirInputLow100ms now 3) { noon with outs := { noon.outs with dir := 8 } } (fun v => decide (v.outs.dir = 0)) = true ∧
    limpChan limp 1 = true ∧ field (lsw limp 1).dirMap 3 0 = 0 ∧
    ran (.dirInputHigh now 0) limp (fun v => (lsw v 1).cmd && decide ((lsw v 1).src = .dir)) = true := by decide +kernel

def rising (ns : Nat) (x : Sol := {}) : State :=
  coil0 { x with phase := .rise, profile := 1, admittedAt := now - BitVec.ofNat 64 ns, since := now - BitVec.ofNat 64 ns, peakNs := 5000000, holdMa := 300 }
def phase0 (x : Sol) (ns : Nat) : State := coil0 { x with profile := 1, since := now - BitVec.ofNat 64 ns, holdMa := 300 }

theorem test_profiles_1 :
    (profileOf noon 1).map (·.tPeakUs) = some 5000 ∧
    ran (.solRiseDone now 0) (rising 1000000) (fun v => decide ((sol v 0).phase = .peak)) = true ∧
    ran (.solArmatureMove now 0) (rising 1000000) (fun v => (sol v 0).moved && decide ((sol v 0).move = 1000)) = true ∧
    ran (.solRiseTimeout now 0) (rising 2000000) (fun v => (sol v 0).norise && decide ((sol v 0).phase = .off)) = true ∧
    ran (.solPeakEnd now 0) (coil0 { phase := .peak, profile := 1, admittedAt := now - 5000000, peakNs := 5000000, holdMa := 300 })
      (fun v => decide ((sol v 0).phase = .fall) && decide ((sol v 0).setpoint = 300)) = true ∧
    ran (.solPeakEnd now 0) (rising 4999999) (fun v => decide (v = rising 4999999)) = true ∧
    ran (.solFallDone now 0) (phase0 { phase := .fall } 0) (fun v => decide ((sol v 0).phase = .hold)) = true ∧
    ran (.solFallTimeout now 0) (phase0 { phase := .fall } 3000000) (fun v => decide ((sol v 0).phase = .hold) && raisesLast .warning 6 v) = true ∧
    ran (.solHoldEnd now 0) (phase0 { phase := .hold } 100000000) (fun v => decide ((sol v 0).phase = .off)) = true := by decide +kernel

theorem test_profiles_2 :
    deferNs noon 0 ≤ 10000000000 ∧
    ran (.solDeferExpired now 0) (coil0 { phase := .groupQ, arrived := now - 10000000000 })
      (fun v => decide ((sol v 0).phase = .off) && decide ((counter v 0x0006001C 0).count = 1)) = true ∧
    ran (.solLowSideTrip now 0) (coil0 { phase := .cur }) (fun v => (sol v 0).trip && decide ((sol v 0).phase = .off)) = true ∧
    ran (.neutralRampEnd now 0) (coil0 { phase := .neutral }) (fun v => decide ((sol v 0).phase = .off)) = true ∧
    ran (.solCalOld now 0) (coil0 { calAt := some (now - 10000000000) }) (fun v => (sol v 0).calold && raisesLast .warning 6 v) = true ∧
    ran (.solCoilEstimate now 0 8000) (coil0 { phase := .cur, since := now - 20000000 })
      (fun v => decide ((sol v 0).res = 800) && decide ((sol v 0).tcoil = 320) && !(sol v 0).coilfault) = true ∧
    ran (.solHighSideTrip now 0) (coil0 { phase := .cur }) (fun v => (sol v 0).hstrip && (sol v 3).hstrip && !(sol v 4).hstrip) = true := by
  decide +kernel

/-! ### Inputs, Strike (09, 10) -/

def copIn : Cop :=
  { tinyCop with
    ain := [{ input := 0, mode := .v5, signal := 6, d := 5 }, { input := 2, mode := .ma, signal := 6 }, { input := 9, mode := .freq, signal := 6 }]
    shafts := [{ track := 0, a := 0, b := some 1, z := some 2, teeth := 60, n := 4, filterNs := 1000, rateHz := 1000, stopNs := 1000000
                 indexTooth := 7, angleSig := 3, speedSig := 4 },
      { track := 1, a := 3, teeth := 60, n := 4, filterNs := 1000, rateHz := 1000, stopNs := 1000000, angleSig := 3, speedSig := 4 }]
    sensors := [{ port := 0, mode := 1, periodNs := 500000, slots := [{ startNs := 44000, lengthNs := 80000, signal := 6, bits := 10 }] },
      { port := 1, mode := 3, fast := [(6, 3)] }]
    sups := [{ sup := 0, tenV := false }] }
def noonIn : State := noonOf copIn
def inputs (f : Inputs → Inputs) : State := { noonIn with inputs := f noonIn.inputs }
def slot8 : Time := now + 20000

theorem test_adc :
    frontAt slot8 (advanceTo slot8 noonIn) = true ∧ lastOf 5 0 slot8.toNat = false ∧ windowOf 5 0 slot8.toNat = 10000001 ∧
    ran (.adcSlot slot8 0 100 none)
      (inputs fun x => { x with adc := [(0, { lastSteal := some 400000008 })], ain := [(0, { seen := 1, window := 10000001, sum := 50 })] })
      (fun v => decide ((ain v 0).sum = 150) && decide ((ain v 0).seen = 2) && decide ((ain v 0).code = 100)) = true ∧
    ran (.adcSlot slot8 0 100 (some (65000, 3))) (inputs fun x => { x with adc := [(0, { ref := 4 })] })
      (fun v => decide ((adc v 0).ref = 0) && decide ((adc v 0).gain = 65000) && decide ((adc v 0).lastSteal = some 400000008)) = true ∧
    ran (.adcSlot slot8 1 100 none) (inputs fun x => { x with adc := [(1, { lastSteal := some 400000008 })] })
      (fun v => decide (ain v 8 = { code := 100 })) = true ∧
    ran (.adcCalAgeExpired now 0) (inputs fun x => { x with adc := [(0, { rotatedAt := some (now - 10000000000) })] })
      (fun v => (adc v 0).calOld && raisesLast .warning 12 v) = true ∧
    ran (.ainBurdenOpen now 2) noonIn (fun v => (ain v 2).burdenF && decide ((ain v 2).burdenAt = some now)) = true ∧
    ran (.ainBurdenClose now 2) (inputs fun x => { x with ain := [(2, { burdenAt := some (now - 100000000) })] })
      (fun v => decide ((ain v 2).burdenAt = none)) = true ∧
    ran (.freqEdge now 9) (inputs fun x => { x with ain := [(9, { edge := some (now - 7000) })] })
      (fun v => decide ((ain v 9).period = 7000) && decide ((ain v 9).edge = some now)) = true := by decide +kernel

def turned (x : Shaft) (k : Nat := 0) : State := inputs fun i => { i with shaft := [(k, x)] }

theorem test_shaft :
    ran (.shaftEdge now 0 1000 false) (turned { tooth := 5, edge := some (now - 50000), edges := 9 })
      (fun v => decide ((shaft v 0).tooth = 6) && decide ((shaft v 0).period = 50000)) = true ∧
    ran (.shaftEdge now 0 1000 false) (turned { tooth := 59, edge := some (now - 50000), edges := 9 })
      (fun v => decide ((shaft v 0).tooth = 0) && decide ((shaft v 0).revs = 1)) = true ∧
    ran (.shaftEdge now 0 1000 true) (turned { tooth := 0, edge := some (now - 50000), edges := 9 })
      (fun v => decide ((shaft v 0).tooth = 59) && decide ((shaft v 0).revs = 0xFFFFFFFF)) = true ∧
    ran (.shaftEdge now 0 999 false) (turned {}) (fun v => decide ((counter v 0x000E0014 0).count = 1)) = true ∧
    ran (.shaftIndexEdge now 0) (turned { sinceIndex := 60, indexed := true, tooth := 3 }) (fun v => decide ((shaft v 0).tooth = 7)) = true ∧
    ran (.shaftIndexEdge now 0) (turned { sinceIndex := 59, indexed := true })
      (fun v => decide ((counter v 0x000E0010 0).count = 1) && raisesLast .warning 14 v) = true ∧
    ran (.shaftGridSample now 1) (turned { stopped := true, edges := 2, bin := 5, revs := 2 } 1)
      (fun v => decide ((ring v 3).samples.map (·.value) = [2053]) && decide ((ring v 4).samples.map (·.value) = [0])) = true ∧
    ran (.shaftStop now 0) (turned { edge := some (now - 1000000) }) (fun v => (shaft v 0).stopped) = true := by decide +kernel

def port (n : Nat) (x : Sensor) : State := inputs fun i => { i with sensor := [(n, x)] }
def frame10 : Psi5Frame := { data := List.replicate 10 true, check := [false] }
def sent3 : SentFrame := { calNs := 168000, pulses := [12, 13, 14, 15, 12 + sentCrc [1, 2, 3]] }

theorem test_sensors :
    senRuns noonIn = true ∧
    ran (.psi5SyncPulse now 0) (port 0 { power := true }) (fun v => decide ((sensor v 0).sync = some now)) = true ∧
    ran (.psi5Frame now 0 0 (now - 56000) frame10) (port 0 { power := true, sync := some (now - 100000) })
      (fun v => decide ((ring v 6).samples.map (·.stamp) = [now - 100000]) && decide ((counter v 0x000D0008 0).count = 1)) = true ∧
    ran (.psi5Frame now 0 0 (now - 56000) { frame10 with check := [true] }) (port 0 { power := true, sync := some (now - 100000) })
      (fun v => decide ((sensor v 0).lastErr = 2) && decide ((counter v 0x000D000C 0).count = 1)) = true ∧
    ran (.psi5Frame now 0 0 (now - 56001) frame10) (port 0 { power := true, sync := some (now - 100000) })
      (fun v => decide ((sensor v 0).lastErr = 1)) = true ∧
    ran (.sentFrame now 1 (now - 9) sent3) (port 1 { power := true })
      (fun v => decide ((ring v 6).samples.map (·.stamp) = [now - 9])) = true ∧
    ran (.sentFrame now 1 (now - 9) { sent3 with calNs := 1 }) (port 1 { power := true }) (fun v => decide ((sensor v 1).lastErr = 4)) = true ∧
    ran (.portSupplyOvercurrent now 0) (port 0 { power := true }) (fun v => !(sensor v 0).power && (sensor v 0).short) = true ∧
    ran (.portSupplyRetry now 0) (port 0 { short := true, offAt := now - 100000000 })
      (fun v => (sensor v 0).power && holds v 4 (.port 0)) = true := by decide +kernel

theorem test_supplies_imu :
    ran (.supCurrentLimit now 0) (inputs fun x => { x with supOn := 1 }) (fun v => decide (v.inputs.supOn = 0) && decide (v.inputs.supFault = 1)) = true ∧
    ran (.supRetry now 0) (inputs fun x => { x with supFault := 1, supAt := [(0, now - 100000000)] })
      (fun v => decide (v.inputs.supOn = 1) && decide (v.inputs.supYoung = 1)) = true ∧
    ran (.supSettled now 0) (inputs fun x => { x with supOn := 1, supYoung := 1, supAt := [(0, now - 5000000)] })
      (fun v => decide (v.inputs.supYoung = 0)) = true ∧
    ran (.imuSample now [0x3F800000] 9 false) (inputs fun x => { x with imuRun := true })
      (fun v => decide (v.inputs.imuTemp = 9) && decide ((ring v 5).samples.map (·.value) = [0x3F800000])) = true := by decide +kernel

def strikeOf (x : StkCh) (k : Strike := {}) : State :=
  let s := noonOf { tinyCop with
    strike := [{ ch := 0, ed := 4, nfShift := 4, initFloor := 10, kThr := 8192, tMin := 5, tMax := 1000, pre := 2, dead := 40
                 templates := [(1, 100, List.replicate 64 1)] }] }
  { s with strike := { k with run := true, startAt := now - 5000000, chans := [(0, x)] } }
def window0 : StkWindow := { ch := 0, stamp := now, samples := List.replicate 64 3, left := 0 }

theorem test_strike_samples :
    ran (.strikeSample now 0 9192) (strikeOf { last := some (now - 2500), thr := 500, ys := [1, 2, 3] })
      (fun v => !(stk v 0).armed && decide ((stk v 0).dead = 40) && decide ((counter v 0x000B0010 0).count = 1)
        && decide (((stk v 0).windows.map (·.samples)) = [[2, 1, 1000]])) = true ∧
    ran (.strikeSample now 0 8192) (strikeOf { last := some (now - 2500), thr := 500, armed := false })
      (fun v => (stk v 0).armed && decide ((stk v 0).windows = [])) = true ∧
    ran (.strikeWindowCaptured now 0) (strikeOf { windows := [window0] })
      (fun v => decide ((stk v 0).queue = [window0]) && decide ((stk v 0).windows = [])) = true ∧
    (nextWindow (strikeOf { queue := [window0] }) 0).map (·.1) = some 0 ∧
    ran (.strikeClassifyDone now 0) (strikeOf { queue := [window0] })
      (fun v => decide (SMap.get (openBin v 100000).counts 0 1 = 1) && decide ((stk v 0).queue = [])) = true := by decide +kernel

theorem test_strike_watch :
    ran (.strikeFloorHold now 0) (strikeOf { quietAt := some (now - 1000000000) }) (fun v => (stk v 0).floorHold && raisesLast .warning 11 v) = true ∧
    ran (.strikeFaultEnter now 0) (strikeOf { outSince := some (now - 10000000) }) (fun v => (stk v 0).fault && raisesLast .error 11 v) = true ∧
    ran (.strikeFaultLeave now 0) (strikeOf { fault := true, inSince := some (now - 100000000) })
      (fun v => !(stk v 0).fault && decide ((stk v 0).thr = 20)) = true ∧
    nextBin (strikeOf {}) = 99999 ∧ ran (.strikeBinClose (now + 199999)) (strikeOf {}) (fun v => decide (v.strike.history = [])) = true ∧
    ran (.strikeBinClose (now + 200000)) (strikeOf {}) (fun v => decide (v.strike.history.map (·.index) = [99999])) = true := by decide +kernel

/-! ### Ply, the receiver, positions (11, 12) -/

def yield0 : YieldDecl := { flowSig := 2, delaySig := 2, widthSig := 2, periodMs := 1000, bobbin := 43, leverFwd := 0, leverLeft := 0 }
def copPly (y : List YieldDecl := []) : Cop :=
  { tinyCop with sections := [8], ply := { periodMs := 10, delayUs := 0, yields := y, sources := [
      { number := 0, bobbin := some 40, latencyNs := 0, validityNs := 1000000, horizonNs := 1000000 },
      { number := 1, bobbin := some 40, mapped := true, latencyNs := 0, validityNs := 1000000, horizonNs := 1000000, frameNs := 1000, resNs := 9 }] } }
def plyOf (b : List Byte) (x : PlySrcSt := {}) (n : Nat := 1) : State :=
  let s := noonOf (copPly)
  { s with core := { s.core with bobs := [(40, { entries := [(0, ⟨now - 100, 0, 0, b⟩)], wptr := 32 })], ply := { s.core.ply with srcs := [(n, x)] } } }
def sampleB (k : Byte) : List Byte := [0, 0, 0, 0, 0, 0, 0, 0, 0, k, 0, 0, 0x11, 0x22, 0x33, 0x44, 0, 0, 0, 0]
def syncB (x : Byte) : List Byte := [x, 0, 0, 0, 0, 0, 0, 0, 1, 0, 0, 0]

theorem test_ply_sources :
    ran (.plySampleEntry now 0) (plyOf ((sampleB 1).take 16))
      (fun v => decide ((plySrc v 0).samples.map (·.values) = [[0x44332211]]) && decide ((bob v 40).entries = [])) = true ∧
    ran (.plySampleEntry now 0) (plyOf (sampleB 2)) (fun v => decide ((counter v 0x000A001C 0).count = 1)) = true ∧
    ran (.plySync now 1) (plyOf (syncB 5)) (fun v => (plySrc v 1).anchored && decide ((plySrc v 1).anchorS = 5)) = true ∧
    ran (.plySync now 1) (plyOf (syncB 5) { anchored := true, anchorS := 5, anchorD := now.toNat - 500 })
      (fun v => decide ((counter v 0x000A0014 1).count = 1)) = true ∧
    ran (.plySync now 1) (plyOf (syncB 6) { anchored := true, anchorS := 5, anchorD := now.toNat - 5000, good := 3 })
      (fun v => (plySrc v 1).unal && decide ((plySrc v 1).good = 0)) = true := by decide +kernel

def atSpool (h : List PoseEntry) (f : PlySt → PlySt) (y : List YieldDecl := []) : State :=
  let s := noonOf (copPly y)
  { s with core := { s.core with ply := f s.core.ply }, spool := { s.spool with history := h } }

def early : Time := 10000001

theorem test_epochs :
    ran (.plyEpoch now now) (plyOf []) (fun v => decide (v.core.ply.lastIssued = some now) && decide (v.core.ply.poseStatus = .quarantined)) = true ∧
    ran (.plyEpoch now now) (atSpool [] fun p => { p with lastIssued := some now }) (fun v => decide (v.core.ply.issuedAt = [])) = true ∧
    ran (.plyLateflagEval now) (plyOf [] { lateSec := 6 } 0) (fun v => (plySrc v 0).lateflag) = true ∧
    ran (.plyLateflagEval now) (plyOf [] { lateSec := 0, lateflag := true } 0) (fun v => !(plySrc v 0).lateflag) = true ∧
    (let s := atSpool [] fun p => { p with since := 5 }
     ran (.poseHistoryAppend early) { s with sun := { s.sun with time := early } }
       (fun v => decide (v.spool.history = [noPose 10000000]))) = true ∧
    (let e : PoseEntry := { noPose 1000000000000 with status := 0 }
     ran (.poseHistoryAppend now) (atSpool [noPose 999990000000] fun p => { p with lastTen := some e })
       (fun v => decide (v.spool.history = [e, noPose 999990000000]))) = true := by decide +kernel

def yielding (y : YieldSt) : State := atSpool [] (fun p => { p with yields := [(0, y)] }) [yield0]
def pend0 : YieldPending := { tEnd := now, mass := 0, width := 0, startNs := 0, endNs := 0, delayUs := 0, flags := 0, placed := false }

theorem test_yield :
    ran (.yieldRecordClose now 0) (yielding { nextJ := some 1000010000000, prevTau := some (none, false) })
      (fun v => decide ((yieldSt v 0).pend.map (·.tEnd) = [now])) = true ∧
    ran (.yieldRecordPush now 0) (yielding { pend := [pend0] })
      (fun v => decide ((yieldSt v 0).pend = []) && decide ((bob v 43).entries.length = 1)) = true := by decide +kernel

def rcv (f : Gnss → Gnss) (s : State := noon) : State := { s with gnss := f { s.gnss with run := true } }
def chan0 (x : GnssCh) : State := rcv fun g => { g with chans := [(0, x)] }

theorem test_search :
    samples (rcv id) = true ∧
    ran (.searchCellFound now 0 0) (rcv fun g => { g with engines := [(0, { busy := true, signal := 0, sv := 3 })] })
      (fun v => decide ((gch v 0).state = 1) && decide ((gch v 0).sv = 3)) = true ∧
    mayTake (chan0 { state := 2 }) 0 (groupOf (eng (chan0 { state := 2 }) 0).signal (eng (chan0 { state := 2 }) 0).ant) = false ∧
    ran (.searchDwellDone now 0) (rcv fun g => { g with engines := [(0, { busy := true, signal := 0, sv := 3 })] })
      (fun v => decide ((eng v 0).phase = 64)) = true ∧
    ran (.searchDwellDone now 0) (rcv fun g => { g with engines := [(0, { busy := true, signal := 0, sv := 3, phase := 1000000 })] })
      (fun v => decide ((eng v 0).phase = 0) && decide ((eng v 0).bin = 1)) = true ∧
    ran (.searchDwellDone now 0) (rcv fun g => { g with cfg := 0, engines := [(0, { busy := true, phase := 1000000, bin := 1000000 })] })
      (fun v => decide (eng v 0 = {})) = true := by decide +kernel

theorem test_channels :
    ran (.channelPullinEnd now 0 none) (chan0 { state := 1 }) (fun v => decide ((gch v 0).state = 2) && (gch v 0).slip) = true ∧
    ran (.channelPullinEnd now 0 (some 1)) (chan0 { state := 1, signal := 0, sv := 5, codePhase := 7 })
      (fun v => decide ((gch v 1).state = 1) && decide ((gch v 1).codePhase = 70)) = true ∧
    ran (.channelCoastEnter now 0) (chan0 { state := 2 }) (fun v => decide ((gch v 0).state = 3)) = true ∧
    ran (.channelRelock now 0) (chan0 { state := 3 }) (fun v => decide ((gch v 0).state = 1)) = true ∧
    ran (.channelCoastTimeout now 0 none) (chan0 { state := 3, since := now - 1000000000 }) (fun v => decide ((gch v 0).state = 0)) = true ∧
    ran (.channelCoastTimeout now 0 none) (chan0 { state := 3, aided := true, since := now - 9999999999 })
      (fun v => decide ((gch v 0).state = 3)) = true ∧
    ran (.spacingChangeApply now 0) (chan0 { state := 2 }) (fun v => decide ((gch v 0).spacing = spacingOf v 0)) = true := by decide +kernel

def bias (n : BitVec 2) (f : Gnss → Gnss := id) : State := rcv fun g => f { g with ant0 := n }

theorem test_antennas :
    ran (.antennaBiasShort now 0) (bias 1) (fun v => decide (antState v 0 = 3) && decide (SMap.find v.gnss.shortAt 0 = some now)) = true ∧
    ran (.antennaBiasRetry now 0) (bias 3 fun g => { g with shortAt := [(0, now - 1000000000)] })
      (fun v => decide (antState v 0 = 1) && holds v 4 (.antenna 0)) = true ∧
    ran (.antennaOpen now 0) (bias 1) (fun v => decide (antState v 0 = 2) && raisesLast .warning 20 v) = true ∧
    ran (.antennaBiasOk now 0) (bias 2) (fun v => decide (antState v 0 = 1)) = true := by decide +kernel

def meas0 : GnssMeas := { ch := 0, pseudorange := 20000000000, codePhase := 1, carrier := 2, doppler := 3, cn0 := 4, slip := false }

theorem test_aiding :
    ran (.gnssAidingApply now) (rcv fun g => { g with received := some (now, [(0, 0x3F800000)]), chans := [(0, { state := 2 })] })
      (fun v => v.gnss.aiding && (gch v 0).aided && decide (v.gnss.received = none)) = true ∧
    ran (.gnssAidingApply now) (rcv fun g => { g with received := some (now, [(0, 0x3F800000)]), chans := [(0, { state := 2, excl := true })] })
      (fun v => !(gch v 0).aided) = true ∧
    ran (.gnssAidingTimeout now) (rcv fun g => { g with aiding := true, aidAt := some (now - 100000000), chans := [(0, { aided := true, aid := 5 })] })
      (fun v => !v.gnss.aiding && decide ((gch v 0).aid = 0)) = true ∧
    ran (.gnssMeasEpoch now [meas0] {} none) (chan0 { state := 2, since := now - 3000000 })
      (fun v => decide ((gch v 0).lockMs = 3) && decide ((gch v 0).pseudorange = 20000000000) && decide (v.gnss.baseEpochs = 1)) = true ∧
    ran (.gnssExclusionRelease now 0) (chan0 { state := 2, excl := true, exclAt := now - 30000000000 }) (fun v => !(gch v 0).excl) = true ∧
    ran (.gnssSpoofClear now) (rcv fun g => { g with spoof := true, lastFail := some (now - 60000000000) })
      (fun v => !v.gnss.spoof && raisesLast .notice 20 v) = true := by decide +kernel

def sol5 : Solution := { epoch := now, mode := 1, svUsed := 5, outputs := [], hdgFixed := false, baselineMm := 0 }

theorem test_positions :
    ran (.positionSolution now sol5) (rcv id { noon with core := { noon.core with pos := { noon.core.pos with searchFrom := some (now - 2000000), rtcm := [[1]] } } })
      (fun v => decide (v.core.pos.fix = 1) && decide (v.core.pos.ttffMs = 2) && decide (v.core.pos.rtcm = [])) = true ∧
    ran (.positionSolution now { sol5 with mode := 2, ratio := 0x40400000 }) (rcv id) (fun v => decide (v.core.pos.fix = 1)) = true ∧
    (let s := rcv id { noon with core := { noon.core with pos := { noon.core.pos with corrAt := some now } } }
     ran (.positionSolution now { sol5 with mode := 2, ratio := 0x40400000 }) s (fun v => decide (v.core.pos.fix = 2)) &&
     ran (.positionSolution now { sol5 with mode := 2, ratio := 0x40400001 }) s (fun v => decide (v.core.pos.fix = 3))) = true ∧
    ran (.positionSolution now { sol5 with mode := 0, utc := some (37, 0, 0) }) (rcv id)
      (fun v => decide (v.core.pos.fix = 0) && decide (v.sun.taiUtc = 37)) = true := by decide +kernel

/-! ### Time, lanes, clocks, controls (16, 17, 02, 03) -/

def sun (f : Sundial → Sundial) (s : State := noon) : State := { s with sun := f s.sun }

theorem test_sundial :
    ran (.sundialGnssTimeout now) (sun fun x => { x with state := .locked, lastUsable := some (now - 2000000000) })
      (fun v => decide (v.sun.state = .holdover) && decide (v.sun.holdAt = now)) = true ∧
    ran (.ppsEdge now) noon (fun v => v.sun.pps0 && v.sun.pps1 && decide (v.sun.lastPps = some now)) = true ∧
    ran (.ppsPulseEnd now false) (sun fun x => { x with pps0 := true, pps1 := true, ppsEnd := some now }) (fun v => !v.sun.pps0 && v.sun.pps1) = true ∧
    ran (.sundialStep now) (sun fun x => { x with pendingStep := some (-1234), stepArmed := true })
      (fun v => decide (v.sun.time = now - 1230) && v.sun.stepFlag && decide ((counter v 0x00030020 0).count = 1) && raisesLast .notice 3 v) = true ∧
    ran (.rtcUpdate now) (sun fun x => { x with state := .locked }) (fun v => decide (v.sun.rtc = now) && v.sun.rtcValid) = true ∧
    ran (.leapSecond now) (sun fun x => { x with leapAnn := 1, taiUtc := 37 }) (fun v => decide (v.sun.taiUtc = 38) && decide (v.sun.time = now)) = true := by
  decide +kernel

theorem test_gptp :
    bit noon.sun.ptpCfg 0 = true ∧ netMain noon = true ∧
    ran (.gptpSyncSend now) (sun fun x => { x with state := .locked }) (fun v => decide (v.sent.head? = some (.gptpSync now 0 0))) = true ∧
    ran (.gptpAnnounceSend now) (sun fun x => { x with state := .locked }) (fun v => decide (v.sent.head? = some (.gptpAnnounce 6 0x20 0 0xF6 0xF8))) = true ∧
    ran (.gptpAnnounceSend now) (sun fun x => { x with state := .holdover }) (fun v => decide (v.sent.head? = some (.gptpAnnounce 7 0xA0 0 0xF6 0xF8)))
      = true ∧
    ran (.gptpPeerDelay now 3 500) noon (fun v => decide (SMap.get v.sun.pdelay 0 3 = 500)) = true ∧
    ran (.gptpAnnounceReceived now 3 0) noon (fun v => decide (v = noon)) = true := by decide +kernel

def spool (f : Spool → Spool) (s : State := noon) : State := { s with spool := f s.spool }

theorem test_leases :
    ran (.whorlRenewal (now + 1)) noon (fun v => decide (v.lanes.remain < 1500000)) = true ∧
    ran (.whorlRenewal now) noon (fun v => decide (v.lanes.remain = 1500000) && decide (v.spool.due = some now)) = true ∧
    ran (.whorlRenewal now) (spool fun x => { x with due := some (now - 1000000) })
      (fun v => decide (v.spool.due = some (now - 1000000)) && decide ((counter v 0x00190010 0).count = 1)) = true ∧
    ran (.checkpointCapture now) (spool fun x => { x with due := some now }) (fun v => v.spool.written.isSome && decide (v.spool.due = none)) = true ∧
    ran (.checkpointCommit now) (spool fun x => { x with written := some true, s1 := { frame := now } })
      (fun v => v.spool.s1.committed && decide (v.spool.written = none)) = true := by decide +kernel

def lanes (f : Lanes → Lanes) (s : State := noon) : State := { s with lanes := f s.lanes }
def alone : State := lanes fun x => { x with lb := { x.lb with state := .failed } }

theorem test_faults :
    ran (.comparatorMismatch now .a) noon
      (fun v => decide (v.lanes.holder = none) && !v.lanes.gate && decide (v.lanes.la.cause = 1) && decide (v.lanes.lb.state = .waking)
        && decide (v.sys.state = .afternoon)) = true ∧
    ran (.eccUncorrectable now .a) noon (fun v => decide (v.lanes.la.cause = 2) && decide (v.core = {})) = true ∧
    ran (.leaseExpiry now) (lanes fun x => { x with remain := 0 }) (fun v => decide (v.lanes.la.cause = 3)) = true ∧
    ran (.comparatorMismatch now .a) alone (fun v => decide (v.sys.state = .dawn) && v.sys.hold && decide (v.sys.holdCause = 5)) = true ∧
    ran (.comparatorMismatch now .a) (inDay .dusk alone) (fun v => decide (v.sys.state = .dusk)) = true ∧
    ran (.comparatorMismatch now .a) { atDawn .copRead alone with sys := { (atDawn .copRead alone).sys with kl15 := false, kl15Latched := true } }
      (fun v => decide (v.sys.state = .dusk) && decide (v.sys.duskStep = 1)) = true := by decide +kernel

def switching (w : Switch) (s : State := noon) : State :=
  { s with lanes := { s.lanes with
      la := { s.lanes.la with state := .failed }, lb := { s.lanes.lb with state := .waking }, holder := none, gate := false, switch := some w } }
def sw0 : Switch := { failed := .a, cause := 1, releasedAt := now - 2000000 }

theorem test_switch_over :
    ran (.failedSupplyOff now .a) (switching sw0) (fun v => decide (v.lanes.switch.map (·.supplyOff) = some true)) = true ∧
    ran (.leaseGuardEnd now) (switching sw0) (fun v => decide (v.lanes.switch.map (·.guardOver) = some true)) = true ∧
    ran (.standbyWakeDone now) (switching { sw0 with wakeAdmitted := true }) (fun v => v.lanes.lb.clocks && decide (v.lanes.switch.map (·.awake) = some true))
      = true ∧
    ran (.checkpointRestored now) (switching { sw0 with awake := true } (spool fun x => { x with s1 := { frame := 5, committed := true } }))
      (fun v => decide (v.lanes.switch.map (·.restored) = some (some 5)) && decide (readBytes v 0 0x40 4 = [0x44, 0x33, 0x22, 0x11])) = true ∧
    ran (.checkpointRestored now) (switching { sw0 with awake := true })
      (fun v => decide (v.lanes.switch.map (·.noCkpt) = some true)) = true ∧
    ran (.whorlGrant now) (switching { sw0 with awake := true, guardOver := true, restored := some 5 })
      (fun v => decide (v.lanes.holder = some .b) && v.lanes.gate && decide (v.lanes.lastGap = 16000) && raisesLast .critical 24 v) = true := by
  decide +kernel

def clocks (f : Clock → Clock) (s : State := noon) : State := { s with clock := f s.clock }

theorem test_clocks :
    clkSrc noon 0 = .main ∧
    ran (.clockMonitorFail now .lko) noon (fun v => v.clock.lkoFail && decide ((counter v 0x00020008 0).count = 1) && raisesLast .critical 2 v) = true ∧
    ran (.clockMonitorFail now .rtc) noon (fun v => v.clock.rtcFail && !v.sun.rtcValid) = true ∧
    ran (.clockMonitorFail now (.mainPll 0)) noon (fun v => decide (clkSrc v 0 = .fallback) && decide (clkSrc v 1 = .main)) = true ∧
    ran (.clockMonitorFail now (.fallbackPll 0)) (clocks fun x => { x with src := [(0, .fallback)] }) (fun v => decide (clkSrc v 0 = .direct)) = true ∧
    ran (.clockMonitorFail now .rco) (clocks fun x => { x with src := [(0, .fallback)] })
      (fun v => v.clock.rcoFail && decide (clkSrc v 0 = .stopped) && decide (clkSrc v 1 = .main)) = true ∧
    ran (.clockMonitorFail now .ref) (sun fun x => { x with state := .locked })
      (fun v => v.clock.refFail && v.sun.invalid && decide (clkSrc v 9 ≠ .main) && decide (v.sun.state = .holdover)) = true ∧
    ran (.clockReturnMain now 0) (clocks fun x => { x with src := [(0, .fallback)], failAt := [(0, now - 10000000000)] })
      (fun v => decide (clkSrc v 0 = .main) && decide ((counter v 0x0002000C 0).count = 1)) = true ∧
    ran (.clockReturnMain now 0) (clocks fun x => { x with src := [(0, .fallback)], stay := 1 }) (fun v => decide (clkSrc v 0 = .fallback)) = true := by
  decide +kernel

theorem test_controls_1 :
    takes req true true (hosted limp) = true ∧
    ran (.sysCtrlHoldOff req) (hosted limp) (fun v => v.sys.holdOff && !v.outs.limp && repliedTo req (.ack []) v) = true ∧
    ran (.sysCtrlHoldOff req) (hosted noon) (repliedTo req (.nak .wrongState 0)) = true ∧
    ran (.sysCtrlStayDawn req true) (hosted noon) (fun v => v.sys.stayDawn) = true ∧
    ran (.clkSrcWrite req 0x00010000) (hosted noon) (fun v => decide (v.clock.stay = 1)) = true ∧
    ran (.sunPpsCfgWrite req 0x00000101) (hosted noon) (fun v => decide (v.sun.ppsCfg = 0x101)) = true ∧
    ran (.sunPpsCfgWrite req (100001 <<< 8)) (hosted noon) (repliedTo req (.nak .badValue 0)) = true ∧
    ran (.lswClear req 1) (hosted (swt 1 { exh := true, trip := true, retries := [0] })) (fun v => decide (lsw v 1 = {})) = true ∧
    ran (.solClear req 0) (hosted (coil0 { trip := true })) (fun v => !(sol v 0).trip) = true ∧
    ran (.lswLimpEn req) (hosted noon) (repliedTo req (.nak .wrongState 0)) = true ∧
    ran (.lswLimpEn req) (hosted { limp with outs := { limp.outs with limpEn := false } }) (fun v => v.outs.limpEn && v.outs.limp) = true ∧
    ran (.lswRetryMaxWrite req 0x12345) (hosted noon) (fun v => decide (v.outs.retryMax = 0x2345)) = true ∧
    ran (.lswDirMapWrite req 3) (hosted noon) (fun v => decide ((lsw v 0).dirMap = 3)) = true := by decide +kernel

theorem test_controls_2 :
    limitOk 0x010C8064 = true ∧ limitOk 0x00000000 = false ∧
    ran (.tallyLimitWrite req 2 0x010C8064) (hosted noon) (fun v => decide (v.tally.limit2 = .of 0x010C8064)) = true ∧
    ran (.tallyLimitWrite req 2 0) (hosted noon) (repliedTo req (.nak .badValue 0)) = true ∧
    (tableDecl tinyCop 0 0).isSome = true ∧
    ran (.twiRcClear req 0 0) (hosted { noon with core := { noon.core with tables := [(0, { prev := some 3 })] } })
      (fun v => decide (SMap.get v.core.tables {} (tableKey 0 0) = {}) && raisesLast .notice 9 v) = true ∧
    ran (.triplicateScrub now) { noon with sys := { noon.sys with lock := ⟨1, 1, 3⟩ } }
      (fun v => decide (v.sys.lock = .of 1)) = true ∧
    ran (.triplicateScrub now) (clocks (fun x => { x with lkoFail := true }) { noon with sys := { noon.sys with lock := ⟨1, 1, 3⟩ } })
      (fun v => decide (v.sys.lock = ⟨1, 1, 3⟩)) = true ∧
    ran (.laneCtrlYield req) (hosted noon) (fun v => decide (v.lanes.yieldAt = some now)) = true ∧
    ran (.laneCtrlYield req) (hosted alone) (repliedTo req (.nak .noStandby 0)) = true := by decide +kernel

theorem test_controls_3 :
    ran (.lkTimingWrite req false 9000) (hosted noon) (fun v => decide (v.lanes.lease = .of 9000)) = true ∧
    ran (.lkTimingWrite req false 8999) (hosted noon) (repliedTo req (.nak .badValue 0)) = true ∧
    ran (.lkTimingWrite req true 8000) (hosted noon) (fun v => decide (v.lanes.guard = .of 8000)) = true ∧
    ran (.lkTimingWrite req false 9000) (hosted { noon with sys := { noon.sys with lock := .of 0x10 } }) (repliedTo req (.nak .locked 0)) = true ∧
    ran (.coldLaneScrub now 1 false) noon (fun v => decide ((counter v 0x00180018 0).count = 1)) = true ∧
    ran (.coldLaneScrub now 1 true) noon (fun v => decide (v.lanes.lb.cause = 5) && decide (v.sys.state = .afternoon)) = true := by decide +kernel

/-! ### CAN, Ethernet, Skein (18, 20) -/

def timing0 : BitTiming := { brp := 1, tseg1 := 1, tseg2 := 1, sjw := 1 }
def copCan : Cop :=
  { tinyCop with
    can := [{ ctrl := 0, nbt := timing0, dbt := timing0, autoRec := true, feeds := [(0, 40)], filters := [{ mask := 0x7F0, mat := 0x100, queue := some 0 }] },
      { ctrl := 1, nbt := timing0, dbt := timing0, fd := false }] }
def canOf (x : CanSt) (b : Nat × Bob := (0, {})) (n : Nat := 0) : State :=
  let s := noonOf copCan
  { s with core := { s.core with can := [(n, x)], bobs := [b] } }
def frame2 : CanFrame := { id := 0x105, dlc := 2, data := [7, 8] }
def bus : CanSt := { state := .errorActive }
def feedE (l : List Byte) : Bob := { entries := [(0, ⟨now, 0, 0, l⟩)], wptr := 32 }

theorem test_can_receive :
    diverted 0 frame2 (canOf bus) = false ∧
    ran (.canFrameReceived now 0 now frame2) (canOf { bus with state := .busOff }) (fun v => decide (v.counters = [])) = true ∧
    ran (.canFrameReceived now 1 now { frame2 with fdf := true }) (canOf bus (n := 1)) (fun v => decide (v.counters = [])) = true ∧
    ran (.canFrameReceived now 0 now { frame2 with id := 0x205 }) (canOf bus)
      (fun v => decide ((counter v 0x00100018 0).count = 1) && decide ((counter v 0x0010002C 0).count = 1)) = true ∧
    ran (.canFrameReceived now 0 now { frame2 with id := 0x205 }) (canOf { bus with rec_ := 7 }) (fun v => decide ((can v 0).rec_ = 6)) = true ∧
    ran (.canFrameReceived now 0 now frame2) (canOf bus)
      (fun v => decide ((bob v 0).entries.map (·.2.bytes) = [[5, 1, 0, 0, 0, 2, 0, 0, 7, 8]])) = true ∧
    ran (.canFrameReceived now 0 now frame2) (canOf { bus with held := List.replicate 8 ⟨0, entry8⟩ })
      (fun v => decide ((counter v 0x00100020 0).count = 1) && decide ((can v 0).held.length = 8)) = true ∧
    ran (.canRxHeldDeliver now 0) (canOf { bus with held := [⟨0, entry8⟩] })
      (fun v => decide ((bob v 0).entries = [(0, entry8)]) && decide ((can v 0).held = [])) = true ∧
    ran (.canRxHeldDeliver now 0) (canOf bus) (fun v => decide (v = canOf bus)) = true := by decide +kernel

theorem test_can_transmit :
    ran (.canTxBufferLoad now 0 0) (canOf { bus with listen := true } (40, feedE (frameBytes frame2))) (fun v => decide ((can v 0).bufs = [])) = true ∧
    ran (.canTxBufferLoad now 0 0) (canOf bus (40, feedE (frameBytes frame2)))
      (fun v => decide ((can v 0).bufs = [(0, frame2)]) && decide ((can v 0).loadedAt = [(0, now)]) && decide ((bob v 40).entries = [])) = true ∧
    ran (.canTxBufferLoad now 0 0) (canOf bus (40, feedE [1])) (fun v => decide ((counter v 0x0010001C 0).count = 1) && decide ((can v 0).bufs = []))
      = true ∧
    ran (.canFrameTransmitted now 0 0) (canOf { bus with bufs := [(0, frame2)], attempt := some 0 })
      (fun v => decide (v.sent = [.canFrame 0 frame2]) && decide ((can v 0).bufs = [])) = true ∧
    ran (.canFrameTransmitted now 0 0) (canOf { bus with bufs := [(0, frame2)], attempt := some 0, state := .errorPassive, tec := 128 })
      (fun v => decide ((can v 0).tec = 127) && decide ((can v 0).state = .errorActive)) = true ∧
    ran (.canFrameTransmitted now 0 0) (lanes (fun x => { x with gate := false }) (canOf { bus with bufs := [(0, frame2)], attempt := some 0 }))
      (fun v => decide (v.sent = [])) = true ∧
    ran (.canTxTimeout now 0 0) (canOf { bus with bufs := [(0, frame2)], loadedAt := [(0, now - 100000000)] })
      (fun v => decide ((can v 0).bufs = []) && raisesLast .warning 16 v) = true ∧
    ran (.canTxTimeout now 0 0) (canOf { bus with bufs := [(0, frame2)], loadedAt := [(0, now - 99999999)] })
      (fun v => decide ((can v 0).bufs = [(0, frame2)])) = true := by decide +kernel

theorem test_can_faults :
    ran (.canProtocolError now 0 true false 1 127 127) (canOf bus) (fun v => decide ((can v 0).state = .errorActive)) = true ∧
    ran (.canProtocolError now 0 true false 1 128 0) (canOf bus) (fun v => decide ((can v 0).state = .errorPassive) && raisesLast .warning 16 v) = true ∧
    ran (.canProtocolError now 0 true false 1 256 0) (canOf { bus with bufs := [(0, frame2)] })
      (fun v => decide ((can v 0).state = .recovering) && decide ((can v 0).bufs = [])) = true ∧
    ran (.canProtocolError now 1 true false 1 256 0) (canOf bus (n := 1)) (fun v => decide ((can v 1).state = .busOff)) = true ∧
    ran (.canBusOffRecovered now 0) (canOf { bus with state := .recovering, tec := 256 }) (fun v => decide (can v 0 = bus)) = true ∧
    ran (.canIntegrated now 0) (canOf { bus with state := .integrating }) (fun v => decide (can v 0 = bus)) = true ∧
    ran (.canListenApply now 0) (canOf { bus with listenCtrl := true }) (fun v => (can v 0).listen) = true ∧
    ran (.canRecover req 0) (hosted (canOf { bus with state := .busOff })) (fun v => decide ((can v 0).state = .recovering)) = true ∧
    ran (.canListenWrite req 0 true) (hosted (canOf bus)) (fun v => (can v 0).listenCtrl) = true := by decide +kernel

def eth0 : EthFrame := { src := 0x020000000001, dst := 0xFFFFFFFFFFFF, length := 64 }
def toUs : EthFrame := { src := 0x020000000001, dst := Config.mac, length := 64 }
def gated : EthDecl := { port := 0, gcl := [⟨0xFF, 500000⟩, ⟨0x80, 500000⟩] }
def wired (x : EthPort := { link := true }) (m : List MacEntry := []) : State :=
  { noon with eth := { noon.eth with ports := [(0, x)], macs := m, cfg := [gated] } }

theorem frame_to_us : toUs.dst = Config.mac ∧ toUs.fcsOk = true ∧ member (wired) 1 0 = true ∧ groupMac toUs.src = false := by
  refine ⟨rfl, ?_⟩
  decide

theorem test_ethernet :
    portUp (wired) 0 = true ∧ ran (.ethFrameReceived now 1 eth0) (wired) (fun v => decide (v = wired)) = true ∧
    ran (.ethFrameReceived now 0 { eth0 with length := 1523 }) (wired)
      (fun v => decide ((counter v 0x00120008 0).count = 1) && decide ((counter v 0x00120010 0).count = 1)) = true ∧
    nextFrame (wired) 0 = none ∧
    ran (.ethFrameEgress now 0) (wired { link := true, queue := [⟨7, eth0⟩] })
      (fun v => decide (v.sent = [.ethFrame 0 eth0]) && decide ((counter v 0x0012000C 0).count = 1)) = true ∧
    ran (.gateListAdvance now 0) (wired) (fun v => decide ((ethPort v 0).gclAt = some 0)) = true ∧
    ran (.gateListAdvance now 0) (wired { gclAt := some 0, gclSince := now - 500000 }) (fun v => decide ((ethPort v 0).gclAt = some 1)) = true ∧
    ran (.gateListAdvance now 0) (wired { gclAt := some 0, gclSince := now - 499999 }) (fun v => decide ((ethPort v 0).gclAt = some 0)) = true ∧
    ran (.ethLinkDown now 0) (wired { link := true, queue := [⟨7, eth0⟩] })
      (fun v => !(ethPort v 0).link && decide ((counter v 0x00120010 0).count = 1)) = true ∧
    ran (.ethLinkUp now 0 5) noon (fun v => (ethPort v 0).link && decide ((ethPort v 0).sqi = 5)) = true ∧
    ran (.ethLinkUp now 0 5) (clocks fun x => { x with src := [(3, .fallback)] }) (fun v => !(ethPort v 0).link) = true ∧
    ran (.macEntryAgeing now 9) (wired (m := [⟨9, 0, now - 300000000000⟩, ⟨8, 0, now⟩])) (fun v => decide (v.eth.macs.map (·.addr) = [8])) = true := by
  decide +kernel

def ev0 (k : Severity) : Raised := makeRecord k 1 2 [3] noon
def skRec (k : Severity) : Record := { seq := 1, ev := ev0 k, snaps := [], trunc := false }
def skein (f : Skein → Skein) (s : State := noon) : State := { s with skein := f s.skein }
def challenged (age : Time) : State := skein fun x => { x with chal := some (1, 2, 3, 4), chalAt := now - age }

theorem test_skein :
    ran (.skeinRecordReceive now) (skein fun x => { x with raised := [ev0 .notice] })
      (fun v => decide (v.skein.seq = 1) && decide (v.skein.buffer.map (·.ev) = [ev0 .notice])) = true ∧
    ran (.skeinRecordReceive now) (skein fun x => { x with raised := [ev0 .notice], buffer := List.replicate 256 (skRec .notice) })
      (fun v => decide (v.skein.seq = 1) && decide ((counter v (0x001A0010 + 4 * Severity.notice.code) 0).count = 1)) = true ∧
    ran (.skeinFlashWrite now) (skein fun x => { x with buffer := [skRec .critical] })
      (fun v => decide (v.skein.ring = [(0, skRec .critical)]) && decide (v.skein.buffer = [])) = true ∧
    ran (.skeinFlashWrite now) (skein fun x => { x with buffer := [skRec .notice] }) (fun v => decide (v.skein.ring = [(0, skRec .notice)])) = true ∧
    ran (.skeinFlashWrite now) noon (fun v => decide (v = noon)) = true := by decide +kernel

theorem test_skein_clear :
    ran (.sknCtrlNewchal req) (hosted noon) (fun v => challengeLive v && repliedTo req (.ack []) v) = true ∧
    ran (.sknCtrlClear req) (hosted noon) (fun v => decide (v.skein.clrRes = 3) && raisesLast .warning 0x1A v) = true ∧
    challengeLive (challenged 59999999999) = true ∧
    ran (.skeinChallengeExpiry now) (challenged 60000000000) (fun v => decide (v.skein.chal = none)) = true ∧
    ran (.skeinChallengeExpiry now) (challenged 59999999999) (fun v => v.skein.chal.isSome) = true ∧
    ran (.skeinClearDone now) (skein (fun x => { x with clearing := true }) (dark0 noon)) (fun v => v.skein.clearing) = true ∧
    ran (.skeinClearDone now) (skein fun x => { x with clearing := true, lastBeforeClear := 1, ring := [(0, skRec .notice)] })
      (fun v => !v.skein.clearing && decide (v.skein.clrRes = 1) && decide (v.skein.ring.map (·.2.seq) = [2])) = true ∧
    ran (.sknKeyWrite req 3 9) (hosted noon) (fun v => decide (SMap.get v.skein.key 0 3 = 9) && raisesLast .warning 0x1A v) = true ∧
    ran (.sknKeyWrite req 3 9) (hosted { noon with sys := { noon.sys with lock := .of 8 } }) (repliedTo req (.nak .locked 0)) = true := by
  decide +kernel

/-- Whether a signature verifies is the opaque `Config.ecdsaVerifies` (log entry 6): a live challenge with a token is met in every model of it,
and the clauses of a good and of a bad token are met according to its answer. -/
theorem test_token (b : Bool) (h : ∀ k d t, Config.ecdsaVerifies k d t = b) : tokenOk (hosted (challenged 5)) = b := h _ _ _

/-! ### Updates (21) -/

def upd (f : Upd → Upd) (s : State := noon) : State := { s with upd := f s.upd }
/-- A manifest for Patus of one chunk, without parts, whose signatures are zeros. -/
def manB : List Byte :=
  [0x49, 0x42, 0x59, 0x52, 1, 0, 0x96, 0x56, 4, 5, 0, 0, 6, 0, 0, 0, 1, 0, 0, 0] ++ List.replicate 172 0
def man0 : Manifest :=
  { id := 9, target := patus, issues := 4, hostConfirm := false, ckptFmt := 5, trialS := 60, fw := 3, chunks := 1
    parts := [1, 2, 3, 4, 5, 6].map fun k => { type := k, format := 1, first := 0, length := 2, digest := sha256 [1, 2] }
    digests := [sha256 [1, 2]], mfrKey := 0, segments := 1 }
def relay0 : Relay := { id := 9, man := some man0, segs := [(0, manB)], newAt := now - 500000000 }
def relaying (r : Relay) (chain : Word := 0x40000000) : State := upd fun x => { x with relays := [r], chain := chain }

theorem test_manifests :
    engineRuns noon = true ∧ upUp noon = true ∧ dnUp noon = false ∧ upUp (upd fun x => { x with chain := 0 }) = false ∧
    (Relay.bytes { id := 9, segs := [(0, manB)] }).isSome = true ∧ Relay.bytes { id := 9, segs := [(1, manB)] } = none ∧
    parseManifest 9 manB = none ∧ (parseManifest (manifestId manB) manB).map (·.fw) = some 3 ∧
    ran (.ibyarManifest now 9 1 [1]) noon
      (fun v => decide ((relayOf v 9).map (·.segs) = some [(1, [1])]) && decide (v.sent.head? = some (.ibyarAck 9 1 true))) = true ∧
    ran (.ibyarManifest now 9 0 manB) noon (fun v => decide (relayOf v 9 = none) && decide ((counter v 0x001C0020 0).count = 1)) = true := by
  decide +kernel

/-- The clauses of a signed and of an unsigned manifest are met according to the opaque answer of `Config.ecdsaVerifies`. -/
theorem manifest_signed (b : Bool) (h : ∀ k d t, Config.ecdsaVerifies k d t = b) : manifestSigned manB man0 = b := by
  simp [manifestSigned, h, man0]

theorem test_chunks :
    man0.lists 0 [1, 2] = true ∧ man0.lists 0 [1, 3] = false ∧
    ran (.ibyarChunk now 9 0 [1, 2]) (relaying { relay0 with man := none })
      (fun v => decide ((relayOf v 9).map (·.waiting) = some [(0, [1, 2])])) = true ∧
    ran (.ibyarChunk now 9 0 [1, 3]) (relaying relay0)
      (fun v => decide (v.sent.head? = some (.ibyarRequest 9 0 false)) && decide ((counter v 0x001C0020 0).count = 1)) = true ∧
    ran (.ibyarChunk now 9 0 [1, 2]) (upd (fun x => { x with man := some man0, step := .receiving }) (relaying relay0))
      (fun v => decide (v.upd.step = .verified) && decide ((relayOf v 9).map (·.chunks) = some [(0, [1, 2])])) = true := by decide +kernel

def down (r : Relay) : State := relaying r 0x50000000
def held0 : Relay := { relay0 with chunks := [(0, [1, 2])] }

theorem test_downstream :
    dnUp (down relay0) = true ∧
    ran (.ibyarAck now 9 0 false) (down { held0 with man := some { man0 with target := 7 } }) (fun v => decide (relayOf v 9 = none)) = true ∧
    ran (.ibyarAck now 9 0 false) (down held0) (fun v => decide ((relayOf v 9).map (·.dnAcked) = some [0])) = true ∧
    ran (.ibyarRequest now 9 0 false) (down held0) (fun v => decide (v.sent.head? = some (.ibyarChunk 9 0 [1, 2]))) = true ∧
    ran (.ibyarRequest now 9 0 false) (down relay0) (fun v => decide (v.sent = [])) = true ∧
    ran (.ibyarRequest now 9 0 true) (down relay0) (fun v => decide (v.sent = [.ibyarManifest 9 0 manB])) = true ∧
    ran (.ibyarResendTimeout now 9 0) (down { held0 with sentAt := [(0, now - 200000000)], resends := [(0, 7)] })
      (fun v => v.upd.dnLost && decide ((counter v 0x001C0024 0).count = 1)) = true ∧
    ran (.ibyarResendTimeout now 9 0) (down { held0 with sentAt := [(0, now - 199999999)] }) (fun v => decide (v.sent = [])) = true ∧
    relay0.missing = some (0, false) ∧
    ran (.ibyarRequestTimeout now) (relaying relay0) (fun v => decide (v.sent = [.ibyarRequest 9 0 false])) = true := by decide +kernel

def staged (f : Upd → Upd := id) (s : State := noon) : State := upd (fun x => f { x with step := .staged, man := some man0 }) s
def spooled (s : State) : State := { s with spool := { s.spool with s0 := { s.spool.s0 with frame := 5, committed := true } } }
def other0 (l : LaneState) (clk : Bool) (s : State) : State := lanes (fun x => { x with lb := { x.lb with state := l, clocks := clk } }) s
def bare (s : State) : State := { s with store := { s.store with running := some {} } }

/-- What follows at the opening and the transfer branches on the opaque `Config.microDiffers` (log entry 3): only hypotheses are shown. -/
def opening : State := staged (fun x => { x with pauseReady := 3, step := .switching }) (lanes fun x => { x with gate := false })
def transfer : State := bare (spooled (other0 .updating true (staged fun x => { x with handReady := 4, step := .switching })))

theorem test_pause :
    stagingCode man0 true (upd (fun x => { x with relays := [held0] })) = 0 ∧
    ran (.updateStagingDone now true) (upd fun x => { x with step := .verified, man := some man0, relays := [held0] }) (fun v => decide (v.upd.step = .staged)) = true ∧
    ran (.updateStagingDone now true) (upd fun x => { x with step := .verified, man := some { man0 with issues := 0 } })
      (fun v => decide (v.upd.refuse = 1) && raisesLast .error 0x1C v) = true ∧
    pausePermitted (inDay .morning noon) = true ∧ pausePermitted noon = false ∧
    ran (.activationBoundary now) (inDay .morning (staged fun x => { x with activating := some 1, mode := 1 }))
      (fun v => decide (v.upd.step = .switching) && decide (v.upd.pauseReady = 1) && !v.lanes.gate) = true ∧
    (let s := staged (fun x => { x with activating := some 1, mode := 1 }) (inDay .morning (pended 0 { pending := [(now - 1, now)] }))
     ran (.activationBoundary now) s (fun v => decide (v.upd.boundary = some now) && decide (v.upd.pauseReady = 0) && v.lanes.gate) = true) ∧
    ran (.checkpointCommit now) (upd (fun x => { x with boundary := some 5 }) (spool fun x => { x with written := some true, s1 := { frame := 5 } }))
      (fun v => v.spool.s1.committed && !v.lanes.gate && decide (v.upd.pauseReady = 1)) = true ∧
    ran (.activationBoundary now) (staged fun x => { x with activating := some 1, mode := 1 }) (fun v => decide (v.upd.activating = none)) = true ∧
    ran (.pauseRebootDone now) (upd fun x => { x with pauseReady := 1 }) (fun v => decide (v.upd.pauseReady = 2)) = true ∧
    ran (.pauseRestoreDone now) (bare (spooled (upd fun x => { x with pauseReady := 2 }))) (fun v => decide (v.upd.pauseReady = 3)) = true ∧
    opening.lanes.holder = some .a ∧ opening.upd.pauseReady = 3 ∧ opening.sun.time.toNat % 1000000 = 0 ∧ opening.sys.disarmPending = false ∧
    opening.upd.man = some man0 := by decide +kernel

theorem test_handover :
    ran (.handoverBootDone now true) (other0 .updating true (staged fun x => { x with handReady := 1, activating := some 2 }))
      (fun v => decide (v.upd.handReady = 2) && v.lanes.lb.slot) = true ∧
    ran (.handoverBootDone now false) (other0 .updating true (staged fun x => { x with handReady := 1, activating := some 2 }))
      (fun v => decide (v.lanes.lb.cause = 7) && decide (v.upd.step = .staged)) = true ∧
    ran (.activationBoundary now) (other0 .updating true (staged fun x => { x with handReady := 2, activating := some 2, mode := 2 }))
      (fun v => decide (v.upd.step = .switching) && v.lanes.la.mgmt && decide (v.lanes.holder = some .a)) = true ∧
    ran (.activationBoundary now) (other0 .updating true (staged (fun x => { x with handReady := 2, activating := some 2, mode := 2 })
        (pended 0 { pending := [(now - 1, now)] })))
      (fun v => decide (v.upd.boundary = some now) && decide (v.upd.handReady = 3) && !v.lanes.la.mgmt) = true ∧
    ran (.checkpointCommit now) (other0 .updating true (upd (fun x => { x with boundary := some 5, handReady := 3 })
        (spool fun x => { x with written := some true, s1 := { frame := 5 } })))
      (fun v => v.lanes.la.mgmt && v.lanes.gate && decide (v.upd.boundary = none)) = true ∧
    (let s := staged fun x => { x with handReady := 3, step := .switching }
     ran (.handoverRestoreDone now) (tally 4 { admitted := [{ claim := { owner := .wake .b, c := 1 }, since := now, transient := false }] } s)
       (fun v => decide (v.upd.handReady = 4))) = true ∧
    transfer.lanes.holder = some .a ∧ transfer.upd.revertHand = false ∧ transfer.upd.handReady = 4 ∧ transfer.sun.time.toNat % 1000000 = 0 ∧
    transfer.sys.disarmPending = false ∧ transfer.upd.man = some man0 ∧ committedSlot transfer = some false ∧
    (cop transfer).images = [] := by decide +kernel

def trial (f : Upd → Upd := id) (s : State := noon) : State :=
  upd (fun x => f { x with step := .trial, man := some man0, migrated := true, trialFrom := now - 10000000000, trialEnd := now + 1, slot := true }) s
def newPair : State := trial id (lanes fun x => { x with lb := { x.lb with slot := true } })

theorem test_trial :
    healthy (trial) = true ∧ standbyOld (trial) = true ∧ standbyOld newPair = false ∧
    ran (.trialHealthOk now) (trial) (fun v => decide (v.upd.step = .committed) && decide (v.lanes.lb.state = .updating)) = true ∧
    ran (.trialHealthOk now) (trial fun x => { x with critical := true }) (fun v => decide (v.upd.step = .trial)) = true ∧
    ran (.trialExpired (now + 1)) (trial) (fun v => decide (v.upd.step = .reverted) && v.upd.revertHand && decide (v.upd.handReady = 2)) = true ∧
    newPair.sys.powered = true ∧ newPair.sys.state = .noon ∧ newPair.upd.step = .trial ∧
    ran (.trialExpired now) (trial) (fun v => decide (v.upd.step = .trial)) = true ∧
    ran (.settingsMigrationDone now true) (trial fun x => { x with migrated := false }) (fun v => v.upd.migrated) = true ∧
    ran (.settingsMigrationDone now false) (trial) (fun v => decide (v.upd.step = .reverted)) = true ∧
    ran (.updateCommitDone now true) (other0 .updating false (upd fun x => { x with step := .committed }))
      (fun v => decide (v.upd.step = .none) && decide (v.lanes.lb.state = .cold)) = true ∧
    ran (.updateCommitDone now false) (other0 .updating false (upd fun x => { x with step := .committed })) (fun v => decide (v.lanes.lb.cause = 6))
      = true := by decide +kernel

theorem test_trial_controls :
    ran (.updCtrlConfirm req) (hosted (trial)) (fun v => v.upd.confirmed) = true ∧
    ran (.updCtrlReject req) (hosted (trial)) (fun v => decide (v.upd.step = .reverted)) = true ∧
    ran (.updCtrlReject req) (hosted noon) (repliedTo req (.ack [])) = true ∧
    ran (.updCtrlRestage req) (hosted (upd fun x => { x with step := .reverted, man := some man0, revertedBlocked := true, relays := [held0] }))
      (fun v => decide (v.upd.step = .staged)) = true ∧
    ran (.updCtrlRestage req) (hosted (upd fun x => { x with step := .reverted, man := some man0, revertedBlocked := true, relays := [relay0] }))
      (fun v => decide (v.upd.step = .reverted) && decide ((counter v 0x001C0020 0).count = 1)) = true := by decide +kernel

/-! ### The panel (22) -/

def goodTable : WaveTable :=
  { entries := [⟨1, 0, 0, 0, 15, [1, 0]⟩, ⟨1, 0, 0, 15, 0, [2, 0]⟩] }
def badTable : WaveTable := { entries := [⟨1, 0, 0, 0, 15, [1]⟩] }
def panel (f : Panel → Panel) (s : State := noon) : State :=
  { s with panel := f { s.panel with fitted := true, notable := false, geom := some { width := 600, height := 448, line := 1, vblank := 1 } } }
def job0 : PanelJob := { x := 8, y := 0, w := 1, h := 1, mode := 1, gen := 3, frames := 2, target := [(8, 15)], table := goodTable }

theorem test_tables :
    tableOk goodTable = true ∧ tableOk badTable = false ∧
    ran (.panelTableLoad now badTable) noon (fun v => v.panel.notable && raisesLast .error 0x1B v) = true ∧
    ran (.panelTableLoad now goodTable) noon (fun v => !v.panel.notable && decide (v.panel.table = goodTable)) = true ∧
    ran (.panelTableLoad now goodTable) (staged) (fun v => decide (v.panel.nextTable = some goodTable)) = true := by decide +kernel

theorem test_panel_requests :
    takes req true true (hosted (panel id)) = true ∧ panelRuns (panel id) = true ∧
    ran (.pnlReqGo req 1 600 448) (hosted (panel id)) (fun v => decide (v.panel.queue.map (·.w) = [600]) && repliedTo req (.ack []) v) = true ∧
    ran (.pnlReqGo req 1 600 448) (hosted (panel fun p => { p with queue := List.replicate 16 job0 })) (repliedTo req (.busy 100)) = true ∧
    ran (.pnlReqGo req 1 600 448) (hosted (panel fun p => { p with notable := true })) (repliedTo req (.nak .wrongState 0)) = true ∧
    ran (.pnlReqGo req 1 601 448) (hosted (panel id)) (repliedTo req (.nak .badValue 0)) = true ∧
    ran (.pnlReqGo req 1 0 448) (hosted (panel id)) (repliedTo req (.nak .badValue 0)) = true ∧
    ran (.pnlReqGo req 3 1 1) (hosted (panel id)) (repliedTo req (.nak .badValue 0)) = true ∧
    ran (.pnlVcomWrite req 280) (hosted (panel id)) (fun v => decide (v.panel.vcom = 280)) = true ∧
    ran (.pnlVcomWrite req 281) (hosted (panel id)) (repliedTo req (.nak .badValue 0)) = true := by decide +kernel

def claimed : Ledger := { admitted := [{ claim := { owner := .panel, c := 1 }, since := now, transient := false }] }

theorem test_panel_rails :
    ran (.panelRailsUp now) (tally 4 claimed (panel fun p => { p with railClaim := true })) (fun v => v.panel.rails) = true ∧
    ran (.panelRailsUp now) (panel fun p => { p with railClaim := true }) (fun v => !v.panel.rails) = true ∧
    ran (.panelRailIdle now) (panel fun p => { p with rails := true, railClaim := true, idleFrom := some (now - 1000000000) })
      (fun v => !v.panel.rails && !v.panel.railClaim) = true ∧
    ran (.panelRailFault now) (panel fun p => { p with rails := true, jobs := [job0] })
      (fun v => v.panel.railf && decide (v.panel.jobs = []) && raisesLast .error 0x1B v) = true ∧
    ran (.panelRailFault now) (panel id) (fun v => !v.panel.railf) = true := by decide +kernel

theorem test_panel_updates :
    interrupted (panel id) = none ∧ ran (.panelRecovery now true) (panel id) (fun v => decide (v = panel id)) = true ∧
    (interrupted (panel fun p => { p with journal := [job0] })).isSome = true ∧
    ran (.panelRecovery now true) (panel fun p => { p with journal := [{ job0 with frame := 2 }] })
      (fun v => decide (v.panel.journal = []) && decide (SMap.get v.panel.committed 0 8 = 15) && decide (SMap.get v.panel.ledger 0 8 = 1)) = true ∧
    ran (.panelRecovery now false) (panel fun p => { p with journal := [{ job0 with frame := 2 }] })
      (fun v => decide (v.panel.recovering.map (·.stage) = [1]) && decide (v.panel.journal.length = 1)) = true ∧
    ran (.panelFrameBoundary now 50) (panel fun p => { p with rails := true, jobs := [job0] })
      (fun v => decide (v.panel.jobs.map (·.frame) = [1]) && decide (SMap.get v.panel.ledger 0 8 = 1)) = true ∧
    panelRuns noon = false ∧
    fits noon 4 (flashClaim 3 noon.tally.bursts) = true ∧
    ran (.panelUpdateComplete now 0) (panel fun p => { p with rails := true, jobs := [{ job0 with frame := 2 }], journal := [job0], ledger := [(8, 1)] })
      (fun v => decide (v.panel.jobs = []) && decide (v.panel.journal = []) && decide (SMap.get v.panel.committed 0 8 = 15)
        && decide (SMap.get v.panel.flashLedger 0 8 = 1)) = true := by decide +kernel

end Sys2Proof.Tests
end

section
/-! PROOFS. Register access (R67, R72): event counters saturate and clear, a refused write of SYS_CTRL changes nothing. -/
namespace Sys2Proof.Machine
open Sys2Proof.Safety

/-! ### The word of a counter and one event (R67) -/

theorem bit_word_sat (c : Counter) : bit c.word 31 = c.sat := by
  cases h : c.sat <;> simp [Counter.word, bit, flag, h]

theorem truncate_word_count (c : Counter) : c.word.truncate 31 = c.count := by
  have hflag : (flag c.sat 31).setWidth 31 = 0#31 := by cases c.sat <;> decide
  simp [Counter.word, BitVec.truncate_eq_setWidth, BitVec.setWidth_or, hflag]

/-- An event on a full counter sets SAT, any other raises the count. -/
theorem inc_eq (c : Counter) : c.inc =
    if c.count.toNat = 0x7FFFFFFF then ({ c with sat := true }, !c.sat) else ({ c with count := c.count + 1 }, false) := by
  have hfull : c.count = 0x7FFFFFFF ↔ c.count.toNat = 0x7FFFFFFF := by rw [← BitVec.toNat_inj]; rfl
  simp only [Counter.inc, hfull]

theorem inc_count_toNat (c : Counter) : c.inc.1.count.toNat = min (c.count.toNat + 1) 0x7FFFFFFF := by
  have hlt := c.count.isLt
  rw [inc_eq]
  split
  · simp_all
  · simp only [BitVec.toNat_add, show (1 : BitVec 31).toNat = 1 from rfl]
    omega

theorem inc_sat (c : Counter) : c.inc.1.sat = (c.sat || decide (c.count.toNat = 0x7FFFFFFF)) := by
  rw [inc_eq]; split <;> simp [*]

theorem inc_sets_sat (c : Counter) : c.inc.2 = (!c.sat && decide (c.count.toNat = 0x7FFFFFFF)) := by
  rw [inc_eq]; split <;> simp [*]

/-- The records of one event: a NOTICE naming the register where this event sets SAT, none otherwise (R67). -/
theorem bump_raised (addr idx : Nat) (s : State) : (bump addr idx s).skein.raised = s.skein.raised ++
    if (counter s addr idx).inc.2 then
      [makeRecord .notice (BitVec.ofNat 8 (addr / 65536)) (BitVec.ofNat 16 addr) [BitVec.ofNat 32 addr] s]
    else [] := by
  unfold bump; dsimp only; split
  · rfl
  · simp

/-! ### Any number of events (R67) -/

theorem counter_bumps_count (addr idx n : Nat) (s : State) : (counter (bumps addr idx n s) addr idx).count.toNat =
    min ((counter s addr idx).count.toNat + n) 0x7FFFFFFF := by
  have hlt := (counter s addr idx).count.isLt
  induction n generalizing s with
  | zero => simp only [bumps]; omega
  | succ n ih =>
    rw [bumps, ih _ (counter (bump addr idx s) addr idx).count.isLt, counter_bump, inc_count_toNat]
    omega

theorem counter_bumps_sat (addr idx n : Nat) (s : State) : (counter (bumps addr idx n s) addr idx).sat =
    ((counter s addr idx).sat || decide (0x7FFFFFFF < (counter s addr idx).count.toNat + n)) := by
  induction n generalizing s with
  | zero =>
    have hlt := (counter s addr idx).count.isLt
    rw [bumps, decide_eq_false (by omega), Bool.or_false]
  | succ n ih =>
    have hlt := (counter s addr idx).count.isLt
    rw [bumps, ih, counter_bump, inc_sat, inc_count_toNat, Bool.or_assoc, ← Bool.decide_or]
    congr 2
    exact propext (by omega)

/-- Of all the events, the one that sets SAT is the only one that writes a record. -/
theorem bumps_raised_length (addr idx n : Nat) (s : State) : (bumps addr idx n s).skein.raised.length =
    s.skein.raised.length +
      if (counter s addr idx).sat = false ∧ 0x7FFFFFFF < (counter s addr idx).count.toNat + n then 1 else 0 := by
  induction n generalizing s with
  | zero =>
    have hlt := (counter s addr idx).count.isLt
    rw [bumps, if_neg (by omega), Nat.add_zero]
  | succ n ih =>
    have hlt := (counter s addr idx).count.isLt
    rw [bumps, ih, counter_bump, inc_sat, inc_count_toNat, bump_raised, inc_sets_sat]
    cases (counter s addr idx).sat with
    | true => simp
    | false =>
      by_cases hfull : (counter s addr idx).count.toNat = 0x7FFFFFFF
      · simp [hfull]
      · simp only [hfull, decide_false, Bool.or_false, Bool.and_false, Bool.false_eq_true, if_false, List.append_nil, true_and]
        exact congrArg _ (if_congr (by omega) rfl rfl)

theorem mem_bumps_raised (addr idx n : Nat) (s : State) (r : Raised) (h : r ∈ (bumps addr idx n s).skein.raised) :
    r ∈ s.skein.raised ∨ (r.sev = .notice ∧ r.args = [BitVec.ofNat 32 addr]) := by
  induction n generalizing s with
  | zero => exact .inl h
  | succ n ih =>
    rcases ih _ h with hmem | hnotice
    · rw [bump_raised, List.mem_append] at hmem
      refine hmem.imp_right fun hnew => ?_
      split at hnew
      · rw [List.mem_singleton.mp hnew]; exact ⟨rfl, rfl⟩
      · simp at hnew
    · exact .inr hnotice

theorem get_bumps_counters_ne (addr idx n : Nat) (s : State) {k : Nat} (h : k ≠ ckey addr idx) :
    SMap.get (bumps addr idx n s).counters {} k = SMap.get s.counters {} k := by
  induction n generalizing s with
  | zero => rfl
  | succ n ih => rw [bumps, ih, bump_counters, SMap.get_put_ne _ _ _ h]

@[simp] theorem bumps_upd (addr idx n : Nat) (s : State) : (bumps addr idx n s).upd = s.upd := by
  induction n generalizing s with
  | zero => rfl
  | succ n ih => rw [bumps, ih, frame_bump_upd]

theorem bumps_skein (addr idx n : Nat) (s : State) :
    (bumps addr idx n s).skein = { s.skein with raised := (bumps addr idx n s).skein.raised } := by
  induction n generalizing s with
  | zero => rfl
  | succ n ih =>
    rw [bumps, ih]
    unfold bump; dsimp only; split <;> rfl

/-- Events change the counters and the records, nothing else. -/
theorem bumps_eq (addr idx n : Nat) (s : State) : bumps addr idx n s =
    { s with counters := (bumps addr idx n s).counters, skein := (bumps addr idx n s).skein } := by
  apply State.eq_of_parts <;> simp

/-! ### Clearing (R67) -/

@[simp] theorem counter_clearCounter (addr idx : Nat) (s : State) : counter (clearCounter addr idx s) addr idx = {} :=
  SMap.get_drop_same _ _ _

theorem counter_bump_clearCounter (addr idx : Nat) (s : State) :
    counter (bump addr idx (clearCounter addr idx s)) addr idx = { count := 1, sat := false } := by
  rw [counter_bump, counter_clearCounter]; rfl

/-- A write to a counter's address clears the counter where bit 31 is set, and is without effect otherwise. -/
theorem writeReg_counter {who : Requester} {addr n : Nat} {s : State} (v : Word) (hlane : noLane s addr = false)
    (hwide : wideAt s addr = none) (hhi : loOfHi addr = none) (hidx : counterIndex (perReq s who) addr = some n) :
    writeReg who addr v s = (.ack [], if bit v 31 then clearCounter addr n s else s) := by
  simp only [writeReg, hlane, hwide, hhi, hidx, Option.isSome_none, Bool.false_eq_true, if_false, done]

/-- Settles O7: each clause on the events is an induction on their number, from what one event does to a counter. -/
theorem countersSaturate : Obligations.CountersSaturate := by
  refine ⟨fun c => ⟨bit_word_sat c, truncate_word_count c⟩, fun addr idx n s => ?_, ?_⟩
  · exact ⟨counter_bumps_count addr idx n s, counter_bumps_sat addr idx n s, bumps_raised_length addr idx n s,
      fun _ => get_bumps_counters_ne addr idx n s, mem_bumps_raised addr idx n s, counter_bump_clearCounter addr idx s,
      bumps_eq addr idx n s⟩
  · intro who addr n v s hlane hwide hhi hidx
    rw [writeReg_counter v hlane hwide hhi hidx]
    refine ⟨fun hbit => ?_, fun hbit => ⟨?_, counter_clearCounter addr n s⟩⟩ <;> simp [hbit]

/-! ### SYS_CTRL (R72) -/

/-- SYS_CTRL stands in no per-lane block, holds neither a 64-bit value nor a counter: a write of it is `writeSysCtrl`. -/
theorem writeReg_sysCtrl (who : Requester) (v : Word) (s : State) : writeReg who 0x00010004 v s = writeSysCtrl v s := by
  simp [writeReg, noLane, perLaneBlock, wideAt, loOfHi, counterIndex]

theorem duskAllowed_eq_false (s : State) (hm : s.sys.state ≠ .morning) (hn : s.sys.state ≠ .noon) (ha : s.sys.state ≠ .afternoon)
    (hd : ¬(s.sys.state = .dawn ∧ s.sys.hold = true)) : duskAllowed s = false := by
  unfold duskAllowed
  split <;> simp_all

/-- DUSK or HOLD_OFF without a transition refuses all of the update (R72). -/
theorem writeSysCtrl_refused (v : Word) (s : State)
    (h : (bit v 0 = true ∧ bit v 16 = true ∧ duskAllowed s = false) ∨ (bit v 1 = true ∧ bit v 17 = true ∧ s.sys.hold = false)) :
    writeSysCtrl v s = refuse .wrongState s := by
  unfold writeSysCtrl
  rcases h with ⟨hbit, hmask, hdusk⟩ | ⟨hbit, hmask, hhold⟩
  · simp [hbit, hmask, hdusk]
  · simp [hbit, hmask, hhold]

theorem addrOk_sysCtrl : addrOk 0x00010004 = true := by decide

/-- The masked update as SYS_CTRL's word: mask bits above, value bits below (R62). -/
theorem bit_masked_low (mask x : Word) {n : Nat} (hn : n < 16) : bit ((mask <<< 16) ||| (x &&& 0xFFFF)) n = bit x n := by
  have hlow : (0xFFFF#32).getLsbD n = true := by interval_cases n <;> rfl
  simp [bit, hlow, hn]

theorem bit_masked_high (mask x : Word) {n : Nat} (hn : n < 16) : bit ((mask <<< 16) ||| (x &&& 0xFFFF)) (n + 16) = bit mask n := by
  have hlow : (0xFFFF : Word).getLsbD (n + 16) = false := by interval_cases n <;> rfl
  rw [bit, BitVec.getLsbD_or, BitVec.getLsbD_and, hlow, BitVec.getLsbD_shiftLeft]
  simp [bit, show n + 16 < 32 by omega]

/-- A masked write of SYS_CTRL whose update is refused is refused as the update is. -/
theorem maskedWrite_sysCtrl_refused (who : Requester) (mask x : Word) (s : State) (c : NakCode) (hmask : field mask 31 16 = 0)
    (h : writeSysCtrl ((mask <<< 16) ||| (x &&& 0xFFFF)) s = refuse c s) : maskedWrite who 0x00010004 mask x s = refuse c s := by
  have haddr : (0x00010004 : Word).toNat = 0x00010004 := rfl
  simp only [maskedWrite, haddr, hmask, writeReg_sysCtrl, h]
  rfl

/-- A request refused at the state it arrived in changes only its session and what is sent. -/
theorem serve_refused {r : Req} {a b : Bool} {f : State → Reply × State} {s : State} {c : NakCode} (htaken : Taken r a b s)
    (hf : f (arrived r s) = refuse c (arrived r s)) :
    ∃ v, Host.Outcome.next (serve r a b f s) = (.next v : Result) ∧ Replied r (.nak c 0) v ∧ v.sys = (arrived r s).sys ∧
      v = { arrived r s with hank := v.hank, sent := v.sent } := by
  refine ⟨_, rfl, ?_⟩
  rw [serve_taken r a b f s htaken, hf]
  exact ⟨rfl, rfl, rfl⟩

/-- Settles O10: both forms of the write reach `writeSysCtrl`, which refuses before it changes anything. -/
theorem refusedControlChangesNothing : Obligations.RefusedControlChangesNothing := by
  intro r mask x s u noDusk
  have hdusk : noDusk → duskAllowed u = false := fun ⟨hm, hn, ha, hd⟩ => duskAllowed_eq_false u hm hn ha hd
  refine ⟨fun htaken h => ?_, fun htaken hmask h => ?_⟩
  · rw [exec_regWr]
    refine serve_refused htaken ?_
    rw [atAddr, if_pos addrOk_sysCtrl]
    exact (writeReg_sysCtrl r.who x u).trans
      (writeSysCtrl_refused x u (h.imp_left fun ⟨hbit, hset, hno⟩ => ⟨hbit, hset, hdusk hno⟩))
  · rw [exec_regWrm]
    refine serve_refused htaken ?_
    rw [atAddr, if_pos addrOk_sysCtrl]
    refine maskedWrite_sysCtrl_refused r.who mask x u .wrongState hmask (writeSysCtrl_refused _ u ?_)
    rw [bit_masked_low mask x (n := 0) (by decide), bit_masked_low mask x (n := 1) (by decide),
      bit_masked_high mask x (n := 0) (by decide), bit_masked_high mask x (n := 1) (by decide)]
    exact h.imp_left fun ⟨hbit, hset, hno⟩ => ⟨hbit, hset, hdusk hno⟩

end Sys2Proof.Machine
end

section
/-! PROOFS. Steps and time (R48, R323), data SRAM (R77, R78). -/
namespace Sys2Proof.Machine
open Sys2Proof.Safety

/-! ### Steps and time -/

theorem step_cons {s : State} {c : Instr} {rest : List Instr} (h : s.pending = c :: rest) :
    step s = exec c { s with pending := rest } := by
  unfold step; rw [h]

theorem step_nil {s : State} (h : s.pending = []) : step s = .next (tick s) := by
  unfold step; rw [h]

/-- Settles O1: a step's two cases are those of the queue. -/
theorem stepTakesFront : Obligations.StepTakesFront := ⟨fun _ _ _ => step_cons, fun _ => step_nil⟩

theorem advanceTo_time_of_le {t : Time} {s : State} (hrun : s.sun.run = true) (h : s.sun.time ≤ t) :
    (advanceTo t s).sun.time = t := by
  unfold advanceTo
  rw [if_pos hrun]
  split
  · simp
  · exact BitVec.le_antisymm h (BitVec.not_lt.mp ‹_›)

theorem advanceTo_of_not_lt {t : Time} {s : State} (hrun : s.sun.run = true) (h : ¬ s.sun.time < t) : advanceTo t s = s := by
  unfold advanceTo
  rw [if_pos hrun, if_neg h]

theorem advanceTo_time_of_stopped {t : Time} {s : State} (hrun : s.sun.run = false) : (advanceTo t s).sun.time = s.sun.time := by
  unfold advanceTo
  rw [hrun, if_neg Bool.false_ne_true]
  split <;> rfl

/-- Settles O2: each branch of the passing of time, and its frame. -/
theorem timeAdvances : Obligations.TimeAdvances := fun t s =>
  ⟨advanceTo_time_of_le, advanceTo_of_not_lt, advanceTo_time_of_stopped, advanceTo_eq t s⟩

/-- Settles O3: the module is off after reset, its gate closed, its Skein empty, no hold in force. -/
theorem resetKeepsInvariants : Obligations.ResetKeepsInvariants := by
  refine ⟨?gate, ?buffer, ?hold⟩
  case gate => exact fun h => absurd h Bool.false_ne_true
  case buffer => exact Nat.zero_le _
  case hold => exact ⟨fun h => absurd h Bool.false_ne_true, fun _ => rfl, fun _ _ => rfl⟩

/-! ### Data SRAM (R77, R78) -/

theorem readBytes_length (s : State) (sp addr n : Nat) : (readBytes s sp addr n).length = n := by
  induction n generalizing addr with
  | zero => rfl
  | succ n ih => simp [readBytes, ih]

theorem readBytes_getElem (s : State) (sp addr n i : Nat) (h : i < (readBytes s sp addr n).length) :
    (readBytes s sp addr n)[i] = readByte s sp (addr + i) := by
  induction n generalizing addr i with
  | zero => simp [readBytes] at h
  | succ n ih =>
    cases i with
    | zero => rfl
    | succ i => simp only [readBytes, List.getElem_cons_succ, ih]; congr 1; omega

theorem readBytes_writeBytes (sp addr : Nat) (l : List Byte) (s : State) :
    readBytes (writeBytes sp addr l s) sp addr l.length = l := by
  refine List.ext_getElem (readBytes_length _ _ _ _) fun i _ hi => ?_
  rw [readBytes_getElem, readByte_writeBytes_in _ _ _ _ _ hi]

theorem readByte_writeBytes_away {sp addr q a : Nat} {l : List Byte} {s : State}
    (h : memKey q a < memKey sp addr ∨ memKey sp addr + l.length ≤ memKey q a) :
    readByte (writeBytes sp addr l s) q a = readByte s q a :=
  get_putCells_out _ _ _ _ h

/-- A byte whose key is none of those stored is what it was. -/
theorem readByte_writeBytes_ne {sp addr q a : Nat} {l : List Byte} {s : State}
    (h : ∀ i, i < l.length → memKey q a ≠ memKey sp (addr + i)) :
    readByte (writeBytes sp addr l s) q a = readByte s q a := by
  refine readByte_writeBytes_away ?_
  by_contra hin
  refine h (memKey q a - memKey sp addr) (by omega) ?_
  unfold memKey at *
  omega

/-- The key of an entry that the canonical form lists reads as its value, and no other than an unlisted one as the default. -/
theorem SMap.get_of_mem {α : Type} {m : SMap α} {d : α} {k : Nat} {v : α} (h : SMap.Canonical m d) (hm : (k, v) ∈ m) :
    SMap.get m d k = v := by
  obtain ⟨hp, -⟩ := h
  induction m with
  | nil => cases hm
  | cons e r ih =>
    obtain ⟨k', v'⟩ := e
    simp only [List.map_cons, List.pairwise_cons, List.mem_map, forall_exists_index, and_imp] at hp
    rw [SMap.get]
    rcases List.mem_cons.mp hm with heq | hr
    · simp_all
    · rw [if_neg (hp.1 k (k, v) hr rfl).ne]
      exact ih hr hp.2

theorem SMap.mem_of_get_ne {α : Type} {m : SMap α} {d : α} {k : Nat} (h : SMap.get m d k ≠ d) : (k, SMap.get m d k) ∈ m := by
  induction m with
  | nil => exact absurd rfl h
  | cons e r ih =>
    obtain ⟨k', v'⟩ := e
    rw [SMap.get] at h ⊢
    split at h
    · rename_i hk; simp [hk]
    · rename_i hk; simp only [hk, if_false]; exact List.mem_cons_of_mem _ (ih h)

/-- Maps in canonical form that read alike have the same entries. -/
theorem SMap.mem_of_get_eq {α : Type} {m b : SMap α} {d : α} (hm : SMap.Canonical m d)
    (h : ∀ k, SMap.get m d k = SMap.get b d k) (e : Nat × α) (he : e ∈ m) : e ∈ b := by
  have hv : SMap.get m d e.1 = e.2 := SMap.get_of_mem hm he
  have hb : SMap.get b d e.1 ≠ d := by rw [← h, hv]; exact hm.2 e he
  have hmem := SMap.mem_of_get_ne hb
  rwa [← h, hv] at hmem

/-- The canonical form is one: what a map reads as decides it. -/
theorem SMap.eq_of_get_eq {α : Type} {m b : SMap α} {d : α} (hm : SMap.Canonical m d) (hb : SMap.Canonical b d)
    (h : ∀ k, SMap.get m d k = SMap.get b d k) : m = b := by
  have hsorted : ∀ {c : SMap α}, SMap.Canonical c d → c.Pairwise fun x y => x.1 < y.1 := fun hc => List.pairwise_map.mp hc.1
  have hnodup : ∀ {c : SMap α}, SMap.Canonical c d → c.Nodup := fun hc =>
    (hsorted hc).imp fun hlt heq => absurd (heq ▸ hlt) (lt_irrefl _)
  have hperm : m.Perm b := (List.perm_ext_iff_of_nodup (hnodup hm) (hnodup hb)).mpr fun e =>
    ⟨SMap.mem_of_get_eq hm h e, SMap.mem_of_get_eq hb (fun k => (h k).symm) e⟩
  refine hperm.eq_of_pairwise (fun x y _ _ hxy hyx => absurd hxy (lt_asymm hyx)) (hsorted hm) (hsorted hb)

/-- Settles O8: what a store leaves of each byte, and that the canonical form is one. -/
theorem memoryHoldsWhatIsStored : Obligations.MemoryHoldsWhatIsStored := by
  intro sp addr l s hwf
  refine ⟨writeBytes_wf sp addr l s hwf, readBytes_writeBytes sp addr l s, fun _ _ => readByte_writeBytes_away,
    fun m b hm hb h => ?_⟩
  exact SMap.eq_of_get_eq ((SMap.wf_iff _ _).mp hm) ((SMap.wf_iff _ _).mp hb) h

end Sys2Proof.Machine
end

section
/-! PROOFS. Tister words (R110 to R136): the fields of a word as it was assembled, and each instruction's way back from its word. -/
namespace Sys2Proof.Machine
open Sys2Proof.Safety

/-! ### The fields of a word (R110) -/

theorem asm_toNat (op : Nat) (p : PReg) (d a low : Nat) (hop : op < 64) (hd : d < 32) (ha : a < 32) (hlow : low < 8192) :
    (asm op p d a low).toNat = op * 0x4000000 + p.val * 0x800000 + d * 0x40000 + a * 0x2000 + low := by
  have hp := p.isLt
  rw [asm, BitVec.toNat_ofNat, Nat.mod_eq_of_lt (by omega)]

theorem field_asm_op (op : Nat) (p : PReg) (d a low : Nat) (hop : op < 64) (hd : d < 32) (ha : a < 32) (hlow : low < 8192) :
    field (asm op p d a low) 31 26 = op := by
  have hp := p.isLt
  rw [field, asm_toNat op p d a low hop hd ha hlow, Nat.shiftRight_eq_div_pow]
  omega

theorem field_asm_guard (op : Nat) (p : PReg) (d a low : Nat) (hop : op < 64) (hd : d < 32) (ha : a < 32) (hlow : low < 8192) :
    field (asm op p d a low) 25 23 = p.val := by
  have hp := p.isLt
  rw [field, asm_toNat op p d a low hop hd ha hlow, Nat.shiftRight_eq_div_pow]
  omega

theorem field_asm_d (op : Nat) (p : PReg) (d a low : Nat) (hop : op < 64) (hd : d < 32) (ha : a < 32) (hlow : low < 8192) :
    field (asm op p d a low) 22 18 = d := by
  have hp := p.isLt
  rw [field, asm_toNat op p d a low hop hd ha hlow, Nat.shiftRight_eq_div_pow]
  omega

theorem field_asm_a (op : Nat) (p : PReg) (d a low : Nat) (hop : op < 64) (hd : d < 32) (ha : a < 32) (hlow : low < 8192) :
    field (asm op p d a low) 17 13 = a := by
  have hp := p.isLt
  rw [field, asm_toNat op p d a low hop hd ha hlow, Nat.shiftRight_eq_div_pow]
  omega

/-- The bits below 13 are those of the low part. -/
theorem field_asm_low (op : Nat) (p : PReg) (d a low hi lo : Nat) (hop : op < 64) (hd : d < 32) (ha : a < 32) (hlow : low < 8192)
    (hhi : hi < 13) (hlo : lo ≤ hi) : field (asm op p d a low) hi lo = (low / 2 ^ lo) % 2 ^ (hi + 1 - lo) := by
  have hp := p.isLt
  rw [field, asm_toNat op p d a low hop hd ha hlow, Nat.shiftRight_eq_div_pow]
  have hsplit : 8192 = 2 ^ lo * (2 ^ (hi + 1 - lo) * 2 ^ (12 - hi)) := by
    rw [← Nat.pow_add, ← Nat.pow_add, show lo + (hi + 1 - lo + (12 - hi)) = 13 by omega]
  have hword : op * 0x4000000 + p.val * 0x800000 + d * 0x40000 + a * 0x2000 + low =
      low + 2 ^ lo * (2 ^ (hi + 1 - lo) * (2 ^ (12 - hi) * (op * 0x2000 + p.val * 0x400 + d * 0x20 + a))) := by
    rw [← Nat.mul_assoc (2 ^ (hi + 1 - lo)), ← Nat.mul_assoc (2 ^ lo), ← hsplit]; ring
  rw [hword, Nat.add_mul_div_left _ _ (Nat.two_pow_pos lo), Nat.add_mul_mod_self_left]

theorem truncate_asm (op : Nat) (p : PReg) (d a low n : Nat) (hop : op < 64) (hd : d < 32) (ha : a < 32) (hlow : low < 8192)
    (hn : n ≤ 13) : (asm op p d a low).truncate n = BitVec.ofNat n low := by
  have hp := p.isLt
  apply BitVec.eq_of_toNat_eq
  rw [BitVec.truncate_eq_setWidth, BitVec.toNat_setWidth, asm_toNat op p d a low hop hd ha hlow, BitVec.toNat_ofNat]
  have hsplit : 8192 = 2 ^ n * 2 ^ (13 - n) := by rw [← Nat.pow_add, show n + (13 - n) = 13 by omega]
  have hword : op * 0x4000000 + p.val * 0x800000 + d * 0x40000 + a * 0x2000 + low =
      low + 2 ^ n * (2 ^ (13 - n) * (op * 0x2000 + p.val * 0x400 + d * 0x20 + a)) := by
    rw [← Nat.mul_assoc, ← hsplit]; ring
  rw [hword, Nat.add_mul_mod_self_left]

/-- Settles O5: each word, decoded. -/
theorem tisterWordsDecode : Obligations.TisterWordsDecode := by
  intro sp x
  refine ⟨?_, ?_, ?_, ?_, ?_, ?_, ?_, ?_, ?_, ?_, ?_, ?_, ?_, ?_, ?_, ?_, ?_, ?_, ?_, ?_, ?_, ?_, ?_, ?_, ?_⟩ <;> rfl

/-! ### Words and back -/

/-- An instruction whose word, where it has one, decodes to it on some Spindle. -/
def ComesBack (i : Instr) : Prop := ∀ w, encodeTister i = some w → ∃ sp : Fin 64, decodeTister sp w = some i

theorem ComesBack.of_word {i : Instr} {w : Word} (sp : Fin 64) (he : encodeTister i = some w) (hd : decodeTister sp w = some i) :
    ComesBack i := fun v hv => ⟨sp, by rwa [← Option.some.inj (he.symm.trans hv)]⟩

/-! What the low part holds besides an immediate: an operand above a function code, a selector above a handle. -/

theorem low_operand (b : GReg) {c : Nat} (hc : c < 256) : (b.val * 256 + c) / 256 % 32 = b.val := by omega

theorem low_predicate (b : PReg) {c : Nat} (hc : c < 256) : (b.val * 256 + c) / 256 % 32 = b.val := by omega

theorem low_operand_alone (b : GReg) : b.val % 32 = b.val := by omega

theorem low_predicate_alone (b : PReg) : b.val % 32 = b.val := by omega

theorem ofNat_low {n : Nat} (v : BitVec n) (k : Nat) : BitVec.ofNat n (k * 2 ^ n + v.toNat) = v := by
  apply BitVec.eq_of_toNat_eq
  rw [BitVec.toNat_ofNat, Nat.mul_add_mod', Nat.mod_eq_of_lt v.isLt]

theorem low_above {n k : Nat} (v : BitVec n) : (k * 2 ^ n + v.toNat) / 2 ^ n = k := by
  rw [Nat.mul_comm, Nat.mul_add_div (Nat.two_pow_pos n), Nat.div_eq_of_lt v.isLt, Nat.add_zero]

/-- The integer instructions of two registers (R115). -/
theorem comesBack_integer (x : Slot) (d a b : GReg) :
    ∀ i ∈ ([.add x d a b, .sub x d a b, .mul x d a b, .mulh x d a b, .mulhu x d a b, .div x d a b, .divu x d a b, .rem x d a b,
        .remu x d a b, .and_ x d a b, .or_ x d a b, .xor x d a b, .andn x d a b, .shl x d a b, .shr x d a b, .sra x d a b,
        .rol x d a b, .min x d a b, .max x d a b, .minu x d a b, .maxu x d a b, .clz x d a, .popc x d a] : List Instr), ComesBack i := by
  intro i hi
  fin_cases hi <;> refine ComesBack.of_word x.sp rfl ?_ <;>
    simp (disch := omega) [decodeTister, when, field_asm_op, field_asm_guard, field_asm_d, field_asm_a, field_asm_low, low_operand, low_operand_alone]

/-- The instructions of an immediate (R117). -/
theorem comesBack_immediate (x : Slot) (d a : GReg) (imm : BitVec 13) :
    ∀ i ∈ ([.addi x d a imm, .andi x d a imm, .ori x d a imm, .xori x d a imm, .movi x d imm] : List Instr), ComesBack i := by
  intro i hi
  fin_cases hi <;> refine ComesBack.of_word x.sp rfl ?_ <;>
    simp (disch := omega) [decodeTister, when, field_asm_op, field_asm_guard, field_asm_d, field_asm_a, truncate_asm]

/-- Loads and stores (R128). -/
theorem comesBack_memory (x : Slot) (d a : GReg) (imm : BitVec 13) :
    ∀ i ∈ ([.ldc x d imm, .ldw x d a imm, .ldh x d a imm, .ldhu x d a imm, .ldb x d a imm, .ldbu x d a imm, .stw x d a imm,
        .sth x d a imm, .stb x d a imm] : List Instr), ComesBack i := by
  intro i hi
  fin_cases hi <;> refine ComesBack.of_word x.sp rfl ?_ <;>
    simp (disch := omega) [decodeTister, when, field_asm_op, field_asm_guard, field_asm_d, field_asm_a, truncate_asm]

/-- The fixed-point instructions (R118). -/
theorem comesBack_fixed (x : Slot) (d a b : GReg) :
    ∀ i ∈ ([.qadd x d a b, .qsub x d a b, .qneg x d a, .qabs x d a, .qmul16 x d a b, .qmul31 x d a b, .qshl x d a b] : List Instr), ComesBack i := by
  intro i hi
  fin_cases hi <;> refine ComesBack.of_word x.sp rfl ?_ <;>
    simp (disch := omega) [decodeTister, when, field_asm_op, field_asm_guard, field_asm_d, field_asm_a, field_asm_low, low_operand, low_operand_alone]

/-- The binary32 instructions and conversions (R119, R120). -/
theorem comesBack_float (x : Slot) (d a b : GReg) :
    ∀ i ∈ ([.fadd x d a b, .fsub x d a b, .fmul x d a b, .fdiv x d a b, .fsqrt x d a, .ffma x d a b, .fmin x d a b, .fmax x d a b,
        .fabs x d a, .fneg x d a, .f2i x d a, .i2f x d a, .f2q16 x d a, .q162f x d a, .f2q31 x d a, .q312f x d a] : List Instr), ComesBack i := by
  intro i hi
  fin_cases hi <;> refine ComesBack.of_word x.sp rfl ?_ <;>
    simp (disch := omega) [decodeTister, when, field_asm_op, field_asm_guard, field_asm_d, field_asm_a, field_asm_low, low_operand, low_operand_alone]

/-- Comparisons of two registers (R121, R122). -/
theorem comesBack_compare (x : Slot) (d : PReg) (a b : GReg) :
    ∀ i ∈ ([.ieq x d a b, .ine x d a b, .ilt x d a b, .ige x d a b, .iltu x d a b, .igeu x d a b, .feq x d a b, .fne x d a b,
        .flt x d a b, .fle x d a b, .fgt x d a b, .fge x d a b, .fun x d a b] : List Instr), ComesBack i := by
  intro i hi
  fin_cases hi <;> refine ComesBack.of_word x.sp rfl ?_ <;>
    simp (disch := omega) [decodeTister, when, field_asm_op, field_asm_guard, field_asm_d, field_asm_a, field_asm_low, low_operand, low_operand_alone]

/-- Comparisons with an immediate (R121). -/
theorem comesBack_compareImmediate (x : Slot) (d : PReg) (a : GReg) (imm : BitVec 13) :
    ∀ i ∈ ([.ieqi x d a imm, .inei x d a imm, .ilti x d a imm, .igei x d a imm] : List Instr), ComesBack i := by
  intro i hi
  fin_cases hi <;> refine ComesBack.of_word x.sp rfl ?_ <;>
    simp (disch := omega) [decodeTister, when, field_asm_op, field_asm_guard, field_asm_d, field_asm_a, truncate_asm]

theorem unordered_comesBack (x : Slot) (d : PReg) (a b : GReg) : ComesBack (.fun x d a b) := comesBack_compare x d a b _ (by simp)

/-- Predicate logic (R123). -/
theorem comesBack_predicate (x : Slot) (d a b : PReg) :
    ∀ i ∈ ([.pand x d a b, .por x d a b, .pxor x d a b, .pandn x d a b, .pnot x d a, .pmov x d a] : List Instr), ComesBack i := by
  intro i hi
  fin_cases hi <;> refine ComesBack.of_word x.sp rfl ?_ <;>
    simp (disch := omega) [decodeTister, when, field_asm_op, field_asm_guard, field_asm_d, field_asm_a, field_asm_low,
      low_predicate, low_predicate_alone]

/-- The shifts by an immediate (R117): the kind stands above the shift count. -/
theorem decodeTister_shift (x : Slot) (d a : GReg) (sh : BitVec 5) (k : Nat) : k < 4 →
    decodeTister x.sp (asm 0x06 x.p d.val a.val (k * 32 + sh.toNat)) = match k with
      | 0 => some (.shli x d a sh)
      | 1 => some (.shri x d a sh)
      | 2 => some (.srai x d a sh)
      | _ => some (.roli x d a sh) := by
  intro hk
  have hzero : (k * 32 + sh.toNat) / 2 ^ 7 % 2 ^ (12 + 1 - 7) = 0 := by omega
  have hkind : (k * 32 + sh.toNat) / 2 ^ 5 % 2 ^ (6 + 1 - 5) = k := by omega
  have hcount : BitVec.ofNat 5 (k * 32 + sh.toNat) = sh := ofNat_low sh k
  simp (disch := omega) only [decodeTister, field_asm_op, field_asm_guard, field_asm_d, field_asm_a, field_asm_low, truncate_asm,
    hzero, hkind, hcount, ne_eq, not_true, if_false, Fin.ofNat_val_eq_self] <;> rfl

theorem comesBack_shift (x : Slot) (d a : GReg) (sh : BitVec 5) :
    ∀ i ∈ ([.shli x d a sh, .shri x d a sh, .srai x d a sh, .roli x d a sh] : List Instr), ComesBack i := by
  intro i hi
  fin_cases hi
  · exact .of_word x.sp rfl (decodeTister_shift x d a sh 0 (by decide))
  · exact .of_word x.sp rfl (decodeTister_shift x d a sh 1 (by decide))
  · exact .of_word x.sp rfl (decodeTister_shift x d a sh 2 (by decide))
  · exact .of_word x.sp rfl (decodeTister_shift x d a sh 3 (by decide))

/-- Control flow and barriers (R124 to R127, R138). -/
theorem comesBack_control (x : Slot) (imm : BitVec 13) :
    ∀ i ∈ ([.next_ x, .brk x, .end_ x, .trap x imm] : List Instr), ComesBack i := by
  intro i hi
  fin_cases hi <;> refine ComesBack.of_word x.sp rfl ?_ <;>
    simp (disch := omega) [decodeTister, when, field_asm_op, field_asm_guard, field_asm_d, field_asm_a, field_asm_low, truncate_asm]

theorem comesBack_bar (x : Slot) (n : Fin 16) : ComesBack (.bar x n) := by
  have hzero : n.val / 16 % 512 = 0 := by omega
  have hgroup : n.val % 16 = n.val := by omega
  refine .of_word x.sp rfl ?_
  simp (disch := omega) [decodeTister, when, field_asm_op, field_asm_guard, field_asm_d, field_asm_a, field_asm_low, hzero, hgroup]

/-- Time (R137): the half stands in bit 0. -/
theorem comesBack_time (x : Slot) (d : GReg) (hi : Bool) : ∀ i ∈ ([.timeTi x d hi, .timeNow x d hi] : List Instr), ComesBack i := by
  intro i hmem
  fin_cases hmem <;> refine ComesBack.of_word x.sp rfl ?_ <;> cases hi <;>
    simp (disch := omega) [decodeTister, field_asm_op, field_asm_guard, field_asm_d, field_asm_a, field_asm_low, bit,
      BitVec.getLsbD, asm_toNat] <;>
    omega

theorem br_comesBack {x : Slot} {imm : BitVec 13} (h : wellFormed (.br x imm) = true) : ComesBack (.br x imm) := by
  refine .of_word x.sp rfl ?_
  simp (disch := omega) [decodeTister, when, field_asm_op, field_asm_guard, field_asm_d, field_asm_a, truncate_asm]
  simpa [wellFormed] using h

theorem loop_comesBack {x : Slot} {a : GReg} {imm : BitVec 13} (h : wellFormed (.loop x a imm) = true) :
    ComesBack (.loop x a imm) := by
  refine .of_word x.sp rfl ?_
  simp (disch := omega) [decodeTister, when, field_asm_op, field_asm_guard, field_asm_d, field_asm_a, truncate_asm]
  exact or_iff_not_imp_left.mp (by simpa [wellFormed] using h)

/-- Signals (R129, R130): the handle fills the low byte. -/
theorem comesBack_signal (x : Slot) (d ix : GReg) (h : Byte) :
    ∀ i ∈ ([.sigRd x d h ix, .sigSt x d h ix, .sigAge x d h ix] : List Instr), ComesBack i := by
  have hzero : h.toNat / 256 % 32 = 0 := by omega
  intro i hi
  fin_cases hi <;> refine ComesBack.of_word x.sp rfl ?_ <;>
    simp (disch := omega) [decodeTister, when, field_asm_op, field_asm_guard, field_asm_d, field_asm_a, field_asm_low, truncate_asm,
      hzero]

theorem sigWr_comesBack {x : Slot} {ix a : GReg} {h : Byte} {st : BitVec 4} (hwf : wellFormed (.sigWr x ix h st a) = true) :
    ComesBack (.sigWr x ix h st a) := by
  have hhandle : BitVec.ofNat 8 (st.toNat * 256 + h.toNat) = h := ofNat_low h st.toNat
  have hstatus : (st.toNat * 256 + h.toNat) / 2 ^ 8 % 2 ^ (11 + 1 - 8) = st.toNat := by omega
  have hwide : (st.toNat * 256 + h.toNat) / 2 ^ 8 % 2 ^ (12 + 1 - 8) = st.toNat := by omega
  refine .of_word x.sp rfl ?_
  simp (disch := omega) only [decodeTister, field_asm_op, field_asm_guard, field_asm_d, field_asm_a, field_asm_low, truncate_asm,
    hhandle, hstatus, hwide]
  simp only [wellFormed, Bool.or_eq_true, decide_eq_true_eq] at hwf
  rcases hwf with rfl | rfl <;> simp [when]

/-- Bobbins (R131, R132): the operation stands between the second operand and the handle. -/
theorem decodeTister_bobbin (x : Slot) (d a b k : Nat) (n : Fin 16) (hd : d < 32) (ha : a < 32) (hb : b < 32) :
    k < 16 →
    decodeTister x.sp (asm 0x25 x.p d a (b * 256 + k * 16 + n.val)) = match k with
      | 0x0 => when (decide (d < 8)) (.bobPush x (Fin.ofNat 8 d) n (Fin.ofNat 32 a) (Fin.ofNat 32 b))
      | 0x4 => some (.bobPop x (Fin.ofNat 32 d) n (Fin.ofNat 32 a) (Fin.ofNat 32 b))
      | 0x8 => when (b = 0 && a ≤ 4) (.bobPeek x (Fin.ofNat 32 d) n (BitVec.ofNat 5 a))
      | _ => none := by
  intro hk
  have hkind : (b * 256 + k * 16 + n.val) / 2 ^ 4 % 2 ^ (7 + 1 - 4) = k := by omega
  have hhandle : (b * 256 + k * 16 + n.val) / 2 ^ 0 % 2 ^ (3 + 1 - 0) = n.val := by omega
  have hoperand : (b * 256 + k * 16 + n.val) / 2 ^ 8 % 2 ^ (12 + 1 - 8) = b := by omega
  simp (disch := omega) only [decodeTister, field_asm_op, field_asm_guard, field_asm_d, field_asm_a, field_asm_low,
    hkind, hhandle, hoperand, Fin.ofNat_val_eq_self] <;> rfl

theorem bobPush_comesBack (x : Slot) (d : PReg) (n : Fin 16) (a b : GReg) : ComesBack (.bobPush x d n a b) := by
  refine .of_word x.sp (congrArg (fun k => some (asm 0x25 x.p d.val a.val k)) (by omega : b.val * 256 + n.val = b.val * 256 + 0 * 16 + n.val))
    ((decodeTister_bobbin x d.val a.val b.val 0 n (by omega) a.isLt b.isLt (by decide)).trans ?_)
  simp [when]

theorem bobPop_comesBack (x : Slot) (d : GReg) (n : Fin 16) (a b : GReg) : ComesBack (.bobPop x d n a b) := by
  refine .of_word x.sp rfl ((decodeTister_bobbin x d.val a.val b.val 4 n d.isLt a.isLt b.isLt (by decide)).trans ?_)
  simp

theorem bobPeek_comesBack {x : Slot} {d : GReg} {n : Fin 16} {sel : BitVec 5} (h : wellFormed (.bobPeek x d n sel) = true) :
    ComesBack (.bobPeek x d n sel) := by
  refine .of_word x.sp (congrArg (fun k => some (asm 0x25 x.p d.val sel.toNat k)) (by omega : 128 + n.val = 0 * 256 + 8 * 16 + n.val))
    ((decodeTister_bobbin x d.val sel.toNat 0 8 n d.isLt sel.isLt (by decide) (by decide)).trans ?_)
  simpa [when, wellFormed] using h

/-- Laws and outputs (R133 to R136): a selector stands above the handle. -/
theorem lawIn_comesBack {x : Slot} {l : BitVec 6} {sel : BitVec 4} {a : GReg} (h : wellFormed (.lawIn x l sel a) = true) :
    ComesBack (.lawIn x l sel a) := by
  have hsel : sel.toNat < 8 := by simpa [wellFormed] using h
  have hhandle : BitVec.ofNat 6 (sel.toNat * 64 + l.toNat) = l := ofNat_low l sel.toNat
  have hsel' : (sel.toNat * 64 + l.toNat) / 2 ^ 6 % 2 ^ (9 + 1 - 6) = sel.toNat := by omega
  have hzero : (sel.toNat * 64 + l.toNat) / 2 ^ 9 % 2 ^ (12 + 1 - 9) = 0 := by omega
  refine .of_word x.sp rfl ?_
  simp (disch := omega) only [decodeTister, field_asm_op, field_asm_guard, field_asm_d, field_asm_a, field_asm_low, truncate_asm,
    hhandle, hsel', hzero]
  simp [when]

theorem lawOut_comesBack {x : Slot} {d : GReg} {l : BitVec 6} {sel : BitVec 4} (h : wellFormed (.lawOut x d l sel) = true) :
    ComesBack (.lawOut x d l sel) := by
  have hsel : sel.toNat ≤ 4 := by simpa [wellFormed] using h
  have hhandle : BitVec.ofNat 6 (sel.toNat * 64 + l.toNat) = l := ofNat_low l sel.toNat
  have hsel' : (sel.toNat * 64 + l.toNat) / 2 ^ 6 % 2 ^ (9 + 1 - 6) = sel.toNat := by omega
  have hzero : (sel.toNat * 64 + l.toNat) / 2 ^ 10 % 2 ^ (12 + 1 - 10) = 0 := by omega
  refine .of_word x.sp rfl ?_
  simp (disch := omega) only [decodeTister, field_asm_op, field_asm_guard, field_asm_d, field_asm_a, field_asm_low, truncate_asm,
    hhandle, hsel', hzero]
  simp [when, hsel]

theorem comesBack_handle (x : Slot) (l : BitVec 6) (a : GReg) :
    ∀ i ∈ ([.lawStep x l, .outSw x l a, .outPwm x l a] : List Instr), ComesBack i := by
  have hzero : l.toNat / 64 % 128 = 0 := by omega
  intro i hi
  fin_cases hi <;> refine ComesBack.of_word x.sp rfl ?_ <;>
    simp (disch := omega) [decodeTister, when, field_asm_op, field_asm_guard, field_asm_d, field_asm_a, field_asm_low, truncate_asm,
      hzero]

theorem decodeTister_solenoid (x : Slot) (a : GReg) (l : BitVec 6) (k : Nat) : k < 128 →
    decodeTister x.sp (asm 0x2B x.p 0 a.val (k * 64 + l.toNat)) = match k with
      | 0 => some (.outSolCur x l a)
      | 1 => some (.outSolProf x l a)
      | 2 => when (a.val = 0) (.outSolRel x l)
      | _ => none := by
  intro hk
  have hhandle : BitVec.ofNat 6 (k * 64 + l.toNat) = l := ofNat_low l k
  have hkind : (k * 64 + l.toNat) / 2 ^ 6 % 2 ^ (12 + 1 - 6) = k := by omega
  simp (disch := omega) only [decodeTister, field_asm_op, field_asm_guard, field_asm_d, field_asm_a, field_asm_low, truncate_asm,
    hhandle, hkind, ne_eq, not_true, if_false, Fin.ofNat_val_eq_self] <;> rfl

theorem comesBack_solenoid (x : Slot) (l : BitVec 6) (a : GReg) :
    ∀ i ∈ ([.outSolCur x l a, .outSolProf x l a, .outSolRel x l] : List Instr), ComesBack i := by
  intro i hi
  fin_cases hi
  · exact .of_word x.sp (congrArg (fun k => some (asm 0x2B x.p 0 a.val k)) (by omega : l.toNat = 0 * 64 + l.toNat))
      (decodeTister_solenoid x a l 0 (by decide))
  · exact .of_word x.sp rfl (decodeTister_solenoid x a l 1 (by decide))
  · exact .of_word x.sp rfl (decodeTister_solenoid x 0 l 2 (by decide))

/-- Settles O6: family by family, each word's fields are read back one by one. -/
theorem tisterWordsRoundTrip : Obligations.TisterWordsRoundTrip := by
  intro i w hwf henc
  revert w
  change ComesBack i
  cases i with
  | add x d a b | sub x d a b | mul x d a b | mulh x d a b | mulhu x d a b | div x d a b | divu x d a b | rem x d a b
  | remu x d a b | and_ x d a b | or_ x d a b | xor x d a b | andn x d a b | shl x d a b | shr x d a b | sra x d a b | rol x d a b
  | min x d a b | max x d a b | minu x d a b | maxu x d a b =>
    exact comesBack_integer x d a b _ (by simp)
  | clz x d a | popc x d a =>
    exact comesBack_integer x d a 0 _ (by simp)
  | addi x d a imm | andi x d a imm | ori x d a imm | xori x d a imm =>
    exact comesBack_immediate x d a imm _ (by simp)
  | movi x d imm =>
    exact comesBack_immediate x d 0 imm _ (by simp)
  | ldc x d imm =>
    exact comesBack_memory x d 0 imm _ (by simp)
  | ldw x d a imm | ldh x d a imm | ldhu x d a imm | ldb x d a imm | ldbu x d a imm | stw x d a imm | sth x d a imm | stb x d a imm =>
    exact comesBack_memory x d a imm _ (by simp)
  | qadd x d a b | qsub x d a b | qmul16 x d a b | qmul31 x d a b | qshl x d a b =>
    exact comesBack_fixed x d a b _ (by simp)
  | qneg x d a | qabs x d a =>
    exact comesBack_fixed x d a 0 _ (by simp)
  | fadd x d a b | fsub x d a b | fmul x d a b | fdiv x d a b | ffma x d a b | fmin x d a b | fmax x d a b =>
    exact comesBack_float x d a b _ (by simp)
  | fsqrt x d a | fabs x d a | fneg x d a | f2i x d a | i2f x d a | f2q16 x d a | q162f x d a | f2q31 x d a | q312f x d a =>
    exact comesBack_float x d a 0 _ (by simp)
  | ieq x d a b | ine x d a b | ilt x d a b | ige x d a b | iltu x d a b | igeu x d a b | feq x d a b | fne x d a b | flt x d a b
  | fle x d a b | fgt x d a b | fge x d a b =>
    exact comesBack_compare x d a b _ (by simp)
  | ieqi x d a imm | inei x d a imm | ilti x d a imm | igei x d a imm =>
    exact comesBack_compareImmediate x d a imm _ (by simp)
  | pand x d a b | por x d a b | pxor x d a b | pandn x d a b =>
    exact comesBack_predicate x d a b _ (by simp)
  | pnot x d a | pmov x d a =>
    exact comesBack_predicate x d a 0 _ (by simp)
  | shli x d a sh | shri x d a sh | srai x d a sh | roli x d a sh =>
    exact comesBack_shift x d a sh _ (by simp)
  | next_ x | brk x | end_ x =>
    exact comesBack_control x 0 _ (by simp)
  | trap x imm =>
    exact comesBack_control x imm _ (by simp)
  | timeTi x d hi | timeNow x d hi =>
    exact comesBack_time x d hi _ (by simp)
  | sigRd x d h ix | sigSt x d h ix | sigAge x d h ix =>
    exact comesBack_signal x d ix h _ (by simp)
  | lawStep x l =>
    exact comesBack_handle x l 0 _ (by simp)
  | outSw x l a | outPwm x l a =>
    exact comesBack_handle x l a _ (by simp)
  | outSolCur x l a | outSolProf x l a =>
    exact comesBack_solenoid x l a _ (by simp)
  | outSolRel x l =>
    exact comesBack_solenoid x l 0 _ (by simp)
  | bar x n => exact comesBack_bar x n
  | bobPush x d n a b => exact bobPush_comesBack x d n a b
  | bobPop x d n a b => exact bobPop_comesBack x d n a b
  | br x imm => exact br_comesBack hwf
  | loop x a imm => exact loop_comesBack hwf
  | sigWr x ix h st a => exact sigWr_comesBack hwf
  | bobPeek x d n sel => exact bobPeek_comesBack hwf
  | lawIn x l sel a => exact lawIn_comesBack hwf
  | lawOut x d l sel => exact lawOut_comesBack hwf
  -- the unordered comparison is left, whose name is a keyword of Lean; what follows it has no word
  | _ => exact fun w h => by cases h <;> exact unordered_comesBack _ _ _ _ _ rfl

end Sys2Proof.Machine
end

section
/-! PROOFS. Results of Tister instructions (R75, R115 to R123): the values behind the table's rows, then the rows. -/
namespace Sys2Proof.Machine
open Sys2Proof.Safety

/-! ### Integer values (R75, R115, R116) -/

theorem sat32_eq (i : Int) : sat32 i = BitVec.ofInt 32 (max (-2147483648) (min 2147483647 i)) := by
  unfold sat32 wordOf clampInt
  congr 1
  split
  · omega
  · split <;> omega

theorem sdiv_eq_ofInt (a b : Word) : BitVec.sdiv a b = if b = 0 then 0 else BitVec.ofInt 32 (a.toInt.tdiv b.toInt) := by
  have h : BitVec.sdiv a b = BitVec.ofInt 32 (a.toInt.tdiv b.toInt) := by
    apply BitVec.eq_of_toInt_eq
    rw [BitVec.toInt_sdiv, BitVec.toInt_ofInt]
  split
  · subst_vars; simp
  · exact h

theorem udiv_eq_ofNat (a b : Word) : a / b = if b = 0 then 0 else BitVec.ofNat 32 (a.toNat / b.toNat) := by
  split
  · subst_vars; simp
  · rw [← BitVec.toNat_udiv, BitVec.ofNat_toNat, BitVec.setWidth_eq]

/-- The remainder of the signed division, also where the quotient overflows. -/
theorem srem_eq_ofInt (a b : Word) : a - BitVec.sdiv a b * b = if b = 0 then a else BitVec.ofInt 32 (a.toInt.tmod b.toInt) := by
  split
  · subst_vars; simp
  · rename_i hb
    rw [sdiv_eq_ofInt, if_neg hb, Int.tmod_def, Int.sub_eq_add_neg, BitVec.ofInt_add, BitVec.ofInt_neg, BitVec.ofInt_mul,
      BitVec.ofInt_toInt, BitVec.ofInt_toInt, BitVec.sub_eq_add_neg, BitVec.mul_comm]

theorem urem_eq_ofNat (a b : Word) : a - a / b * b = if b = 0 then a else BitVec.ofNat 32 (a.toNat % b.toNat) := by
  split
  · subst_vars; simp
  · apply BitVec.eq_of_toNat_eq
    have hle := Nat.div_mul_le_self a.toNat b.toNat
    have hmod := Nat.mod_eq_sub_div_mul (x := a.toNat) (k := b.toNat)
    have hlt := a.isLt
    simp only [BitVec.toNat_sub, BitVec.toNat_mul, BitVec.toNat_udiv, BitVec.toNat_ofNat]
    omega

theorem sshiftRight_eq_ofInt (a : Word) (n : Nat) : a.sshiftRight n = BitVec.ofInt 32 (a.toInt / 2 ^ n) := by
  rw [BitVec.sshiftRight, Int.shiftRight_eq_div_pow]
  rfl

theorem rotateLeft_eq_or (a : Word) (n : Nat) (h : n < 32) : a.rotateLeft n = (a <<< n) ||| (a >>> (32 - n)) := by
  rw [BitVec.rotateLeft, Nat.mod_eq_of_lt h]; rfl

theorem cmpLt_eq (a b : Word) : cmpLt a b = decide (a.toInt < b.toInt) := rfl

theorem not_cmpLt (a b : Word) : (!cmpLt a b) = decide (b.toInt ≤ a.toInt) := by
  rw [cmpLt_eq, ← decide_not]
  exact decide_eq_decide.mpr Int.not_lt

theorem not_cmpLtu (a b : Word) : (!cmpLtu a b) = decide (b.toNat ≤ a.toNat) := by
  rw [cmpLtu, ← decide_not]
  exact decide_eq_decide.mpr Nat.not_lt

theorem smin_eq_ofInt (a b : Word) : (if cmpLt b a then b else a) = BitVec.ofInt 32 (min a.toInt b.toInt) := by
  rw [cmpLt_eq]
  split
  · rename_i h
    rw [min_eq_right (of_decide_eq_true h).le, BitVec.ofInt_toInt]
  · rename_i h
    rw [min_eq_left (by simpa using h), BitVec.ofInt_toInt]

theorem smax_eq_ofInt (a b : Word) : (if cmpLt a b then b else a) = BitVec.ofInt 32 (max a.toInt b.toInt) := by
  rw [cmpLt_eq]
  split
  · rename_i h
    rw [max_eq_right (of_decide_eq_true h).le, BitVec.ofInt_toInt]
  · rename_i h
    rw [max_eq_left (by simpa using h), BitVec.ofInt_toInt]

theorem umin_eq_ofNat (a b : Word) : (if cmpLtu b a then b else a) = BitVec.ofNat 32 (min a.toNat b.toNat) := by
  unfold cmpLtu
  split
  · rename_i h
    rw [min_eq_right (of_decide_eq_true h).le, BitVec.ofNat_toNat, BitVec.setWidth_eq]
  · rename_i h
    rw [min_eq_left (by simpa using h), BitVec.ofNat_toNat, BitVec.setWidth_eq]

theorem umax_eq_ofNat (a b : Word) : (if cmpLtu a b then b else a) = BitVec.ofNat 32 (max a.toNat b.toNat) := by
  unfold cmpLtu
  split
  · rename_i h
    rw [max_eq_right (of_decide_eq_true h).le, BitVec.ofNat_toNat, BitVec.setWidth_eq]
  · rename_i h
    rw [max_eq_left (by simpa using h), BitVec.ofNat_toNat, BitVec.setWidth_eq]

theorem amount_lt (b : Word) : amount b < 32 := Nat.mod_lt _ (by decide)

/-- Leading zeros among the low `n` bits, by the magnitude of what they spell. -/
theorem leadingZeros_eq (a : Word) (n : Nat) :
    leadingZeros a n = if a.toNat % 2 ^ n = 0 then n else n - 1 - (a.toNat % 2 ^ n).log2 := by
  induction n with
  | zero => simp [leadingZeros, Nat.mod_one]
  | succ n ih =>
    have hbit : bit a n = a.toNat.testBit n := rfl
    have hmod : a.toNat % 2 ^ (n + 1) = a.toNat % 2 ^ n + 2 ^ n * (a.toNat.testBit n).toNat := by
      rw [Nat.mod_pow_succ, Nat.toNat_testBit]
    have hlow : a.toNat % 2 ^ n < 2 ^ n := Nat.mod_lt _ (Nat.two_pow_pos n)
    rw [leadingZeros, hbit, hmod]
    cases a.toNat.testBit n with
    | true =>
      have hlog : (a.toNat % 2 ^ n + 2 ^ n * 1).log2 = n := by
        rw [Nat.log2_eq_iff (by omega), Nat.pow_succ]
        omega
      rw [if_pos rfl, Bool.toNat_true, hlog, if_neg (by have := Nat.two_pow_pos n; omega)]
      omega
    | false =>
      simp only [Bool.false_eq_true, if_false, ih, Bool.toNat_false, Nat.mul_zero, Nat.add_zero]
      split
      · rfl
      · rename_i h
        have hlog : (a.toNat % 2 ^ n).log2 < n := (Nat.log2_lt h).mpr hlow
        omega

theorem leadingZeros_word (a : Word) :
    BitVec.ofNat 32 (leadingZeros a 32) = if a = 0 then 32 else BitVec.ofNat 32 (31 - a.toNat.log2) := by
  have hzero : a = 0 ↔ a.toNat = 0 := by rw [← BitVec.toNat_inj]; rfl
  rw [leadingZeros_eq, Nat.mod_eq_of_lt a.isLt]
  simp only [hzero]
  split <;> rfl

theorem setBits_eq (a : Word) (n : Nat) : setBits a n = (List.range n).countP fun i => a.getLsbD i := by
  induction n with
  | zero => rfl
  | succ n ih =>
    rw [setBits, ih, List.range_succ, List.countP_append, List.countP_singleton, Nat.add_comm]
    rfl

/-! ### binary32 (R75, R119, R120) -/

/-- A NaN operand of an addition, a product or a quotient gives the canonical NaN. -/
theorem float_nan {a b : Word} (c : Word) (h : isNan a = true ∨ isNan b = true) :
    fadd a b = nan ∧ fsub a b = nan ∧ fmul a b = nan ∧ fdiv a b = nan ∧ ffma a b c = nan := by
  have hor : (isNan a || isNan b) = true := by simpa using h
  refine ⟨?add, ?sub, ?mul, ?div, ?fma⟩
  case add => rw [fadd, if_pos hor]
  case sub =>
    unfold fsub
    split
    · rfl
    · have ha : isNan a = true := h.resolve_right ‹_›
      rw [fadd, ha, Bool.true_or, if_pos rfl]
  case mul => simp only [fmul, hor, if_true]
  case div => simp only [fdiv, hor, if_true]
  case fma => simp only [ffma, hor, Bool.true_or, if_true]

/-! ### The rows of the table -/

theorem lo32_eq (t : BitVec 64) : lo32 t = t.extractLsb' 0 32 := by
  rw [lo32, BitVec.truncate_eq_setWidth, BitVec.setWidth_eq_extractLsb' (by decide)]

theorem hi32_eq (t : BitVec 64) : hi32 t = t.extractLsb' 32 32 := rfl

/-- A row of each shape: the instruction it names, what the shape computes, and what the row says it writes. -/
theorem row_intoG {i : Instr} {x : Slot} {l c : Nat} {d a b : GReg} {f : Word → Word → Word} {s : State} {y : Activation} {w : Word}
    (he : exec i s = intoG x l c d a b f s) (hw : f (y.getG a) (y.getG b) = w) (h : Runs x l c s y) (hp : y.getP x.p = true) :
    ∃ v, exec i s = .next v ∧ OnlyAct x.sp.val s v (went y c (withG y d w) y.preds) := by
  rw [he]; exact intoG_runs x l c d a b f s y w h hp hw

theorem row_intoG1 {i : Instr} {x : Slot} {l c : Nat} {d a : GReg} {f : Word → Word} {s : State} {y : Activation} {w : Word}
    (he : exec i s = intoG1 x l c d a f s) (hw : f (y.getG a) = w) (h : Runs x l c s y) (hp : y.getP x.p = true) :
    ∃ v, exec i s = .next v ∧ OnlyAct x.sp.val s v (went y c (withG y d w) y.preds) := by
  rw [he]; exact intoG1_runs x l c d a f s y w h hp hw

theorem row_intoP {i : Instr} {x : Slot} {l c : Nat} {d : PReg} {a b : GReg} {f : Word → Word → Bool} {s : State} {y : Activation}
    {w : Bool} (he : exec i s = intoP x l c d a b f s) (hw : f (y.getG a) (y.getG b) = w) (h : Runs x l c s y)
    (hp : y.getP x.p = true) : ∃ v, exec i s = .next v ∧ OnlyAct x.sp.val s v (went y c y.regs (withP y d w)) := by
  rw [he]; exact intoP_runs x l c d a b f s y w h hp hw

theorem row_intoPP {i : Instr} {x : Slot} {d a b : PReg} {f : Bool → Bool → Bool} {s : State} {y : Activation} {w : Bool}
    (he : exec i s = intoPP x d a b f s) (hw : f (y.getP a) (y.getP b) = w) (h : Runs x 1 1 s y) (hp : y.getP x.p = true) :
    ∃ v, exec i s = .next v ∧ OnlyAct x.sp.val s v (went y 1 y.regs (withP y d w)) := by
  rw [he]; exact intoPP_runs x d a b f s y w h hp hw

theorem row_setP {i : Instr} {x : Slot} {l c : Nat} {d : PReg} {f : Activation → Bool} {s : State} {y : Activation} {w : Bool}
    (he : exec i s = onRegs x l c (fun y => y.setP d (f y)) s) (hw : f { y with charged := y.charged + c } = w)
    (h : Runs x l c s y) (hp : y.getP x.p = true) :
    ∃ v, exec i s = .next v ∧ OnlyAct x.sp.val s v (went y c y.regs (withP y d w)) := by
  rw [he]; exact runP x l c d f s y w h hp hw

theorem row_setG {i : Instr} {x : Slot} {l c : Nat} {d : GReg} {f : Activation → Word} {s : State} {y : Activation} {w : Word}
    (he : exec i s = onRegs x l c (fun y => y.setG d (f y)) s) (hw : f { y with charged := y.charged + c } = w)
    (h : Runs x l c s y) (hp : y.getP x.p = true) :
    ∃ v, exec i s = .next v ∧ OnlyAct x.sp.val s v (went y c (withG y d w) y.preds) := by
  rw [he]; exact runG x l c d f s y w h hp hw

/-- Settles O22: each row runs as its shape does, and what the model computes is what the row says. -/
theorem integerAndFloatResults : Obligations.IntegerAndFloatResults := by
  refine ⟨?integer, ?float, fun A B C h => float_nan C h, fun k A h => by rw [f2fix, if_pos h]⟩
  case integer =>
    intro x d a b s y A B n sat
    simp only [List.forall_mem_cons]
    refine ⟨row_intoG (exec_add x d a b s) rfl,
      row_intoG (exec_sub x d a b s) rfl,
      row_intoG (exec_mul x d a b s) rfl,
      row_intoG (exec_mulh x d a b s) rfl,
      row_intoG (exec_mulhu x d a b s) rfl,
      row_intoG (exec_div x d a b s) (sdiv_eq_ofInt A B),
      row_intoG (exec_divu x d a b s) (udiv_eq_ofNat A B),
      row_intoG (exec_rem x d a b s) (srem_eq_ofInt A B),
      row_intoG (exec_remu x d a b s) (urem_eq_ofNat A B),
      row_intoG (exec_and_ x d a b s) rfl,
      row_intoG (exec_or_ x d a b s) rfl,
      row_intoG (exec_xor x d a b s) rfl,
      row_intoG (exec_andn x d a b s) rfl,
      row_intoG (exec_shl x d a b s) rfl,
      row_intoG (exec_shr x d a b s) rfl,
      row_intoG (exec_sra x d a b s) (sshiftRight_eq_ofInt A _),
      row_intoG (exec_rol x d a b s) (rotateLeft_eq_or A _ (amount_lt B)),
      row_intoG (exec_min x d a b s) (smin_eq_ofInt A B),
      row_intoG (exec_max x d a b s) (smax_eq_ofInt A B),
      row_intoG (exec_minu x d a b s) (umin_eq_ofNat A B),
      row_intoG (exec_maxu x d a b s) (umax_eq_ofNat A B),
      row_intoG (exec_qadd x d a b s) (sat32_eq _),
      row_intoG (exec_qsub x d a b s) (sat32_eq _),
      row_intoG (exec_qshl x d a b s) ((sat32_eq _).trans (by rw [Nat.cast_pow]; rfl)),
      List.forall_mem_nil _⟩
  case float =>
    intro x d a b s y A B
    simp only [List.forall_mem_cons]
    refine ⟨row_intoG (exec_fadd x d a b s) rfl,
      row_intoG (exec_fsub x d a b s) rfl,
      row_intoG (exec_fmul x d a b s) rfl,
      row_intoG (exec_fdiv x d a b s) rfl,
      row_intoG1 (exec_fsqrt x d a s) rfl,
      row_setG (exec_ffma x d a b s) rfl,
      row_intoG (exec_fmin x d a b s) rfl,
      row_intoG (exec_fmax x d a b s) rfl,
      row_intoG1 (exec_fabs x d a s) rfl,
      row_intoG1 (exec_fneg x d a s) rfl,
      row_intoG1 (exec_f2i x d a s) rfl,
      row_intoG1 (exec_i2f x d a s) rfl,
      row_intoG1 (exec_f2q16 x d a s) rfl,
      row_intoG1 (exec_q162f x d a s) rfl,
      row_intoG1 (exec_f2q31 x d a s) rfl,
      row_intoG1 (exec_q312f x d a s) rfl,
      List.forall_mem_nil _⟩

/-- Settles O23: the same for the other shapes. -/
theorem oneOperandAndCompareResults : Obligations.OneOperandAndCompareResults := by
  refine ⟨?unary, ?compare⟩
  case unary =>
    intro x d a b imm sh s y A B sat
    simp only [List.forall_mem_cons]
    refine ⟨row_intoG1 (exec_clz x d a s) (leadingZeros_word A),
      row_intoG1 (exec_popc x d a s) (congrArg (BitVec.ofNat 32) (setBits_eq A 32)),
      row_intoG1 (exec_addi x d a imm s) rfl,
      row_intoG1 (exec_andi x d a imm s) rfl,
      row_intoG1 (exec_ori x d a imm s) rfl,
      row_intoG1 (exec_xori x d a imm s) rfl,
      row_intoG1 (exec_shli x d a sh s) rfl,
      row_intoG1 (exec_shri x d a sh s) rfl,
      row_intoG1 (exec_srai x d a sh s) (sshiftRight_eq_ofInt A _),
      row_intoG1 (exec_roli x d a sh s) (rotateLeft_eq_or A _ sh.isLt),
      row_intoG1 (exec_movi x d imm s) rfl,
      row_intoG1 (exec_qneg x d a s) (sat32_eq _),
      row_intoG1 (exec_qabs x d a s) (sat32_eq _),
      row_intoG (exec_qmul16 x d a b s) (sat32_eq _),
      row_intoG (exec_qmul31 x d a b s) (sat32_eq _),
      row_setG (exec_timeTi x d true s) (hi32_eq y.ti),
      row_setG (exec_timeTi x d false s) (lo32_eq y.ti),
      List.forall_mem_nil _⟩
  case compare =>
    intro x d a b imm s y A B I
    simp only [List.forall_mem_cons]
    refine ⟨row_intoP (exec_ieq x d a b s) rfl,
      row_intoP (exec_ine x d a b s) rfl,
      row_intoP (exec_ilt x d a b s) rfl,
      row_intoP (exec_ige x d a b s) (not_cmpLt A B),
      row_intoP (exec_iltu x d a b s) rfl,
      row_intoP (exec_igeu x d a b s) (not_cmpLtu A B),
      row_setP (exec_ieqi x d a imm s) rfl,
      row_setP (exec_inei x d a imm s) rfl,
      row_setP (exec_ilti x d a imm s) rfl,
      row_setP (exec_igei x d a imm s) (not_cmpLt A I),
      row_intoP (exec_feq x d a b s) rfl,
      row_intoP (exec_fne x d a b s) rfl,
      row_intoP (exec_flt x d a b s) rfl,
      row_intoP (exec_fle x d a b s) rfl,
      row_intoP (exec_fgt x d a b s) rfl,
      row_intoP (exec_fge x d a b s) rfl,
      row_intoP (exec_fun x d a b s) rfl,
      List.forall_mem_nil _⟩

/-- Settles O24: each row combines what its operands read as. -/
theorem predicateLogic : Obligations.PredicateLogic := by
  intro x d a b s y A B
  simp only [List.forall_mem_cons]
  refine ⟨row_intoPP (exec_pand x d a b s) rfl,
    row_intoPP (exec_por x d a b s) rfl,
    row_intoPP (exec_pxor x d a b s) rfl,
    row_intoPP (exec_pandn x d a b s) rfl,
    row_intoPP (exec_pnot x d a s) rfl,
    row_intoPP (exec_pmov x d a s) rfl,
    List.forall_mem_nil _⟩

end Sys2Proof.Machine
end

section
/-! PROOFS. Memory, control flow, the end of an activation, traps and waits (R74, R77, R78, R81, R84, R86, R87, R90, R112, R113, R124 to
R128, R137, R138). -/
namespace Sys2Proof.Machine
open Sys2Proof.Safety

/-! ### Loads and stores (R77, R78, R128) -/

@[simp] theorem address_charged (y : Activation) (c : Nat) (a : GReg) (imm : BitVec 13) :
    Activation.address { y with charged := c } a imm = y.address a imm := rfl

theorem loadInto_runs {x : Slot} {n : Nat} {d a : GReg} {imm : BitVec 13} {ext : Nat → Word} {s : State} {y : Activation}
    (h : Runs x 1 2 s y) (hp : y.getP x.p = true) (hr : mayRead (cop s) (declOf s y.task) (y.address a imm).toNat n = true)
    (ha : (y.address a imm).toNat % n = 0) :
    ∃ v, loadInto x n d a imm ext s = .next v ∧
      OnlyAct x.sp.val s v (went y 2 (withG y d (ext (ofBytes (readBytes s x.sp.val (y.address a imm).toNat n)))) y.preds) := by
  have hrun : loadInto x n d a imm ext s = .next (setAct x.sp.val
      (Activation.setG d (ext (ofBytes (readBytes s x.sp.val (y.address a imm).toNat n))) { y with charged := y.charged + 2 }).step s) := by
    unfold loadInto
    rw [onSpindle_runs x 1 2 true _ s y h rfl hp]
    simp [hr, ha]
  exact ⟨_, hrun, by rw [went_setG]; exact onlyAct_setAct _ _ _⟩

theorem storeFrom_runs {x : Slot} {n : Nat} {b a : GReg} {imm : BitVec 13} {s : State} {y : Activation}
    (h : Runs x 1 1 s y) (hp : y.getP x.p = true) (hw : mayWrite (declOf s y.task) (y.address a imm).toNat n = true)
    (ha : (y.address a imm).toNat % n = 0) :
    storeFrom x n b a imm s = .next (setAct x.sp.val (went y 1 y.regs y.preds)
      (writeBytes x.sp.val (y.address a imm).toNat (bytesOf n (y.getG b).toNat) s)) := by
  unfold storeFrom
  rw [onSpindle_runs x 1 1 true _ s y h rfl hp]
  simp [hw, ha, went, Activation.step]

theorem bytesOf_length (k v : Nat) : (bytesOf k v).length = k := by
  induction k generalizing v with
  | zero => rfl
  | succ k ih => simp [bytesOf, ih]

theorem bytesOf_getElem (k v i : Nat) (h : i < (bytesOf k v).length) : (bytesOf k v)[i] = BitVec.ofNat 8 (v / 256 ^ i) := by
  induction k generalizing v i with
  | zero => simp [bytesOf] at h
  | succ k ih =>
    cases i with
    | zero => simp [bytesOf]
    | succ i => simp only [bytesOf, List.getElem_cons_succ, ih, Nat.div_div_eq_div_mul, Nat.pow_succ']

theorem bytesOf_word_getElem (k i : Nat) (w : Word) (h : i < (bytesOf k w.toNat).length) :
    (bytesOf k w.toNat)[i] = w.extractLsb' (8 * i) 8 := by
  rw [bytesOf_getElem]
  apply BitVec.eq_of_toNat_eq
  rw [BitVec.toNat_ofNat, BitVec.extractLsb'_toNat, Nat.shiftRight_eq_div_pow, Nat.pow_mul]

/-- What a store leaves: its bytes, every other byte, the activation and nothing else. -/
theorem store_spec {sp n addr : Nat} {w : Word} {y : Activation} {s v : State}
    (hv : v = setAct sp y (writeBytes sp addr (bytesOf n w.toNat) s)) :
    v = { s with core := { s.core with acts := v.core.acts, sram := v.core.sram } } ∧ SMap.find v.core.acts sp = some y ∧
      (∀ m, m ≠ sp → SMap.find v.core.acts m = SMap.find s.core.acts m) ∧
      (∀ i, i < n → readByte v sp (addr + i) = w.extractLsb' (8 * i) 8) ∧
      (∀ q a, (∀ i, i < n → memKey q a ≠ memKey sp (addr + i)) → readByte v q a = readByte s q a) := by
  subst hv
  refine ⟨rfl, find_setAct _ _ _, fun m hm => find_setAct_ne _ _ _ _ hm, fun i hi => ?_, fun q a h => ?_⟩
  · have hlen : i < (bytesOf n w.toNat).length := by rwa [bytesOf_length]
    exact (readByte_writeBytes_in sp addr i _ s hlen).trans (bytesOf_word_getElem n i w hlen)
  · exact readByte_writeBytes_ne fun i hi => h i (by rwa [bytesOf_length] at hi)

theorem ofBytes_readBytes_one (s : State) (sp addr : Nat) : ofBytes (readBytes s sp addr 1) = (readByte s sp addr).toNat := by
  simp [readBytes, ofBytes]

theorem ofBytes_readBytes_two (s : State) (sp addr : Nat) : ofBytes (readBytes s sp addr 2) =
    (readByte s sp addr).toNat + 256 * (readByte s sp (addr + 1)).toNat := by
  simp [readBytes, ofBytes]

theorem ofBytes_readBytes_four (s : State) (sp addr : Nat) : ofBytes (readBytes s sp addr 4) =
    (readByte s sp addr).toNat + 256 * (readByte s sp (addr + 1)).toNat + 65536 * (readByte s sp (addr + 2)).toNat +
      16777216 * (readByte s sp (addr + 3)).toNat := by
  simp only [readBytes, ofBytes]
  ring_nf

theorem row_load {i : Instr} {x : Slot} {n : Nat} {d a : GReg} {imm : BitVec 13} {ext : Nat → Word} {s : State} {y : Activation}
    {w : Word} (he : exec i s = loadInto x n d a imm ext s)
    (hw : ext (ofBytes (readBytes s x.sp.val (y.getG a + imm.signExtend 32).toNat n)) = w) (h : Runs x 1 2 s y)
    (hp : y.getP x.p = true) (hr : mayRead (cop s) (declOf s y.task) (y.getG a + imm.signExtend 32).toNat n = true)
    (ha : (y.getG a + imm.signExtend 32).toNat % n = 0) :
    ∃ v, exec i s = .next v ∧ OnlyAct x.sp.val s v (went y 2 (withG y d w) y.preds) := by
  rw [he, ← hw]
  exact loadInto_runs h hp hr ha

theorem row_store {i : Instr} {x : Slot} {n : Nat} {b a : GReg} {imm : BitVec 13} {s : State} {y : Activation}
    (he : exec i s = storeFrom x n b a imm s) (h : Runs x 1 1 s y)
    (hp : y.getP x.p = true) (hw : mayWrite (declOf s y.task) (y.getG a + imm.signExtend 32).toNat n = true)
    (ha : (y.getG a + imm.signExtend 32).toNat % n = 0) :
    ∃ v, exec i s = .next v ∧ v = { s with core := { s.core with acts := v.core.acts, sram := v.core.sram } } ∧
      SMap.find v.core.acts x.sp.val = some (went y 1 y.regs y.preds) ∧
      (∀ m, m ≠ x.sp.val → SMap.find v.core.acts m = SMap.find s.core.acts m) ∧
      (∀ i, i < n → readByte v x.sp.val ((y.getG a + imm.signExtend 32).toNat + i) = (y.getG b).extractLsb' (8 * i) 8) ∧
      (∀ q k, (∀ i, i < n → memKey q k ≠ memKey x.sp.val ((y.getG a + imm.signExtend 32).toNat + i)) →
        readByte v q k = readByte s q k) := by
  rw [he]
  exact ⟨_, storeFrom_runs h hp hw ha, store_spec rfl⟩

theorem ldc_runs {x : Slot} {d : GReg} {imm : BitVec 13} {s : State} {y : Activation} (h : Runs x 1 2 s y) (hp : y.getP x.p = true)
    (hi : imm.toNat < (image (cop s) (declOf s y.task).spindle).consts.length) :
    ∃ v, exec (.ldc x d imm) s = .next v ∧ OnlyAct x.sp.val s v (went y 2 (withG y d (BitVec.ofNat 32 (ofBytes
      (readBytes s x.sp.val ((image (cop s) (declOf s y.task).spindle).constBase + 4 * imm.toNat) 4)))) y.preds) := by
  have hrun : exec (.ldc x d imm) s = .next (setAct x.sp.val (Activation.setG d (BitVec.ofNat 32 (ofBytes (readBytes s x.sp.val
      ((image (cop s) (declOf s y.task).spindle).constBase + 4 * imm.toNat) 4))) { y with charged := y.charged + 2 }).step s) := by
    rw [exec_ldc, execLdc, onSpindle_runs x 1 2 true _ s y h rfl hp]
    simp [Nat.not_le.mpr hi]
  exact ⟨_, hrun, by rw [went_setG]; exact onlyAct_setAct _ _ _⟩

/-- Settles O25: each row is a load or a store of its width. -/
theorem loadsAndStores : Obligations.LoadsAndStores := by
  refine ⟨⟨?load, ?const⟩, ?store⟩
  case load =>
    intro x d a imm s y addr B
    simp only [List.forall_mem_cons]
    exact ⟨row_load (exec_ldw x d a imm s) (congrArg _ (ofBytes_readBytes_four s _ _)),
      row_load (exec_ldh x d a imm s) (congrArg (fun k => (BitVec.ofNat 16 k).signExtend 32) (ofBytes_readBytes_two s _ _)),
      row_load (exec_ldhu x d a imm s) (congrArg (fun k => (BitVec.ofNat 16 k).zeroExtend 32) (ofBytes_readBytes_two s _ _)),
      row_load (exec_ldb x d a imm s) (congrArg (fun k => (BitVec.ofNat 8 k).signExtend 32) (ofBytes_readBytes_one s _ _)),
      row_load (exec_ldbu x d a imm s) (congrArg (fun k => (BitVec.ofNat 8 k).zeroExtend 32) (ofBytes_readBytes_one s _ _)),
      List.forall_mem_nil _⟩
  case const =>
    intro x d imm s y im B h hp hi
    have hword : BitVec.ofNat 32 (ofBytes (readBytes s x.sp.val (im.constBase + 4 * imm.toNat) 4)) =
      BitVec.ofNat 32 (B 0 + 256 * B 1 + 65536 * B 2 + 16777216 * B 3) := congrArg _ (ofBytes_readBytes_four s _ _)
    rw [← hword]
    exact ldc_runs h hp hi
  case store =>
    intro x b a imm s y addr
    simp only [List.forall_mem_cons]
    exact ⟨row_store (exec_stw x b a imm s), row_store (exec_sth x b a imm s), row_store (exec_stb x b a imm s),
      List.forall_mem_nil _⟩

/-! ### Control flow (R124 to R126) -/

theorem row_act {i : Instr} {x : Slot} {s : State} {y : Activation} (he : exec i s = .next (setAct x.sp.val y s)) :
    ∃ v, exec i s = .next v ∧ OnlyAct x.sp.val s v y := ⟨_, he, onlyAct_setAct _ _ _⟩

theorem br_runs {x : Slot} {imm : BitVec 13} {s : State} {y : Activation} (hi : imm ≠ 0) (h : Runs x 1 2 s y)
    (hp : y.getP x.p = true) :
    exec (.br x imm) s = .next (setAct x.sp.val { y with charged := y.charged + 2, pc := y.pc + imm.zeroExtend 14 } s) :=
  onSpindle_runs x 1 2 _ (fun y s => setAct x.sp.val { y with pc := y.pc + imm.zeroExtend 14 } s) s y h (decide_eq_true hi) hp

/-- A loop instruction that finds its next: charged, guarded true and within its maximum, it counts. -/
theorem loop_runs {x : Slot} {a : GReg} {imm : BitVec 13} {e : BitVec 14} {s : State} {y : Activation} (h : Runs x 1 2 s y)
    (hp : y.getP x.p = true) (he : loopEnd (image (cop s) x.sp.val).code y.pc = some e) (himm : a = 0 ∨ imm ≠ 0) :
    exec (.loop x a imm) s = .next (
      let count := if a = 0 then imm.toNat else (y.getG a).toNat
      let y' := { y with charged := y.charged + 2 }
      if a ≠ 0 && imm.toNat < count then trap x.sp.val 4 [] y' s
      else if count = 0 then setAct x.sp.val { y' with pc := e + 1 } s
      else setAct x.sp.val { y' with loops := { start := y.pc, next := e, left := count } :: y.loops, pc := y.pc + 1 } s) := by
  obtain ⟨hact, hwait, -, hbudget⟩ := h
  have hdefined : (decide (a ≠ 0) && decide (imm = 0)) = false := by
    rcases himm with rfl | hne <;> simp_all
  rw [exec_loop, execLoop]
  simp only [hact, he]
  rw [if_neg (by simp [hwait]), hdefined, if_neg Bool.false_ne_true, if_neg (Nat.not_lt.mpr hbudget), getP_charged, hp,
    if_neg (by decide)]
  rfl

theorem loop_in_bound {a : GReg} {imm : BitVec 13} {y : Activation}
    (h : a = 0 ∨ (if a = 0 then imm.toNat else (y.getG a).toNat) ≤ imm.toNat) :
    (decide (a ≠ 0) && decide (imm.toNat < if a = 0 then imm.toNat else (y.getG a).toNat)) = false := by
  rcases h with rfl | h
  · rfl
  · rw [decide_eq_false (Nat.not_lt.mpr h), Bool.and_false]

theorem next_leaves {x : Slot} {f : LoopFrame} {r : List LoopFrame} {s : State} {y : Activation} (hl : y.loops = f :: r)
    (hleft : f.left ≤ 1) (h : Runs x 1 0 s y) (hp : y.getP x.p = true) :
    exec (.next_ x) s = .next (setAct x.sp.val { y with loops := r, pc := y.pc + 1 } s) := by
  rw [exec_next_, execNext, onSpindle_runs x 1 0 true _ s y h rfl hp]
  simp [hl, hleft, Activation.step]

theorem next_iterates {x : Slot} {f : LoopFrame} {r : List LoopFrame} {s : State} {y : Activation} (hl : y.loops = f :: r)
    (hleft : 1 < f.left) (h : Runs x 1 2 s y) (hp : y.getP x.p = true) :
    exec (.next_ x) s = .next (setAct x.sp.val { y with
      charged := y.charged + 2, loops := { f with left := f.left - 1 } :: r, pc := f.start + 1 } s) := by
  obtain ⟨hact, hwait, hlevel, hbudget⟩ := h
  rw [exec_next_, execNext, onSpindle_runs x 1 0 true _ s y ⟨hact, hwait, hlevel, by omega⟩ rfl hp]
  simp [hl, Nat.not_le.mpr hleft, Nat.not_lt.mpr hbudget]

theorem brk_runs {x : Slot} {f : LoopFrame} {r : List LoopFrame} {s : State} {y : Activation} (hl : y.loops = f :: r)
    (h : Runs x 1 2 s y) (hp : y.getP x.p = true) :
    exec (.brk x) s = .next (setAct x.sp.val { y with charged := y.charged + 2, loops := r, pc := f.next + 1 } s) := by
  rw [exec_brk, execBrk, onSpindle_runs x 1 2 true _ s y h rfl hp]
  simp [hl]

/-- A row whose guard is false (R90). -/
theorem row_skips {i : Instr} {x : Slot} {l c : Nat} {s : State} {y : Activation}
    (he : ∃ f, exec i s = onSpindle x l c true f s) (hp : y.getP x.p = false) (h : Runs x l c s y) :
    ∃ v, exec i s = .next v ∧ OnlyAct x.sp.val s v { y with charged := y.charged + c, pc := y.pc + 1 } :=
  he.elim fun f he => row_act (he.trans (onSpindle_skips x l c true f s y h rfl hp))

/-! Every shape of an instruction stands in the one frame that looks at the guard. -/

section
variable {i : Instr} {x : Slot} {l c : Nat} {d a b : GReg} {p q r : PReg} {imm : BitVec 13} {s : State}

theorem intoG_frame {g : Word → Word → Word} (he : exec i s = intoG x l c d a b g s) :
    ∃ f, exec i s = onSpindle x l c true f s := ⟨_, he.trans (by unfold intoG onRegs; rfl)⟩

theorem intoG1_frame {g : Word → Word} (he : exec i s = intoG1 x l c d a g s) :
    ∃ f, exec i s = onSpindle x l c true f s := ⟨_, he.trans (by unfold intoG1 onRegs; rfl)⟩

theorem intoP_frame {g : Word → Word → Bool} (he : exec i s = intoP x l c p a b g s) :
    ∃ f, exec i s = onSpindle x l c true f s := ⟨_, he.trans (by unfold intoP onRegs; rfl)⟩

theorem intoPP_frame {g : Bool → Bool → Bool} (he : exec i s = intoPP x p q r g s) :
    ∃ f, exec i s = onSpindle x 1 1 true f s := ⟨_, he.trans (by unfold intoPP onRegs; rfl)⟩

theorem loadInto_frame {n : Nat} {ext : Nat → Word} (he : exec i s = loadInto x n d a imm ext s) :
    ∃ f, exec i s = onSpindle x 1 2 true f s := ⟨_, he.trans (by unfold loadInto; rfl)⟩

theorem storeFrom_frame {n : Nat} (he : exec i s = storeFrom x n b a imm s) :
    ∃ f, exec i s = onSpindle x 1 1 true f s := ⟨_, he.trans (by unfold storeFrom; rfl)⟩

theorem readInto_frame {h : Byte} {sel : Nat} (he : exec i s = readInto x l d h a sel s) :
    ∃ f, exec i s = onSpindle x l 20 true f s := ⟨_, he.trans (by unfold readInto; rfl)⟩

end

/-- Settles O26: each instruction as its rule says, and the frame's own case for a false guard. -/
theorem controlFlowAndGuards : Obligations.ControlFlowAndGuards := by
  refine ⟨fun x s y hp => ⟨?br, ?loop, ?body⟩, ?skips⟩
  case br => exact fun imm hi h => row_act (br_runs hi h hp)
  case loop =>
    intro a imm e n h he himm hmax
    have hrun := loop_runs h hp he himm
    simp only [loop_in_bound hmax, Bool.false_eq_true, if_false] at hrun
    refine ⟨fun hn => ?_, fun hn => ?_⟩
    · rw [if_pos hn] at hrun; exact row_act hrun
    · rw [if_neg hn] at hrun; exact row_act hrun
  case body =>
    exact fun f r hl => ⟨fun hleft h => row_act (next_leaves hl hleft h hp), fun hleft h => row_act (next_iterates hl hleft h hp),
      fun h => row_act (brk_runs hl h hp)⟩
  case skips =>
    intro x d a b p imm h l n s y hp
    simp only [List.forall_mem_cons]
    exact ⟨row_skips (intoG_frame (exec_add x d a b s)) hp, row_skips (intoG_frame (exec_div x d a b s)) hp,
      row_skips (intoG_frame (exec_fadd x d a b s)) hp, row_skips (intoP_frame (exec_ieq x p a b s)) hp,
      row_skips (intoPP_frame (exec_pand x p p p s)) hp, row_skips (intoG1_frame (exec_addi x d a imm s)) hp,
      row_skips (loadInto_frame (exec_ldw x d a imm s)) hp, row_skips (storeFrom_frame (exec_stw x d a imm s)) hp,
      row_skips ⟨_, exec_end_ x s⟩ hp, row_skips ⟨_, exec_trap x imm s⟩ hp, row_skips ⟨_, exec_bar x n s⟩ hp,
      row_skips ⟨_, exec_brk x s⟩ hp, row_skips (readInto_frame (exec_sigRd x d h a s)) hp,
      row_skips ⟨_, exec_bobPop x d n a b s⟩ hp, row_skips ⟨_, exec_timeNow x d true s⟩ hp, List.forall_mem_nil _⟩

/-! ### The end of an activation, and traps (R81, R86, R87, R113, R127) -/

theorem finish_frame (sp : Nat) (a : Activation) (s : State) : finish sp a s =
    { s with
      core := (finish sp a s).core, counters := (finish sp a s).counters, skein := (finish sp a s).skein
      upd := (finish sp a s).upd } := by
  apply State.eq_of_parts <;> simp

theorem taskOf_finish_same (sp : Nat) (a : Activation) (s : State) :
    (taskOf (finish sp a s) a.task).pending = (taskOf s a.task).pending.tail ∧
      (taskOf (finish sp a s) a.task).doneTi = some a.ti ∧
      (taskOf (finish sp a s) a.task).stopped = (taskOf s a.task).stopped ∧
      (taskOf (finish sp a s) a.task).maxResp =
        if (taskOf s a.task).maxResp.toNat < s.sun.time.toNat - a.ti.toNat then hold32 (s.sun.time.toNat - a.ti.toNat)
        else (taskOf s a.task).maxResp := by
  have hcore := (finish_spec sp a s).1
  unfold taskOf at *
  rw [hcore]
  simp only [SMap.get_put_same, and_self]

theorem taskOf_finish_ne (sp : Nat) (a : Activation) (s : State) {n : Nat} (h : n ≠ a.task) :
    taskOf (finish sp a s) n = taskOf s n := by
  have hcore := (finish_spec sp a s).1
  unfold taskOf at *
  rw [hcore, SMap.get_put_ne _ _ _ h]

theorem find_finish_same (sp : Nat) (a : Activation) (s : State) : SMap.find (finish sp a s).core.acts sp = none := by
  rw [(finish_spec sp a s).1]; exact SMap.find_drop_same _ _

theorem find_finish_ne (sp : Nat) (a : Activation) (s : State) {n : Nat} (h : n ≠ sp) :
    SMap.find (finish sp a s).core.acts n = SMap.find s.core.acts n := by
  rw [(finish_spec sp a s).1]; exact SMap.find_drop_ne _ h

/-- SPN_DLMISS counts a completion past the deadline. -/
theorem counter_finish (sp : Nat) (a : Activation) (s : State) : counter (finish sp a s) 0x00080010 0 =
    if (declOf s a.task).deadlineUs * 1000 < s.sun.time.toNat - a.ti.toNat then (counter s 0x00080010 0).inc.1
    else counter s 0x00080010 0 := by
  have hcounters := (finish_spec sp a s).2
  unfold counter at *
  rw [hcounters]
  split
  · exact counter_bump 0x00080010 0 s
  · rfl

/-- The counter of traps is none that the end of an activation touches. -/
theorem counter_finish_traps (sp : Nat) (a : Activation) (s : State) :
    counter (finish sp a s) 0x00080018 0 = counter s 0x00080018 0 := by
  have hcounters := (finish_spec sp a s).2
  unfold counter at *
  rw [hcounters]
  split
  · exact counter_bump_ne 0x00080010 0 0x00080018 0 s (by decide)
  · rfl

/-- SPN_LAST_TRAP: cause, task and pc side by side. -/
theorem lastTrap_eq (cause n : Nat) (pc : BitVec 14) (h : n < 16384) :
    at32 cause 28 ||| at32 n 14 ||| pc.zeroExtend 32 = (BitVec.ofNat 4 cause ++ BitVec.ofNat 14 n ++ pc : Word) := by
  apply BitVec.eq_of_getLsbD_eq
  intro i hi
  simp only [at32, BitVec.getLsbD_or, BitVec.getLsbD_shiftLeft, BitVec.getLsbD_ofNat, BitVec.getLsbD_append, BitVec.zeroExtend_eq_setWidth,
    BitVec.getLsbD_setWidth]
  by_cases h14 : i < 14
  · simp [h14, hi, show i < 28 by omega]
  · have hpc : pc.getLsbD i = false := BitVec.getLsbD_of_ge _ _ (by omega)
    by_cases h28 : i < 28
    · simp [h14, h28, hi, hpc, show i - 14 < 32 by omega, show i - 14 < 14 by omega]
    · have hn : n.testBit (i - 14) = false :=
        Nat.testBit_lt_two_pow (lt_of_lt_of_le h (Nat.pow_le_pow_right (n := 2) (i := 14) (by decide) (by omega)))
      simp [h14, h28, hi, hpc, hn, show ¬ i - 14 < 14 by omega, show i - 14 - 14 = i - 28 by omega, show i - 28 < 32 by omega,
        show i - 28 < 4 by omega]

/-- What a trap leaves of the Spindle, the registers, the records and the task. -/
structure Trapped (sp cause : Nat) (args : List Word) (y : Activation) (s v : State) : Prop where
  free : SMap.find v.core.acts sp = none
  others : ∀ n, n ≠ sp → SMap.find v.core.acts n = SMap.find s.core.acts n
  shown : v.core.lastTrap = at32 cause 28 ||| at32 y.task 14 ||| y.pc.zeroExtend 32
  counted : counter v 0x00080018 0 = (counter s 0x00080018 0).inc.1
  recorded : ∃ r ∈ v.skein.raised, r.sev = .error ∧ r.source = 8 ∧ r.code = 0x18 ∧
    r.args = [BitVec.ofNat 32 y.task, BitVec.ofNat 32 cause, y.pc.zeroExtend 32, lo32 y.ti, hi32 y.ti] ++ args
  stopped : (taskOf v y.task).stopped = ((taskOf s y.task).stopped || (declOf s y.task).onTrapStop)
  discarded : (declOf s y.task).onTrapStop = true → (taskOf v y.task).pending = []
  frame : v = { s with core := v.core, counters := v.counters, skein := v.skein, upd := v.upd }

theorem declOf_trapSeen (cause : Nat) (args : List Word) (a : Activation) (s : State) (n : Nat) :
    declOf (trapSeen cause args a s) n = declOf s n := declOf_congr _ _ _ (by simp [trapSeen])

theorem taskOf_trapSeen (cause : Nat) (args : List Word) (a : Activation) (s : State) (n : Nat) :
    taskOf (trapSeen cause args a s) n = taskOf s n := by
  unfold taskOf; rw [trapSeen_core]

/-- What the end of a trapped activation leaves, before its task stops. -/
theorem finish_trapSeen (sp cause : Nat) (args : List Word) (a : Activation) (s : State) :
    let v := finish sp a (trapSeen cause args a s)
    SMap.find v.core.acts sp = none ∧ (∀ n, n ≠ sp → SMap.find v.core.acts n = SMap.find s.core.acts n) ∧
      v.core.lastTrap = at32 cause 28 ||| at32 a.task 14 ||| a.pc.zeroExtend 32 ∧
      counter v 0x00080018 0 = (counter s 0x00080018 0).inc.1 ∧
      (∃ r ∈ v.skein.raised, r.sev = .error ∧ r.source = 8 ∧ r.code = 0x18 ∧
        r.args = [BitVec.ofNat 32 a.task, BitVec.ofNat 32 cause, a.pc.zeroExtend 32, lo32 a.ti, hi32 a.ti] ++ args) ∧
      (taskOf v a.task).stopped = (taskOf s a.task).stopped ∧
      v = { s with core := v.core, counters := v.counters, skein := v.skein, upd := v.upd } := by
  intro v
  have hcore := trapSeen_core cause args a s
  refine ⟨find_finish_same _ _ _, fun n hn => ?_, ?_, ?_, ?_, ?_, ?_⟩
  · rw [find_finish_ne _ _ _ hn, hcore]
  · show (finish sp a (trapSeen cause args a s)).core.lastTrap = _
    rw [(finish_spec sp a (trapSeen cause args a s)).1, hcore]
  · rw [counter_finish_traps, counter, trapSeen_counters]
    exact counter_bump 0x00080018 0 s
  · obtain ⟨r, hmem, hr⟩ := trapSeen_mem cause args a s
    exact ⟨r, finish_mem _ _ _ _ hmem, hr⟩
  · rw [(taskOf_finish_same sp a (trapSeen cause args a s)).2.2.1, taskOf_trapSeen]
  · apply State.eq_of_parts <;> simp [v, trapSeen]

/-- A trap where no other activation waits at a barrier. -/
theorem trap_spec (sp cause : Nat) (args : List Word) (a : Activation) (s : State)
    (h : ∀ e ∈ s.core.acts, ∀ g, e.2.wait ≠ some (.barrier g)) : Trapped sp cause args a s (trap sp cause args a s) := by
  obtain ⟨hfree, hothers, hshown, hcounted, hrecorded, hstopped, hframe⟩ := finish_trapSeen sp cause args a s
  rw [trap_alone sp cause args a s h, trapOne_eq]
  by_cases hstop : (declOf s a.task).onTrapStop = true
  · rw [if_pos hstop]
    have hcore := congrArg State.core (stopTask_spec a.task (finish sp a (trapSeen cause args a s)))
    refine ⟨?_, ?_, ?_, ?_, ?_, ?_, fun _ => ?_, ?_⟩
    · rw [hcore]; exact hfree
    · rw [hcore]; exact hothers
    · rw [hcore]; exact hshown
    · simpa [counter] using hcounted
    · simpa using hrecorded
    · rw [taskOf, hcore, SMap.get_put_same, hstop, Bool.or_true]
    · rw [taskOf, hcore, SMap.get_put_same]
    · apply State.eq_of_parts <;> simp [trapSeen]
  · rw [if_neg hstop]
    exact ⟨hfree, hothers, hshown, hcounted, hrecorded, by simpa [hstop] using hstopped, fun h => absurd h hstop, hframe⟩

/-- The same for the activation with its charge taken, and the register's three fields. -/
theorem Trapped.unpack {sp cause c : Nat} {args : List Word} {y : Activation} {s v : State} (hn : y.task < 16384)
    (h : Trapped sp cause args { y with charged := c } s v) :
    SMap.find v.core.acts sp = none ∧ (∀ n, n ≠ sp → SMap.find v.core.acts n = SMap.find s.core.acts n) ∧
      v.core.lastTrap = (BitVec.ofNat 4 cause ++ BitVec.ofNat 14 y.task ++ y.pc : Word) ∧
      counter v 0x00080018 0 = (counter s 0x00080018 0).inc.1 ∧
      (∃ r ∈ v.skein.raised, r.sev = .error ∧ r.source = 8 ∧ r.code = 0x18 ∧
        r.args = [BitVec.ofNat 32 y.task, BitVec.ofNat 32 cause, y.pc.zeroExtend 32, lo32 y.ti, hi32 y.ti] ++ args) ∧
      (taskOf v y.task).stopped = ((taskOf s y.task).stopped || (declOf s y.task).onTrapStop) ∧
      ((declOf s y.task).onTrapStop = true → (taskOf v y.task).pending = []) ∧
      v = { s with core := v.core, counters := v.counters, skein := v.skein, upd := v.upd } :=
  ⟨h.free, h.others, h.shown.trans (lastTrap_eq cause y.task y.pc hn), h.counted, h.recorded, h.stopped, h.discarded, h.frame⟩

theorem end_spec {x : Slot} {s : State} {y : Activation} (h : Runs x 1 1 s y) (hp : y.getP x.p = true) :
    let d := declOf s y.task
    let resp := s.sun.time.toNat - y.ti.toNat
    ∃ v, exec (.end_ x) s = .next v ∧
       SMap.find v.core.acts x.sp.val = none ∧ (∀ n, n ≠ x.sp.val → SMap.find v.core.acts n = SMap.find s.core.acts n) ∧
       (taskOf v y.task).pending = (taskOf s y.task).pending.tail ∧ (taskOf v y.task).doneTi = some y.ti ∧
       (taskOf v y.task).maxResp = (if (taskOf s y.task).maxResp.toNat < resp then hold32 resp else (taskOf s y.task).maxResp) ∧
       (∀ n, n ≠ y.task → taskOf v n = taskOf s n) ∧
       counter v 0x00080010 0 = (if d.deadlineUs * 1000 < resp then (counter s 0x00080010 0).inc.1 else counter s 0x00080010 0) ∧
       v.core = { s.core with acts := v.core.acts, tasks := v.core.tasks, bobs := v.core.bobs } ∧
       v = { s with core := v.core, counters := v.counters, skein := v.skein, upd := v.upd } := by
  intro d resp
  let a : Activation := { y with charged := y.charged + 1 }
  have hrun : exec (.end_ x) s = .next (finish x.sp.val a s) := onSpindle_runs x 1 1 true (finish x.sp.val) s y h rfl hp
  obtain ⟨hpending, hdone, -, hresp⟩ := taskOf_finish_same x.sp.val a s
  refine ⟨_, hrun, find_finish_same _ _ _, fun n hn => find_finish_ne _ _ _ hn, hpending, hdone, hresp,
    fun n hn => taskOf_finish_ne _ _ _ hn, counter_finish _ _ _, ?_, finish_frame _ _ _⟩
  rw [(finish_spec x.sp.val a s).1]

theorem ldw_trap_bounds {x : Slot} {d a : GReg} {imm : BitVec 13} {s : State} {y : Activation} (h : Runs x 1 2 s y)
    (hp : y.getP x.p = true) (hr : mayRead (cop s) (declOf s y.task) (y.address a imm).toNat 4 = false) :
    exec (.ldw x d a imm) s = .next (trap x.sp.val 3 [] { y with charged := y.charged + 2 } s) := by
  rw [exec_ldw, execLdw, loadInto, onSpindle_runs x 1 2 true _ s y h rfl hp]
  simp [hr]

theorem ldw_trap_align {x : Slot} {d a : GReg} {imm : BitVec 13} {s : State} {y : Activation} (h : Runs x 1 2 s y)
    (hp : y.getP x.p = true) (hr : mayRead (cop s) (declOf s y.task) (y.address a imm).toNat 4 = true)
    (ha : (y.address a imm).toNat % 4 ≠ 0) :
    exec (.ldw x d a imm) s = .next (trap x.sp.val 2 [] { y with charged := y.charged + 2 } s) := by
  rw [exec_ldw, execLdw, loadInto, onSpindle_runs x 1 2 true _ s y h rfl hp]
  simp [hr, ha]

theorem stw_trap_bounds {x : Slot} {b a : GReg} {imm : BitVec 13} {s : State} {y : Activation} (h : Runs x 1 1 s y)
    (hp : y.getP x.p = true) (hw : mayWrite (declOf s y.task) (y.address a imm).toNat 4 = false) :
    exec (.stw x b a imm) s = .next (trap x.sp.val 3 [] { y with charged := y.charged + 1 } s) := by
  rw [exec_stw, execStw, storeFrom, onSpindle_runs x 1 1 true _ s y h rfl hp]
  simp [hw]

theorem sigRd_trap_handle {x : Slot} {d : GReg} {h : Byte} {s : State} {y : Activation} (hr : Runs x 1 20 s y)
    (hp : y.getP x.p = true) (hh : (declOf s y.task).sigs[h.toNat]? = none) :
    exec (.sigRd x d h 0) s = .next (trap x.sp.val 8 [] { y with charged := y.charged + 20, wait := none } s) := by
  have hhandle : ∀ c, Activation.handle { y with charged := c } h 0 = h.toNat := fun _ => rfl
  rw [exec_sigRd, execSigRd, readInto, onSpindle_runs x 1 20 true _ s y hr rfl hp, readHandle, hhandle]
  simp only [hh]

theorem bar_trap_broken {x : Slot} {g : Fin 16} {s : State} {y : Activation} (h : Runs x 2 4 s y) (hp : y.getP x.p = true)
    (hb : barrierBroken s g.val y.ti = true) :
    exec (.bar x g) s = .next (trap x.sp.val 6 [] { y with charged := y.charged + 4 } s) := by
  rw [exec_bar, execBar, onSpindle_runs x 2 4 true _ s y h rfl hp]
  simp [hb]

/-- Settles O27: the end of an activation, and for each ground of a trap that it is one. -/
theorem activationsEndOrTrap : Obligations.ActivationsEndOrTrap := by
  refine ⟨fun x s y h hp => end_spec h hp, fun x s y hact hwait hbar => ?_⟩
  intro trapped may htask
  have done : ∀ {i : Instr} {cause c : Nat} {args : List Word},
      exec i s = .next (trap x.sp.val cause args { y with charged := c } s) → ∃ v, exec i s = .next v ∧ trapped cause args v :=
    fun he => ⟨_, he, (trap_spec _ _ _ _ _ hbar).unpack htask⟩
  have runs : ∀ {c : Nat}, may c → Runs x 1 c s y := fun hm => ⟨hact, hwait, hm.1.1, hm.1.2⟩
  refine ⟨fun imm hm => ?trap, fun d a b imm => ⟨fun hm hr => ?bounds, fun hm hr ha => ?align, fun hm hw => ?store, fun hl hb => ?budget,
    fun hl => ?level⟩, fun a imm e hm he ha himm hmax => ?loop, fun d h hm hh => ?handle, fun g hm hl hb => ?broken⟩
  case trap => exact done (onSpindle_runs x 1 1 true (fun y s => trap x.sp.val 1 [zext13 imm] y s) s y (runs hm) rfl hm.2)
  case bounds => exact done (ldw_trap_bounds (runs hm) hm.2 hr)
  case align => exact done (ldw_trap_align (runs hm) hm.2 hr ha)
  case store => exact done (stw_trap_bounds (runs hm) hm.2 hw)
  case budget =>
    obtain ⟨f, hf⟩ := intoG_frame (exec_add x d a b s)
    exact done (c := y.charged) (hf.trans (onSpindle_budget x 1 1 true f s y hact hwait rfl hl hb))
  case level =>
    obtain ⟨f, hf⟩ := intoG_frame (exec_fadd x d a b s)
    exact done (c := y.charged) (hf.trans (onSpindle_encoding x 2 4 true f s y hact hwait (.inr hl)))
  case loop =>
    refine done (c := y.charged + 2) ((loop_runs (runs hm) hm.2 he (.inr himm)).trans ?_)
    simp [ha, hmax]
  case handle =>
    have hsame : { y with charged := y.charged + 20, wait := none } = { y with charged := y.charged + 20 } := by rw [← hwait]
    exact done ((sigRd_trap_handle (runs hm) hm.2 hh).trans (by rw [hsame]))
  case broken => exact done (bar_trap_broken ⟨hact, hwait, hl, hm.1.2⟩ hm.2 hb)

/-! ### Time, barriers and waits (R74, R84, R138) -/

theorem timeNow_low {x : Slot} {d : GReg} {s : State} {y : Activation} (h : Runs x 1 6 s y) (hp : y.getP x.p = true) :
    exec (.timeNow x d false) s = .next (setAct x.sp.val
      { went y 6 (withG y d (lo32 s.sun.time)) y.preds with nowShadow := hi32 s.sun.time } s) := by
  rw [exec_timeNow, execTimeNow, onSpindle_runs x 1 6 true _ s y h rfl hp, if_neg Bool.false_ne_true]
  unfold Activation.setG withG
  split <;> rfl

theorem timeNow_high {x : Slot} {d : GReg} {s : State} {y : Activation} (h : Runs x 1 6 s y) (hp : y.getP x.p = true) :
    exec (.timeNow x d true) s = .next (setAct x.sp.val (went y 6 (withG y d y.nowShadow) y.preds) s) := by
  rw [exec_timeNow, execTimeNow, onSpindle_runs x 1 6 true _ s y h rfl hp, if_pos rfl, went_setG]

theorem bar_waits {x : Slot} {g : Fin 16} {s : State} {y : Activation} (h : Runs x 2 4 s y) (hp : y.getP x.p = true)
    (hb : barrierBroken s g.val y.ti = false) :
    exec (.bar x g) s = .next (setAct x.sp.val { y with charged := y.charged + 4, wait := some (.barrier g.val) }
      { s with core := { s.core with barriers := (g.val, y.ti, y.task) :: s.core.barriers } }) := by
  rw [exec_bar, execBar, onSpindle_runs x 2 4 true _ s y h rfl hp]
  simp [hb]

/-- A map whose values are changed where they stand. -/
theorem SMap.find_map {α : Type} (m : SMap α) (f : α → α) (k : Nat) :
    SMap.find (m.map fun e => (e.1, f e.2)) k = (SMap.find m k).map f := by
  induction m with
  | nil => rfl
  | cons e r ih =>
    obtain ⟨k', v⟩ := e
    simp only [List.map_cons, SMap.find]
    split <;> simp_all

/-- An activation that a barrier lets go. -/
def pastBarrier (g : Nat) (ti : Time) (y : Activation) : Activation :=
  if y.wait = some (.barrier g) ∧ y.ti = ti then { y with wait := none, passed := g :: y.passed, pc := y.pc + 1 } else y

theorem barrierResume_full {t ti : Time} {g : Fin 16} {s : State} (h : barrierFull (advanceTo t s) g.val ti = true) :
    exec (.barrierResume t g ti) s = .next { advanceTo t s with core := { (advanceTo t s).core with
      acts := (advanceTo t s).core.acts.map fun e => (e.1, pastBarrier g.val ti e.2)
      barriers := (advanceTo t s).core.barriers.filter fun b => !(decide (b.1 = g.val) && decide (b.2.1 = ti)) } } := by
  have hmap : (fun e : Nat × Activation => (e.1, pastBarrier g.val ti e.2)) = fun e =>
      if e.2.wait = some (.barrier g.val) ∧ e.2.ti = ti then
        (e.1, { e.2 with wait := none, passed := g.val :: e.2.passed, pc := e.2.pc + 1 }) else e := by
    funext e
    unfold pastBarrier
    split <;> rfl
  rw [exec_barrierResume, execBarrierResume, if_pos h, hmap]

theorem sigWaitResume_eq {t : Time} {sp : Fin 64} {d : GReg} {sel hd : Nat} {y : Activation} {s : State}
    (ha : SMap.find (advanceTo t s).core.acts sp.val = some y) (hw : y.wait = some (.signal d sel hd)) :
    exec (.sigWaitResume t sp) s = .next (readHandle sp.val d sel hd y (advanceTo t s)) := by
  rw [exec_sigWaitResume, execSigWaitResume]
  simp only [ha, hw]

/-- A read whose handle was not read before in this activation, its writer behind. -/
theorem readHandle_waits {sp : Nat} {d : GReg} {sel hd : Nat} {y : Activation} {g : SigHandle} {s : State}
    (hg : (declOf s y.task).sigs[hd]? = some g) (hf : SMap.find y.picked hd = none) (hm : mustWait s y.task g.signal y.ti = true) :
    readHandle sp d sel hd y s = setAct sp { y with wait := some (.signal d sel hd) } s := by
  unfold readHandle
  simp [hg, hf, hm]

/-- The same, its writer not behind. -/
theorem readHandle_reads {sp : Nat} {d : GReg} {sel hd : Nat} {y : Activation} {g : SigHandle} {s : State}
    (hg : (declOf s y.task).sigs[hd]? = some g) (hf : SMap.find y.picked hd = none) (hm : mustWait s y.task g.signal y.ti = false) :
    readHandle sp d sel hd y s =
      let p := readSignal (some y.task) g.signal g.fallback y.ti y.start s
      setAct sp { went y 0 (withG y d (p.1.pick sel)) y.preds with wait := none, picked := SMap.insert y.picked hd p.1 } p.2 := by
  unfold readHandle
  simp only [hg, hf, hm, Bool.false_eq_true, if_false]
  unfold Activation.setG withG
  split <;> rfl

/-- What a read changes of the core: the ring it notes itself in. -/
theorem readSignal_core (reader : Option Nat) (index : Nat) (fb : Fallback) (ti start : Time) (s : State) :
    ∃ sigs, (readSignal reader index fb ti start s).2.core = { s.core with signals := sigs } := by
  refine ⟨(readSignal reader index fb ti start s).2.core.signals, ?_⟩
  unfold readSignal setRing lateRecord
  dsimp only
  (repeat' split) <;> simp

theorem mem_barriers_filter (l : List (Nat × Time × Nat)) (g : Nat) (ti : Time) (e : Nat × Time × Nat) :
    e ∈ l.filter (fun b => !(decide (b.1 = g) && decide (b.2.1 = ti))) ↔ e ∈ l ∧ ¬(e.1 = g ∧ e.2.1 = ti) := by
  simp [List.mem_filter, -not_and, not_and_or]

/-- Settles O28: `time.now`, `bar` and its resumption, and the wait for a writer, each from the equation of its command. -/
theorem timeBarriersAndWaits : Obligations.TimeBarriersAndWaits := by
  refine ⟨⟨fun x d s y h hp => ⟨⟨_, timeNow_low h hp, ?low⟩, ⟨_, timeNow_high h hp, onlyAct_setAct _ _ _⟩⟩,
    fun x g s y h hp hb => ⟨_, bar_waits h hp hb, by simp, fun n hn => find_setAct_ne _ _ _ _ hn, rfl, rfl⟩,
    fun t ti g s hfull => ⟨_, barrierResume_full hfull, fun sp y hy => ?_, fun sp hn => ?_, fun e => mem_barriers_filter _ _ _ _, rfl⟩⟩,
    fun t sp d sel hd y g s ha hw hg hf => ⟨fun hm => ?behind, fun hm => ?reads⟩⟩
  case low => rw [lo32_eq, hi32_eq]; exact onlyAct_setAct _ _ _
  · exact (SMap.find_map _ (pastBarrier g.val ti) sp).trans (congrArg (Option.map _) hy)
  · exact (SMap.find_map _ (pastBarrier g.val ti) sp).trans (congrArg (Option.map _) hn)
  case behind =>
    refine ⟨_, (sigWaitResume_eq ha hw).trans (congrArg _ (readHandle_waits hg hf hm)), ?_⟩
    rw [← hw]
    exact onlyAct_setAct _ _ _
  case reads =>
    refine ⟨_, _, (sigWaitResume_eq ha hw).trans (congrArg _ (readHandle_reads hg hf hm)), rfl, find_setAct _ _ _, fun n hn => ?_, ?_⟩
    all_goals obtain ⟨sigs, hc⟩ := readSignal_core (some y.task) g.signal g.fallback y.ti y.start (advanceTo t s)
    · rw [find_setAct_ne _ _ _ _ hn, hc]
    · simp [hc]

end Sys2Proof.Machine
end

section
/-! PROOFS. Signals: rings and reads (R83, R84, R97 to R100, R129, R130). -/
namespace Sys2Proof.Machine
open Sys2Proof.Safety

/-! ### A sample put into a ring (R98) -/

theorem mem_placeSample {x o : Sample} {l : List Sample} (h : o ∈ placeSample x l) : o = x ∨ o ∈ l := by
  induction l with
  | nil => exact .inl (List.mem_singleton.1 h)
  | cons y r ih =>
    unfold placeSample at h
    split at h
    · exact List.mem_cons.1 h
    · split at h
      · exact (List.mem_cons.1 h).imp id (List.mem_cons_of_mem _)
      · rcases List.mem_cons.1 h with rfl | h
        · exact .inr List.mem_cons_self
        · exact (ih h).imp id (List.mem_cons_of_mem _)

theorem self_mem_placeSample (x : Sample) (l : List Sample) : x ∈ placeSample x l := by
  induction l with
  | nil => exact List.mem_cons_self
  | cons y r ih =>
    unfold placeSample
    split
    · exact List.mem_cons_self
    · split
      · exact List.mem_cons_self
      · exact List.mem_cons_of_mem _ ih

theorem mem_placeSample_of_ne {x o : Sample} {l : List Sample} (ho : o ∈ l) (hne : o.stamp ≠ x.stamp) : o ∈ placeSample x l := by
  induction l with
  | nil => exact absurd ho List.not_mem_nil
  | cons y r ih =>
    unfold placeSample
    split
    · exact List.mem_cons_of_mem _ ho
    · rcases List.mem_cons.1 ho with rfl | ho
      · rw [if_neg hne]
        exact List.mem_cons_self
      · split
        · exact List.mem_cons_of_mem _ ho
        · exact List.mem_cons_of_mem _ (ih ho)

theorem placeSample_length_le (x : Sample) (l : List Sample) : (placeSample x l).length ≤ l.length + 1 := by
  induction l with
  | nil => exact Nat.le_refl _
  | cons y r ih =>
    unfold placeSample
    split
    · exact Nat.le_refl _
    · split <;> simp only [List.length_cons] <;> omega

/-- The sorted order of a ring: a later stamp first, none twice. -/
theorem placeSample_sorted {x : Sample} {l : List Sample} (h : l.Pairwise fun a b => b.stamp < a.stamp) :
    (placeSample x l).Pairwise fun a b => b.stamp < a.stamp := by
  induction l with
  | nil => exact List.pairwise_singleton _ _
  | cons y r ih =>
    obtain ⟨hy, hr⟩ := List.pairwise_cons.1 h
    unfold placeSample
    split
    case isTrue hlt =>
      refine List.pairwise_cons.2 ⟨fun o ho => ?_, h⟩
      rcases List.mem_cons.1 ho with rfl | ho
      · exact hlt
      · exact BitVec.lt_trans (hy o ho) hlt
    case isFalse hle =>
      split
      case isTrue heq => exact List.pairwise_cons.2 ⟨fun o ho => heq ▸ hy o ho, hr⟩
      case isFalse hne =>
        have hlt : x.stamp < y.stamp := by bv_omega
        refine List.pairwise_cons.2 ⟨fun o ho => ?_, ih hr⟩
        rcases mem_placeSample ho with rfl | ho
        · exact hlt
        · exact hy o ho

theorem lose_le (t : Time) (l : Option Time) : ∃ m, lose t l = some m ∧ m ≤ t := by
  cases l with
  | none => exact ⟨t, rfl, BitVec.le_refl _⟩
  | some m =>
    refine ⟨_, rfl, ?_⟩
    split
    · exact BitVec.le_refl _
    · bv_omega

theorem land_of_room {depth : Nat} {x : Sample} {r : SigRing} (h : (placeSample x r.samples).length ≤ depth) :
    r.land depth x = ({ r with samples := placeSample x r.samples }, false) := by
  unfold SigRing.land
  exact if_pos h

theorem land_of_full {depth : Nat} {x o : Sample} {r : SigRing} {l : List Sample} (h : depth < (placeSample x r.samples).length)
    (hl : placeSample x r.samples = l ++ [o]) :
    r.land depth x = ({ r with samples := l, lost := lose o.stamp r.lost }, decide (o.stamp = x.stamp)) := by
  unfold SigRing.land
  simp only [if_neg (Nat.not_le.2 h)]
  simp [hl]

/-- Settles O30: by whether the ring has room for one more sample; a full one gives up the oldest, its last. -/
theorem ringsStaySorted : Obligations.RingsStaySorted := by
  intro depth x r hdepth hsorted hlen
  have hall := placeSample_sorted (x := x) hsorted
  have hle := placeSample_length_le x r.samples
  rcases Nat.lt_or_ge depth (placeSample x r.samples).length with hfull | hroom
  · have hne : placeSample x r.samples ≠ [] := List.ne_nil_of_length_pos (by omega)
    have hsplit := (List.dropLast_append_getLast hne).symm
    generalize (placeSample x r.samples).dropLast = l at hsplit
    generalize (placeSample x r.samples).getLast hne = o at hsplit
    rw [land_of_full hfull hsplit]
    have hlength := congrArg List.length hsplit
    rw [List.length_append, List.length_singleton] at hlength
    refine ⟨hall.sublist (hsplit ▸ List.sublist_append_left l [o]), by dsimp only; omega, fun hkept => ?_, fun p hp hpx => ?_⟩
    · have hx := self_mem_placeSample x r.samples
      rw [hsplit, List.mem_append, List.mem_singleton] at hx
      exact hx.resolve_right fun h => of_decide_eq_false hkept (congrArg Sample.stamp h.symm)
    · have hp := mem_placeSample_of_ne hp hpx
      rw [hsplit, List.mem_append, List.mem_singleton] at hp
      exact hp.imp id fun (h : p = o) => by rw [h]; exact lose_le _ _
  · rw [land_of_room hroom]
    exact ⟨hall, hroom, fun _ => self_mem_placeSample _ _, fun p hp hpx => .inl (mem_placeSample_of_ne hp hpx)⟩

/-! ### Reading a signal (R84, R99, R100, R129, R130) -/

/-- A read of a handle read before in this activation (R83). -/
theorem readHandle_again {sp : Nat} {d : GReg} {sel hd : Nat} {y : Activation} {g : SigHandle} {p : Picked} {s : State}
    (hg : (declOf s y.task).sigs[hd]? = some g) (hf : SMap.find y.picked hd = some p) (hw : y.wait = none) (c : Nat) :
    readHandle sp d sel hd { y with charged := y.charged + c } s = setAct sp (went y c (withG y d (p.pick sel)) y.preds) s := by
  have hsame : { y with charged := y.charged + c, wait := none } = { y with charged := y.charged + c } := by rw [← hw]
  unfold readHandle
  simp only [hg, hf, hsame, went_setG]

theorem pick_eq (p : Picked) (k : Fin 3) : p.pick k = [p.value, p.status, p.age].getD k 0 := by
  fin_cases k <;> rfl

theorem select_usable {own : Bool} {r : SigRing} {ti start : Time} {q : Sample}
    (h : r.samples.find? (fun q => decide (q.stamp ≤ ti) && usable own ti start q) = some q) :
    select own r ti start = (q.value, q.status, some q.stamp, false) := by
  unfold select
  rw [h]

theorem aged_fresh {maxAge : Nat} {ti st : Time} {v : Word} {c : SigStatus}
    (h : maxAge = 0 ∨ ti.toNat ≤ st.toNat + maxAge * 1000) : aged maxAge ti (v, c, some st) = (v, c, some st) := by
  unfold aged
  rcases h with h | h <;> simp [h]

theorem fallbackOn_valid {own : Bool} {fb : Fallback} {r : SigRing} {ti start : Time} {v : Word} {st : Option Time} :
    fallbackOn own fb r ti start (v, .valid, st) = (v, .valid, st) := by
  unfold fallbackOn
  exact if_neg (by simp)

/-- A read that finds a VALID sample, no older than the signal's limit. -/
theorem readSignal_valid {n index maxAge : Nat} {fb : Fallback} {ti start : Time} {q : Sample} {s : State}
    (hq : (ring s index).samples.find? (fun q => decide (q.stamp ≤ ti) &&
      usable (decide ((sigDecl (cop s) index).map (·.writer) = some (.task n))) ti start q) = some q)
    (hv : q.status = .valid) (hm : (sigDecl (cop s) index).map (·.maxAgeUs) = some maxAge)
    (ha : maxAge = 0 ∨ ti.toNat ≤ q.stamp.toNat + maxAge * 1000) :
    readSignal (some n) index fb ti start s = ({ value := q.value, status := 0, age := hold32 (ti.toNat - q.stamp.toNat) },
      if ((sigDecl (cop s) index).map (fun d => byTask d.writer)).getD false then s
      else setRing index { ring s index with reads := noteRead ti start (ring s index).reads } s) := by
  have hle : q.stamp ≤ ti := by
    have h := List.find?_some hq
    simp only [Bool.and_eq_true, decide_eq_true_eq] at h
    exact h.1
  have key : ∀ own, own = decide ((sigDecl (cop s) index).map (·.writer) = some (.task n)) →
      select own (ring s index) ti start = (q.value, .valid, some q.stamp, false) :=
    fun own ho => by rw [ho, select_usable hq, hv]
  unfold readSignal
  rcases hw : (sigDecl (cop s) index).map SigDecl.writer with _ | w
  · have hsel := key false (by simp [hw])
    simp [hsel, hm, aged_fresh ha, fallbackOn_valid, ageOf, hle, SigStatus.code]
  · cases w with
    | task m =>
      have hsel := key (decide (n = m)) (by rw [hw]; simp [eq_comm (a := n)])
      simp [hsel, hm, aged_fresh ha, fallbackOn_valid, ageOf, hle, SigStatus.code]
    | _ =>
      have hsel := key false (by simp [hw])
      simp [hsel, hm, aged_fresh ha, fallbackOn_valid, ageOf, hle, SigStatus.code]

/-- What such a read does to the ring: it notes itself, at most. -/
theorem readSignal_valid_ring {index i : Nat} {l : List (Time × Time)} {c : Bool} {s : State} :
    let v := if c then s else setRing index { ring s index with reads := l } s
    (ring v i).samples = (ring s i).samples ∧ (ring v i).lost = (ring s i).lost := by
  cases c with
  | true => exact ⟨rfl, rfl⟩
  | false =>
    rcases eq_or_ne i index with rfl | hne
    · simp
    · simp [ring_setRing_ne _ _ _ _ hne]

/-- The three signal reads: what an instruction that reads one gives. -/
theorem readInto_spec {x : Slot} {level : Nat} {d : GReg} {h : Byte} {ix : GReg} {sel : Nat} {s : State} {y : Activation}
    (hr : Runs x level 20 s y) (hp : y.getP x.p = true) :
    readInto x level d h ix sel s =
      .next (readHandle x.sp.val d sel (h.toNat + (y.getG ix).toNat) { y with charged := y.charged + 20 } s) :=
  onSpindle_runs x level 20 true _ s y hr rfl hp

section
variable {x : Slot} {level : Nat} {d : GReg} {h : Byte} {ix : GReg} {s : State} {y : Activation} {g : SigHandle} (k : Fin 3)
  (hg : (declOf s y.task).sigs[h.toNat + (y.getG ix).toNat]? = some g) (hr : Runs x level 20 s y) (hp : y.getP x.p = true)
include hg hr hp

theorem readInto_again {p : Picked} (hf : SMap.find y.picked (h.toNat + (y.getG ix).toNat) = some p) :
    ∃ v, readInto x level d h ix k s = .next v ∧
      OnlyAct x.sp.val s v (went y 20 (withG y d ([p.value, p.status, p.age].getD k 0)) y.preds) :=
  ⟨_, (readInto_spec hr hp).trans (congrArg _ (readHandle_again hg hf hr.2.1 20)), by
    rw [pick_eq]
    exact onlyAct_setAct _ _ _⟩

theorem readInto_waits (hf : SMap.find y.picked (h.toNat + (y.getG ix).toNat) = none)
    (hm : mustWait s y.task g.signal y.ti = true) : ∃ v, readInto x level d h ix k s = .next v ∧
      OnlyAct x.sp.val s v { y with charged := y.charged + 20, wait := some (.signal d k (h.toNat + (y.getG ix).toNat)) } :=
  ⟨_, (readInto_spec hr hp).trans (congrArg _ (readHandle_waits (y := { y with charged := y.charged + 20 }) hg hf hm)),
    onlyAct_setAct _ _ _⟩

theorem readInto_valid (hf : SMap.find y.picked (h.toNat + (y.getG ix).toNat) = none)
    (hm : mustWait s y.task g.signal y.ti = false) {q : Sample} {maxAge : Nat}
    (hq : (ring s g.signal).samples.find? (fun q => decide (q.stamp ≤ y.ti) &&
      usable (decide ((sigDecl (cop s) g.signal).map (·.writer) = some (.task y.task))) y.ti y.start q) = some q)
    (hv : q.status = .valid) (hmax : (sigDecl (cop s) g.signal).map (·.maxAgeUs) = some maxAge)
    (ha : maxAge = 0 ∨ y.ti.toNat ≤ q.stamp.toNat + maxAge * 1000) :
    let p : Picked := { value := q.value, status := 0, age := hold32 (y.ti.toNat - q.stamp.toNat) }
    ∃ v, readInto x level d h ix k s = .next v ∧
      SMap.find v.core.acts x.sp.val = some { went y 20 (withG y d ([p.value, p.status, p.age].getD k 0)) y.preds with
        picked := SMap.insert y.picked (h.toNat + (y.getG ix).toNat) p } ∧
      (∀ n, n ≠ x.sp.val → SMap.find v.core.acts n = SMap.find s.core.acts n) ∧
      (∀ i, (ring v i).samples = (ring s i).samples ∧ (ring v i).lost = (ring s i).lost) ∧
      v = { s with core := { s.core with acts := v.core.acts, signals := v.core.signals } } := by
  intro p
  refine ⟨_, (readInto_spec hr hp).trans (congrArg _ (readHandle_reads (y := { y with charged := y.charged + 20 }) hg hf hm)), ?_⟩
  simp only [readSignal_valid hq hv hmax ha]
  refine ⟨?_, fun n hn => ?_, fun i => ?_, ?_⟩
  · rw [find_setAct, pick_eq, ← hr.2.1]
    rfl
  · rw [find_setAct_ne _ _ _ _ hn]
    split <;> rfl
  · exact readSignal_valid_ring
  · split <;> rfl

end

/-! ### Writing a signal (R97, R98, R129) -/

theorem noteDeparture_good (index : Nat) (was : List Sample) {st : SigStatus} (s : State) (h : SigStatus.departs st = false) :
    noteDeparture index was st s = s := by
  unfold noteDeparture
  rw [h]
  exact if_neg (by simp)

theorem placeSample_newest {x : Sample} {l : List Sample} (h : ∀ o ∈ l, o.stamp < x.stamp) : placeSample x l = x :: l := by
  cases l with
  | nil => rfl
  | cons o r => exact if_pos (h o List.mem_cons_self)

/-- The newest sample lands in a ring: the oldest leaves a full one. -/
theorem land_newest {depth : Nat} {x : Sample} {r : SigRing} (hnew : ∀ o ∈ r.samples, o.stamp < x.stamp)
    (hlen : r.samples.length ≤ depth) (hdepth : 0 < depth) :
    (r.land depth x).1.samples = (x :: r.samples).take depth ∧ (r.land depth x).2 = false := by
  have hall := placeSample_newest hnew
  rcases Nat.lt_or_ge r.samples.length depth with hroom | hfull
  · have hle : (x :: r.samples).length ≤ depth := by rw [List.length_cons]; omega
    rw [land_of_room (hall ▸ hle), hall, List.take_of_length_le hle]
    exact ⟨rfl, rfl⟩
  · have hne : r.samples ≠ [] := List.ne_nil_of_length_pos (by omega)
    have hsplit : placeSample x r.samples = (x :: r.samples.dropLast) ++ [r.samples.getLast hne] := by
      rw [hall, List.cons_append, List.dropLast_append_getLast]
    have hlast := hnew _ (List.getLast_mem hne)
    rw [land_of_full (by rw [hall, List.length_cons]; omega) hsplit]
    refine ⟨?_, decide_eq_false (BitVec.ne_of_lt hlast)⟩
    obtain ⟨n, rfl⟩ := Nat.exists_eq_succ_of_ne_zero (Nat.pos_iff_ne_zero.1 hdepth)
    rw [List.take_succ_cons, List.dropLast_eq_take, show r.samples.length - 1 = n by omega]

/-- A sample that the declared writer, a task, writes: it lands, with no record. -/
theorem land_task {index n : Nat} {value : Word} {stamp : Time} {status : SigStatus} {d : SigDecl} {s : State}
    (hlane : laneActive s = true) (hd : sigDecl (cop s) index = some d) (hw : d.writer = .task n) (hstatus : SigStatus.departs status = false)
    (hkept : ((ring s index).land d.depth
      { value := value, stamp := stamp, status := status, landed := s.sun.time, spin := true }).2 = false) :
    land index (.task n) value stamp status s = setRing index ((ring s index).land d.depth
      { value := value, stamp := stamp, status := status, landed := s.sun.time, spin := true }).1 s := by
  unfold land
  simp [hlane, hd, hw, byTask, hkept, noteDeparture_good _ _ _ hstatus]

/-- One that any other task writes (R97). -/
theorem land_foreign {index n : Nat} {value : Word} {stamp : Time} {status : SigStatus} {d : SigDecl} {s : State}
    (hlane : laneActive s = true) (hd : sigDecl (cop s) index = some d) (hw : d.writer ≠ .task n) :
    land index (.task n) value stamp status s = bump 0x00080020 0 s := by
  unfold land
  simp [hlane, hd, hw, byTask]

theorem sigWr_runs {x : Slot} {ix a : GReg} {h : Byte} {st : BitVec 4} {s : State} {y : Activation} {g : SigHandle}
    (hg : (declOf s y.task).sigs[h.toNat + (y.getG ix).toNat]? = some g) (hst : st = 0 ∨ st = 4) (hr : Runs x 1 12 s y)
    (hp : y.getP x.p = true) {t : State}
    (hland : land g.signal (.task y.task) (y.getG a) y.ti (if st = 0 then .valid else .substituted) s = t) :
    exec (.sigWr x ix h st a) s = .next (setAct x.sp.val (went y 12 y.regs y.preds) t) := by
  rw [exec_sigWr, execSigWr, onSpindle_runs x 1 12 _ _ s y hr (by simpa using hst) hp, ← hland]
  simp only [Activation.handle]
  rw [show ({ y with charged := y.charged + 12 } : Activation).getG = y.getG from rfl, hg]
  rfl

/-- Settles O29: the three reads from `readInto`, `sig.wr` from what landing a task's sample does. -/
theorem signalsReadAndWritten : Obligations.SignalsReadAndWritten := by
  refine ⟨fun x d h ix s y g hg hp => ?reads, fun x ix a h st s y g d hg hst hd hlane hr hp => ⟨fun hw hnew hlen hdepth => ?own,
    fun hw => ?foreign⟩⟩
  case reads =>
    simp only [List.forall_mem_cons]
    exact ⟨fun hr => ⟨fun _ => readInto_again 0 hg hr hp, readInto_waits 0 hg hr hp,
        fun hf hm _ _ => readInto_valid 0 hg hr hp hf hm⟩,
      fun hr => ⟨fun _ => readInto_again 1 hg hr hp, readInto_waits 1 hg hr hp, fun hf hm _ _ => readInto_valid 1 hg hr hp hf hm⟩,
      fun hr => ⟨fun _ => readInto_again 2 hg hr hp, readInto_waits 2 hg hr hp, fun hf hm _ _ => readInto_valid 2 hg hr hp hf hm⟩,
      List.forall_mem_nil _⟩
  case own =>
    have hstatus : SigStatus.departs (if st = 0 then .valid else .substituted) = false := by split <;> rfl
    obtain ⟨hsamples, hkept⟩ := land_newest (r := ring s g.signal) (x := ⟨y.getG a, y.ti, _, s.sun.time, true⟩) hnew hlen hdepth
    refine ⟨_, sigWr_runs hg hst hr hp (land_task hlane hd hw hstatus hkept),
      ?_, fun i hi => ring_setRing_ne _ _ _ _ hi, find_setAct _ _ _, fun n hn => find_setAct_ne _ _ _ _ hn, rfl⟩
    rw [← hsamples]
    exact congrArg SigRing.samples (ring_setRing _ _ _)
  case foreign =>
    refine ⟨_, sigWr_runs hg hst hr hp (land_foreign hlane hd hw),
      counter_bump _ _ _, find_setAct _ _ _, ?_⟩
    apply State.eq_of_parts <;> simp

end Sys2Proof.Machine
end

section
/-! PROOFS. Bobbins (R102 to R106, R131, R132). -/
namespace Sys2Proof.Machine
open Sys2Proof.Safety

/-! ### Placing and taking an entry (R104) -/

/-- An entry placed stands last, and what else a Bobbin holds stays. -/
theorem place_spec {b q : Bob} {size : Nat} {e : BobEntry} (h : b.place size e = some q) :
    (q.entries.map (·.2) = b.entries.map (·.2) ++ [e]) ∧ q.held = b.held := by
  unfold Bob.place at h
  dsimp only at h
  split at h
  · exact absurd h nofun
  · obtain rfl := Option.some.inj h
    simp

/-- The sequence number takes no part in where an entry goes. -/
theorem place_seq (b : Bob) (size : Nat) (e : BobEntry) (n : BitVec 16) :
    { b with seq := n }.place size e = (b.place size e).map fun q => { q with seq := n } := by
  unfold Bob.place
  have hspot : { b with seq := n }.spot size (entrySize e.bytes.length) = b.spot size (entrySize e.bytes.length) := rfl
  simp only [hspot]
  cases b.spot size (entrySize e.bytes.length) <;> rfl

theorem take_cons {b : Bob} {o : Nat} {e : BobEntry} {r : List (Nat × BobEntry)} (h : b.entries = (o, e) :: r) :
    ∃ q, b.take = some (e, q) ∧ q.entries = r := by
  unfold Bob.take
  rw [h]
  cases r with
  | nil => exact ⟨_, rfl, rfl⟩
  | cons e' r => exact ⟨_, rfl, rfl⟩

/-- The head entry of a Bobbin taken: the Bobbin keeps the others, and only what its releases know changes beside it. -/
theorem popBob_cons {n o : Nat} {e : BobEntry} {r : List (Nat × BobEntry)} {s : State} (h : (bob s n).entries = (o, e) :: r) :
    ∃ t, popBob n s = (some e, t) ∧ (bob t n).entries = r ∧ (∀ m, m ≠ n → bob t m = bob s m) ∧
      t = { s with core := { s.core with bobs := t.core.bobs, tasks := t.core.tasks } } := by
  obtain ⟨q, htake, hq⟩ := take_cons h
  have hbob : ∀ m, m ≠ n → bob (setBob n q s) m = bob s m := fun m hm => bob_setBob_ne _ _ _ _ hm
  unfold popBob
  rw [htake]
  dsimp only
  split
  · exact ⟨_, rfl, (congrArg Bob.entries (bob_setBob n q s)).trans hq, hbob, rfl⟩
  · exact ⟨_, rfl, (congrArg Bob.entries (bob_setBob n q s)).trans hq, hbob, rfl⟩

theorem popBob_nil {n : Nat} {s : State} (h : (bob s n).entries = []) : popBob n s = (none, s) := by
  have htake : (bob s n).take = none := by unfold Bob.take; rw [h]
  unfold popBob
  rw [htake]

/-! ### An entry offered (R103 to R106) -/

section
variable {n : Nat} {stamp : Time} {aux : BitVec 16} {bytes : List Byte} {s : State} {dl : BobDecl}
  (hlane : laneActive s = true) (hgate : s.lanes.gate = true) (hdl : bobDecl s n = some dl) (hheld : (bob s n).held = [])
include hlane hgate hdl hheld

theorem offer_placed {q : Bob}
    (hq : (bob s n).place dl.size { stamp := stamp, seq := (bob s n).seq, aux := aux, bytes := bytes } = some q) :
    offer n stamp aux bytes s = (true, setBob n { q with seq := (bob s n).seq + 1 } s) := by
  have hempty : (bob s n).held.isEmpty = true := by rw [hheld]; rfl
  unfold offer
  simp only [hlane, hgate, hdl, hempty, Bool.and_self, if_true, place_seq, hq, Option.map_some]

theorem offer_dropped
    (hq : (bob s n).place dl.size { stamp := stamp, seq := (bob s n).seq, aux := aux, bytes := bytes } = none)
    (hdrop : dl.dropNew = true) :
    offer n stamp aux bytes s = (false, bump 0x001D0018 n (setBob n { bob s n with seq := (bob s n).seq + 1 } s)) := by
  have hempty : (bob s n).held.isEmpty = true := by rw [hheld]; rfl
  unfold offer
  simp only [hlane, hgate, hdl, hempty, Bool.and_self, if_true, place_seq, hq, hdrop, Option.map_none]

theorem offer_held
    (hq : (bob s n).place dl.size { stamp := stamp, seq := (bob s n).seq, aux := aux, bytes := bytes } = none)
    (hdrop : dl.dropNew = false) :
    offer n stamp aux bytes s = (false, bump 0x001D001C n (setBob n { bob s n with
      seq := (bob s n).seq + 1, held := [{ stamp := stamp, seq := (bob s n).seq, aux := aux, bytes := bytes }] } s)) := by
  have hempty : (bob s n).held.isEmpty = true := by rw [hheld]; rfl
  unfold offer
  simp only [hlane, hgate, hdl, hempty, Bool.and_self, if_true, place_seq, hq, hdrop, Option.map_none]
  rw [hheld]
  rfl

end

/-- A Bobbin reads the same wherever the Bobbins are the same. -/
theorem bob_congr {s t : State} (h : t.core.bobs = s.core.bobs) (n : Nat) : bob t n = bob s n := by
  unfold bob
  rw [h]

theorem bob_bump (a i n : Nat) (s : State) : bob (bump a i s) n = bob s n := bob_congr (by simp) n

theorem readByte_congr {s t : State} (h : t.core.sram = s.core.sram) (sp a : Nat) : readByte t sp a = readByte s sp a := by
  unfold readByte
  rw [h]

/-! ### The instructions (R131, R132) -/

theorem bufferOk_eq {d : TaskDecl} {addr k : Nat} (h : k = 0 ∨ mayWrite d addr k = true) : bufferOk d addr k = true := by
  unfold bufferOk
  rcases h with rfl | h <;> simp [*]

section
variable {x : Slot} {b : Fin 16} {addr len : GReg} {s : State} {y : Activation} {n : Nat}
  (hn : (declOf s y.task).bobs[b.val]? = some n) (hp : y.getP x.p = true)
include hn hp

theorem bobPush_runs {d : PReg} (hr : Runs x 1 100 s y) (hk : (y.getG len).toNat ≤ 1408)
    (hbuf : (y.getG len).toNat = 0 ∨ mayWrite (declOf s y.task) (y.getG addr).toNat (y.getG len).toNat = true) {ok : Bool} {t : State}
    (ht : offer n y.ti 0 (readBytes s x.sp.val (y.getG addr).toNat (y.getG len).toNat) s = (ok, t)) :
    exec (.bobPush x d b addr len) s = .next (setAct x.sp.val (went y 100 y.regs (withP y d ok)) t) := by
  rw [exec_bobPush, execBobPush, onSpindle_runs x 1 100 true _ s y hr rfl hp]
  simp only [hn, getG_charged, ht, went_setP]
  rw [if_neg]
  rw [bufferOk_eq hbuf, Bool.not_true, Bool.or_false]
  exact fun h => absurd (of_decide_eq_true h) (Nat.not_lt.2 hk)

theorem bobPop_empty {d : GReg} (hr : Runs x 1 110 s y)
    (hbuf : (y.getG len).toNat = 0 ∨ mayWrite (declOf s y.task) (y.getG addr).toNat (y.getG len).toNat = true)
    (hnil : (bob s n).entries = []) :
    exec (.bobPop x d b addr len) s = .next (setAct x.sp.val (went y 110 (withG y d 0xFFFFFFFF) y.preds) s) := by
  rw [exec_bobPop, execBobPop, onSpindle_runs x 1 110 true _ s y hr rfl hp]
  simp only [hn, getG_charged, bufferOk_eq hbuf, Bool.not_true, Bool.false_eq_true, if_false, went_setG, popBob_nil hnil]

theorem bobPop_takes {d : GReg} (hr : Runs x 1 110 s y)
    (hbuf : (y.getG len).toNat = 0 ∨ mayWrite (declOf s y.task) (y.getG addr).toNat (y.getG len).toNat = true)
    {e : BobEntry} {t : State} (hpop : popBob n s = (some e, t)) :
    exec (.bobPop x d b addr len) s = .next (setAct x.sp.val (went y 110 (withG y d (BitVec.ofNat 32 e.bytes.length)) y.preds)
      (writeBytes x.sp.val (y.getG addr).toNat (e.bytes.take (y.getG len).toNat) t)) := by
  rw [exec_bobPop, execBobPop, onSpindle_runs x 1 110 true _ s y hr rfl hp]
  simp only [hn, getG_charged, bufferOk_eq hbuf, Bool.not_true, Bool.false_eq_true, if_false, went_setG, hpop]

theorem bobPeek_empty {d : GReg} {sel : BitVec 5} (hr : Runs x 1 10 s y) (hsel : sel.toNat ≤ 4) (hnil : (bob s n).entries = []) :
    exec (.bobPeek x d b sel) s = .next (setAct x.sp.val (went y 10 (withG y d 0xFFFFFFFF) y.preds) s) := by
  rw [exec_bobPeek, execBobPeek, onSpindle_runs x 1 10 _ _ s y hr (by simpa using hsel) hp]
  simp only [hn, went_setG, hnil]

theorem bobPeek_reads {d : GReg} {sel : BitVec 5} (hr : Runs x 1 10 s y) (hsel : sel.toNat ≤ 4) {o : Nat} {e : BobEntry}
    {r : List (Nat × BobEntry)} (hcons : (bob s n).entries = (o, e) :: r) :
    exec (.bobPeek x d b sel) s = .next (setAct x.sp.val (went y 10 (withG y d (e.peek sel.toNat)) y.preds) s) := by
  rw [exec_bobPeek, execBobPeek, onSpindle_runs x 1 10 _ _ s y hr (by simpa using hsel) hp]
  simp only [hn, went_setG, hcons]

end

theorem peek_eq (e : BobEntry) {k : Nat} (h : k ≤ 4) : e.peek k = [BitVec.ofNat 32 e.bytes.length, e.seq.zeroExtend 32,
    e.aux.zeroExtend 32, e.stamp.extractLsb' 0 32, e.stamp.extractLsb' 32 32].getD k 0 := by
  rw [← lo32_eq, ← hi32_eq]
  obtain rfl | rfl | rfl | rfl | rfl : k = 0 ∨ k = 1 ∨ k = 2 ∨ k = 3 ∨ k = 4 := by omega
  all_goals rfl

theorem bobbinWaitResume_placed {t : Time} {n : Nat} {s : State} {dl : BobDecl} {e : BobEntry} {r : List BobEntry} {q : Bob}
    (hdl : bobDecl (advanceTo t s) n = some dl) (hheld : (bob (advanceTo t s) n).held = e :: r)
    (hq : { bob (advanceTo t s) n with held := r }.place dl.size e = some q) :
    exec (.bobbinWaitResume t n) s = .next (setBob n q (advanceTo t s)) := by
  rw [exec_bobbinWaitResume, execBobbinWaitResume]
  simp only [hdl, hheld, hq]

/-- Settles O31: the outcomes of an offer, the head entry taken or read, and the held entry placed. -/
theorem bobbinsPass : Obligations.BobbinsPass := by
  refine ⟨fun x d b addr len s y n dl hn hdl hlane hgate hk hbuf hr hp hheld => ?push,
    fun x d b addr len s y n hn hbuf hr hp => ⟨fun hnil => ?popNil, fun o e r hcons => ?popCons⟩,
    fun x d b sel s y n hn hsel hr hp => ⟨fun hnil => ?peekNil, fun o e r hcons => ?peekCons⟩,
    fun t n s dl e r q hdl hheld hq => ?resume⟩
  case push =>
    have push := @bobPush_runs x b addr len s y n hn hp d hr hk hbuf
    refine ⟨fun q hq => ⟨_, push (offer_placed hlane hgate hdl hheld hq), bob_setBob _ _ _, (place_spec hq).1,
        fun m hm => bob_setBob_ne _ _ _ _ hm, find_setAct _ _ _, rfl⟩,
      fun hq hdrop => ⟨_, push (offer_dropped hlane hgate hdl hheld hq hdrop),
        (bob_bump _ _ _ _).trans (bob_setBob _ _ _), counter_bump _ _ _, find_setAct _ _ _, by simp⟩,
      fun hq hdrop => ⟨_, push (offer_held hlane hgate hdl hheld hq hdrop),
        (bob_bump _ _ _ _).trans (bob_setBob _ _ _), counter_bump _ _ _, find_setAct _ _ _, by simp⟩⟩
  case popNil => exact ⟨_, bobPop_empty hn hp hr hbuf hnil, onlyAct_setAct _ _ _⟩
  case popCons =>
    obtain ⟨t, hpop, hentries, hothers, ht⟩ := popBob_cons hcons
    have hsram : t.core.sram = s.core.sram := by rw [ht]
    refine ⟨_, bobPop_takes hn hp hr hbuf hpop, hentries, hothers, find_setAct _ _ _, fun i hi hik => ?_,
      fun sp a hne => ?_, ?_⟩
    · exact (readByte_writeBytes_in _ _ i _ t (by rw [List.length_take]; omega)).trans (List.getElem_take ..)
    · refine (readByte_writeBytes_ne fun i hi => ?_).trans (readByte_congr hsram sp a)
      rw [List.length_take] at hi
      exact hne i (by omega) (by omega)
    · generalize t.core.bobs = bobs at ht
      generalize t.core.tasks = tasks at ht
      subst ht
      rfl
  case peekNil => exact ⟨_, bobPeek_empty hn hp hr hsel hnil, onlyAct_setAct _ _ _⟩
  case peekCons =>
    rw [← peek_eq e hsel]
    exact ⟨_, bobPeek_reads hn hp hr hsel hcons, onlyAct_setAct _ _ _⟩
  case resume =>
    obtain ⟨hentries, hrest⟩ := place_spec hq
    exact ⟨_, bobbinWaitResume_placed hdl hheld hq, bob_setBob _ _ _, hrest, hentries, rfl⟩

end Sys2Proof.Machine
end

section
/-! PROOFS. Control laws (R133, R134, R141, R145, R157). -/
namespace Sys2Proof.Machine
open Sys2Proof.Safety

/-- A loop staged or stepped is that loop only. -/
theorem loopSt_congr {s t : State} (h : t.core.loops = s.core.loops) (k : Nat) : loopSt t k = loopSt s k := by
  unfold loopSt
  rw [h]

/-- The staged inputs of a loop with one of them replaced (R134). -/
def staged (st : LoopSt) (v : Word) (sel : Nat) : LoopSt :=
  [{ st with sp := v }, { st with pv := v }, { st with ff := v }, { st with man := v }, { st with mode := v },
    { st with trk := v }, { st with ulim := v }, { st with llim := v }].getD sel st

theorem lawIn_runs {x : Slot} {l : BitVec 6} {sel : BitVec 4} {a : GReg} {s : State} {y : Activation} {d : LoopDecl}
    (hd : handleLoop s y l.toNat = some d) (hsel : sel.toNat ≤ 7) (hr : Runs x 1 2 s y) (hp : y.getP x.p = true) :
    exec (.lawIn x l sel a) s = .next (setAct x.sp.val (went y 2 y.regs y.preds) (setLoop (loopKey d.unit d.loop)
      (staged (loopSt s (loopKey d.unit d.loop)) (y.getG a) sel.toNat) s)) := by
  have hd' : handleLoop s { y with charged := y.charged + 2 } l.toNat = some d := hd
  rw [exec_lawIn, execLawIn, onSpindle_runs x 1 2 _ _ s y hr (by simpa using hsel) hp]
  simp only [hd', getG_charged]
  obtain h | h | h | h | h | h | h | h : sel.toNat = 0 ∨ sel.toNat = 1 ∨ sel.toNat = 2 ∨ sel.toNat = 3 ∨ sel.toNat = 4 ∨
    sel.toNat = 5 ∨ sel.toNat = 6 ∨ sel.toNat = 7 := by omega
  all_goals rw [h]; rfl

theorem lawOut_runs {x : Slot} {g : GReg} {l : BitVec 6} {sel : BitVec 4} {s : State} {y : Activation} {d : LoopDecl}
    (hd : handleLoop s y l.toNat = some d) (hsel : sel.toNat ≤ 4) (hr : Runs x 1 2 s y) (hp : y.getP x.p = true) :
    exec (.lawOut x g l sel) s = .next (setAct x.sp.val (went y 2 (withG y g (lawResult s d sel.toNat)) y.preds) s) := by
  have hd' : handleLoop s { y with charged := y.charged + 2 } l.toNat = some d := hd
  rw [exec_lawOut, execLawOut, onSpindle_runs x 1 2 _ _ s y hr (by simpa using hsel) hp]
  simp only [hd', went_setG]

theorem lawResult_eq (s : State) (d : LoopDecl) {k : Nat} (h : k ≤ 4) : lawResult s d k =
    [if d.nest = .outer then (loopSt s (loopKey d.unit d.link)).u else (loopSt s (loopKey d.unit d.loop)).u,
      (loopSt s (loopKey d.unit d.loop)).e, (loopSt s (loopKey d.unit d.loop)).i, (loopSt s (loopKey d.unit d.loop)).rc,
      (loopSt s (loopKey d.unit d.loop)).flags].getD k 0 := by
  obtain rfl | rfl | rfl | rfl | rfl : k = 0 ∨ k = 1 ∨ k = 2 ∨ k = 3 ∨ k = 4 := by omega
  all_goals rfl

/-! ### A step of a single loop in AUTO (R145) -/

/-- The derivative term of a step, without an initialisation. -/
def stepD (d : LoopDecl) (st : LoopSt) : Word :=
  if hasD d then fadd (fmul (ad d) st.d) (fmul (bd d) (fsub (fsub (fmul d.c st.sp) st.pv) st.edPrev)) else st.d

/-- The unlimited output of a step, with no repetitive contribution. -/
def stepVa (d : LoopDecl) (st : LoopSt) : Word :=
  fadd (fadd (fadd (fadd (fmul d.kp (fsub (fmul d.b st.sp) st.pv)) st.i) (stepD d st)) st.ff) 0

/-- The output of a step: `stepVa` within its rate and its limits. -/
def stepU (d : LoopDecl) (st : LoopSt) : Word :=
  fmin (fmax (fmin (fmax (stepVa d st) (fsub st.u (rstep d))) (fadd st.u (rstep d))) (fmax d.outLo st.llim)) (fmin d.outHi st.ulim)

/-- What a step in AUTO leaves in a loop that stands alone, without a table and without a pending initialisation. -/
structure SteppedAuto (d : LoopDecl) (st w : LoopSt) : Prop where
  u : w.u = stepU d st
  va : w.va = stepVa d st
  e : w.e = fsub st.sp st.pv
  der : w.d = stepD d st
  edPrev : w.edPrev = fsub (fmul d.c st.sp) st.pv
  rc : w.rc = 0
  i : w.i = if hasI d then fadd (fadd st.i (fmul d.kiH (fsub st.sp st.pv))) (fmul d.ktH (fsub (stepU d st) (stepVa d st))) else st.i

section
variable {d : LoopDecl} {st : LoopSt}
  (hlim : flt (fmin d.outHi st.ulim) (fmax d.outLo st.llim) = false) (hsp : isNan st.sp = false) (hpv : isNan st.pv = false)
  (hff : isNan st.ff = false) (hva : isNan (stepVa d st) = false)
include hlim hsp hpv hff hva

theorem stepLoop_auto : ∃ w f, stepLoop d st st.sp st.pv st.ff st.man st.trk st.ulim st.llim 0 false 0 none false = (w, f, false) ∧
    SteppedAuto d st w := by
  have hva' := hva
  unfold stepVa stepD at hva'
  unfold stepLoop limits
  simp only [hlim, hsp, hpv, hff, hva', Bool.false_eq_true, if_false, if_true, Bool.or_self]
  exact ⟨_, _, rfl, ⟨rfl, rfl, rfl, rfl, rfl, rfl, by simp; rfl⟩⟩

variable (hn : d.nest = .single) (hrc : d.rcEn = false) (hmode : st.mode = 0) (hinit : st.init = none)
include hn hrc hmode hinit

theorem runLoop_auto {s : State} (by_ : Stepper) (hst : loopSt s (loopKey d.unit d.loop) = st) : ∃ w l,
    runLoop d by_ s = setLoop (loopKey d.unit d.loop) w { s with core := { s.core with loadBusy := l } } ∧ SteppedAuto d st w := by
  obtain ⟨w, f, hstep, hw⟩ := stepLoop_auto hlim hsp hpv hff hva
  have hnow : st.modeNow = (0, false) := by unfold LoopSt.modeNow; rw [hmode]; rfl
  have hdue : st.due 0 = none := by unfold LoopSt.due; rw [hinit]
  have htable : ∀ c, tableOf c d = none := fun c => by unfold tableOf; rw [hrc]; rfl
  have hst' : ∀ l, loopSt { s with core := { s.core with loadBusy := l } } (loopKey d.unit d.loop) = st := fun _ => hst
  refine ⟨{ w with flags := f.word }, SMap.modify s.core.loadBusy 0 d.unit (· + 1), ?_, ⟨hw.u, hw.va, hw.e, hw.der, hw.edPrev, hw.rc, hw.i⟩⟩
  unfold runLoop stepSingle readTable learnTable countHeld
  simp only [hn, htable, hst', hnow, hdue, Option.map_none, hstep, Bool.false_eq_true, if_false]

theorem lawStep_auto {x : Slot} {l : BitVec 6} {s : State} {y : Activation} (hd : handleLoop s y l.toNat = some d)
    (hp : y.getP x.p = true) (hst : loopSt s (loopKey d.unit d.loop) = st)
    (hr : Runs x 1 (48 + 100 * ((bound (cop s) d.unit).length - 1)) s y) : ∃ w b,
    exec (.lawStep x l) s = .next (setAct x.sp.val
      (went y (48 + 100 * ((bound (cop s) d.unit).length - 1)) y.regs y.preds)
      (setLoop (loopKey d.unit d.loop) w { s with core := { s.core with loadBusy := b } })) ∧ SteppedAuto d st w := by
  obtain ⟨w, b, hrun, hw⟩ := runLoop_auto hlim hsp hpv hff hva hn hrc hmode hinit
    { task := y.task, decl := declOf s y.task, ti := y.ti, start := y.start } hst
  have hcharge : lawCharge s x l = 48 + 100 * ((bound (cop s) d.unit).length - 1) := by
    unfold lawCharge
    simp only [hr.1, hd]
  have hsig : ∀ by_, unitSignals (cop s) d by_ = [] := fun by_ => by
    unfold unitSignals tableOf
    simp only [hn, hrc]
    rfl
  have hwait : ({ y with charged := y.charged + (48 + 100 * ((bound (cop s) d.unit).length - 1)), wait := none } : Activation) =
      { y with charged := y.charged + (48 + 100 * ((bound (cop s) d.unit).length - 1)) } := by rw [← hr.2.1]
  have hd' : handleLoop s { y with charged := y.charged + (48 + 100 * ((bound (cop s) d.unit).length - 1)) } l.toNat = some d := hd
  refine ⟨w, b, ?_, hw⟩
  rw [exec_lawStep, execLawStep, hcharge, onSpindle_runs x 1 _ true _ s y hr rfl hp, stepHandle]
  simp only [hd', hsig, List.any_nil, Bool.false_eq_true, if_false, hwait, hrun]
  rfl

end

/-- Settles O32: the staged input, the result read, and the step of a single loop in AUTO. -/
theorem lawUnitsRun : Obligations.LawUnitsRun := by
  intro x l s y d hd hp k st
  refine ⟨fun sel a => fun hsel hr => ⟨_, lawIn_runs hd hsel hr hp, loopSt_setLoop _ _ _, fun j hj => loopSt_setLoop_ne _ _ _ _ hj,
      find_setAct _ _ _, rfl⟩,
    fun sel g hsel hr => ⟨_, lawOut_runs hd hsel hr hp, by rw [← lawResult_eq s d hsel]; exact onlyAct_setAct _ _ _⟩,
    fun hr hn hrc hmode hinit => fun hlim hsp hpv hff hva => ?_⟩
  obtain ⟨w, b, hstep, hw⟩ := lawStep_auto hlim hsp hpv hff hva hn hrc hmode hinit hd hp rfl hr
  have hk : loopSt (setLoop k w { s with core := { s.core with loadBusy := b } }) k = w := loopSt_setLoop _ _ _
  refine ⟨_, hstep, ?_, ?_, ?_, ?_, ?_, ?_, ?_, fun j hj => loopSt_setLoop_ne _ _ _ _ hj, find_setAct _ _ _, rfl⟩
  · exact (congrArg LoopSt.u hk).trans hw.u
  · exact (congrArg LoopSt.va hk).trans hw.va
  · exact (congrArg LoopSt.e hk).trans hw.e
  · exact (congrArg LoopSt.d hk).trans hw.der
  · exact (congrArg LoopSt.edPrev hk).trans hw.edPrev
  · exact (congrArg LoopSt.rc hk).trans hw.rc
  · exact (congrArg LoopSt.i hk).trans hw.i

end Sys2Proof.Machine
end

section
/-! PROOFS. The Tally's ledgers and the channels behind them: what each operation leaves of a ledger, a load switch and a solenoid channel
(R253 to R260, R268 to R278, R283 to R298). -/
namespace Sys2Proof.Machine
open Sys2Proof.Safety

/-! ### Bits -/

theorem bit_setBit {w : Nat} (v : BitVec w) (n : Nat) (b : Bool) (h : n < w) : bit (setBit v n b) n = b := by
  unfold bit setBit
  cases b <;> simp [h]

theorem bit_setBit_ne {w : Nat} (v : BitVec w) {n m : Nat} (b : Bool) (h : m ≠ n) : bit (setBit v n b) m = bit v m := by
  have hm : (1#w <<< n).getLsbD m = false := by
    rw [BitVec.getLsbD_shiftLeft, BitVec.getLsbD_one]
    by_cases hlt : m < n
    · simp [hlt]
    · simp [show m - n ≠ 0 by omega]
  unfold bit setBit
  cases b
  · simp only [Bool.false_eq_true, if_false, BitVec.getLsbD_and, BitVec.getLsbD_not, hm]
    by_cases hlt : m < w
    · simp [hlt]
    · simp [BitVec.getLsbD_of_ge v m (by omega)]
  · simp only [if_true, BitVec.getLsbD_or, hm, Bool.or_false]

/-! ### Ledgers: who holds a claim, who waits -/

theorem ledger_congr {s t : State} (h : t.tally = s.tally) (k : Nat) : ledger t k = ledger s k := by
  unfold ledger
  rw [h]

theorem holds_eq {s t : State} {k : Nat} (h : (ledger t k).admitted = (ledger s k).admitted) (o : Owner) : holds t k o = holds s k o := by
  unfold holds
  rw [h]

theorem waits_eq {s t : State} {k : Nat} (h : (ledger t k).queue = (ledger s k).queue) (o : Owner) : waits t k o = waits s k o := by
  unfold waits
  rw [h]

/-- The record of times above CONT_LIMIT is all that `trackOver` changes of the ledgers. -/
theorem ledger_trackOver (k j : Nat) (s : State) : ledger (trackOver k s) j =
    { ledger s j with above := (ledger (trackOver k s) j).above, overSince := (ledger (trackOver k s) j).overSince } := by
  unfold trackOver
  dsimp only
  rcases eq_or_ne j k with rfl | h
  · (repeat' split) <;> simp
  · (repeat' split) <;> simp [ledger_setLedger_ne _ _ _ _ h]

@[simp] theorem admitted_trackOver (k j : Nat) (s : State) : (ledger (trackOver k s) j).admitted = (ledger s j).admitted := by
  rw [ledger_trackOver]

@[simp] theorem queue_trackOver (k j : Nat) (s : State) : (ledger (trackOver k s) j).queue = (ledger s j).queue := by
  rw [ledger_trackOver]

theorem ledger_trackOver_ne {k j : Nat} (s : State) (h : j ≠ k) : ledger (trackOver k s) j = ledger s j := by
  unfold trackOver
  dsimp only
  (repeat' split) <;> simp [ledger_setLedger_ne _ _ _ _ h]

@[simp] theorem admitted_enter (k : Nat) (c : Claim) (s : State) : (ledger (enter k c s) k).admitted = withClaim s k c := by
  unfold enter
  simp

@[simp] theorem queue_enter (k j : Nat) (c : Claim) (s : State) : (ledger (enter k c s) j).queue = (ledger s j).queue := by
  unfold enter
  rcases eq_or_ne j k with rfl | h
  · simp
  · simp [ledger_setLedger_ne _ _ _ _ h]

theorem ledger_enter_ne {k j : Nat} (c : Claim) (s : State) (h : j ≠ k) : ledger (enter k c s) j = ledger s j := by
  unfold enter
  rw [ledger_trackOver_ne _ h, ledger_setLedger_ne _ _ _ _ h]

/-- Whoever claims holds what was admitted. -/
@[simp] theorem holds_enter (k : Nat) (c : Claim) (s : State) : holds (enter k c s) k c.owner = true := by
  unfold holds
  simp [withClaim, admittedNow]

@[simp] theorem admitted_giveBack (k : Nat) (o : Owner) (s : State) : (ledger (giveBack k o s) k).admitted =
    (ledger s k).admitted.filter fun a => !decide (a.claim.owner = o) := by
  unfold giveBack
  simp

@[simp] theorem queue_giveBack (k j : Nat) (o : Owner) (s : State) : (ledger (giveBack k o s) j).queue = (ledger s j).queue := by
  unfold giveBack
  rcases eq_or_ne j k with rfl | h
  · simp
  · simp [ledger_setLedger_ne _ _ _ _ h]

theorem ledger_giveBack_ne {k j : Nat} (o : Owner) (s : State) (h : j ≠ k) : ledger (giveBack k o s) j = ledger s j := by
  unfold giveBack
  rw [ledger_trackOver_ne _ h, ledger_setLedger_ne _ _ _ _ h]

@[simp] theorem holds_giveBack (k : Nat) (o : Owner) (s : State) : holds (giveBack k o s) k o = false := by
  unfold holds
  simp

@[simp] theorem ledger_unqueue (k : Nat) (o : Owner) (s : State) : ledger (unqueue k o s) k =
    { ledger s k with queue := (ledger s k).queue.filter fun q => !decide (q.claim.owner = o) } := by
  unfold unqueue
  simp

theorem ledger_unqueue_ne {k j : Nat} (o : Owner) (s : State) (h : j ≠ k) : ledger (unqueue k o s) j = ledger s j := by
  unfold unqueue
  exact ledger_setLedger_ne _ _ _ _ h

@[simp] theorem admitted_unqueue (k j : Nat) (o : Owner) (s : State) : (ledger (unqueue k o s) j).admitted = (ledger s j).admitted := by
  rcases eq_or_ne j k with rfl | h
  · simp
  · rw [ledger_unqueue_ne _ _ h]

@[simp] theorem waits_unqueue (k : Nat) (o : Owner) (s : State) : waits (unqueue k o s) k o = false := by
  unfold waits
  simp

@[simp] theorem holds_unqueue (k j : Nat) (o p : Owner) (s : State) : holds (unqueue k o s) j p = holds s j p :=
  holds_eq (admitted_unqueue ..) p

theorem waits_of_empty {s : State} {k : Nat} (h : (ledger s k).queue = []) (o : Owner) : waits s k o = false := by
  unfold waits
  rw [h]
  rfl

/-- Nothing fits during hold-up (R261). -/
theorem fits_notHoldup {s : State} {k : Nat} {c : Claim} (h : fits s k c = true) : s.sys.holdupRun = false := by
  unfold fits at h
  by_contra hh
  simp [Bool.eq_true_of_not_eq_false hh] at h

/-- A claim that fits, with nothing queued before it, is admitted. -/
theorem submit_admits {s : State} {k : Nat} {c : Claim} (hq : (ledger s k).queue = []) (hf : fits s k c = true) :
    submit k c s = onAdmitted c.owner (enter k c s) := by
  unfold submit
  simp [fits_notHoldup hf, waits_of_empty hq, hq, hf]

/-! ### Load switches and solenoid channels -/

theorem lsw_congr {s t : State} (h : t.outs = s.outs) (n : Nat) : lsw t n = lsw s n := by
  unfold lsw
  rw [h]

theorem sol_congr {s t : State} (h : t.outs = s.outs) (n : Nat) : sol t n = sol s n := by
  unfold sol
  rw [h]

@[simp] theorem lsw_enter (k n : Nat) (c : Claim) (s : State) : lsw (enter k c s) n = lsw s n := lsw_congr (by simp) n
@[simp] theorem sol_enter (k n : Nat) (c : Claim) (s : State) : sol (enter k c s) n = sol s n := sol_congr (by simp) n
@[simp] theorem lsw_giveBack (k n : Nat) (o : Owner) (s : State) : lsw (giveBack k o s) n = lsw s n := lsw_congr (by simp) n
@[simp] theorem sol_giveBack (k n : Nat) (o : Owner) (s : State) : sol (giveBack k o s) n = sol s n := sol_congr (by simp) n
@[simp] theorem lsw_unqueue (k n : Nat) (o : Owner) (s : State) : lsw (unqueue k o s) n = lsw s n := lsw_congr (by simp) n
@[simp] theorem sol_unqueue (k n : Nat) (o : Owner) (s : State) : sol (unqueue k o s) n = sol s n := sol_congr (by simp) n
@[simp] theorem lsw_bump (a i n : Nat) (s : State) : lsw (bump a i s) n = lsw s n := lsw_congr (by simp) n
@[simp] theorem sol_bump (a i n : Nat) (s : State) : sol (bump a i s) n = sol s n := sol_congr (by simp) n
@[simp] theorem lsw_raise (v : Severity) (b : BitVec 8) (c : BitVec 16) (l : List Word) (n : Nat) (s : State) :
    lsw (raise v b c l s) n = lsw s n := lsw_congr (by simp) n
@[simp] theorem sol_raise (v : Severity) (b : BitVec 8) (c : BitVec 16) (l : List Word) (n : Nat) (s : State) :
    sol (raise v b c l s) n = sol s n := sol_congr (by simp) n
@[simp] theorem lsw_setSol (k n : Nat) (x : Sol) (s : State) : lsw (setSol k x s) n = lsw s n := rfl
@[simp] theorem sol_setLsw (k n : Nat) (x : Lsw) (s : State) : sol (setLsw k x s) n = sol s n := rfl
@[simp] theorem ledger_setLsw (k n : Nat) (x : Lsw) (s : State) : ledger (setLsw k x s) n = ledger s n := rfl
@[simp] theorem ledger_setSol (k n : Nat) (x : Sol) (s : State) : ledger (setSol k x s) n = ledger s n := rfl
@[simp] theorem ledger_bump (a i k : Nat) (s : State) : ledger (bump a i s) k = ledger s k := ledger_congr (by simp) k
@[simp] theorem ledger_raise (v : Severity) (b : BitVec 8) (c : BitVec 16) (l : List Word) (k : Nat) (s : State) :
    ledger (raise v b c l s) k = ledger s k := ledger_congr (by simp) k

theorem chanDecl_congr {s t : State} (h : t.store = s.store) (c : Chan) : chanDecl t c = chanDecl s c := by
  unfold chanDecl cop
  rw [h]

theorem profileOf_congr {s t : State} (h : t.store = s.store) (n : Nat) : profileOf t n = profileOf s n := by
  unfold profileOf cop
  rw [h]

theorem outDecl_chan {c : Cop} {ch : Chan} {d : OutDecl} (h : outDecl c ch = some d) : d.chan = ch := by
  unfold outDecl at h
  simpa using List.find?_some h

/-- A channel's declaration names it. -/
theorem chanDecl_chan {s : State} {ch : Chan} {d : OutDecl} (h : chanDecl s ch = some d) : d.chan = ch := by
  unfold chanDecl at h
  split at h
  case h_1 o ho => exact outDecl_chan (by rw [ho, h])
  case h_2 =>
    obtain ⟨c, -, hc⟩ := Option.bind_eq_some_iff.1 h
    exact outDecl_chan hc

/-- A load switch that is switched off. -/
def Lsw.switchedOff (x : Lsw) : Lsw := { x with on := false, pin := false, limit := none, restartDue := false, applied := 0, current := 0 }

theorem lsw_lswOff (n : Nat) (s : State) : lsw (lswOff n s) n = (lsw s n).switchedOff := by
  unfold lswOff
  simp [Lsw.switchedOff]

theorem lsw_lswOff_ne {n m : Nat} (s : State) (h : m ≠ n) : lsw (lswOff n s) m = lsw s m := by
  unfold lswOff
  simp [lsw_setLsw_ne _ _ _ _ h]

@[simp] theorem holds_lswOff (n : Nat) (s : State) : holds (lswOff n s) (n / 12) (.chan (.lsw n)) = false := by
  unfold lswOff
  simp

@[simp] theorem waits_lswOff (n : Nat) (s : State) : waits (lswOff n s) (n / 12) (.chan (.lsw n)) = false := by
  unfold lswOff
  simp

theorem ledger_lswOff_ne {n k : Nat} (s : State) (h : k ≠ n / 12) : ledger (lswOff n s) k = ledger s k := by
  unfold lswOff
  rw [ledger_unqueue_ne _ _ h, ledger_giveBack_ne _ _ h, ledger_setLsw]

/-- What switching a load switch off changes. -/
theorem lswOff_eq (n : Nat) (s : State) :
    lswOff n s = { s with outs := (lswOff n s).outs, tally := (lswOff n s).tally } := by
  apply State.eq_of_parts <;> simp [lswOff]

/-- A load switch whose claim is admitted. -/
def Lsw.switchedOn (onTime : Time) (x : Lsw) : Lsw :=
  { x with
    on := true, pin := true, restartDue := false, trip := false, limit := none
    retries := if x.restartDue then onTime :: x.retries.filter fun t => decide (onTime.toNat < t.toNat + 10000000) else x.retries }

theorem lsw_lswAdmitted (n : Nat) (s : State) : lsw (lswAdmitted n s) n = (lsw s n).switchedOn s.sys.onTime := lsw_setLsw _ _ _

theorem lsw_lswAdmitted_ne {n m : Nat} (s : State) (h : m ≠ n) : lsw (lswAdmitted n s) m = lsw s m := lsw_setLsw_ne _ _ _ _ h

/-- A load switch's claim that nothing stands against. -/
theorem lswClaimOn_admits {n : Nat} {s : State} {d : OutDecl} (hd : chanDecl s (.lsw n) = some d) (hw : lswWaiting (lsw s n) = false)
    (hon : (lsw s n).on = false) (hb : bankDown s (n / 12) = false) (hq : (ledger s (n / 12)).queue = [])
    (hf : fits s (n / 12) (lswClaim d) = true) :
    lswClaimOn n s = lswAdmitted n (enter (n / 12) (lswClaim d) s) := by
  have howner : (lswClaim d).owner = .chan (.lsw n) := congrArg Owner.chan (chanDecl_chan hd)
  unfold lswClaimOn
  simp only [hd, hw, hon, hb, waits_of_empty hq, Bool.or_self, Bool.false_eq_true, if_false, submit_admits hq hf, howner]
  rfl

/-- A load switch that conducts submits no further claim. -/
theorem lswClaimOn_on {n : Nat} {s : State} (hon : (lsw s n).on = true) : lswClaimOn n s = s := by
  unfold lswClaimOn
  simp only [hon, Bool.or_true, Bool.true_or, if_true]
  split <;> rfl

end Sys2Proof.Machine
end

section
/-! PROOFS. Output commands (R24, R135, R136, R272, R276, R285 to R287). -/
namespace Sys2Proof.Machine
open Sys2Proof.Safety

section
variable {x : Slot} {h : BitVec 6} {f note : Chan → Activation → State → State} {s : State} {y : Activation} {c : Chan}
  (hc : (declOf s y.task).outs[h.toNat]? = some c) (hr : Runs x 1 8 s y) (hp : y.getP x.p = true)
include hc hr hp

/-- An output instruction of a lane that drives runs its command. -/
theorem onOutput_drives {i : Instr} (he : exec i s = onOutput x h f note s) (hd : drives s = true) {t : State}
    (ht : f c { y with charged := y.charged + 8 } s = t) :
    exec i s = .next (setAct x.sp.val (went y 8 y.regs y.preds) t) := by
  rw [he, onOutput, onSpindle_runs x 1 8 true _ s y hr rfl hp]
  simp only [hc, hd, if_true, ht]
  rfl

/-- One of a lane that neither drives nor records commands has no effect on an output (R24). -/
theorem onOutput_silent {i : Instr} (he : exec i s = onOutput x h f note s) (hd : drives s = false) (hn : recordsOnly s = false) :
    ∃ v, exec i s = .next v ∧ OnlyAct x.sp.val s v (went y 8 y.regs y.preds) := by
  refine ⟨_, ?_, onlyAct_setAct x.sp.val s _⟩
  rw [he, onOutput, onSpindle_runs x 1 8 true _ s y hr rfl hp]
  simp only [hc, hd, hn, Bool.false_eq_true, if_false]
  rfl

end

/-! ### Load switches (R272, R276) -/

/-- What a switch command that is off does to a load switch that waits for nothing. -/
theorem laneSwitch_off {n : Nat} {s : State} (hw : lswWaiting (lsw s n) = false) :
    laneSwitch n false s = lswOff n (setLsw n { lsw s n with cmd := false, src := .lane } s) := by
  have hw' : lswWaiting (lsw (setLsw n { lsw s n with cmd := false, src := .lane } s) n) = false := by rw [lsw_setLsw]; exact hw
  unfold laneSwitch
  simp only [Bool.false_eq_true, if_false, hw']

/-- What one that is on does where nothing stands against it. -/
theorem laneSwitch_on {n : Nat} {s : State} {d : OutDecl} (hd : chanDecl s (.lsw n) = some d) (hw : lswWaiting (lsw s n) = false)
    (hon : (lsw s n).on = false) (hb : bankDown s (n / 12) = false) (hq : (ledger s (n / 12)).queue = [])
    (hf : fits s (n / 12) (lswClaim d) = true) : laneSwitch n true s =
      lswAdmitted n (enter (n / 12) (lswClaim d) (setLsw n { lsw s n with cmd := true, src := .lane } s)) := by
  unfold laneSwitch
  simp only [if_true]
  exact lswClaimOn_admits hd (by rw [lsw_setLsw]; exact hw) (by rw [lsw_setLsw]; exact hon) hb hq hf

/-- The rest of the state where an operation changes outputs and ledgers alone, with the activation that ordered it. -/
theorem setAct_outs {sp : Nat} {y : Activation} {s t : State} (h : t = { s with outs := t.outs, tally := t.tally }) :
    setAct sp y t = { s with
      core := { s.core with acts := (setAct sp y t).core.acts }, outs := (setAct sp y t).outs, tally := (setAct sp y t).tally } := by
  generalize t.outs = o at h
  generalize t.tally = l at h
  subst h
  rfl

theorem laneSwitch_off_spec {n : Nat} {s : State} (hw : lswWaiting (lsw s n) = false) :
    let v := laneSwitch n false s
    (lsw v n).on = false ∧ (lsw v n).cmd = false ∧ (lsw v n).pin = false ∧ holds v (n / 12) (.chan (.lsw n)) = false ∧
      waits v (n / 12) (.chan (.lsw n)) = false ∧ (∀ m, m ≠ n → lsw v m = lsw s m) ∧
      v = { s with outs := v.outs, tally := v.tally } := by
  intro v
  have hv : v = _ := laneSwitch_off hw
  have hlsw : lsw v n = _ := (congrArg (fun t => lsw t n) hv).trans (lsw_lswOff _ _)
  rw [lsw_setLsw] at hlsw
  refine ⟨by rw [hlsw]; rfl, by rw [hlsw]; rfl, by rw [hlsw]; rfl, by rw [hv, holds_lswOff], by rw [hv, waits_lswOff],
    fun m hm => ?_, ?_⟩
  · rw [hv, lsw_lswOff_ne _ hm, lsw_setLsw_ne _ _ _ _ hm]
  · rw [hv]
    exact lswOff_eq _ _

theorem laneSwitch_on_spec {n : Nat} {s : State} {d : OutDecl} (hd : chanDecl s (.lsw n) = some d) (hw : lswWaiting (lsw s n) = false)
    (hon : (lsw s n).on = false) (hb : bankDown s (n / 12) = false) (hq : (ledger s (n / 12)).queue = [])
    (hf : fits s (n / 12) (lswClaim d) = true) :
    let v := laneSwitch n true s
    (lsw v n).on = true ∧ (lsw v n).cmd = true ∧ (lsw v n).pin = true ∧ holds v (n / 12) (.chan (.lsw n)) = true ∧
      (∀ m, m ≠ n → lsw v m = lsw s m) ∧ v = { s with outs := v.outs, tally := v.tally } := by
  intro v
  have hv : v = _ := laneSwitch_on hd hw hon hb hq hf
  have hlsw : lsw v n = _ := (congrArg (fun t => lsw t n) hv).trans (lsw_lswAdmitted _ _)
  rw [lsw_enter, lsw_setLsw] at hlsw
  have howner : (lswClaim d).owner = .chan (.lsw n) := congrArg Owner.chan (chanDecl_chan hd)
  refine ⟨by rw [hlsw]; rfl, by rw [hlsw]; rfl, by rw [hlsw]; rfl, ?_, fun m hm => ?_, ?_⟩
  · rw [hv, ← howner]
    exact holds_enter _ _ _
  · rw [hv, lsw_lswAdmitted_ne _ hm, lsw_enter, lsw_setLsw_ne _ _ _ _ hm]
  · rw [hv]
    apply State.eq_of_parts <;> simp [lswAdmitted]

/-- A duty command to a load switch that conducts. -/
theorem laneDuty_on {n : Nat} {s : State} (v : Word) (hon : (lsw s n).on = true) :
    (lsw (laneDuty n v s) n).duty = dutyOf v ∧ (lsw (laneDuty n v s) n).on = true ∧
      (lsw (laneDuty n v s) n).applied = (lsw s n).applied ∧ (∀ m, m ≠ n → lsw (laneDuty n v s) m = lsw s m) ∧
      laneDuty n v s = { s with outs := (laneDuty n v s).outs, tally := (laneDuty n v s).tally } := by
  unfold laneDuty
  dsimp only
  split
  case isTrue =>
    rw [lswClaimOn_on (by rw [lsw_setLsw]; exact hon), lsw_setLsw]
    exact ⟨rfl, hon, rfl, fun m hm => lsw_setLsw_ne _ _ _ _ hm, rfl⟩
  case isFalse =>
    simp only [lsw_unqueue, lsw_setLsw, true_and]
    exact ⟨hon, fun m hm => by rw [lsw_setLsw_ne _ _ _ _ hm, lsw_setLsw_ne _ _ _ _ hm], rfl⟩

/-! ### Solenoid channels (R285 to R287) -/

section
variable {n : Nat} {s : State} {d : OutDecl} (hd : chanDecl s (.sol n) = some d) (ht : (sol s n).trip = false)
  (hh : (sol s n).hstrip = false) (hg : groupDown s n = false)
include ht hh

include hd hg in
theorem laneCur_cur (mA : Nat) (hph : (sol s n).phase = .cur) :
    laneCur n mA s = setSol n { sol s n with uv := false, nextSet := some (min mA d.iHold) } s := by
  unfold laneCur profileRuns
  simp [hd, ht, hh, hg, hph]

theorem laneProf_running (v : Word) (hr : profileRuns (sol s n) = true) : laneProf n v s = bump 0x00060018 n s := by
  unfold laneProf ignoreSol
  simp [ht, hh, hr]

include hg in
/-- A PROF of a channel that is off, in a group that can take a peak: its claim goes to the Tally. -/
theorem laneProf_off {v : Word} {p : ProfileDecl} (hph : (sol s n).phase = .off) (hv : v.toNat < 16)
    (hprof : profileOf s v.toNat = some p) (hgf : groupFree s (n / 4) = true) :
    laneProf n v s = submitPeak n (setSol n { sol s n with
      asked := BitVec.ofNat 4 v.toNat, prevPhase := .off, uv := false, wasCur := false, nextSet := none, arrived := s.sun.time } s) := by
  have hrun : profileRuns (sol s n) = false := by unfold profileRuns; rw [hph]
  unfold laneProf
  simp [ht, hh, hg, hgf, hph, hrun, hv, hprof]

end

theorem peakAdmitted_spec {n : Nat} {s : State} {d : OutDecl} {p : ProfileDecl} (hd : chanDecl s (.sol n) = some d)
    (hp : profileOf s (sol s n).asked.toNat = some p) (hn : n < 32) :
    (sol (peakAdmitted n s) n).phase = .rise ∧ (sol (peakAdmitted n s) n).peak = min p.peak d.iPeak ∧
      (sol (peakAdmitted n s) n).admittedAt = s.sun.time ∧ bit (peakAdmitted n s).outs.busy (n / 4) = true := by
  have hd' : ∀ o, chanDecl { s with outs := o } (.sol n) = some d := fun _ => hd
  have hp' : ∀ o, profileOf { s with outs := o } (sol s n).asked.toNat = some p := fun _ => hp
  unfold peakAdmitted
  simp only [hd', hp', sol_setSol, true_and]
  exact ⟨rfl, bit_setBit _ _ _ (by omega)⟩

/-- A peak claim that nothing stands against. -/
theorem submitPeak_admits {n : Nat} {s : State} {d : OutDecl} (hd : chanDecl s (.sol n) = some d)
    (hq : (ledger s (n / 8)).queue = []) (hf : fits s (n / 8) (solPeakClaim d) = true) :
    submitPeak n s = peakAdmitted n (enter (n / 8) (solPeakClaim d)
      (setSol n { sol s n with phase := .tallyQ, peakWait := true } s)) := by
  have howner : (solPeakClaim d).owner = .chan (.sol n) := congrArg Owner.chan (chanDecl_chan hd)
  have hadmit := submit_admits (s := setSol n { sol s n with phase := .tallyQ, peakWait := true } s) hq hf
  unfold submitPeak
  simp only [hd, hadmit, howner, onAdmitted, sol_enter, sol_setSol, if_true]

theorem laneProf_off_spec {n : Nat} {s : State} {d : OutDecl} {v : Word} {p : ProfileDecl} (ht : (sol s n).trip = false)
    (hh : (sol s n).hstrip = false) (hd : chanDecl s (.sol n) = some d) (hg : groupDown s n = false) (hph : (sol s n).phase = .off)
    (hv : v.toNat < 16) (hprof : profileOf s v.toNat = some p) (hgf : groupFree s (n / 4) = true)
    (hq : (ledger s (n / 8)).queue = []) (hf : fits s (n / 8) (solPeakClaim d) = true) (hn : n < 32) :
    let t := laneProf n v s
    (sol t n).phase = .rise ∧ (sol t n).peak = min p.peak d.iPeak ∧ (sol t n).admittedAt = s.sun.time ∧
      bit t.outs.busy (n / 4) = true ∧ holds t (n / 8) (.chan (.sol n)) = true := by
  intro t
  have hasked : (BitVec.ofNat 4 v.toNat).toNat = v.toNat := by rw [BitVec.toNat_ofNat]; omega
  have howner : (solPeakClaim d).owner = .chan (.sol n) := congrArg Owner.chan (chanDecl_chan hd)
  have htn : t = _ := (laneProf_off ht hh hg hph hv hprof hgf).trans (submitPeak_admits (d := d) hd hq hf)
  generalize hw : enter _ _ _ = w at htn
  have hsol : (sol w n).asked = BitVec.ofNat 4 v.toNat := by rw [← hw]; simp
  have hprof' : profileOf w (sol w n).asked.toNat = some p := by
    rw [hsol, hasked, ← hprof, ← hw]
    exact profileOf_congr (by simp) _
  have hd' : chanDecl w (.sol n) = some d := by
    rw [← hd, ← hw]
    exact chanDecl_congr (by simp) _
  obtain ⟨hphase, hpeak, hat, hbusy⟩ := peakAdmitted_spec hd' hprof' hn
  rw [htn]
  refine ⟨hphase, hpeak, hat.trans (by rw [← hw]; simp), hbusy, ?_⟩
  have hadm : (peakAdmitted n w).tally = w.tally := by simp
  rw [holds_eq (congrArg Ledger.admitted (ledger_congr hadm _)), ← hw, ← howner]
  exact holds_enter _ _ _

theorem pumpGroup_empty {g : Nat} {s : State} (h : SMap.get s.outs.groupQ [] g = []) (fuel : Nat) : pumpGroup g fuel s = s := by
  cases fuel with
  | zero => rfl
  | succ fuel => unfold pumpGroup; simp only [h]

/-- A solenoid channel in CUR regulation, its group's queue empty, turned off (R286). -/
theorem laneRel_cur {n : Nat} {s : State} (hph : (sol s n).phase = .cur) (hq : SMap.get s.outs.groupQ [] (n / 4) = []) :
    (sol (laneRel n s) n).phase = .off ∧ (sol (laneRel n s) n).setpoint = 0 ∧
      holds (laneRel n s) (n / 8) (.chan (.sol n)) = false ∧ ∀ m, m ≠ n → sol (laneRel n s) m = sol s m := by
  have hbusy : endBusy n s = s := by unfold endBusy; rw [hph]
  unfold laneRel solOff
  simp only [hbusy]
  rw [pumpGroup_empty (by simp [hq])]
  refine ⟨by simp [sol], by simp [sol], ?_, fun m hm => ?_⟩
  · exact (holds_unqueue _ _ _ _ _).trans (holds_giveBack _ _ _)
  · rw [sol_setSol_ne _ _ _ _ hm, sol_unqueue, sol_giveBack]
    exact sol_setSol_ne _ _ _ _ hm

/-- Settles O33: each command from the equation of what it does at its channel. -/
theorem outputsObeyLanes : Obligations.OutputsObeyLanes := by
  intro x h a s y c hc hr hp
  refine ⟨fun hd hn => ?silent, fun hd n hlsw => ?switches, fun hd n d hn hsol hdecl ht hh hg => ?solenoids⟩
  case silent =>
    simp only [List.forall_mem_cons]
    exact ⟨onOutput_silent hc hr hp (exec_outSw x h a s) hd hn, onOutput_silent hc hr hp (exec_outPwm x h a s) hd hn,
      onOutput_silent hc hr hp (exec_outSolCur x h a s) hd hn, onOutput_silent hc hr hp (exec_outSolProf x h a s) hd hn,
      onOutput_silent hc hr hp (exec_outSolRel x h s) hd hn, List.forall_mem_nil _⟩
  case switches =>
    subst hlsw
    refine ⟨fun ha hw => ?off, fun ha d hdecl hw hon hb hq hf => ?on, fun d hdecl hon => ?pwm⟩
    case off =>
      have hcmd : laneSwitch n (decide (y.getG a ≠ 0)) s = laneSwitch n false s :=
        congrArg (fun b => laneSwitch n b s) (decide_eq_false (not_not.2 ha))
      obtain ⟨hon, hcmd', hpin, hholds, hwaits, hothers, hframe⟩ := laneSwitch_off_spec hw
      exact ⟨_, onOutput_drives hc hr hp (exec_outSw x h a s) hd hcmd, hon, hcmd', hpin, hholds, hwaits, hothers, setAct_outs hframe⟩
    case on =>
      have hcmd : laneSwitch n (decide (y.getG a ≠ 0)) s = laneSwitch n true s :=
        congrArg (fun b => laneSwitch n b s) (decide_eq_true ha)
      obtain ⟨hon', hcmd', hpin, hholds, hothers, hframe⟩ := laneSwitch_on_spec hdecl hw hon hb hq hf
      exact ⟨_, onOutput_drives hc hr hp (exec_outSw x h a s) hd hcmd, hon', hcmd', hpin, hholds, hothers, setAct_outs hframe⟩
    case pwm =>
      obtain ⟨hduty, hon', happ, hothers, hframe⟩ := laneDuty_on (y.getG a) hon
      exact ⟨_, onOutput_drives hc hr hp (exec_outPwm x h a s) hd rfl, hduty, hon', happ, hothers, setAct_outs hframe⟩
  case solenoids =>
    subst hsol
    refine ⟨fun hph => ?cur, fun hrun => ?running, fun hrun hv p hprof hph hgf hq hf => ?prof, fun hph hq => ?rel⟩
    case cur =>
      refine ⟨_, onOutput_drives hc hr hp (exec_outSolCur x h a s) hd (laneCur_cur hdecl ht hh hg _ hph), ?_, ?_, ?_,
        fun m hm => sol_setSol_ne _ _ _ _ hm, rfl⟩
      · exact congrArg Sol.nextSet (sol_setSol _ _ _)
      · exact (congrArg Sol.phase (sol_setSol _ _ _)).trans hph
      · exact (congrArg Sol.setpoint (sol_setSol _ _ _)).trans rfl
    case running =>
      refine ⟨_, onOutput_drives hc hr hp (exec_outSolProf x h a s) hd (laneProf_running ht hh _ hrun), sol_bump _ _ _ _,
        counter_bump _ _ _, ?_, ?_⟩
      all_goals simp
    case prof =>
      obtain ⟨hphase, hpeak, hat, hbusy, hholds⟩ := laneProf_off_spec ht hh hdecl hg hph hv hprof hgf hq hf hn
      exact ⟨_, onOutput_drives hc hr hp (exec_outSolProf x h a s) hd rfl, hphase, hpeak, hat, hbusy, hholds⟩
    case rel =>
      obtain ⟨hoff, hset, hholds, hothers⟩ := laneRel_cur hph hq
      exact ⟨_, onOutput_drives hc hr hp (exec_outSolRel x h s) hd rfl, hoff, hset, hholds, hothers⟩

end Sys2Proof.Machine
end

section
/-! PROOFS. Releases and starts of activations (R73, R78, R80 to R82, R86, R90). -/
namespace Sys2Proof.Machine
open Sys2Proof.Safety

/-! ### The ready activation of highest PRIORITY (R82) -/

/-- A ready activation: task, declaration, ti and start instant. -/
abbrev Ready := Nat × TaskDecl × Time × Time

/-- The oldest release of a task of a Spindle, once its start instant has come. -/
def candidate (s : State) (sp : Nat) (e : TaskDecl × Nat) : Option Ready :=
  match (taskOf s e.2).pending with
  | [] => none
  | r :: _ => if e.1.spindle = sp ∧ startInstant e.1 r ≤ s.sun.time then some (e.2, e.1, r.1, startInstant e.1 r) else none

/-- The one of higher PRIORITY of two, the first on a tie. -/
def prefer (best : Option Ready) (c : Ready) : Option Ready :=
  match best with
  | some b => if c.2.1.priority < b.2.1.priority then some c else best
  | none => some c

theorem readyTask_eq (s : State) (sp : Nat) :
    readyTask s sp = ((cop s).tasks.zipIdx.filterMap (candidate s sp)).foldl prefer none := by
  unfold readyTask
  rw [List.foldl_filterMap]
  congr 1
  funext best e
  unfold candidate
  rcases (taskOf s e.2).pending with _ | ⟨r, rest⟩
  · rfl
  · by_cases h : e.1.spindle = sp ∧ startInstant e.1 r ≤ s.sun.time
    · simp only [h.1, h.2, decide_true, Bool.and_self, and_self, if_true]
      rfl
    · simp only [if_neg h]
      rw [if_neg (by simpa using h)]

/-- What a list of candidates is folded to: one of them, or what stood before, and none is of a higher PRIORITY. -/
theorem foldl_prefer (l : List Ready) (best : Option Ready) {r : Ready} (h : l.foldl prefer best = some r) :
    (best = some r ∨ r ∈ l) ∧ (∀ b, best = some b → r.2.1.priority ≤ b.2.1.priority) ∧
      ∀ c ∈ l, r.2.1.priority ≤ c.2.1.priority := by
  induction l generalizing best with
  | nil => exact ⟨.inl h, fun b hb => by rw [Option.some.inj (h.symm.trans hb)], List.forall_mem_nil _⟩
  | cons c l ih =>
    obtain ⟨hmem, hbest, hall⟩ := ih (prefer best c) h
    rcases best with _ | b
    · exact ⟨.inr (hmem.elim (fun h => Option.some.inj h ▸ List.mem_cons_self) (List.mem_cons_of_mem _)), nofun,
        List.forall_mem_cons.2 ⟨hbest c rfl, hall⟩⟩
    · unfold prefer at hmem hbest
      dsimp only at hmem hbest
      split at hmem
      case isTrue hlt =>
        have hrc := hbest c (if_pos hlt)
        exact ⟨.inr (hmem.elim (fun h => Option.some.inj h ▸ List.mem_cons_self) (List.mem_cons_of_mem _)),
          fun b' hb' => by obtain rfl := Option.some.inj hb'; omega, List.forall_mem_cons.2 ⟨hrc, hall⟩⟩
      case isFalse hge =>
        have hrb := hbest b (if_neg hge)
        exact ⟨hmem.imp id (List.mem_cons_of_mem _), fun b' hb' => Option.some.inj hb' ▸ hrb,
          List.forall_mem_cons.2 ⟨by omega, hall⟩⟩

theorem mem_candidates {s : State} {sp : Nat} {c : Ready} : c ∈ (cop s).tasks.zipIdx.filterMap (candidate s sp) ↔
    ∃ d n, taskDecl s n = some d ∧ candidate s sp (d, n) = some c := by
  simp only [List.mem_filterMap, Prod.exists, List.mem_zipIdx_iff_getElem?]
  rfl

/-- Settles O35: the fold over the candidates of a Spindle. -/
theorem highestPriorityStarts : Obligations.HighestPriorityStarts := by
  intro s sp n d ti start h
  obtain ⟨hmem, -, hall⟩ := foldl_prefer _ none ((readyTask_eq s sp).symm.trans h)
  obtain ⟨d', n', htask, hcand⟩ := mem_candidates.1 (hmem.resolve_left nofun)
  unfold candidate at hcand
  split at hcand
  case h_1 => exact absurd hcand nofun
  case h_2 r rest hpend =>
    split at hcand
    case isFalse => exact absurd hcand nofun
    case isTrue hc =>
      obtain ⟨rfl, rfl, rfl, rfl⟩ : n' = n ∧ d' = d ∧ r.1 = ti ∧ startInstant d' r = start := by simpa using hcand
      refine ⟨htask, hc.1, hc.2, ⟨r, rest, hpend, rfl, rfl⟩, fun m dm q rest' hm hsp hq hstart => ?_⟩
      refine hall (m, dm, q.1, startInstant dm q) (mem_candidates.2 ⟨dm, m, hm, ?_⟩)
      unfold candidate
      simp only [hq]
      exact if_pos ⟨hsp, hstart⟩

/-! ### Releases (R80, R81, R86) -/

theorem taskOf_congr {s t : State} (h : t.core.tasks = s.core.tasks) (n : Nat) : taskOf t n = taskOf s n := by
  unfold taskOf
  rw [h]

@[simp] theorem taskOf_bump (a i n : Nat) (s : State) : taskOf (bump a i s) n = taskOf s n := taskOf_congr (by simp) n
@[simp] theorem taskOf_raise (v : Severity) (b : BitVec 8) (c : BitVec 16) (l : List Word) (n : Nat) (s : State) :
    taskOf (raise v b c l s) n = taskOf s n := taskOf_congr (by simp) n


theorem release_room {n : Nat} {ti : Time} {arrival : Bool} {s : State} (h : (taskOf s n).pending.length < 15) :
    release n ti arrival s = setTask n { taskOf s n with
      pending := (taskOf s n).pending ++ [(ti, s.sun.time)], lastRelease := some s.sun.time
      entries := if arrival then (taskOf s n).entries ++ [(true, true)] else (taskOf s n).entries } s := by
  unfold release
  exact if_neg (Nat.not_le.2 h)

theorem release_full {n : Nat} {ti : Time} {s : State} (h : 15 ≤ (taskOf s n).pending.length) :
    release n ti false s = raise .error 0x08 0x0014 [BitVec.ofNat 32 n, lo32 ti, hi32 ti] (bump 0x00080014 0
      (setTask n { taskOf s n with lastRelease := some s.sun.time, outside := true } s)) := by
  unfold release
  exact if_pos h

theorem releases_eq {s : State} (hrun : running s = true) (hb : s.upd.boundary = none) : releases s = true := by
  unfold releases
  rw [hrun, hb]
  rfl

theorem releases_behind {s : State} (hb : s.upd.boundary ≠ none) : releases s = false := by
  unfold releases
  rw [Option.isNone_eq_false_iff.2 (Option.isSome_iff_ne_none.2 hb), Bool.and_false]

theorem taskReleasePeriodic_releases {t : Time} {n : Nat} {d : TaskDecl} {s : State} (hd : taskDecl (advanceTo t s) n = some d)
    (hrun : running (advanceTo t s) = true) (hb : (advanceTo t s).upd.boundary = none) (hstop : (taskOf (advanceTo t s) n).stopped = false)
    (harr : d.arrival = false) (hgrid : (advanceTo t s).sun.time.toNat % (d.period * 100000) = d.offset * 100000)
    (hlast : (taskOf (advanceTo t s) n).lastRelease ≠ some (advanceTo t s).sun.time) :
    exec (.taskReleasePeriodic t n) s = .next (release n (advanceTo t s).sun.time false (advanceTo t s)) := by
  rw [exec_taskReleasePeriodic, execTaskReleasePeriodic]
  simp only [hd]
  rw [if_neg (by simp [releases_eq hrun hb, harr, hstop, onGrid, hgrid, hlast])]

theorem taskReleaseArrival_releases {t : Time} {n o : Nat} {d : TaskDecl} {e : BobEntry} {s : State}
    (hd : taskDecl (advanceTo t s) n = some d) (hrun : running (advanceTo t s) = true) (hb : (advanceTo t s).upd.boundary = none)
    (hstop : (taskOf (advanceTo t s) n).stopped = false) (harr : d.arrival = true)
    (hspace : ∀ l, (taskOf (advanceTo t s) n).lastRelease = some l → l.toNat + d.spacingUs * 1000 ≤ (advanceTo t s).sun.time.toNat)
    (he : (bob (advanceTo t s) d.bobbin).entries[((taskOf (advanceTo t s) n).entries.filter (·.2)).length]? = some (o, e)) :
    exec (.taskReleaseArrival t n) s = .next (release n e.stamp true (advanceTo t s)) := by
  rw [exec_taskReleaseArrival, execTaskReleaseArrival]
  simp only [hd, he, releases_eq hrun hb, harr, hstop, Bool.not_true, Bool.or_self, Bool.false_or]
  rcases hl : (taskOf (advanceTo t s) n).lastRelease with _ | l
  · rfl
  · simp [hspace l hl]

theorem taskRelease_behind {t : Time} {n : Nat} {s : State} (hb : (advanceTo t s).upd.boundary ≠ none) :
    exec (.taskReleasePeriodic t n) s = .next (advanceTo t s) ∧ exec (.taskReleaseArrival t n) s = .next (advanceTo t s) := by
  constructor
  · rw [exec_taskReleasePeriodic, execTaskReleasePeriodic]
    simp only [releases_behind hb, Bool.not_false, Bool.true_or, if_true]
    split <;> rfl
  · rw [exec_taskReleaseArrival, execTaskReleaseArrival]
    simp only [releases_behind hb, Bool.not_false, Bool.true_or, if_true]
    (repeat' split) <;> rfl

/-! ### Starts (R73, R78, R82, R90) -/

theorem activationStart_starts {t : Time} {sp : Fin 64} {n : Nat} {d : TaskDecl} {ti start : Time} {s : State}
    (hrun : running (advanceTo t s) = true) (hfree : SMap.find (advanceTo t s).core.acts sp.val = none)
    (hready : readyTask (advanceTo t s) sp.val = some (n, d, ti, start)) :
    exec (.activationStart t sp) s = .next (setAct sp.val
      { task := n, ti := ti, start := start, pc := BitVec.ofNat 14 d.entry, charged := 40 + (d.scratchSize + 63) / 64 }
      (writeBytes sp.val d.scratchBase (List.replicate d.scratchSize 0) (saveDue n ti (advanceTo t s)))) := by
  rw [exec_activationStart, execActivationStart]
  simp only [hrun, hfree, hready, Bool.not_true, Option.isSome_none, Bool.or_self, Bool.false_eq_true, if_false]

/-- What a start puts aside for a due checkpoint changes nothing else. -/
theorem saveDue_eq (n : Nat) (ti : Time) (s : State) :
    saveDue n ti s = { s with spool := { s.spool with saved := (saveDue n ti s).spool.saved } } := by
  unfold saveDue
  (repeat' split) <;> rfl

/-- Settles O34: releases and starts, each from the equation of its command. -/
theorem tasksRun : Obligations.TasksRun := by
  refine ⟨⟨fun t n d s hd hrun hb hstop harr hgrid hlast => ⟨fun hroom => ?room, fun hfull => ?full⟩,
    fun t n d e o s hd hrun hb hstop harr hspace he hroom => ?arrival, fun t n s hb => taskRelease_behind hb⟩,
    fun t sp n d ti start s hrun hfree hready => ?start⟩
  case room =>
    refine ⟨_, (taskReleasePeriodic_releases hd hrun hb hstop harr hgrid hlast).trans (congrArg _ (release_room hroom)),
      taskOf_setTask _ _ _, fun m hm => taskOf_setTask_ne _ _ _ _ hm, rfl⟩
  case full =>
    refine ⟨_, (taskReleasePeriodic_releases hd hrun hb hstop harr hgrid hlast).trans (congrArg _ (release_full hfull)), ?_, ?_,
      fun m hm => ?_, ?_⟩
    · rw [taskOf_raise, taskOf_bump, taskOf_setTask]
    · exact counter_bump _ _ _
    · rw [taskOf_raise, taskOf_bump, taskOf_setTask_ne _ _ _ _ hm]
    · apply State.eq_of_parts <;> simp
  case arrival =>
    exact ⟨_, (taskReleaseArrival_releases hd hrun hb hstop harr hspace he).trans (congrArg _ (release_room hroom)),
      taskOf_setTask _ _ _, fun m hm => taskOf_setTask_ne _ _ _ _ hm, rfl⟩
  case start =>
    refine ⟨_, activationStart_starts hrun hfree hready, find_setAct _ _ _, fun m hm => ?_, fun i hi => ?_, fun q a hne => ?_, ?_⟩
    · rw [find_setAct_ne _ _ _ _ hm, saveDue_eq]
      rfl
    · have hlen : i < (List.replicate d.scratchSize (0 : Byte)).length := by rw [List.length_replicate]; exact hi
      exact (readByte_writeBytes_in _ _ i _ _ hlen).trans (List.getElem_replicate _)
    · refine (readByte_writeBytes_ne (sp := sp.val) (addr := d.scratchBase) (l := List.replicate d.scratchSize 0) fun i hi => ?_).trans
        (readByte_congr (by rw [saveDue_eq]) q a)
      rw [List.length_replicate] at hi
      exact hne i hi
    · rw [saveDue_eq]
      rfl

end Sys2Proof.Machine
end

section
/-! PROOFS. What starts a DAWN, and its first steps (R25, R29, R30, R32, R40, R56, R57, R71, R254, R324, R414). -/
namespace Sys2Proof.Machine
open Sys2Proof.Safety

/-! ### The day state and its record -/

/-- A record raised, what `toDay` does to the Skein. -/
theorem toDay_skein (d : DayState) (c : DayCause) (f : Bool) (s : State) :
    (toDay d c f s).skein = { s.skein with raised := (toDay d c f s).skein.raised } := by
  unfold toDay
  simp

@[simp] theorem toDay_ring (d : DayState) (c : DayCause) (f : Bool) (s : State) : (toDay d c f s).skein.ring = s.skein.ring := by
  rw [toDay_skein]

/-- All that the start of a DAWN changes: the day, its record and its event. -/
theorem startDawn_eq (code line : BitVec 4) (warm fault : Bool) (why : DayCause) (s : State) :
    let v := startDawn code line warm fault why s
    v = { s with sys := v.sys, hank := v.hank, skein := { s.skein with raised := v.skein.raised }, sent := v.sent } := by
  intro v
  apply State.eq_of_parts <;> simp [v, startDawn]
  exact toDay_skein _ _ _ _

/-- The same of a cold one, with the under-voltage state of the banks. -/
theorem coldDawn_eq (code line : BitVec 4) (why : DayCause) (s : State) :
    let v := coldDawn code line why s
    v = { s with
      sys := v.sys, hank := v.hank, skein := { s.skein with raised := v.skein.raised }, sent := v.sent
      outs := { s.outs with uv := ~~~s.outs.stood } } := by
  intro v
  apply State.eq_of_parts <;> simp [v, coldDawn, startDawn]
  exact toDay_skein _ _ _ _

@[simp] theorem coldDawn_sys (code line : BitVec 4) (why : DayCause) (s : State) : (coldDawn code line why s).sys = { s.sys with
    state := .dawn, hold := false, holdCause := 0, refusal := 0, holdOff := false, dawn := .supplies, warm := false
    held := false, duskStep := 0, kl15Latched := false, kl15Pending := false, cause := code, line := line
    dawnAt := s.sun.time, armedAt := none, driving := false, autoarmDone := false, disarmPending := false
    powered := true, offAt := none } := by
  simp [coldDawn]

@[simp] theorem coldDawn_ring (code line : BitVec 4) (why : DayCause) (s : State) : (coldDawn code line why s).skein.ring = s.skein.ring := by
  rw [coldDawn_eq]

@[simp] theorem coldDawn_lanes (code line : BitVec 4) (why : DayCause) (s : State) : (coldDawn code line why s).lanes = s.lanes := by
  rw [coldDawn_eq]

@[simp] theorem coldDawn_upd (code line : BitVec 4) (why : DayCause) (s : State) : (coldDawn code line why s).upd = s.upd := by
  rw [coldDawn_eq]

theorem coldDawn_sun (code line : BitVec 4) (why : DayCause) (s : State) : (coldDawn code line why s).sun = s.sun := by
  simp

theorem coldDawn_skein (code line : BitVec 4) (why : DayCause) (s : State) :
    (coldDawn code line why s).skein = { s.skein with raised := (coldDawn code line why s).skein.raised } := by
  conv_lhs => rw [coldDawn_eq]

/-! ### From power-off (R29, R40, R57, R414) -/

theorem vbatQualified_off {t : Time} {s : State} (h : (advanceTo t s).sys.powered = false) :
    exec (.vbatQualified t) s = .next (fromOff t (advanceTo t s)) := by
  rw [exec_vbatQualified, execVbatQualified]
  simp only [h, Bool.not_false, if_true]

theorem vbatQualified_holdup {t : Time} {s : State} (h : (advanceTo t s).sys.powered = true) (hd : (advanceTo t s).sys.holdupDone = true) :
    exec (.vbatQualified t) s = .next (coldDawn 0 0 .powerOn (powerOff t (advanceTo t s))) := by
  rw [exec_vbatQualified, execVbatQualified]
  simp only [h, hd, Bool.not_true, Bool.false_eq_true, if_false, if_true]

theorem spendBackup_eq (t : Time) (s : State) :
    spendBackup t s = { s with sun := { s.sun with rtcValid := (spendBackup t s).sun.rtcValid, rtc := (spendBackup t s).sun.rtc } } := by
  unfold spendBackup
  (repeat' split) <;> rfl

theorem fromOff_spec (t : Time) (s : State) : let v := fromOff t s
    v.sys.state = .dawn ∧ v.sys.dawn = .supplies ∧ v.sys.cause = 0 ∧ v.sys.held = v.sys.warm ∧ v.sys.powered = true ∧
      v.sys.offAt = none ∧ v.store = s.store ∧ v.skein.ring = s.skein.ring ∧ v.upd.step = s.upd.step := by
  unfold fromOff
  dsimp only
  (repeat' split) <;> simp [startDawn]

/-- After 2 s or more without VBAT the DAWN is a power-on DAWN. -/
theorem fromOff_cold {t : Time} {s : State} (h : ∀ o, s.sys.offAt = some o → 2 * second ≤ t.toNat - o.toNat) :
    fromOff t s = coldDawn 0 0 .powerOn (spendBackup t s) := by
  unfold fromOff awayNs
  rcases ho : s.sys.offAt with _ | o
  · rfl
  · have := h o ho
    simp only [Option.map_some, decide_eq_false (Nat.not_lt.2 this), Bool.false_eq_true, if_false]

theorem spendBackup_brief {t : Time} {s : State} (h : ∀ o, s.sys.offAt = some o → t.toNat - o.toNat ≤ 7 * 86400 * second) :
    spendBackup t s = s := by
  unfold spendBackup awayNs
  rcases ho : s.sys.offAt with _ | o
  · rfl
  · exact if_neg (Nat.not_lt.2 (h o ho))

theorem spendBackup_long {t o : Time} {s : State} (ho : s.sys.offAt = some o) (h : 7 * 86400 * second < t.toNat - o.toNat) :
    (spendBackup t s).sun.rtcValid = false := by
  unfold spendBackup awayNs
  simp only [ho, Option.map_some, h, if_true]

/-- What each step of a run keeps, the run keeps. -/
theorem foldl_keeps {α β : Type} (g : State → β) {f : State → α → State} (h : ∀ s a, g (f s a) = g s) (l : List α) (s : State) :
    g (l.foldl f s) = g s := by
  induction l generalizing s with
  | nil => rfl
  | cons a l ih => exact (ih _).trans (h s a)

@[simp] theorem loseBursts_step (s : State) : (loseBursts s).upd.step = s.upd.step := by
  refine foldl_keeps (fun s => s.upd.step) (fun s b => ?_) _ _
  unfold loseBurst
  dsimp only
  split <;> rfl

theorem powerOff_spec (t : Time) (s : State) : let v := powerOff t s
    v.core = {} ∧ v.skein.ring = s.skein.ring ∧ v.upd.step = s.upd.step ∧ v.sys.holdupRun = false ∧
      v.sys.holdupFlag = decide (s.sys.state ≠ .midnight) := by
  unfold powerOff dark
  simp

/-! ### From MIDNIGHT (R25, R27) -/

theorem kl15Rising_wakes {t : Time} {s : State} (hp : (advanceTo t s).sys.powered = true) (hm : (advanceTo t s).sys.state = .midnight) :
    exec (.kl15Rising t) s = .next (coldDawn 3 0 .kl15
      { advanceTo t s with sys := { (advanceTo t s).sys with kl15 := true } }) := by
  rw [exec_kl15Rising, execKl15Rising]
  simp only [hp, hm, decide_true, Bool.and_self, if_true]

theorem wakeLineAsserted_wakes {t : Time} {n : Fin 4} {s : State} (hp : (advanceTo t s).sys.powered = true)
    (hm : (advanceTo t s).sys.state = .midnight) :
    exec (.wakeLineAsserted t n) s = .next (coldDawn 4 (BitVec.ofNat 4 n.val) .wake (advanceTo t s)) := by
  rw [exec_wakeLineAsserted, execWakeLineAsserted]
  simp only [hp, hm, decide_true, Bool.and_self, if_true]

theorem rtcAlarm_wakes {t : Time} {s : State} (hp : (advanceTo t s).sys.powered = true) (hm : (advanceTo t s).sys.state = .midnight)
    (hv : (advanceTo t s).sun.rtcValid = true) : exec (.rtcAlarm t) s = .next (coldDawn 5 0 .rtc (advanceTo t s)) := by
  rw [exec_rtcAlarm, execRtcAlarm]
  simp only [hp, hm, hv, decide_true, Bool.and_self, if_true]

theorem midnightPendingWake_wakes {t : Time} {s : State} (hp : (advanceTo t s).sys.powered = true)
    (hm : (advanceTo t s).sys.state = .midnight) (hk : (advanceTo t s).sys.kl15Pending = true) :
    exec (.midnightPendingWake t) s = .next (coldDawn 6 0 .kl15Pending (advanceTo t s)) := by
  rw [exec_midnightPendingWake, execMidnightPendingWake]
  simp only [hp, hm, hk, decide_true, Bool.and_self, if_true]

/-! ### Supplies and PLLs (R29, R259, R324) -/

/-- A step of DAWN that is due: the state is DAWN. -/
theorem inStep_dawn {s : State} {d : DawnStep} (h : inStep s d = true) : s.sys.state = .dawn := by
  unfold inStep at h
  simp only [Bool.and_eq_true, decide_eq_true_eq] at h
  exact h.1.2

/-- A step of DAWN does not come due during hold-up. -/
theorem inStep_notHoldup {s : State} {d : DawnStep} (h : inStep s d = true) : s.sys.holdupRun = false := by
  unfold inStep at h
  simp only [Bool.and_eq_true, Bool.not_eq_true', decide_eq_true_eq] at h
  exact h.1.1.2

theorem logicSuppliesUp_runs {t : Time} {s : State} (h : inStep (advanceTo t s) .supplies = true) :
    exec (.logicSuppliesUp t) s = .next (goStep .plls (if holds (advanceTo t s) 4 .logic then advanceTo t s
      else submit 4 logicClaim (advanceTo t s))) := by
  rw [exec_logicSuppliesUp, execLogicSuppliesUp]
  simp only [h, if_true]

@[simp] theorem setLane_lease (l : Lane) (x : LaneSt) (s : State) : (setLane l x s).lanes.lease = s.lanes.lease := by cases l <;> rfl

/-- What a submitted claim of a lane or of the logic supplies leaves: all but ledgers, counters and records, and the lane it belongs to. -/
theorem submit_keeps {c : Claim} (hc : (∃ l, c.owner = .run l) ∨ c.owner = .logic) (k : Nat) (s : State) :
    let v := submit k c s
    v.core = s.core ∧ v.outs = s.outs ∧ v.lanes.holder = s.lanes.holder ∧ v.lanes.gate = s.lanes.gate ∧ v.lanes.lease = s.lanes.lease ∧
      (c.owner = .logic → v.lanes = s.lanes) := by
  unfold submit
  rcases hc with ⟨l, hc⟩ | hc <;> simp only [hc, onRefused, onAdmitted, runAdmit] <;> (repeat' split) <;> simp

/-- What `lockDomains` and CLK_SRC leave of a Sundial and its real-time clock. -/
structure SunKept (s t : State) : Prop where
  idle : s.sun.run = false → t.sun.run = false
  valid : t.sun.rtcValid = s.sun.rtcValid
  rtc : t.sun.rtc = s.sun.rtc

theorem SunKept.of_eq {s t : State} (h : t.sun = s.sun) : SunKept s t := ⟨fun hr => h ▸ hr, by rw [h], by rw [h]⟩

theorem SunKept.trans {s t u : State} (h : SunKept s t) (h' : SunKept t u) : SunKept s u :=
  ⟨fun hr => h'.idle (h.idle hr), h'.valid.trans h.valid, h'.rtc.trans h.rtc⟩

theorem SunKept.withClock (s : State) (c : Clock) : SunKept s { s with clock := c } := .of_eq rfl

theorem SunKept.foldl {α : Type} {f : State → α → State} (h : ∀ s a, SunKept s (f s a)) (l : List α) (s : State) :
    SunKept s (l.foldl f s) := by
  induction l generalizing s with
  | nil => exact .of_eq rfl
  | cons a l ih => exact (h s a).trans (ih _)

theorem gnssStop_sunKept (s : State) : SunKept s (gnssStop s) := by
  have hlose : ∀ t : State, SunKept t (loseGnss t) := fun t => by
    unfold loseGnss enterHoldover
    split
    · exact ⟨id, rfl, rfl⟩
    · exact .of_eq rfl
  have hbase : SunKept s (baseStop s) := .of_eq rfl
  unfold gnssStop
  refine (hbase.trans (hlose _)).trans (.of_eq ?_)
  simp

theorem domainEffect_sunKept (d : Nat) (src : ClkSrc) (s : State) : SunKept s (domainEffect d src s) := by
  have hinv : SunKept s (setInvalid (setDegraded true .warning s)) := by
    unfold setInvalid
    split
    · exact .of_eq (by simp)
    · constructor <;> simp
  unfold domainEffect
  split
  case h_1 => exact .foldl (fun s p => by split <;> exact .of_eq (by simp)) _ _
  case h_2 => split <;> [exact .of_eq (by simp); exact .of_eq rfl]
  case h_3 => exact gnssStop_sunKept s
  case h_4 => split <;> [exact .of_eq (by simp); exact .of_eq rfl]
  case h_5 => split <;> exact .of_eq (by simp)
  case h_6 =>
    dsimp only
    split
    · exact hinv.trans ⟨fun _ => rfl, rfl, rfl⟩
    · exact hinv
  case h_7 => exact .of_eq rfl

theorem toSource_sunKept (d : Nat) (src : ClkSrc) (s : State) : SunKept s (toSource d src s) := by
  unfold toSource
  dsimp only
  split
  · exact .of_eq rfl
  · have hcount : ∀ c, SunKept s (if src = .stopped then { s with clock := c } else bump 0x0002000C 0 { s with clock := c }) :=
      fun c => by split <;> exact .of_eq (by simp)
    split
    · exact hcount _
    · exact (hcount _).trans (domainEffect_sunKept _ _ _)

theorem lockDomains_sunKept (refOk : Bool) (s : State) : SunKept s (lockDomains refOk s) := by
  unfold lockDomains
  dsimp only
  split
  · split <;> exact .of_eq (by simp)
  · exact (SunKept.withClock s _).trans (.foldl (fun s d => toSource_sunKept _ _ _) _ _)

theorem writeClkSrc_sunKept (v : Word) (s : State) : SunKept s (writeClkSrc v s) := by
  unfold writeClkSrc
  dsimp only
  refine (SunKept.withClock s _).trans (.foldl (fun s d => ?_) _ _)
  split
  · exact toSource_sunKept _ _ _
  · exact .of_eq rfl

/-- The clocks lock: what REF_PLLS_LOCKED does before the Sundial starts. -/
def pllsLocked (refOk : Bool) (s : State) : State :=
  let s := lockDomains refOk s
  writeClkSrc ((s.clock.stay.zeroExtend 32 <<< 16) ||| s.clock.force.zeroExtend 32) s

theorem pllsLocked_sunKept (refOk : Bool) (s : State) : SunKept s (pllsLocked refOk s) := by
  unfold pllsLocked
  exact (lockDomains_sunKept refOk s).trans (writeClkSrc_sunKept _ _)

/-- The Sundial and the running claim behind that. -/
def sundialUp (ran : Bool) (s : State) : State :=
  let s := startSundial s
  if ran then s else { s with sys := { s.sys with dawnAt := s.sun.time } }

theorem refPllsLocked_runs {t : Time} {refOk : Bool} {s : State} (h : inStep (advanceTo t s) .plls = true) :
    exec (.refPllsLocked t refOk) s = .next (goStep .selfTest (submit 4 (runClaim .a)
      (sundialUp (advanceTo t s).sun.run (pllsLocked refOk (advanceTo t s))))) := by
  rw [exec_refPllsLocked]
  unfold execRefPllsLocked sundialUp pllsLocked
  generalize advanceTo t s = u at h
  simp only [h, Bool.not_true, Bool.false_eq_true, if_false]

/-- A Sundial that did not run starts, UNSET, from the real-time clock where that is valid (R324). -/
theorem startSundial_idle {s t : State} (h : SunKept s t) (hr : s.sun.run = false) : let v := startSundial t
    v.sun.run = true ∧ v.sun.state = .unset ∧ v.sun.time = (if s.sun.rtcValid then s.sun.rtc else 0) ∧ v.sun.known = s.sun.rtcValid := by
  unfold startSundial
  simp [h.idle hr, h.valid, h.rtc]

theorem sundialUp_keeps (ran : Bool) (s : State) : let v := sundialUp ran s
    v.sys.state = s.sys.state ∧ v.store = s.store ∧ v.lanes = s.lanes ∧ v.outs = s.outs := by
  unfold sundialUp
  cases ran <;> simp

@[simp] theorem pllsLocked_keeps (refOk : Bool) (s : State) : let v := pllsLocked refOk s
    v.sys = s.sys ∧ v.store = s.store ∧ v.lanes = s.lanes ∧ v.outs = s.outs := by
  unfold pllsLocked
  simp

/-- What REF_PLLS_LOCKED does when it is due. -/
def pllsUp (refOk : Bool) (s : State) : State :=
  goStep .selfTest (submit 4 (runClaim .a) (sundialUp s.sun.run (pllsLocked refOk s)))

theorem pllsUp_spec (refOk : Bool) {s : State} (h : s.sys.state = .dawn) : let v := pllsUp refOk s
    v.sys.dawn = .selfTest ∧ v.sys.state = .dawn ∧
      (s.sun.run = false → v.sun.run = true ∧ v.sun.state = .unset ∧ v.sun.time = (if s.sun.rtcValid then s.sun.rtc else 0) ∧
        v.sun.known = s.sun.rtcValid ∧ v.sys.dawnAt = v.sun.time) ∧
      v.store = s.store ∧ v.lanes.holder = s.lanes.holder ∧ v.lanes.gate = s.lanes.gate ∧ v.outs = s.outs := by
  obtain ⟨hsys, hstore, hlanes, houts⟩ := sundialUp_keeps s.sun.run (pllsLocked refOk s)
  obtain ⟨-, houts', hholder, hgate, -, -⟩ := submit_keeps (c := runClaim .a) (.inl ⟨.a, rfl⟩) 4 (sundialUp s.sun.run (pllsLocked refOk s))
  refine ⟨rfl, ?_, fun hrun => ?_, ?_, ?_, ?_, ?_⟩
  · simp [pllsUp, goStep, hsys, h]
  · obtain ⟨hr, hst, htime, hknown⟩ := startSundial_idle (pllsLocked_sunKept refOk s) hrun
    have hsun : (pllsUp refOk s).sun = (startSundial (pllsLocked refOk s)).sun := by simp [pllsUp, goStep, sundialUp, hrun]
    have hat : (pllsUp refOk s).sys.dawnAt = (startSundial (pllsLocked refOk s)).sun.time := by simp [pllsUp, goStep, sundialUp, hrun]
    rw [hsun]
    exact ⟨hr, hst, htime, hknown, hat⟩
  · simp [pllsUp, goStep, hstore]
  · simp [pllsUp, goStep, hholder, hlanes]
  · simp [pllsUp, goStep, hgate, hlanes]
  · simp [pllsUp, goStep, houts', houts]

/-- What a load switch's claim leaves. -/
theorem lswClaimOn_keeps (n : Nat) (s : State) : let v := lswClaimOn n s
    v.core = s.core ∧ v.lanes = s.lanes ∧ v.inputs = s.inputs ∧ v.gnss = s.gnss ∧ v.panel = s.panel := by
  unfold lswClaimOn
  dsimp only
  split
  · simp
  · split
    · simp
    · simp [frame_submit_chan _ _ _ (ownsChan_lswClaim _)]

theorem limpFollow_lanes (n : Nat) (s : State) : (limpFollow n s).lanes = s.lanes := by
  unfold limpFollow
  dsimp only
  (repeat' split) <;> simp [lswClaimOn_keeps]

theorem enterHold_lanes (cause : BitVec 8) (refusal : BitVec 16) (why : DayCause) (s : State) :
    (enterHold cause refusal why s).lanes = s.lanes := by
  have hlimp : ∀ t, (limpStart t).lanes = t.lanes := fun t => by
    unfold limpStart
    exact foldl_keeps (fun t => t.lanes) (fun t n => limpFollow_lanes n t) _ _
  unfold enterHold
  dsimp only
  split <;> simp [hlimp]

/-- DAWN reaches the hold where R27 does not end it in DUSK. -/
theorem reachHold_holds {cause : BitVec 8} {refusal : BitVec 16} {s : State} (h : kl15Ends s = false) :
    reachHold cause refusal s = enterHold cause refusal .hold s := by
  unfold reachHold
  rw [h]
  exact if_neg Bool.false_ne_true

theorem kl15Ends_congr {s t : State} (h : t.sys = s.sys) : kl15Ends t = kl15Ends s := by
  unfold kl15Ends
  rw [h]

theorem closeResponder_store (s : State) : (closeResponder s).store = { s.store with owner := (closeResponder s).store.owner } := by
  unfold closeResponder closeSession
  split <;> rfl

/-! ### Self-test (R29, R30, R32, R56, R301) -/

/-- Both lanes tested, and the other results of the self-test. -/
def selfTested (a b imu panel : Bool) (s : State) : State :=
  let s := tested .b b (tested .a a s)
  { s with inputs := { s.inputs with imuRun := true, imuFail := !imu }, panel := { s.panel with fitted := panel } }

/-- The lane that the self-test chooses. -/
def chosen (a : Bool) : Lane := if a then .a else .b

/-- The chosen lane has the Whorl and its claim. -/
def testTook (a b imu panel : Bool) (s : State) : State :=
  let s := selfTested a b imu panel s
  closeResponder (takeWhorl (chosen a) (if a then s else enter 4 (runClaim .b) (returnLane .a s)))

theorem selfTestComplete_none {t : Time} {imu panel : Bool} {s : State} (h : inStep (advanceTo t s) .selfTest = true)
    (hh : holds (advanceTo t s) 4 (.run .a) = true) : exec (.selfTestComplete t false false imu panel) s =
      .next (reachHold 5 0 (returnLane .a (selfTested false false imu panel (advanceTo t s)))) := by
  rw [exec_selfTestComplete]
  unfold execSelfTestComplete selfTested
  simp only [h, hh, Bool.not_true, Bool.or_self, Bool.false_eq_true, if_false, Bool.not_false, Bool.and_self, if_true]

theorem selfTestComplete_takes {t : Time} {a b imu panel : Bool} {s w : State} (h : inStep (advanceTo t s) .selfTest = true)
    (hh : holds (advanceTo t s) 4 (.run .a) = true) (hab : a = true ∨ b = true)
    (hw : testTook a b imu panel (advanceTo t s) = w) (hgo : (w.sys.stayDawn && w.sys.warm) = false) :
    exec (.selfTestComplete t a b imu panel) s = .next (goStep .distaff w) := by
  have hsome : (!a && !b) = false := by rcases hab with rfl | rfl <;> simp
  subst hw
  unfold testTook selfTested chosen at hgo ⊢
  rw [exec_selfTestComplete]
  unfold execSelfTestComplete
  simp only [h, hh, hsome, hgo, Bool.not_true, Bool.or_self, Bool.false_eq_true, if_false]

theorem selfTestComplete_stays {t : Time} {a b imu panel : Bool} {s w : State} (h : inStep (advanceTo t s) .selfTest = true)
    (hh : holds (advanceTo t s) 4 (.run .a) = true) (hab : a = true ∨ b = true)
    (hw : testTook a b imu panel (advanceTo t s) = w) (hstay : (w.sys.stayDawn && w.sys.warm) = true)
    (hhold : (reachHold 6 0 w).sys.hold = true) :
    exec (.selfTestComplete t a b imu panel) s = .next (goStep .distaff (reachHold 6 0 w)) := by
  have hsome : (!a && !b) = false := by rcases hab with rfl | rfl <;> simp
  subst hw
  unfold testTook selfTested chosen at hstay hhold ⊢
  rw [exec_selfTestComplete]
  unfold execSelfTestComplete
  simp only [h, hh, hsome, hstay, hhold, Bool.not_true, Bool.or_self, Bool.false_eq_true, if_false, if_true]

theorem selfTested_keeps (a b imu panel : Bool) (s : State) : let v := selfTested a b imu panel s
    v.sys = s.sys ∧ v.store = s.store ∧ v.outs = s.outs ∧ v.lanes.holder = s.lanes.holder ∧ v.lanes.lease = s.lanes.lease ∧
      v.inputs.imuRun = true ∧ v.inputs.imuFail = !imu ∧ v.panel.fitted = panel ∧
      v.lanes.la.state = (if a then .waking else .failed) ∧ v.lanes.lb.state = (if b then .waking else .failed) ∧
      (a = false → v.lanes.la.cause = 7) ∧ (b = false → v.lanes.lb.cause = 7) := by
  unfold selfTested tested failLane
  cases a <;> cases b <;> simp [setLane, lane]

theorem takeWhorl_spec (l : Lane) (s : State) : let v := takeWhorl l s
    v.lanes.holder = some l ∧ v.lanes.gate = true ∧ (lane v l).state = .active ∧ lane v l.other = lane s l.other ∧
      v.lanes.remain = s.lanes.lease.vote.toNat * lkoNs := by
  unfold takeWhorl
  cases l <;> simp [lane, setLane, Lane.other]

theorem testTook_spec (a b imu panel : Bool) (s : State) (hab : a = true ∨ b = true) : let v := testTook a b imu panel s
    v.sys = s.sys ∧ v.lanes.holder = some (chosen a) ∧ v.lanes.gate = true ∧ (lane v (chosen a)).state = .active ∧
      (lane v (chosen a).other).state = (if a && b then .waking else .failed) ∧
      v.lanes.remain = s.lanes.lease.vote.toNat * lkoNs ∧ v.inputs.imuRun = true ∧ v.inputs.imuFail = !imu ∧
      v.panel.fitted = panel ∧ v.store = { s.store with owner := v.store.owner } ∧ v.outs = s.outs := by
  obtain ⟨hsys, hstore, houts, hholder, hlease, hrun, hfail, hfit, hla, hlb, -, -⟩ := selfTested_keeps a b imu panel s
  unfold testTook
  dsimp only
  generalize hw : (if a then selfTested a b imu panel s else enter 4 (runClaim .b) (returnLane .a (selfTested a b imu panel s))) = w
  have hlanes : w.lanes = (selfTested a b imu panel s).lanes := by rw [← hw]; split <;> simp
  obtain ⟨hh, hg, hact, hother, hrem⟩ := takeWhorl_spec (chosen a) w
  have hstate : (lane w (chosen a).other).state = if a && b then .waking else .failed := by
    unfold lane
    rw [hlanes]
    rcases hab with rfl | rfl
    · cases b <;> simpa [chosen, Lane.other] using hlb
    · cases a <;> simp_all [chosen, Lane.other]
  have hlane : ∀ t : State, ∀ l, lane (closeResponder t) l = lane t l := fun t l => by unfold lane; simp
  have hlease' : w.lanes.lease = s.lanes.lease := by rw [hlanes, hlease]
  have hkeep : w.sys = s.sys ∧ w.store = s.store ∧ w.outs = s.outs ∧ w.inputs = (selfTested a b imu panel s).inputs ∧
      w.panel = (selfTested a b imu panel s).panel := by
    rw [← hw]
    split <;> simp [hsys, hstore, houts]
  obtain ⟨hsys', hstore', houts', hinputs', hpanel'⟩ := hkeep
  refine ⟨by simpa using hsys', by simpa using hh, by simpa using hg, ?_, ?_, ?_, ?_, ?_, ?_, ?_, by simpa using houts'⟩
  · rw [hlane]
    exact hact
  · rw [hlane, hother]
    exact hstate
  · simpa [hlease'] using hrem
  · simpa [hinputs'] using hrun
  · simpa [hinputs'] using hfail
  · simpa [hpanel'] using hfit
  · refine (closeResponder_store _).trans ?_
    rw [show (takeWhorl (chosen a) w).store = s.store by simp [hstore']]

/-- The hold of a DAWN whose lanes both fail their test. -/
theorem testedNone_spec {imu panel : Bool} {s : State} (hk : kl15Ends s = false) :
    let v := reachHold 5 0 (returnLane .a (selfTested false false imu panel s))
    v.sys.state = .dawn ∧ v.sys.hold = true ∧ v.sys.holdCause = 5 ∧ v.lanes.la.state = .failed ∧ v.lanes.la.cause = 7 ∧
      v.lanes.lb.state = .failed ∧ v.lanes.lb.cause = 7 ∧ v.lanes.holder = s.lanes.holder := by
  obtain ⟨hsys, -, -, hholder, -, -, -, -, hla, hlb, hca, hcb⟩ := selfTested_keeps false false imu panel s
  have hk' : kl15Ends (returnLane .a (selfTested false false imu panel s)) = false := by
    rw [kl15Ends_congr (s := s) (by simp [hsys]), hk]
  rw [reachHold_holds hk']
  simp [enterHold_lanes, hla, hlb, hca, hcb, hholder]

/-! ### The Distaff boots (R29, R234, R254) -/

theorem setLedger_tally_eq (k : Nat) (l : Ledger) (s : State) :
    (setLedger k l s).tally = { s.tally with ledgers := (setLedger k l s).tally.ledgers } := rfl

theorem trackOver_tally (k : Nat) (s : State) : (trackOver k s).tally = { s.tally with ledgers := (trackOver k s).tally.ledgers } := by
  unfold trackOver
  dsimp only
  split <;> rfl

theorem enter_tally (k : Nat) (c : Claim) (s : State) : (enter k c s).tally = { s.tally with ledgers := (enter k c s).tally.ledgers } := by
  unfold enter
  rw [trackOver_tally]
  rfl

/-- Of the Tally a claim submitted changes the ledgers alone. -/
theorem submit_tally (k : Nat) (c : Claim) (s : State) : (submit k c s).tally = { s.tally with ledgers := (submit k c s).tally.ledgers } := by
  have href : ∀ o t, (onRefused o t).tally = t.tally := fun o t => by
    unfold onRefused
    split <;> rfl
  unfold submit
  (repeat' split)
  · rw [href]
  · rfl
  · rw [show (onAdmitted c.owner (enter k c s)).tally = (enter k c s).tally by simp]
    exact enter_tally _ _ _
  · rw [href]
    simp [recordRefusal]
  · simp [enqueue]

@[simp] theorem engageEngine_run (e : Nat) (s : State) : (engageEngine e s).gnss.run = s.gnss.run := by
  unfold engageEngine setEng
  dsimp only
  (repeat' split) <;> simp

@[simp] theorem engageAll_run (s : State) : (engageAll s).gnss.run = s.gnss.run := by
  unfold engageAll
  exact foldl_keeps (fun s => s.gnss.run) (fun s e => engageEngine_run e s) _ _

@[simp] theorem restartBaseband_run (s : State) : (restartBaseband s).gnss.run = s.gnss.run := by
  unfold restartBaseband
  rw [engageAll_run]
  rfl

@[simp] theorem setAnt_keeps (n : Nat) (x : BitVec 2) (s : State) : let v := setAnt n x s
    v.gnss.run = s.gnss.run ∧ v.outs = s.outs ∧ v.upd.step = s.upd.step := by
  unfold setAnt
  dsimp only
  (repeat' split) <;> simp

/-- What the claim of an antenna bias leaves. -/
theorem claimBias_keeps (n : Nat) (s : State) : let v := claimBias n s
    v.gnss.run = s.gnss.run ∧ v.outs = s.outs ∧ v.upd.step = s.upd.step ∧ v.tally = { s.tally with ledgers := v.tally.ledgers } := by
  have hant : ∀ t, (antAdmitted n t).gnss.run = t.gnss.run ∧ (antAdmitted n t).outs = t.outs ∧
      (antAdmitted n t).upd.step = t.upd.step := fun t => by
    unfold antAdmitted
    dsimp only
    split <;> simp
  have hrest : ∀ c : Claim, c.owner = .antenna n → (submit 4 c s).gnss.run = s.gnss.run ∧ (submit 4 c s).outs = s.outs ∧
      (submit 4 c s).upd.step = s.upd.step := fun c hc => by
    unfold submit
    simp only [hc, onRefused, onAdmitted]
    (repeat' split) <;> simp [hant, recordRefusal, enqueue, replaceQueued]
  unfold claimBias
  dsimp only
  split
  · exact ⟨rfl, rfl, rfl, rfl⟩
  · obtain ⟨hr, ho, hs⟩ := hrest (antennaClaim n) rfl
    exact ⟨hr, ho, hs, submit_tally _ _ _⟩

/-- The Distaff as it comes up: the limits in force are the stored ones. -/
def distaffFresh (s : State) : State :=
  let y := s.tally
  holderSlot { s with
    distaff := {}
    tally := { y with
      in0 := y.limit0.vote, in1 := y.limit1.vote, in2 := y.limit2.vote, in3 := y.limit3.vote
      inTotal := y.total.vote, inStagger := y.stagger.vote, inWait := y.waitMax.vote } }

/-- The baseband as it then searches. -/
def searching (s : State) : State :=
  if s.gnss.run then engageAll s else restartBaseband { s with gnss := { s.gnss with run := true } }

/-- The antenna biases as they are then claimed. -/
def biasesClaimed (s : State) : State :=
  let s := if s.gnss.bias0 && decide (s.gnss.ant0 = 0) then claimBias 0 s else s
  if s.gnss.bias1 && decide (s.gnss.ant1 = 0) then claimBias 1 s else s

theorem distaffBooted_runs {t : Time} {s : State} (h : inStep (advanceTo t s) .distaff = true) :
    exec (.distaffBooted t) s = .next (goStep .journal (biasesClaimed (searching (distaffFresh (advanceTo t s))))) := by
  rw [exec_distaffBooted]
  unfold execDistaffBooted biasesClaimed searching distaffFresh
  simp only [h, Bool.not_true, Bool.false_eq_true, if_false]

theorem searching_keeps (s : State) : let v := searching s
    v.gnss.run = true ∧ v.sys = s.sys ∧ v.tally = s.tally ∧ v.distaff = s.distaff ∧ v.store = s.store ∧ v.sun = s.sun ∧
      v.outs = s.outs ∧ v.upd = s.upd := by
  unfold searching
  split <;> simp [*]

/-- What a bias claimed where it is wanted keeps. -/
structure BiasKept (s t : State) : Prop where
  sys : t.sys = s.sys
  run : t.gnss.run = s.gnss.run
  tally : ∃ l, t.tally = { s.tally with ledgers := l }
  distaff : t.distaff = s.distaff
  store : t.store = s.store
  sun : t.sun = s.sun
  outs : t.outs = s.outs
  step : t.upd.step = s.upd.step

theorem claimBias_kept (c : Bool) (n : Nat) (s : State) : BiasKept s (if c then claimBias n s else s) := by
  obtain ⟨hr, ho, hs, ht⟩ := claimBias_keeps n s
  cases c
  · exact ⟨rfl, rfl, ⟨_, rfl⟩, rfl, rfl, rfl, rfl, rfl⟩
  · exact ⟨by simp, hr, ⟨_, ht⟩, by simp, by simp, by simp, ho, hs⟩

theorem BiasKept.trans {s t u : State} (h : BiasKept s t) (h' : BiasKept t u) : BiasKept s u := by
  obtain ⟨l, hl⟩ := h.tally
  obtain ⟨l', hl'⟩ := h'.tally
  exact ⟨h'.sys.trans h.sys, h'.run.trans h.run, ⟨l', by rw [hl', hl]⟩, h'.distaff.trans h.distaff, h'.store.trans h.store,
    h'.sun.trans h.sun, h'.outs.trans h.outs, h'.step.trans h.step⟩

theorem biasesClaimed_kept (s : State) : BiasKept s (biasesClaimed s) := (claimBias_kept _ 0 s).trans (claimBias_kept _ 1 _)

theorem distaffUp_spec (s : State) : let v := goStep .journal (biasesClaimed (searching (distaffFresh s)))
    v.sys = { s.sys with dawn := .journal } ∧ v.gnss.run = true ∧ v.distaff.queue = [] ∧ v.tally.in0 = s.tally.limit0.vote ∧
      v.tally.in1 = s.tally.limit1.vote ∧ v.tally.in2 = s.tally.limit2.vote ∧ v.tally.in3 = s.tally.limit3.vote ∧
      v.tally.inTotal = s.tally.total.vote ∧ v.tally.inStagger = s.tally.stagger.vote ∧ v.tally.inWait = s.tally.waitMax.vote ∧
      v.store = s.store ∧ v.sun = s.sun ∧ v.outs = s.outs ∧ v.upd.step = s.upd.step := by
  obtain ⟨hrun, hsys, htally, hdistaff, hstore, hsun, houts, hupd⟩ := searching_keeps (distaffFresh s)
  have hk := biasesClaimed_kept (searching (distaffFresh s))
  obtain ⟨l, hl⟩ := hk.tally
  simp only [goStep, hk.sys, hk.run, hl, hk.distaff, hk.store, hk.sun, hk.outs, hk.step, hsys, hrun, htally, hdistaff, hstore,
    hsun, houts, hupd]
  simp [distaffFresh]

/-- What LOGIC_SUPPLIES_UP does when it is due: the logic claim stands from here on. -/
theorem suppliesUp_spec (s : State) : let v := goStep .plls (if holds s 4 .logic then s else submit 4 logicClaim s)
    v.sys = { s.sys with dawn := .plls } ∧ (holds s 4 .logic = true → v = { s with sys := v.sys }) ∧
      (holds s 4 .logic = false → waits s 4 .logic = false → (ledger s 4).queue = [] → fits s 4 logicClaim = true →
        holds v 4 .logic = true) ∧
      v.core = s.core ∧ v.lanes = s.lanes ∧ v.store = s.store ∧ v.sun = s.sun ∧ v.clock = s.clock ∧ v.outs = s.outs := by
  obtain ⟨hcore, houts, -, -, -, hlanes⟩ := submit_keeps (c := logicClaim) (.inr rfl) 4 s
  cases hh : holds s 4 .logic
  · refine ⟨by simp [goStep], nofun, fun _ _ hq hf => ?_, by simp [goStep, hcore], by simp [goStep, hlanes rfl], by simp [goStep],
      by simp [goStep], by simp [goStep], by simp [goStep, houts]⟩
    simp only [goStep, Bool.false_eq_true, if_false, submit_admits hq hf]
    exact holds_enter 4 logicClaim s
  · exact ⟨rfl, fun _ => rfl, nofun, rfl, rfl, rfl, rfl, rfl, rfl⟩

/-! ### The obligation -/

/-- Settles O11: what each command that starts or continues a DAWN does when it is due. -/
theorem dawnRuns : Obligations.DawnRuns := by
  refine ⟨⟨fun t s => ?vbat, fun t s hp hm => ?midnight⟩, ⟨fun t s h => ?supplies, fun t refOk s h => ?plls,
    fun t a b imu panel s h hh => ?selfTest, fun t s h => ?distaff⟩⟩
  case vbat =>
    refine ⟨fun hp => ⟨_, vbatQualified_off hp, fromOff_spec t _⟩, fun hp ho => ?_, fun hp hd hm => ?_⟩
    · refine ⟨_, (vbatQualified_off hp).trans (congrArg _ (fromOff_cold ho)), ?_⟩
      generalize advanceTo t s = u
      refine ⟨by simp, by simp, by simp, by simp, ?_, ?_, fun hb => ?_, fun o ho hl => ?_, ?_⟩
      · rw [coldDawn_eq]
        simp
      · rw [coldDawn_sun, spendBackup_eq]
      · rw [coldDawn_sun, spendBackup_brief hb]
      · rw [coldDawn_sun, spendBackup_long ho hl]
      · have hskein := coldDawn_skein 0 0 .powerOn (spendBackup t u)
        rw [show (spendBackup t u).skein = u.skein by simp] at hskein
        apply State.eq_of_parts
        case h19 => exact hskein
        all_goals simp
    · refine ⟨_, vbatQualified_holdup hp hd, ?_⟩
      generalize advanceTo t s = u at hm
      obtain ⟨hcore, hring, hstep, hrun, hflag⟩ := powerOff_spec t u
      simp [hcore, hring, hstep, hrun, hflag, hm]
  case midnight =>
    refine ⟨⟨_, kl15Rising_wakes hp hm, ?_⟩, fun n => ⟨_, wakeLineAsserted_wakes hp hm, ?_⟩,
      fun hv => ⟨_, rtcAlarm_wakes hp hm hv, ?_⟩, fun hk => ⟨_, midnightPendingWake_wakes hp hm hk, ?_⟩⟩
    · simp
    · simp
      omega
    · simp
    · simp
  case supplies =>
    refine ⟨_, logicSuppliesUp_runs h, ?_⟩
    generalize advanceTo t s = u
    exact suppliesUp_spec u
  case plls => exact ⟨_, refPllsLocked_runs h, pllsUp_spec refOk (inStep_dawn h)⟩
  case selfTest =>
    refine ⟨fun ha hb hk => ?none, fun hab hstay => ?takes, fun hab hstay hwarm hk => ?stays⟩
    case none =>
      subst ha hb
      refine ⟨_, selfTestComplete_none h hh, ?_⟩
      generalize advanceTo t s = u at hk
      exact testedNone_spec hk
    case takes =>
      generalize hw : testTook a b imu panel (advanceTo t s) = w
      have hspec := testTook_spec a b imu panel (advanceTo t s) hab
      rw [hw] at hspec
      obtain ⟨hsys, hholder, hgate, hact, hother, hrem, hrun, hfail, hfit, hstore, houts⟩ := hspec
      refine ⟨_, selfTestComplete_takes h hh hab hw ?_, ?_⟩
      · rw [hsys]
        rcases hstay with hstay | hstay <;> rw [hstay] <;> simp
      · have hc : (if a then Lane.b else Lane.a) = (chosen a).other := by cases a <;> rfl
        rw [hc]
        exact ⟨by rw [← hsys]; rfl, hholder, hgate, hact, hother, hrem, hrun, hfail, hfit, hstore, houts⟩
    case stays =>
      generalize hw : testTook a b imu panel (advanceTo t s) = w
      have hspec := testTook_spec a b imu panel (advanceTo t s) hab
      rw [hw] at hspec
      obtain ⟨hsys, hholder, hgate, -⟩ := hspec
      have hhold := reachHold_holds (cause := 6) (refusal := 0) ((kl15Ends_congr hsys).trans hk)
      refine ⟨_, selfTestComplete_stays h hh hab hw ?_ ?_, ?_⟩
      · rw [hsys, hstay, hwarm]
        rfl
      · rw [hhold, enterHold_sys]
      · rw [hhold]
        simp [goStep, enterHold_lanes, hholder, hgate, chosen]
  case distaff => exact ⟨_, distaffBooted_runs h, distaffUp_spec _⟩

end Sys2Proof.Machine
end

section
/-! PROOFS. What the Skein keeps where an operation does no more than raise records: its ring and its buffer (R372). -/
namespace Sys2Proof.Machine
open Sys2Proof.Safety

/-- What the Skein has written and what it buffers: raising a record leaves both. -/
def Skein.kept (x : Skein) : SMap Record × List Record := (x.ring, x.buffer)

@[simp] theorem Skein.kept_mk (raised buffer ring seq clrRes clearing last chal chalAt token key triggers burst) :
    Skein.kept ⟨raised, buffer, ring, seq, clrRes, clearing, last, chal, chalAt, token, key, triggers, burst⟩ = (ring, buffer) := rfl

@[simp] theorem Skein.ring_buffer (x : Skein) : (x.ring, x.buffer) = x.kept := rfl

theorem Skein.ring_of_kept {x y : Skein} (h : x.kept = y.kept) : x.ring = y.ring := congrArg Prod.fst h

theorem Skein.buffer_of_kept {x y : Skein} (h : x.kept = y.kept) : x.buffer = y.buffer := congrArg Prod.snd h

@[simp] theorem foldl_kept {α : Type} (f : State → α → State) (h : ∀ s a, (f s a).skein.kept = s.skein.kept) (l : List α) (s : State) :
    (l.foldl f s).skein.kept = s.skein.kept :=
  foldl_keeps (fun s => s.skein.kept) h l s

@[simp] theorem kept_raise (sev : Severity) (source : BitVec 8) (code : BitVec 16) (args : List Word) (s : State) :
    (raise sev source code args s).skein.kept = s.skein.kept := by
  simp [raise]

@[simp] theorem kept_bump (addr idx : Nat) (s : State) :
    (bump addr idx s).skein.kept = s.skein.kept := by
  unfold bump; (repeat' split) <;> simp

@[simp] theorem kept_bumps (addr idx : Nat) (n_ : Nat) (s : State) :
    (bumps addr idx n_ s).skein.kept = s.skein.kept := by
  induction n_ generalizing addr idx s with
  | zero => simp [bumps]
  | succ n ih => simp [bumps, ih]

@[simp] theorem kept_answer (r : Req) (rep : Reply) (s : State) :
    (answer r rep s).skein.kept = s.skein.kept := by
  unfold answer; (repeat' split) <;> simp

@[simp] theorem kept_unserved (who : Requester) (s : State) :
    (unserved who s).skein.kept = s.skein.kept := by
  unfold unserved; (repeat' split) <;> simp

@[simp] theorem kept_toDay (new : DayState) (cause : DayCause) (fault : Bool) (s : State) :
    (toDay new cause fault s).skein.kept = s.skein.kept := by
  simp [toDay]

@[simp] theorem kept_sourceRecord (index : Nat) (st : SigStatus) (s : State) :
    (sourceRecord index st s).skein.kept = s.skein.kept := by
  simp [sourceRecord]

@[simp] theorem kept_noteDeparture (index : Nat) (was : List Sample) (st : SigStatus) (s : State) :
    (noteDeparture index was st s).skein.kept = s.skein.kept := by
  unfold noteDeparture; (repeat' split) <;> simp

@[simp] theorem kept_lateRecord (index : Nat) (stamp : Time) (s : State) :
    (lateRecord index stamp s).skein.kept = s.skein.kept := by
  simp [lateRecord]

@[simp] theorem kept_land (index : Nat) (w : Writer) (value : Word) (stamp : Time) (status : SigStatus) (s : State) :
    (land index w value stamp status s).skein.kept = s.skein.kept := by
  unfold land; dsimp only; (repeat' split) <;> simp

@[simp] theorem kept_quarantineNewest (index : Nat) (s : State) :
    (quarantineNewest index s).skein.kept = s.skein.kept := by
  unfold quarantineNewest; dsimp only; (repeat' split) <;> simp

@[simp] theorem kept_readSignal (reader : Option Nat) (index : Nat) (fb : Fallback) (ti start : Time) (s : State) :
    ((readSignal reader index fb ti start s).2).skein.kept = s.skein.kept := by
  unfold readSignal; dsimp only; (repeat' split) <;> simp

@[simp] theorem kept_offer (b : Nat) (stamp : Time) (aux : BitVec 16) (bytes : List Byte) (s : State) :
    ((offer b stamp aux bytes s).2).skein.kept = s.skein.kept := by
  unfold offer; dsimp only; (repeat' split) <;> simp

@[simp] theorem kept_release (n : Nat) (ti : Time) (arrival : Bool) (s : State) :
    (release n ti arrival s).skein.kept = s.skein.kept := by
  unfold release; dsimp only; (repeat' split) <;> simp

@[simp] theorem kept_finish (sp : Nat) (a : Activation) (s : State) :
    (finish sp a s).skein.kept = s.skein.kept := by
  unfold finish; dsimp only; (repeat' split) <;> simp

@[simp] theorem kept_trapOne (sp cause : Nat) (args : List Word) (a : Activation) (s : State) :
    (trapOne sp cause args a s).skein.kept = s.skein.kept := by
  unfold trapOne; dsimp only; (repeat' split) <;> simp

@[simp] theorem kept_breakBarriers (n_ : Nat) (s : State) :
    (breakBarriers n_ s).skein.kept = s.skein.kept := by
  induction n_ generalizing s with
  | zero => simp [breakBarriers]
  | succ n ih => unfold breakBarriers; (repeat' split) <;> simp [ih]

@[simp] theorem kept_trap (sp cause : Nat) (args : List Word) (a : Activation) (s : State) :
    (trap sp cause args a s).skein.kept = s.skein.kept := by
  simp [trap]

@[simp] theorem kept_recordRefusal (k : Nat) (o : Owner) (s : State) :
    (recordRefusal k o s).skein.kept = s.skein.kept := by
  simp [recordRefusal]

@[simp] theorem kept_enqueue (k : Nat) (c : Claim) (s : State) :
    (enqueue k c s).skein.kept = s.skein.kept := by
  simp [enqueue]

@[simp] theorem kept_discardQueued (k : Nat) (s : State) :
    (discardQueued k s).skein.kept = s.skein.kept := by
  simp [discardQueued]

@[simp] theorem kept_setAnt (n : Nat) (v : BitVec 2) (s : State) :
    (setAnt n v s).skein.kept = s.skein.kept := by
  unfold setAnt; (repeat' split) <;> simp

@[simp] theorem kept_antAdmitted (n : Nat) (s : State) :
    (antAdmitted n s).skein.kept = s.skein.kept := by
  unfold antAdmitted; dsimp only; (repeat' split) <;> simp

@[simp] theorem kept_onAdmitted (o : Owner) (s : State) :
    (onAdmitted o s).skein.kept = s.skein.kept := by
  unfold onAdmitted; dsimp only; (repeat' split) <;> simp

@[simp] theorem kept_submit (k : Nat) (c : Claim) (s : State) :
    (submit k c s).skein.kept = s.skein.kept := by
  unfold submit; (repeat' split) <;> simp

@[simp] theorem kept_burst (who : Nat) (cur : Option Nat) (s : State) :
    ((burst who cur s).2.2).skein.kept = s.skein.kept := by
  unfold burst; dsimp only; (repeat' split) <;> simp

@[simp] theorem kept_relayBurst (id : BitVec 64) (index : Nat) (segment : Bool) (s : State) :
    (relayBurst id index segment s).skein.kept = s.skein.kept := by
  unfold relayBurst; dsimp only; (repeat' split) <;> simp

@[simp] theorem kept_submitPeak (n : Nat) (s : State) :
    (submitPeak n s).skein.kept = s.skein.kept := by
  unfold submitPeak; dsimp only; (repeat' split) <;> simp

@[simp] theorem kept_pumpGroup (g : Nat) (n_ : Nat) (s : State) :
    (pumpGroup g n_ s).skein.kept = s.skein.kept := by
  induction n_ generalizing g s with
  | zero => simp [pumpGroup]
  | succ n ih => unfold pumpGroup; dsimp only; (repeat' split) <;> simp [ih]

@[simp] theorem kept_solOff (n : Nat) (s : State) :
    (solOff n s).skein.kept = s.skein.kept := by
  simp [solOff]

@[simp] theorem kept_lswClaimOn (n : Nat) (s : State) :
    (lswClaimOn n s).skein.kept = s.skein.kept := by
  unfold lswClaimOn; dsimp only; (repeat' split) <;> simp

@[simp] theorem kept_lswRestart (n : Nat) (s : State) :
    (lswRestart n s).skein.kept = s.skein.kept := by
  simp [lswRestart]

@[simp] theorem kept_lswExhaust (n : Nat) (s : State) :
    (lswExhaust n s).skein.kept = s.skein.kept := by
  simp [lswExhaust]

@[simp] theorem kept_lswTripNow (n : Nat) (s : State) :
    (lswTripNow n s).skein.kept = s.skein.kept := by
  unfold lswTripNow; dsimp only; (repeat' split) <;> simp

@[simp] theorem kept_solClaimHold (n : Nat) (s : State) :
    (solClaimHold n s).skein.kept = s.skein.kept := by
  unfold solClaimHold; dsimp only; (repeat' split) <;> simp

@[simp] theorem kept_solBankOff (n : Nat) (s : State) :
    (solBankOff n s).skein.kept = s.skein.kept := by
  unfold solBankOff; dsimp only; (repeat' split) <;> simp

@[simp] theorem kept_bankOff (b : Nat) (trips : Bool) (s : State) :
    (bankOff b trips s).skein.kept = s.skein.kept := by
  unfold bankOff; dsimp only; (repeat' split) <;> simp (disch := (intros; (repeat' split) <;> simp)) [-foldl_skein]

@[simp] theorem kept_restartChan (c : Chan) (s : State) :
    (restartChan c s).skein.kept = s.skein.kept := by
  unfold restartChan; dsimp only; (repeat' split) <;> simp

@[simp] theorem kept_bankRestart (b : Nat) (s : State) :
    (bankRestart b s).skein.kept = s.skein.kept := by
  unfold bankRestart; dsimp only; (repeat' split) <;> simp

@[simp] theorem kept_gapOutputs (neutral : Bool) (s : State) :
    (gapOutputs neutral s).skein.kept = s.skein.kept := by
  simp [gapOutputs]

@[simp] theorem kept_shutChan (d : OutDecl) (s : State) :
    (shutChan d s).skein.kept = s.skein.kept := by
  unfold shutChan; dsimp only; (repeat' split) <;> simp

@[simp] theorem kept_shutDeclared (s : State) :
    (shutDeclared s).skein.kept = s.skein.kept := by
  unfold shutDeclared; (repeat' split) <;> simp

@[simp] theorem kept_allOff (s : State) :
    (allOff s).skein.kept = s.skein.kept := by
  simp [allOff]

@[simp] theorem kept_switchOffHeld (s : State) :
    (switchOffHeld s).skein.kept = s.skein.kept := by
  unfold switchOffHeld; dsimp only; (repeat' split) <;> simp (disch := (intros; (repeat' split) <;> simp)) [-foldl_skein]

@[simp] theorem kept_limpFollow (n : Nat) (s : State) :
    (limpFollow n s).skein.kept = s.skein.kept := by
  unfold limpFollow; dsimp only; (repeat' split) <;> simp

@[simp] theorem kept_limpStart (s : State) :
    (limpStart s).skein.kept = s.skein.kept := by
  simp [limpStart]

@[simp] theorem kept_timeJump (o : Int) (s : State) :
    (timeJump o s).skein.kept = s.skein.kept := by
  simp [timeJump]

@[simp] theorem kept_gnssOffset (o : Int) (s : State) :
    (gnssOffset o s).skein.kept = s.skein.kept := by
  unfold gnssOffset; dsimp only; (repeat' split) <;> simp

@[simp] theorem kept_claimBias (n : Nat) (s : State) :
    (claimBias n s).skein.kept = s.skein.kept := by
  unfold claimBias; (repeat' split) <;> simp

@[simp] theorem kept_dropBias (n : Nat) (v : BitVec 2) (s : State) :
    (dropBias n v s).skein.kept = s.skein.kept := by
  simp [dropBias]

@[simp] theorem kept_exclude (cause : Nat) (addr : Nat) (n : Nat) (s : State) :
    (exclude cause addr n s).skein.kept = s.skein.kept := by
  unfold exclude; dsimp only; (repeat' split) <;> simp

@[simp] theorem kept_suspect (n : Nat) (s : State) :
    (suspect n s).skein.kept = s.skein.kept := by
  simp [suspect]

@[simp] theorem kept_setSpoof (s : State) :
    (setSpoof s).skein.kept = s.skein.kept := by
  unfold setSpoof; (repeat' split) <;> simp

@[simp] theorem kept_flagFails (ifr dop clk : List Nat) (s : State) :
    (flagFails ifr dop clk s).skein.kept = s.skein.kept := by
  simp [flagFails]

@[simp] theorem kept_judgeSpoof (before : Nat) (s : State) :
    (judgeSpoof before s).skein.kept = s.skein.kept := by
  unfold judgeSpoof; (repeat' split) <;> simp

@[simp] theorem kept_landOutput (stamp : Time) (posOk hdgOk : Bool) (e : Nat × Word) (s : State) :
    (landOutput stamp posOk hdgOk e s).skein.kept = s.skein.kept := by
  unfold landOutput; (repeat' split) <;> simp

@[simp] theorem kept_takeRtcm (bytes : List Byte) (crcOk : Bool) (msg : Nat) (s : State) :
    (takeRtcm bytes crcOk msg s).skein.kept = s.skein.kept := by
  unfold takeRtcm; dsimp only; (repeat' split) <;> simp

@[simp] theorem kept_readHandle (sp : Nat) (d : GReg) (sel handle : Nat) (y : Activation) (s : State) :
    (readHandle sp d sel handle y s).skein.kept = s.skein.kept := by
  unfold readHandle; dsimp only; (repeat' split) <;> simp

@[simp] theorem kept_readAngle (d : TableDecl) (by_ : Stepper) (s : State) :
    ((readAngle d by_ s).2).skein.kept = s.skein.kept := by
  simp [readAngle]

@[simp] theorem kept_readTable (d : LoopDecl) (by_ : Stepper) (s : State) :
    ((readTable d by_ s).2).skein.kept = s.skein.kept := by
  unfold readTable; dsimp only; (repeat' split) <;> simp

@[simp] theorem kept_learnTable (d : LoopDecl) (r : TableRead) (held : Bool) (mode : Nat) (st : LoopSt) (f : TwistFlags) (s : State) :
    ((learnTable d r held mode st f s).2).skein.kept = s.skein.kept := by
  unfold learnTable; dsimp only; (repeat' split) <;> simp

@[simp] theorem kept_readUnit (u : Option UnitSig) (by_ : Stepper) (s : State) :
    ((readUnit u by_ s).2).skein.kept = s.skein.kept := by
  unfold readUnit; dsimp only; (repeat' split) <;> simp

@[simp] theorem kept_countHeld (held : Bool) (s : State) :
    (countHeld held s).skein.kept = s.skein.kept := by
  unfold countHeld; (repeat' split) <;> simp

@[simp] theorem kept_stepSingle (d : LoopDecl) (by_ : Stepper) (s : State) :
    (stepSingle d by_ s).skein.kept = s.skein.kept := by
  unfold stepSingle; dsimp only; (repeat' split) <;> simp

@[simp] theorem kept_stepOuter (d : LoopDecl) (by_ : Stepper) (mode : Nat) (bad : Bool) (pv : Word) (limited : Bool) (s : State) :
    ((stepOuter d by_ mode bad pv limited s).2).skein.kept = s.skein.kept := by
  simp [stepOuter]

@[simp] theorem kept_stepInner (d inner : LoopDecl) (by_ : Stepper) (m : Nat × Bool) (x : Word × Word) (isp : Word) (o : LoopSt × TwistFlags × Bool) (pv ff : Word) (s : State) :
    (stepInner d inner by_ m x isp o pv ff s).skein.kept = s.skein.kept := by
  simp [stepInner]

@[simp] theorem kept_stepCascade (d : LoopDecl) (inner : LoopDecl) (by_ : Stepper) (s : State) :
    (stepCascade d inner by_ s).skein.kept = s.skein.kept := by
  unfold stepCascade; dsimp only; (repeat' split) <;> simp

@[simp] theorem kept_readMembers (by_ : Stepper) (l_ : List LoopDecl) (s : State) :
    ((readMembers by_ l_ s).2).skein.kept = s.skein.kept := by
  induction l_ generalizing by_ s with
  | nil => simp [readMembers]
  | cons a l ih => unfold readMembers; dsimp only; (repeat' split) <;> simp [ih]

@[simp] theorem kept_stepGroup (d : LoopDecl) (by_ : Stepper) (s : State) :
    (stepGroup d by_ s).skein.kept = s.skein.kept := by
  unfold stepGroup; dsimp only; (repeat' split) <;> simp

@[simp] theorem kept_runLoop (d : LoopDecl) (by_ : Stepper) (s : State) :
    (runLoop d by_ s).skein.kept = s.skein.kept := by
  unfold runLoop; dsimp only; (repeat' split) <;> simp

@[simp] theorem kept_stepHandle (sp l : Nat) (y : Activation) (s : State) :
    (stepHandle sp l y s).skein.kept = s.skein.kept := by
  unfold stepHandle; dsimp only; (repeat' split) <;> simp

@[simp] theorem kept_restoreRecord (k : Settings) (n : Nat) (s : State) :
    (restoreRecord k n s).skein.kept = s.skein.kept := by
  unfold restoreRecord; (repeat' split) <;> simp

@[simp] theorem kept_restoreSettings (s : State) :
    (restoreSettings s).skein.kept = s.skein.kept := by
  unfold restoreSettings; (repeat' split) <;> simp (disch := (intros; (repeat' split) <;> simp)) [-foldl_skein]

@[simp] theorem kept_oldSetBack (s : State) :
    (oldSetBack s).skein.kept = s.skein.kept := by
  simp [oldSetBack]

@[simp] theorem kept_abandonSwitch (s : State) :
    (abandonSwitch s).skein.kept = s.skein.kept := by
  simp [abandonSwitch]

@[simp] theorem kept_dropYield (s : State) :
    (dropYield s).skein.kept = s.skein.kept := by
  unfold dropYield; (repeat' split) <;> simp

@[simp] theorem kept_dropCore (s : State) :
    (dropCore s).skein.kept = s.skein.kept := by
  simp [dropCore]

@[simp] theorem kept_enterHold (cause : BitVec 8) (refusal : BitVec 16) (why : DayCause) (s : State) :
    (enterHold cause refusal why s).skein.kept = s.skein.kept := by
  unfold enterHold; dsimp only; (repeat' split) <;> simp

@[simp] theorem kept_enterDusk (why : DayCause) (s : State) :
    (enterDusk why s).skein.kept = s.skein.kept := by
  simp [enterDusk]

@[simp] theorem kept_reachHold (cause : BitVec 8) (refusal : BitVec 16) (s : State) :
    (reachHold cause refusal s).skein.kept = s.skein.kept := by
  unfold reachHold; (repeat' split) <;> simp

@[simp] theorem kept_startDawn (code line : BitVec 4) (warm fault : Bool) (why : DayCause) (s : State) :
    (startDawn code line warm fault why s).skein.kept = s.skein.kept := by
  simp [startDawn]

@[simp] theorem kept_dropCanBuffers (s : State) :
    (dropCanBuffers s).skein.kept = s.skein.kept := by
  simp [dropCanBuffers]

@[simp] theorem kept_warmResetBy (fault : Bool) (code : BitVec 4) (why : DayCause) (s : State) :
    (warmResetBy fault code why s).skein.kept = s.skein.kept := by
  unfold warmResetBy; dsimp only; (repeat' split) <;> simp

@[simp] theorem kept_warmReset (code : BitVec 4) (why : DayCause) (s : State) :
    (warmReset code why s).skein.kept = s.skein.kept := by
  simp [warmReset]

@[simp] theorem kept_disarmNow (s : State) :
    (disarmNow s).skein.kept = s.skein.kept := by
  simp [disarmNow]

@[simp] theorem kept_lateDisarm (s : State) :
    (lateDisarm s).skein.kept = s.skein.kept := by
  unfold lateDisarm; dsimp only; (repeat' split) <;> simp

@[simp] theorem kept_lastLaneFailed (s : State) :
    (lastLaneFailed s).skein.kept = s.skein.kept := by
  unfold lastLaneFailed; (repeat' split) <;> simp

@[simp] theorem kept_releaseWhorl (l : Lane) (cause : BitVec 4) (s : State) :
    (releaseWhorl l cause s).skein.kept = s.skein.kept := by
  unfold releaseWhorl; dsimp only; (repeat' split) <;> simp

@[simp] theorem kept_standbyLost (s : State) :
    (standbyLost s).skein.kept = s.skein.kept := by
  unfold standbyLost; (repeat' split) <;> simp

@[simp] theorem kept_checkpointDue (s : State) :
    (checkpointDue s).skein.kept = s.skein.kept := by
  unfold checkpointDue; (repeat' split) <;> simp

@[simp] theorem kept_yieldNow (f : Time) (s : State) :
    (yieldNow f s).skein.kept = s.skein.kept := by
  unfold yieldNow; (repeat' split) <;> simp

@[simp] theorem kept_updatingFailed (l : Lane) (cause : BitVec 4) (s : State) :
    (updatingFailed l cause s).skein.kept = s.skein.kept := by
  unfold updatingFailed; dsimp only; (repeat' split) <;> simp

@[simp] theorem kept_laneFault (l : Lane) (cause : BitVec 4) (s : State) :
    (laneFault l cause s).skein.kept = s.skein.kept := by
  unfold laneFault; dsimp only; (repeat' split) <;> simp

@[simp] theorem kept_afterTake (s : State) :
    (afterTake s).skein.kept = s.skein.kept := by
  unfold afterTake; dsimp only; (repeat' split) <;> simp

@[simp] theorem kept_writeLk (guard : Bool) (v : Word) (s : State) :
    ((writeLk guard v s).2).skein.kept = s.skein.kept := by
  unfold writeLk; simp only [guarded]; (repeat' split) <;> simp

@[simp] theorem kept_laneSwitch (n : Nat) (on : Bool) (s : State) :
    (laneSwitch n on s).skein.kept = s.skein.kept := by
  unfold laneSwitch; dsimp only; (repeat' split) <;> simp

@[simp] theorem kept_laneDuty (n : Nat) (v : Word) (s : State) :
    (laneDuty n v s).skein.kept = s.skein.kept := by
  unfold laneDuty; dsimp only; (repeat' split) <;> simp

@[simp] theorem kept_ignoreSol (n : Nat) (s : State) :
    (ignoreSol n s).skein.kept = s.skein.kept := by
  simp [ignoreSol]

@[simp] theorem kept_laneCur (n mA : Nat) (s : State) :
    (laneCur n mA s).skein.kept = s.skein.kept := by
  unfold laneCur; dsimp only; (repeat' split) <;> simp

@[simp] theorem kept_badProfile (n : Nat) (s : State) :
    (badProfile n s).skein.kept = s.skein.kept := by
  unfold badProfile; dsimp only; (repeat' split) <;> simp

@[simp] theorem kept_laneProf (n : Nat) (v : Word) (s : State) :
    (laneProf n v s).skein.kept = s.skein.kept := by
  unfold laneProf; dsimp only; (repeat' split) <;> simp

@[simp] theorem kept_laneRel (n : Nat) (s : State) :
    (laneRel n s).skein.kept = s.skein.kept := by
  simp [laneRel]

@[simp] theorem kept_refusePeak (n : Nat) (s : State) :
    (refusePeak n s).skein.kept = s.skein.kept := by
  unfold refusePeak; dsimp only; (repeat' split) <;> simp

@[simp] theorem kept_lswWaitOver (n : Nat) (always : Bool) (s : State) :
    (lswWaitOver n always s).skein.kept = s.skein.kept := by
  unfold lswWaitOver; dsimp only; (repeat' split) <;> simp

@[simp] theorem kept_clearLsw (n : Nat) (s : State) :
    (clearLsw n s).skein.kept = s.skein.kept := by
  unfold clearLsw clearLsw.lswIfOn; (repeat' split) <;> simp

@[simp] theorem kept_solPeriod (n : Nat) (current : BitVec 16) (cal : Option (BitVec 16)) (s : State) :
    (solPeriod n current cal s).skein.kept = s.skein.kept := by
  unfold solPeriod; dsimp only; (repeat' split) <;> simp

@[simp] theorem kept_endWindow (i : Nat) (d : AinDecl) (s : State) :
    (endWindow i d s).skein.kept = s.skein.kept := by
  unfold endWindow; (repeat' split) <;> simp

@[simp] theorem kept_frameError (port slot code : Nat) (s : State) :
    (frameError port slot code s).skein.kept = s.skein.kept := by
  simp [frameError]

@[simp] theorem kept_portDark (port : Nat) (s : State) :
    (portDark port s).skein.kept = s.skein.kept := by
  unfold portDark; (repeat' split) <;> simp

@[simp] theorem kept_suppliesOff (s : State) :
    (suppliesOff s).skein.kept = s.skein.kept := by
  unfold suppliesOff; dsimp only; (repeat' split) <;> simp (disch := (intros; (repeat' split) <;> simp)) [-foldl_skein]

@[simp] theorem kept_loseBin (s : State) :
    (loseBin s).skein.kept = s.skein.kept := by
  simp [loseBin]

@[simp] theorem kept_pushBin (stamp : Time) (bytes : List Byte) (s : State) :
    (pushBin stamp bytes s).skein.kept = s.skein.kept := by
  unfold pushBin; dsimp only; (repeat' split) <;> simp

@[simp] theorem kept_writeRate (stamp : Time) (o : RateDecl) (s : State) :
    (writeRate stamp o s).skein.kept = s.skein.kept := by
  unfold writeRate; (repeat' split) <;> simp

@[simp] theorem kept_alignRecord (n : Nat) (was now : Bool) (s : State) :
    (alignRecord n was now s).skein.kept = s.skein.kept := by
  unfold alignRecord; (repeat' split) <;> simp

@[simp] theorem kept_plyLand (n : Nat) (d : PlySource) (x : PlySample) (s : State) :
    (plyLand n d x s).skein.kept = s.skein.kept := by
  unfold plyLand; dsimp only; (repeat' split) <;> simp

@[simp] theorem kept_plyEntry (n : Nat) (d : PlySource) (e : BobEntry) (s : State) :
    (plyEntry n d e s).skein.kept = s.skein.kept := by
  unfold plyEntry; dsimp only; (repeat' split) <;> simp

@[simp] theorem kept_gateSource (n : Nat) (d : PlySource) (fails : Bool) (s : State) :
    (gateSource n d fails s).skein.kept = s.skein.kept := by
  unfold gateSource; dsimp only; (repeat' split) <;> simp

@[simp] theorem kept_landSource (tk : Time) (d : PlySource) (st : SigStatus) (vs : Option (List Word)) (s : State) :
    (landSource tk d st vs s).skein.kept = s.skein.kept := by
  unfold landSource; (repeat' split) <;> simp (disch := (intros; (repeat' split) <;> simp)) [-foldl_skein]

@[simp] theorem kept_sumFlow (n : Nat) (d : YieldDecl) (n_ : Nat) (s : State) :
    (sumFlow n d n_ s).skein.kept = s.skein.kept := by
  induction n_ generalizing n d s with
  | zero => simp [sumFlow]
  | succ k ih => unfold sumFlow; dsimp only; (repeat' split) <;> simp [ih]

@[simp] theorem kept_readTau (n : Nat) (d : YieldDecl) (at_ : Time) (s : State) :
    ((readTau n d at_ s).2.2).skein.kept = s.skein.kept := by
  unfold readTau; dsimp only; (repeat' split) <;> simp

@[simp] theorem kept_canBump (n offset : Nat) (s : State) :
    (canBump n offset s).skein.kept = s.skein.kept := by
  simp [canBump]

@[simp] theorem kept_canPush (n b : Nat) (e : BobEntry) (s : State) :
    (canPush n b e s).skein.kept = s.skein.kept := by
  unfold canPush; dsimp only; (repeat' split) <;> simp

@[simp] theorem kept_extract (sof : Time) (data : List Byte) (l : List CanField) (s : State) :
    (extract sof data l s).skein.kept = s.skein.kept := by
  unfold extract; (repeat' split) <;> simp (disch := (intros; (repeat' split) <;> simp)) [-foldl_skein]

@[simp] theorem kept_runFilter (n k : Nat) (sof : Time) (d : CanFilter) (f : CanFrame) (s : State) :
    (runFilter n k sof d f s).skein.kept = s.skein.kept := by
  unfold runFilter; (repeat' split) <;> simp

@[simp] theorem kept_dropBufs (n : Nat) (s : State) :
    (dropBufs n s).skein.kept = s.skein.kept := by
  simp [dropBufs]

@[simp] theorem kept_canLeave (n : Nat) (s : State) :
    (canLeave n s).skein.kept = s.skein.kept := by
  simp [canLeave]

@[simp] theorem kept_canLeaveAll (s : State) :
    (canLeaveAll s).skein.kept = s.skein.kept := by
  simp [canLeaveAll]

@[simp] theorem kept_canReinit (n : Nat) (s : State) :
    (canReinit n s).skein.kept = s.skein.kept := by
  unfold canReinit; (repeat' split) <;> simp

@[simp] theorem kept_ethBump (p offset : Nat) (s : State) :
    (ethBump p offset s).skein.kept = s.skein.kept := by
  simp [ethBump]

@[simp] theorem kept_ethEnqueue (p pcp : Nat) (f : EthFrame) (s : State) :
    (ethEnqueue p pcp f s).skein.kept = s.skein.kept := by
  unfold ethEnqueue; dsimp only; (repeat' split) <;> simp

@[simp] theorem kept_toLane (pcp : Nat) (f : EthFrame) (s : State) :
    (toLane pcp f s).skein.kept = s.skein.kept := by
  unfold toLane; (repeat' split) <;> simp

@[simp] theorem kept_flood (from_ vid pcp : Nat) (f : EthFrame) (s : State) :
    (flood from_ vid pcp f s).skein.kept = s.skein.kept := by
  unfold flood; (repeat' split) <;> simp (disch := (intros; (repeat' split) <;> simp)) [-foldl_skein]

@[simp] theorem kept_ethDown (p : Nat) (s : State) :
    (ethDown p s).skein.kept = s.skein.kept := by
  simp [ethDown]

@[simp] theorem kept_newChallenge (s : State) :
    (newChallenge s).skein.kept = s.skein.kept := by
  simp [newChallenge]

@[simp] theorem kept_writeSknKey (n : Nat) (v : Word) (s : State) :
    (writeSknKey n v s).skein.kept = s.skein.kept := by
  simp [writeSknKey]

@[simp] theorem kept_storeRegion (j : PanelJob) (s : State) :
    (storeRegion j s).skein.kept = s.skein.kept := by
  simp [storeRegion]

@[simp] theorem kept_wantRails (s : State) :
    (wantRails s).skein.kept = s.skein.kept := by
  unfold wantRails; dsimp only; (repeat' split) <;> simp

@[simp] theorem kept_startJob (j : PanelJob) (s : State) :
    (startJob j s).skein.kept = s.skein.kept := by
  unfold startJob; dsimp only; (repeat' split) <;> simp

@[simp] theorem kept_startPending (l_ : List PanelJob) (l__ : List PanelJob) (s : State) :
    (startPending l_ l__ s).skein.kept = s.skein.kept := by
  induction l__ generalizing l_ s with
  | nil => simp [startPending]
  | cons a l ih => unfold startPending; dsimp only; (repeat' split) <;> simp [ih]

@[simp] theorem kept_stepRecovery (j : PanelJob) (s : State) :
    (stepRecovery j s).skein.kept = s.skein.kept := by
  unfold stepRecovery; dsimp only; (repeat' split) <;> simp

@[simp] theorem kept_stepFrame (s : State) :
    (stepFrame s).skein.kept = s.skein.kept := by
  simp [stepFrame]

@[simp] theorem kept_panelRequest (pos : Word) (mode : BitVec 2) (w : BitVec 11) (h : BitVec 10) (s : State) :
    ((panelRequest pos mode w h s).2).skein.kept = s.skein.kept := by
  unfold panelRequest; dsimp only; (repeat' split) <;> simp

@[simp] theorem kept_drawAsset (k : Nat) (s : State) :
    (drawAsset k s).skein.kept = s.skein.kept := by
  unfold drawAsset; dsimp only; (repeat' split) <;> simp

@[simp] theorem kept_setDegraded (on : Bool) (sev : Severity) (s : State) :
    (setDegraded on sev s).skein.kept = s.skein.kept := by
  unfold setDegraded; (repeat' split) <;> simp

@[simp] theorem kept_quarantineAll (p : Writer → Bool) (s : State) :
    (quarantineAll p s).skein.kept = s.skein.kept := by
  simp [quarantineAll]

@[simp] theorem kept_gnssStop (s : State) :
    (gnssStop s).skein.kept = s.skein.kept := by
  simp [gnssStop]

@[simp] theorem kept_domainEffect (d : Nat) (src : ClkSrc) (s : State) :
    (domainEffect d src s).skein.kept = s.skein.kept := by
  unfold domainEffect; (repeat' split) <;> simp (disch := (intros; (repeat' split) <;> simp)) [-foldl_skein]

@[simp] theorem kept_toSource (d : Nat) (src : ClkSrc) (s : State) :
    (toSource d src s).skein.kept = s.skein.kept := by
  unfold toSource; (repeat' split) <;> simp

@[simp] theorem kept_writeClkSrc (v : Word) (s : State) :
    (writeClkSrc v s).skein.kept = s.skein.kept := by
  unfold writeClkSrc; (repeat' split) <;> simp (disch := (intros; (repeat' split) <;> simp)) [-foldl_skein]

@[simp] theorem kept_lockDomains (refOk : Bool) (s : State) :
    (lockDomains refOk s).skein.kept = s.skein.kept := by
  unfold lockDomains; dsimp only; (repeat' split) <;> simp

@[simp] theorem kept_endRise (n : Nat) (s : State) :
    (endRise n s).skein.kept = s.skein.kept := by
  unfold endRise; dsimp only; (repeat' split) <;> simp

@[simp] theorem kept_failHealth (s : State) :
    (failHealth s).skein.kept = s.skein.kept := by
  unfold failHealth; dsimp only; (repeat' split) <;> simp

@[simp] theorem kept_rejectTrial (s : State) :
    (rejectTrial s).skein.kept = s.skein.kept := by
  unfold rejectTrial; (repeat' split) <;> simp

@[simp] theorem kept_restageSet (s : State) :
    (restageSet s).skein.kept = s.skein.kept := by
  unfold restageSet; (repeat' split) <;> simp

@[simp] theorem kept_writeUpdCtrl (v : Word) (s : State) :
    (writeUpdCtrl v s).skein.kept = s.skein.kept := by
  unfold writeUpdCtrl; dsimp only; (repeat' split) <;> simp

@[simp] theorem kept_mend (addr : Nat) (s : State) :
    (mend addr s).skein.kept = s.skein.kept := by
  unfold mend; (repeat' split) <;> simp (disch := (intros; (repeat' split) <;> simp)) [-foldl_skein]

@[simp] theorem kept_readReg (who : Requester) (addr : Nat) (s : State) :
    ((readReg who addr s).2).skein.kept = s.skein.kept := by
  unfold readReg; (repeat' split) <;> simp

@[simp] theorem kept_holdOff (s : State) :
    (holdOff s).skein.kept = s.skein.kept := by
  simp [holdOff]

@[simp] theorem kept_writeSysCtrl (v : Word) (s : State) :
    ((writeSysCtrl v s).2).skein.kept = s.skein.kept := by
  unfold writeSysCtrl; dsimp only; (repeat' split) <;> simp

@[simp] theorem kept_writeLimit (n : Nat) (v : Word) (s : State) :
    ((writeLimit n v s).2).skein.kept = s.skein.kept := by
  unfold writeLimit; simp only [guarded]; (repeat' split) <;> simp

@[simp] theorem kept_writeTally (off : Nat) (v : Word) (s : State) :
    ((writeTally off v s).2).skein.kept = s.skein.kept := by
  unfold writeTally; simp only [guarded]; (repeat' split) <;> simp

@[simp] theorem kept_writeDirMap (n : Nat) (v : Word) (s : State) :
    ((writeDirMap n v s).2).skein.kept = s.skein.kept := by
  unfold writeDirMap; dsimp only; (repeat' split) <;> simp

@[simp] theorem kept_writeLimp (on : Bool) (s : State) :
    ((writeLimp on s).2).skein.kept = s.skein.kept := by
  unfold writeLimp; dsimp only; (repeat' split) <;> simp

@[simp] theorem kept_writeLsw (who : Requester) (off : Nat) (v : Word) (s : State) :
    ((writeLsw who off v s).2).skein.kept = s.skein.kept := by
  unfold writeLsw; dsimp only; (repeat' split) <;> simp

@[simp] theorem kept_writeSol (who : Requester) (off : Nat) (v : Word) (s : State) :
    ((writeSol who off v s).2).skein.kept = s.skein.kept := by
  unfold writeSol; simp only [guarded]; (repeat' split) <;> simp

@[simp] theorem kept_clearTable (unit table : Nat) (s : State) :
    (clearTable unit table s).skein.kept = s.skein.kept := by
  unfold clearTable; (repeat' split) <;> simp

@[simp] theorem kept_writeTwist (who : Requester) (off : Nat) (v : Word) (s : State) :
    ((writeTwist who off v s).2).skein.kept = s.skein.kept := by
  unfold writeTwist; (repeat' split) <;> simp

@[simp] theorem kept_setBias (n : Nat) (on : Bool) (s : State) :
    (setBias n on s).skein.kept = s.skein.kept := by
  unfold setBias; dsimp only; (repeat' split) <;> simp

@[simp] theorem kept_writeGnss (off : Nat) (v : Word) (s : State) :
    ((writeGnss off v s).2).skein.kept = s.skein.kept := by
  unfold writeGnss; dsimp only; (repeat' split) <;> simp

@[simp] theorem kept_writePanel (who : Requester) (off : Nat) (v : Word) (s : State) :
    ((writePanel who off v s).2).skein.kept = s.skein.kept := by
  unfold writePanel; dsimp only; (repeat' split) <;> simp

@[simp] theorem kept_writeUpdate (off : Nat) (v : Word) (s : State) :
    ((writeUpdate off v s).2).skein.kept = s.skein.kept := by
  unfold writeUpdate; dsimp only; (repeat' split) <;> simp

@[simp] theorem kept_readMany (who : Requester) (win : Bool) (addr : Nat) (n_ : Nat) (s : State) :
    ((readMany who win addr n_ s).2).skein.kept = s.skein.kept := by
  induction n_ generalizing who win addr s with
  | zero => simp [readMany]
  | succ n ih => unfold readMany; dsimp only; (repeat' split) <;> simp [ih]

@[simp] theorem kept_snapshot (addr : Word) (s : State) :
    ((snapshot addr s).2).skein.kept = s.skein.kept := by
  simp [snapshot]

@[simp] theorem kept_snapshots (l_ : List Word) (s : State) :
    ((snapshots l_ s).2).skein.kept = s.skein.kept := by
  induction l_ generalizing s with
  | nil => simp [snapshots]
  | cons a l ih => simp [snapshots, ih]

@[simp] theorem kept_numbered (seq : BitVec 64) (e : Raised) (s : State) :
    ((numbered seq e s).2).skein.kept = s.skein.kept := by
  simp [numbered]

@[simp] theorem kept_takeChunk (id : BitVec 64) (m : Manifest) (index : Nat) (bytes : List Byte) (s : State) :
    (takeChunk id m index bytes s).skein.kept = s.skein.kept := by
  unfold takeChunk; dsimp only; (repeat' split) <;> simp

@[simp] theorem kept_startSet (m : Manifest) (s : State) :
    (startSet m s).skein.kept = s.skein.kept := by
  unfold startSet; dsimp only; (repeat' split) <;> simp

@[simp] theorem kept_manifestHeld (id : BitVec 64) (bytes : List Byte) (s : State) :
    (manifestHeld id bytes s).skein.kept = s.skein.kept := by
  unfold manifestHeld; dsimp only; (repeat' split) <;> simp

@[simp] theorem kept_startHandover (asked : BitVec 2) (s : State) :
    (startHandover asked s).skein.kept = s.skein.kept := by
  unfold startHandover; dsimp only; (repeat' split) <;> simp

@[simp] theorem kept_activateSet (id : BitVec 64) (mode : Nat) (s : State) :
    ((activateSet id mode s).2).skein.kept = s.skein.kept := by
  unfold activateSet; dsimp only; (repeat' split) <;> simp

@[simp] theorem kept_pauseClose (s : State) :
    (pauseClose s).skein.kept = s.skein.kept := by
  unfold pauseClose; simp

@[simp] theorem kept_handoverDrop (s : State) :
    (handoverDrop s).skein.kept = s.skein.kept := by
  unfold handoverDrop; dsimp only; (repeat' split) <;> simp

@[simp] theorem kept_afterCommit (f : Time) (s : State) :
    (afterCommit f s).skein.kept = s.skein.kept := by
  unfold afterCommit; (repeat' split) <;> simp

@[simp] theorem kept_pauseBoundary (s : State) :
    (pauseBoundary s).skein.kept = s.skein.kept := by
  unfold pauseBoundary; dsimp only; (repeat' split) <;> simp

@[simp] theorem kept_handoverBoundary (s : State) :
    (handoverBoundary s).skein.kept = s.skein.kept := by
  unfold handoverBoundary; dsimp only; (repeat' split) <;> simp

@[simp] theorem kept_rejoin (s : State) :
    (rejoin s).skein.kept = s.skein.kept := by
  unfold rejoin; dsimp only; (repeat' split) <;> simp

@[simp] theorem kept_recoverJournal (s : State) :
    (recoverJournal s).skein.kept = s.skein.kept := by
  unfold recoverJournal; (repeat' split) <;> simp

@[simp] theorem kept_coldDawn (code line : BitVec 4) (why : DayCause) (s : State) :
    (coldDawn code line why s).skein.kept = s.skein.kept := by
  simp [coldDawn]

@[simp] theorem kept_fromOff (t : Time) (s : State) :
    (fromOff t s).skein.kept = s.skein.kept := by
  unfold fromOff; dsimp only; (repeat' split) <;> simp

@[simp] theorem kept_reachNoCop (cause : BitVec 8) (refusal : BitVec 16) (s : State) :
    (reachNoCop cause refusal s).skein.kept = s.skein.kept := by
  unfold reachNoCop; dsimp only; (repeat' split) <;> simp

@[simp] theorem kept_copRefused (f : CopFault) (s : State) :
    (copRefused f s).skein.kept = s.skein.kept := by
  unfold copRefused; dsimp only; (repeat' split) <;> simp

@[simp] theorem kept_copPassed (r : CopResult) (s : State) :
    (copPassed r s).skein.kept = s.skein.kept := by
  unfold copPassed; dsimp only; (repeat' split) <;> simp

@[simp] theorem kept_portMorning (n : Nat) (s : State) :
    (portMorning n s).skein.kept = s.skein.kept := by
  unfold portMorning; dsimp only; (repeat' split) <;> simp

@[simp] theorem kept_supMorning (n : Nat) (s : State) :
    (supMorning n s).skein.kept = s.skein.kept := by
  unfold supMorning; dsimp only; (repeat' split) <;> simp

@[simp] theorem kept_enterMorning (s : State) :
    (enterMorning s).skein.kept = s.skein.kept := by
  unfold enterMorning; dsimp only; (repeat' split) <;> simp

@[simp] theorem kept_armNow (why : DayCause) (s : State) :
    (armNow why s).skein.kept = s.skein.kept := by
  simp [armNow]

@[simp] theorem kept_startChan (c : Chan) (s : State) :
    (startChan c s).skein.kept = s.skein.kept := by
  unfold startChan; (repeat' split) <;> simp

@[simp] theorem kept_duskOutputs (s : State) :
    (duskOutputs s).skein.kept = s.skein.kept := by
  unfold duskOutputs; dsimp only; (repeat' split) <;> simp

@[simp] theorem kept_duskPanel (s : State) :
    (duskPanel s).skein.kept = s.skein.kept := by
  simp [duskPanel]

@[simp] theorem kept_panelHoldup (s : State) :
    (panelHoldup s).skein.kept = s.skein.kept := by
  unfold panelHoldup; (repeat' split) <;> simp

@[simp] theorem kept_warnDepth (s : State) :
    (warnDepth s).skein.kept = s.skein.kept := by
  unfold warnDepth; (repeat' split) <;> simp

@[simp] theorem kept_queueRequest (cls : Nat) (r : Req) (c : Instr) (s : State) :
    (queueRequest cls r c s).skein.kept = s.skein.kept := by
  unfold queueRequest; (repeat' split) <;> simp

@[simp] theorem kept_helloEnd (r : Req) (m : HelloMsg) (s : State) :
    (helloEnd r m s).skein.kept = s.skein.kept := by
  unfold helloEnd; dsimp only; (repeat' split) <;> simp

@[simp] theorem kept_runHello (r : Req) (m : HelloMsg) (s : State) :
    (runHello r m s).skein.kept = s.skein.kept := by
  unfold runHello; (repeat' split) <;> simp

@[simp] theorem kept_copData (who : Requester) (offset : Nat) (bytes : List Byte) (s : State) :
    ((copData who offset bytes s).2).skein.kept = s.skein.kept := by
  unfold copData; dsimp only; (repeat' split) <;> simp

@[simp] theorem kept_ethReinit (p : Nat) (s : State) :
    (ethReinit p s).skein.kept = s.skein.kept := by
  unfold ethReinit; dsimp only; (repeat' split) <;> simp

@[simp] theorem kept_resetFunction (n : Nat) (s : State) :
    (resetFunction n s).skein.kept = s.skein.kept := by
  unfold resetFunction; dsimp only; (repeat' split) <;> simp

@[simp] theorem kept_restart (n : Nat) (s : State) :
    (restart n s).skein.kept = s.skein.kept := by
  simp [restart]

@[simp] theorem kept_restartMask (m : BitVec 64) (s : State) :
    (restartMask m s).skein.kept = s.skein.kept := by
  unfold restartMask; (repeat' split) <;> simp (disch := (intros; (repeat' split) <;> simp)) [-foldl_skein]

@[simp] theorem kept_answerReinit (w : Reinit) (s : State) :
    (answerReinit w s).skein.kept = s.skein.kept := by
  unfold answerReinit; (repeat' split) <;> simp

@[simp] theorem kept_settle (s : State) :
    (settle s).skein.kept = s.skein.kept := by
  simp [settle]

@[simp] theorem kept_streamEntry (r : Req) (b : Nat) (l : List Byte) (s : State) :
    ((streamEntry r b l s).2).skein.kept = s.skein.kept := by
  unfold streamEntry; dsimp only; (repeat' split) <;> simp

@[simp] theorem kept_streamRecord (chan : Nat) (x : StreamRecord) (s : State) :
    (streamRecord chan x s).skein.kept = s.skein.kept := by
  simp [streamRecord]

@[simp] theorem kept_runChecks (l : List GnssMeas) (f : GnssFronts) (s : State) :
    (runChecks l f s).skein.kept = s.skein.kept := by
  simp [runChecks]

@[simp] theorem kept_judgeSource (d : PlySource) (una : Bool) (v : Option (List Word)) (s : State) :
    ((judgeSource d una v s).2).skein.kept = s.skein.kept := by
  unfold judgeSource
  split
  · exact foldl_snd (fun s => s.skein.kept) _ (fun r e => by simp [gateFails]) _ _
  · simp

@[simp] theorem kept_sourceEpoch (tk : Time) (d : PlySource) (s : State) :
    (sourceEpoch tk d s).skein.kept = s.skein.kept := by
  simp [sourceEpoch]

end Sys2Proof.Machine
end

section
/-! PROOFS. Warm reset and FUNC_REINIT (R31, R51, R53 to R56, R359, R362). -/
namespace Sys2Proof.Machine
open Sys2Proof.Safety

/-! ### Warm reset -/

@[simp] theorem dropCanBuffers_upd (s : State) : (dropCanBuffers s).upd = s.upd := by
  simp [dropCanBuffers]

@[simp] theorem gapOutputs_store (neutral : Bool) (s : State) : (gapOutputs neutral s).store = { s.store with burst := none } := by
  simp [gapOutputs]

@[simp] theorem gapOutputs_step (neutral : Bool) (s : State) : (gapOutputs neutral s).upd.step = s.upd.step := by
  have hqueue : ∀ (l : List Nat) s, (l.foldl (fun s k => discardQueued k s) s).upd.step = s.upd.step :=
    foldl_keeps (fun s => s.upd.step) fun s n => by simp [discardQueued]
  simp [gapOutputs, hqueue]

/-- Without an open session an EVENT goes nowhere. -/
theorem eventTo_idle {who : Requester} {code : Nat} {args : List Word} {s : State} (h : s.hank.sessions = []) :
    eventTo who code args s = s := by
  have : (session s who).isOpen = false := by
    unfold session
    rw [h]
    rfl
  simp [eventTo, this]

theorem toDay_idle {d : DayState} {c : DayCause} {f : Bool} {s : State} (h : s.hank.sessions = []) : (toDay d c f s).hank = s.hank ∧ (toDay d c f s).sent = s.sent := by
  unfold toDay event
  simp [eventTo_idle, h]

@[simp] theorem startDawn_ring (code line : BitVec 4) (warm fault : Bool) (why : DayCause) (s : State) :
    (startDawn code line warm fault why s).skein.ring = s.skein.ring := by
  simp [startDawn]

@[simp] theorem startDawn_lock (code line : BitVec 4) (warm fault : Bool) (why : DayCause) (s : State) :
    (startDawn code line warm fault why s).sys.lock = s.sys.lock := by
  simp [startDawn]

/-- What a warm reset does to registers, outputs and queued claims. -/
def warmOutputs (s : State) : State :=
  returnLane .b (returnLane .a (gapOutputs false (limpEnd (dropCanBuffers (resetRegs s)))))

theorem warmOutputs_spec (s : State) : let v := warmOutputs s
    v.sun = { s.sun with ptpCfg := v.sun.ptpCfg } ∧ v.skein.ring = s.skein.ring ∧ v.store.s0 = s.store.s0 ∧
      v.store.s1 = s.store.s1 ∧ v.eth = s.eth ∧ v.reqs = [] ∧ v.clock.force = 0 ∧ v.clock.stay = 0 ∧
      v.upd.step = s.upd.step ∧ v.strike.history = s.strike.history ∧ v.sent = s.sent := by
  unfold warmOutputs
  refine ⟨?_, Skein.ring_of_kept (by simp), ?_⟩ <;> simp [resetRegs]

/-- The lanes, sessions and locks then go: what stands before the DAWN that the reset starts. -/
def warmBase (s : State) : State :=
  closeAllSessions { s with
    core := {}, spool := {}, distaff := {}, func := {}
    lanes := { s.lanes with
      la := { s.lanes.la with state := .waking, mgmt := false, clocks := false }
      lb := { s.lanes.lb with state := .waking, mgmt := false, clocks := false }
      holder := none, gate := false, remain := 0, yieldAt := none, yieldBy := false, switch := none, gapOccupancy := [] }
    store := { s.store with running := none, candidate := none, validating := false, loading := false, owner := none }
    strike := { s.strike with run := false }
    upd := { s.upd with activating := none, pauseReady := 0, handReady := 0, revertHand := false, boundary := none }
    panel := { s.panel with hold := false }
    sys := { s.sys with lock := .of 0 } }

theorem warmBase_spec (s : State) : let v := warmBase s
    v.lanes.holder = none ∧ v.lanes.gate = false ∧ v.lanes.la.state = .waking ∧ v.lanes.lb.state = .waking ∧
      v.sys.lock = .of 0 ∧ v.core = {} ∧ v.spool = {} ∧ v.hank.sessions = [] ∧ v.distaff.queue = [] ∧
      v.sun = s.sun ∧ v.skein = s.skein ∧ v.store.s0 = s.store.s0 ∧ v.store.s1 = s.store.s1 ∧ v.eth = s.eth ∧ v.reqs = s.reqs ∧
      v.clock = s.clock ∧ v.upd.step = s.upd.step ∧ v.strike.history = s.strike.history ∧ v.sent = s.sent :=
  ⟨rfl, rfl, rfl, rfl, rfl, rfl, rfl, rfl, rfl, rfl, rfl, rfl, rfl, rfl, rfl, rfl, rfl, rfl, rfl⟩

/-- A warm reset takes effect in every state but MIDNIGHT. -/
theorem warmReset_runs {s : State} (code : BitVec 4) (why : DayCause) (hp : s.sys.powered = true) (hm : s.sys.state ≠ .midnight) :
    warmReset code why s = startDawn code 0 true false why (warmBase (warmOutputs s)) := by
  simp only [warmReset, warmResetBy, warmBase, warmOutputs, hp, hm, Bool.not_true, decide_false, Bool.or_self, Bool.false_eq_true, if_false]

theorem startDawn_idle {code line : BitVec 4} {warm fault : Bool} {why : DayCause} {s : State} (h : s.hank.sessions = []) :
    (startDawn code line warm fault why s).hank = s.hank ∧ (startDawn code line warm fault why s).sent = s.sent := by
  obtain ⟨hhank, hsent⟩ := toDay_idle (d := .dawn) (c := why) (f := fault) h
  exact ⟨by simp only [startDawn, hhank], by simp only [startDawn, hsent]⟩

/-- Where a warm reset takes effect, it starts a DAWN with held outputs out of a module without lanes, sessions and locks. -/
theorem warmReset_spec {s : State} (code : BitVec 4) (why : DayCause) (hp : s.sys.powered = true) (hm : s.sys.state ≠ .midnight) :
    let v := warmReset code why s
    v.sys.state = .dawn ∧ v.sys.dawn = .supplies ∧ v.sys.cause = code ∧ v.sys.warm = true ∧ v.sys.held = true ∧
      v.lanes.holder = none ∧ v.lanes.gate = false ∧ v.lanes.la.state = .waking ∧ v.lanes.lb.state = .waking ∧
      v.sys.lock = .of 0 ∧ v.core = {} ∧ v.spool = {} ∧ v.hank.sessions = [] ∧ v.distaff.queue = [] ∧
      v.sun = { s.sun with ptpCfg := v.sun.ptpCfg } ∧ v.skein.ring = s.skein.ring ∧ v.store.s0 = s.store.s0 ∧
      v.store.s1 = s.store.s1 ∧ v.eth = s.eth ∧ v.reqs = [] ∧ v.clock.force = 0 ∧ v.clock.stay = 0 ∧
      v.upd.step = s.upd.step ∧ v.strike.history = s.strike.history ∧ v.sent = s.sent := by
  rw [warmReset_runs code why hp hm]
  obtain ⟨hsun, hring, h0, h1, heth, hreqs, hforce, hstay, hstep, hhist, hsent⟩ := warmOutputs_spec s
  generalize warmOutputs s = u at *
  obtain ⟨hholder, hgate, hla, hlb, hlock, hcore, hspool, hsess, hqueue, hsun', hskein', h0', h1', heth', hreqs', hclock', hstep',
    hhist', hsent'⟩ := warmBase_spec u
  generalize warmBase u = w at *
  refine ⟨?_, ?_, ?_, ?_, ?_, ?_⟩
  case refine_6 =>
    simp [hholder, hgate, hla, hlb, hlock, hcore, hspool, (startDawn_idle hsess).1, hsess, hqueue, hsun', hskein', hring, h0', h0, h1', h1,
      heth', heth, hreqs', hreqs, hclock', hforce, hstay, hstep', hstep, hhist', hhist, (startDawn_idle hsess).2, hsent', hsent]
    exact hsun
  all_goals simp [startDawn]

/-- The reply of WARM_RESET leaves before the reset takes effect. -/
theorem warmReset_taken {r : Req} {s : State} (h : Taken r true true s) :
    exec (.warmReset r) s = .next (warmReset 1 .warmReset (answer r (.ack []) (arrived r s))) := by
  rw [exec_warmReset, execWarmReset, serveThen_taken _ _ _ _ _ _ h]
  rfl

/-! ### FUNC_REINIT (R53 to R55) -/

/-- A request that its server takes reaches what its server does with it. -/
theorem meetServer_taken {r : Req} {a b : Bool} (k : State → State) {s : State} (h : Taken r a b s) :
    meetServer r a b k s = k (arrived r s) := by
  obtain ⟨hreach, hopen, hcache, hflight, hver, hin1x, hresp, hout⟩ := h
  have hin1x' : (!a && decide ((session (advanceTo r.at_ s) r.who).major = 1)) = false := by
    rcases hin1x with h | h
    · simp [h]
    · rw [decide_eq_false h, Bool.and_false]
  have hflight' : inFlight (arrived r s) r.who r.seq = false := hflight
  unfold arrived at *
  have hresp' : ∀ x, (!b && responder (setSession r.who x (advanceTo r.at_ s))) = false := by
    intro x
    rcases hresp with h | h
    · simp [h]
    · rw [show responder (setSession _ _ _) = false from h, Bool.and_false]
  unfold meetServer
  dsimp only
  rw [if_neg (by simp [hreach]), if_neg (by simp [hopen])]
  split
  · simp_all
  · rw [if_neg (Bool.eq_false_iff.1 hflight'), if_neg (by simp [hver]), if_neg (Bool.eq_false_iff.1 hin1x'),
      if_neg (Bool.eq_false_iff.1 (hresp' _)), if_neg (Nat.not_le.2 hout)]

/-- What FUNC_REINIT does once its server takes it. -/
def reinit (r : Req) (mask : BitVec 64) (s : State) : State :=
  let late := lateMask r mask s
  let now := mask &&& ~~~late
  let w : Reinit := { req := some r, mask := mask, todo := now, late := late }
  settle (restartMask now (enterFlight r.who { s with func := { s.func with waits := s.func.waits ++ [w] } }))

theorem funcReinit_badMask {r : Req} {m : BitVec 64} {s : State} (h : Taken r false false s) (hm : m = 0 ∨ 2 ^ 45 ≤ m.toNat) :
    exec (.funcReinit r m) s = .next (answer r (.nak .badMask 0) (arrived r s)) := by
  have hm' : (decide (m = 0) || decide (2 ^ 45 ≤ m.toNat)) = true := by simpa using hm
  rw [exec_funcReinit, execFuncReinit, meetServer_taken _ h]
  simp only [hm', if_true]

theorem funcReinit_busyStep {r : Req} {s : State} (h : Taken r false false s)
    (hu : (arrived r s).upd.step = .switching ∨ (arrived r s).upd.step = .trial) :
    exec (.funcReinit r (1#64 <<< 42)) s = .next (answer r (.nak .busyStep 0) (arrived r s)) := by
  have hu' : (decide ((arrived r s).upd.step = .switching) || decide ((arrived r s).upd.step = .trial)) = true := by simpa using hu
  rw [exec_funcReinit, execFuncReinit, meetServer_taken _ h, hu']
  rfl

theorem funcReinit_noStandby {r : Req} {s : State} (h : Taken r false false s) (hc : standbyCold (arrived r s) = false) :
    exec (.funcReinit r (1#64 <<< 44)) s = .next (answer r (.nak .noStandby 0) (arrived r s)) := by
  rw [exec_funcReinit, execFuncReinit, meetServer_taken _ h, hc]
  rfl

theorem restartMask_none (s : State) : restartMask 0 s = s := rfl

theorem restartMask_skein (s : State) : restartMask (1#64 <<< 41) s = restart 41 s := rfl

/-- The Skein service alone never follows the reply. -/
theorem lateMask_skein (r : Req) (s : State) : lateMask r (1#64 <<< 41) s = 0 := by
  unfold lateMask
  dsimp only
  generalize (session s r.who).port = p
  split
  case isTrue h =>
    have hp : p < 8 := by simp_all
    interval_cases p <;> rfl
  case isFalse => rfl

/-- The Skein's challenge and its clear's result go, and its restart begins. -/
theorem reinit_skein {r : Req} {s : State} (h : s.func.waits = []) :
    reinit r (1#64 <<< 41) s = restart 41 (enterFlight r.who { s with func := { s.func with
      waits := [{ req := some r, mask := 1#64 <<< 41, todo := 1#64 <<< 41, late := 0 }] } }) := by
  unfold reinit
  rw [lateMask_skein, h]
  rfl

theorem funcReinit_skein {r : Req} {s : State} (h : Taken r false false s) :
    exec (.funcReinit r (1#64 <<< 41)) s = .next (reinit r (1#64 <<< 41) (arrived r s)) := by
  rw [exec_funcReinit, execFuncReinit, meetServer_taken _ h]
  rfl

theorem restart_skein (s : State) : restart 41 s = { s with
    func := { s.func with restarting := setBit s.func.restarting 41 true }, skein := { s.skein with chal := none, clrRes := 0 } } := rfl

/-- A FUNC_REINIT alone, all of whose functions run again and none of which waits for the reply. -/
theorem settle_ready {r : Req} {w : Reinit} {s : State} (hw : s.func.waits = [w]) (htodo : w.todo = 0) (hlate : w.late = 0)
    (hreq : w.req = some r) :
    settle s = answer r (.ack [lo32 (w.mask &&& ~~~w.noLink), hi32 (w.mask &&& ~~~w.noLink), lo32 w.noLink, hi32 w.noLink])
      (leaveFlight r.who { s with func := { s.func with waits := [] } }) := by
  have hbit : bit (0 : BitVec 64) 44 = false := rfl
  have hor (x : BitVec 64) : 0 ||| x = x := BitVec.zero_or
  simp only [settle, hw, htodo, List.filter, decide_true, ne_eq, not_true, decide_false, List.foldl, answerReinit, hlate, hreq,
    hor, restartMask_none, hbit, Bool.false_eq_true, if_false]

theorem funcRestartDone_skein {t : Time} {r : Req} {s : State} (hr : restarts (advanceTo t s) 41 = true)
    (hw : (advanceTo t s).func.waits = [{ req := some r, mask := 1#64 <<< 41, todo := 1#64 <<< 41, late := 0 }]) :
    exec (.funcRestartDone t 41) s = .next (answer r (.ack [lo32 (1#64 <<< 41), hi32 (1#64 <<< 41), 0, 0]) (leaveFlight r.who
      { advanceTo t s with func := { restarting := setBit (advanceTo t s).func.restarting 41 false, waits := [] } })) := by
  rw [exec_funcRestartDone, execFuncRestartDone]
  generalize advanceTo t s = u at hr hw
  have hport : (decide (16 ≤ ((41 : Fin 45) : Nat)) && decide (((41 : Fin 45) : Nat) < 24)) = false := rfl
  have hne : ((41 : Fin 45) : Nat) ≠ 43 := by decide
  have hr' : restarts u ((41 : Fin 45) : Nat) = true := hr
  simp only [hport, hr', hw, if_neg hne, Bool.not_true, Bool.false_and, Bool.or_self, Bool.false_eq_true, if_false]
  have htodo : setBit (1#64 <<< 41) 41 false = 0 := by decide
  have hmask : 1#64 <<< 41 &&& ~~~(0 : BitVec 64) = 1#64 <<< 41 := by decide
  rw [settle_ready (r := r) (w := ⟨some r, 1#64 <<< 41, setBit (1#64 <<< 41) 41 false, 0, 0⟩) rfl htodo rfl rfl]
  simp only [hmask]
  rfl

/-! ### The obligation -/

/-- A request refused: its reply alone. -/
theorem answer_nak_spec (r : Req) (c : NakCode) (d : Word) (s : State) : let v := answer r (.nak c d) s
    Replied r (.nak c d) v ∧ v = { s with hank := v.hank, sent := v.sent } := ⟨rfl, rfl⟩

/-- Settles O12: the module behind a warm reset, and each answer of FUNC_REINIT. -/
theorem resetsAndRestarts : Obligations.ResetsAndRestarts := by
  refine ⟨⟨fun t s hp hm => ⟨_, exec_resetNAsserted t s, ?resetN⟩, fun r s h hp hm => ?warm⟩,
    fun r m s h => ⟨fun hm => ⟨_, funcReinit_badMask h hm, answer_nak_spec r _ _ _⟩, fun hm hc => ?noStandby, fun hm hu => ?busy,
      fun hm hw => ?skein⟩,
    fun t r m s hr hw hm => ?done⟩
  case resetN =>
    obtain ⟨hstate, hdawn, hcause, hwarm, hheld, hholder, hgate, hla, hlb, hlock, hcore, hspool, hsess, hqueue, hsun, hring, h0, h1, heth,
      hreqs, hforce, hstay, hstep, hhist, -⟩ := warmReset_spec 2 .resetN hp hm
    exact ⟨hstate, hdawn, hcause, hwarm, hheld, hholder, hgate, hla, hlb, hlock, hcore, hspool, hsess, hqueue, hsun, hring, h0, h1, heth,
      hreqs, hforce, hstay, hstep, hhist⟩
  case warm =>
    refine ⟨_, warmReset_taken h, ?_⟩
    generalize arrived r s = u at hp hm
    obtain ⟨hstate, hdawn, hcause, hwarm, hheld, hholder, hgate, -, -, hlock, hcore, hspool, hsess, -, hsun, hring, h0, h1, heth, -, -, -,
      -, -, hsent⟩ := warmReset_spec (s := answer r (.ack []) u) 1 .warmReset hp hm
    refine ⟨hstate, hdawn, hcause, hwarm, hheld, hholder, hgate, hlock, hcore, hspool, hsess, ?_, hsun, hring, h0, h1, heth⟩
    rw [hsent]
    exact List.mem_cons_self
  case noStandby =>
    subst hm
    exact ⟨_, funcReinit_noStandby h hc, answer_nak_spec r _ _ _⟩
  case busy =>
    subst hm
    exact ⟨_, funcReinit_busyStep h hu, answer_nak_spec r _ _ _⟩
  case skein =>
    subst hm
    refine ⟨_, funcReinit_skein h, ?_⟩
    generalize arrived r s = u at hw
    rw [reinit_skein hw, restart_skein]
    exact ⟨bit_setBit _ 41 true (by decide), rfl, rfl, rfl, rfl, rfl, rfl, rfl, rfl, rfl⟩
  case done =>
    subst hm
    refine ⟨_, funcRestartDone_skein hr hw, ?_⟩
    generalize advanceTo t s = u
    exact ⟨bit_setBit _ 41 false (by decide), rfl, rfl, rfl⟩

end Sys2Proof.Machine
end

section
/-! PROOFS. What operations leave beyond their frames: claims of channels, of the panel and of ports never touch a lane, and what is built
on them does not either. -/
namespace Sys2Proof.Machine
open Sys2Proof.Safety

/-! ### Claims of channels, of the panel, of ports and of supply outputs -/

/-- Whether an owner is an output channel. -/
def Owner.IsChan : Owner → Prop
  | .chan _ => True
  | _ => False

@[simp] theorem isChan_lswClaim (d : OutDecl) : (lswClaim d).owner.IsChan := trivial
@[simp] theorem isChan_solHoldClaim (d : OutDecl) : (solHoldClaim d).owner.IsChan := trivial
@[simp] theorem isChan_solPeakClaim (d : OutDecl) : (solPeakClaim d).owner.IsChan := trivial

theorem Owner.IsChan.owns {o : Owner} (h : o.IsChan) : ownsChan o = true := by
  cases o <;> simp_all [Owner.IsChan, ownsChan]

/-- What a claim of a channel, admitted, queued or refused, leaves. -/
@[simp] theorem submit_chan_leaves (k : Nat) (c : Claim) (s : State) (h : c.owner.IsChan) :
    (submit k c s).hank = s.hank ∧ (submit k c s).core = s.core ∧ (submit k c s).lanes = s.lanes ∧ (submit k c s).inputs = s.inputs ∧
      (submit k c s).gnss = s.gnss ∧ (submit k c s).upd = s.upd ∧ (submit k c s).panel = s.panel ∧ (submit k c s).sent = s.sent ∧
      (submit k c s).free = s.free := by
  obtain ⟨hhank, hcore, hlanes, hinputs, hgnss, hpanel, hsent, hfree⟩ := frame_submit_chan k c s h.owns
  refine ⟨hhank, hcore, hlanes, hinputs, hgnss, ?_, hpanel, hsent, hfree⟩
  have hadm : ∀ t, (onAdmitted c.owner t).upd = t.upd := fun t => by
    obtain ⟨-, -, -, -, -, -, hupd, -, -⟩ := frame_onAdmitted_chan c.owner t h.owns
    exact hupd
  unfold submit
  (repeat' split) <;> simp [hadm]

/-- An owner whose claim, admitted or refused, touches no lane, no core and no update: the panel, a port, a supply output. -/
def Owner.IsPlain : Owner → Prop
  | .panel | .port _ | .sup _ => True
  | _ => False

@[simp] theorem isPlain_panelClaim : panelClaim.owner.IsPlain := trivial
@[simp] theorem isPlain_portClaim (d : SensorDecl) : (portClaim d).owner.IsPlain := trivial
@[simp] theorem isPlain_supClaim (d : SupDecl) : (supClaim d).owner.IsPlain := trivial

/-- What a claim of the panel, a port or a supply output leaves. -/
@[simp] theorem submit_plain_leaves (k : Nat) (c : Claim) (s : State) (h : c.owner.IsPlain) :
    (submit k c s).hank = s.hank ∧ (submit k c s).core = s.core ∧ (submit k c s).lanes = s.lanes ∧ (submit k c s).outs = s.outs ∧
      (submit k c s).upd = s.upd ∧ (submit k c s).sent = s.sent ∧ (submit k c s).free = s.free := by
  have hadm : ∀ t, (onAdmitted c.owner t).hank = t.hank ∧ (onAdmitted c.owner t).core = t.core ∧ (onAdmitted c.owner t).lanes = t.lanes ∧
      (onAdmitted c.owner t).outs = t.outs ∧ (onAdmitted c.owner t).upd = t.upd ∧ (onAdmitted c.owner t).sent = t.sent ∧
      (onAdmitted c.owner t).free = t.free := fun t => by
    cases ho : c.owner <;> simp_all [Owner.IsPlain, onAdmitted]
  have href : ∀ t, (onRefused c.owner t).outs = t.outs := fun t => by
    cases ho : c.owner <;> simp_all [Owner.IsPlain, onRefused]
  unfold submit
  (repeat' split) <;> simp [hadm, href]

/-! ### What the operations above them leave -/

@[simp] theorem bumps_leaves (addr idx : Nat) (n_ : Nat) (s : State) : (bumps addr idx n_ s).upd = s.upd := by
  induction n_ generalizing addr idx s with
  | zero => simp [bumps]
  | succ n ih => simp [bumps, ih]

@[simp] theorem discardQueued_leaves (k : Nat) (s : State) : (discardQueued k s).upd = s.upd := by
  simp [discardQueued]

@[simp] theorem submitPeak_leaves (n : Nat) (s : State) : let t := (submitPeak n s)
    t.hank = s.hank ∧ t.core = s.core ∧ t.lanes = s.lanes ∧ t.inputs = s.inputs ∧ t.gnss = s.gnss ∧ t.upd = s.upd ∧ t.panel = s.panel ∧
      t.sent = s.sent ∧ t.free = s.free := by
  unfold submitPeak; dsimp only; (repeat' split) <;> simp

@[simp] theorem pumpGroup_leaves (g : Nat) (n_ : Nat) (s : State) : let t := (pumpGroup g n_ s)
    t.hank = s.hank ∧ t.core = s.core ∧ t.lanes = s.lanes ∧ t.inputs = s.inputs ∧ t.gnss = s.gnss ∧ t.upd = s.upd ∧ t.panel = s.panel ∧
      t.sent = s.sent ∧ t.free = s.free := by
  induction n_ generalizing g s with
  | zero => simp [pumpGroup]
  | succ n ih => unfold pumpGroup; dsimp only; (repeat' split) <;> simp [ih]

@[simp] theorem solOff_leaves (n : Nat) (s : State) : let t := (solOff n s)
    t.hank = s.hank ∧ t.core = s.core ∧ t.lanes = s.lanes ∧ t.inputs = s.inputs ∧ t.gnss = s.gnss ∧ t.upd = s.upd ∧ t.panel = s.panel ∧
      t.sent = s.sent ∧ t.free = s.free := by
  simp [solOff]

@[simp] theorem lswClaimOn_leaves (n : Nat) (s : State) : let t := (lswClaimOn n s)
    t.hank = s.hank ∧ t.core = s.core ∧ t.lanes = s.lanes ∧ t.inputs = s.inputs ∧ t.gnss = s.gnss ∧ t.upd = s.upd ∧ t.panel = s.panel ∧
      t.sent = s.sent ∧ t.free = s.free := by
  unfold lswClaimOn; dsimp only; (repeat' split) <;> simp

@[simp] theorem lswRestart_leaves (n : Nat) (s : State) : let t := (lswRestart n s)
    t.hank = s.hank ∧ t.core = s.core ∧ t.lanes = s.lanes ∧ t.inputs = s.inputs ∧ t.gnss = s.gnss ∧ t.upd = s.upd ∧ t.panel = s.panel ∧
      t.sent = s.sent ∧ t.free = s.free := by
  simp [lswRestart]

@[simp] theorem solClaimHold_leaves (n : Nat) (s : State) : let t := (solClaimHold n s)
    t.hank = s.hank ∧ t.core = s.core ∧ t.lanes = s.lanes ∧ t.inputs = s.inputs ∧ t.gnss = s.gnss ∧ t.upd = s.upd ∧ t.panel = s.panel ∧
      t.sent = s.sent ∧ t.free = s.free := by
  unfold solClaimHold; dsimp only; (repeat' split) <;> simp

@[simp] theorem solBankOff_leaves (n : Nat) (s : State) : let t := (solBankOff n s)
    t.hank = s.hank ∧ t.core = s.core ∧ t.lanes = s.lanes ∧ t.inputs = s.inputs ∧ t.gnss = s.gnss ∧ t.upd = s.upd ∧ t.panel = s.panel ∧
      t.sent = s.sent ∧ t.free = s.free := by
  unfold solBankOff; dsimp only; (repeat' split) <;> simp

@[simp] theorem bankOff_leaves (b : Nat) (trips : Bool) (s : State) : let t := (bankOff b trips s)
    t.hank = s.hank ∧ t.core = s.core ∧ t.lanes = s.lanes ∧ t.inputs = s.inputs ∧ t.gnss = s.gnss ∧ t.upd = s.upd ∧ t.panel = s.panel ∧
      t.sent = s.sent ∧ t.free = s.free := by
  unfold bankOff; dsimp only; (repeat' split) <;> simp (disch := (intros; (repeat' split) <;> simp))

@[simp] theorem restartChan_leaves (c : Chan) (s : State) : let t := (restartChan c s)
    t.hank = s.hank ∧ t.core = s.core ∧ t.lanes = s.lanes ∧ t.inputs = s.inputs ∧ t.gnss = s.gnss ∧ t.upd = s.upd ∧ t.panel = s.panel ∧
      t.sent = s.sent ∧ t.free = s.free := by
  unfold restartChan; dsimp only; (repeat' split) <;> simp

@[simp] theorem bankRestart_leaves (b : Nat) (s : State) : let t := (bankRestart b s)
    t.hank = s.hank ∧ t.core = s.core ∧ t.lanes = s.lanes ∧ t.inputs = s.inputs ∧ t.gnss = s.gnss ∧ t.upd = s.upd ∧ t.panel = s.panel ∧
      t.sent = s.sent ∧ t.free = s.free := by
  unfold bankRestart; dsimp only; (repeat' split) <;> simp

@[simp] theorem shutChan_leaves (d : OutDecl) (s : State) : let t := (shutChan d s)
    t.hank = s.hank ∧ t.core = s.core ∧ t.lanes = s.lanes ∧ t.inputs = s.inputs ∧ t.gnss = s.gnss ∧ t.upd = s.upd ∧ t.panel = s.panel ∧
      t.sent = s.sent ∧ t.free = s.free := by
  unfold shutChan; dsimp only; (repeat' split) <;> simp

@[simp] theorem shutDeclared_leaves (s : State) : let t := (shutDeclared s)
    t.hank = s.hank ∧ t.core = s.core ∧ t.lanes = s.lanes ∧ t.inputs = s.inputs ∧ t.gnss = s.gnss ∧ t.upd = s.upd ∧ t.panel = s.panel ∧
      t.sent = s.sent ∧ t.free = s.free := by
  unfold shutDeclared; (repeat' split) <;> simp

@[simp] theorem allOff_leaves (s : State) : let t := (allOff s)
    t.hank = s.hank ∧ t.core = s.core ∧ t.lanes = s.lanes ∧ t.inputs = s.inputs ∧ t.gnss = s.gnss ∧ t.upd = s.upd ∧ t.panel = s.panel ∧
      t.sent = s.sent ∧ t.free = s.free := by
  simp [allOff]

@[simp] theorem switchOffHeld_leaves (s : State) : let t := (switchOffHeld s)
    t.hank = s.hank ∧ t.core = s.core ∧ t.lanes = s.lanes ∧ t.inputs = s.inputs ∧ t.gnss = s.gnss ∧ t.upd = s.upd ∧ t.panel = s.panel ∧
      t.sent = s.sent ∧ t.free = s.free := by
  unfold switchOffHeld; dsimp only; (repeat' split) <;> simp (disch := (intros; (repeat' split) <;> simp))

@[simp] theorem limpFollow_leaves (n : Nat) (s : State) : let t := (limpFollow n s)
    t.hank = s.hank ∧ t.core = s.core ∧ t.lanes = s.lanes ∧ t.inputs = s.inputs ∧ t.gnss = s.gnss ∧ t.upd = s.upd ∧ t.panel = s.panel ∧
      t.sent = s.sent ∧ t.free = s.free := by
  unfold limpFollow; dsimp only; (repeat' split) <;> simp

@[simp] theorem limpStart_leaves (s : State) : let t := (limpStart s)
    t.hank = s.hank ∧ t.core = s.core ∧ t.lanes = s.lanes ∧ t.inputs = s.inputs ∧ t.gnss = s.gnss ∧ t.upd = s.upd ∧ t.panel = s.panel ∧
      t.sent = s.sent ∧ t.free = s.free := by
  simp [limpStart]

@[simp] theorem dropCore_leaves (s : State) : (dropCore s).upd = s.upd := by
  simp [dropCore]

@[simp] theorem enterHold_leaves (cause : BitVec 8) (refusal : BitVec 16) (why : DayCause) (s : State) : let t := (enterHold cause refusal why s)
    t.core = s.core ∧ t.lanes = s.lanes ∧ t.inputs = s.inputs ∧ t.gnss = s.gnss ∧ t.upd = s.upd ∧ t.panel = s.panel ∧
      t.free = s.free := by
  unfold enterHold; dsimp only; (repeat' split) <;> simp

@[simp] theorem reachHold_leaves (cause : BitVec 8) (refusal : BitVec 16) (s : State) : let t := (reachHold cause refusal s)
    t.core = s.core ∧ t.lanes = s.lanes ∧ t.inputs = s.inputs ∧ t.gnss = s.gnss ∧ t.upd = s.upd ∧ t.panel = s.panel ∧
      t.free = s.free := by
  unfold reachHold; (repeat' split) <;> simp

@[simp] theorem dropCanBuffers_leaves (s : State) : (dropCanBuffers s).upd = s.upd := by
  simp [dropCanBuffers]

@[simp] theorem disarmNow_leaves (s : State) : let t := (disarmNow s)
    t.core = s.core ∧ t.lanes = s.lanes ∧ t.inputs = s.inputs ∧ t.gnss = s.gnss ∧ t.upd = s.upd ∧ t.panel = s.panel ∧
      t.free = s.free := by
  simp [disarmNow]

@[simp] theorem lateDisarm_leaves (s : State) : let t := (lateDisarm s)
    t.core = s.core ∧ t.lanes = s.lanes ∧ t.inputs = s.inputs ∧ t.gnss = s.gnss ∧ t.upd = s.upd ∧ t.panel = s.panel ∧
      t.free = s.free := by
  unfold lateDisarm; dsimp only; (repeat' split) <;> simp

@[simp] theorem lastLaneFailed_leaves (s : State) : let t := (lastLaneFailed s)
    t.core = s.core ∧ t.lanes = s.lanes ∧ t.inputs = s.inputs ∧ t.gnss = s.gnss ∧ t.upd = s.upd ∧ t.panel = s.panel ∧
      t.free = s.free := by
  unfold lastLaneFailed; (repeat' split) <;> simp

@[simp] theorem writeLk_leaves (guard : Bool) (v : Word) (s : State) : ((writeLk guard v s).2).upd = s.upd := by
  unfold writeLk; simp only [guarded]; (repeat' split) <;> simp

@[simp] theorem laneSwitch_leaves (n : Nat) (on : Bool) (s : State) : let t := (laneSwitch n on s)
    t.hank = s.hank ∧ t.core = s.core ∧ t.lanes = s.lanes ∧ t.inputs = s.inputs ∧ t.gnss = s.gnss ∧ t.upd = s.upd ∧ t.panel = s.panel ∧
      t.sent = s.sent ∧ t.free = s.free := by
  unfold laneSwitch; dsimp only; (repeat' split) <;> simp

@[simp] theorem laneDuty_leaves (n : Nat) (v : Word) (s : State) : let t := (laneDuty n v s)
    t.hank = s.hank ∧ t.core = s.core ∧ t.lanes = s.lanes ∧ t.inputs = s.inputs ∧ t.gnss = s.gnss ∧ t.upd = s.upd ∧ t.panel = s.panel ∧
      t.sent = s.sent ∧ t.free = s.free := by
  unfold laneDuty; dsimp only; (repeat' split) <;> simp

@[simp] theorem laneCur_leaves (n mA : Nat) (s : State) : let t := (laneCur n mA s)
    t.hank = s.hank ∧ t.core = s.core ∧ t.lanes = s.lanes ∧ t.inputs = s.inputs ∧ t.gnss = s.gnss ∧ t.upd = s.upd ∧ t.panel = s.panel ∧
      t.sent = s.sent ∧ t.free = s.free := by
  unfold laneCur; dsimp only; (repeat' split) <;> simp

@[simp] theorem laneProf_leaves (n : Nat) (v : Word) (s : State) : let t := (laneProf n v s)
    t.hank = s.hank ∧ t.lanes = s.lanes ∧ t.inputs = s.inputs ∧ t.gnss = s.gnss ∧ t.upd = s.upd ∧ t.panel = s.panel ∧ t.sent = s.sent ∧
      t.free = s.free := by
  unfold laneProf; dsimp only; (repeat' split) <;> simp

@[simp] theorem laneRel_leaves (n : Nat) (s : State) : let t := (laneRel n s)
    t.hank = s.hank ∧ t.core = s.core ∧ t.lanes = s.lanes ∧ t.inputs = s.inputs ∧ t.gnss = s.gnss ∧ t.upd = s.upd ∧ t.panel = s.panel ∧
      t.sent = s.sent ∧ t.free = s.free := by
  simp [laneRel]

@[simp] theorem refusePeak_leaves (n : Nat) (s : State) : let t := (refusePeak n s)
    t.hank = s.hank ∧ t.core = s.core ∧ t.lanes = s.lanes ∧ t.inputs = s.inputs ∧ t.gnss = s.gnss ∧ t.upd = s.upd ∧ t.panel = s.panel ∧
      t.sent = s.sent ∧ t.free = s.free := by
  unfold refusePeak; dsimp only; (repeat' split) <;> simp

@[simp] theorem lswWaitOver_leaves (n : Nat) (always : Bool) (s : State) : let t := (lswWaitOver n always s)
    t.hank = s.hank ∧ t.core = s.core ∧ t.lanes = s.lanes ∧ t.inputs = s.inputs ∧ t.gnss = s.gnss ∧ t.upd = s.upd ∧ t.panel = s.panel ∧
      t.sent = s.sent ∧ t.free = s.free := by
  unfold lswWaitOver; dsimp only; (repeat' split) <;> simp

@[simp] theorem clearLsw_leaves (n : Nat) (s : State) : let t := (clearLsw n s)
    t.hank = s.hank ∧ t.core = s.core ∧ t.lanes = s.lanes ∧ t.inputs = s.inputs ∧ t.gnss = s.gnss ∧ t.upd = s.upd ∧ t.panel = s.panel ∧
      t.sent = s.sent ∧ t.free = s.free := by
  unfold clearLsw clearLsw.lswIfOn; (repeat' split) <;> simp

@[simp] theorem solPeriod_leaves (n : Nat) (current : BitVec 16) (cal : Option (BitVec 16)) (s : State) : let t := (solPeriod n current cal s)
    t.hank = s.hank ∧ t.core = s.core ∧ t.lanes = s.lanes ∧ t.inputs = s.inputs ∧ t.gnss = s.gnss ∧ t.upd = s.upd ∧ t.panel = s.panel ∧
      t.sent = s.sent ∧ t.free = s.free := by
  unfold solPeriod; dsimp only; (repeat' split) <;> simp

@[simp] theorem plyLand_leaves (n : Nat) (d : PlySource) (x : PlySample) (s : State) : (plyLand n d x s).upd = s.upd := by
  unfold plyLand; dsimp only; (repeat' split) <;> simp

@[simp] theorem plyEntry_leaves (n : Nat) (d : PlySource) (e : BobEntry) (s : State) : (plyEntry n d e s).upd = s.upd := by
  unfold plyEntry; dsimp only; (repeat' split) <;> simp

@[simp] theorem dropBufs_leaves (n : Nat) (s : State) : (dropBufs n s).upd = s.upd := by
  simp [dropBufs]

@[simp] theorem canLeave_leaves (n : Nat) (s : State) : (canLeave n s).upd = s.upd := by
  simp [canLeave]

@[simp] theorem canLeaveAll_leaves (s : State) : (canLeaveAll s).upd = s.upd := by
  simp [canLeaveAll]

@[simp] theorem canReinit_leaves (n : Nat) (s : State) : (canReinit n s).upd = s.upd := by
  unfold canReinit; (repeat' split) <;> simp

@[simp] theorem ethDown_leaves (p : Nat) (s : State) : (ethDown p s).upd = s.upd := by
  simp [ethDown]

@[simp] theorem storeRegion_leaves (j : PanelJob) (s : State) : let t := (storeRegion j s)
    t.counters = s.counters ∧ t.core = s.core ∧ t.lanes = s.lanes ∧ t.tally = s.tally ∧ t.outs = s.outs ∧ t.inputs = s.inputs ∧
      t.gnss = s.gnss := by
  simp [storeRegion]

@[simp] theorem wantRails_leaves (s : State) : let t := (wantRails s)
    t.hank = s.hank ∧ t.core = s.core ∧ t.lanes = s.lanes ∧ t.outs = s.outs ∧ t.upd = s.upd ∧ t.sent = s.sent ∧ t.free = s.free := by
  unfold wantRails; dsimp only; (repeat' split) <;> simp

@[simp] theorem startJob_leaves (j : PanelJob) (s : State) : (startJob j s).upd = s.upd := by
  unfold startJob; dsimp only; (repeat' split) <;> simp

@[simp] theorem startPending_leaves (l_ : List PanelJob) (l__ : List PanelJob) (s : State) : (startPending l_ l__ s).upd = s.upd := by
  induction l__ generalizing l_ s with
  | nil => simp [startPending]
  | cons a l ih => unfold startPending; dsimp only; (repeat' split) <;> simp [ih]

@[simp] theorem panelRequest_leaves (pos : Word) (mode : BitVec 2) (w : BitVec 11) (h : BitVec 10) (s : State) : let t := (panelRequest pos mode w h s).2
    t.hank = s.hank ∧ t.core = s.core ∧ t.lanes = s.lanes ∧ t.outs = s.outs ∧ t.upd = s.upd ∧ t.sent = s.sent ∧ t.free = s.free := by
  unfold panelRequest; dsimp only; (repeat' split) <;> simp

@[simp] theorem drawAsset_leaves (k : Nat) (s : State) : let t := (drawAsset k s)
    t.hank = s.hank ∧ t.core = s.core ∧ t.lanes = s.lanes ∧ t.outs = s.outs ∧ t.upd = s.upd ∧ t.sent = s.sent ∧ t.free = s.free := by
  unfold drawAsset; dsimp only; (repeat' split) <;> simp

@[simp] theorem writeClkSrc_leaves (v : Word) (s : State) : (writeClkSrc v s).reqs = s.reqs := by
  unfold writeClkSrc; (repeat' split) <;> simp (disch := (intros; (repeat' split) <;> simp))

@[simp] theorem holdOff_leaves (s : State) : let t := (holdOff s)
    t.hank = s.hank ∧ t.lanes = s.lanes ∧ t.gnss = s.gnss ∧ t.panel = s.panel ∧ t.sent = s.sent ∧ t.free = s.free := by
  simp [holdOff]

@[simp] theorem writeSysCtrl_leaves (v : Word) (s : State) : let t := (writeSysCtrl v s).2
    t.lanes = s.lanes ∧ t.gnss = s.gnss ∧ t.panel = s.panel ∧ t.free = s.free := by
  unfold writeSysCtrl; dsimp only; (repeat' split) <;> simp

@[simp] theorem writeLimit_leaves (n : Nat) (v : Word) (s : State) : ((writeLimit n v s).2).upd = s.upd := by
  unfold writeLimit; simp only [guarded]; (repeat' split) <;> simp

@[simp] theorem writeTally_leaves (off : Nat) (v : Word) (s : State) : ((writeTally off v s).2).upd = s.upd := by
  unfold writeTally; simp only [guarded]; (repeat' split) <;> simp

@[simp] theorem writeDirMap_leaves (n : Nat) (v : Word) (s : State) : let t := (writeDirMap n v s).2
    t.hank = s.hank ∧ t.core = s.core ∧ t.lanes = s.lanes ∧ t.inputs = s.inputs ∧ t.gnss = s.gnss ∧ t.upd = s.upd ∧ t.panel = s.panel ∧
      t.sent = s.sent ∧ t.free = s.free := by
  unfold writeDirMap; dsimp only; (repeat' split) <;> simp

@[simp] theorem writeLimp_leaves (on : Bool) (s : State) : let t := (writeLimp on s).2
    t.hank = s.hank ∧ t.core = s.core ∧ t.lanes = s.lanes ∧ t.inputs = s.inputs ∧ t.gnss = s.gnss ∧ t.upd = s.upd ∧ t.panel = s.panel ∧
      t.sent = s.sent ∧ t.free = s.free := by
  unfold writeLimp; dsimp only; (repeat' split) <;> simp

@[simp] theorem writeLsw_leaves (who : Requester) (off : Nat) (v : Word) (s : State) : let t := (writeLsw who off v s).2
    t.hank = s.hank ∧ t.core = s.core ∧ t.lanes = s.lanes ∧ t.inputs = s.inputs ∧ t.gnss = s.gnss ∧ t.upd = s.upd ∧ t.panel = s.panel ∧
      t.sent = s.sent ∧ t.free = s.free := by
  unfold writeLsw; dsimp only; (repeat' split) <;> simp

@[simp] theorem writeSol_leaves (who : Requester) (off : Nat) (v : Word) (s : State) : ((writeSol who off v s).2).upd = s.upd := by
  unfold writeSol; simp only [guarded]; (repeat' split) <;> simp

@[simp] theorem writeSkein_leaves (who : Requester) (off : Nat) (v : Word) (s : State) : ((writeSkein who off v s).2).upd = s.upd := by
  unfold writeSkein; simp only [guarded]; (repeat' split) <;> simp

@[simp] theorem writePanel_leaves (who : Requester) (off : Nat) (v : Word) (s : State) : let t := (writePanel who off v s).2
    t.hank = s.hank ∧ t.core = s.core ∧ t.lanes = s.lanes ∧ t.outs = s.outs ∧ t.upd = s.upd ∧ t.sent = s.sent ∧ t.free = s.free := by
  unfold writePanel; dsimp only; (repeat' split) <;> simp

@[simp] theorem snapshots_leaves (l_ : List Word) (s : State) : let t := (snapshots l_ s).2
    t.reqs = s.reqs ∧ t.upd = s.upd := by
  induction l_ generalizing s with
  | nil => simp [snapshots]
  | cons a l ih => simp [snapshots, ih]

@[simp] theorem numbered_leaves (seq : BitVec 64) (e : Raised) (s : State) : let t := (numbered seq e s).2
    t.reqs = s.reqs ∧ t.upd = s.upd := by
  simp [numbered]

@[simp] theorem receiveOne_leaves (s : State) : let t := (receiveOne s)
    t.reqs = s.reqs ∧ t.upd = s.upd := by
  unfold receiveOne; dsimp only; (repeat' split) <;> simp

@[simp] theorem clearDone_leaves (s : State) : (clearDone s).reqs = s.reqs := by
  unfold clearDone; (repeat' split) <;> simp

@[simp] theorem receiveMany_leaves (n_ : Nat) (s : State) : let t := (receiveMany n_ s)
    t.reqs = s.reqs ∧ t.upd = s.upd := by
  induction n_ generalizing s with
  | zero => simp [receiveMany]
  | succ n ih => simp [receiveMany, ih]

@[simp] theorem flushSkein_leaves (s : State) : let t := (flushSkein s)
    t.reqs = s.reqs ∧ t.upd = s.upd := by
  simp [flushSkein]

@[simp] theorem pauseClose_leaves (s : State) : (pauseClose s).sent = s.sent := by
  unfold pauseClose; simp

@[simp] theorem rejoin_leaves (s : State) : (rejoin s).upd = s.upd := by
  unfold rejoin; dsimp only; (repeat' split) <;> simp

@[simp] theorem reachNoCop_leaves (cause : BitVec 8) (refusal : BitVec 16) (s : State) : let t := (reachNoCop cause refusal s)
    t.core = s.core ∧ t.lanes = s.lanes ∧ t.upd = s.upd ∧ t.free = s.free := by
  unfold reachNoCop; dsimp only; (repeat' split) <;> simp

@[simp] theorem copRefused_leaves (f : CopFault) (s : State) : let t := (copRefused f s)
    t.core = s.core ∧ t.lanes = s.lanes ∧ t.upd = s.upd ∧ t.free = s.free := by
  unfold copRefused; dsimp only; (repeat' split) <;> simp

@[simp] theorem portMorning_leaves (n : Nat) (s : State) : let t := (portMorning n s)
    t.hank = s.hank ∧ t.core = s.core ∧ t.lanes = s.lanes ∧ t.outs = s.outs ∧ t.upd = s.upd ∧ t.sent = s.sent ∧ t.free = s.free := by
  unfold portMorning; dsimp only; (repeat' split) <;> simp

@[simp] theorem supMorning_leaves (n : Nat) (s : State) : let t := (supMorning n s)
    t.hank = s.hank ∧ t.core = s.core ∧ t.lanes = s.lanes ∧ t.outs = s.outs ∧ t.upd = s.upd ∧ t.sent = s.sent ∧ t.free = s.free := by
  unfold supMorning; dsimp only; (repeat' split) <;> simp

@[simp] theorem enterMorning_leaves (s : State) : let t := (enterMorning s)
    t.lanes = s.lanes ∧ t.free = s.free := by
  unfold enterMorning; dsimp only; (repeat' split) <;> simp

@[simp] theorem startChan_leaves (c : Chan) (s : State) : let t := (startChan c s)
    t.hank = s.hank ∧ t.core = s.core ∧ t.lanes = s.lanes ∧ t.inputs = s.inputs ∧ t.gnss = s.gnss ∧ t.upd = s.upd ∧ t.panel = s.panel ∧
      t.sent = s.sent ∧ t.free = s.free := by
  unfold startChan; (repeat' split) <;> simp

@[simp] theorem duskOutputs_leaves (s : State) : let t := (duskOutputs s)
    t.hank = s.hank ∧ t.lanes = s.lanes ∧ t.gnss = s.gnss ∧ t.panel = s.panel ∧ t.sent = s.sent ∧ t.free = s.free := by
  unfold duskOutputs; dsimp only; (repeat' split) <;> simp

@[simp] theorem duskPanel_leaves (s : State) : let t := (duskPanel s)
    t.hank = s.hank ∧ t.core = s.core ∧ t.lanes = s.lanes ∧ t.outs = s.outs ∧ t.upd = s.upd ∧ t.sent = s.sent ∧ t.free = s.free := by
  simp [duskPanel]

@[simp] theorem ethReinit_leaves (p : Nat) (s : State) : (ethReinit p s).upd = s.upd := by
  unfold ethReinit; dsimp only; (repeat' split) <;> simp

@[simp] theorem resetFunction_leaves (n : Nat) (s : State) : let t := (resetFunction n s)
    t.outs = s.outs ∧ t.sent = s.sent := by
  unfold resetFunction; dsimp only; (repeat' split) <;> simp

@[simp] theorem restart_leaves (n : Nat) (s : State) : let t := (restart n s)
    t.outs = s.outs ∧ t.sent = s.sent := by
  simp [restart]

@[simp] theorem restartMask_leaves (m : BitVec 64) (s : State) : let t := (restartMask m s)
    t.outs = s.outs ∧ t.sent = s.sent := by
  unfold restartMask; (repeat' split) <;> simp (disch := (intros; (repeat' split) <;> simp))

@[simp] theorem answerReinit_leaves (w : Reinit) (s : State) : (answerReinit w s).outs = s.outs := by
  unfold answerReinit; (repeat' split) <;> simp

@[simp] theorem settle_leaves (s : State) : (settle s).outs = s.outs := by
  simp [settle]

end Sys2Proof.Machine
end

section
/-! PROOFS. The journal, the cop and the standby at DAWN (R25, R27, R29, R32, R49, R168 to R173, R301, R392). -/
namespace Sys2Proof.Machine
open Sys2Proof.Safety

/-! ### The journal's outcome (R49, R392) -/

theorem journalRecovery_runs {t : Time} {s : State} (h : inStep (advanceTo t s) .journal = true) :
    exec (.journalRecovery t) s = .next (goStep (if (advanceTo t s).sys.hold then .done else .copRead) (recoverJournal (advanceTo t s))) := by
  rw [exec_journalRecovery, execJournalRecovery]
  exact congrArg _ (if_pos h)

theorem goStep_eq (d : DawnStep) (s : State) : goStep d s = { s with sys := { s.sys with dawn := d } } := rfl

@[simp] theorem restoreSettings_upd (s : State) : let v := restoreSettings s
    v.upd.step = s.upd.step ∧ v.upd.slot = s.upd.slot := by
  have hrec : ∀ (k : Settings) n (t : State), (restoreRecord k n t).upd.step = t.upd.step ∧ (restoreRecord k n t).upd.slot = t.upd.slot :=
    fun k n t => by unfold restoreRecord; split <;> exact ⟨rfl, rfl⟩
  unfold restoreSettings
  split
  case h_1 k m _ _ =>
    exact ⟨foldl_keeps (fun s => s.upd.step) (fun s n => by split <;> simp [hrec]) _ _,
      foldl_keeps (fun s => s.upd.slot) (fun s n => by split <;> simp [hrec]) _ _⟩
  case h_2 => exact ⟨rfl, rfl⟩

theorem recoverJournal_spec (s : State) : let v := recoverJournal s
    v.lanes.holder = s.lanes.holder ∧ v.lanes.gate = s.lanes.gate ∧
      (s.upd.step = .none ∨ s.upd.step = .receiving ∨ s.upd.step = .verified ∨ s.upd.step = .staged → v = s) ∧
      (s.upd.step = .switching → v.upd.step = .trial ∧ v.upd.slot = !s.upd.slot) ∧
      (s.upd.step = .trial → s.upd.healthOk = true → v.upd.step = .none ∧ v.upd.slot = s.upd.slot) ∧
      (s.upd.step = .trial → s.upd.healthOk = false →
        v.upd.step = .reverted ∧ v.upd.slot = !s.upd.slot ∧ v.upd.revertedBlocked = true) ∧
      (s.upd.step = .committed → v.upd.step = .none ∧ v.upd.slot = s.upd.slot) := by
  have hholder : ∀ t, (holderSlot t).lanes.holder = t.lanes.holder ∧ (holderSlot t).lanes.gate = t.lanes.gate := fun t => by
    unfold holderSlot
    split <;> simp
  unfold recoverJournal
  split
  case h_1 h => simp [h, beginTrial, setStep, hholder]
  case h_2 h => cases hk : s.upd.healthOk <;> simp [h, oldSetBack, setStep, hholder]
  case h_3 h => simp [h, setStep]
  case h_4 h => split <;> simp [h, oldSetBack, hholder]
  case h_5 => simp_all

theorem journalRecovery_spec (s : State) : let v := goStep (if s.sys.hold then .done else .copRead) (recoverJournal s)
    v.sys = { s.sys with dawn := if s.sys.hold then .done else .copRead } ∧ v.store = s.store ∧ v.core = s.core ∧ v.sun = s.sun := by
  simp [goStep]

/-! ### Reading the cop (R29, R32, R168, R169) -/

/-- The hold for want of a valid cop, or DUSK in its place: lanes, core and the update's step stand. -/
theorem reachNoCop_keeps {cause : BitVec 8} (hc : cause ≠ 5) (refusal : BitVec 16) (s : State) : let v := reachNoCop cause refusal s
    v.lanes = s.lanes ∧ v.core = s.core ∧ v.sun = s.sun ∧ v.upd = s.upd ∧ v.store = s.store := by
  have hold : (enterHold cause refusal .hold s).lanes = s.lanes ∧ (enterHold cause refusal .hold s).core = s.core ∧
      (enterHold cause refusal .hold s).upd = s.upd := by
    have hc' : decide (cause = 5) = false := decide_eq_false hc
    simp only [enterHold, hc', Bool.false_and, Bool.false_eq_true, if_false]
    simp
  unfold reachNoCop reachHold
  (repeat' split) <;> simp_all

theorem reachNoCop_sys {cause : BitVec 8} {refusal : BitVec 16} {s : State} (hk : kl15Ends s = false) : let v := reachNoCop cause refusal s
    v.sys.state = .dawn ∧ v.sys.hold = true ∧ v.sys.holdCause = cause ∧
      v.sys.refusal = if cause = 3 || cause = 4 then refusal else 0 := by
  unfold reachNoCop
  rw [reachHold_holds hk]
  simp

theorem copReadDone_empty {t : Time} {s : State} (h : inStep (advanceTo t s) .copRead = true)
    (he : (copSlot (advanceTo t s) (advanceTo t s).store.sel).state = .empty) :
    exec (.copReadDone t) s = .next (reachNoCop 1 0 (advanceTo t s)) := by
  have he' : (selSlot (advanceTo t s)).state = .empty := he
  rw [exec_copReadDone, execCopReadDone]
  simp only [h, he', Bool.not_true, Bool.false_eq_true, if_false, if_true]

theorem copReadDone_incomplete {t : Time} {s : State} (h : inStep (advanceTo t s) .copRead = true)
    (he : (copSlot (advanceTo t s) (advanceTo t s).store.sel).state ≠ .empty)
    (hc : (copSlot (advanceTo t s) (advanceTo t s).store.sel).commit = false) :
    exec (.copReadDone t) s = .next (reachNoCop 2 0 (advanceTo t s)) := by
  have he' : (selSlot (advanceTo t s)).state ≠ .empty := he
  have hc' : (selSlot (advanceTo t s)).commit = false := hc
  rw [exec_copReadDone, execCopReadDone]
  simp only [h, he', hc', Bool.not_true, Bool.not_false, Bool.false_eq_true, if_false, if_true]

/-- The cop of the selected slot goes to validation. -/
def toValidation (s : State) : State :=
  let s := setCopSlot s.store.sel { selSlot s with state := .committed } s
  goStep .validation { s with store := { s.store with validating := true, valSlot := s.store.sel } }

theorem copReadDone_complete {t : Time} {s : State} (h : inStep (advanceTo t s) .copRead = true)
    (he : (copSlot (advanceTo t s) (advanceTo t s).store.sel).state ≠ .empty)
    (hc : (copSlot (advanceTo t s) (advanceTo t s).store.sel).commit = true) :
    exec (.copReadDone t) s = .next (toValidation (advanceTo t s)) := by
  have he' : (selSlot (advanceTo t s)).state ≠ .empty := he
  have hc' : (!(selSlot (advanceTo t s)).commit) = false := by rw [show (selSlot (advanceTo t s)).commit = true from hc]; rfl
  rw [exec_copReadDone, execCopReadDone]
  simp only [h, he', hc', Bool.not_true, Bool.false_eq_true, if_false]
  rfl

theorem toValidation_spec (s : State) : let v := toValidation s
    v.sys = { s.sys with dawn := .validation } ∧ v.store.validating = true ∧ v.store.valSlot = s.store.sel ∧
      copSlot v s.store.sel = { copSlot s s.store.sel with state := .committed } ∧
      copSlot v (!s.store.sel) = copSlot s (!s.store.sel) ∧ v = { s with sys := v.sys, store := v.store } := by
  cases hb : s.store.sel <;> simp [toValidation, goStep, setCopSlot, copSlot, selSlot, hb]

/-! ### Validation (R32, R171 to R173) -/

@[simp] theorem setCopSlot_store (b : Bool) (x : CopSlot) (s : State) : let v := setCopSlot b x s
    v.store.valSlot = s.store.valSlot ∧ v.store.running = s.store.running ∧ v.store.sel = s.store.sel ∧
      v.store.candidate = s.store.candidate ∧ v.store.validating = s.store.validating ∧ v.store.refusal = s.store.refusal ∧
      v.store.detail = s.store.detail := by
  cases b <;> simp [setCopSlot]

theorem copSlot_congr {s t : State} (h : t.store = s.store) (b : Bool) : copSlot t b = copSlot s b := by
  unfold copSlot
  rw [h]

/-- The store as a refusal leaves it: its code and detail, and the slot REFUSED. -/
def refusedStore (f : CopFault) (s : State) : State :=
  setVal { valSlot s with state := .refused } { s with store := { s.store with refusal := f.code, detail := f.detail, validating := false } }

theorem copRefused_keeps (f : CopFault) (s : State) : let v := copRefused f s
    v.store = (refusedStore f s).store ∧ v.lanes = s.lanes ∧ v.core = s.core ∧ v.sun = s.sun := by
  have hcause : (if f.code = 0x0105 then 4 else 3 : BitVec 8) ≠ 5 := by split <;> decide
  have hno := fun s => reachNoCop_keeps hcause f.code s
  unfold copRefused refusedStore
  dsimp only
  (repeat' split) <;> simp_all [setVal, valSlot, copSlot, setCopSlot]

theorem refusedStore_spec (f : CopFault) (s : State) : let v := refusedStore f s
    v.store.validating = false ∧ v.store.running = s.store.running ∧ v.store.sel = s.store.sel ∧ v.store.refusal = f.code ∧
      v.store.detail = f.detail ∧ copSlot v s.store.valSlot = { copSlot s s.store.valSlot with state := .refused } ∧
      copSlot v (!s.store.valSlot) = copSlot s (!s.store.valSlot) := by
  simp [refusedStore, setVal, valSlot, copSlot]
  cases s.store.valSlot <;> simp [setCopSlot]

/-- A cop refused in DAWN ends it in the hold with cause 4 for want of a capability, else 3 (R32). -/
theorem copRefused_dawn {f : CopFault} {s : State} (hd : s.sys.state = .dawn) (hh : s.sys.hold = false) (hk : kl15Ends s = false) :
    let v := copRefused f s
    v.sys.state = .dawn ∧ v.sys.hold = true ∧ v.sys.holdCause = (if f.code = 0x0105 then 4 else 3) ∧ v.sys.refusal = f.code := by
  have hk' : ∀ t : State, t.sys = s.sys → kl15Ends t = false := fun t ht => (kl15Ends_congr ht).trans hk
  unfold copRefused
  simp only [frame_setVal, frame_raise, hd, hh, if_true, Bool.false_eq_true, if_false, frame_copEvent]
  obtain ⟨hstate, hhold, hcause, hrefusal⟩ := reachNoCop_sys (cause := if f.code = 0x0105 then 4 else 3) (refusal := f.code)
    (s := refusedStore f (raise .error 0x01 0x0040 [f.code.zeroExtend 32, BitVec.ofNat 32 f.section_, BitVec.ofNat 32 f.record] s))
    (hk' _ (by simp [refusedStore]))
  refine ⟨hstate, hhold, hcause, hrefusal.trans (if_pos ?_)⟩
  split <;> rfl

theorem copRefused_running {f : CopFault} {s : State} (hd : s.sys.state ≠ .dawn) : (copRefused f s).sys = s.sys := by
  unfold copRefused
  simp [hd]

theorem copPassed_spec (r : CopResult) (s : State) : let v := copPassed r s
    v.store.validating = false ∧ v.store.running = s.store.running ∧ v.store.sel = s.store.sel ∧ v.store.refusal = 0 ∧
      v.store.detail = 0 ∧ copSlot v (!s.store.valSlot) = copSlot s (!s.store.valSlot) ∧
      (s.sys.state = .dawn → v.store.candidate = some r.cop ∧ v.sys = { s.sys with dawn := .copy } ∧
        copSlot v s.store.valSlot = copSlot s s.store.valSlot) ∧
      (s.sys.state ≠ .dawn → copSlot v s.store.valSlot = { copSlot s s.store.valSlot with state := .pending } ∧ v.sys = s.sys ∧
        v.store.candidate = s.store.candidate) := by
  unfold copPassed
  dsimp only
  by_cases hd : s.sys.state = .dawn <;> cases hb : s.store.valSlot <;> split <;>
    simp [hd, hb, goStep, setVal, valSlot, copSlot, setCopSlot]

/-- The slot under validation as it has been read and judged. -/
def judged (r : CopResult) (d : Cop) (s : State) : State :=
  setVal { valSlot s with
    migrated := r.migrated, signed := r.signed, reading := some d, copy := if r.migrated then some r.cop else none } s

theorem judged_spec (r : CopResult) (d : Cop) (s : State) : let v := judged r d s
    v.sys = s.sys ∧ v.lanes = s.lanes ∧ v.core = s.core ∧ v.sun = s.sun ∧ v.store.valSlot = s.store.valSlot ∧
      v.store.running = s.store.running ∧ v.store.sel = s.store.sel ∧ v.store.candidate = s.store.candidate ∧
      copSlot v s.store.valSlot = { copSlot s s.store.valSlot with
        migrated := r.migrated, signed := r.signed, reading := some d, copy := if r.migrated then some r.cop else none } ∧
      copSlot v (!s.store.valSlot) = copSlot s (!s.store.valSlot) := by
  unfold judged
  cases hb : s.store.valSlot <;> simp [setVal, valSlot, copSlot, setCopSlot, hb]

theorem copValidationDone_runs {t : Time} {c : Cop} {s : State} (hv : (advanceTo t s).store.validating = true)
    (hd : distaffRuns (advanceTo t s) = true) :
    let u := advanceTo t s
    let x := valSlot u
    let d := x.reading.getD c
    let r := validate x.bytes x.badDigest (readCop x.bytes d) u
    (magicOk x.bytes = true → sectionsOk x.bytes = true → fitsBytes x.bytes d = true) →
    exec (.copValidationDone t c) s = .next (match r.refusal with
      | some f => copRefused f (judged r d u)
      | none => copPassed r (judged r d u)) := by
  intro u x d r hfit
  have hfit' : (magicOk x.bytes && sectionsOk x.bytes && !fitsBytes x.bytes d) = false := by
    cases hm : magicOk x.bytes <;> cases hs : sectionsOk x.bytes <;> simp_all
  rw [exec_copValidationDone, execCopValidationDone]
  simp only [show (advanceTo t s).store.validating = true from hv, hd, Bool.not_true, Bool.or_self, Bool.false_eq_true, if_false]
  rw [if_neg (Bool.eq_false_iff.1 hfit')]
  rfl

/-- The end of a validation, by its result. -/
theorem validation_spec (r : CopResult) (d : Cop) (u : State) :
    let v := match r.refusal with
      | some f => copRefused f (judged r d u)
      | none => copPassed r (judged r d u)
    (copSlot v u.store.valSlot).bytes = (copSlot u u.store.valSlot).bytes ∧ (copSlot v u.store.valSlot).reading = some d ∧
      (copSlot v u.store.valSlot).migrated = r.migrated ∧ (copSlot v u.store.valSlot).signed = r.signed ∧
      v.store.validating = false ∧ v.store.running = u.store.running ∧ v.store.sel = u.store.sel ∧
      v.lanes = u.lanes ∧ v.core = u.core ∧ v.sun = u.sun ∧ copSlot v (!u.store.valSlot) = copSlot u (!u.store.valSlot) ∧
      (∀ f, r.refusal = some f → v.store.refusal = f.code ∧ v.store.detail = CopFault.detail f ∧
        (copSlot v u.store.valSlot).state = .refused ∧
        (u.sys.state = .dawn → u.sys.hold = false → kl15Ends u = false →
          v.sys.state = .dawn ∧ v.sys.hold = true ∧ v.sys.holdCause = (if f.code = 0x0105 then 4 else 3) ∧ v.sys.refusal = f.code) ∧
        (u.sys.state ≠ .dawn → v.sys = u.sys)) ∧
      (r.refusal = none → v.store.refusal = 0 ∧ v.store.detail = 0 ∧
        (u.sys.state = .dawn → v.store.candidate = some r.cop ∧ v.sys = { u.sys with dawn := .copy }) ∧
        (u.sys.state ≠ .dawn → (copSlot v u.store.valSlot).state = .pending ∧ v.sys = u.sys ∧
          v.store.candidate = u.store.candidate)) := by
  obtain ⟨hsys, hlanes, hcore, hsun, hval, hrun, hsel, hcand, hslot, hother⟩ := judged_spec r d u
  generalize judged r d u = w at *
  cases hf : r.refusal with
  | some f =>
    dsimp only
    obtain ⟨hstore', hlanes', hcore', hsun'⟩ := copRefused_keeps f w
    obtain ⟨hvalid', hrun', hsel', hcode', hdetail', hslot', hother'⟩ := refusedStore_spec f w
    rw [← copSlot_congr hstore', hval, hslot] at hslot'
    rw [← copSlot_congr hstore', hval, hother] at hother'
    rw [← hstore'] at hvalid' hrun' hsel' hcode' hdetail'
    refine ⟨by rw [hslot'], by rw [hslot'], by rw [hslot'], by rw [hslot'], hvalid', hrun'.trans hrun, hsel'.trans hsel,
      hlanes'.trans hlanes, hcore'.trans hcore, hsun'.trans hsun, hother', ?_, nofun⟩
    rintro f' hf'
    obtain rfl := Option.some.inj hf'
    refine ⟨hcode', hdetail', by rw [hslot'], fun hd hh hk => ?_, fun hd => ?_⟩
    · rw [← hsys] at hd hh
      exact copRefused_dawn hd hh ((kl15Ends_congr hsys).trans hk)
    · rw [← hsys] at hd ⊢
      exact copRefused_running hd
  | none =>
    dsimp only
    obtain ⟨hvalid', hrun', hsel', hcode', hdetail', hother', hdawn, hlater⟩ := copPassed_spec r w
    rw [hval, hslot, hsys] at hdawn hlater
    rw [hval, hother] at hother'
    have hbytes : (copSlot (copPassed r w) u.store.valSlot).bytes = (copSlot u u.store.valSlot).bytes ∧
        (copSlot (copPassed r w) u.store.valSlot).reading = some d ∧
        (copSlot (copPassed r w) u.store.valSlot).migrated = r.migrated ∧
        (copSlot (copPassed r w) u.store.valSlot).signed = r.signed := by
      by_cases hd : u.sys.state = .dawn
      · obtain ⟨-, -, h⟩ := hdawn hd
        rw [h]
        exact ⟨rfl, rfl, rfl, rfl⟩
      · obtain ⟨h, -, -⟩ := hlater hd
        rw [h]
        exact ⟨rfl, rfl, rfl, rfl⟩
    obtain ⟨hbytes, hreading, hmigrated, hsigned⟩ := hbytes
    refine ⟨hbytes, hreading, hmigrated, hsigned, hvalid', hrun'.trans hrun, hsel'.trans hsel, by simpa using hlanes,
      by simpa using hcore, by simpa using hsun, hother', nofun, fun _ => ⟨hcode', hdetail', fun hd => ?_, fun hd => ?_⟩⟩
    · obtain ⟨hc, hs, -⟩ := hdawn hd
      exact ⟨hc, hs⟩
    · obtain ⟨hp, hs, hc⟩ := hlater hd
      exact ⟨by rw [hp], hs, hc.trans hcand⟩

/-! ### The copy to the standby, and MORNING (R25, R27, R301) -/

theorem enterMorning_spec {s : State} (h : kl15Ends s = false) : let v := enterMorning s
    v.sys.state = .morning ∧ v.sys.hold = false ∧ v.sys.holdCause = 0 ∧ v.sys.dawn = .done ∧ v.store = s.store := by
  unfold enterMorning
  simp only [h, Bool.false_eq_true, if_false]
  simp [applyEth, startStrike, setLocks]

theorem enterMorning_dusk {s : State} (h : kl15Ends s = true) : let v := enterMorning s
    v.sys.state = .dusk ∧ v.sys.duskStep = 1 ∧ v.store = { s.store with running := none } := by
  unfold enterMorning
  simp only [h, if_true]
  simp

/-- The standby as its copy ends, and the cop that then runs. -/
def copied (ok : Bool) (c : Cop) (l : Lane) (s : State) : State :=
  let s := if ok then setLane l.other { lane s l.other with state := .cold, mgmt := false, clocks := false, slot := s.upd.slot } s
    else failLane l.other 6 s
  let s := setVal { valSlot s with state := .valid } s
  { s with store := { s.store with
    running := some c, lastValid := some c, det := s.store.candDet, hover := s.store.candHover, dissMw := s.store.candDiss
    candidate := none } }

theorem standbyCopyDone_runs {t : Time} {ok : Bool} {c : Cop} {l : Lane} {s : State} (h : inStep (advanceTo t s) .copy = true)
    (hc : (advanceTo t s).store.candidate = some c) (hl : (advanceTo t s).lanes.holder = some l)
    (hw : (lane (advanceTo t s) l.other).state = .waking) :
    exec (.standbyCopyDone t ok) s = .next (enterMorning (copied ok c l (advanceTo t s))) := by
  rw [exec_standbyCopyDone, execStandbyCopyDone]
  simp only [hc, hl, h, hw, Bool.not_true, Bool.false_eq_true, if_false, ne_eq, not_true]
  rfl

theorem copied_spec (ok : Bool) (c : Cop) (l : Lane) (s : State) : let v := copied ok c l s
    (lane v l.other).state = (if ok then .cold else .failed) ∧ (ok = false → (lane v l.other).cause = 6) ∧ lane v l = lane s l ∧
      v.lanes.holder = s.lanes.holder ∧ v.lanes.gate = s.lanes.gate ∧ v.store.candidate = none ∧ v.store.lastValid = some c ∧
      v.store.running = some c ∧ (copSlot v s.store.valSlot).state = .valid ∧ v.sys = s.sys ∧ v.sun = s.sun ∧ v.clock = s.clock := by
  unfold copied
  cases ok <;> cases l <;> cases hb : s.store.valSlot <;>
    simp [setVal, valSlot, copSlot, setCopSlot, lane, setLane, failLane, Lane.other, hb]

/-! ### The obligation -/

/-- Settles O13: the journal's outcome, the cop read, validated and copied, and where DAWN goes each time. -/
theorem journalAndCopAtDawn : Obligations.JournalAndCopAtDawn := by
  refine ⟨fun t s h => ⟨_, journalRecovery_runs h, ?journal⟩, fun t s h => ?read, fun t c s hv hd hfit => ?validation,
    fun t ok c l s h hc hl hw => ⟨_, standbyCopyDone_runs h hc hl hw, ?copy⟩⟩
  case journal =>
    generalize advanceTo t s = u
    obtain ⟨hsys, hstore, hcore, hsun⟩ := journalRecovery_spec u
    obtain ⟨hholder, hgate, hnone, hsw, hok, hbad, hdone⟩ := recoverJournal_spec u
    refine ⟨hsys, hstore, hcore, hsun, hholder, hgate, fun h => ?_, hsw, hok, hbad, hdone⟩
    rw [hnone h]
    rfl
  case read =>
    by_cases he : (copSlot (advanceTo t s) (advanceTo t s).store.sel).state = .empty
    · refine ⟨_, copReadDone_empty h he, ?_⟩
      generalize advanceTo t s = u at he
      obtain ⟨hlanes, hcore, hsun, hupd, hstore⟩ := reachNoCop_keeps (cause := 1) (by decide) 0 u
      refine ⟨hlanes, hcore, hsun, congrArg _ hupd, fun _ hk => ?_, fun hne => absurd he hne, fun hne => absurd he hne⟩
      obtain ⟨hstate, hhold, hcause, hrefusal⟩ := reachNoCop_sys (cause := 1) (refusal := 0) hk
      exact ⟨hstate, hhold, hcause, hrefusal, hstore⟩
    cases hc : (copSlot (advanceTo t s) (advanceTo t s).store.sel).commit
    · refine ⟨_, copReadDone_incomplete h he hc, ?_⟩
      generalize advanceTo t s = u at he hc
      obtain ⟨hlanes, hcore, hsun, hupd, hstore⟩ := reachNoCop_keeps (cause := 2) (by decide) 0 u
      refine ⟨hlanes, hcore, hsun, congrArg _ hupd, fun h => absurd h he, fun _ _ hk => ?_, nofun⟩
      obtain ⟨hstate, hhold, hcause, hrefusal⟩ := reachNoCop_sys (cause := 2) (refusal := 0) hk
      exact ⟨hstate, hhold, hcause, hrefusal, hstore⟩
    · refine ⟨_, copReadDone_complete h he hc, ?_⟩
      generalize advanceTo t s = u at he hc
      obtain ⟨-, -, -, -, -, heq⟩ := toValidation_spec u
      refine ⟨?_, ?_, ?_, ?_, fun h => absurd h he, nofun, fun _ _ => toValidation_spec u⟩ <;> rw [heq]
  case validation =>
    refine ⟨_, copValidationDone_runs hv hd hfit, ?_⟩
    exact validation_spec _ _ (advanceTo t s)
  case copy =>
    obtain ⟨hstate, hcause, hlane, hholder, hgate, hcand, hlast, hrun, hslot, hsys, hsun, hclock⟩ := copied_spec ok c l (advanceTo t s)
    generalize advanceTo t s = u at *
    generalize copied ok c l u = w at *
    have hl' : ∀ k, lane (enterMorning w) k = lane w k := fun k => by simp [lane]
    have hk' := kl15Ends_congr hsys
    rw [hl', hl']
    refine ⟨hstate, hcause, hlane, ?_⟩
    cases hk : kl15Ends u
    · obtain ⟨hmorning, hhold, hholdCause, hdone, hstore⟩ := enterMorning_spec (hk'.trans hk)
      refine ⟨by simpa [hholder] using hl, by simpa using hgate, by rw [hstore, hcand], by rw [hstore, hlast], ?_,
        fun _ => ⟨hmorning, hhold, hholdCause, hdone, by rw [hstore, hrun]⟩, nofun, by simpa using hsun, by simpa using hclock⟩
      rw [copSlot_congr hstore, hslot]
    · obtain ⟨hdusk, hstep, hstore⟩ := enterMorning_dusk (hk'.trans hk)
      refine ⟨by simpa [hholder] using hl, by simpa using hgate, by rw [hstore, ← hcand], by rw [hstore, ← hlast], ?_,
        nofun, fun _ => ⟨hdusk, hstep, by rw [hstore]⟩, by simpa using hsun, by simpa using hclock⟩
      rw [← hslot]
      unfold copSlot
      rw [hstore]

end Sys2Proof.Machine
end

section
/-! PROOFS. ARM, the start of outputs, DISARM (R25, R35 to R37, R149). -/
namespace Sys2Proof.Machine
open Sys2Proof.Safety

/-! ### ARM (R25, R35, R36, R149) -/

@[simp] theorem dropStale_sol (n : Nat) (s : State) : (dropStale n s).outs.sol = s.outs.sol := by
  unfold dropStale
  dsimp only
  split <;> simp [setLsw]

/-- Loops that are due to initialise: each declared one among those named, and those that were. -/
theorem init_foldl (i : InitCause) (keys : List Nat) (m : SMap LoopSt) (k : Nat) (h : k ∈ keys ∨ (SMap.get m {} k).init = some i) :
    (SMap.get (keys.foldl (fun m k => SMap.put m {} k { SMap.get m {} k with init := some i }) m) {} k).init = some i := by
  induction keys generalizing m with
  | nil => simpa using h
  | cons j keys ih =>
    refine ih _ ?_
    by_cases hjk : k = j
    · subst hjk
      exact .inr (by rw [SMap.get_put_same])
    · rw [SMap.get_put_ne _ _ _ hjk]
      simpa [hjk] using h

/-- ARM: NOON with a standby, else AFTERNOON; outputs are not driven yet, and every declared loop is due to initialise. -/
theorem armNow_spec (why : DayCause) (s : State) : let v := armNow why s
    v.sys = { s.sys with state := if standbyReady s then .noon else .afternoon, armedAt := some s.sun.time, driving := false } ∧
      (∀ d ∈ (cop s).loops, (loopSt v (loopKey d.unit d.loop)).init = some .arm) ∧
      v.lanes = s.lanes ∧ v.store = s.store ∧ v.tally = s.tally ∧ v.outs.sol = s.outs.sol ∧ v.core.sram = s.core.sram ∧
      v.core.acts = s.core.acts ∧ v.core.signals = s.core.signals ∧ v.sun = s.sun := by
  have hsol : ∀ (l : List Nat) t, (l.foldl (fun s n => dropStale n s) t).outs.sol = t.outs.sol :=
    foldl_keeps (fun s => s.outs.sol) fun s n => dropStale_sol n s
  refine ⟨by simp [armNow], fun d hd => ?_, by simp, by simp, by simp, by simp [armNow, hsol], by simp [armNow], by simp [armNow],
    by simp [armNow], by simp⟩
  have hcop : ∀ t : State, t.store = s.store → cop t = cop s := fun t ht => by simp [cop, ht]
  simp only [armNow, loopSt]
  refine init_foldl _ _ _ _ (.inl (List.mem_map.2 ⟨d, ?_, rfl⟩))
  rwa [hcop _ (by simp)]

theorem arm_runs {r : Req} {s : State} (h : Taken r true false s) (hm : (arrived r s).sys.state = .morning)
    (hh : (arrived r s).sys.holdupRun = false) :
    exec (.arm r) s = .next (answer r (.ack []) (armNow .arm (arrived r s))) := by
  rw [exec_arm, execArm, serve_taken _ _ _ _ _ h]
  simp only [hm, hh, ne_eq, not_true, decide_false, Bool.or_self, Bool.false_eq_true, if_false]
  rfl

theorem arm_refused {r : Req} {s : State} (h : Taken r true false s)
    (hm : (arrived r s).sys.state ≠ .morning ∨ (arrived r s).sys.holdupRun = true) :
    exec (.arm r) s = .next (answer r (.nak .wrongState 0) (arrived r s)) := by
  have hc : (decide ((arrived r s).sys.state ≠ .morning) || (arrived r s).sys.holdupRun) = true := by simpa using hm
  rw [exec_arm, execArm, serve_taken _ _ _ _ _ h]
  simp only [hc, if_true]
  rfl

theorem autoarm_runs {t : Time} {s : State} (hm : (advanceTo t s).sys.state = .morning) (hr : running (advanceTo t s) = true)
    (hf : atFrame (advanceTo t s) = true) (ha : (cop (advanceTo t s)).autoarm = true) (hd : (advanceTo t s).sys.autoarmDone = false)
    (hh : (advanceTo t s).sys.holdupRun = false)
    (hok : (cop (advanceTo t s)).armOk = none ∨ signalOn (advanceTo t s) (cop (advanceTo t s)).armOk = true) :
    exec (.autoarm t) s = .next (armNow .autoarm { advanceTo t s with sys := { (advanceTo t s).sys with autoarmDone := true } }) := by
  have hok' : ((cop (advanceTo t s)).armOk.isNone || signalOn (advanceTo t s) (cop (advanceTo t s)).armOk) = true := by simpa using hok
  rw [exec_autoarm, execAutoarm]
  simp only [hm, hr, hf, ha, hd, hh, hok', decide_true, Bool.not_false, Bool.and_self, if_true]

/-! ### The start of outputs, and DISARM (R35, R37) -/

/-- What ARM_OUTPUT_START does when it is due. -/
def outputsDriven (s : State) : State :=
  ((sortBy (fun p q => p.armOrder ≤ q.armOrder) (cop s).outputs).map (·.chan)).foldl (fun s c => startChan c s)
    { s with sys := { s.sys with driving := true, held := false, armedAt := none } }

theorem armOutputStart_runs {t a : Time} {s : State} (ha : (advanceTo t s).sys.armedAt = some a) (hg : (advanceTo t s).lanes.gate = true)
    (hs : (advanceTo t s).sys.state = .noon ∨ (advanceTo t s).sys.state = .afternoon) (hf : atFrame (advanceTo t s) = true)
    (hp : a.toNat + 1000000 ≤ (advanceTo t s).sun.time.toNat) (hh : (advanceTo t s).sys.holdupRun = false) :
    exec (.armOutputStart t) s = .next (outputsDriven (advanceTo t s)) := by
  have hp' : passed (advanceTo t s) a 1000000 = true := decide_eq_true hp
  have hdue : ((advanceTo t s).lanes.gate && (decide ((advanceTo t s).sys.state = .noon) || decide ((advanceTo t s).sys.state = .afternoon))
      && atFrame (advanceTo t s) && passed (advanceTo t s) a 1000000 && !(advanceTo t s).sys.holdupRun) = true := by
    rw [hg, hf, hp', hh]
    simpa using hs
  rw [exec_armOutputStart, execArmOutputStart]
  simp only [ha, hdue, if_true]
  rfl

theorem outputsDriven_spec (s : State) : let v := outputsDriven s
    v.sys = { s.sys with driving := true, held := false, armedAt := none } ∧
      v.lanes.holder = s.lanes.holder ∧ v.lanes.gate = s.lanes.gate ∧ v.store = s.store ∧ v.core.acts = s.core.acts ∧ v.sun = s.sun := by
  simp [outputsDriven]

theorem disarmNow_spec (s : State) : let v := disarmNow s
    v.sys = { s.sys with
      state := .morning, driving := false, armedAt := none, disarmPending := false, held := false, disarmedAt := some s.sun.time } ∧
      v.lanes = s.lanes ∧ v.store = s.store ∧ v.core = s.core ∧ v.sun = s.sun := by
  simp [disarmNow]

theorem disarm_runs {r : Req} {s : State} (h : Taken r true false s) (hh : (arrived r s).sys.holdupRun = false)
    (hs : (arrived r s).sys.state = .noon ∨ (arrived r s).sys.state = .afternoon) :
    exec (.disarm r) s = .next (answer r (.ack []) (if (arrived r s).lanes.gate then disarmNow (arrived r s)
      else { arrived r s with sys := { (arrived r s).sys with disarmPending := true } })) := by
  rw [exec_disarm, execDisarm, serve_taken _ _ _ _ _ h]
  rcases hs with hs | hs <;> simp only [hh, hs, Bool.false_eq_true, if_false] <;> rfl

theorem disarm_held {r : Req} {s : State} (h : Taken r true false s) (hh : (arrived r s).sys.holdupRun = false)
    (hs : (arrived r s).sys.state = .morning) (hd : (arrived r s).sys.held = true) :
    exec (.disarm r) s = .next (answer r (.ack []) (shutDeclared { arrived r s with sys := { (arrived r s).sys with held := false } })) := by
  rw [exec_disarm, execDisarm, serve_taken _ _ _ _ _ h]
  simp only [hh, hs, hd, Bool.false_eq_true, if_false, if_true]
  rfl

/-! ### The obligation -/

/-- Settles O14: ARM, AUTOARM, the start of outputs and DISARM, each where it takes effect and where it is refused. -/
theorem armAndDisarm : Obligations.ArmAndDisarm := by
  refine ⟨⟨fun r s h hm hh => ⟨_, arm_runs h hm hh, ?arm⟩, fun r s h hm => ⟨_, arm_refused h hm, answer_nak_spec r _ _ _⟩,
    fun t s hm hr hf ha hd hh hok => ⟨_, autoarm_runs hm hr hf ha hd hh hok, ?autoarm⟩⟩,
    fun t a s ha hg hs hf hp hh => ⟨_, armOutputStart_runs ha hg hs hf hp hh, outputsDriven_spec _⟩,
    fun r s h hh hs => ⟨fun hg => ⟨_, disarm_runs h hh hs, ?disarm⟩, fun hg => ⟨_, disarm_runs h hh hs, ?pending⟩⟩,
    fun r s h hh hs hd => ⟨_, disarm_held h hh hs hd, ?held⟩⟩
  case arm =>
    generalize arrived r s = u
    have hspec := armNow_spec .arm u
    generalize armNow .arm u = w at hspec ⊢
    exact ⟨rfl, hspec⟩
  case autoarm =>
    generalize advanceTo t s = u
    obtain ⟨hsys, hloops, hlanes, hstore, htally, hsol, -⟩ :=
      armNow_spec .autoarm { u with sys := { u.sys with autoarmDone := true } }
    generalize armNow .autoarm { u with sys := { u.sys with autoarmDone := true } } = w at *
    exact ⟨hsys, hloops, hlanes, hstore, htally, hsol⟩
  case disarm =>
    generalize arrived r s = u at hg
    rw [hg]
    have hspec := disarmNow_spec u
    generalize disarmNow u = w at hspec ⊢
    exact ⟨rfl, hspec⟩
  case pending =>
    generalize arrived r s = u at hg
    rw [hg]
    exact ⟨rfl, rfl, rfl⟩
  case held =>
    generalize arrived r s = u
    have hspec : let v := shutDeclared { u with sys := { u.sys with held := false } }
        v.sys = { u.sys with held := false } ∧ v.lanes = u.lanes ∧ v.core = u.core ∧ v.store = u.store := by simp
    generalize shutDeclared { u with sys := { u.sys with held := false } } = w at hspec ⊢
    exact ⟨rfl, hspec⟩

end Sys2Proof.Machine
end

section
/-! PROOFS. What operations leave of the day and of the Whorl where they leave neither the system's state nor the lanes as they are. -/
namespace Sys2Proof.Machine
open Sys2Proof.Safety

/-- The day's state without the lock bits, which any read of a register may mend. -/
def Sys.day (x : Sys) : Sys := { x with lock := .of 0 }

@[simp] theorem Sys.day_lock (x : Sys) (l : Trip 5) : Sys.day { x with lock := l } = x.day := rfl

theorem Sys.eq_of_day {x y : Sys} (h : x.day = y.day) : x = { y with lock := x.lock } := by
  obtain ⟨⟩ := x
  obtain ⟨⟩ := y
  simp_all [Sys.day]

/-- The holder of the Whorl, and its gate. -/
def Lanes.whorl (x : Lanes) : Option Lane × Bool := (x.holder, x.gate)

@[simp] theorem Lanes.whorl_mk (la lb holder gate last noCkpt lease guard leaseIn guardIn remain gap yieldAt yieldBy switch gaps) :
    Lanes.whorl ⟨la, lb, holder, gate, last, noCkpt, lease, guard, leaseIn, guardIn, remain, gap, yieldAt, yieldBy, switch, gaps⟩ =
      (holder, gate) := rfl

@[simp] theorem Lanes.holder_gate (x : Lanes) : (x.holder, x.gate) = x.whorl := rfl

@[simp] theorem foldl_day {α : Type} (f : State → α → State) (h : ∀ s a, (f s a).sys.day = s.sys.day) (l : List α) (s : State) :
    (l.foldl f s).sys.day = s.sys.day :=
  foldl_keeps (fun s => s.sys.day) h l s

@[simp] theorem foldl_whorl {α : Type} (f : State → α → State) (h : ∀ s a, (f s a).lanes.whorl = s.lanes.whorl) (l : List α) (s : State) :
    (l.foldl f s).lanes.whorl = s.lanes.whorl :=
  foldl_keeps (fun s => s.lanes.whorl) h l s

@[simp] theorem setLane_whorl (l : Lane) (x : LaneSt) (s : State) : (setLane l x s).lanes.whorl = s.lanes.whorl := by cases l <;> rfl

@[simp] theorem tripRewrite_day (addr : Nat) (s : State) : (tripRewrite addr s).sys.day = s.sys.day := by
  unfold tripRewrite
  split <;> rfl

@[simp] theorem tripRewrite_whorl (addr : Nat) (s : State) : (tripRewrite addr s).lanes.whorl = s.lanes.whorl := by
  unfold tripRewrite
  split <;> rfl

@[simp] theorem holderSlot_whorl (s : State) : (holderSlot s).lanes.whorl = s.lanes.whorl := by
  unfold holderSlot
  split
  · exact setLane_whorl _ _ _
  · rfl

@[simp] theorem dropYield_whorl (s : State) : (dropYield s).lanes.whorl = s.lanes.whorl := by
  unfold dropYield
  split <;> simp

@[simp] theorem acceptYield_whorl (b : Bool) (s : State) : (acceptYield b s).2.lanes.whorl = s.lanes.whorl := by
  unfold acceptYield
  dsimp only
  (repeat' split) <;> simp [done, refuse]

@[simp] theorem writeLk_whorl (b : Bool) (v : Word) (s : State) : (writeLk b v s).2.lanes.whorl = s.lanes.whorl := by
  unfold writeLk
  dsimp only [guarded, done, refuse]
  (repeat' split) <;> simp

@[simp] theorem mend_day (addr : Nat) (s : State) : (mend addr s).sys.day = s.sys.day := by
  unfold mend
  dsimp only
  rw [foldl_day _ fun s m => by split <;> simp, tripRewrite_day]

@[simp] theorem mend_whorl (addr : Nat) (s : State) : (mend addr s).lanes.whorl = s.lanes.whorl := by
  unfold mend
  dsimp only
  rw [foldl_whorl _ fun s m => by split <;> simp, tripRewrite_whorl]

@[simp] theorem elapse_whorl (dt : Nat) (s : State) : (elapse dt s).lanes.whorl = s.lanes.whorl := by
  simp [elapse]

@[simp] theorem advanceTo_whorl (t : Time) (s : State) : (advanceTo t s).lanes.whorl = s.lanes.whorl := by
  unfold advanceTo; (repeat' split) <;> simp

@[simp] theorem tick_whorl (s : State) : (tick s).lanes.whorl = s.lanes.whorl := by
  unfold tick; (repeat' split) <;> simp

@[simp] theorem wakeAdmit_whorl (l : Lane) (s : State) : (wakeAdmit l s).lanes.whorl = s.lanes.whorl := by
  unfold wakeAdmit; dsimp only; (repeat' split) <;> simp

@[simp] theorem mgmtAdmit_whorl (l : Lane) (s : State) : (mgmtAdmit l s).lanes.whorl = s.lanes.whorl := by
  unfold mgmtAdmit; dsimp only; (repeat' split) <;> simp

@[simp] theorem runAdmit_whorl (l : Lane) (s : State) : (runAdmit l s).lanes.whorl = s.lanes.whorl := by
  unfold runAdmit; dsimp only; (repeat' split) <;> simp

@[simp] theorem onAdmitted_whorl (o : Owner) (s : State) : (onAdmitted o s).lanes.whorl = s.lanes.whorl := by
  unfold onAdmitted; dsimp only; (repeat' split) <;> simp

@[simp] theorem submit_whorl (k : Nat) (c : Claim) (s : State) : (submit k c s).lanes.whorl = s.lanes.whorl := by
  unfold submit; (repeat' split) <;> simp

@[simp] theorem burst_whorl (who : Nat) (cur : Option Nat) (s : State) : ((burst who cur s).2.2).lanes.whorl = s.lanes.whorl := by
  unfold burst; dsimp only; (repeat' split) <;> simp

@[simp] theorem relayBurst_whorl (id : BitVec 64) (index : Nat) (segment : Bool) (s : State) :
    (relayBurst id index segment s).lanes.whorl = s.lanes.whorl := by
  unfold relayBurst; dsimp only; (repeat' split) <;> simp

@[simp] theorem claimBias_whorl (n : Nat) (s : State) : (claimBias n s).lanes.whorl = s.lanes.whorl := by
  unfold claimBias; (repeat' split) <;> simp

@[simp] theorem beginTrial_whorl (s : State) : (beginTrial s).lanes.whorl = s.lanes.whorl := by
  simp [beginTrial]

@[simp] theorem oldSetBack_whorl (s : State) : (oldSetBack s).lanes.whorl = s.lanes.whorl := by
  simp [oldSetBack]

@[simp] theorem failLane_whorl (l : Lane) (cause : BitVec 4) (s : State) : (failLane l cause s).lanes.whorl = s.lanes.whorl := by
  simp [failLane]

@[simp] theorem dropCore_whorl (s : State) : (dropCore s).lanes.whorl = s.lanes.whorl := by
  simp [dropCore]

@[simp] theorem setGrade_whorl (l : Lane) (mgmt : Bool) (s : State) : (setGrade l mgmt s).lanes.whorl = s.lanes.whorl := by
  simp [setGrade]

@[simp] theorem stepRecovery_whorl (j : PanelJob) (s : State) : (stepRecovery j s).lanes.whorl = s.lanes.whorl := by
  unfold stepRecovery; dsimp only; (repeat' split) <;> simp

@[simp] theorem stepFrame_whorl (s : State) : (stepFrame s).lanes.whorl = s.lanes.whorl := by
  simp [stepFrame]

@[simp] theorem readReg_day (who : Requester) (addr : Nat) (s : State) : ((readReg who addr s).2).sys.day = s.sys.day := by
  unfold readReg; (repeat' split) <;> simp

@[simp] theorem readReg_whorl (who : Requester) (addr : Nat) (s : State) : ((readReg who addr s).2).lanes.whorl = s.lanes.whorl := by
  unfold readReg; (repeat' split) <;> simp

@[simp] theorem setLocks_day (bits : BitVec 5) (s : State) : (setLocks bits s).sys.day = s.sys.day := by
  simp [setLocks]

@[simp] theorem setBias_whorl (n : Nat) (on : Bool) (s : State) : (setBias n on s).lanes.whorl = s.lanes.whorl := by
  unfold setBias; dsimp only; (repeat' split) <;> simp

@[simp] theorem writeGnss_whorl (off : Nat) (v : Word) (s : State) : ((writeGnss off v s).2).lanes.whorl = s.lanes.whorl := by
  unfold writeGnss; dsimp only; (repeat' split) <;> simp

@[simp] theorem readMany_day (who : Requester) (win : Bool) (addr : Nat) (n_ : Nat) (s : State) :
    ((readMany who win addr n_ s).2).sys.day = s.sys.day := by
  induction n_ generalizing who win addr s with
  | zero => simp [readMany]
  | succ n ih => unfold readMany; dsimp only; (repeat' split) <;> simp [ih]

@[simp] theorem readMany_whorl (who : Requester) (win : Bool) (addr : Nat) (n_ : Nat) (s : State) :
    ((readMany who win addr n_ s).2).lanes.whorl = s.lanes.whorl := by
  induction n_ generalizing who win addr s with
  | zero => simp [readMany]
  | succ n ih => unfold readMany; dsimp only; (repeat' split) <;> simp [ih]

@[simp] theorem snapshot_day (addr : Word) (s : State) : ((snapshot addr s).2).sys.day = s.sys.day := by
  simp [snapshot]

@[simp] theorem snapshot_whorl (addr : Word) (s : State) : ((snapshot addr s).2).lanes.whorl = s.lanes.whorl := by
  simp [snapshot]

@[simp] theorem snapshots_day (l_ : List Word) (s : State) : ((snapshots l_ s).2).sys.day = s.sys.day := by
  induction l_ generalizing s with
  | nil => simp [snapshots]
  | cons a l ih => simp [snapshots, ih]

@[simp] theorem snapshots_whorl (l_ : List Word) (s : State) : ((snapshots l_ s).2).lanes.whorl = s.lanes.whorl := by
  induction l_ generalizing s with
  | nil => simp [snapshots]
  | cons a l ih => simp [snapshots, ih]

@[simp] theorem numbered_day (seq : BitVec 64) (e : Raised) (s : State) : ((numbered seq e s).2).sys.day = s.sys.day := by
  simp [numbered]

@[simp] theorem numbered_whorl (seq : BitVec 64) (e : Raised) (s : State) : ((numbered seq e s).2).lanes.whorl = s.lanes.whorl := by
  simp [numbered]

@[simp] theorem receiveOne_day (s : State) : (receiveOne s).sys.day = s.sys.day := by
  unfold receiveOne; dsimp only; (repeat' split) <;> simp

@[simp] theorem receiveOne_whorl (s : State) : (receiveOne s).lanes.whorl = s.lanes.whorl := by
  unfold receiveOne; dsimp only; (repeat' split) <;> simp

@[simp] theorem clearDone_day (s : State) : (clearDone s).sys.day = s.sys.day := by
  unfold clearDone; (repeat' split) <;> simp

@[simp] theorem clearDone_whorl (s : State) : (clearDone s).lanes.whorl = s.lanes.whorl := by
  unfold clearDone; (repeat' split) <;> simp

@[simp] theorem receiveMany_day (n_ : Nat) (s : State) : (receiveMany n_ s).sys.day = s.sys.day := by
  induction n_ generalizing s with
  | zero => simp [receiveMany]
  | succ n ih => simp [receiveMany, ih]

@[simp] theorem receiveMany_whorl (n_ : Nat) (s : State) : (receiveMany n_ s).lanes.whorl = s.lanes.whorl := by
  induction n_ generalizing s with
  | zero => simp [receiveMany]
  | succ n ih => simp [receiveMany, ih]

@[simp] theorem flushSkein_day (s : State) : (flushSkein s).sys.day = s.sys.day := by
  simp [flushSkein]

@[simp] theorem flushSkein_whorl (s : State) : (flushSkein s).lanes.whorl = s.lanes.whorl := by
  simp [flushSkein]

@[simp] theorem takeChunk_whorl (id : BitVec 64) (m : Manifest) (index : Nat) (bytes : List Byte) (s : State) :
    (takeChunk id m index bytes s).lanes.whorl = s.lanes.whorl := by
  unfold takeChunk; dsimp only; (repeat' split) <;> simp

@[simp] theorem manifestHeld_whorl (id : BitVec 64) (bytes : List Byte) (s : State) :
    (manifestHeld id bytes s).lanes.whorl = s.lanes.whorl := by
  unfold manifestHeld; dsimp only; (repeat' split) <;> simp

@[simp] theorem startHandover_whorl (asked : BitVec 2) (s : State) : (startHandover asked s).lanes.whorl = s.lanes.whorl := by
  unfold startHandover; dsimp only; (repeat' split) <;> simp

@[simp] theorem activateSet_whorl (id : BitVec 64) (mode : Nat) (s : State) :
    ((activateSet id mode s).2).lanes.whorl = s.lanes.whorl := by
  unfold activateSet; dsimp only; (repeat' split) <;> simp

@[simp] theorem handoverDrop_whorl (s : State) : (handoverDrop s).lanes.whorl = s.lanes.whorl := by
  unfold handoverDrop; dsimp only; (repeat' split) <;> simp

@[simp] theorem handoverBoundary_whorl (s : State) : (handoverBoundary s).lanes.whorl = s.lanes.whorl := by
  unfold handoverBoundary; dsimp only; (repeat' split) <;> simp

@[simp] theorem rejoin_whorl (s : State) : (rejoin s).lanes.whorl = s.lanes.whorl := by
  unfold rejoin; dsimp only; (repeat' split) <;> simp

@[simp] theorem commitSet_whorl (s : State) : (commitSet s).lanes.whorl = s.lanes.whorl := by
  unfold commitSet; dsimp only; (repeat' split) <;> simp

@[simp] theorem recoverJournal_whorl (s : State) : (recoverJournal s).lanes.whorl = s.lanes.whorl := by
  unfold recoverJournal; (repeat' split) <;> simp

@[simp] theorem tested_whorl (l : Lane) (pass : Bool) (s : State) : (tested l pass s).lanes.whorl = s.lanes.whorl := by
  unfold tested; (repeat' split) <;> simp

@[simp] theorem panelHoldup_whorl (s : State) : (panelHoldup s).lanes.whorl = s.lanes.whorl := by
  unfold panelHoldup; (repeat' split) <;> simp

@[simp] theorem copData_whorl (who : Requester) (offset : Nat) (bytes : List Byte) (s : State) :
    ((copData who offset bytes s).2).lanes.whorl = s.lanes.whorl := by
  unfold copData; dsimp only; (repeat' split) <;> simp

@[simp] theorem abandonBoot_whorl (s : State) : (abandonBoot s).lanes.whorl = s.lanes.whorl := by
  unfold abandonBoot; dsimp only; (repeat' split) <;> simp

@[simp] theorem resetFunction_whorl (n : Nat) (s : State) : (resetFunction n s).lanes.whorl = s.lanes.whorl := by
  unfold resetFunction; dsimp only; (repeat' split) <;> simp

@[simp] theorem restart_whorl (n : Nat) (s : State) : (restart n s).lanes.whorl = s.lanes.whorl := by
  simp [restart]

@[simp] theorem restartMask_whorl (m : BitVec 64) (s : State) : (restartMask m s).lanes.whorl = s.lanes.whorl := by
  unfold restartMask; (repeat' split) <;> simp (disch := (intros; (repeat' split) <;> simp)) [-foldl_sys, -foldl_lanes]

@[simp] theorem answerReinit_whorl (w : Reinit) (s : State) : (answerReinit w s).lanes.whorl = s.lanes.whorl := by
  unfold answerReinit; (repeat' split) <;> simp

@[simp] theorem settle_whorl (s : State) : (settle s).lanes.whorl = s.lanes.whorl := by
  simp [settle]

end Sys2Proof.Machine
end

section
/-! PROOFS. DUSK: what starts it, and its steps (R24, R25, R27, R38, R72, R324). -/
namespace Sys2Proof.Machine
open Sys2Proof.Safety

/-! ### What starts DUSK (R25, R27, R72) -/

/-- KL15 low for 200 ms, as the day state takes it. -/
def kl15Fell (s : State) : State :=
  let w := { s with sys := { s.sys with kl15 := false } }
  match s.sys.state with
  | .morning | .noon | .afternoon => enterDusk .kl15Low w
  | .dawn =>
    if s.sys.hold then enterDusk .kl15Low w
    else { w with sys := { w.sys with kl15Latched := s.sys.kl15Latched || (!s.sys.warm || passed s s.sys.dawnAt 200000000) } }
  | .midnight => { w with sys := { w.sys with kl15Pending := false } }
  | .dusk => w

theorem kl15Low200ms_runs {t : Time} {s : State} (hk : (advanceTo t s).sys.kl15 = true) (hp : (advanceTo t s).sys.powered = true)
    (hh : (advanceTo t s).sys.holdupRun = false) : exec (.kl15Low200ms t) s = .next (kl15Fell (advanceTo t s)) := by
  have hrun : (!(advanceTo t s).sys.powered || (advanceTo t s).sys.holdupRun) = false := by rw [hp, hh]; rfl
  have hk' : (!(advanceTo t s).sys.kl15) = false := by rw [hk]; rfl
  rw [exec_kl15Low200ms, execKl15Low200ms]
  simp only [hk', hrun, Bool.false_eq_true, if_false]
  rfl

/-- Where DUSK starts on a fall of KL15. -/
theorem kl15Fell_dusk {s : State} (hs : s.sys.state = .morning ∨ s.sys.state = .noon ∨ s.sys.state = .afternoon ∨
    (s.sys.state = .dawn ∧ s.sys.hold = true)) :
    kl15Fell s = enterDusk .kl15Low { s with sys := { s.sys with kl15 := false } } := by
  unfold kl15Fell
  rcases hs with hs | hs | hs | ⟨hs, hd⟩
  · rw [hs]
  · rw [hs]
  · rw [hs]
  · simp only [hs, hd, if_true]

theorem enterDusk_spec (why : DayCause) (s : State) : let v := enterDusk why s
    v.core = s.core ∧ v.store = s.store ∧ v.sun = s.sun ∧ v.lanes.holder = s.lanes.holder ∧ v.lanes.gate = s.lanes.gate := by
  simp

/-- The word of SYS_CTRL.DUSK names its bit and no other. -/
theorem writeSysCtrl_dusk {s : State} (h : duskAllowed s = true) (hh : s.sys.holdupRun = false) :
    writeSysCtrl 0x00010001 s = done (enterDusk .sysDusk s) := by
  have h0 : (bit (0x00010001 : Word) 0 && bit (0x00010001 : Word) 16) = true := rfl
  have h1 : (bit (0x00010001 : Word) 1 && bit (0x00010001 : Word) 17) = false := rfl
  have h2 : bit (0x00010001 : Word) 18 = false := rfl
  unfold writeSysCtrl
  simp only [h0, h1, h2, h, hh, Bool.not_true, Bool.or_self, Bool.and_false, Bool.false_and, Bool.false_eq_true, if_false, if_true]

theorem sysCtrlDusk_runs {r : Req} {s : State} (h : Taken r true true s) (hd : duskAllowed (arrived r s) = true)
    (hh : (arrived r s).sys.holdupRun = false) :
    exec (.sysCtrlDusk r) s = .next (answer r (.ack []) (enterDusk .sysDusk (arrived r s))) := by
  rw [exec_sysCtrlDusk, execSysCtrlDusk, asWrite, serve_taken _ _ _ _ _ h, writeReg_sysCtrl, writeSysCtrl_dusk hd hh]
  rfl

theorem sysCtrlDusk_refused {r : Req} {s : State} (h : Taken r true true s) (hd : duskAllowed (arrived r s) = false) :
    exec (.sysCtrlDusk r) s = .next (answer r (.nak .wrongState 0) (arrived r s)) := by
  rw [exec_sysCtrlDusk, execSysCtrlDusk, asWrite, serve_taken _ _ _ _ _ h, writeReg_sysCtrl,
    writeSysCtrl_refused _ _ (.inl ⟨rfl, rfl, hd⟩)]
  rfl

/-! ### The steps of DUSK (R24, R27, R38, R324) -/

/-- A step of DUSK while it runs. -/
def duskStep (s : State) : State :=
  match s.sys.duskStep with
  | 1 => if atFrame s && quietBefore s.sun.time s then goDusk 2 (stopTasks s) else s
  | 2 =>
    if s.lanes.switch.isSome then s
    else goDusk 3 (duskOutputs (if s.lanes.gate && s.store.running.isSome then checkpointNow s else s))
  | 3 => goDusk 4 s
  | 4 => if skeinFlushed s then goDusk 5 (duskPanel s) else s
  | _ => if panelDone s then enterMidnight (railsOff (saveRtc s)) else s

/-- Whether DUSK runs: neither without power, nor in hold-up, nor in another day state. -/
theorem dusk_runs {s : State} (hp : s.sys.powered = true) (hh : s.sys.holdupRun = false) (hs : s.sys.state = .dusk) :
    (!s.sys.powered || s.sys.holdupRun || decide (s.sys.state ≠ .dusk)) = false := by
  simp [hp, hh, hs]

theorem duskStepDone_runs {t : Time} {s : State} (hp : (advanceTo t s).sys.powered = true) (hh : (advanceTo t s).sys.holdupRun = false)
    (hs : (advanceTo t s).sys.state = .dusk) : exec (.duskStepDone t) s = .next (duskStep (advanceTo t s)) := by
  rw [exec_duskStepDone, execDuskStepDone]
  simp only [dusk_runs hp hh hs, Bool.false_eq_true, if_false]
  rfl

theorem duskStep_one {s : State} (hd : s.sys.duskStep = 1) (hf : atFrame s = true) (hq : quietBefore s.sun.time s = true) :
    duskStep s = goDusk 2 (stopTasks s) := by
  simp only [duskStep, hd, hf, hq, Bool.and_self, if_true]

theorem duskStep_two {s : State} (hd : s.sys.duskStep = 2) (hw : s.lanes.switch = none) :
    duskStep s = goDusk 3 (duskOutputs (if s.lanes.gate && s.store.running.isSome then checkpointNow s else s)) := by
  simp only [duskStep, hd, hw, Option.isSome_none, Bool.false_eq_true, if_false]

theorem duskStep_three {s : State} (hd : s.sys.duskStep = 3) : duskStep s = goDusk 4 s := by
  simp only [duskStep, hd]

theorem duskStep_four {s : State} (hd : s.sys.duskStep = 4) (hf : skeinFlushed s = true) : duskStep s = goDusk 5 (duskPanel s) := by
  simp only [duskStep, hd, hf, if_true]

theorem duskStep_five {s : State} (hd : s.sys.duskStep = 5) (hf : panelDone s = true) :
    duskStep s = enterMidnight (railsOff (saveRtc s)) := by
  simp only [duskStep, hd, hf, if_true]

theorem duskOutputs_spec (s : State) : let v := duskOutputs s
    v.sys = { s.sys with held := false } ∧ v.strike.run = false ∧ v.store = s.store ∧ v.sun = s.sun ∧
      v.lanes.holder = s.lanes.holder := by
  unfold duskOutputs
  dsimp only
  split <;> simp

theorem duskPanel_spec (s : State) : let v := duskPanel s
    v.sys = s.sys ∧ v.store = s.store ∧ v.sun = s.sun ∧ v.core = s.core := by
  simp [duskPanel]

theorem saveRtc_spec (s : State) : let v := saveRtc s
    v.sun.rtc = (if s.sun.state = .locked ∧ s.clock.rtcFail = false then s.sun.time else s.sun.rtc) ∧
      v.sun.rtcValid = (s.sun.rtcValid || (decide (s.sun.state = .locked) && !s.clock.rtcFail)) := by
  unfold saveRtc
  cases hr : s.clock.rtcFail <;> by_cases hl : s.sun.state = .locked <;> simp [*]

theorem Sys.kl15_of_day {x y : Sys} (h : x.day = y.day) : x.kl15 = y.kl15 := by
  rw [Sys.eq_of_day h]

theorem Sys.onTime_of_day {x y : Sys} (h : x.day = y.day) : x.onTime = y.onTime := by
  rw [Sys.eq_of_day h]

/-- What MIDNIGHT keeps and what it drops. -/
theorem enterMidnight_spec (s : State) : let v := enterMidnight s
    v.sys.state = .midnight ∧ v.sys.powered = true ∧ v.sys.kl15Pending = s.sys.kl15 ∧ v.core = {} ∧ v.lanes = {} ∧ v.hank = {} ∧
      v.outs.sol = [] ∧ v.sun.run = false ∧ v.sun.rtc = s.sun.rtc ∧ v.sun.rtcValid = s.sun.rtcValid ∧ v.store.running = none ∧
      v.store.s0 = s.store.s0 ∧ v.store.s1 = s.store.s1 ∧ v.store.sel = s.store.sel ∧ v.sys.onTime = s.sys.onTime := by
  have hkl15 := Sys.kl15_of_day (flushSkein_day (toDay .midnight .duskDone false s))
  have hon := Sys.onTime_of_day (flushSkein_day (toDay .midnight .duskDone false s))
  simp [enterMidnight, dark, hkl15, hon]

theorem duskTimeout_runs {t : Time} {s : State} (hp : (advanceTo t s).sys.powered = true) (hh : (advanceTo t s).sys.holdupRun = false)
    (hs : (advanceTo t s).sys.state = .dusk) : exec (.duskTimeout t) s = .next (enterMidnight (allOff (saveRtc
      (raise .error 0x01 0x0000 [BitVec.ofNat 32 (advanceTo t s).sys.duskStep] (advanceTo t s))))) := by
  rw [exec_duskTimeout, execDuskTimeout]
  simp only [dusk_runs hp hh hs, Bool.false_eq_true, if_false]

/-! ### The obligation -/

/-- Settles O15: what starts DUSK or is refused, each of its steps, and the timeout. -/
theorem duskRunsToMidnight : Obligations.DuskRunsToMidnight := by
  refine ⟨⟨fun t s hk hp hh => ⟨fun hs => ⟨_, kl15Low200ms_runs hk hp hh, ?dusk⟩, fun hs hd => ⟨_, kl15Low200ms_runs hk hp hh, ?dawn⟩,
      fun hs => ⟨_, kl15Low200ms_runs hk hp hh, ?midnight⟩⟩,
    fun r s h hh => ⟨fun hd => ⟨_, sysCtrlDusk_runs h hd hh, ?ctrl⟩, fun hd => ⟨_, sysCtrlDusk_refused h hd, answer_nak_spec r _ _ _⟩⟩⟩,
    fun t s hp hh hs => ⟨fun hd hf hq => ⟨_, duskStepDone_runs hp hh hs, ?tasks⟩, fun hd hw => ⟨_, duskStepDone_runs hp hh hs, ?outputs⟩,
      fun hd => ⟨_, duskStepDone_runs hp hh hs, ?skein⟩, fun hd hf => ⟨_, duskStepDone_runs hp hh hs, ?panel⟩,
      fun hd hf => ⟨_, duskStepDone_runs hp hh hs, ?done⟩⟩,
    fun t s hp hh hs => ⟨_, duskTimeout_runs hp hh hs, ?timeout⟩⟩
  case dusk =>
    generalize advanceTo t s = u at *
    rw [kl15Fell_dusk hs]
    exact ⟨enterDusk_sys _ _, enterDusk_spec _ _⟩
  case dawn =>
    generalize advanceTo t s = u at *
    simp only [kl15Fell, hs, hd, Bool.false_eq_true, if_false]
    rfl
  case midnight =>
    generalize advanceTo t s = u at *
    simp only [kl15Fell, hs]
  case ctrl =>
    generalize arrived r s = u at *
    have hsys := enterDusk_sys .sysDusk u
    obtain ⟨hcore, hstore, hsun, -, -⟩ := enterDusk_spec .sysDusk u
    generalize enterDusk .sysDusk u = w at *
    have hw : w.sys.state = .dusk ∧ w.sys.hold = false ∧ w.sys.duskStep = 1 ∧ w.sys.driving = false := by
      rw [hsys]
      exact ⟨rfl, rfl, rfl, rfl⟩
    obtain ⟨hstate, hhold, hstep, hdriving⟩ := hw
    exact ⟨rfl, hstate, hhold, hstep, hdriving, hcore, hstore, hsun⟩
  case tasks =>
    generalize advanceTo t s = u at *
    rw [duskStep_one hd hf hq]
    exact ⟨rfl, rfl, rfl⟩
  case outputs =>
    generalize advanceTo t s = u at *
    rw [duskStep_two hd hw]
    have hbefore : let w := if u.lanes.gate && u.store.running.isSome then checkpointNow u else u
        w.sys = u.sys ∧ w.store = u.store ∧ w.sun = u.sun ∧ w.lanes.holder = u.lanes.holder := by
      dsimp only
      split <;> simp
    generalize (if u.lanes.gate && u.store.running.isSome then checkpointNow u else u) = w at hbefore ⊢
    obtain ⟨hsys, hstore, hsun, hholder⟩ := hbefore
    obtain ⟨hsys', hrun, hstore', hsun', hholder'⟩ := duskOutputs_spec w
    generalize duskOutputs w = x at *
    refine ⟨?_, hrun, hstore'.trans hstore, hsun'.trans hsun, hholder'.trans hholder⟩
    simp only [goDusk, hsys', hsys]
  case skein =>
    generalize advanceTo t s = u at *
    rw [duskStep_three hd]
    rfl
  case panel =>
    generalize advanceTo t s = u at *
    rw [duskStep_four hd hf]
    obtain ⟨hsys, hstore, hsun, hcore⟩ := duskPanel_spec u
    generalize duskPanel u = x at *
    exact ⟨by simp only [goDusk, hsys], hstore, hsun, hcore⟩
  case done =>
    generalize advanceTo t s = u at *
    rw [duskStep_five hd hf]
    obtain ⟨hrtc, hvalid⟩ := saveRtc_spec u
    obtain ⟨hstate, hpow, hkl15, hcore, hlanes, hhank, -, hrun, hrtc', hvalid', hrunning, h0, h1, hsel, hon⟩ :=
      enterMidnight_spec (railsOff (saveRtc u))
    refine ⟨hstate, hpow, by simpa using hkl15, hcore, hlanes, hhank, hrun, ?_, ?_, hrunning, by simpa using h0, by simpa using h1,
      by simpa using hsel, by simpa using hon⟩
    · rw [hrtc', ← hrtc]
      simp
    · rw [hvalid', ← hvalid]
      simp
  case timeout =>
    generalize advanceTo t s = u at *
    obtain ⟨hstate, hpow, hkl15, hcore, hlanes, -, hsol, hrun, -, -, -, h0, h1, -, -⟩ :=
      enterMidnight_spec (allOff (saveRtc (raise .error 0x01 0x0000 [BitVec.ofNat 32 u.sys.duskStep] u)))
    exact ⟨hstate, hpow, by simpa using hkl15, hcore, hlanes, hsol, hrun, by simpa using h0, by simpa using h1⟩

end Sys2Proof.Machine
end

section
/-! PROOFS. Hold-up and the queues of the Tally (R261, R414). -/
namespace Sys2Proof.Machine
open Sys2Proof.Safety

/-- A module in DAWN whose Tally holds a queued claim under a number that names no supply. -/
def strayClaim : State :=
  { ({} : State) with
    sys := { powered := true }
    tally := { ledgers := [(5, { queue := [{ claim := panelClaim, since := 0 }] })] } }

/-- Hold-up discards what is queued at the supplies 0 to 4, and only there. -/
theorem strayClaim_stays : ∃ v, exec (.holdupStart 0) strayClaim = .next v ∧ (ledger v 5).queue ≠ [] :=
  ⟨_, rfl, by decide +kernel⟩

/-- Refutes O16: HOLDUP_START empties the queues of the five supplies, while the statement asks it of every number `k`; a claim queued
under the number 5 stays queued. -/
theorem not_suppliesHoldUp : ¬ Obligations.SuppliesHoldUp := by
  rintro ⟨hstart, -⟩
  obtain ⟨v, hv, -, -, -, hqueue, -⟩ := hstart 0 strayClaim rfl rfl (by decide)
  obtain ⟨w, hw, hstays⟩ := strayClaim_stays
  rw [hv] at hw
  obtain rfl : v = w := by injection hw
  exact hstays (hqueue 5)

end Sys2Proof.Machine
end

section
/-! PROOFS. Register reads and writes (R58 to R67, R356). -/
namespace Sys2Proof.Machine
open Sys2Proof.Safety

/-! ### What a taken request comes to (R52, R360) -/

theorem answer_ack_spec (r : Req) (l : List Word) (s : State) : let v := answer r (.ack l) s
    Replied r (.ack l) v ∧ v = { s with hank := v.hank, sent := v.sent } := ⟨rfl, rfl⟩

@[simp] theorem perReq_answer (r : Req) (rep : Reply) (s : State) (who : Requester) :
    perReq (answer r rep s) who = perReq s who := by
  simp [perReq]

theorem regRd_runs {r : Req} {addr : Word} {s : State} (h : Taken r true true s) (ha : addrOk addr = true) :
    exec (.regRd r addr) s = .next (answer r (.ack [(readReg r.who addr.toNat (arrived r s)).1])
      (readReg r.who addr.toNat (arrived r s)).2) := by
  rw [exec_regRd, execRegRd, serve_taken _ _ _ _ _ h]
  simp only [atAddr, ha, if_true]

theorem regRd_badAddr {r : Req} {addr : Word} {s : State} (h : Taken r true true s) (ha : addrOk addr = false) :
    exec (.regRd r addr) s = .next (answer r (.nak .badAddr 0) (arrived r s)) := by
  rw [exec_regRd, execRegRd, serve_taken _ _ _ _ _ h]
  simp only [atAddr, ha, Bool.false_eq_true, if_false, refuse]

theorem regWr_runs {r : Req} {addr x : Word} {s : State} (h : Taken r true true s) (ha : addrOk addr = true) :
    exec (.regWr r addr x) s = .next (answer r (writeReg r.who addr.toNat x (arrived r s)).1
      (writeReg r.who addr.toNat x (arrived r s)).2) := by
  rw [exec_regWr, execRegWr, serve_taken _ _ _ _ _ h]
  simp only [atAddr, ha, if_true]

theorem regWr_badAddr {r : Req} {addr x : Word} {s : State} (h : Taken r true true s) (ha : addrOk addr = false) :
    exec (.regWr r addr x) s = .next (answer r (.nak .badAddr 0) (arrived r s)) := by
  rw [exec_regWr, execRegWr, serve_taken _ _ _ _ _ h]
  simp only [atAddr, ha, Bool.false_eq_true, if_false, refuse]

theorem regWrm_runs {r : Req} {addr m x : Word} {s : State} (h : Taken r false true s) (ha : addrOk addr = true) :
    exec (.regWrm r addr m x) s = .next (answer r (maskedWrite r.who addr m x (arrived r s)).1
      (maskedWrite r.who addr m x (arrived r s)).2) := by
  rw [exec_regWrm, execRegWrm, serve_taken _ _ _ _ _ h]
  simp only [atAddr, ha, if_true]

/-! ### Where the wide registers stand (R66) -/

theorem hi_of_loOfHi {addr lo : Nat} (h : loOfHi addr = some lo) :
    addr ∈ [0x00000008, 0x00010024, 0x0001004C, 0x00030004, 0x000A0024, 0x0012001C, 0x00190008, 0x001A0008] := by
  unfold loOfHi at h
  split at h
  next hmem => exact List.contains_iff_mem.mp hmem
  · cases h

/-- No HI half stands at the LO address of another value. -/
theorem wideAt_of_hi {addr lo : Nat} (s : State) (h : loOfHi addr = some lo) : wideAt s addr = none := by
  have hmem := hi_of_loOfHi h
  simp only [List.mem_cons, List.not_mem_nil, or_false] at hmem
  rcases hmem with rfl | rfl | rfl | rfl | rfl | rfl | rfl | rfl <;> rfl

theorem ne_indData_of_hi {addr lo : Nat} (h : loOfHi addr = some lo) : addr ≠ 0x001F0008 := by
  rintro rfl
  cases h

/-! ### A register read (R58, R61, R64, R66) -/

theorem readReg_noLane {who : Requester} {addr : Nat} {s : State} (h : noLane s addr = true) : readReg who addr s = (0, s) := by
  rw [readReg, if_pos h]

theorem readReg_lo {who : Requester} {addr : Nat} {s : State} {x : BitVec 64} (hl : noLane s addr = false)
    (ha : addr ≠ 0x001F0008) (hw : wideAt s addr = some x) :
    readReg who addr s = (lo32 x, setPerReq who { perReq s who with shadow := hi32 x } s) := by
  rw [readReg, hl, if_neg ha, hw]
  rfl

theorem readReg_hi {who : Requester} {addr lo : Nat} {s : State} (hl : noLane s addr = false) (hhi : loOfHi addr = some lo) :
    readReg who addr s = ((perReq s who).shadow, s) := by
  rw [readReg, hl, if_neg (ne_indData_of_hi hhi), wideAt_of_hi s hhi, hhi]
  rfl

theorem tripRewrite_plain {addr : Nat} (s : State) (h : tripFields addr = []) : tripRewrite addr s = s := by
  unfold tripRewrite
  split <;> simp_all [tripFields]

theorem readReg_mends {who : Requester} {addr : Nat} {s : State} (hl : noLane s addr = false) (ha : addr ≠ 0x001F0008)
    (hm : addr ≠ 0x00010064) (hw : wideAt s addr = none) (hhi : loOfHi addr = none) :
    readReg who addr s = (peek (mend addr s) who addr, mend addr s) := by
  rw [readReg, hl, if_neg ha, hw, hhi]
  simp only [if_neg hm, Bool.false_eq_true, if_false]

/-- A register without copies has nothing to mend. -/
theorem mend_plain {addr : Nat} (s : State) (h : tripFields addr = []) : mend addr s = s := by
  simp only [mend, h, List.foldl_nil, tripRewrite_plain s h]

/-! ### A register written (R62, R63, R66, R67) -/

theorem writeReg_lo {who : Requester} {addr : Nat} {v : Word} {s : State} (hl : noLane s addr = false)
    (hw : (wideAt s addr).isSome = true) : writeReg who addr v s = (.ack [], stageLo who addr v s) := by
  rw [writeReg, hl, hw]
  rfl

theorem writeReg_hi {who : Requester} {addr lo : Nat} {v : Word} {s : State} (hl : noLane s addr = false)
    (hhi : loOfHi addr = some lo) : writeReg who addr v s = (.ack [], commitHi who lo s) := by
  rw [writeReg, hl, wideAt_of_hi s hhi, hhi]
  rfl

/-- The identity block takes no write. -/
theorem writeReg_identity {who : Requester} {addr : Nat} {v : Word} {s : State} (hb : addr / 65536 = 0) (hw : wideAt s addr = none)
    (hhi : loOfHi addr = none) : writeReg who addr v s = (.ack [], s) := by
  have hlane : noLane s addr = false := by rw [noLane, hb]; rfl
  have hcount : counterIndex (perReq s who) addr = none := by simp only [counterIndex, hb]
  simp only [writeReg, hlane, hw, hhi, hcount, hb, Option.isSome_none, Bool.false_eq_true, if_false, done]

theorem writeReg_sysLock (who : Requester) (v : Word) (s : State) :
    writeReg who 0x00010008 v s = (.ack [], setLocks (v.truncate 5) s) := by
  simp [writeReg, noLane, perLaneBlock, wideAt, loOfHi, counterIndex, done]

theorem stageLo_spec (who : Requester) (addr : Nat) (v : Word) (s : State) : let t := stageLo who addr v s
    (perReq t who).staged = some (addr, v) ∧ t = { s with reqs := t.reqs } :=
  ⟨congrArg PerReq.staged (perReq_setPerReq _ _ _), rfl⟩

theorem commitHi_spec (who : Requester) (lo : Nat) (s : State) : let t := commitHi who lo s
    ((perReq s who).staged.map (·.1) = some lo → (perReq t who).staged = none) ∧ t = { s with reqs := t.reqs } := by
  simp only [commitHi]
  split
  · exact ⟨fun _ => congrArg PerReq.staged (perReq_setPerReq _ _ _), rfl⟩
  next h => exact ⟨fun h' => absurd h' h, rfl⟩

/-! ### Triplicated values (R64) -/

@[simp] theorem Trip.vote_of {w : Nat} (v : BitVec w) : (Trip.of v).vote = v := by simp [Trip.vote, Trip.of]

theorem Trip.vote_or {w : Nat} (t : Trip w) (b : BitVec w) :
    (⟨t.c0 ||| b, t.c1 ||| b, t.c2 ||| b⟩ : Trip w).vote = t.vote ||| b := by
  ext i
  simp only [Trip.vote, BitVec.getElem_or, BitVec.getElem_and]
  cases t.c0[i] <;> cases t.c1[i] <;> cases t.c2[i] <;> cases b[i] <;> rfl

theorem setLocks_vote (b : BitVec 5) (s : State) : (setLocks b s).sys.lock.vote = s.sys.lock.vote ||| b := Trip.vote_or _ _

/-- SYS_LOCK read: its copies come to their majority, which is what it reads as. -/
theorem mend_sysLock (s : State) : (mend 0x00010008 s).sys = { s.sys with lock := .of s.sys.lock.vote } := by
  unfold mend
  rw [foldl_keeps (fun s => s.sys) fun s m => by split <;> simp]
  rfl

theorem peek_sysLock (s : State) (who : Requester) : peek s who 0x00010008 = s.sys.lock.vote.zeroExtend 32 := rfl

theorem noLane_sysLock (s : State) : noLane s 0x00010008 = false := rfl

theorem readReg_sysLock (who : Requester) (s : State) :
    readReg who 0x00010008 s = (s.sys.lock.vote.zeroExtend 32, mend 0x00010008 s) := by
  rw [readReg_mends (noLane_sysLock s) (by decide) (by decide) rfl rfl, peek_sysLock, mend_sysLock]
  simp

/-- A lock bit merged over what stands sets only what is written: what stands is kept by the bits being set-only. -/
theorem lock_merge (k : BitVec 5) (m x a : Word) :
    k ||| (((x &&& m) ||| (k.zeroExtend 32 &&& a &&& ~~~m)).truncate 5) = k ||| (x &&& m).truncate 5 := by
  ext i hi
  simp only [BitVec.truncate_eq_setWidth, BitVec.getElem_or, BitVec.getElem_setWidth, BitVec.getLsbD_or, BitVec.getLsbD_and,
    BitVec.getLsbD_setWidth, BitVec.getLsbD_not, BitVec.getLsbD_eq_getElem hi]
  cases k[i] <;> simp

theorem maskedWrite_refused {who : Requester} {addr m x : Word} {s : State} (ha : addr.toNat ≠ 0x00010004)
    (hm : m &&& (access addr.toNat).2 ≠ 0) : maskedWrite who addr m x s = (.nak .badValue 0, s) := by
  simp only [maskedWrite, if_neg ha, if_pos hm, refuse]

theorem mergeBase_sysLock (who : Requester) (s : State) : mergeBase who 0x00010008 s = s.sys.lock.vote.zeroExtend 32 := rfl

theorem maskedWrite_sysLock {who : Requester} {m x : Word} {s : State} (hm : m &&& (access 0x00010008).2 = 0) :
    ∃ t, maskedWrite who 0x00010008 m x s = (.ack [t.sys.lock.vote.zeroExtend 32], t) ∧
      t.sys.lock.vote = s.sys.lock.vote ||| (x &&& m).truncate 5 := by
  have ha : (0x00010008 : Word).toNat = 0x00010008 := rfl
  have hvote : (mend 0x00010008 s).sys.lock.vote = s.sys.lock.vote := by rw [mend_sysLock]; simp
  generalize hb : ((x &&& m) ||| (s.sys.lock.vote.zeroExtend 32 &&& (access 0x00010008).1 &&& ~~~m)).truncate 5 = b
  refine ⟨mend 0x00010008 (setLocks b (mend 0x00010008 s)), ?_, ?_⟩
  · simp only [maskedWrite, ha, hm, mergeBase_sysLock, writeReg_sysLock, hb, readReg_sysLock, mend_sysLock, Trip.vote_of,
      ne_eq, not_true, if_false, Nat.reduceEqDiff]
  · rw [mend_sysLock, Trip.vote_of, setLocks_vote, hvote, ← hb, lock_merge]

/-! ### The commands of registers -/

theorem counterSatClear_runs {r : Req} {addr : Word} {n : Nat} {s : State} (h : Taken r true true s) (ha : addrOk addr = true)
    (hl : noLane (arrived r s) addr.toNat = false) (hw : wideAt (arrived r s) addr.toNat = none) (hhi : loOfHi addr.toNat = none)
    (hn : counterIndex (perReq (arrived r s) r.who) addr.toNat = some n) :
    exec (.counterSatClear r addr) s = .next (answer r (.ack []) (clearCounter addr.toNat n (arrived r s))) := by
  have hbit : bit (0x80000000 : Word) 31 = true := rfl
  rw [exec_counterSatClear, execCounterSatClear, serve_taken _ _ _ _ _ h]
  simp only [atAddr, ha, if_true, writeReg_counter _ hl hw hhi hn, hbit]

theorem sysLockSet_runs {r : Req} {bits : BitVec 5} {s : State} (h : Taken r true true s) :
    exec (.sysLockSet r bits) s = .next (answer r (.ack []) (setLocks bits (arrived r s))) := by
  have hbits : (bits.zeroExtend 32).truncate 5 = bits := by simp
  rw [exec_sysLockSet, execSysLockSet, asWrite, serve_taken _ _ _ _ _ h, writeReg_sysLock, hbits]

theorem addrOk_sysLock : addrOk 0x00010008 = true := by decide

/-- Reading a register: one case for each place that R58, R61 and R66 tell apart. -/
theorem registerReads (r : Req) (addr : Word) (s : State) (h : Taken r true true s) : let u := arrived r s
    (addrOk addr = false → ∃ v, exec (.regRd r addr) s = .next v ∧ Replied r (.nak .badAddr 0) v ∧
      v = { u with hank := v.hank, sent := v.sent }) ∧
    (addrOk addr = true → noLane u addr.toNat = true → ∃ v, exec (.regRd r addr) s = .next v ∧ Replied r (.ack [0]) v ∧
      v = { u with hank := v.hank, sent := v.sent }) ∧
    (addrOk addr = true → noLane u addr.toNat = false → ∀ x, wideAt u addr.toNat = some x → addr.toNat ≠ 0x001F0008 →
      ∃ v, exec (.loRegisterRead r addr) s = .next v ∧ exec (.regRd r addr) s = .next v ∧ Replied r (.ack [lo32 x]) v ∧
        (perReq v r.who).shadow = hi32 x ∧ v = { u with reqs := v.reqs, hank := v.hank, sent := v.sent }) ∧
    (addrOk addr = true → noLane u addr.toNat = false → ∀ lo, loOfHi addr.toNat = some lo →
      ∃ v, exec (.regRd r addr) s = .next v ∧ Replied r (.ack [(perReq u r.who).shadow]) v ∧
        v = { u with hank := v.hank, sent := v.sent }) ∧
    (addrOk addr = true → noLane u addr.toNat = false → addr.toNat ≠ 0x001F0008 → addr.toNat ≠ 0x00010064 →
      wideAt u addr.toNat = none → loOfHi addr.toNat = none → tripFields addr.toNat = [] →
      ∃ v, exec (.regRd r addr) s = .next v ∧ Replied r (.ack [peek u r.who addr.toNat]) v ∧
        v = { u with hank := v.hank, sent := v.sent }) := by
  have hrun := regRd_runs (addr := addr) h
  refine ⟨fun ha => ⟨_, regRd_badAddr h ha, answer_nak_spec _ _ _ _⟩, fun ha hl => ?noLane, fun ha hl x hw hne => ?lo,
    fun ha hl lo hhi => ?hi, fun ha hl hne hm hw hhi ht => ?plain⟩
  case noLane =>
    rw [hrun ha, readReg_noLane hl]
    exact ⟨_, rfl, answer_ack_spec _ _ _⟩
  case lo =>
    rw [exec_loRegisterRead, execLoRegisterRead, ← exec_regRd, hrun ha, readReg_lo hl hne hw]
    refine ⟨_, rfl, rfl, rfl, ?_, rfl⟩
    rw [perReq_answer, perReq_setPerReq]
  case hi =>
    rw [hrun ha, readReg_hi hl hhi]
    exact ⟨_, rfl, answer_ack_spec _ _ _⟩
  case plain =>
    rw [hrun ha, readReg_mends hl hne hm hw hhi, mend_plain _ ht]
    exact ⟨_, rfl, answer_ack_spec _ _ _⟩

/-- Writing a register by REG_WR: refused, ignored, staged, or the end of the staging (R58, R62, R66). -/
theorem registerWrites (r : Req) (addr x : Word) (s : State) (h : Taken r true true s) : let u := arrived r s
    (addrOk addr = false → ∃ v, exec (.regWr r addr x) s = .next v ∧ Replied r (.nak .badAddr 0) v ∧
      v = { u with hank := v.hank, sent := v.sent }) ∧
    (addr.toNat / 65536 = 0 → addrOk addr = true → wideAt u addr.toNat = none → loOfHi addr.toNat = none →
      ∃ v, exec (.regWr r addr x) s = .next v ∧ Replied r (.ack []) v ∧ v = { u with hank := v.hank, sent := v.sent }) ∧
    (addrOk addr = true → noLane u addr.toNat = false → (wideAt u addr.toNat).isSome = true →
      ∃ v, exec (.loRegisterWrite r addr x) s = .next v ∧ Replied r (.ack []) v ∧ (perReq v r.who).staged = some (addr.toNat, x) ∧
        v = { u with reqs := v.reqs, hank := v.hank, sent := v.sent }) ∧
    (addrOk addr = true → noLane u addr.toNat = false → ∀ lo, loOfHi addr.toNat = some lo →
      ∃ v, exec (.hiRegisterWrite r addr x) s = .next v ∧ Replied r (.ack []) v ∧
        ((perReq u r.who).staged.map (·.1) = some lo → (perReq v r.who).staged = none) ∧
        v = { u with reqs := v.reqs, hank := v.hank, sent := v.sent }) := by
  have hrun := regWr_runs (addr := addr) (x := x) h
  refine ⟨fun ha => ⟨_, regWr_badAddr h ha, answer_nak_spec _ _ _ _⟩, fun hb ha hw hhi => ?identity, fun ha hl hw => ?lo,
    fun ha hl lo hhi => ?hi⟩
  case identity =>
    rw [hrun ha, writeReg_identity hb hw hhi]
    exact ⟨_, rfl, answer_ack_spec _ _ _⟩
  case lo =>
    rw [exec_loRegisterWrite, execLoRegisterWrite, ← exec_regWr, hrun ha, writeReg_lo hl hw]
    obtain ⟨hstaged, hframe⟩ := stageLo_spec r.who addr.toNat x (arrived r s)
    refine ⟨_, rfl, rfl, by rw [perReq_answer, hstaged], ?_⟩
    generalize stageLo r.who addr.toNat x (arrived r s) = t at hframe
    rw [hframe]
    rfl
  case hi =>
    rw [exec_hiRegisterWrite, execHiRegisterWrite, ← exec_regWr, hrun ha, writeReg_hi hl hhi]
    obtain ⟨hstaged, hframe⟩ := commitHi_spec r.who lo (arrived r s)
    refine ⟨_, rfl, rfl, by rwa [perReq_answer], ?_⟩
    generalize commitHi r.who lo (arrived r s) = t at hframe
    rw [hframe]
    rfl

/-- Settles O17: each clause runs one request to its register, and says what the register's case of `readReg`, `writeReg` or
`maskedWrite` leaves. -/
theorem registersReadAndWritten : Obligations.RegistersReadAndWritten := by
  refine ⟨fun r addr s h => registerReads r addr s h, fun r addr x s h => registerWrites r addr x s h,
    fun r addr n s h ha hl hw hhi hn => ⟨_, counterSatClear_runs h ha hl hw hhi hn, ?clear⟩,
    fun r bits s h => ⟨_, sysLockSet_runs h, rfl, rfl, setLocks_vote bits (arrived r s), rfl⟩,
    fun r addr m x s h ha hne hm => ?refused, fun r m x s h hm => ?lock⟩
  case clear =>
    generalize arrived r s = u
    exact ⟨rfl, counter_clearCounter addr.toNat n u, fun k hk => SMap.get_drop_ne _ _ hk, rfl⟩
  case refused =>
    rw [regWrm_runs h ha, maskedWrite_refused hne hm]
    exact ⟨_, rfl, answer_nak_spec _ _ _ _⟩
  case lock =>
    obtain ⟨t, hmasked, hvote⟩ := maskedWrite_sysLock (who := r.who) (x := x) (s := arrived r s) hm
    rw [regWrm_runs h addrOk_sysLock, hmasked]
    exact ⟨_, _, rfl, rfl, hvote, rfl⟩

end Sys2Proof.Machine
end

section
/-! PROOFS. How a request meets its server (R52, R354, R360). -/
namespace Sys2Proof.Machine
open Sys2Proof.Safety

/-! ### A request that is not executed (R52, R354, R360, R361) -/

section
variable {r : Req} {a b : Bool} {k : State → State} {s : State}
  (hreach : reachable r.who (advanceTo r.at_ s) = true) (hopen : (session (advanceTo r.at_ s) r.who).isOpen = true)
include hreach hopen

/-- What a request in an open session meets: its cached reply, its own execution, or one refusal before its server. -/
theorem meetServer_open : meetServer r a b k s = match cached (session (advanceTo r.at_ s) r.who) r.seq with
    | some rep => send (.reply r.who r.seq rep) (bump 0x001E0018 0 (arrived r s))
    | none =>
      let x := session (advanceTo r.at_ s) r.who
      if inFlight (advanceTo r.at_ s) r.who r.seq then arrived r s
      else if decide (r.ver ≠ x.major ++ x.minor) then answer r (.nak .version 0x0204) (arrived r s)
      else if !a && decide (x.major = 1) then answer r (.nak .badType 0) (arrived r s)
      else if !b && responder (advanceTo r.at_ s) then answer r (.nak .wrongState 0) (arrived r s)
      else if outLimit x ≤ x.outst then answer r (.busy (retryMs (advanceTo r.at_ s))) (arrived r s)
      else k (arrived r s) := by
  unfold meetServer
  dsimp only
  rw [if_neg (by simp [hreach]), if_neg (by simp [hopen])]
  rfl

theorem meetServer_cached {rep : Reply} (hc : cached (session (advanceTo r.at_ s) r.who) r.seq = some rep) :
    meetServer r a b k s = send (.reply r.who r.seq rep) (bump 0x001E0018 0 (arrived r s)) := by
  rw [meetServer_open hreach hopen, hc]

variable (hc : cached (session (advanceTo r.at_ s) r.who) r.seq = none)
include hc

theorem meetServer_inFlight (hf : inFlight (advanceTo r.at_ s) r.who r.seq = true) : meetServer r a b k s = arrived r s := by
  rw [meetServer_open hreach hopen, hc]
  exact if_pos hf

variable (hf : inFlight (advanceTo r.at_ s) r.who r.seq = false)
include hf

theorem meetServer_version (hv : r.ver ≠ (session (advanceTo r.at_ s) r.who).major ++ (session (advanceTo r.at_ s) r.who).minor) :
    meetServer r a b k s = answer r (.nak .version 0x0204) (arrived r s) := by
  rw [meetServer_open hreach hopen, hc]
  simp only [hf, decide_eq_true hv, Bool.false_eq_true, if_false, if_true]

theorem meetServer_busy (hv : r.ver = (session (advanceTo r.at_ s) r.who).major ++ (session (advanceTo r.at_ s) r.who).minor)
    (hb : b = true ∨ responder (advanceTo r.at_ s) = false)
    (ho : outLimit (session (advanceTo r.at_ s) r.who) ≤ (session (advanceTo r.at_ s) r.who).outst)
    (hm : (session (advanceTo r.at_ s) r.who).major ≠ 1) :
    meetServer r a b k s = answer r (.busy (retryMs (advanceTo r.at_ s))) (arrived r s) := by
  have hresp : (!b && responder (advanceTo r.at_ s)) = false := by rcases hb with h | h <;> simp [h]
  rw [meetServer_open hreach hopen, hc]
  simp only [hf, decide_eq_false (not_not_intro hv), decide_eq_false hm, hresp, ho, Bool.and_false, Bool.false_eq_true, if_false,
    if_true]
end

/-- BUSY to a 2.x session is sent as it is, and counted. -/
theorem answer_busy_eq {r : Req} {ms : Nat} {s : State} (hm : (session s r.who).major ≠ 1) :
    answer r (.busy ms) s = send (.reply r.who r.seq (.busy ms)) (bump 0x001E0014 0 s) := by
  simp only [answer, if_neg hm]

theorem session_arrived (r : Req) (s : State) : session (arrived r s) r.who =
    { session (advanceTo r.at_ s) r.who with lastValid := (advanceTo r.at_ s).sun.time } := by
  simp [arrived]

/-- Settles O19: each clause is one of the ways in which a request meets its server. -/
theorem requestsRunOnce : Obligations.RequestsRunOnce := by
  intro r a b k s u x v hreach hopen
  refine ⟨fun rep hc => ?cached, fun hc hf => meetServer_inFlight hreach hopen hc hf, fun hc hf hv => ?version,
    fun hc hf hv ha hb ho hm => ?busy⟩
  case cached =>
    have hrun : v = _ := meetServer_cached hreach hopen hc
    have hcount : counter (bump 0x001E0018 0 (arrived r s)) 0x001E0018 0 = (counter (arrived r s) 0x001E0018 0).inc.1 :=
      counter_bump _ _ _
    have hframe := frame_bump 0x001E0018 0 (arrived r s)
    have hupd := frame_bump_upd 0x001E0018 0 (arrived r s)
    rw [hrun]
    generalize bump 0x001E0018 0 (arrived r s) = w at hcount hframe hupd
    simp_all [send, Replied, arrived, u, counter, setSession]
  case version =>
    have hrun : v = _ := meetServer_version hreach hopen hc hf hv
    rw [hrun]
    exact ⟨rfl, rfl⟩
  case busy =>
    have hrun : v = _ := meetServer_busy hreach hopen hc hf hv hb ho hm
    have hmajor : (session (arrived r s) r.who).major ≠ 1 := by rw [session_arrived]; exact hm
    have hframe := frame_bump 0x001E0014 0 (arrived r s)
    rw [hrun, answer_busy_eq hmajor]
    generalize bump 0x001E0014 0 (arrived r s) = w at hframe
    simp_all [send, Replied, arrived, u, setSession]

end Sys2Proof.Machine
end

section
/-! PROOFS. Hank sessions and streams (R248, R357 to R364, R421). -/
namespace Sys2Proof.Machine
open Sys2Proof.Safety

/-! ### HELLO (R357, R359, R367) -/

/-- Only the service port reaches the responder. -/
theorem servicePort_of_responder {who : Requester} {s : State} (hreach : reachable who s = true) (hresp : responder s = true) :
    who = 4 := by
  have hlane : laneActive s = false := by simpa [responder] using hresp
  by_contra h
  simp [reachable, hlane, h] at hreach

theorem hello_responder {r : Req} {m : HelloMsg} {s : State} (hreach : reachable r.who (advanceTo r.at_ s) = true)
    (hresp : responder (advanceTo r.at_ s) = true) : exec (.hello r m) s = .next (runHello r m (advanceTo r.at_ s)) := by
  rw [exec_hello, execHello]
  simp only [hreach, hresp, Bool.not_true, Bool.false_eq_true, if_false, if_true]

theorem hello_lane {r : Req} {m : HelloMsg} {s : State} (hreach : reachable r.who (advanceTo r.at_ s) = true)
    (hresp : responder (advanceTo r.at_ s) = false) :
    exec (.hello r m) s = .next (queueRequest 1 r (.hello r m) (advanceTo r.at_ s)) := by
  rw [exec_hello, execHello]
  simp only [hreach, hresp, Bool.not_true, Bool.false_eq_true, if_false]

/-- The half-open session that a first HELLO leaves in its slot. -/
def halfOpen (m : HelloMsg) (ver : BitVec 16) (s : State) : Session := {
  half := true, major := ver.extractLsb' 8 8, minor := ver.extractLsb' 0 8, ident := Config.freeWord s.free
  key := Config.freeWord (s.free + 1), port := m.port, lastValid := s.sun.time, byResponder := responder s }

theorem helloStart_eq {r : Req} {m : HelloMsg} {ver : BitVec 16} {w : Requester} {s : State} (hresp : responder s = true)
    (hver : chooseVersion true m = some ver) (hslot : freeSlot r.who s = some w) (hauth : m.authOk = true) :
    helloStart r m s = send (.reply w r.seq (.ack [ver.zeroExtend 32, Config.freeWord s.free]))
      (setSession w (halfOpen m ver s) { s with free := s.free + 2 }) := by
  rw [← hresp] at hver
  rw [helloStart, hver, hslot]
  simp only [hauth, Bool.not_true, Bool.false_eq_true, if_false]
  rfl

theorem helloEnd_eq {r : Req} {m : HelloMsg} {s : State} (hwho : r.who = 4) (hopen : (session s r.who).isOpen = false)
    (hhalf : (session s r.who).half = true) (hauth : m.authOk = true) :
    helloEnd r m s = answer r (.ack [(session s r.who).evtSev.zeroExtend 32])
      (setSession r.who { session s r.who with isOpen := true, half := false, lastValid := s.sun.time } s) := by
  have hhalf' : (!(session s r.who).half) = false := by rw [hhalf]; rfl
  have hauth' : (!m.authOk) = false := by rw [hauth]; rfl
  rw [helloEnd, hopen]
  simp only [hhalf', hauth', freshRequester, if_pos hwho, Bool.false_eq_true, if_false]

theorem session_answer (r : Req) (l : List Word) (s : State) : session (answer r (.ack l) s) r.who =
    { session s r.who with cache := ((r.seq, .ack l) :: (session s r.who).cache).take (cacheDepth (session s r.who)) } :=
  session_setSession _ _ _

theorem queueRequest_hello {r : Req} {c : Instr} {s : State} (h : s.distaff.queue.length < 64) :
    (queueRequest 1 r c s).distaff.queue = s.distaff.queue ++ [{ cls := 1, req := r, cmd := c, since := s.sun.time }] ∧
      (queueRequest 1 r c s).hank = s.hank ∧ (queueRequest 1 r c s).sent = s.sent := by
  unfold queueRequest
  rw [if_neg (by omega)]
  simp only [if_true, frame_warnDepth]
  refine ⟨?_, trivial, trivial⟩
  unfold warnDepth
  split <;> simp

/-! ### The end of a session (R359) -/

theorem hankSessionTimeout_runs {t : Time} {w : Requester} {s : State} (hopen : (session (advanceTo t s) w).isOpen = true)
    (hlate : (session (advanceTo t s) w).lastValid.toNat + 60000000000 ≤ (advanceTo t s).sun.time.toNat) :
    exec (.hankSessionTimeout t w) s = .next (closeSession w (advanceTo t s)) := by
  have hpassed : passed (advanceTo t s) (session (advanceTo t s) w).lastValid (60 * second) = true := by
    exact decide_eq_true hlate
  rw [exec_hankSessionTimeout, execHankSessionTimeout]
  simp only [hopen, hpassed, Bool.true_or, Bool.and_self, if_true]

/-- A value that every entry of a map lacks is not read from it. -/
theorem SMap.get_ne_of_forall {α : Type} {m : SMap α} {d x : α} (hd : d ≠ x) (h : ∀ e ∈ m, e.2 ≠ x) (k : Nat) : SMap.get m d k ≠ x := by
  induction m with
  | nil => exact hd
  | cons e m ih =>
    simp only [SMap.get]
    split
    · simpa using h e (List.mem_cons_self ..)
    · exact ih fun e' he' => h e' (List.mem_cons_of_mem _ he')

theorem closeSession_spec (w : Requester) (s : State) : let v := closeSession w s
    session v w = {} ∧ (∀ o, o ≠ w → session v o = session s o) ∧ (∀ c, SMap.get v.hank.subs 0 c ≠ w.val + 1) ∧
      v = { s with hank := v.hank, distaff := v.distaff, func := v.func, store := { s.store with owner := v.store.owner } } := by
  refine ⟨SMap.get_drop_same _ _ _, fun o ho => SMap.get_drop_ne _ _ fun h => ho (Fin.ext h),
    SMap.get_ne_of_forall (by simp) fun e he => ?_, rfl⟩
  simpa [closeSession] using (List.mem_filter.mp he).2

/-- What a message with a wrong MAC leaves: its count, and a WARNING where one is due (R421). -/
def authFailed (s : State) : State :=
  let s := bump 0x001E0010 0 s
  if mayWarn s s.hank.authWarnedAt then
    raise .warning 0x1E 0x0010 [] { s with hank := { s.hank with authWarnedAt := some s.sun.time } }
  else s

theorem hankAuthFail_runs {t : Time} {s : State} (hp : (advanceTo t s).sys.powered = true)
    (hm : (advanceTo t s).sys.state ≠ .midnight) (hn : netStopped (advanceTo t s) = false) :
    exec (.hankAuthFail t) s = .next (authFailed (advanceTo t s)) := by
  have hcond : (!(advanceTo t s).sys.powered || decide ((advanceTo t s).sys.state = .midnight) || netStopped (advanceTo t s)) = false := by
    rw [hp, hn, decide_eq_false hm]
    rfl
  rw [exec_hankAuthFail, execHankAuthFail]
  simp only [hcond, Bool.false_eq_true, if_false]
  rfl

theorem authFailed_spec (u : State) : let v := authFailed u
    counter v 0x001E0010 0 = (counter u 0x001E0010 0).inc.1 ∧ v.hank.sessions = u.hank.sessions ∧
      v = { u with counters := v.counters, hank := v.hank, skein := v.skein, upd := v.upd } := by
  have hcount : counter (bump 0x001E0010 0 u) 0x001E0010 0 = (counter u 0x001E0010 0).inc.1 := counter_bump _ _ _
  have hframe := frame_bump 0x001E0010 0 u
  unfold authFailed
  generalize bump 0x001E0010 0 u = w at hcount hframe
  dsimp only at hframe ⊢
  split
  · refine ⟨by simpa [counter] using hcount, by simp [hframe], ?_⟩
    apply State.eq_of_parts <;> simp [hframe]
  · refine ⟨hcount, by simp [hframe], ?_⟩
    apply State.eq_of_parts <;> simp [hframe]

/-! ### Streams into the module (R97, R363, R364) -/

theorem ofBytes_bytesOf (k v : Nat) : ofBytes (bytesOf k v) = v % 256 ^ k := by
  induction k generalizing v with
  | zero => simp [bytesOf, ofBytes, Nat.mod_one]
  | succ k ih =>
    rw [bytesOf, ofBytes, ih, Nat.pow_succ', Nat.mod_mul, BitVec.toNat_ofNat]

/-- One record read back from its 16 bytes. -/
theorem recordsOf_recordBytes (x : StreamRecord) (h : x.signal < 4294967296) : recordsOf 1 (recordBytes x) = [x] := by
  have hstamp := x.stamp.isLt
  have hvalue := x.value.isLt
  have hsig : (recordBytes x).take 4 = bytesOf 4 x.signal := rfl
  have hval : ((recordBytes x).drop 4).take 4 = bytesOf 4 x.value.toNat := rfl
  have htime : ((recordBytes x).drop 8).take 8 = bytesOf 8 x.stamp.toNat := rfl
  simp only [recordsOf, hsig, hval, htime, ofBytes_bytesOf, Nat.mod_eq_of_lt h, Nat.reducePow, BitVec.ofNat_toNat,
    Nat.mod_eq_of_lt hvalue, Nat.mod_eq_of_lt hstamp, BitVec.setWidth_eq]

theorem recordBytes_length (x : StreamRecord) : (recordBytes x).length = 16 := rfl

theorem streamHostWrite_record {r : Req} {chan : Nat} {x : StreamRecord} {s : State} (h : Taken r false false s) (hc : chan ≠ 0)
    (hk : streamKind (arrived r s) chan = some .signalsIn) (hx : x.signal < 4294967296) :
    exec (.streamHostWrite r chan (.records [x])) s = .next (answer r (.ack []) (streamRecord chan x (arrived r s))) := by
  have hbytes : payloadBytes (.records [x]) = recordBytes x := List.append_nil _
  rw [exec_streamHostWrite, execStreamHostWrite, serve_taken _ _ _ _ _ h]
  simp only [hbytes, recordBytes_length, hk, if_neg hc, recordsOf_recordBytes x hx]
  rfl

theorem streamHostWrite_entry {r : Req} {chan b : Nat} {l : List Byte} {s : State} (h : Taken r false false s) (hc : chan ≠ 0)
    (hk : streamKind (arrived r s) chan = some (.bobbinIn b)) (h0 : 0 < l.length) (h1 : l.length ≤ 1408) :
    exec (.streamHostWrite r chan (.entry l)) s = .next (answer r (streamEntry r b l (arrived r s)).1
      (streamEntry r b l (arrived r s)).2) := by
  have hlen : ((payloadBytes (.entry l)).isEmpty || decide (1408 < (payloadBytes (.entry l)).length)) = false := by
    rw [payloadBytes, decide_eq_false (by omega), List.isEmpty_eq_false_iff.mpr (List.length_pos_iff.mp h0)]
    rfl
  rw [exec_streamHostWrite, execStreamHostWrite, serve_taken _ _ _ _ _ h]
  simp only [hlen, hk, if_neg hc, Bool.false_eq_true, if_false]
  rfl

theorem streamEntry_placed {r : Req} {b : Nat} {d : BobDecl} {l : List Byte} {s : State} (hd : bobDecl s b = some d)
    (hlane : laneActive s = true) (hgate : s.lanes.gate = true) (hheld : (bob s b).held = [])
    (hplace : ((bob s b).place d.size { stamp := s.sun.time, seq := (bob s b).seq, aux := 0, bytes := l }).isSome = true) :
    streamEntry r b l s = (.ack [], (offer b s.sun.time 0 l s).2) := by
  have hoffer : (offer b s.sun.time 0 l s).1 = true := by
    obtain ⟨x, hx⟩ := Option.isSome_iff_exists.mp hplace
    rw [offer_placed hlane hgate hd hheld hx]
  rw [streamEntry, hd]
  simp only [hheld, hplace, List.isEmpty_nil, Bool.and_self, Bool.not_true, Bool.false_and, Bool.false_eq_true, if_false, hoffer, if_true]

theorem streamEntry_busy {r : Req} {b : Nat} {d : BobDecl} {l : List Byte} {s : State} (hd : bobDecl s b = some d)
    (hheld : (bob s b).held ≠ []) (hdrop : d.dropNew = false) : let t := (streamEntry r b l s).2
    (streamEntry r b l s).1 = .busy 1 ∧ bob t b = { bob s b with waitFor := some (r.who.val, r.seq) } ∧
      (∀ n, n ≠ b → bob t n = bob s n) ∧ t.core = { s.core with bobs := t.core.bobs } := by
  have hempty : (bob s b).held.isEmpty = false := by simpa using hheld
  intro t
  have ht : streamEntry r b l s = (.busy 1, if (bob s b).waitFor = some (r.who.val, r.seq) then s
      else bump 0x001D001C b (setBob b { bob s b with waitFor := some (r.who.val, r.seq) } s)) := by
    rw [streamEntry, hd]
    simp only [hempty, hdrop, Bool.false_and, Bool.not_false, Bool.and_self, if_true]
  have ht2 : t = _ := congrArg Prod.snd ht
  refine ⟨congrArg Prod.fst ht, ?_⟩
  rw [ht2]
  dsimp only
  split
  next h => exact ⟨by rw [← h], fun _ _ => rfl, rfl⟩
  · have hbob (n : Nat) (x : State) : bob (bump 0x001D001C b x) n = bob x n := by simp [bob]
    refine ⟨by rw [hbob, bob_setBob], fun n hn => by rw [hbob, bob_setBob_ne _ _ _ _ hn], ?_⟩
    simp


/-- A request that only a lane and a 2.x session may make found both. -/
theorem laneActive_of_taken {r : Req} {a : Bool} {s : State} (h : Taken r a false s) : laneActive (arrived r s) = true := by
  obtain ⟨_, _, _, _, _, _, hresp, _⟩ := h
  have hlane : responder (advanceTo r.at_ s) = false := by simpa using hresp
  have hsame : laneActive (arrived r s) = laneActive (advanceTo r.at_ s) := rfl
  rw [hsame]
  simpa [responder] using hlane

theorem major_of_taken {r : Req} {b : Bool} {s : State} (h : Taken r false b s) : (session (arrived r s) r.who).major ≠ 1 := by
  obtain ⟨_, _, _, _, _, hmajor, _, _⟩ := h
  rw [session_arrived]
  simpa using hmajor

/-! ### A subscriber and what it is sent (R353, R364) -/

theorem answer_subs (r : Req) (l : List Word) (s : State) : (answer r (.ack l) s).hank.subs = s.hank.subs := rfl

theorem streamSubscribe_on {r : Req} {chan b : Nat} {s : State} (h : Taken r true false s)
    (hk : streamKind (arrived r s) chan = some (.bobbinOut b)) (hcur : SMap.get (arrived r s).hank.subs 0 chan = 0) :
    exec (.streamSubscribe r chan true) s = .next (answer r (.ack []) { arrived r s with hank := { (arrived r s).hank with
      subs := SMap.put (arrived r s).hank.subs 0 chan (r.who.val + 1) } }) := by
  rw [exec_streamSubscribe, execStreamSubscribe, serve_taken _ _ _ _ _ h]
  simp only [hk, hcur, if_true, ne_eq, not_true, if_false, done]

theorem streamSubscribe_off {r : Req} {chan b : Nat} {s : State} (h : Taken r true false s)
    (hk : streamKind (arrived r s) chan = some (.bobbinOut b)) (hcur : SMap.get (arrived r s).hank.subs 0 chan = r.who.val + 1) :
    exec (.streamSubscribe r chan false) s = .next (answer r (.ack []) { arrived r s with hank := { (arrived r s).hank with
      subs := SMap.drop (arrived r s).hank.subs chan } }) := by
  rw [exec_streamSubscribe, execStreamSubscribe, serve_taken _ _ _ _ _ h]
  simp only [hk, hcur, if_true, Bool.false_eq_true, if_false, done]

theorem streamOutSend_runs {t : Time} {chan b : Nat} {w : Requester} {e : BobEntry} {x s : State}
    (hk : streamKind (advanceTo t s) chan = some (.bobbinOut b)) (hw : subscriber (advanceTo t s) chan = some w)
    (hlane : laneActive (advanceTo t s) = true) (hpop : popBob b (advanceTo t s) = (some e, x)) (hlen : e.bytes.length ≤ 1392) :
    exec (.streamOutSend t chan) s = .next (send (.stream w (session x w).evtNo.toNat chan e.desc e.bytes)
      (setSession w { session x w with evtNo := (session x w).evtNo + 1 } x)) := by
  rw [exec_streamOutSend, execStreamOutSend]
  simp only [hk, hw, hlane, hpop, Bool.not_true, Bool.false_eq_true, if_false, if_neg (Nat.not_lt.mpr hlen)]

/-! ### Correction frames (R248) -/

theorem rtcmFrame_runs {t : Time} {l : List Byte} {ok : Bool} {msg : Nat} {s : State} (hlane : laneActive (advanceTo t s) = true) :
    exec (.rtcmFrame t l ok msg) s = .next (takeRtcm l ok msg (advanceTo t s)) := by
  rw [exec_rtcmFrame, execRtcmFrame]
  simp only [hlane, if_true]

theorem takeRtcm_good {l : List Byte} {msg : Nat} {s : State} (hroom : s.core.pos.rtcmBytes + l.length ≤ 65536)
    (hused : rtcmUsed msg = true) : let v := takeRtcm l true msg s
    v.core.pos.rtcm = s.core.pos.rtcm ++ [l] ∧ v.core.pos.rtcmBytes = s.core.pos.rtcmBytes + l.length ∧
      counter v 0x00160008 0 = (counter s 0x00160008 0).inc.1 ∧
      v = { s with core := { s.core with pos := v.core.pos }, counters := v.counters, skein := v.skein, upd := v.upd } := by
  have hbad : (false || decide (65536 < s.core.pos.rtcmBytes + l.length)) = false := by rw [decide_eq_false (by omega)]; rfl
  unfold takeRtcm
  simp only [hbad, hused, Bool.not_true, Bool.false_eq_true, if_false]
  refine ⟨by simp, by simp, counter_bump _ _ _, ?_⟩
  apply State.eq_of_parts <;> simp

theorem takeRtcm_bad (l : List Byte) (msg : Nat) (s : State) : let v := takeRtcm l false msg s
    counter v 0x0016000C 0 = (counter s 0x0016000C 0).inc.1 ∧
      v = { s with counters := v.counters, skein := v.skein, upd := v.upd } := by
  have hbad : takeRtcm l false msg s = bump 0x0016000C 0 s := by
    simp only [takeRtcm, Bool.not_false, Bool.true_or, if_true]
  rw [hbad]
  refine ⟨counter_bump _ _ _, ?_⟩
  apply State.eq_of_parts <;> simp

/-- Opening and ending a session: the first part of O20. -/
theorem sessions_spec : (∀ (r : Req) (m : HelloMsg) (ver : BitVec 16) (w : Requester) (s : State), let u := advanceTo r.at_ s
     reachable r.who u = true → responder u = true → m.complete = false → chooseVersion true m = some ver → freeSlot r.who u = some w →
     m.authOk = true → ∃ v id, exec (.hello r m) s = .next v ∧ v.sent.head? = some (.reply w r.seq (.ack [ver.zeroExtend 32, id])) ∧
       (session v w).half = true ∧ (session v w).isOpen = false ∧ (session v w).ident = id ∧
       (session v w).major = ver.extractLsb' 8 8 ∧ (session v w).minor = ver.extractLsb' 0 8 ∧
       (∀ o, o ≠ w → session v o = session u o) ∧ v = { u with hank := v.hank, sent := v.sent, free := u.free + 2 }) ∧
   (∀ (r : Req) (m : HelloMsg) (s : State), let u := advanceTo r.at_ s
     reachable r.who u = true → responder u = true → m.complete = true → (session u r.who).isOpen = false →
     (session u r.who).half = true → m.authOk = true → ∃ v l, exec (.hello r m) s = .next v ∧ Replied r (.ack l) v ∧
       (session v r.who).isOpen = true ∧ (session v r.who).half = false ∧ (session v r.who).lastValid = u.sun.time ∧
       v = { u with hank := v.hank, sent := v.sent }) := by
  refine ⟨fun r m ver w s hreach hresp hm hver hslot hauth => ?_, fun r m s hreach hresp hm hopen hhalf hauth => ?_⟩
  · have hrun : runHello r m (advanceTo r.at_ s) = helloStart r m (advanceTo r.at_ s) := by simp only [runHello, hm]; rfl
    rw [hello_responder hreach hresp, hrun, helloStart_eq hresp hver hslot hauth]
    generalize advanceTo r.at_ s = u
    have hsession (x : Sent) : session (send x (setSession w (halfOpen m ver u) { u with free := u.free + 2 })) w = halfOpen m ver u :=
      session_setSession _ _ _
    refine ⟨_, _, rfl, rfl, ?_⟩
    rw [hsession]
    exact ⟨rfl, rfl, rfl, rfl, rfl, fun o ho => session_setSession_ne _ _ _ _ ho, rfl⟩
  · have hrun : runHello r m (advanceTo r.at_ s) = helloEnd r m (advanceTo r.at_ s) := by simp only [runHello, hm]; rfl
    rw [hello_responder hreach hresp, hrun, helloEnd_eq (servicePort_of_responder hreach hresp) hopen hhalf hauth]
    generalize advanceTo r.at_ s = u
    refine ⟨_, _, rfl, rfl, ?_⟩
    rw [session_answer, session_setSession]
    exact ⟨rfl, rfl, rfl, rfl⟩

/-- Settles O20: each clause runs its command to its operation, and says what that operation leaves. -/
theorem sessionsAndStreams : Obligations.SessionsAndStreams := by
  refine ⟨⟨sessions_spec.1, sessions_spec.2, fun r m s hreach hresp hlen => ⟨_, hello_lane hreach hresp, ?queued⟩,
    fun t w s hopen hlate => ⟨_, hankSessionTimeout_runs hopen hlate, closeSession_spec _ _⟩,
    fun t s hp hm hn => ⟨_, hankAuthFail_runs hp hm hn, authFailed_spec _⟩, fun t s => rfl⟩,
    fun r chan x s h hc hk hx => ⟨_, streamHostWrite_record h hc hk hx, ?record⟩,
    fun r chan b d l s h hc hk hd h0 h1 hgate => ⟨fun hheld hplace => ⟨_, streamHostWrite_entry h hc hk h0 h1, ?placed⟩,
      fun hheld hdrop => ⟨_, streamHostWrite_entry h hc hk h0 h1, ?busy⟩⟩,
    fun r chan b s h hk => ⟨fun hcur => ⟨_, streamSubscribe_on h hk hcur, ?on⟩, fun hcur => ⟨_, streamSubscribe_off h hk hcur, ?off⟩⟩,
    fun t chan b w e x s hk hw hlane hpop hlen => ⟨_, streamOutSend_runs hk hw hlane hpop hlen, rfl, rfl⟩,
    fun t l ok msg s hlane => ⟨fun hok hroom hused => ⟨_, rtcmFrame_runs hlane, ?good⟩,
      fun hok => ⟨_, rtcmFrame_runs hlane, ?bad⟩⟩⟩
  case queued =>
    obtain ⟨hqueue, hhank, hsent⟩ := queueRequest_hello (r := r) (c := .hello r m) hlen
    exact ⟨hqueue, hhank, hsent, by simp⟩
  case record =>
    generalize arrived r s = u
    exact ⟨rfl, by simp [streamRecord], by simp, by simp, by simp⟩
  case placed =>
    have hoffer := streamEntry_placed (r := r) hd (laneActive_of_taken h) hgate hheld hplace
    rw [hoffer]
    generalize arrived r s = u
    exact ⟨rfl, rfl, by simp, by simp, by simp⟩
  case busy =>
    obtain ⟨hreply, hbob, hother, hcore⟩ := streamEntry_busy (r := r) (l := l) hd hheld hdrop
    have hmajor := major_of_taken h
    have hhank : (streamEntry r b l (arrived r s)).2.hank = (arrived r s).hank := by simp
    have hsame : (session (streamEntry r b l (arrived r s)).2 r.who).major ≠ 1 := by
      simpa only [session, hhank] using hmajor
    rw [hreply, answer_busy_eq hsame]
    have hsys : (streamEntry r b l (arrived r s)).2.sys = (arrived r s).sys := by simp
    have hstore : (streamEntry r b l (arrived r s)).2.store = (arrived r s).store := by simp
    generalize (streamEntry r b l (arrived r s)).2 = t at hbob hother hcore hsys hstore
    have hkeep (n : Nat) : bob (send (.reply r.who r.seq (.busy 1)) (bump 0x001E0014 0 t)) n = bob t n := by simp [bob, send]
    refine ⟨rfl, by rw [hkeep, hbob], fun n hn => by rw [hkeep, hother n hn], ?_, ?_, ?_⟩
    · simpa [send] using hcore
    · simpa [send] using hsys
    · simpa [send] using hstore
  case on =>
    generalize arrived r s = u
    refine ⟨rfl, ?_, fun c hc => ?_, rfl⟩
    · rw [answer_subs]
      exact SMap.get_put_same u.hank.subs 0 chan (r.who.val + 1)
    · rw [answer_subs]
      exact SMap.get_put_ne u.hank.subs 0 (r.who.val + 1) hc
  case off =>
    generalize arrived r s = u
    refine ⟨rfl, ?_, rfl⟩
    rw [answer_subs]
    exact SMap.get_drop_same _ _ _
  case good =>
    rw [hok]
    exact takeRtcm_good hroom hused
  case bad =>
    rw [hok]
    exact takeRtcm_bad _ _ _

end Sys2Proof.Machine
end

section
/-! PROOFS. The Distaff's queue and its service (R168 to R171, R354, R361, R425). -/
namespace Sys2Proof.Machine
open Sys2Proof.Safety

/-! ### Requests that wait for the Distaff (R354, R360, R361) -/

theorem warnDepth_distaff (s : State) : (warnDepth s).distaff.queue = s.distaff.queue := by
  unfold warnDepth
  split <;> simp

/-- A warning of a deep queue is a record and its instant. -/
theorem warnDepth_frame (s : State) : warnDepth s =
    { s with distaff := (warnDepth s).distaff, skein := (warnDepth s).skein, upd := (warnDepth s).upd } := by
  apply State.eq_of_parts <;> simp

theorem session_warnDepth (s : State) (who : Requester) : session (warnDepth s) who = session s who := by
  simp [session]

/-- A request that finds room in the queue waits there, last, and is in execution. -/
theorem queueRequest_waits {cls : Nat} {r : Req} {c : Instr} {u : State} (hc : cls ≠ 1) (hroom : u.distaff.queue.length < 64) :
    let v := queueRequest cls r c u
    v.distaff.queue = u.distaff.queue ++ [{ cls := cls, req := r, cmd := c, since := u.sun.time }] ∧
      (session v r.who).outst = (session u r.who).outst + 1 ∧
      v = { u with distaff := v.distaff, hank := v.hank, skein := v.skein, upd := v.upd } := by
  have hqueue : queueRequest cls r c u = warnDepth { enterFlight r.who u with distaff := { (enterFlight r.who u).distaff with
      queue := u.distaff.queue ++ [{ cls := cls, req := r, cmd := c, since := u.sun.time }] } } := by
    simp only [queueRequest, if_neg (Nat.not_le.mpr hroom), if_neg hc]
    rfl
  have hframe := warnDepth_frame { enterFlight r.who u with distaff := { (enterFlight r.who u).distaff with
      queue := u.distaff.queue ++ [{ cls := cls, req := r, cmd := c, since := u.sun.time }] } }
  intro v
  have hv : v = _ := hqueue
  rw [hv]
  refine ⟨by rw [warnDepth_distaff], ?_, ?_⟩
  · rw [session_warnDepth]
    exact congrArg Session.outst (session_setSession r.who _ u)
  · generalize warnDepth _ = w at hframe
    rw [hframe]
    rfl

theorem copLoad_runs {r : Req} {c : Instr} {s : State} (h : Taken r true false s)
    (hc : (∃ n d, c = .copLoadBegin r n d) ∨ (∃ n l, c = .copLoadData r n l) ∨ c = .copLoadCommit r ∨ c = .copLoadRevert r ∨
      c = .copLoadAbort r) : exec c s = .next (queueRequest 2 r c (arrived r s)) := by
  rcases hc with ⟨n, d, rfl⟩ | ⟨n, l, rfl⟩ | rfl | rfl | rfl
  · rw [exec_copLoadBegin, execCopLoadBegin, meetServer_taken _ h]
  · rw [exec_copLoadData, execCopLoadData, meetServer_taken _ h]
  · rw [exec_copLoadCommit, execCopLoadCommit, meetServer_taken _ h]
  · rw [exec_copLoadRevert, execCopLoadRevert, meetServer_taken _ h]
  · rw [exec_copLoadAbort, execCopLoadAbort, meetServer_taken _ h]

theorem activate_runs {r : Req} {id : BitVec 64} {mode : Nat} {s : State} (h : Taken r false false s) :
    exec (.activate r id mode) s = .next (queueRequest 3 r (.activate r id mode) (arrived r s)) := by
  rw [exec_activate, execActivate, meetServer_taken _ h]

/-! ### The entry served next (R361) -/

theorem nextEntry_hank {d : Distaff} {e : DistaffEntry} {q : List DistaffEntry} (hq : d.queue = e :: q) (he : e.cls = 1)
    (hno : ∀ x ∈ q, x.cls ≠ 0) : nextEntry d = some (0, d.rotation) := by
  have hhealth : (e :: q).findIdx? (fun e => decide (e.cls = 0)) = none := by
    rw [List.findIdx?_eq_none_iff]
    intro x hx
    rcases List.mem_cons.mp hx with rfl | hx
    · simp [he]
    · simpa using hno x hx
  have hhank : (e :: q).findIdx? (fun e => decide (e.cls = 1)) = some 0 := by simp [List.findIdx?_cons, he]
  simp only [nextEntry, hq, hhealth, hhank]

/-- A single entry of the validate class is served whichever class has its turn. -/
theorem nextEntry_validate {d : Distaff} {e : DistaffEntry} (hq : d.queue = [e]) (he : e.cls = 2) :
    ∃ turn, nextEntry d = some (0, turn) := by
  have hat (c : Nat) : [e].findIdx? (fun e => decide (e.cls = c)) = if c = 2 then some 0 else none := by
    rw [List.findIdx?_cons, List.findIdx?_nil, he]
    by_cases h : c = 2 <;> simp [h, eq_comm]
  simp only [nextEntry, hq, hat]
  have hlt : d.rotation % 3 < 3 := Nat.mod_lt _ (by decide)
  have h1 : (d.rotation + 1) % 3 = (d.rotation % 3 + 1) % 3 := by omega
  have h2 : (d.rotation + 2) % 3 = (d.rotation % 3 + 2) % 3 := by omega
  simp only [List.findSome?, Nat.add_zero, h1, h2]
  generalize d.rotation % 3 = k at hlt
  interval_cases k <;> simp

/-! ### One entry served (R361) -/

/-- An entry that is executed and acknowledged leaves the queue, and what its execution changed stands. -/
theorem service_acks {t : Time} {us : Nat} {e : DistaffEntry} {s w : State} (hruns : distaffRuns (advanceTo t s) = true)
    (hq : (advanceTo t s).distaff.queue = [e]) (he : e.cls = 2)
    (hw : runQueued e.cmd { advanceTo t s with distaff := { (advanceTo t s).distaff with queue := [] } } =
      replyQueued e.req (.ack [], w)) (hwq : w.distaff.queue = []) :
    ∃ v, exec (.distaffQueueService t us) s = .next v ∧ v.distaff.queue = [] ∧ Replied e.req (.ack []) v ∧ v.store = w.store ∧
      v.core = w.core ∧ v.sys = w.sys ∧ v.lanes = w.lanes := by
  obtain ⟨turn, hnext⟩ := nextEntry_validate hq he
  have hget : (advanceTo t s).distaff.queue[0]? = some e := by rw [hq]; rfl
  have herase : (advanceTo t s).distaff.queue.eraseIdx 0 = [] := by rw [hq]; rfl
  rw [exec_distaffQueueService, execDistaffQueueService]
  simp only [hruns, hnext, hget, herase, hw, replyQueued, Bool.not_true, Bool.false_eq_true, if_false]
  refine ⟨_, rfl, ?_, rfl, rfl, rfl, rfl, rfl⟩
  exact hwq

/-! ### COP_LOAD as it is served (R168 to R171, R425) -/

theorem copBegin_eq {who : Requester} {n : Nat} {dg : BitVec 256} {s : State} (hbar : loadBarred s = none)
    (hslot : (selSlot s).state ≠ .committed) (hload : s.store.loading = false) (hn : 64 ≤ n) (hn' : n ≤ slotBytes) :
    copBegin who n dg s = (.ack [], setCopSlot (if (selSlot s).good then !s.store.sel else s.store.sel)
      { state := .writing, total := n, digest := dg } { unflash 0 s with store := { s.store with
        sel := if (selSlot s).good then !s.store.sel else s.store.sel, loading := true, owner := some who, lastData := s.sun.time
        burst := none
        validating := s.store.validating && decide (s.store.valSlot ≠ if (selSlot s).good then !s.store.sel else s.store.sel) } }) := by
  have hsize : (decide (n < 64) || decide (slotBytes < n)) = false := by
    rw [decide_eq_false (by omega), decide_eq_false (by omega)]
    rfl
  have hload' : (s.store.loading && decide (s.store.owner ≠ some who) && !passed s s.store.lastData (60 * second)) = false := by
    rw [hload]; rfl
  rw [copBegin, hbar]
  simp only [if_neg hslot, hload', hsize, Bool.false_eq_true, if_false]
  rfl

theorem selSlot_setCopSlot (b : Bool) (x : CopSlot) (s : State) (h : s.store.sel = b) : selSlot (setCopSlot b x s) = x := by
  cases b <;> simp [selSlot, setCopSlot, h]

theorem copCommit_eq {who : Requester} {s : State} (hown : notLoading who s = none) (hall : (selSlot s).next = (selSlot s).total) :
    copCommit who s = (.ack [], setCopSlot s.store.sel { selSlot s with
      state := .committed, commit := true, badDigest := decide (sha256 (selSlot s).bytes ≠ (selSlot s).digest) }
      { s with store := { s.store with loading := false, owner := none, validating := true, valSlot := s.store.sel } }) := by
  rw [copCommit, hown]
  simp only [hall, ne_eq, not_true, if_false, done]

theorem copRevert_eq {s : State} (hbar : loadBarred s = none) (hload : s.store.loading = false)
    (hgood : (copSlot s (!s.store.sel)).good = true) :
    copRevert s = (.ack [], { s with store := { s.store with sel := !s.store.sel } }) := by
  have hcond : (s.store.loading || !(copSlot s (!s.store.sel)).good) = false := by rw [hload, hgood]; rfl
  rw [copRevert, hbar]
  simp only [hcond, Bool.false_eq_true, if_false, done]

theorem copAbort_eq {who : Requester} {s : State} (hown : notLoading who s = none) :
    copAbort who s = (.ack [], { unflash 0 s with store := { s.store with loading := false, owner := none, burst := none } }) := by
  rw [copAbort, hown]
  rfl

/-- The state in which a new flash burst is submitted: its number is taken. -/
def burstNumbered (s : State) : State := { s with tally := { s.tally with bursts := s.tally.bursts + 1 } }

theorem submit_burst {s : State} (hq : (ledger s 4).queue = []) (hf : fits s 4 (flashClaim 0 s.tally.bursts) = true) :
    submit 4 (flashClaim 0 s.tally.bursts) (burstNumbered s) = enter 4 (flashClaim 0 s.tally.bursts) (burstNumbered s) := by
  have hq' : (ledger (burstNumbered s) 4).queue = [] := hq
  have hf' : fits (burstNumbered s) 4 (flashClaim 0 s.tally.bursts) = true := hf
  rw [submit_admits hq' hf']
  rfl

/-- A flash burst that fits behind an empty queue is admitted at once. -/
theorem burst_admits {s : State} (hq : (ledger s 4).queue = []) (hf : fits s 4 (flashClaim 0 s.tally.bursts) = true) :
    ∃ b, burst 0 none s = (true, b, enter 4 (flashClaim 0 s.tally.bursts) (burstNumbered s)) := by
  have hadmit := submit_burst hq hf
  have hholds : holds (enter 4 (flashClaim 0 s.tally.bursts) (burstNumbered s)) 4 (.flash 0 s.tally.bursts) = true :=
    holds_enter _ (flashClaim 0 s.tally.bursts) _
  simp only [burst, burstNumbered] at hadmit hholds ⊢
  rw [hadmit, hholds]
  exact ⟨_, rfl⟩

/-- DATA whose burst is admitted: its bytes join what the slot holds. -/
theorem copData_eq {who : Requester} {l : List Byte} {s : State} (hown : notLoading who s = none) (h0 : 0 < l.length)
    (h1 : l.length ≤ 1400) (hfit : (selSlot s).next + l.length ≤ slotBytes) (hb : s.store.burst = none)
    (hq : (ledger s 4).queue = []) (hf : fits s 4 (flashClaim 0 s.tally.bursts) = true) :
    ∃ b, copData who (selSlot s).next l s = (some (.ack []), setCopSlot s.store.sel { selSlot s with
      next := (selSlot s).next + l.length, bytes := (selSlot s).bytes ++ l }
      { enter 4 (flashClaim 0 s.tally.bursts) (burstNumbered s) with
        store := { s.store with burst := b, lastData := s.sun.time } }) := by
  obtain ⟨b, hburst⟩ := burst_admits hq hf
  have hlen : (l.isEmpty || decide (1400 < l.length)) = false := by
    rw [decide_eq_false (by omega), List.isEmpty_eq_false_iff.mpr (List.length_pos_iff.mp h0)]
    rfl
  rw [copData, hown]
  simp only [hlen, hb, hburst, Bool.false_eq_true, if_false, if_true, ne_eq, not_true, if_neg (Nat.not_lt.mpr hfit), frame_enter,
    burstNumbered]
  exact ⟨b, rfl⟩

theorem distaffEntryWaitWarning_runs {t : Time} {s : State}
    (hlate : ∃ e ∈ (advanceTo t s).distaff.queue, e.since.toNat + 100000000 < (advanceTo t s).sun.time.toNat)
    (hnew : (advanceTo t s).distaff.waitWarnedAt = none) : exec (.distaffEntryWaitWarning t) s = .next
      (raise .warning 0x01 0x0018 [BitVec.ofNat 32 (maxWaitMs (advanceTo t s))] { advanceTo t s with
        distaff := { (advanceTo t s).distaff with waitWarnedAt := some (advanceTo t s).sun.time } }) := by
  have hany : ((advanceTo t s).distaff.queue.any fun e => decide (e.since.toNat + 100000000 < (advanceTo t s).sun.time.toNat)) = true :=
    List.any_eq_true.mpr (by simpa using hlate)
  rw [exec_distaffEntryWaitWarning, execDistaffEntryWaitWarning]
  simp only [hany, mayWarn, hnew, Bool.and_self, if_true]

/-! ### A silent Distaff (R55, R361) -/

theorem distaffWatchdogMiss_runs {t : Time} {s : State} (hp : (advanceTo t s).sys.powered = true)
    (hlane : laneActive (advanceTo t s) = true) : exec (.distaffWatchdogMiss t) s = .next (restart 43 (advanceTo t s)) := by
  rw [exec_distaffWatchdogMiss, execDistaffWatchdogMiss]
  simp only [hp, hlane, Bool.and_self, if_true]

theorem restart_distaff_spec (u : State) : let v := restart 43 u
    v.distaff = {} ∧ restarts v 43 = true ∧ v.core = u.core ∧ v.store = u.store ∧ v.outs = u.outs ∧ v.lanes = u.lanes := by
  have hfunc : (restart 43 u).func = { u.func with restarting := setBit u.func.restarting 43 true } := by
    simp [restart, resetFunction]
  refine ⟨rfl, ?_, ?_, ?_, ?_, ?_⟩
  · rw [restarts, hfunc]
    exact bit_setBit _ _ _ (by decide)
  all_goals simp [restart, resetFunction]

theorem setCopSlot_spec (b : Bool) (x : CopSlot) (s : State) : let v := setCopSlot b x s
    v.core = s.core ∧ v.sys = s.sys ∧ v.lanes = s.lanes ∧ v.distaff = s.distaff ∧ v.store.sel = s.store.sel ∧
      v.store.loading = s.store.loading ∧ v.store.owner = s.store.owner ∧ v.store.validating = s.store.validating ∧
      v.store.valSlot = s.store.valSlot ∧ v.store.running = s.store.running ∧ copSlot v (!b) = copSlot s (!b) := by
  cases b <;> exact ⟨rfl, rfl, rfl, rfl, rfl, rfl, rfl, rfl, rfl, rfl, rfl⟩

theorem selSlot_congr {s t : State} (h : t.store = s.store) : selSlot t = selSlot s := by rw [selSlot, selSlot, h]

/-- The module as an entry is executed: the queue no longer holds it. -/
def dequeued (s : State) : State := { s with distaff := { s.distaff with queue := [] } }

theorem copBegin_spec {who : Requester} {n : Nat} {dg : BitVec 256} {s : State} (hbar : loadBarred s = none)
    (hslot : (selSlot s).state ≠ .committed) (hload : s.store.loading = false) (hn : 64 ≤ n) (hn' : n ≤ slotBytes) :
    ∃ w, copBegin who n dg s = (.ack [], w) ∧ w.distaff = s.distaff ∧
      w.store.sel = (if (selSlot s).good then !s.store.sel else s.store.sel) ∧ w.store.loading = true ∧ w.store.owner = some who ∧
      selSlot w = { state := .writing, total := n, digest := dg } ∧ copSlot w (!w.store.sel) = copSlot s (!w.store.sel) ∧
      w.core = s.core ∧ w.sys = s.sys ∧ w.lanes = s.lanes := by
  have heq := copBegin_eq (who := who) (dg := dg) hbar hslot hload hn hn'
  generalize (if (selSlot s).good then !s.store.sel else s.store.sel) = b at heq ⊢
  refine ⟨_, heq, ?_⟩
  generalize hx : ({ unflash 0 s with store := _ } : State) = x
  obtain ⟨hcore, hsys, hlanes, hdist, hsel, hl, hown, _, _, _, hother⟩ :=
    setCopSlot_spec b { state := .writing, total := n, digest := dg } x
  have hxsel : x.store.sel = b := by rw [← hx]
  have hcopy : copSlot x (!b) = copSlot s (!b) := by rw [← hx]; rfl
  have hslot' := selSlot_setCopSlot b { state := .writing, total := n, digest := dg } x hxsel
  generalize setCopSlot b _ x = w at hcore hsys hlanes hdist hsel hl hown hother hslot'
  rw [hsel, hxsel, hdist, hl, hown, hslot', hother, hcopy, hcore, hsys, hlanes, ← hx]
  simp

theorem copData_spec {who : Requester} {l : List Byte} {s : State} (hown : notLoading who s = none) (h0 : 0 < l.length)
    (h1 : l.length ≤ 1400) (hfit : (selSlot s).next + l.length ≤ slotBytes) (hb : s.store.burst = none)
    (hq : (ledger s 4).queue = []) (hf : fits s 4 (flashClaim 0 s.tally.bursts) = true) :
    ∃ w, copData who (selSlot s).next l s = (some (.ack []), w) ∧ w.distaff = s.distaff ∧
      (selSlot w).next = (selSlot s).next + l.length ∧ (selSlot w).bytes = (selSlot s).bytes ++ l ∧ w.store.sel = s.store.sel ∧
      (selSlot w).state = (selSlot s).state ∧ w.core = s.core ∧ w.sys = s.sys ∧ w.lanes = s.lanes := by
  obtain ⟨b, heq⟩ := copData_eq hown h0 h1 hfit hb hq hf
  refine ⟨_, heq, ?_⟩
  generalize hx : ({ enter 4 _ _ with store := _ } : State) = x
  generalize hslot : ({ selSlot s with next := _, bytes := _ } : CopSlot) = y
  obtain ⟨hcore, hsys, hlanes, hdist, hsel, _⟩ := setCopSlot_spec s.store.sel y x
  have hxsel : x.store.sel = s.store.sel := by rw [← hx]
  have hslot' := selSlot_setCopSlot s.store.sel y x hxsel
  generalize setCopSlot s.store.sel y x = w at hcore hsys hlanes hdist hsel hslot'
  rw [hslot', hdist, hcore, hsys, hlanes, hsel, hxsel, ← hslot, ← hx]
  simp [burstNumbered]

theorem copCommit_spec {who : Requester} {s : State} (hown : notLoading who s = none) (hall : (selSlot s).next = (selSlot s).total) :
    ∃ w, copCommit who s = (.ack [], w) ∧ w.distaff = s.distaff ∧
      selSlot w = { selSlot s with
        state := .committed, commit := true, badDigest := decide (sha256 (selSlot s).bytes ≠ (selSlot s).digest) } ∧
      w.store.loading = false ∧ w.store.validating = true ∧ w.store.valSlot = s.store.sel ∧ w.store.running = s.store.running ∧
      w.core = s.core ∧ w.sys = s.sys := by
  refine ⟨_, copCommit_eq hown hall, ?_⟩
  generalize ({ selSlot s with state := _, commit := _, badDigest := _ } : CopSlot) = y
  generalize hx : ({ s with store := _ } : State) = x
  obtain ⟨hcore, hsys, hlanes, hdist, hsel, hl, _, hval, hvs, hrun, _⟩ := setCopSlot_spec s.store.sel y x
  have hslot' := selSlot_setCopSlot s.store.sel y x (by rw [← hx])
  generalize setCopSlot s.store.sel y x = w at hcore hsys hdist hl hval hvs hrun hslot'
  rw [hslot', hdist, hcore, hsys, hl, hval, hvs, hrun, ← hx]
  simp

/-- What the Distaff's service does with each message of COP_LOAD. -/
theorem distaffServes {t : Time} {us : Nat} {e : DistaffEntry} {s : State} (hruns : distaffRuns (advanceTo t s) = true)
    (hq : (advanceTo t s).distaff.queue = [e]) (he : e.cls = 2) : let u := advanceTo t s
    (∀ n dg, e.cmd = .copLoadBegin e.req n dg → loadBarred u = none → (selSlot u).state ≠ .committed → u.store.loading = false →
       64 ≤ n → n ≤ slotBytes → ∃ v, exec (.distaffQueueService t us) s = .next v ∧ v.distaff.queue = [] ∧ Replied e.req (.ack []) v ∧
         v.store.sel = (if (selSlot u).good then !u.store.sel else u.store.sel) ∧ v.store.loading = true ∧
         v.store.owner = some e.req.who ∧ selSlot v = { state := .writing, total := n, digest := dg } ∧
         copSlot v (!v.store.sel) = copSlot u (!v.store.sel) ∧ v.core = u.core ∧ v.sys = u.sys ∧ v.lanes = u.lanes) ∧
     (∀ off l, e.cmd = .copLoadData e.req off l → notLoading e.req.who u = none → 0 < l.length → l.length ≤ 1400 →
       off = (selSlot u).next → off + l.length ≤ slotBytes → u.store.burst = none → u.sys.holdupRun = false →
       (ledger u 4).queue = [] → fits u 4 (flashClaim 0 u.tally.bursts) = true →
       ∃ v, exec (.distaffQueueService t us) s = .next v ∧ v.distaff.queue = [] ∧ Replied e.req (.ack []) v ∧
         (selSlot v).next = off + l.length ∧ (selSlot v).bytes = (selSlot u).bytes ++ l ∧ v.store.sel = u.store.sel ∧
         (selSlot v).state = (selSlot u).state ∧ v.core = u.core ∧ v.sys = u.sys ∧ v.lanes.holder = u.lanes.holder) ∧
     (e.cmd = .copLoadCommit e.req → notLoading e.req.who u = none → (selSlot u).next = (selSlot u).total →
       ∃ v, exec (.distaffQueueService t us) s = .next v ∧ v.distaff.queue = [] ∧ Replied e.req (.ack []) v ∧
         selSlot v = { selSlot u with
           state := .committed, commit := true, badDigest := decide (sha256 (selSlot u).bytes ≠ (selSlot u).digest) } ∧ v.store.loading = false ∧
         v.store.validating = true ∧ v.store.valSlot = u.store.sel ∧ v.store.running = u.store.running ∧ v.core = u.core ∧ v.sys = u.sys) ∧
     (e.cmd = .copLoadRevert e.req → loadBarred u = none → u.store.loading = false → (copSlot u (!u.store.sel)).good = true →
       ∃ v, exec (.distaffQueueService t us) s = .next v ∧ v.distaff.queue = [] ∧ Replied e.req (.ack []) v ∧
         v.store = { u.store with sel := !u.store.sel } ∧ v.core = u.core ∧ v.sys = u.sys) ∧
     (e.cmd = .copLoadAbort e.req → notLoading e.req.who u = none →
       ∃ v, exec (.distaffQueueService t us) s = .next v ∧ v.distaff.queue = [] ∧ Replied e.req (.ack []) v ∧
         v.store = { u.store with loading := false, owner := none, burst := none } ∧ v.core = u.core ∧ v.sys = u.sys) := by
  intro u
  refine ⟨fun n dg hc hbar hslot hload hn hn' => ?begin, fun off l hc hown h0 h1 hoff hfit hb _ hq4 hf => ?data, fun hc hown hall => ?commit,
    fun hc hbar hload hgood => ?revert, fun hc hown => ?abort⟩
  case begin =>
    obtain ⟨w, hw, hdist, hsel, hl, hown, hslot', hother, hcore, hsys, hlanes⟩ :=
      copBegin_spec (who := e.req.who) (dg := dg) (s := dequeued u) hbar hslot hload hn hn'
    obtain ⟨v, hv, hvq, hreply, hstore, hcore', hsys', hlanes'⟩ := service_acks (us := us) hruns hq he
      (by rw [hc, runQueued]; exact congrArg (replyQueued e.req) hw) (by rw [hdist]; rfl)
    refine ⟨v, hv, hvq, hreply, ?_⟩
    rw [selSlot_congr hstore, copSlot_congr hstore, hstore, hcore', hsys', hlanes']
    exact ⟨hsel, hl, hown, hslot', hother, hcore, hsys, hlanes⟩
  case data =>
    subst hoff
    obtain ⟨w, hw, hdist, hnext, hbytes, hsel, hstate, hcore, hsys, hlanes⟩ :=
      copData_spec (who := e.req.who) (s := dequeued u) hown h0 h1 hfit hb hq4 hf
    have hrun : runQueued e.cmd (dequeued u) = replyQueued e.req (.ack [], w) := by
      rw [hc, runQueued]
      change (match copData e.req.who (selSlot (dequeued u)).next l (dequeued u) with
        | (some rep, s) => replyQueued e.req (rep, s)
        | (none, s) => (false, s)) = _
      rw [hw]
    obtain ⟨v, hv, hvq, hreply, hstore, hcore', hsys', hlanes'⟩ := service_acks (us := us) hruns hq he hrun (by rw [hdist]; rfl)
    refine ⟨v, hv, hvq, hreply, ?_⟩
    rw [selSlot_congr hstore, hstore, hcore', hsys', hlanes', hlanes]
    exact ⟨hnext, hbytes, hsel, hstate, hcore, hsys, rfl⟩
  case commit =>
    obtain ⟨w, hw, hdist, hslot, hl, hval, hvs, hrun, hcore, hsys⟩ :=
      copCommit_spec (who := e.req.who) (s := dequeued u) hown hall
    obtain ⟨v, hv, hvq, hreply, hstore, hcore', hsys', _⟩ := service_acks (us := us) hruns hq he
      (by rw [hc, runQueued]; exact congrArg (replyQueued e.req) hw) (by rw [hdist]; rfl)
    refine ⟨v, hv, hvq, hreply, ?_⟩
    rw [selSlot_congr hstore, hstore, hcore', hsys']
    exact ⟨hslot, hl, hval, hvs, hrun, hcore, hsys⟩
  case revert =>
    obtain ⟨v, hv, hvq, hreply, hstore, hcore, hsys, _⟩ := service_acks (us := us) hruns hq he
      (by rw [hc, runQueued]; exact congrArg (replyQueued e.req) (copRevert_eq (s := dequeued u) hbar hload hgood)) rfl
    exact ⟨v, hv, hvq, hreply, hstore, hcore, hsys⟩
  case abort =>
    obtain ⟨v, hv, hvq, hreply, hstore, hcore, hsys, _⟩ := service_acks (us := us) hruns hq he
      (by rw [hc, runQueued]; exact congrArg (replyQueued e.req) (copAbort_eq (s := dequeued u) hown)) (by simp [dequeued])
    refine ⟨v, hv, hvq, hreply, hstore, ?_, ?_⟩
    · rw [hcore]; simp [dequeued, u]
    · rw [hsys]; simp [dequeued, u]

/-- Settles O21: how a request enters the queue, which entry is served, and what its service, its wait and a silent Distaff leave. -/
theorem distaffQueuesAndServes : Obligations.DistaffQueuesAndServes := by
  refine ⟨fun r s hroom => ⟨fun c h hc => ⟨_, copLoad_runs h hc, queueRequest_waits (by decide) hroom⟩,
    fun id mode h => ⟨_, activate_runs h, queueRequest_waits (by decide) hroom⟩⟩,
    fun d e q hq he hno => nextEntry_hank hq he hno, fun t us e s hruns hq he => distaffServes hruns hq he,
    fun t s hlate hnew => ⟨_, distaffEntryWaitWarning_runs hlate hnew, rfl, rfl, ?_⟩,
    fun t s hp hlane => ⟨_, distaffWatchdogMiss_runs hp hlane, restart_distaff_spec _⟩⟩
  generalize advanceTo t s = u
  rfl

end Sys2Proof.Machine
end

section
/-! PROOFS. What an admission keeps, and the protection of a load switch (R253, R261, R268 to R273). -/
namespace Sys2Proof.Machine
open Sys2Proof.Safety

/-! ### What an admission keeps (R253, R261) -/

theorem fits_lko {s : State} {k : Nat} {c : Claim} (h : fits s k c = true) : s.clock.lkoFail = false := by
  cases hl : s.clock.lkoFail with
  | false => rfl
  | true => simp [fits, hl] at h

theorem fits_vbat {s : State} {c : Claim} (h : fits s 4 c = true) : instSum (withClaim s 4 c) ≤ 5000 := by
  have hup : (s.sys.holdupRun || s.clock.lkoFail) = false := by rw [fits_notHoldup h, fits_lko h]; rfl
  simpa [fits, hup] using h

theorem fits_vload {s : State} {k : Nat} {c : Claim} (hk : k < 4) (h : fits s k c = true) :
    instSum (withClaim s k c) ≤ peakLimit s k ∧ contSum (peakTimeNs s k) (withClaim s k c) ≤ contLimit s k ∧
      contSum (peakTimeNs s k) (withClaim s k c) + contOthers s k ≤ s.tally.inTotal.toNat * 100 := by
  have hup : (s.sys.holdupRun || s.clock.lkoFail) = false := by rw [fits_notHoldup h, fits_lko h]; rfl
  rw [fits, hup] at h
  simp only [Bool.false_eq_true, if_false, if_neg (show k ≠ 4 by omega), Bool.and_eq_true, decide_eq_true_eq] at h
  obtain ⟨⟨⟨⟨hcont, hpeak⟩, htotal⟩, _⟩, _⟩ := h
  exact ⟨hpeak, hcont, htotal⟩

/-! ### The protection of a load switch (R268 to R273) -/

theorem lswLimitEngage_runs {t : Time} {n : Fin 48} {i : BitVec 16} {s : State} (hon : (lsw (advanceTo t s) n.val).on = true)
    (hi : lswLimit n.val ≤ 10 * i.toNat) : exec (.lswLimitEngage t n i) s = .next (setLsw n.val { lsw (advanceTo t s) n.val with
      limit := some (advanceTo t s).sun.time, current := BitVec.ofNat 16 (min i.toNat (lswLimitMax n.val / 10)) } (advanceTo t s)) := by
  have hcond : ((lsw (advanceTo t s) n.val).on && decide (lswLimit n.val ≤ 10 * i.toNat)) = true := by
    rw [hon, decide_eq_true hi]; rfl
  rw [exec_lswLimitEngage, execLswLimitEngage]
  simp only [hcond, if_true]

theorem lswTrip_runs {t l : Time} {n : Fin 48} {s : State} (hl : (lsw (advanceTo t s) n.val).limit = some l)
    (hdue : l.toNat + 150000 ≤ (advanceTo t s).sun.time.toNat) :
    exec (.lswTrip t n) s = .next (lswTripNow n.val (advanceTo t s)) := by
  have hpassed : passed (advanceTo t s) l 150000 = true := decide_eq_true hdue
  rw [exec_lswTrip, execLswTrip]
  simp only [hl, hpassed, if_true]

/-- A load switch that has just tripped, its back-off or exhaustion aside. -/
def tripped (n : Nat) (s : State) : State :=
  raise .warning 0x05 0x0014 [BitVec.ofNat 32 n] (bump 0x00050014 n (setLsw n { (lsw s n).switchedOff with trip := true } (lswOff n s)))

theorem tripped_lsw (n : Nat) (s : State) : lsw (tripped n s) n = { (lsw s n).switchedOff with trip := true } := by
  simp [tripped]

theorem tripped_spec (n : Nat) (s : State) : let v := tripped n s
    counter v 0x00050014 n = (counter s 0x00050014 n).inc.1 ∧ holds v (n / 12) (.chan (.lsw n)) = false ∧
      (∀ m, m ≠ n → lsw v m = lsw s m) ∧ v.core = s.core ∧ v.sys = s.sys ∧ retryMax v n = retryMax s n := by
  have hout : (setLsw n { (lsw s n).switchedOff with trip := true } (lswOff n s)).counters = s.counters := by
    simp [setLsw, lswOff]
  have hledger : ledger (tripped n s) (n / 12) = ledger (lswOff n s) (n / 12) := by simp [tripped]
  refine ⟨?_, ?_, fun m hm => ?_, ?_, ?_, ?_⟩
  · have hraise : counter (tripped n s) 0x00050014 n =
        counter (bump 0x00050014 n (setLsw n { (lsw s n).switchedOff with trip := true } (lswOff n s))) 0x00050014 n := by
      simp [tripped, counter]
    rw [hraise, counter_bump, counter, hout, ← counter]
  · rw [holds, hledger, ← holds, holds_lswOff]
  · simp [tripped, lsw_setLsw_ne _ _ _ _ hm, lsw_lswOff_ne s hm]
  · simp [tripped, lswOff]
  · simp [tripped, lswOff]
  · simp [tripped, retryMax, lswOff, setLsw]

theorem lswTripNow_eq (n : Nat) (s : State) : lswTripNow n s =
    if retryMax s n ≤ retryCount s (lsw s n) then lswExhaust n (tripped n s)
    else setLsw n { (lsw s n).switchedOff with
      trip := true, backoff := some (s.sys.onTime + BitVec.ofNat 64 (100000 * 2 ^ retryCount s (lsw s n))) } (tripped n s) := by
  obtain ⟨_, _, _, _, hsys, hmax⟩ := tripped_spec n s
  have hcount : retryCount (lswOff n s) ((lsw s n).switchedOff) = retryCount s (lsw s n) := by
    simp [retryCount, Lsw.switchedOff, lswOff]
  have htrip : raise .warning 0x05 0x0014 [BitVec.ofNat 32 n]
      (bump 0x00050014 n (setLsw n { (lsw s n).switchedOff with trip := true } (lswOff n s))) = tripped n s := rfl
  simp only [lswTripNow, lsw_lswOff, htrip, hcount, hmax, hsys, tripped_lsw]

theorem lswTripNow_spec (n : Nat) (u : State) : let v := lswTripNow n u
    let c := retryCount u (lsw u n)
    (lsw v n).on = false ∧ (lsw v n).trip = true ∧ (lsw v n).limit = none ∧
      counter v 0x00050014 n = (counter u 0x00050014 n).inc.1 ∧ holds v (n / 12) (.chan (.lsw n)) = false ∧
      (c < retryMax u n → (lsw v n).exh = (lsw u n).exh ∧
        (lsw v n).backoff = some (u.sys.onTime + BitVec.ofNat 64 (100000 * 2 ^ c))) ∧
      (retryMax u n ≤ c → (lsw v n).exh = true ∧ (lsw v n).backoff = none) ∧
      (∀ m, m ≠ n → lsw v m = lsw u m) ∧ v.core = u.core ∧ v.sys = u.sys := by
  obtain ⟨hcount, hholds, hother, hcore, hsys, _⟩ := tripped_spec n u
  have hlsw := tripped_lsw n u
  intro v c
  have hv : v = _ := lswTripNow_eq n u
  rw [hv]
  generalize tripped n u = w at hcount hholds hother hcore hsys hlsw
  split
  next hfull =>
    refine ⟨by simp [lswExhaust, hlsw, Lsw.switchedOff], by simp [lswExhaust, hlsw], by simp [lswExhaust, hlsw, Lsw.switchedOff],
      by simpa [lswExhaust, counter] using hcount, by simpa [lswExhaust, holds] using hholds, fun h => absurd hfull (Nat.not_le.mpr h),
      fun _ => by simp [lswExhaust], fun m hm => by simp [lswExhaust, lsw_setLsw_ne _ _ _ _ hm, hother m hm],
      by simp [lswExhaust, hcore], by simp [lswExhaust, hsys]⟩
  next hroom =>
    refine ⟨by simp [Lsw.switchedOff], by simp, by simp [Lsw.switchedOff], by simpa [counter] using hcount,
      by simpa [holds] using hholds, fun _ => by simp [Lsw.switchedOff, c], fun h => absurd h hroom,
      fun m hm => by simp [lsw_setLsw_ne _ _ _ _ hm, hother m hm], by simp [hcore], by simp [hsys]⟩

/-! ### The thermal latch and the end of a back-off (R269 to R271) -/

/-- A load switch that its die has switched off, with the latch set. -/
def thermalOff (n : Nat) (s : State) : State :=
  raise .warning 0x05 0x0004 [BitVec.ofNat 32 n] (setLsw n { (lsw s n).switchedOff with therm := true, tj := 2720 } (lswOff n s))

theorem lswThermalLatch_runs {t : Time} {n : Fin 48} {s : State} (h : (lsw (advanceTo t s) n.val).therm = false) :
    exec (.lswThermalLatch t n) s = .next (thermalOff n.val (advanceTo t s)) := by
  rw [exec_lswThermalLatch, execLswThermalLatch]
  simp only [h, Bool.false_eq_true, if_false, lsw_lswOff]
  rfl

theorem thermalOff_spec (n : Nat) (u : State) : let v := thermalOff n u
    (lsw v n).on = false ∧ (lsw v n).therm = true ∧ (lsw v n).retries = (lsw u n).retries ∧ (lsw v n).trip = (lsw u n).trip ∧
      holds v (n / 12) (.chan (.lsw n)) = false ∧ (∀ m, m ≠ n → lsw v m = lsw u m) ∧ v.core = u.core ∧ v.sys = u.sys := by
  intro v
  have hlsw : lsw v n = { (lsw u n).switchedOff with therm := true, tj := 2720 } := by simp [v, thermalOff]
  have hledger : ledger v (n / 12) = ledger (lswOff n u) (n / 12) := by simp [v, thermalOff]
  rw [hlsw, holds, hledger, ← holds, holds_lswOff]
  refine ⟨rfl, rfl, rfl, rfl, rfl, fun m hm => by simp [v, thermalOff, lsw_setLsw_ne _ _ _ _ hm, lsw_lswOff_ne u hm], ?_, ?_⟩
  · simp [v, thermalOff, lswOff]
  · simp [v, thermalOff, lswOff]

theorem lswThermalRelease_runs {t : Time} {n : Fin 48} {s : State} (h : (lsw (advanceTo t s) n.val).therm = true) :
    exec (.lswThermalRelease t n) s = .next (lswWaitOver n.val true
      (setLsw n.val { lsw (advanceTo t s) n.val with therm := false, tj := 2240 } (advanceTo t s))) := by
  rw [exec_lswThermalRelease, execLswThermalRelease, if_pos h]

theorem lswBackoffEnd_runs {t : Time} {n : Fin 48} {b : Time} {s : State} (h : (lsw (advanceTo t s) n.val).backoff = some b)
    (hb : b.toNat ≤ (advanceTo t s).sys.onTime.toNat) :
    exec (.lswBackoffEnd t n) s = .next (lswWaitOver n.val false
      (setLsw n.val { lsw (advanceTo t s) n.val with backoff := none, trip := false } (advanceTo t s))) := by
  rw [exec_lswBackoffEnd, execLswBackoffEnd]
  simp only [h, if_pos hb]

/-- A wait that is over without a command leaves the switch as it is. -/
theorem lswWaitOver_uncommanded {n : Nat} {always : Bool} {s : State} (hexh : (lsw s n).exh = false) (hcmd : (lsw s n).cmd = false)
    (hroom : always = true → retryCount s (lsw s n) < retryMax s n) : lswWaitOver n always s = s := by
  have hretry : ((always || false) && decide (retryMax s n ≤ retryCount s (lsw s n))) = false := by
    cases always with
    | false => rfl
    | true => rw [decide_eq_false (Nat.not_le.mpr (hroom rfl)), Bool.and_false]
  simp only [lswWaitOver, hexh, hcmd, hretry, Bool.false_eq_true, if_false, ite_self]

theorem lswWaitOver_restarts {n : Nat} {s : State} (hexh : (lsw s n).exh = false) (hcmd : (lsw s n).cmd = true)
    (hwait : lswWaiting (lsw s n) = false) (hroom : retryCount s (lsw s n) < retryMax s n) :
    lswWaitOver n false s = lswRestart n s := by
  have hretry : ((false || true) && decide (retryMax s n ≤ retryCount s (lsw s n))) = false := by
    rw [decide_eq_false (Nat.not_le.mpr hroom), Bool.and_false]
  simp only [lswWaitOver, hexh, hcmd, hretry, hwait, Bool.false_eq_true, if_false, if_true]

/-- A restart whose claim is admitted consumes a retry. -/
theorem lswRestart_spec {n : Nat} {s : State} {d : OutDecl} (hd : chanDecl s (.lsw n) = some d) (hw : lswWaiting (lsw s n) = false)
    (hon : (lsw s n).on = false) (hb : bankDown s (n / 12) = false) (hq : (ledger s (n / 12)).queue = [])
    (hf : fits s (n / 12) (lswClaim d) = true) : let v := lswRestart n s
    (lsw v n).on = true ∧ (lsw v n).backoff = (lsw s n).backoff ∧ (lsw v n).retries.head? = some s.sys.onTime ∧
      holds v (n / 12) (.chan (.lsw n)) = true ∧ ∀ m, m ≠ n → lsw v m = lsw s m := by
  generalize hx : setLsw n { lsw s n with restartDue := true } s = x
  have hlsw : lsw x n = { lsw s n with restartDue := true } := by rw [← hx, lsw_setLsw]
  have hsys : x.sys = s.sys := by rw [← hx]; simp
  have hother (m : Nat) (hm : m ≠ n) : lsw x m = lsw s m := by rw [← hx, lsw_setLsw_ne _ _ _ _ hm]
  have hadmit : lswClaimOn n x = lswAdmitted n (enter (n / 12) (lswClaim d) x) := by
    refine lswClaimOn_admits ?_ ?_ ?_ ?_ ?_ ?_
    · rw [← hx]; exact hd
    · rw [hlsw]; exact hw
    · rw [hlsw]; exact hon
    · rw [← hx]; exact hb
    · rw [← hx]; exact hq
    · rw [← hx]; exact hf
  have howner : (lswClaim d).owner = .chan (.lsw n) := congrArg Owner.chan (chanDecl_chan hd)
  intro v
  have hv : v = lswAdmitted n (enter (n / 12) (lswClaim d) x) := by rw [← hadmit, ← hx]; rfl
  have hvlsw : lsw v n = ({ lsw s n with restartDue := true } : Lsw).switchedOn s.sys.onTime := by
    rw [hv, lsw_lswAdmitted, lsw_enter, hlsw]
    simp [hsys]
  rw [hvlsw]
  refine ⟨rfl, rfl, rfl, ?_, fun m hm => ?_⟩
  · have hheld := holds_enter (n / 12) (lswClaim d) x
    rw [howner] at hheld
    rw [hv]
    simpa [lswAdmitted, holds] using hheld
  · rw [hv, lsw_lswAdmitted_ne _ hm, lsw_enter, hother m hm]

/-- Settles O37: what `fits` admits, and each event of a load switch's protection as it changes that switch alone. -/
theorem loadsAreProtected : Obligations.LoadsAreProtected := by
  refine ⟨fun s k c h => ⟨fits_notHoldup h, fits_lko h, fun hk => ?vbat, fun hk => fits_vload hk h⟩,
    fun t n i s hon hi => ⟨_, lswLimitEngage_runs hon hi, lsw_setLsw _ _ _, fun m hm => lsw_setLsw_ne _ _ _ _ hm, rfl⟩,
    fun t l n s hl hdue => ⟨_, lswTrip_runs hl hdue, lswTripNow_spec _ _⟩,
    fun t n s => ⟨fun h => ⟨_, lswThermalLatch_runs h, thermalOff_spec _ _⟩, fun ht he hb hc hroom => ⟨_, lswThermalRelease_runs ht, ?release⟩,
      fun b hb hdue he ht hc => ⟨_, lswBackoffEnd_runs hb hdue, ?ended⟩,
      fun b d hb hdue he ht hc hon hroom hd hbank hq hf => ⟨_, lswBackoffEnd_runs hb hdue, ?restart⟩⟩⟩
  case vbat =>
    subst hk
    exact fits_vbat h
  case release =>
    generalize advanceTo t s = u at *
    rw [lswWaitOver_uncommanded (by rw [lsw_setLsw]; exact he) (by rw [lsw_setLsw]; exact hc)
      (fun _ => by rw [lsw_setLsw]; exact hroom)]
    exact ⟨lsw_setLsw _ _ _, fun m hm => lsw_setLsw_ne _ _ _ _ hm, rfl⟩
  case ended =>
    generalize advanceTo t s = u at *
    rw [lswWaitOver_uncommanded (by rw [lsw_setLsw]; exact he) (by rw [lsw_setLsw]; exact hc) (by simp)]
    exact ⟨lsw_setLsw _ _ _, fun m hm => lsw_setLsw_ne _ _ _ _ hm, rfl⟩
  case restart =>
    generalize advanceTo t s = u at *
    generalize hx : setLsw n.val { lsw u n.val with backoff := none, trip := false } u = x
    have hlsw : lsw x n.val = { lsw u n.val with backoff := none, trip := false } := by rw [← hx, lsw_setLsw]
    have hwait : lswWaiting (lsw x n.val) = false := by rw [hlsw]; simp [lswWaiting, ht, he]
    rw [lswWaitOver_restarts (by rw [hlsw]; exact he) (by rw [hlsw]; exact hc) hwait (by rw [hlsw, ← hx]; exact hroom)]
    obtain ⟨h1, h2, h3, h4, h5⟩ := lswRestart_spec (n := n.val) (s := x) (d := d) (by rw [← hx]; exact hd) hwait
      (by rw [hlsw]; exact hon) (by rw [← hx]; exact hbank) (by rw [← hx]; exact hq) (by rw [← hx]; exact hf)
    refine ⟨h1, by rw [h2, hlsw], by rw [h3, ← hx]; rfl, h4, fun m hm => ?_⟩
    rw [h5 m hm, ← hx, lsw_setLsw_ne _ _ _ _ hm]

end Sys2Proof.Machine
end

section
/-! PROOFS. PWM periods, banks, the power ground and DIR inputs (R274 to R278, R283, R293, R296, R412, R416). -/
namespace Sys2Proof.Machine
open Sys2Proof.Safety

/-! ### What solenoid channels leave of the outputs -/

/-- What no solenoid channel changes: the outputs but those channels and their groups, and the under-voltage counter. -/
def loadSide (s : State) : Outs × Counter := ({ s.outs with sol := [], groupQ := [], busy := 0 }, counter s 0x0005002C 0)

/-- What no load switch changes of the outputs. -/
def Outs.drives (x : Outs) : Outs := { x with lsw := [] }

theorem outs_of_loadSide {s t : State} (h : loadSide s = loadSide t) :
    s.outs.lsw = t.outs.lsw ∧ s.outs.uv = t.outs.uv ∧ s.outs.vload = t.outs.vload ∧ s.outs.dir = t.outs.dir := by
  simp only [loadSide, Prod.mk.injEq, Outs.mk.injEq] at h
  simp only [h, and_self]

theorem counter_of_loadSide {s t : State} (h : loadSide s = loadSide t) : counter s 0x0005002C 0 = counter t 0x0005002C 0 :=
  congrArg Prod.snd h

theorem Outs.fields_of_drives {x y : Outs} (h : x.drives = y.drives) :
    x.uv = y.uv ∧ x.vload = y.vload ∧ x.dir = y.dir ∧ x.sol = y.sol ∧ x.limp = y.limp ∧ x.limpEn = y.limpEn := by
  simp only [Outs.drives, Outs.mk.injEq] at h
  simp only [h, and_self]

theorem loadSide_congr {s t : State} (ho : t.outs = s.outs) (hc : t.counters = s.counters) : loadSide t = loadSide s := by
  simp only [loadSide, counter, ho, hc]

@[simp] theorem loadSide_raise (v : Severity) (b : BitVec 8) (c : BitVec 16) (l : List Word) (s : State) :
    loadSide (raise v b c l s) = loadSide s := loadSide_congr (by simp) (by simp)

theorem loadSide_bump {a i : Nat} (s : State) (h : a % 0x200000 ≠ 0x0005002C) : loadSide (bump a i s) = loadSide s := by
  have hkey : ckey 0x0005002C 0 ≠ ckey a i := by
    simp only [ckey]
    omega
  simp only [loadSide, counter_bump_ne _ _ _ _ _ hkey, frame_bump]

@[simp] theorem loadSide_setSol (n : Nat) (x : Sol) (s : State) : loadSide (setSol n x s) = loadSide s := rfl
@[simp] theorem loadSide_setLedger (k : Nat) (x : Ledger) (s : State) : loadSide (setLedger k x s) = loadSide s := rfl
@[simp] theorem loadSide_enter (k : Nat) (c : Claim) (s : State) : loadSide (enter k c s) = loadSide s :=
  loadSide_congr (by simp) (by simp)
@[simp] theorem loadSide_giveBack (k : Nat) (o : Owner) (s : State) : loadSide (giveBack k o s) = loadSide s :=
  loadSide_congr (by simp) (by simp)
@[simp] theorem loadSide_unqueue (k : Nat) (o : Owner) (s : State) : loadSide (unqueue k o s) = loadSide s :=
  loadSide_congr (by simp) (by simp)
@[simp] theorem loadSide_replaceQueued (k : Nat) (c : Claim) (s : State) : loadSide (replaceQueued k c s) = loadSide s := rfl
@[simp] theorem loadSide_enqueue (k : Nat) (c : Claim) (s : State) : loadSide (enqueue k c s) = loadSide s :=
  loadSide_bump _ (by decide)
@[simp] theorem loadSide_recordRefusal (k : Nat) (o : Owner) (s : State) : loadSide (recordRefusal k o s) = loadSide s := by
  rw [recordRefusal, loadSide_raise, loadSide_bump _ (by decide)]

theorem loadSide_onAdmitted_sol (n : Nat) (s : State) : loadSide (onAdmitted (.chan (.sol n)) s) = loadSide s := by
  simp only [onAdmitted, peakAdmitted, curAdmitted]
  (repeat' split) <;> rfl

theorem loadSide_submit_sol (k : Nat) (c : Claim) (n : Nat) (s : State) (h : c.owner = .chan (.sol n)) :
    loadSide (submit k c s) = loadSide s := by
  have hadm := loadSide_onAdmitted_sol n
  have href (t : State) : loadSide (onRefused (.chan (.sol n)) t) = loadSide t := rfl
  unfold submit
  (repeat' split) <;> simp [h, hadm, href]

theorem solPeakClaim_owner {s : State} {n : Nat} {d : OutDecl} (h : chanDecl s (.sol n) = some d) :
    (solPeakClaim d).owner = .chan (.sol n) := congrArg Owner.chan (chanDecl_chan h)

theorem solHoldClaim_owner {s : State} {n : Nat} {d : OutDecl} (h : chanDecl s (.sol n) = some d) :
    (solHoldClaim d).owner = .chan (.sol n) := congrArg Owner.chan (chanDecl_chan h)

@[simp] theorem loadSide_submitPeak (n : Nat) (s : State) : loadSide (submitPeak n s) = loadSide s := by
  unfold submitPeak
  split
  next d hd => exact loadSide_submit_sol _ _ n _ (solPeakClaim_owner hd)
  · rfl

@[simp] theorem loadSide_pumpGroup (g fuel : Nat) (s : State) : loadSide (pumpGroup g fuel s) = loadSide s := by
  induction fuel generalizing s with
  | zero => rfl
  | succ fuel ih =>
    unfold pumpGroup
    (repeat' split)
    · rfl
    · rw [ih, loadSide_submitPeak]; rfl
    · rfl
    · rfl

@[simp] theorem loadSide_endBusy (n : Nat) (s : State) : loadSide (endBusy n s) = loadSide s := by
  unfold endBusy
  split <;> rfl

@[simp] theorem loadSide_solOff (n : Nat) (s : State) : loadSide (solOff n s) = loadSide s := by
  unfold solOff
  rw [loadSide_pumpGroup, loadSide_unqueue, loadSide_giveBack]
  exact loadSide_endBusy n s

/-- The refusal of a peak that waited as its bank goes off, counted and written (R258, R292). -/
def bankRefusal (n : Nat) (s : State) : State :=
  let x := sol s n
  let waiting := decide (x.phase = .groupQ) || (decide (x.phase = .tallyQ) && x.peakWait)
  let s := if waiting && decide (x.phase = .tallyQ) then recordRefusal (n / 8) (.chan (.sol n)) s else s
  if waiting then
    raise .error 0x06 0x001C [chanWord (.sol n), BitVec.ofNat 32 (n / 4),
      BitVec.ofNat 32 (s.sun.time.toNat - x.arrived.toNat)] (bump 0x0006001C n s)
  else s

/-- A channel that is not off is refused what it waits for and switched off; beyond that its bank notes what it did. -/
theorem solBankOff_eq {n : Nat} {s : State} (h : (sol s n).phase ≠ .off) : ∃ x,
    solBankOff n s = setSol n x (solOff n (bankRefusal n s)) ∧ x.phase = (sol (solOff n (bankRefusal n s)) n).phase := by
  unfold solBankOff
  simp only [if_neg h]
  split <;> exact ⟨_, rfl, rfl⟩

theorem solBankOff_off {n : Nat} {s : State} (h : (sol s n).phase = .off) : solBankOff n s = s := by
  unfold solBankOff
  exact if_pos h

@[simp] theorem loadSide_bankRefusal (n : Nat) (s : State) : loadSide (bankRefusal n s) = loadSide s := by
  have hbump (t : State) : loadSide (bump 0x0006001C n t) = loadSide t := loadSide_bump t (by decide)
  unfold bankRefusal
  dsimp only
  (repeat' split) <;> simp only [loadSide_raise, hbump, loadSide_recordRefusal]

@[simp] theorem loadSide_solBankOff (n : Nat) (s : State) : loadSide (solBankOff n s) = loadSide s := by
  by_cases h : (sol s n).phase = .off
  · rw [solBankOff_off h]
  · obtain ⟨x, hx, _⟩ := solBankOff_eq h
    rw [hx, loadSide_setSol, loadSide_solOff, loadSide_bankRefusal]

@[simp] theorem loadSide_solClaimHold (n : Nat) (s : State) : loadSide (solClaimHold n s) = loadSide s := by
  unfold solClaimHold
  split
  next d hd => exact loadSide_submit_sol _ _ n _ (solHoldClaim_owner hd)
  · rfl

/-! ### What load switches leave of the outputs -/

@[simp] theorem drives_setLsw (n : Nat) (x : Lsw) (s : State) : (setLsw n x s).outs.drives = s.outs.drives := rfl

@[simp] theorem drives_lswOff (n : Nat) (s : State) : (lswOff n s).outs.drives = s.outs.drives := by
  simp [lswOff, Outs.drives]

/-- What a load switch's claim, admitted, queued or refused, leaves of the switches: each other one, and its own command. -/
def SwitchKept (n : Nat) (s v : State) : Prop :=
  v.outs.drives = s.outs.drives ∧ (∀ m, m ≠ n → lsw v m = lsw s m) ∧ (lsw v n).cmd = (lsw s n).cmd ∧
    (lsw v n).src = (lsw s n).src ∧ (lsw v n).dirMap = (lsw s n).dirMap

theorem SwitchKept.of_outs {n : Nat} {s v : State} (h : v.outs = s.outs) : SwitchKept n s v := by
  simp [SwitchKept, h, lsw]

theorem SwitchKept.trans {n : Nat} {s v w : State} (h : SwitchKept n s v) (h' : SwitchKept n v w) : SwitchKept n s w := by
  obtain ⟨hdrives, hother, hcmd, hsrc, hmap⟩ := h
  obtain ⟨hdrives', hother', hcmd', hsrc', hmap'⟩ := h'
  exact ⟨hdrives'.trans hdrives, fun m hm => (hother' m hm).trans (hother m hm), hcmd'.trans hcmd, hsrc'.trans hsrc, hmap'.trans hmap⟩

theorem SwitchKept.setLsw {n : Nat} {x : Lsw} {s : State} (hc : x.cmd = (lsw s n).cmd) (hs : x.src = (lsw s n).src)
    (hm : x.dirMap = (lsw s n).dirMap) : SwitchKept n s (setLsw n x s) := by
  refine ⟨rfl, fun m hm => lsw_setLsw_ne _ _ _ _ hm, ?_, ?_, ?_⟩ <;> simp [hc, hs, hm]

theorem submit_lsw_kept (k : Nat) (c : Claim) (n : Nat) (s : State) (h : c.owner = .chan (.lsw n)) : SwitchKept n s (submit k c s) := by
  have href (t : State) : SwitchKept n t (onRefused (.chan (.lsw n)) t) := .setLsw rfl rfl rfl
  have hadm (t : State) : SwitchKept n t (onAdmitted (.chan (.lsw n)) t) := .setLsw rfl rfl rfl
  unfold submit
  rw [h]
  (repeat' split)
  · exact href s
  · exact .of_outs (by simp)
  · exact .trans (.of_outs (by simp)) (hadm _)
  · exact .trans (.of_outs (by simp)) (href _)
  · exact .of_outs (by simp)

theorem lswClaim_owner {s : State} {n : Nat} {d : OutDecl} (h : chanDecl s (.lsw n) = some d) :
    (lswClaim d).owner = .chan (.lsw n) := congrArg Owner.chan (chanDecl_chan h)

theorem lswClaimOn_kept (n : Nat) (s : State) : SwitchKept n s (lswClaimOn n s) := by
  unfold lswClaimOn
  dsimp only
  split
  · exact .of_outs rfl
  next d hd =>
    split
    · exact .of_outs rfl
    · exact submit_lsw_kept _ _ n _ (lswClaim_owner hd)

/-! ### Banks (R274, R275, R296, R412) -/

/-- A load switch as its bank goes off. -/
def loadOff (trips : Bool) (n : Nat) (s : State) : State := if trips && inLimit s (lsw s n) then lswTripNow n s else lswOff n s

theorem loadOff_off (trips : Bool) (n : Nat) (s : State) : (lsw (loadOff trips n s) n).on = false := by
  unfold loadOff
  split
  · exact (lswTripNow_spec n s).1
  · rw [lsw_lswOff]; rfl

theorem loadOff_ne (trips : Bool) {n m : Nat} (s : State) (h : m ≠ n) : lsw (loadOff trips n s) m = lsw s m := by
  unfold loadOff
  split
  · obtain ⟨_, _, _, _, _, _, _, hother, _⟩ := lswTripNow_spec n s
    exact hother m h
  · exact lsw_lswOff_ne s h

/-- What the going off of load switches leaves: the rest of the outputs, and the under-voltage counter. -/
def driveSide (s : State) : Outs × Counter := (s.outs.drives, counter s 0x0005002C 0)

theorem driveSide_congr {s t : State} (ho : t.outs = s.outs) (hc : t.counters = s.counters) : driveSide t = driveSide s := by
  simp only [driveSide, counter, ho, hc]

theorem driveSide_lswOff (n : Nat) (s : State) : driveSide (lswOff n s) = driveSide s := by
  have hcount : (lswOff n s).counters = s.counters := by rw [lswOff_eq]
  simp only [driveSide, drives_lswOff, counter, hcount]

theorem driveSide_tripped (n : Nat) (s : State) : driveSide (tripped n s) = driveSide s := by
  have hkey : ckey 0x0005002C 0 ≠ ckey 0x00050014 n := by
    simp only [ckey]
    omega
  have hraise (v : Severity) (b : BitVec 8) (c : BitVec 16) (l : List Word) (t : State) : driveSide (raise v b c l t) = driveSide t :=
    driveSide_congr (by simp) (by simp)
  have hset (x : Lsw) (t : State) : driveSide (setLsw n x t) = driveSide t := rfl
  have hbump (t : State) : driveSide (bump 0x00050014 n t) = driveSide t := by
    simp only [driveSide, counter_bump_ne _ _ _ _ _ hkey, frame_bump]
  rw [tripped, hraise, hbump, hset, driveSide_lswOff]

theorem driveSide_lswTripNow (n : Nat) (s : State) : driveSide (lswTripNow n s) = driveSide s := by
  have hexhaust (t : State) : driveSide (lswExhaust n t) = driveSide t := driveSide_congr (s := setLsw n _ t) (by simp [lswExhaust]; rfl) (by simp [lswExhaust])
  rw [lswTripNow_eq]
  split
  · rw [hexhaust, driveSide_tripped]
  · exact driveSide_tripped n s

theorem driveSide_loadOff (trips : Bool) (n : Nat) (s : State) : driveSide (loadOff trips n s) = driveSide s := by
  unfold loadOff
  split
  · exact driveSide_lswTripNow n s
  · exact driveSide_lswOff n s

/-- The load switches of a bank, from its first to before its `k`-th, go off. -/
theorem loadsOff_spec (b : Nat) (trips : Bool) (k : Nat) (s : State) :
    let v := (List.range k).foldl (fun s i => loadOff trips (12 * b + i) s) s
    (∀ i, i < k → (lsw v (12 * b + i)).on = false) ∧ (∀ m, (m < 12 * b ∨ 12 * b + k ≤ m) → lsw v m = lsw s m) := by
  induction k with
  | zero => exact ⟨fun i hi => absurd hi (Nat.not_lt_zero i), fun m _ => rfl⟩
  | succ k ih =>
    obtain ⟨hoff, hother⟩ := ih
    simp only [List.range_succ, List.foldl_append, List.foldl_cons, List.foldl_nil]
    generalize (List.range k).foldl (fun s i => loadOff trips (12 * b + i) s) s = w at hoff hother
    refine ⟨fun i hi => ?_, fun m hm => ?_⟩
    · by_cases h : i = k
      · rw [h, loadOff_off]
      · rw [loadOff_ne _ _ (by omega)]
        exact hoff i (by omega)
    · rw [loadOff_ne _ _ (by omega)]
      exact hother m (by omega)

theorem bankOff_spec (b : Nat) (trips : Bool) (s : State) : let v := bankOff b trips s
    (∀ i, i < 12 → (lsw v (12 * b + i)).on = false) ∧ (∀ m, (m < 12 * b ∨ 12 * b + 12 ≤ m) → lsw v m = lsw s m) ∧
      v.outs.uv = s.outs.uv ∧ counter v 0x0005002C 0 = counter s 0x0005002C 0 := by
  obtain ⟨hoff, hother⟩ := loadsOff_spec b trips 12 s
  have hkept : driveSide ((List.range 12).foldl (fun s i => loadOff trips (12 * b + i) s) s) = driveSide s :=
    foldl_keeps driveSide (fun s i => driveSide_loadOff trips _ s) _ s
  have hbank : bankOff b trips s = (List.range 8).foldl (fun s i => solBankOff (8 * b + i) s)
      ((List.range 12).foldl (fun s i => loadOff trips (12 * b + i) s) s) := rfl
  intro v
  generalize (List.range 12).foldl (fun s i => loadOff trips (12 * b + i) s) s = w at hoff hother hkept hbank
  have hsol : loadSide v = loadSide w := (congrArg loadSide hbank).trans (foldl_keeps loadSide (fun s i => loadSide_solBankOff _ s) _ w)
  obtain ⟨hlsw, huv, _, _⟩ := outs_of_loadSide hsol
  have hsame (m : Nat) : lsw v m = lsw w m := by rw [lsw, lsw, hlsw]
  refine ⟨fun i hi => by rw [hsame, hoff i hi], fun m hm => by rw [hsame, hother m hm], ?_, ?_⟩
  · exact huv.trans (Outs.fields_of_drives (congrArg Prod.fst hkept)).1
  · exact (counter_of_loadSide hsol).trans (congrArg Prod.snd hkept)

/-- The voltages of the banks as they are shown. -/
def rails (s : State) : BitVec 4 × SMap (BitVec 7) := (s.outs.uv, s.outs.vload)

theorem rails_of_loadSide {s t : State} (h : loadSide s = loadSide t) : rails s = rails t := by
  obtain ⟨_, huv, hv, _⟩ := outs_of_loadSide h
  rw [rails, rails, huv, hv]

@[simp] theorem rails_restartChan (c : Chan) (s : State) : rails (restartChan c s) = rails s := by
  unfold restartChan
  dsimp only
  (repeat' split)
  · obtain ⟨huv, hv, _⟩ := Outs.fields_of_drives (lswClaimOn_kept _ s).1
    rw [rails, rails, huv, hv]
  · rfl
  · rw [rails_of_loadSide (loadSide_solClaimHold _ _)]
    rfl
  · rfl

theorem rails_bankRestart (b : Nat) (s : State) : rails (bankRestart b s) = rails s := by
  unfold bankRestart
  dsimp only
  split
  · rfl
  · rw [rails_of_loadSide (loadSide_pumpGroup _ _ _), rails_of_loadSide (loadSide_pumpGroup _ _ _)]
    exact foldl_keeps rails (fun s c => rails_restartChan c s) _ s

/-! ### The power ground (R416) -/

/-- No group takes a peak while the power ground is off. -/
theorem pumpGroup_pgnd (g fuel : Nat) {s : State} (h : s.sys.pgnd = true) : pumpGroup g fuel s = s := by
  cases fuel with
  | zero => rfl
  | succ fuel =>
    unfold pumpGroup
    split
    next n r _ =>
      have hdown : groupDown s n = true := by rw [groupDown, h, Bool.or_true]
      rw [if_pos hdown]
    · rfl

theorem endBusy_sol (n m : Nat) (s : State) : sol (endBusy n s) m = sol s m := by
  unfold endBusy
  split <;> rfl

theorem solOff_pgnd {n : Nat} {s : State} (h : s.sys.pgnd = true) : (sol (solOff n s) n).phase = .off ∧
    (∀ m, m ≠ n → sol (solOff n s) m = sol s m) ∧ (solOff n s).skein = s.skein := by
  unfold solOff
  rw [pumpGroup_pgnd _ _ (by simpa using h)]
  refine ⟨?_, fun m hm => ?_, by simp⟩
  · rw [sol_unqueue, sol_giveBack]
    exact congrArg Sol.phase (sol_setSol _ _ _)
  · rw [sol_unqueue, sol_giveBack]
    exact (sol_setSol_ne _ _ _ _ hm).trans (endBusy_sol n m s)

theorem bankRefusal_spec (n : Nat) (s : State) : (bankRefusal n s).sys = s.sys ∧ (∀ m, sol (bankRefusal n s) m = sol s m) ∧
    ∀ r ∈ s.skein.raised, r ∈ (bankRefusal n s).skein.raised := by
  have hrefused (t : State) (r : Raised) (h : r ∈ t.skein.raised) (k : Nat) (o : Owner) : r ∈ (recordRefusal k o t).skein.raised :=
    raise_mem _ _ _ _ _ _ (bump_mem _ _ _ _ h)
  have hsol (k : Nat) (o : Owner) (t : State) (m : Nat) : sol (recordRefusal k o t) m = sol t m := sol_congr (by simp) m
  unfold bankRefusal
  dsimp only
  (repeat' split)
  · exact ⟨by simp, fun m => by simp [hsol], fun r hr => raise_mem _ _ _ _ _ _ (bump_mem _ _ _ _ (hrefused _ _ hr _ _))⟩
  · exact ⟨by simp, fun m => by simp, fun r hr => raise_mem _ _ _ _ _ _ (bump_mem _ _ _ _ hr)⟩
  · exact ⟨by simp, fun m => hsol _ _ _ m, fun r hr => hrefused _ _ hr _ _⟩
  · exact ⟨rfl, fun _ => rfl, fun _ hr => hr⟩

theorem solBankOff_pgnd (n : Nat) {s : State} (h : s.sys.pgnd = true) : (sol (solBankOff n s) n).phase = .off ∧
    (∀ m, m ≠ n → sol (solBankOff n s) m = sol s m) ∧ ∀ r ∈ s.skein.raised, r ∈ (solBankOff n s).skein.raised := by
  by_cases hoff : (sol s n).phase = .off
  · rw [solBankOff_off hoff]
    exact ⟨hoff, fun _ _ => rfl, fun _ hr => hr⟩
  · obtain ⟨hsys, hsol, hraised⟩ := bankRefusal_spec n s
    obtain ⟨x, hx, hphase⟩ := solBankOff_eq hoff
    obtain ⟨hpoff, hother, hskein⟩ := solOff_pgnd (n := n) (s := bankRefusal n s) (by rw [hsys]; exact h)
    rw [hx]
    refine ⟨?_, fun m hm => ?_, fun r hr => ?_⟩
    · rw [sol_setSol, hphase, hpoff]
    · rw [sol_setSol_ne _ _ _ _ hm, hother m hm, hsol]
    · have hset : (setSol n x (solOff n (bankRefusal n s))).skein = (bankRefusal n s).skein := by simpa using hskein
      rw [hset]
      exact hraised r hr

theorem solsOff_pgnd (k : Nat) {s : State} (h : s.sys.pgnd = true) : let v := (List.range k).foldl (fun s n => solBankOff n s) s
    v.sys = s.sys ∧ (∀ n, n < k → (sol v n).phase = .off) ∧ ∀ r ∈ s.skein.raised, r ∈ v.skein.raised := by
  induction k with
  | zero => exact ⟨rfl, fun n hn => absurd hn (Nat.not_lt_zero n), fun _ hr => hr⟩
  | succ k ih =>
    obtain ⟨hsys, hoff, hraised⟩ := ih
    simp only [List.range_succ, List.foldl_append, List.foldl_cons, List.foldl_nil]
    generalize (List.range k).foldl (fun s n => solBankOff n s) s = w at hsys hoff hraised
    obtain ⟨hk, hother, hmore⟩ := solBankOff_pgnd k (s := w) (by rw [hsys]; exact h)
    refine ⟨by simpa using hsys, fun n hn => ?_, fun r hr => hmore r (hraised r hr)⟩
    by_cases hnk : n = k
    · rw [hnk, hk]
    · rw [hother n hnk]
      exact hoff n (by omega)

/-- What an offset of the power ground leaves. -/
def groundOff (s : State) : State :=
  (List.range 32).foldl (fun s n => solBankOff n s) (raise .error 0x01 0x0060 [] { s with sys := { s.sys with pgnd := true } })

theorem groundOff_spec (u : State) : let v := groundOff u
    v.sys = { u.sys with pgnd := true } ∧ (∀ n, n < 32 → (sol v n).phase = .off) ∧
      (∃ r ∈ v.skein.raised, r.sev = .error ∧ r.source = 1 ∧ r.code = 0x60) ∧ v.outs.lsw = u.outs.lsw ∧ v.store = u.store := by
  generalize hw : raise .error 0x01 0x0060 [] { u with sys := { u.sys with pgnd := true } } = w
  have hsys : w.sys = { u.sys with pgnd := true } := by rw [← hw]; simp
  have hrec : makeRecord .error 0x01 0x0060 [] { u with sys := { u.sys with pgnd := true } } ∈ w.skein.raised := by
    rw [← hw]
    exact List.mem_append_right _ (List.mem_singleton_self _)
  have hv : groundOff u = (List.range 32).foldl (fun s n => solBankOff n s) w := by rw [groundOff, hw]
  obtain ⟨hkeep, hoff, hraised⟩ := solsOff_pgnd 32 (s := w) (by rw [hsys])
  have hload : loadSide (groundOff u) = loadSide w := by
    rw [hv]
    exact foldl_keeps loadSide (fun s n => loadSide_solBankOff n s) _ w
  have hstore : (groundOff u).store = w.store := by
    rw [hv]
    exact foldl_keeps (·.store) (fun s n => by simp) _ w
  rw [← hv] at hkeep hoff hraised
  refine ⟨hkeep.trans hsys, hoff, ⟨_, hraised _ hrec, rfl, rfl, rfl⟩, ?_, ?_⟩
  · rw [(outs_of_loadSide hload).1, ← hw]
    simp
  · rw [hstore, ← hw]
    simp

theorem pgndFault_runs {t : Time} {s : State} (h : (advanceTo t s).sys.pgnd = false) :
    exec (.pgndFault t) s = .next (groundOff (advanceTo t s)) := by
  rw [exec_pgndFault, execPgndFault]
  simp only [h, Bool.false_eq_true, if_false]
  rfl

/-! ### PWM periods (R276, R278, R283, R293) -/

theorem pwmPeriodStart_lsw {t : Time} {n : Nat} {i : BitVec 16} {cal : Option (BitVec 16)} {d : OutDecl} {s : State}
    (hd : chanDecl (advanceTo t s) (.lsw n) = some d) (hp : d.pwm = true) (hon : (lsw (advanceTo t s) n).on = true)
    (hsrc : (lsw (advanceTo t s) n).src ≠ .held) (hper : periodStart (advanceTo t s) d.freq 0 = true) :
    exec (.pwmPeriodStart t (.lsw n) i cal) s = .next (if (lsw (advanceTo t s) n).duty = 0 then lswOff n (advanceTo t s)
      else setLsw n { lsw (advanceTo t s) n with applied := (lsw (advanceTo t s) n).duty, current := i } (advanceTo t s)) := by
  have hcond : (!d.pwm || !(lsw (advanceTo t s) n).on || decide ((lsw (advanceTo t s) n).src = .held) ||
      !periodStart (advanceTo t s) d.freq 0) = false := by
    rw [hp, hon, decide_eq_false hsrc, hper]; rfl
  rw [exec_pwmPeriodStart, execPwmPeriodStart]
  simp only [lswPeriod, hd, hcond, Bool.false_eq_true, if_false]

theorem pwmPeriodStart_sol {t : Time} {n : Nat} {i : BitVec 16} {cal : Option (BitVec 16)} {s : State} :
    exec (.pwmPeriodStart t (.sol n) i cal) s = .next (solPeriod n i cal (advanceTo t s)) := rfl

theorem solPeriod_setpoint {n x : Nat} {i : BitVec 16} {cal : Option (BitVec 16)} {d : OutDecl} {u : State}
    (hd : chanDecl u (.sol n) = some d) (hper : periodStart u d.freq (n % 4) = true) (hphase : (sol u n).phase = .cur)
    (hx : (sol u n).nextSet = some x) (hx0 : x ≠ 0) :
    solPeriod n i cal u = setSol n { sol u n with
      measured := i, calWait := (sol u n).calWait - 1, setpoint := x, nextSet := none, since := u.sun.time } u := by
  have hqual : calQualifies u n = false := by simp [calQualifies, hx]
  have hstart : (!((chanDecl u (.sol n)).map fun d => periodStart u d.freq (n % 4)).getD false) = false := by
    rw [hd, Option.map_some, hper]; rfl
  have hoff : (decide (x = 0) && decide (i = 0)) = false := by rw [decide_eq_false hx0, Bool.false_and]
  cases cal with
  | none => simp only [solPeriod, hstart, hphase, hx, hoff, Bool.false_eq_true, if_false]
  | some g => simp only [solPeriod, hstart, hphase, hx, hoff, hqual, Bool.false_eq_true, if_false]

theorem solPeriod_calibrated {n : Nat} {i g : BitVec 16} {d : OutDecl} {u : State}
    (hd : chanDecl u (.sol n) = some d) (hper : periodStart u d.freq (n % 4) = true) (hphase : (sol u n).phase = .cur)
    (hset : (sol u n).setpoint ≠ 0) (hqual : calQualifies u n = true) :
    solPeriod n i (some g) u = setSol n { sol u n with
      measured := i, gain := g, calAt := some u.sun.time, calold := false, calWait := 63 } u := by
  have hnext : (sol u n).nextSet = none := by
    simp only [calQualifies, Bool.and_eq_true, Option.isNone_iff_eq_none] at hqual
    exact hqual.1.1.2
  have hstart : (!((chanDecl u (.sol n)).map fun d => periodStart u d.freq (n % 4)).getD false) = false := by
    rw [hd, Option.map_some, hper]; rfl
  have hoff : (decide ((sol u n).setpoint = 0) && decide (i = 0)) = false := by rw [decide_eq_false hset, Bool.false_and]
  simp only [solPeriod, hstart, hphase, hnext, hoff, hqual, Bool.false_eq_true, if_false, if_true]

theorem pwmUndrivenSettle_runs {t q : Time} {n : Fin 48} {d : OutDecl} {s : State} (hq : (advanceTo t s).outs.laneQuiet = some q)
    (hd : chanDecl (advanceTo t s) (.lsw n.val) = some d) (hp : d.pwm = true) (hon : (lsw (advanceTo t s) n.val).on = true)
    (hsrc : (lsw (advanceTo t s) n.val).src = .held) (hper : periodStart (advanceTo t s) d.freq 0 = true)
    (hdue : q.toNat + 20000000 < (advanceTo t s).sun.time.toNat) : exec (.pwmUndrivenSettle t n) s = .next
      (if 512 ≤ (lsw (advanceTo t s) n.val).duty.toNat ∧ d.dutyMax = 0x7FFFFFFF then
        setLsw n.val { lsw (advanceTo t s) n.val with applied := 1024, src := .held, pin := true } (advanceTo t s)
      else setLsw n.val { (lsw (advanceTo t s) n.val).switchedOff with src := .held } (lswOff n.val (advanceTo t s))) := by
  have hcond : (d.pwm && (lsw (advanceTo t s) n.val).on && decide ((lsw (advanceTo t s) n.val).src = .held) &&
      decide (q.toNat + 20000000 < (advanceTo t s).sun.time.toNat) && periodStart (advanceTo t s) d.freq 0) = true := by
    rw [hp, hon, decide_eq_true hsrc, decide_eq_true hdue, hper]; rfl
  rw [exec_pwmUndrivenSettle, execPwmUndrivenSettle]
  simp only [hq, hd, hcond, if_true, lsw_lswOff, Bool.and_eq_true, decide_eq_true_eq]

/-! ### DIR inputs (R277) -/

/-- What limp drive reads of the module, unchanged. -/
def SameLimp (s v : State) : Prop :=
  v.sys = s.sys ∧ v.store = s.store ∧ v.clock = s.clock ∧ v.outs.drives = s.outs.drives ∧ ∀ m, (lsw v m).dirMap = (lsw s m).dirMap

theorem SameLimp.refl (s : State) : SameLimp s s := ⟨rfl, rfl, rfl, rfl, fun _ => rfl⟩

theorem SameLimp.trans {s v w : State} (h : SameLimp s v) (h' : SameLimp v w) : SameLimp s w := by
  obtain ⟨hsys, hstore, hclock, hdrives, hmap⟩ := h
  obtain ⟨hsys', hstore', hclock', hdrives', hmap'⟩ := h'
  exact ⟨hsys'.trans hsys, hstore'.trans hstore, hclock'.trans hclock, hdrives'.trans hdrives, fun m => (hmap' m).trans (hmap m)⟩

theorem SameLimp.limpChan {s v : State} (h : SameLimp s v) (m : Nat) : limpChan v m = limpChan s m := by
  obtain ⟨hsys, _, _, hdrives, hmap⟩ := h
  obtain ⟨_, _, _, _, hlimp, hen⟩ := Outs.fields_of_drives hdrives
  simp only [Machine.limpChan, hsys, hlimp, hen, hmap]

theorem SameLimp.of_others {n : Nat} {s v : State} (hsys : v.sys = s.sys) (hstore : v.store = s.store) (hclock : v.clock = s.clock)
    (hdrives : v.outs.drives = s.outs.drives) (hother : ∀ m, m ≠ n → lsw v m = lsw s m)
    (hmap : (lsw v n).dirMap = (lsw s n).dirMap) : SameLimp s v := by
  refine ⟨hsys, hstore, hclock, hdrives, fun m => ?_⟩
  by_cases hm : m = n
  · rw [hm, hmap]
  · rw [hother m hm]

theorem limpFollow_idle {n : Nat} {s : State} (h : limpChan s n = false) : limpFollow n s = s := by
  simp only [limpFollow, h, Bool.not_false, Bool.true_or, if_true]

/-- Switching a load switch off gives no claim to anyone. -/
theorem holds_lswOff_of {n k : Nat} {o : Owner} {s : State} (h : holds s k o = false) : holds (lswOff n s) k o = false := by
  by_cases hk : k = n / 12
  · have hadm : (ledger (lswOff n s) k).admitted = ((ledger s k).admitted.filter fun a => !decide (a.claim.owner = .chan (.lsw n))) := by
      subst hk
      simp [lswOff]
    simp only [holds, hadm, List.any_filter] at h ⊢
    simp only [List.any_eq_false] at h ⊢
    intro x hx
    simp [h x hx]
  · rw [holds, ledger_lswOff_ne s hk]
    exact h

section
variable {n : Nat} {s : State} (hchan : limpChan s n = true) (hlko : s.clock.lkoFail = false)
include hchan hlko

theorem limpFollow_high (hdir : bit s.outs.dir (field (lsw s n).dirMap 3 0) = true) :
    limpFollow n s = lswClaimOn n (setLsw n { lsw s n with cmd := true, src := .dir, pin := true } s) := by
  simp only [limpFollow, hchan, hlko, hdir, Bool.not_true, Bool.or_self, Bool.false_eq_true, if_false, if_true]

theorem limpFollow_low (hdir : bit s.outs.dir (field (lsw s n).dirMap 3 0) = false) :
    limpFollow n s = lswOff n (setLsw n { lsw s n with cmd := false, src := .dir } s) := by
  simp only [limpFollow, hchan, hlko, hdir, Bool.not_true, Bool.or_self, Bool.false_eq_true, if_false]

/-- A mapped channel at a high level is commanded by its input; whatever its claim comes to, no other load switch changes. -/
theorem limpFollow_high_spec (hdir : bit s.outs.dir (field (lsw s n).dirMap 3 0) = true) : let v := limpFollow n s
    SameLimp s v ∧ (∀ m, m ≠ n → lsw v m = lsw s m) ∧ (lsw v n).cmd = true ∧ (lsw v n).src = .dir := by
  rw [limpFollow_high hchan hlko hdir]
  obtain ⟨hdrives, hother, hcmd, hsrc, hmap⟩ := lswClaimOn_kept n (setLsw n { lsw s n with cmd := true, src := .dir, pin := true } s)
  have hne (m : Nat) (hm : m ≠ n) := (hother m hm).trans (lsw_setLsw_ne n m { lsw s n with cmd := true, src := .dir, pin := true } s hm)
  refine ⟨.of_others (by simp) (by simp) (by simp) hdrives hne ?_, hne, ?_, ?_⟩
  · rw [hmap, lsw_setLsw]
  · rw [hcmd, lsw_setLsw]
  · rw [hsrc, lsw_setLsw]

/-- A mapped channel at a low level is off, and its claim returns. -/
theorem limpFollow_low_spec (hdir : bit s.outs.dir (field (lsw s n).dirMap 3 0) = false) : let v := limpFollow n s
    SameLimp s v ∧ (∀ m, m ≠ n → lsw v m = lsw s m) ∧ (lsw v n).cmd = false ∧ (lsw v n).on = false ∧
      holds v (n / 12) (.chan (.lsw n)) = false ∧ ∀ k o, holds s k o = false → holds v k o = false := by
  rw [limpFollow_low hchan hlko hdir]
  have hne (m : Nat) (hm : m ≠ n) : lsw (lswOff n (setLsw n { lsw s n with cmd := false, src := .dir } s)) m = lsw s m :=
    (lsw_lswOff_ne _ hm).trans (lsw_setLsw_ne _ _ _ _ hm)
  have hself : lsw (lswOff n (setLsw n { lsw s n with cmd := false, src := .dir } s)) n =
      ({ lsw s n with cmd := false, src := .dir } : Lsw).switchedOff := by rw [lsw_lswOff, lsw_setLsw]
  refine ⟨.of_others (by simp) (by simp) (by simp) (drives_lswOff _ _) hne ?_, hne, ?_, ?_, holds_lswOff _ _, fun k o ho => ?_⟩
  · rw [hself]; rfl
  · rw [hself]; rfl
  · rw [hself]; rfl
  · exact holds_lswOff_of ho
end

/-- Channels mapped to an input, from the first to before the `k`-th, follow it: each that is mapped has what its following establishes. -/
theorem followAll_spec {dir : Nat} {s : State} {R : State → Nat → Prop} {S : State → Prop}
    (hS : ∀ w n, S w → limpChan w n = true → field (lsw w n).dirMap 3 0 = dir → S (limpFollow n w) ∧ SameLimp w (limpFollow n w) ∧
      (∀ m, m ≠ n → lsw (limpFollow n w) m = lsw w m) ∧ R (limpFollow n w) n ∧ ∀ m, m ≠ n → R w m → R (limpFollow n w) m)
    (h : S s) (k : Nat) :
    let v := (List.range k).foldl (fun s n => if decide (field (lsw s n).dirMap 3 0 = dir) then limpFollow n s else s) s
    S v ∧ SameLimp s v ∧ (∀ m, limpChan s m = false → lsw v m = lsw s m) ∧
      ∀ m, m < k → limpChan s m = true → field (lsw s m).dirMap 3 0 = dir → R v m := by
  induction k with
  | zero => exact ⟨h, .refl s, fun _ _ => rfl, fun m hm => absurd hm (Nat.not_lt_zero m)⟩
  | succ k ih =>
    obtain ⟨hv, hsame, hidle, hmapped⟩ := ih
    simp only [List.range_succ, List.foldl_append, List.foldl_cons, List.foldl_nil]
    generalize (List.range k).foldl (fun s n => if decide (field (lsw s n).dirMap 3 0 = dir) then limpFollow n s else s) s = w
      at hv hsame hidle hmapped
    have hmap (m : Nat) : (lsw w m).dirMap = (lsw s m).dirMap := hsame.2.2.2.2 m
    by_cases hk : limpChan w k = true ∧ field (lsw w k).dirMap 3 0 = dir
    · obtain ⟨hchan, hdir⟩ := hk
      obtain ⟨hv', hsame', hother, hnew, hold⟩ := hS w k hv hchan hdir
      rw [if_pos (decide_eq_true hdir)]
      refine ⟨hv', hsame.trans hsame', fun m hm => ?_, fun m hm hc hd => ?_⟩
      · have hne : m ≠ k := by rintro rfl; rw [hsame.limpChan, hm] at hchan; cases hchan
        rw [hother m hne, hidle m hm]
      · by_cases hmk : m = k
        · rw [hmk]; exact hnew
        · exact hold m hmk (hmapped m (by omega) hc hd)
    · have hstay : (if decide (field (lsw w k).dirMap 3 0 = dir) then limpFollow k w else w) = w := by
        by_cases hdir : field (lsw w k).dirMap 3 0 = dir
        · rw [if_pos (decide_eq_true hdir)]
          exact limpFollow_idle (by simpa [hdir] using hk)
        · rw [if_neg (by simpa using hdir)]
      rw [hstay]
      refine ⟨hv, hsame, hidle, fun m hm hc hd => ?_⟩
      have hne : m ≠ k := by
        rintro rfl
        exact hk ⟨by rw [hsame.limpChan, hc], by rw [hmap, hd]⟩
      exact hmapped m (by omega) hc hd

/-- Every channel mapped to an input follows it. -/
def followAll (dir : Nat) (s : State) : State :=
  (List.range 48).foldl (fun s n => if decide (field (lsw s n).dirMap 3 0 = dir) then limpFollow n s else s) s

/-- The module with a DIR input's level shown, before any channel follows it. -/
def shown (d : BitVec 16) (s : State) : State := { s with outs := { s.outs with dir := d } }

theorem dirInputHigh_runs (t : Time) (n : Fin 16) (s : State) : exec (.dirInputHigh t n) s =
    .next (followAll n.val (shown ((advanceTo t s).outs.dir ||| (1#16 <<< n.val)) (advanceTo t s))) := rfl

theorem dirInputLow100ms_runs (t : Time) (n : Fin 16) (s : State) : exec (.dirInputLow100ms t n) s =
    .next (followAll n.val (shown ((advanceTo t s).outs.dir &&& ~~~(1#16 <<< n.val)) (advanceTo t s))) := rfl

theorem dirHigh_spec (n : Fin 16) {u : State} (hlko : u.clock.lkoFail = false) : let s := shown (u.outs.dir ||| (1#16 <<< n.val)) u
    let v := followAll n.val s
    v.outs.dir = u.outs.dir ||| (1#16 <<< n.val) ∧ (∀ m, limpChan u m = false → lsw v m = lsw u m) ∧
      (∀ m, m < 48 → limpChan u m = true → field (lsw u m).dirMap 3 0 = n.val → (lsw v m).cmd = true ∧ (lsw v m).src = .dir) ∧
      v.sys = u.sys ∧ v.store = u.store ∧ v.outs.sol = u.outs.sol := by
  intro s
  have hbit : bit s.outs.dir n.val = true := bit_setBit u.outs.dir n.val true n.isLt
  have hall := followAll_spec (dir := n.val) (s := s)
    (R := fun v m => (lsw v m).cmd = true ∧ (lsw v m).src = .dir)
    (S := fun w => w.clock.lkoFail = false ∧ bit w.outs.dir n.val = true) (fun w m hw hchan hdir => by
      obtain ⟨hl, hb⟩ := hw
      obtain ⟨hsame, hother, hcmd, hsrc⟩ := limpFollow_high_spec hchan hl (by rw [hdir]; exact hb)
      have hdirs := (Outs.fields_of_drives hsame.2.2.2.1).2.2.1
      exact ⟨⟨by rw [hsame.2.2.1]; exact hl, by rw [hdirs]; exact hb⟩, hsame, hother, ⟨hcmd, hsrc⟩,
        fun k hk h => by rw [hother k hk]; exact h⟩) ⟨hlko, hbit⟩ 48
  rw [← followAll] at hall
  generalize followAll n.val s = v at hall ⊢
  obtain ⟨_, ⟨hsys, hstore, _, hdrives, _⟩, hidle, hmapped⟩ := hall
  obtain ⟨_, _, hdir, hsol, _⟩ := Outs.fields_of_drives hdrives
  exact ⟨hdir, hidle, hmapped, hsys, hstore, hsol⟩

theorem dirLow_spec (n : Fin 16) {u : State} (hlko : u.clock.lkoFail = false) : let s := shown (u.outs.dir &&& ~~~(1#16 <<< n.val)) u
    let v := followAll n.val s
    v.outs.dir = u.outs.dir &&& ~~~(1#16 <<< n.val) ∧ (∀ m, limpChan u m = false → lsw v m = lsw u m) ∧
      (∀ m, m < 48 → limpChan u m = true → field (lsw u m).dirMap 3 0 = n.val →
        (lsw v m).cmd = false ∧ (lsw v m).on = false ∧ holds v (m / 12) (.chan (.lsw m)) = false) ∧
      v.sys = u.sys ∧ v.store = u.store ∧ v.outs.sol = u.outs.sol := by
  intro s
  have hbit : bit s.outs.dir n.val = false := bit_setBit u.outs.dir n.val false n.isLt
  have hall := followAll_spec (dir := n.val) (s := s)
    (R := fun v m => (lsw v m).cmd = false ∧ (lsw v m).on = false ∧ holds v (m / 12) (.chan (.lsw m)) = false)
    (S := fun w => w.clock.lkoFail = false ∧ bit w.outs.dir n.val = false) (fun w m hw hchan hdir => by
      obtain ⟨hl, hb⟩ := hw
      obtain ⟨hsame, hother, hcmd, hon, hheld, hfree⟩ := limpFollow_low_spec hchan hl (by rw [hdir]; exact hb)
      have hdirs := (Outs.fields_of_drives hsame.2.2.2.1).2.2.1
      exact ⟨⟨by rw [hsame.2.2.1]; exact hl, by rw [hdirs]; exact hb⟩, hsame, hother, ⟨hcmd, hon, hheld⟩,
        fun k hk ⟨h1, h2, h3⟩ => ⟨by rw [hother k hk]; exact h1, by rw [hother k hk]; exact h2, hfree _ _ h3⟩⟩) ⟨hlko, hbit⟩ 48
  rw [← followAll] at hall
  generalize followAll n.val s = v at hall ⊢
  obtain ⟨_, ⟨hsys, hstore, _, hdrives, _⟩, hidle, hmapped⟩ := hall
  obtain ⟨_, _, hdir, hsol, _⟩ := Outs.fields_of_drives hdrives
  exact ⟨hdir, hidle, hmapped, hsys, hstore, hsol⟩

/-! ### The commands of banks -/

theorem bankUndervoltage_idle {t : Time} {b : Fin 4} {s : State}
    (h : bit (advanceTo t s).outs.uv b.val = true ∨ diesOn (advanceTo t s) = false) : exec (.bankUndervoltage t b) s =
      .next { advanceTo t s with outs := { (advanceTo t s).outs with stood := setBit (advanceTo t s).outs.stood b.val false } } := by
  have hcond : (bit (advanceTo t s).outs.uv b.val || !diesOn (advanceTo t s)) = true := by
    rcases h with h | h
    · rw [h, Bool.true_or]
    · rw [h, Bool.not_false, Bool.or_true]
  rw [exec_bankUndervoltage, execBankUndervoltage]
  exact congrArg Host.Outcome.next (if_pos hcond)

/-- A bank as its under-voltage begins, before its channels go off. -/
def bankLow (b : Nat) (s : State) : State :=
  raise .warning 0x05 0x002C [BitVec.ofNat 32 b] (bump 0x0005002C 0
    { s with outs := { s.outs with stood := setBit s.outs.stood b false, uv := setBit s.outs.uv b true } })

theorem bankUndervoltage_runs {t : Time} {b : Fin 4} {s : State} (huv : bit (advanceTo t s).outs.uv b.val = false)
    (hon : diesOn (advanceTo t s) = true) :
    exec (.bankUndervoltage t b) s = .next (bankOff b.val true (bankLow b.val (advanceTo t s))) := by
  have hcond : (bit (advanceTo t s).outs.uv b.val || !diesOn (advanceTo t s)) = false := by rw [huv, hon]; rfl
  rw [exec_bankUndervoltage, execBankUndervoltage]
  exact congrArg Host.Outcome.next (if_neg (by rw [Bool.not_eq_true]; exact hcond))

theorem bankLow_spec (b : Nat) (s : State) : (bankLow b s).outs.uv = s.outs.uv ||| (1#4 <<< b) ∧ (bankLow b s).outs.lsw = s.outs.lsw ∧
    counter (bankLow b s) 0x0005002C 0 = (counter s 0x0005002C 0).inc.1 ∧ (bankLow b s).sys = s.sys ∧
    (bankLow b s).store = s.store ∧ (bankLow b s).sun = s.sun := by
  have hraise (v : Severity) (a : BitVec 8) (c : BitVec 16) (l : List Word) (t : State) :
    counter (raise v a c l t) 0x0005002C 0 = counter t 0x0005002C 0 := by simp [counter]
  refine ⟨by simp [bankLow, setBit], by simp [bankLow], ?_, by simp [bankLow], by simp [bankLow], by simp [bankLow]⟩
  rw [bankLow, hraise, counter_bump]
  rfl

/-- A bank as its over-voltage begins, before its channels go off. -/
def bankHigh (b : Nat) (s : State) : State :=
  raise .warning 0x01 0x0060 [BitVec.ofNat 32 b] { s with sys := { s.sys with ov := setBit s.sys.ov b true } }

theorem bankOvervoltage_runs {t : Time} {b : Fin 4} {s : State} (hov : bit (advanceTo t s).sys.ov b.val = false)
    (hon : diesOn (advanceTo t s) = true) :
    exec (.bankOvervoltage t b) s = .next (bankOff b.val false (bankHigh b.val (advanceTo t s))) := by
  have hcond : (bit (advanceTo t s).sys.ov b.val || !diesOn (advanceTo t s)) = false := by rw [hov, hon]; rfl
  rw [exec_bankOvervoltage, execBankOvervoltage]
  simp only [hcond, Bool.false_eq_true, if_false]
  rfl

/-- A bank whose voltage has stood long enough, before it restarts. -/
def bankStood (b : Nat) (x : BitVec 7) (s : State) : State :=
  { s with outs := { s.outs with
    vload := SMap.put s.outs.vload 0 b x, stood := setBit s.outs.stood b true, uv := setBit s.outs.uv b false } }

theorem bankUvRestart_runs {t : Time} {b : Fin 4} {x : BitVec 7} {s : State} (huv : bit (advanceTo t s).outs.uv b.val = true)
    (hon : diesOn (advanceTo t s) = true) :
    exec (.bankUvRestart t b x) s = .next (bankRestart b.val (bankStood b.val x (advanceTo t s))) := by
  have hcond : (bit (advanceTo t s).outs.uv b.val && diesOn (advanceTo t s)) = true := by rw [huv, hon]; rfl
  rw [exec_bankUvRestart, execBankUvRestart]
  exact congrArg Host.Outcome.next (if_pos hcond)

theorem bankOvRestart_runs {t : Time} {b : Fin 4} {s : State} (hov : bit (advanceTo t s).sys.ov b.val = true) :
    exec (.bankOvRestart t b) s = .next (bankRestart b.val
      { advanceTo t s with sys := { (advanceTo t s).sys with ov := setBit (advanceTo t s).sys.ov b.val false } }) := by
  rw [exec_bankOvRestart, execBankOvRestart]
  simp only [hov, if_true]

/-- A bank that stays off restarts nothing. -/
theorem bankRestart_down {b : Nat} {s : State} (h : bankDown s b = true) : bankRestart b s = s := by
  rw [bankRestart, if_pos h]

theorem pgndRecover_spec {t : Time} {s : State} (h : (advanceTo t s).sys.pgnd = true) : let u := advanceTo t s
    ∃ v, exec (.pgndRecover t) s = .next v ∧ v.sys = { u.sys with pgnd := false } ∧ v.store = u.store ∧ v.sun = u.sun := by
  have hcond : (!(advanceTo t s).sys.pgnd) = false := by rw [h]; rfl
  rw [exec_pgndRecover, execPgndRecover]
  simp only [hcond, Bool.false_eq_true, if_false]
  generalize advanceTo t s = u
  refine ⟨_, rfl, ?_, ?_, ?_⟩
  all_goals
    simp (disch := (intros; (repeat' split) <;> simp (disch := (intros; (repeat' split) <;> simp))))

/-- PWM periods: the first part of O38. -/
theorem pwmPeriods : (∀ (t : Time) (n : Nat) (i : BitVec 16) (cal : Option (BitVec 16)) (d : OutDecl) (s : State), let u := advanceTo t s
     chanDecl u (.lsw n) = some d → d.pwm = true → (lsw u n).on = true → (lsw u n).src ≠ .held → periodStart u d.freq 0 = true →
     ((lsw u n).duty ≠ 0 → ∃ v, exec (.pwmPeriodStart t (.lsw n) i cal) s = .next v ∧
       lsw v n = { lsw u n with applied := (lsw u n).duty, current := i } ∧ (∀ m, m ≠ n → lsw v m = lsw u m) ∧ v = { u with outs := v.outs }) ∧
     ((lsw u n).duty = 0 → ∃ v, exec (.pwmPeriodStart t (.lsw n) i cal) s = .next v ∧ (lsw v n).on = false ∧
       holds v (n / 12) (.chan (.lsw n)) = false ∧ (∀ m, m ≠ n → lsw v m = lsw u m) ∧ v = { u with outs := v.outs, tally := v.tally })) := by
  intro t n i cal d s u hd hp hon hsrc hper
  refine ⟨fun hduty => ⟨_, pwmPeriodStart_lsw hd hp hon hsrc hper, ?_⟩, fun hduty => ⟨_, pwmPeriodStart_lsw hd hp hon hsrc hper, ?_⟩⟩
  · rw [if_neg hduty]
    exact ⟨lsw_setLsw _ _ _, fun m hm => lsw_setLsw_ne _ _ _ _ hm, rfl⟩
  · rw [if_pos hduty]
    refine ⟨?_, holds_lswOff _ _, fun m hm => lsw_lswOff_ne _ hm, lswOff_eq _ _⟩
    rw [lsw_lswOff]
    rfl

theorem settle_spec {t q : Time} {n : Fin 48} {d : OutDecl} {s : State} : let u := advanceTo t s
    u.outs.laneQuiet = some q → chanDecl u (.lsw n.val) = some d → d.pwm = true → (lsw u n.val).on = true →
    (lsw u n.val).src = .held → periodStart u d.freq 0 = true → q.toNat + 20000000 < u.sun.time.toNat →
    ((512 ≤ (lsw u n.val).duty.toNat ∧ d.dutyMax = 0x7FFFFFFF) → ∃ v, exec (.pwmUndrivenSettle t n) s = .next v ∧
      lsw v n.val = { lsw u n.val with applied := 1024, src := .held, pin := true } ∧ v = { u with outs := v.outs }) ∧
    (¬(512 ≤ (lsw u n.val).duty.toNat ∧ d.dutyMax = 0x7FFFFFFF) → ∃ v, exec (.pwmUndrivenSettle t n) s = .next v ∧
      (lsw v n.val).on = false ∧ (lsw v n.val).src = .held ∧ holds v (n.val / 12) (.chan (.lsw n.val)) = false ∧
      v = { u with outs := v.outs, tally := v.tally }) := by
  intro u hq hd hp hon hsrc hper hdue
  refine ⟨fun h => ⟨_, pwmUndrivenSettle_runs hq hd hp hon hsrc hper hdue, ?_⟩,
    fun h => ⟨_, pwmUndrivenSettle_runs hq hd hp hon hsrc hper hdue, ?_⟩⟩
  · rw [if_pos h]
    exact ⟨lsw_setLsw _ _ _, rfl⟩
  · rw [if_neg h]
    have heq := lswOff_eq n.val u
    have hheld := holds_lswOff n.val u
    generalize lswOff n.val u = w at heq hheld
    refine ⟨by rw [lsw_setLsw]; rfl, by rw [lsw_setLsw], hheld, ?_⟩
    rw [heq]
    rfl

/-- The levels of a bank: the third part of O38. -/
theorem banks_spec (t : Time) (b : Fin 4) (s : State) : let u := advanceTo t s
     (bit u.outs.uv b.val = false → diesOn u = true → ∃ v, exec (.bankUndervoltage t b) s = .next v ∧ v.outs.uv = u.outs.uv ||| (1#4 <<< b.val) ∧
       (∀ i, i < 12 → (lsw v (12 * b.val + i)).on = false) ∧
       (∀ m, (m < 12 * b.val ∨ 12 * b.val + 12 ≤ m) → lsw v m = lsw u m) ∧
       counter v 0x0005002C 0 = (counter u 0x0005002C 0).inc.1 ∧ v.sys = u.sys ∧ v.store = u.store ∧ v.sun = u.sun) ∧
     ((bit u.outs.uv b.val = true ∨ diesOn u = false) → exec (.bankUndervoltage t b) s =
       .next { u with outs := { u.outs with stood := setBit u.outs.stood b.val false } }) ∧
     (bit u.sys.ov b.val = false → diesOn u = true → ∃ v, exec (.bankOvervoltage t b) s = .next v ∧
       v.sys = { u.sys with ov := u.sys.ov ||| (1#4 <<< b.val) } ∧ (∀ i, i < 12 → (lsw v (12 * b.val + i)).on = false) ∧
       (∀ m, (m < 12 * b.val ∨ 12 * b.val + 12 ≤ m) → lsw v m = lsw u m) ∧ v.store = u.store ∧ v.sun = u.sun) ∧
     (∀ x, bit u.outs.uv b.val = true → diesOn u = true → bit u.sys.ov b.val = true →
       ∃ v, exec (.bankUvRestart t b x) s = .next v ∧
       v.outs = { u.outs with
         vload := SMap.put u.outs.vload 0 b.val x, uv := u.outs.uv &&& ~~~(1#4 <<< b.val), stood := setBit u.outs.stood b.val true } ∧
       v = { u with outs := v.outs }) ∧
     (bit u.outs.uv b.val = true → bit u.sys.ov b.val = true → ∃ v, exec (.bankOvRestart t b) s = .next v ∧
       v = { u with sys := { u.sys with ov := u.sys.ov &&& ~~~(1#4 <<< b.val) } }) ∧
     (∀ x, bit u.outs.uv b.val = true → diesOn u = true → bit u.sys.ov b.val = false → ∃ v, exec (.bankUvRestart t b x) s = .next v ∧
       bit v.outs.uv b.val = false ∧ SMap.get v.outs.vload 0 b.val = x ∧ v.sys = u.sys ∧ v.store = u.store) ∧
     (bit u.outs.uv b.val = false → bit u.sys.ov b.val = true → ∃ v, exec (.bankOvRestart t b) s = .next v ∧
       v.sys = { u.sys with ov := u.sys.ov &&& ~~~(1#4 <<< b.val) } ∧ v.store = u.store) := by
  intro u
  refine ⟨fun huv hon => ⟨_, bankUndervoltage_runs huv hon, ?low⟩, fun h => bankUndervoltage_idle h,
    fun hov hon => ⟨_, bankOvervoltage_runs hov hon, ?high⟩, fun x huv hon hov => ⟨_, bankUvRestart_runs huv hon, ?stays⟩,
    fun huv hov => ⟨_, bankOvRestart_runs hov, ?staysLow⟩, fun x huv hon hov => ⟨_, bankUvRestart_runs huv hon, ?restarts⟩,
    fun huv hov => ⟨_, bankOvRestart_runs hov, ?restartsHigh⟩⟩
  all_goals
    subst u
    generalize advanceTo t s = u at *
  case low =>
    obtain ⟨huv', hlsw', hcount', hsys', hstore', hsun'⟩ := bankLow_spec b.val u
    obtain ⟨hoff, hother, hkept, hcount⟩ := bankOff_spec b.val true (bankLow b.val u)
    refine ⟨hkept.trans huv', hoff, fun m hm => ?_, hcount.trans hcount', ?_, ?_, ?_⟩
    · rw [hother m hm, lsw, lsw, hlsw']
    · rw [← hsys']; simp
    · rw [← hstore']; simp
    · rw [← hsun']; simp
  case high =>
    obtain ⟨hoff, hother, _, _⟩ := bankOff_spec b.val false (bankHigh b.val u)
    refine ⟨by simp [bankHigh, setBit], hoff, fun m hm => ?_, by simp [bankHigh], by simp [bankHigh]⟩
    rw [hother m hm, bankHigh, lsw_raise]
    rfl
  case stays =>
    have hdown : bankDown (bankStood b.val x u) b.val = true := by
      simp only [bankDown, bankStood, hov, Bool.or_true]
    rw [bankRestart_down hdown]
    exact ⟨rfl, rfl⟩
  case staysLow =>
    rw [bankRestart_down (by simp only [bankDown, huv, Bool.true_or])]
    rfl
  case restarts =>
    have hrails := rails_bankRestart b.val (bankStood b.val x u)
    refine ⟨?_, ?_, by simp [bankStood], by simp [bankStood]⟩
    · have huv' := congrArg Prod.fst hrails
      change (bankRestart b.val (bankStood b.val x u)).outs.uv = setBit u.outs.uv b.val false at huv'
      rw [huv']
      exact bit_setBit _ _ _ b.isLt
    · have hv := congrArg Prod.snd hrails
      change (bankRestart b.val (bankStood b.val x u)).outs.vload = SMap.put u.outs.vload 0 b.val x at hv
      rw [hv, SMap.get_put_same]
  case restartsHigh =>
    exact ⟨by simp [setBit], by simp⟩

/-- Settles O38: PWM periods and settling by case, banks by what their channels' going off and restarts leave, DIR inputs by an
induction over the channels that follow them. -/
theorem banksAndPins : Obligations.BanksAndPins := by
  refine ⟨⟨pwmPeriods, fun t n d i g s hd hper hphase => ⟨fun x hx hx0 c => ⟨_, pwmPeriodStart_sol, ?setpoint⟩,
      fun hset hqual => ⟨_, pwmPeriodStart_sol, ?calibrated⟩⟩,
    fun t q n d s hq hd hp hon hsrc hper hdue => settle_spec hq hd hp hon hsrc hper hdue⟩,
    ⟨fun t b s => banks_spec t b s, fun t s => ⟨fun h => ⟨_, pgndFault_runs h, groundOff_spec _⟩, fun h => pgndRecover_spec h⟩⟩,
    fun t n s hlko => ⟨⟨_, dirInputHigh_runs t n s, dirHigh_spec n hlko⟩, ⟨_, dirInputLow100ms_runs t n s, dirLow_spec n hlko⟩⟩⟩
  case setpoint =>
    rw [solPeriod_setpoint hd hper hphase hx hx0]
    exact ⟨sol_setSol _ _ _, fun m hm => sol_setSol_ne _ _ _ _ hm, rfl⟩
  case calibrated =>
    rw [solPeriod_calibrated hd hper hphase hset hqual]
    exact ⟨sol_setSol _ _ _, fun m hm => sol_setSol_ne _ _ _ _ hm, rfl⟩

end Sys2Proof.Machine
end

section
/-! PROOFS. Solenoid profiles (R285 to R297). -/
namespace Sys2Proof.Machine
open Sys2Proof.Safety

/-! ### What a peak's claim leaves of the other channels -/

/-- A counter that no claim of the Tally moves. -/
def Untallied (a : Nat) : Prop := a % 0x200000 ≠ 0x00040040 ∧ a % 0x200000 ≠ 0x00040044

/-- What the work of a solenoid channel leaves: the queues of the groups, each other channel, and the counters but the Tally's. -/
def SolKept (n : Nat) (s v : State) : Prop :=
  v.outs.groupQ = s.outs.groupQ ∧ (∀ m, m ≠ n → sol v m = sol s m) ∧ ∀ a i, Untallied a → counter v a i = counter s a i

theorem SolKept.refl (n : Nat) (s : State) : SolKept n s s := ⟨rfl, fun _ _ => rfl, fun _ _ _ => rfl⟩

theorem SolKept.trans {n : Nat} {s v w : State} (h : SolKept n s v) (h' : SolKept n v w) : SolKept n s w := by
  obtain ⟨hqueue, hother, hcount⟩ := h
  obtain ⟨hqueue', hother', hcount'⟩ := h'
  exact ⟨hqueue'.trans hqueue, fun m hm => (hother' m hm).trans (hother m hm), fun a i ha => (hcount' a i ha).trans (hcount a i ha)⟩

theorem SolKept.of_parts {n : Nat} {s v : State} (ho : v.outs = s.outs) (hc : v.counters = s.counters) : SolKept n s v :=
  ⟨congrArg Outs.groupQ ho, fun _ _ => sol_congr ho _, fun a i _ => by rw [counter, counter, hc]⟩

theorem SolKept.setSol (n : Nat) (x : Sol) (s : State) : SolKept n s (setSol n x s) :=
  ⟨rfl, fun _ hm => sol_setSol_ne _ _ _ _ hm, fun _ _ _ => rfl⟩

theorem SolKept.bump {n a i : Nat} (s : State) (ha : a = 0x00040040 ∨ a = 0x00040044) : SolKept n s (bump a i s) := by
  refine ⟨by simp, fun m _ => by simp, fun b j hb => counter_bump_ne _ _ _ _ _ ?_⟩
  obtain ⟨h1, h2⟩ := hb
  simp only [ckey]
  rcases ha with rfl | rfl <;> omega

theorem recordRefusal_kept (k : Nat) (o : Owner) (n : Nat) (s : State) : SolKept n s (recordRefusal k o s) :=
  .trans (.bump (i := 0) s (.inr rfl)) (.of_parts (by simp [recordRefusal]) (by simp [recordRefusal]))

theorem onAdmitted_sol_kept (n : Nat) (s : State) : SolKept n s (onAdmitted (.chan (.sol n)) s) := by
  have hbusy (b : BitVec 8) : SolKept n s { s with outs := { s.outs with busy := b } } := ⟨rfl, fun _ _ => rfl, fun _ _ _ => rfl⟩
  simp only [onAdmitted, peakAdmitted, curAdmitted]
  split
  · split
    · exact (hbusy _).trans (.setSol _ _ _)
    · exact hbusy _
  · exact .setSol _ _ _

theorem submit_sol_kept (k : Nat) (c : Claim) (n : Nat) (s : State) (h : c.owner = .chan (.sol n)) : SolKept n s (submit k c s) := by
  have href (t : State) : SolKept n t (onRefused (.chan (.sol n)) t) := .setSol _ _ _
  unfold submit
  rw [h]
  (repeat' split)
  · exact href s
  · exact .of_parts rfl rfl
  · exact .trans (.of_parts (by simp) (by simp)) (onAdmitted_sol_kept n _)
  · exact .trans (recordRefusal_kept k _ n s) (href _)
  · exact .trans (.of_parts rfl rfl) (.bump _ (.inl rfl))

theorem submitPeak_kept (n : Nat) (s : State) : SolKept n s (submitPeak n s) := by
  unfold submitPeak
  split
  next d hd => exact .trans (.setSol n _ s) (submit_sol_kept _ _ n _ (solPeakClaim_owner hd))
  · exact .refl _ _

/-- A group that goes on changes only the channels that waited in its queue. -/
theorem pumpGroup_kept {g fuel n : Nat} {s : State} (h : n ∉ SMap.get s.outs.groupQ [] g) :
    sol (pumpGroup g fuel s) n = sol s n ∧ ∀ a i, Untallied a → counter (pumpGroup g fuel s) a i = counter s a i := by
  induction fuel generalizing s with
  | zero => exact ⟨rfl, fun _ _ _ => rfl⟩
  | succ fuel ih =>
    unfold pumpGroup
    split
    next m r hq =>
      rw [hq, List.mem_cons, not_or] at h
      obtain ⟨hnm, hnr⟩ := h
      split
      · exact ⟨rfl, fun _ _ _ => rfl⟩
      · dsimp only
        split
        · obtain ⟨hqueue, hother, hcount⟩ := submitPeak_kept m { s with outs := { s.outs with groupQ := SMap.put s.outs.groupQ [] g r } }
          have hrest : SMap.get (submitPeak m { s with outs := { s.outs with groupQ := SMap.put s.outs.groupQ [] g r } }).outs.groupQ [] g = r := by
            rw [hqueue, SMap.get_put_same]
          obtain ⟨hsol, hcount'⟩ := ih (by rw [hrest]; exact hnr)
          exact ⟨hsol.trans (hother n hnm), fun a i ha => (hcount' a i ha).trans (hcount a i ha)⟩
        · exact ⟨rfl, fun _ _ _ => rfl⟩
    · exact ⟨rfl, fun _ _ _ => rfl⟩

/-- A channel that is switched off. -/
def Sol.switchedOff (x : Sol) : Sol :=
  { x with phase := .off, prevPhase := .off, peakWait := false, setpoint := 0, nextSet := none, measured := 0 }

/-- The module as a channel leaves its group, before the group goes on. -/
def leaveGroup (n : Nat) (s : State) : State := { s with outs := { s.outs with
  groupQ := SMap.put s.outs.groupQ [] (n / 4) ((SMap.get s.outs.groupQ [] (n / 4)).filter fun m => decide (m ≠ n)) } }

theorem not_mem_leaveGroup (n : Nat) (s : State) : n ∉ SMap.get (leaveGroup n s).outs.groupQ [] (n / 4) := by
  rw [leaveGroup, SMap.get_put_same]
  simp

theorem solOff_eq (n : Nat) (s : State) : solOff n s = pumpGroup (n / 4) 4 (unqueue (n / 8) (.chan (.sol n))
    (giveBack (n / 8) (.chan (.sol n)) (leaveGroup n (setSol n (sol s n).switchedOff (endBusy n s))))) := by
  have hsol : sol (endBusy n s) n = sol s n := endBusy_sol n n s
  unfold solOff
  dsimp only
  rw [hsol]
  rfl

/-- A channel switched off stays off, whatever its group goes on with. -/
theorem sol_solOff (n : Nat) (s : State) : sol (solOff n s) n = (sol s n).switchedOff := by
  have hq := not_mem_leaveGroup n (setSol n (sol s n).switchedOff (endBusy n s))
  have hself : sol (leaveGroup n (setSol n (sol s n).switchedOff (endBusy n s))) n = (sol s n).switchedOff := sol_setSol _ _ _
  rw [solOff_eq]
  generalize leaveGroup n (setSol n (sol s n).switchedOff (endBusy n s)) = w at hq hself
  rw [(pumpGroup_kept (by simpa using hq)).1, sol_unqueue, sol_giveBack, hself]

/-! ### The end of a rise (R290) -/

/-- A rise that ends notes at most whether its dip was found. -/
theorem endRise_cases (n : Nat) (s : State) : endRise n s = s ∨ ∃ x : Sol,
    (endRise n s = setSol n x s ∨ endRise n s = raise .warning 0x06 0x0004 [chanWord (.sol n)] (setSol n x s)) ∧
      x.phase = (sol s n).phase := by
  unfold endRise
  split
  · dsimp only
    split
    · exact .inr ⟨_, .inr rfl, rfl⟩
    · split
      · exact .inr ⟨_, .inl rfl, rfl⟩
      · exact .inl rfl
  · exact .inl rfl

theorem endRise_spec (n : Nat) (s : State) : let v := endRise n s
    (sol v n).phase = (sol s n).phase ∧ (∀ m, m ≠ n → sol v m = sol s m) ∧ v.tally = s.tally ∧ v.sun = s.sun ∧
      v.outs.groupQ = s.outs.groupQ := by
  rcases endRise_cases n s with h | ⟨x, h | h, hx⟩
  · rw [h]
    exact ⟨rfl, fun _ _ => rfl, rfl, rfl, rfl⟩
  · rw [h]
    exact ⟨by rw [sol_setSol, hx], fun m hm => sol_setSol_ne _ _ _ _ hm, rfl, rfl, rfl⟩
  · rw [h]
    exact ⟨by rw [sol_raise, sol_setSol, hx], fun m hm => by rw [sol_raise, sol_setSol_ne _ _ _ _ hm], rfl, rfl, rfl⟩

/-- A channel that its low side has tripped. -/
def lowTripped (n : Nat) (s : State) : State :=
  raise .error 0x06 0x0004 [chanWord (.sol n)] (setSol n { (sol s n).switchedOff with trip := true, wasCur := false } (solOff n s))

theorem lowTripped_spec (n : Nat) (u : State) : let v := lowTripped n u
    (sol v n).phase = .off ∧ (sol v n).trip = true ∧ (sol v n).setpoint = 0 := by
  simp [lowTripped, Sol.switchedOff]

/-! ### The phases of a profile (R289) -/

section
variable {t : Time} {n : Fin 32} {s : State}

theorem solRiseDone_runs (h : (sol (advanceTo t s) n.val).phase = .rise) : exec (.solRiseDone t n) s =
    .next (setSol n.val { sol (endRise n.val (advanceTo t s)) n.val with phase := .peak, since := (advanceTo t s).sun.time }
      (endRise n.val (advanceTo t s))) := by
  rw [exec_solRiseDone, execSolRiseDone]
  obtain ⟨_, _, _, hsun, _⟩ := endRise_spec n.val (advanceTo t s)
  simp only [if_pos h, hsun]

theorem solArmatureMove_runs {p : ProfileDecl} (h : (sol (advanceTo t s) n.val).phase = .rise)
    (hp : profileOf (advanceTo t s) (sol (advanceTo t s) n.val).profile.toNat = some p) (hd : p.detect = true)
    (hm : (sol (advanceTo t s) n.val).moved = false) : exec (.solArmatureMove t n) s =
    .next (setSol n.val { sol (advanceTo t s) n.val with
      moved := true, move := BitVec.ofNat 16 (((advanceTo t s).sun.time.toNat - (sol (advanceTo t s) n.val).admittedAt.toNat) / 1000) }
      (advanceTo t s)) := by
  have hcond : (decide ((sol (advanceTo t s) n.val).phase = .rise) && p.detect && !(sol (advanceTo t s) n.val).moved) = true := by
    rw [decide_eq_true h, hd, hm]; rfl
  rw [exec_solArmatureMove, execSolArmatureMove]
  simp only [runningProfile, hp]
  exact congrArg Host.Outcome.next (if_pos hcond)

/-- A channel whose rise took too long, released. -/
def noRise (n : Nat) (s : State) : State :=
  raise .error 0x06 0x0004 [chanWord (.sol n)]
    (setSol n { (sol (endRise n s) n).switchedOff with norise := true } (solOff n (endRise n s)))

theorem solRiseTimeout_runs {p : ProfileDecl} (h : (sol (advanceTo t s) n.val).phase = .rise)
    (hp : profileOf (advanceTo t s) (sol (advanceTo t s) n.val).profile.toNat = some p)
    (hdue : (sol (advanceTo t s) n.val).admittedAt.toNat + p.riseMaxUs * 1000 ≤ (advanceTo t s).sun.time.toNat)
    (hbefore : p.riseMaxUs * 1000 < (sol (advanceTo t s) n.val).peakNs) :
    exec (.solRiseTimeout t n) s = .next (noRise n.val (advanceTo t s)) := by
  have hcond : (decide ((sol (advanceTo t s) n.val).phase = .rise) &&
      passed (advanceTo t s) (sol (advanceTo t s) n.val).admittedAt (p.riseMaxUs * 1000) &&
      decide (p.riseMaxUs * 1000 < (sol (advanceTo t s) n.val).peakNs)) = true := by
    rw [decide_eq_true h, passed, decide_eq_true hdue, decide_eq_true hbefore]; rfl
  rw [exec_solRiseTimeout, execSolRiseTimeout]
  simp only [runningProfile, hp, sol_solOff]
  exact congrArg Host.Outcome.next (if_pos hcond)

theorem solPeakEnd_early
    (hearly : (advanceTo t s).sun.time.toNat < (sol (advanceTo t s) n.val).admittedAt.toNat + (sol (advanceTo t s) n.val).peakNs) :
    exec (.solPeakEnd t n) s = .next (advanceTo t s) := by
  have hpassed : passed (advanceTo t s) (sol (advanceTo t s) n.val).admittedAt (sol (advanceTo t s) n.val).peakNs = false :=
    decide_eq_false (Nat.not_le.mpr hearly)
  rw [exec_solPeakEnd, execSolPeakEnd]
  simp only [hpassed, Bool.and_false, Bool.false_eq_true, if_false]

/-- A peak that ends: the group is free again, and FALL begins. -/
def peakEnded (n : Nat) (s : State) : State :=
  let x := sol s n
  let s := if x.phase = .rise then endRise n s else s
  let s := endBusy n s
  setSol n { sol s n with phase := .fall, since := s.sun.time, setpoint := x.holdMa } s

theorem solPeakEnd_runs (h : (sol (advanceTo t s) n.val).phase = .rise ∨ (sol (advanceTo t s) n.val).phase = .peak)
    (hrise : (sol (advanceTo t s) n.val).phase = .rise → ∀ p, profileOf (advanceTo t s) (sol (advanceTo t s) n.val).profile.toNat = some p →
      (sol (advanceTo t s) n.val).peakNs ≤ p.riseMaxUs * 1000)
    (hdue : (sol (advanceTo t s) n.val).admittedAt.toNat + (sol (advanceTo t s) n.val).peakNs ≤ (advanceTo t s).sun.time.toNat) :
    exec (.solPeakEnd t n) s = .next (pumpGroup (n.val / 4) 4 (peakEnded n.val (advanceTo t s))) := by
  have hpassed : passed (advanceTo t s) (sol (advanceTo t s) n.val).admittedAt (sol (advanceTo t s) n.val).peakNs = true :=
    decide_eq_true hdue
  have hphase : (decide ((sol (advanceTo t s) n.val).phase = .rise) || decide ((sol (advanceTo t s) n.val).phase = .peak)) = true := by
    simpa using h
  rw [exec_solPeakEnd, execSolPeakEnd]
  cases hp : profileOf (advanceTo t s) (sol (advanceTo t s) n.val).profile.toNat with
  | none => simp only [runningProfile, hp, hphase, hpassed, Bool.not_false, Bool.and_self, if_true]; rfl
  | some p =>
    have hnot : (decide ((sol (advanceTo t s) n.val).phase = .rise) &&
        decide (p.riseMaxUs * 1000 < (sol (advanceTo t s) n.val).peakNs)) = false := by
      by_cases hr : (sol (advanceTo t s) n.val).phase = .rise
      · rw [decide_eq_false (Nat.not_lt.mpr (hrise hr p hp)), Bool.and_false]
      · rw [decide_eq_false hr, Bool.false_and]
    simp only [runningProfile, hp, hphase, hpassed, hnot, Bool.not_false, Bool.and_self, if_true]
    rfl

theorem solFallDone_runs (h : (sol (advanceTo t s) n.val).phase = .fall) :
    exec (.solFallDone t n) s = .next (startHold n.val (advanceTo t s)) := by
  rw [exec_solFallDone, execSolFallDone, if_pos h]

theorem solFallTimeout_runs {p : ProfileDecl} (h : (sol (advanceTo t s) n.val).phase = .fall)
    (hp : profileOf (advanceTo t s) (sol (advanceTo t s) n.val).profile.toNat = some p)
    (hdue : (sol (advanceTo t s) n.val).since.toNat + p.tFallMaxUs * 1000 ≤ (advanceTo t s).sun.time.toNat) :
    exec (.solFallTimeout t n) s =
      .next (raise .warning 0x06 0x0004 [chanWord (.sol n.val)] (startHold n.val (advanceTo t s))) := by
  have hcond : (decide ((sol (advanceTo t s) n.val).phase = .fall) &&
      passed (advanceTo t s) (sol (advanceTo t s) n.val).since (p.tFallMaxUs * 1000)) = true := by
    rw [decide_eq_true h, passed, decide_eq_true hdue]; rfl
  rw [exec_solFallTimeout, execSolFallTimeout]
  simp only [runningProfile, hp]
  exact congrArg Host.Outcome.next (if_pos hcond)

theorem solHoldEnd_runs {p : ProfileDecl} (h : (sol (advanceTo t s) n.val).phase = .hold)
    (hp : profileOf (advanceTo t s) (sol (advanceTo t s) n.val).profile.toNat = some p)
    (hdue : (sol (advanceTo t s) n.val).since.toNat + p.tHoldMs * 1000000 ≤ (advanceTo t s).sun.time.toNat) :
    exec (.solHoldEnd t n) s = .next (if p.stay then
      setSol n.val { sol (advanceTo t s) n.val with phase := .cur, since := (advanceTo t s).sun.time } (advanceTo t s)
      else solOff n.val (advanceTo t s)) := by
  have hcond : (decide ((sol (advanceTo t s) n.val).phase = .hold) &&
      passed (advanceTo t s) (sol (advanceTo t s) n.val).since (p.tHoldMs * 1000000)) = true := by
    rw [decide_eq_true h, passed, decide_eq_true hdue]; rfl
  rw [exec_solHoldEnd, execSolHoldEnd]
  simp only [runningProfile, hp]
  exact congrArg Host.Outcome.next (if_pos hcond)

theorem solDeferExpired_runs (h : (sol (advanceTo t s) n.val).phase = .groupQ)
    (hdue : (sol (advanceTo t s) n.val).arrived.toNat + deferNs (advanceTo t s) n.val ≤ (advanceTo t s).sun.time.toNat) :
    exec (.solDeferExpired t n) s = .next (refusePeak n.val (advanceTo t s)) := by
  have hcond : ((decide ((sol (advanceTo t s) n.val).phase = .groupQ) ||
      (decide ((sol (advanceTo t s) n.val).phase = .tallyQ) && (sol (advanceTo t s) n.val).peakWait)) &&
      passed (advanceTo t s) (sol (advanceTo t s) n.val).arrived (deferNs (advanceTo t s) n.val)) = true := by
    rw [decide_eq_true h, passed, decide_eq_true hdue]; rfl
  rw [exec_solDeferExpired, execSolDeferExpired]
  exact congrArg Host.Outcome.next (if_pos hcond)

theorem solLowSideTrip_runs : exec (.solLowSideTrip t n) s = .next (lowTripped n.val (advanceTo t s)) := by
  rw [exec_solLowSideTrip, execSolLowSideTrip]
  simp only [sol_solOff]
  rfl

theorem neutralRampEnd_runs (h : (sol (advanceTo t s) n.val).phase = .neutral) :
    exec (.neutralRampEnd t n) s = .next (solOff n.val (advanceTo t s)) := by
  rw [exec_neutralRampEnd, execNeutralRampEnd]
  exact congrArg Host.Outcome.next (if_pos h)

theorem solCalOld_runs (hold : (sol (advanceTo t s) n.val).calold = false)
    (hdue : ((sol (advanceTo t s) n.val).calAt.getD (advanceTo t s).sys.dawnAt).toNat + 10000000000 ≤ (advanceTo t s).sun.time.toNat) :
    exec (.solCalOld t n) s = .next (raise .warning 0x06 0x0004 [chanWord (.sol n.val)]
      (setSol n.val { sol (advanceTo t s) n.val with calold := true } (advanceTo t s))) := by
  have hcond : (passed (advanceTo t s) ((sol (advanceTo t s) n.val).calAt.getD (advanceTo t s).sys.dawnAt) 10000000000 &&
      !(sol (advanceTo t s) n.val).calold) = true := by
    rw [passed, decide_eq_true hdue, hold]; rfl
  rw [exec_solCalOld, execSolCalOld]
  exact congrArg Host.Outcome.next (if_pos hcond)
end

/-! ### What each phase's end leaves -/

theorem noRise_spec (n : Nat) (u : State) : let v := noRise n u
    (sol v n).phase = .off ∧ (sol v n).norise = true ∧ (sol v n).setpoint = 0 ∧ ∃ r ∈ v.skein.raised, r.sev = .error ∧ r.source = 6 := by
  intro v
  have hsol : sol v n = { (sol (endRise n u) n).switchedOff with norise := true } := by simp [v, noRise]
  rw [hsol]
  exact ⟨rfl, rfl, rfl, _, List.mem_append_right _ (List.mem_singleton_self _), rfl, rfl⟩

theorem endBusy_spec (n : Nat) (s : State) : (endBusy n s).outs.groupQ = s.outs.groupQ ∧ (endBusy n s).tally = s.tally ∧
    (endBusy n s).sun = s.sun := by
  unfold endBusy
  split <;> exact ⟨rfl, rfl, rfl⟩

theorem endBusy_frees {n : Nat} {s : State} (hn : n < 32) (h : (sol s n).phase = .rise ∨ (sol s n).phase = .peak) :
    bit (endBusy n s).outs.busy (n / 4) = false := by
  have hbit : bit (setBit s.outs.busy (n / 4) false) (n / 4) = false := bit_setBit _ _ _ (by omega)
  unfold endBusy
  rcases h with h | h <;> simp only [h, hbit]

theorem peakEnded_spec {n : Nat} {u : State} (hn : n < 32) (h : (sol u n).phase = .rise ∨ (sol u n).phase = .peak) :
    let v := peakEnded n u
    (sol v n).phase = .fall ∧ (sol v n).setpoint = (sol u n).holdMa ∧ bit v.outs.busy (n / 4) = false ∧
      (∀ m, m ≠ n → sol v m = sol u m) ∧ v.tally = u.tally ∧ v.outs.groupQ = u.outs.groupQ := by
  have hrise : ∃ w, (if (sol u n).phase = .rise then endRise n u else u) = w ∧ (sol w n).phase = (sol u n).phase ∧
      (∀ m, m ≠ n → sol w m = sol u m) ∧ w.tally = u.tally ∧ w.outs.groupQ = u.outs.groupQ := by
    obtain ⟨hphase, hother, htally, _, hqueue⟩ := endRise_spec n u
    split
    · exact ⟨_, rfl, hphase, hother, htally, hqueue⟩
    · exact ⟨_, rfl, rfl, fun _ _ => rfl, rfl, rfl⟩
  obtain ⟨w, hw, hphase, hother, htally, hqueue⟩ := hrise
  obtain ⟨hqueue', htally', _⟩ := endBusy_spec n w
  have hbusy := endBusy_frees (s := w) hn (by rw [hphase]; exact h)
  simp only [peakEnded, hw]
  refine ⟨by rw [sol_setSol], by rw [sol_setSol], hbusy, fun m hm => ?_, htally'.trans htally, hqueue'.trans hqueue⟩
  rw [sol_setSol_ne _ _ _ _ hm, endBusy_sol, hother m hm]

theorem startHold_spec {n : Nat} {u : State} {p : ProfileDecl} (hp : profileOf u (sol u n).profile.toNat = some p) :
    let v := startHold n u
    (sol v n).phase = (if p.tHoldMs = 0 then .cur else .hold) ∧ (sol v n).setpoint = (sol u n).holdMa ∧
      (∀ m, m ≠ n → sol v m = sol u m) ∧ v = { u with outs := v.outs } := by
  refine ⟨?_, by simp [startHold], fun m hm => sol_setSol_ne _ _ _ _ hm, rfl⟩
  rw [startHold, sol_setSol]
  simp only [runningProfile, hp, Option.map_some, Option.getD_some]
  by_cases h : p.tHoldMs = 0 <;> simp [h]

/-- A peak refused at its deadline: counted, and the channel as it was before. -/
theorem refusePeak_spec {n : Nat} {u : State} (h : (sol u n).phase = .groupQ) : let v := refusePeak n u
    (sol v n).phase = (sol u n).prevPhase ∧ (sol v n).peakWait = false ∧
      counter v 0x0006001C n = (counter u 0x0006001C n).inc.1 := by
  have hnot : (sol u n).phase ≠ .tallyQ := by rw [h]; decide
  generalize hw : raise .error 0x06 0x001C [chanWord (.sol n), BitVec.ofNat 32 (n / 4),
    BitVec.ofNat 32 (u.sun.time.toNat - (sol u n).arrived.toNat)] (bump 0x0006001C n u) = w
  have hv : refusePeak n u = pumpGroup (n / 4) 4
      (leaveGroup n (setSol n { sol u n with phase := (sol u n).prevPhase, peakWait := false } w)) := by
    rw [← hw]
    simp only [refusePeak, if_neg hnot]
    rfl
  have hcount : counter w 0x0006001C n = (counter u 0x0006001C n).inc.1 := by
    rw [← hw, ← counter_bump]
    simp [counter]
  obtain ⟨hsol, hkept⟩ := pumpGroup_kept (fuel := 4)
    (not_mem_leaveGroup n (setSol n { sol u n with phase := (sol u n).prevPhase, peakWait := false } w))
  have hself : sol (leaveGroup n (setSol n { sol u n with phase := (sol u n).prevPhase, peakWait := false } w)) n =
      { sol u n with phase := (sol u n).prevPhase, peakWait := false } := sol_setSol _ _ _
  have huntallied : Untallied 0x0006001C := ⟨by decide, by decide⟩
  intro v
  have hv' : v = _ := hv
  rw [hv', hsol, hself, hkept _ _ huntallied]
  exact ⟨rfl, rfl, hcount⟩

/-! ### A coil's estimate (R294) -/

/-- The estimate of a coil, before its records. -/
def coilEstimated (n : Nat) (d : OutDecl) (r : Nat) (s : State) : State :=
  setSol n { sol s n with
    tcoil := BitVec.ofInt 16 (clampInt (-32768) 32767 (coilTemp d.r20 r)), res := BitVec.ofNat 16 (min 65535 (r / 10))
    coilhot := decide ((d.coilTmax : Int) * 16 < coilTemp d.r20 r)
    coilfault := decide (2 * r < d.r20) || decide (5 * d.r20 < 2 * r), coilAt := some s.sun.time } s

/-- The records of an estimate leave every channel and the Tally. -/
theorem coilNoted (n : Nat) (d : OutDecl) (r : Nat) (s : State) :
    let hot := decide ((d.coilTmax : Int) * 16 < coilTemp d.r20 r)
    let bad := decide (2 * r < d.r20) || decide (5 * d.r20 < 2 * r)
    let w := if hot && !(sol s n).coilhot then raise .warning 0x06 0x0004 [chanWord (.sol n)] (coilEstimated n d r s)
      else coilEstimated n d r s
    let v := if bad && !(sol s n).coilfault then raise .error 0x06 0x0004 [chanWord (.sol n)] w else w
    (∀ m, sol v m = sol (coilEstimated n d r s) m) ∧ v.tally = s.tally := by
  intro hot bad w v
  have hw : (∀ m, sol w m = sol (coilEstimated n d r s) m) ∧ w.tally = s.tally := by
    unfold w
    split
    · exact ⟨fun m => sol_raise _ _ _ _ _ _, rfl⟩
    · exact ⟨fun _ => rfl, rfl⟩
  unfold v
  split
  · exact ⟨fun m => (sol_raise _ _ _ _ _ _).trans (hw.1 m), hw.2⟩
  · exact hw

theorem solCoilEstimate_spec {t : Time} {n : Fin 32} {d : OutDecl} {r : Nat} {s : State}
    (hd : chanDecl (advanceTo t s) (.sol n.val) = some d) (hr : d.r20 ≠ 0)
    (hphase : (sol (advanceTo t s) n.val).phase = .cur ∨ (sol (advanceTo t s) n.val).phase = .hold)
    (hdue : (sol (advanceTo t s) n.val).since.toNat + 20000000 ≤ (advanceTo t s).sun.time.toNat)
    (hrest : ∀ c, (sol (advanceTo t s) n.val).coilAt = some c →
      64 * 1000000000 ≤ ((advanceTo t s).sun.time.toNat - c.toNat) * d.freq) :
    ∃ v, exec (.solCoilEstimate t n r) s = .next v ∧ (∀ m, sol v m = sol (coilEstimated n.val d r (advanceTo t s)) m) ∧
      v.tally = (advanceTo t s).tally := by
  have hholding : (decide ((sol (advanceTo t s) n.val).phase = .cur) || decide ((sol (advanceTo t s) n.val).phase = .hold)) = true := by
    simpa using hphase
  have hpassed : passed (advanceTo t s) (sol (advanceTo t s) n.val).since 20000000 = true := decide_eq_true hdue
  rw [exec_solCoilEstimate, execSolCoilEstimate]
  cases hc : (sol (advanceTo t s) n.val).coilAt with
  | none =>
    simp only [hd, hc, hholding, hpassed, decide_eq_false hr, Bool.not_true, Bool.or_self, Bool.false_eq_true, if_false]
    exact ⟨_, rfl, (coilNoted n.val d r (advanceTo t s)).1, (coilNoted n.val d r (advanceTo t s)).2⟩
  | some c =>
    have hrested : decide (64 * 1000000000 ≤ ((advanceTo t s).sun.time.toNat - c.toNat) * d.freq) = true := decide_eq_true (hrest c hc)
    simp only [hd, hc, hrested, hholding, hpassed, decide_eq_false hr, Bool.not_true, Bool.or_self, Bool.false_eq_true, if_false]
    exact ⟨_, rfl, (coilNoted n.val d r (advanceTo t s)).1, (coilNoted n.val d r (advanceTo t s)).2⟩

/-! ### A high-side trip (R295) -/

/-- A channel of a tripped group. -/
def highOff (n : Nat) (s : State) : State := setSol n { (sol s n).switchedOff with hstrip := true, wasCur := false } (solOff n s)

/-- With nothing in the group's queue, switching a channel off changes that channel alone. -/
theorem sol_solOff_ne {n m : Nat} {s : State} (hq : SMap.get s.outs.groupQ [] (n / 4) = []) (hm : m ≠ n) :
    sol (solOff n s) m = sol s m ∧ SMap.get (solOff n s).outs.groupQ [] (n / 4) = [] := by
  have hqueue : SMap.get (leaveGroup n (setSol n (sol s n).switchedOff (endBusy n s))).outs.groupQ [] (n / 4) = [] := by
    have hsame : (setSol n (sol s n).switchedOff (endBusy n s)).outs.groupQ = s.outs.groupQ := (endBusy_spec n s).1
    rw [leaveGroup, SMap.get_put_same, hsame, hq]
    rfl
  have hother : sol (leaveGroup n (setSol n (sol s n).switchedOff (endBusy n s))) m = sol s m :=
    (sol_setSol_ne _ _ _ _ hm).trans (endBusy_sol n m s)
  rw [solOff_eq]
  generalize leaveGroup n (setSol n (sol s n).switchedOff (endBusy n s)) = w at hqueue hother
  rw [pumpGroup_empty (by simpa using hqueue)]
  exact ⟨by rw [sol_unqueue, sol_giveBack, hother], by simpa using hqueue⟩

theorem highOff_spec {n : Nat} {s : State} (hq : SMap.get s.outs.groupQ [] (n / 4) = []) : let v := highOff n s
    ((sol v n).phase = .off ∧ (sol v n).hstrip = true) ∧ (∀ m, m ≠ n → sol v m = sol s m) ∧
      SMap.get v.outs.groupQ [] (n / 4) = [] ∧ loadSide v = loadSide s ∧ v.sys = s.sys := by
  refine ⟨?_, fun m hm => ?_, (sol_solOff_ne hq (Nat.succ_ne_self n)).2, ?_, by simp [highOff]⟩
  · rw [highOff, sol_setSol]
    exact ⟨rfl, rfl⟩
  · rw [highOff, sol_setSol_ne _ _ _ _ hm, (sol_solOff_ne hq hm).1]
  · rw [highOff, loadSide_setSol, loadSide_solOff]

/-- The channels of a group, from its first to before its `k`-th, go off. -/
theorem groupOff_spec (g k : Nat) {s : State} (hk : k ≤ 4) (hq : SMap.get s.outs.groupQ [] g = []) :
    let v := (List.range k).foldl (fun s i => highOff (4 * g + i) s) s
    (∀ i, i < k → (sol v (4 * g + i)).phase = .off ∧ (sol v (4 * g + i)).hstrip = true) ∧
      (∀ m, (m < 4 * g ∨ 4 * g + k ≤ m) → sol v m = sol s m) ∧ SMap.get v.outs.groupQ [] g = [] ∧ loadSide v = loadSide s ∧
      v.sys = s.sys := by
  induction k with
  | zero => exact ⟨fun i hi => absurd hi (Nat.not_lt_zero i), fun _ _ => rfl, hq, rfl, rfl⟩
  | succ k ih =>
    obtain ⟨hoff, hother, hqueue, hload, hsys⟩ := ih (by omega)
    simp only [List.range_succ, List.foldl_append, List.foldl_cons, List.foldl_nil]
    generalize (List.range k).foldl (fun s i => highOff (4 * g + i) s) s = w at hoff hother hqueue hload hsys
    have hgroup : (4 * g + k) / 4 = g := by omega
    obtain ⟨hnew, hrest, hqueue', hload', hsys'⟩ := highOff_spec (n := 4 * g + k) (s := w) (by rw [hgroup]; exact hqueue)
    rw [hgroup] at hqueue'
    refine ⟨fun i hi => ?_, fun m hm => ?_, hqueue', hload'.trans hload, hsys'.trans hsys⟩
    · by_cases hik : i = k
      · rw [hik]; exact hnew
      · rw [hrest _ (by omega)]
        exact hoff i (by omega)
    · rw [hrest _ (by omega)]
      exact hother m (by omega)

/-- A group that its high side has tripped. -/
def groupTripped (g : Nat) (s : State) : State :=
  raise .error 0x06 0x0004 [BitVec.ofNat 32 g] ((List.range 4).foldl (fun s i => highOff (4 * g + i) s)
    { s with outs := { s.outs with groupQ := SMap.put s.outs.groupQ [] g [] } })

theorem solHighSideTrip_runs (t : Time) (g : Fin 8) (s : State) :
    exec (.solHighSideTrip t g) s = .next (groupTripped g.val (advanceTo t s)) := by
  rw [exec_solHighSideTrip, execSolHighSideTrip]
  simp only [sol_solOff]
  rfl

theorem groupTripped_spec (g : Nat) (u : State) : let v := groupTripped g u
    (∀ i, i < 4 → (sol v (4 * g + i)).phase = .off ∧ (sol v (4 * g + i)).hstrip = true) ∧
      (∀ m, (m < 4 * g ∨ 4 * g + 4 ≤ m) → sol v m = sol u m) ∧ v.outs.lsw = u.outs.lsw ∧ v.sys = u.sys := by
  have hall := groupOff_spec g 4 (s := { u with outs := { u.outs with groupQ := SMap.put u.outs.groupQ [] g [] } }) le_rfl
    (SMap.get_put_same u.outs.groupQ [] g [])
  have hv : groupTripped g u = raise .error 0x06 0x0004 [BitVec.ofNat 32 g] ((List.range 4).foldl (fun s i => highOff (4 * g + i) s)
    { u with outs := { u.outs with groupQ := SMap.put u.outs.groupQ [] g [] } }) := rfl
  rw [hv]
  generalize (List.range 4).foldl (fun s i => highOff (4 * g + i) s)
    { u with outs := { u.outs with groupQ := SMap.put u.outs.groupQ [] g [] } } = w at hall
  obtain ⟨hoff, hother, _, hload, hsys⟩ := hall
  refine ⟨fun i hi => by rw [sol_raise]; exact hoff i hi, fun m hm => by rw [sol_raise]; exact hother m hm, ?_, hsys⟩
  exact (outs_of_loadSide hload).1

/-- Settles O39: each phase of a profile is left by its own event, and what the event leaves of the channel and of its group. -/
theorem profilesRun : Obligations.ProfilesRun := by
  intro t n s
  refine ⟨⟨fun h => ⟨_, solRiseDone_runs h, ?riseDone⟩, fun p h hp hd hm => ⟨_, solArmatureMove_runs h hp hd hm, sol_setSol _ _ _, rfl⟩,
    fun p h hp hdue hbefore => ⟨_, solRiseTimeout_runs h hp hdue hbefore, noRise_spec _ _⟩,
    fun h hrise hdue hq => ⟨_, solPeakEnd_runs h hrise hdue, ?peakEnd⟩, fun _ hearly => solPeakEnd_early hearly,
    fun p h hp => ⟨⟨_, solFallDone_runs h, startHold_spec hp⟩, fun hdue => ⟨_, solFallTimeout_runs h hp hdue, ?fallTimeout⟩⟩,
    fun p h hp hdue => ⟨fun hstay => ⟨_, solHoldEnd_runs h hp hdue, ?stay⟩, fun hstay => ⟨_, solHoldEnd_runs h hp hdue, ?off⟩⟩,
    fun h hdue _ => ⟨_, solDeferExpired_runs h hdue, refusePeak_spec h⟩, ⟨_, solLowSideTrip_runs, lowTripped_spec _ _⟩,
    fun h => ⟨_, neutralRampEnd_runs h, ?neutral⟩, fun hold hdue => ⟨_, solCalOld_runs hold hdue, ?calOld⟩,
    fun d r hd hr hphase hdue hrest => ?coil⟩, fun g => ⟨_, solHighSideTrip_runs t g s, groupTripped_spec _ _⟩⟩
  case riseDone =>
    obtain ⟨_, hother, htally, _⟩ := endRise_spec n.val (advanceTo t s)
    refine ⟨by rw [sol_setSol], by rw [sol_setSol], fun m hm => ?_, htally⟩
    rw [sol_setSol_ne _ _ _ _ hm, hother m hm]
  case peakEnd =>
    obtain ⟨hphase, hset, hbusy, hother, htally, hqueue⟩ := peakEnded_spec n.isLt h
    rw [pumpGroup_empty (by rw [hqueue]; exact hq)]
    exact ⟨hphase, hset, hbusy, hother, htally⟩
  case fallTimeout =>
    obtain ⟨hphase, hset, _, hframe⟩ := startHold_spec hp
    refine ⟨by rw [sol_raise, hphase], by rw [sol_raise, hset], ⟨_, List.mem_append_right _ (List.mem_singleton_self _), rfl, rfl⟩, ?_⟩
    generalize startHold n.val (advanceTo t s) = w at hframe
    rw [hframe]
    rfl
  case stay =>
    rw [if_pos hstay]
    exact ⟨sol_setSol _ _ _, rfl⟩
  case off =>
    rw [if_neg (by simp [hstay]), sol_solOff]
    exact ⟨rfl, rfl⟩
  case neutral =>
    rw [sol_solOff]
    exact ⟨rfl, rfl⟩
  case calOld =>
    exact ⟨by rw [sol_raise, sol_setSol], ⟨_, List.mem_append_right _ (List.mem_singleton_self _), rfl, rfl⟩, rfl⟩
  case coil =>
    obtain ⟨v, hv, hsol, htally⟩ := solCoilEstimate_spec hd hr hphase hdue hrest
    refine ⟨v, hv, ?_⟩
    rw [hsol, coilEstimated, sol_setSol]
    exact ⟨rfl, rfl, rfl, rfl, fun m hm => by rw [hsol, coilEstimated, sol_setSol_ne _ _ _ _ hm], htally⟩

end Sys2Proof.Machine
end

section
/-! PROOFS. Sensor ports, supply outputs and the IMU (R188 to R194). -/
namespace Sys2Proof.Machine
open Sys2Proof.Safety

/-! ### Sensor ports (R188 to R191) -/

section
variable {t : Time} {p : Fin 12} {d : SensorDecl} {s : State} (hd : sensorDecl (advanceTo t s) p.val = some d)
include hd

/-- A sync pulse as it leaves: the port's state behind it. -/
def synced (p : Nat) (d : SensorDecl) (t : Time) (s : State) : Sensor :=
  { sensor s p with
    sync := some t, syncOn := elapsedNs s
    syncDev := BitVec.ofNat 32 (max ((Config.freeWord s.free).toNat % (1 + (if (sensor s p).degraded then d.periodNs / 100 else 500)))
      (sensor s p).syncDev.toNat) }

theorem psi5SyncPulse_runs (hfront : frontAt t (advanceTo t s) = true) (hsen : senRuns (advanceTo t s) = true) (hmode : psi5Port d = true)
    (hpower : (sensor (advanceTo t s) p.val).power = true) (hdue : t.toNat % d.periodNs = d.offsetNs % d.periodNs)
    (hspaced : (sensor (advanceTo t s) p.val).sync = none ∨
      (sensor (advanceTo t s) p.val).syncOn + d.periodNs ≤ elapsedNs (advanceTo t s)) :
    exec (.psi5SyncPulse t p) s = .next (send (.psi5Sync p.val t) (setSensor p.val (synced p.val d t (advanceTo t s))
      { advanceTo t s with free := (advanceTo t s).free + 1 })) := by
  have hcond : (frontAt t (advanceTo t s) && senRuns (advanceTo t s) && psi5Port d && (sensor (advanceTo t s) p.val).power &&
      decide (t.toNat % d.periodNs = d.offsetNs % d.periodNs) && ((sensor (advanceTo t s) p.val).sync.isNone ||
      decide ((sensor (advanceTo t s) p.val).syncOn + d.periodNs ≤ elapsedNs (advanceTo t s)))) = true := by
    rw [hfront, hsen, hmode, hpower, decide_eq_true hdue]
    rcases hspaced with h | h
    · rw [h]; rfl
    · rw [decide_eq_true h, Bool.or_true]; rfl
  rw [exec_psi5SyncPulse, execPsi5SyncPulse]
  simp only [hd]
  rw [if_pos hcond]
  rfl

section
variable {sl : Fin 4} {sb y : Time} {w : Psi5Slot} {f : Psi5Frame} (hmode : psi5Port d = true)
  (hpower : (sensor (advanceTo t s) p.val).power = true) (hsen : senRuns (advanceTo t s) = true)
  (hsync : (sensor (advanceTo t s) p.val).sync = some y) (hw : d.slots[sl.val]? = some w)
include hmode hpower hsen hsync hw

theorem psi5Frame_outOfSlot {f : Psi5Frame} (hslot : inSlot y sb (sensor (advanceTo t s) p.val).degraded w = false) :
    exec (.psi5Frame t p sl sb f) s = .next (frameError p.val sl.val 1 (advanceTo t s)) := by
  rw [exec_psi5Frame, execPsi5Frame]
  simp [hd, hsync, hw, hmode, hpower, hsen, hslot]

theorem psi5Frame_error {f : Psi5Frame} {c : Nat} (hslot : inSlot y sb (sensor (advanceTo t s) p.val).degraded w = true)
    (he : psi5Error w f = some c) : exec (.psi5Frame t p sl sb f) s = .next (frameError p.val sl.val c (advanceTo t s)) := by
  rw [exec_psi5Frame, execPsi5Frame]
  simp [hd, hsync, hw, hmode, hpower, hsen, hslot, he]

theorem psi5Frame_good {f : Psi5Frame} (hslot : inSlot y sb (sensor (advanceTo t s) p.val).degraded w = true)
    (he : psi5Error w f = none) : exec (.psi5Frame t p sl sb f) s = .next (land w.signal .port
      (Config.portValue p.val sl.val (ofBits f.data.reverse)) (y + BitVec.ofInt 64 w.sampleOffsetNs) .valid
      (bump 0x000D0008 p.val (advanceTo t s))) := by
  rw [exec_psi5Frame, execPsi5Frame]
  simp [hd, hsync, hw, hmode, hpower, hsen, hslot, he]
end

theorem sentFrame_error {c : Time} {f : SentFrame} {e : Nat} (hmode : sentPort d = true)
    (hpower : (sensor (advanceTo t s) p.val).power = true) (hsen : senRuns (advanceTo t s) = true)
    (he : sentDecode d (sensor (advanceTo t s) p.val).calNs f = .error e) : exec (.sentFrame t p c f) s = .next
      (frameError p.val 0 e (setSensor p.val { sensor (advanceTo t s) p.val with calNs := some f.calNs, status := [] } (advanceTo t s))) := by
  have hcond : (!sentPort d || !(sensor (advanceTo t s) p.val).power || !senRuns (advanceTo t s)) = false := by
    rw [hmode, hpower, hsen]; rfl
  rw [exec_sentFrame, execSentFrame]
  simp only [hd, he, hcond, Bool.false_eq_true, if_false]

/-- The status bits that a good SENT frame leaves for the slow messages. -/
def sentStatus (d : SensorDecl) (l : List Nat) (x : Sensor) : List (Bool × Bool) :=
  (((l.headD 0).testBit 3, (l.headD 0).testBit 2) :: x.status).take (if d.slowFormat = 1 then 16 else 18)

theorem sentFrame_good {c : Time} {f : SentFrame} {l : List Nat} {g k : Nat} (hmode : sentPort d = true)
    (hpower : (sensor (advanceTo t s) p.val).power = true) (hsen : senRuns (advanceTo t s) = true)
    (hl : sentDecode d (sensor (advanceTo t s) p.val).calNs f = .ok l) (hfast : d.fast = [(g, k)])
    (hslow : slowMessage d.slowFormat (sentStatus d l (sensor (advanceTo t s) p.val)).reverse = none) :
    exec (.sentFrame t p c f) s = .next (land g .port (Config.portValue p.val 0 (((l.drop 1).take k).foldl (fun v x => 16 * v + x) 0))
      (c - BitVec.ofInt 64 d.sentOffsetNs) .valid (bump 0x000D0008 p.val (setSensor p.val { sensor (advanceTo t s) p.val with
        calNs := some f.calNs, status := sentStatus d l (sensor (advanceTo t s) p.val) } (advanceTo t s)))) := by
  have hcond : (!sentPort d || !(sensor (advanceTo t s) p.val).power || !senRuns (advanceTo t s)) = false := by
    rw [hmode, hpower, hsen]; rfl
  simp only [sentStatus] at hslow
  rw [exec_sentFrame, execSentFrame]
  simp only [hd, hl, hcond, hfast, hslow, fastChannels, Bool.false_eq_true, if_false]
  rfl

/-- A port whose supply has tripped. -/
def portTripped (p : Nat) (s : State) : State :=
  portDark p (giveBack 4 (.port p) (setSensor p { sensor s p with
    power := false, short := true, offAt := s.sun.time, sync := none, calNs := none, status := [] } s))

omit hd in
theorem portSupplyOvercurrent_runs (hpower : (sensor (advanceTo t s) p.val).power = true) :
    exec (.portSupplyOvercurrent t p) s = .next (portTripped p.val (advanceTo t s)) := by
  have hcond : (!(sensor (advanceTo t s) p.val).power) = false := by rw [hpower]; rfl
  rw [exec_portSupplyOvercurrent, execPortSupplyOvercurrent]
  simp only [hcond, Bool.false_eq_true, if_false]
  rfl

theorem portSupplyRetry_runs (hshort : (sensor (advanceTo t s) p.val).short = true) (hpower : (sensor (advanceTo t s) p.val).power = false)
    (hdue : (sensor (advanceTo t s) p.val).offAt.toNat + 100000000 ≤ (advanceTo t s).sun.time.toNat)
    (hq : (ledger (advanceTo t s) 4).queue = []) :
    exec (.portSupplyRetry t p) s = .next (submit 4 (portClaim d) (advanceTo t s)) := by
  have hpassed : passed (advanceTo t s) (sensor (advanceTo t s) p.val).offAt 100000000 = true := decide_eq_true hdue
  have hcond : ((sensor (advanceTo t s) p.val).short && !(sensor (advanceTo t s) p.val).power &&
      passed (advanceTo t s) (sensor (advanceTo t s) p.val).offAt 100000000 && !waits (advanceTo t s) 4 (.port p.val)) = true := by
    rw [hshort, hpower, hpassed, waits_of_empty hq]; rfl
  rw [exec_portSupplyRetry, execPortSupplyRetry]
  simp only [hd]
  rw [if_pos hcond]
end

/-! ### What a frame and a port's supply leave -/

theorem frameError_spec (p c : Nat) {sl : Nat} (s : State) (hsl : sl < 4) : let v := frameError p sl c s
    (sensor v p).lastErr = BitVec.ofNat 6 (16 * sl + c % 16) ∧ counter v 0x000D000C p = (counter s 0x000D000C p).inc.1 ∧
      v.core = s.core := by
  refine ⟨?_, counter_bump _ _ _, by simp [frameError]⟩
  have hsensor : sensor (frameError p sl c s) p =
      { sensor s p with lastErr := BitVec.ofNat 6 (16 * (sl % 4) + c % 16) } := by simp [frameError, sensor, setSensor]
  rw [hsensor, Nat.mod_eq_of_lt hsl]

theorem noteDeparture_core (i : Nat) (l : List Sample) (st : SigStatus) (s : State) : (noteDeparture i l st s).core = s.core := by simp

/-- The newest sample of a signal rewritten: its value stands, its status is QUARANTINED. -/
theorem ring_quarantineNewest {i : Nat} {o : Sample} {r : List Sample} {s : State} (h : (ring s i).samples = o :: r) :
    (ring (quarantineNewest i s) i).samples = { o with status := .quarantined } :: r := by
  have hring : ring (quarantineNewest i s) i = { ring s i with samples := { o with status := .quarantined } :: r } := by
    simp only [quarantineNewest, h]
    rw [ring, noteDeparture_core, ← ring, ring_setRing]
  rw [hring]

theorem sensor_congr {s v : State} (h : v.inputs = s.inputs) (p : Nat) : sensor v p = sensor s p := by rw [sensor, h]; rfl

theorem inputs_portDark (p : Nat) (s : State) : (portDark p s).inputs = s.inputs := by simp

theorem portTripped_spec {p : Nat} {d : SensorDecl} {s : State} (hd : sensorDecl s p = some d) : let v := portTripped p s
    sensor v p = { sensor s p with power := false, short := true, offAt := s.sun.time, sync := none, calNs := none, status := [] } ∧
      holds v 4 (.port p) = false ∧
      (∀ i o r, portSignals d = [i] → (ring s i).samples = o :: r → (ring v i).samples = { o with status := .quarantined } :: r) ∧
      (∀ q, q ≠ p → sensor v q = sensor s q) := by
  have hinputs : (portTripped p s).inputs = (setSensor p { sensor s p with
      power := false, short := true, offAt := s.sun.time, sync := none, calNs := none, status := [] } s).inputs := by
    simp [portTripped]
  refine ⟨?_, ?_, fun i o r hsig hring => ?_, fun q hq => ?_⟩
  · rw [sensor_congr hinputs, sensor_setSensor]
  · refine (congrArg (fun g : Ledger => g.admitted.any fun a => decide (a.claim.owner = .port p)) (ledger_congr ?_ 4)).trans
      (holds_giveBack 4 (.port p) (setSensor p { sensor s p with
        power := false, short := true, offAt := s.sun.time, sync := none, calNs := none, status := [] } s))
    simp [portTripped]
  · have hd' : sensorDecl (giveBack 4 (.port p) (setSensor p { sensor s p with
        power := false, short := true, offAt := s.sun.time, sync := none, calNs := none, status := [] } s)) p = some d := by
      rw [← hd]; simp [sensorDecl, setup, setSensor]
    rw [portTripped, portDark]
    simp only [hd', hsig, List.foldl]
    refine ring_quarantineNewest ?_
    rw [← hring]; simp [ring, setSensor]
  · rw [sensor_congr hinputs, sensor_setSensor_ne _ _ _ _ hq]

/-- A port's supply is admitted again (R191). -/
theorem portRetried_spec {p : Nat} {d : SensorDecl} {s : State} (hport : d.port = p) (hq : (ledger s 4).queue = [])
    (hf : fits s 4 (portClaim d) = true) : let v := submit 4 (portClaim d) s
    (sensor v p).power = true ∧ (sensor v p).short = false ∧ holds v 4 (.port p) = true := by
  have howner : (portClaim d).owner = .port p := by rw [← hport]; rfl
  have hsub : submit 4 (portClaim d) s = setSensor p { sensor (enter 4 (portClaim d) s) p with power := true, short := false }
      (enter 4 (portClaim d) s) := by
    rw [submit_admits hq hf, howner]; rfl
  rw [hsub]
  refine ⟨by rw [sensor_setSensor], by rw [sensor_setSensor], ?_⟩
  rw [← howner]
  exact holds_enter _ _ _

/-! ### Supply outputs (R193) -/

section
variable {t : Time} {n : Fin 16} {s : State}

/-- A supply output at its current limit. -/
def supTripped (n : Nat) (s : State) : State :=
  giveBack 4 (.sup n) { s with inputs := { s.inputs with
    supOn := setBit s.inputs.supOn n false, supFault := setBit s.inputs.supFault n true
    supYoung := setBit s.inputs.supYoung n false, supAt := SMap.insert s.inputs.supAt n s.sun.time } }

theorem supCurrentLimit_runs (hon : bit (advanceTo t s).inputs.supOn n.val = true) :
    exec (.supCurrentLimit t n) s = .next (supTripped n.val (advanceTo t s)) := by
  rw [exec_supCurrentLimit, execSupCurrentLimit]
  simp only [hon, Bool.not_true, Bool.false_eq_true, if_false]
  rfl

theorem supRetry_runs {d : SupDecl} (hd : (setup (advanceTo t s)).sups.find? (fun d => decide (d.sup = n.val)) = some d)
    (hfault : bit (advanceTo t s).inputs.supFault n.val = true) (hoff : bit (advanceTo t s).inputs.supOn n.val = false)
    (hdue : (SMap.get (advanceTo t s).inputs.supAt 0 n.val).toNat + 100000000 ≤ (advanceTo t s).sun.time.toNat)
    (hq : (ledger (advanceTo t s) 4).queue = []) :
    exec (.supRetry t n) s = .next (submit 4 (supClaim d) (advanceTo t s)) := by
  have hcond : (bit (advanceTo t s).inputs.supFault n.val && !bit (advanceTo t s).inputs.supOn n.val &&
      passed (advanceTo t s) (SMap.get (advanceTo t s).inputs.supAt 0 n.val) 100000000 &&
      !waits (advanceTo t s) 4 (.sup n.val)) = true := by
    rw [hfault, hoff, waits_of_empty hq, show passed _ _ _ = true from decide_eq_true hdue]; rfl
  rw [exec_supRetry, execSupRetry]
  simp only [hd]
  rw [if_pos hcond]

theorem supSettled_runs (hon : bit (advanceTo t s).inputs.supOn n.val = true)
    (hdue : (SMap.get (advanceTo t s).inputs.supAt 0 n.val).toNat + 5000000 ≤ (advanceTo t s).sun.time.toNat) :
    exec (.supSettled t n) s = .next { advanceTo t s with inputs := { (advanceTo t s).inputs with
      supYoung := setBit (advanceTo t s).inputs.supYoung n.val false } } := by
  have hcond : (bit (advanceTo t s).inputs.supOn n.val &&
      passed (advanceTo t s) (SMap.get (advanceTo t s).inputs.supAt 0 n.val) 5000000) = true := by
    rw [hon, show passed _ _ _ = true from decide_eq_true hdue]; rfl
  rw [exec_supSettled, execSupSettled]
  exact congrArg Host.Outcome.next (if_pos hcond)
end

theorem supTripped_spec {n : Nat} (hn : n < 16) (s : State) : let v := supTripped n s
    bit v.inputs.supOn n = false ∧ bit v.inputs.supFault n = true ∧ holds v 4 (.sup n) = false ∧
      (∀ m, m < 16 → m ≠ n → bit v.inputs.supOn m = bit s.inputs.supOn m ∧ bit v.inputs.supFault m = bit s.inputs.supFault m) ∧
      v = { s with inputs := v.inputs, tally := v.tally } := by
  have hinputs : (supTripped n s).inputs = { s.inputs with
      supOn := setBit s.inputs.supOn n false, supFault := setBit s.inputs.supFault n true
      supYoung := setBit s.inputs.supYoung n false, supAt := SMap.insert s.inputs.supAt n s.sun.time } := by simp [supTripped]
  refine ⟨?_, ?_, holds_giveBack _ _ _, fun m _ hm => ⟨?_, ?_⟩, ?_⟩
  · rw [hinputs]; exact bit_setBit _ _ _ hn
  · rw [hinputs]; exact bit_setBit _ _ _ hn
  · rw [hinputs]; exact bit_setBit_ne _ _ hm
  · rw [hinputs]; exact bit_setBit_ne _ _ hm
  · apply State.eq_of_parts <;> simp [supTripped]

theorem supRetried_spec {n : Nat} {d : SupDecl} {s : State} (hn : n < 16) (hsup : d.sup = n) (hq : (ledger s 4).queue = [])
    (hf : fits s 4 (supClaim d) = true) : let v := submit 4 (supClaim d) s
    bit v.inputs.supOn n = true ∧ bit v.inputs.supFault n = false ∧ bit v.inputs.supYoung n = true ∧ holds v 4 (.sup n) = true := by
  have howner : (supClaim d).owner = .sup n := by rw [← hsup]; rfl
  have hsub : submit 4 (supClaim d) s = onAdmitted (.sup n) (enter 4 (supClaim d) s) := by rw [submit_admits hq hf, howner]
  rw [hsub]
  refine ⟨bit_setBit _ _ _ hn, bit_setBit _ _ _ hn, bit_setBit _ _ _ hn, ?_⟩
  rw [← howner]
  exact holds_enter _ _ _

/-! ### The IMU (R194) -/

/-- The samples of an IMU sample landed, one signal after the other. -/
def imuLanded (t : Time) (st : SigStatus) (l : List (Nat × Word)) (s : State) : State :=
  l.foldl (fun s e => land e.1 .imu e.2 t st s) s

theorem imuSample_runs {t : Time} {l : List Word} {temp : BitVec 16} {fs : Bool} {s : State} (hfront : frontAt t (advanceTo t s) = true)
    (hrun : (advanceTo t s).inputs.imuRun = true) (hsen : senRuns (advanceTo t s) = true) (ht : t.toNat % 500000 = 0) :
    exec (.imuSample t l temp fs) s = .next (imuLanded t (if fs || (advanceTo t s).inputs.imuFail then .quarantined else .valid)
      ((writtenBy (cop (advanceTo t s)) fun w => decide (w = .imu)).zip (l.take 6))
      { advanceTo t s with inputs := { (advanceTo t s).inputs with imuTemp := temp } }) := by
  have hcond : (!frontAt t (advanceTo t s) || !imuSamples (advanceTo t s) || decide (t.toNat % 500000 ≠ 0)) = false := by
    have hparts := hfront
    simp only [frontAt, Bool.and_eq_true] at hparts
    obtain ⟨⟨⟨hpow, hsun⟩, hmid⟩, -⟩ := hparts
    rw [hfront, imuSamples, hpow, hsun, hrun, hsen, hmid, ht]; rfl
  rw [exec_imuSample, execImuSample]
  simp only [hcond, Bool.false_eq_true, if_false]
  rfl

/-- What a landing sample leaves of the state, its ring, its counters and its record aside. -/
def landSide (s : State) : Inputs × Sys × SMap Byte × SMap Activation := (s.inputs, s.sys, s.core.sram, s.core.acts)

theorem landSide_land (i : Nat) (w : Writer) (q : Word) (t : Time) (st : SigStatus) (s : State) :
    landSide (land i w q t st s) = landSide s := by
  unfold land
  dsimp only
  (repeat' split) <;> simp [landSide, setRing]

theorem landSide_imuLanded (t : Time) (st : SigStatus) (l : List (Nat × Word)) (s : State) :
    landSide (imuLanded t st l s) = landSide s :=
  foldl_keeps landSide (fun s (e : Nat × Word) => landSide_land e.1 .imu e.2 t st s) l s

/-- A sample that a unit writes into an empty ring. -/
theorem land_unit {i : Nat} {w : Writer} {q : Word} {t : Time} {st : SigStatus} {d : SigDecl} {s : State} (hwriter : byTask w = false)
    (hlane : laneActive s = true) (hgate : s.lanes.gate = true) (hd : sigDecl (cop s) i = some d) (hw : d.writer = w)
    (hlate : lateForTask s i t s.sun.time = false) (hring : ring s i = {}) (hdepth : 0 < d.depth) :
    (ring (land i w q t st s) i).samples = [{ value := q, stamp := t, status := st, landed := s.sun.time, spin := false }] := by
  have hland := land_newest (r := ring s i) (depth := d.depth)
    (x := { value := q, stamp := t, status := st, landed := s.sun.time, spin := false }) (by simp [hring]) (by simp [hring]) hdepth
  unfold land
  simp only [hlane, hgate, hd, hw, hwriter, hlate, hring, SigRing.isLate, List.any_nil, Bool.or_false, Bool.not_true, Bool.and_false,
    Bool.not_false]
  rw [hring] at hland
  simp only [Bool.false_eq_true, if_false, ne_eq, not_true_eq_false, hland]
  rw [ring, noteDeparture_core, ← ring, ring_setRing, hland.1]
  exact List.take_of_length_le hdepth

theorem imuLanded_spec {t : Time} {temp : BitVec 16} {st : SigStatus} {l : List (Nat × Word)} {s : State} :
    let v := imuLanded t st l { s with inputs := { s.inputs with imuTemp := temp } }
    v.inputs = { s.inputs with imuTemp := temp } ∧ v.sys = s.sys ∧ v.core.sram = s.core.sram ∧ v.core.acts = s.core.acts := by
  have hside := landSide_imuLanded t st l { s with inputs := { s.inputs with imuTemp := temp } }
  simp only [landSide, Prod.mk.injEq] at hside
  exact hside

/-- Settles O41: a rule per command — what runs it, what it leaves — for ports, supply outputs and the IMU. -/
theorem sensorsAndImu : Obligations.SensorsAndImu := by
  refine ⟨fun t p d s hd => ⟨fun hfront hsen hmode hpower hdue hspaced =>
    ⟨_, psi5SyncPulse_runs hd hfront hsen hmode hpower hdue hspaced, ?pulse⟩, fun sl sb y w hmode hpower hsen hsync hw =>
    ⟨fun f c hslot he => ⟨_, psi5Frame_error hd hmode hpower hsen hsync hw hslot he, frameError_spec _ _ _ sl.isLt⟩,
      fun f hslot => ⟨_, psi5Frame_outOfSlot hd hmode hpower hsen hsync hw hslot, frameError_spec _ 1 _ sl.isLt⟩,
      fun f hslot he => ⟨_, psi5Frame_good hd hmode hpower hsen hsync hw hslot he, rfl⟩⟩, fun c f hmode hpower hsen =>
    ⟨fun l g k hl hfast hslow => ⟨_, sentFrame_good hd hmode hpower hsen hl hfast hslow, rfl⟩,
      fun e he => ⟨_, sentFrame_error hd hmode hpower hsen he, ?error⟩⟩, fun hpower =>
    ⟨_, portSupplyOvercurrent_runs hpower, portTripped_spec hd⟩, fun hshort hpower hdue hq hport hf =>
    ⟨_, portSupplyRetry_runs hd hshort hpower hdue hq, portRetried_spec hport hq hf⟩⟩, fun t n s =>
    ⟨fun hon => ⟨_, supCurrentLimit_runs hon, supTripped_spec n.isLt _⟩, fun d hd hfault hoff hdue hq hf =>
    ⟨_, supRetry_runs hd hfault hoff hdue hq, supRetried_spec n.isLt (by simpa using List.find?_some hd) hq hf⟩, fun hon hdue =>
    ⟨_, supSettled_runs hon hdue, bit_setBit _ _ _ n.isLt, rfl⟩⟩, fun t l temp fs s hfront hrun hsen ht =>
    ⟨_, imuSample_runs hfront hrun hsen ht, ?imu⟩⟩
  case pulse =>
    generalize advanceTo t s = u at *
    have hsensor : sensor (setSensor p.val (synced p.val d t u) u) p.val = synced p.val d t u := sensor_setSensor _ _ _
    exact ⟨rfl, congrArg Sensor.sync hsensor, (congrArg Sensor.power hsensor).trans hpower, rfl⟩
  case error =>
    generalize advanceTo t s = u at *
    obtain ⟨hlast, hcount, hcore⟩ := frameError_spec p.val e (sl := 0) (setSensor p.val { sensor u p.val with calNs := some f.calNs, status := [] } u) (by decide)
    exact ⟨hlast.trans (by simp), hcount, hcore⟩
  case imu =>
    generalize advanceTo t s = u at *
    obtain ⟨hinputs, hsys, hsram, hacts⟩ := imuLanded_spec (t := t) (temp := temp) (s := u)
      (st := if fs || u.inputs.imuFail then .quarantined else .valid)
      (l := (writtenBy (cop u) fun w => decide (w = .imu)).zip (l.take 6))
    refine ⟨hinputs, fun i d q hsig hd hw hlane hgate hlate hring hdepth hq => ?_, hsys, hsram, hacts⟩
    have htime : u.sun.time = t := by
      simp only [frontAt, Bool.and_eq_true, decide_eq_true_eq] at hfront
      exact hfront.2
    obtain ⟨r, rfl⟩ : ∃ r, l = q :: r := List.head?_eq_some_iff.1 hq
    rw [hsig]
    exact (land_unit (s := { u with inputs := { u.inputs with imuTemp := temp } }) rfl hlane hgate hd hw
      (htime.symm ▸ hlate) hring hdepth).trans (by rw [htime])

end Sys2Proof.Machine
end

section
/-! PROOFS. The Strike unit (R196 to R208). -/
namespace Sys2Proof.Machine
open Sys2Proof.Safety

/-- What a record raised is found by. -/
theorem raise_raises (v : Severity) (b : BitVec 8) (c : BitVec 16) (l : List Word) (s : State) :
    ∃ r ∈ (raise v b c l s).skein.raised, r.sev = v ∧ r.source = b :=
  ⟨makeRecord v b c l s, List.mem_append_right _ List.mem_cons_self, rfl, rfl⟩

@[simp] theorem stk_raise (v : Severity) (b : BitVec 8) (c : BitVec 16) (l : List Word) (n : Nat) (s : State) :
    stk (raise v b c l s) n = stk s n := rfl

/-! ### Strike samples in stages (R196 to R200) -/

@[simp] theorem watchBand_keeps (t : Time) (x : StkCh) : (watchBand t x).b = x.b ∧ (watchBand t x).env = x.env ∧
    (watchBand t x).thr = x.thr ∧ (watchBand t x).armed = x.armed ∧ (watchBand t x).fault = x.fault ∧ (watchBand t x).dead = x.dead ∧
    (watchBand t x).nf = x.nf ∧ (watchBand t x).ys = x.ys ∧ (watchBand t x).windows = x.windows := by
  unfold watchBand
  split <;> simp

/-- A channel behind one conversion: baseline, envelope, the windows in capture (R197, R200). -/
def converted (d : StrikeDecl) (t : Time) (code : Nat) (x : StkCh) : StkCh :=
  watchBand t { (envelope d code x).1 with last := some t, windows := (envelope d code x).1.windows.map (takeSample (envelope d code x).2) }

/-- A channel detects (R199). -/
def hits (x : StkCh) : Bool := x.armed && !x.fault && decide (x.thr ≤ x.env)

/-- A detection disarms; else the dead time runs, and behind it the channel is armed below the threshold (R199). -/
def shot (d : StrikeDecl) (x : StkCh) : StkCh :=
  if hits x then { x with armed := false, dead := d.dead }
  else if decide (0 < x.dead) then { x with dead := x.dead - 1 }
  else if decide (x.env < x.thr) then { x with armed := true } else x

/-- A window opens on a detection with the samples `pre` before it (R200). -/
def opened (d : StrikeDecl) (n : Nat) (cap hit : Bool) (t : Time) (y : Int) (pre : List Int) (x : StkCh) : StkCh :=
  if hit && decide (pre.length = d.pre) then
    { x with windows := x.windows ++ [{ ch := n, cap := cap, stamp := t, samples := pre ++ [y], left := 63 - d.pre }] }
  else x

/-- A sample enters the block in progress, which ends with its last one (R198). -/
def blocked (d : StrikeDecl) (t : Time) (y : Int) (busy : Bool) (x : StkCh) : StkCh :=
  let x := { x with ys := (y :: x.ys).take 32, sumEnv := x.sumEnv + x.env, inBlock := x.inBlock + 1, busyBlock := x.busyBlock || busy }
  if t.toNat / 2500 % 64 = 63 then endBlock d t x else x

/-- A channel behind one sample. -/
def sampled (d : StrikeDecl) (n : Nat) (cap : Bool) (t : Time) (code : Nat) (x : StkCh) : StkCh :=
  let e := envelope d code x
  let c := converted d t code x
  blocked d t e.2 (hits c || decide (0 < c.dead) || e.1.windows.any fun w => decide (0 < w.left))
    (opened d n cap (hits c) t e.2 ((shot d c).ys.take d.pre).reverse (shot d c))

/-- A detection as it counts, with the channel behind it. -/
def countDetection (n : Nat) (x : StkCh) (s : State) : State :=
  let v := setStk n x s
  bump 0x000B0010 n { v with strike := { v.strike with capUse := v.strike.capCh } }

theorem countDetection_spec (n : Nat) (x : StkCh) (s : State) : let v := countDetection n x s
    stk v n = x ∧ (∀ m, m ≠ n → stk v m = stk s m) ∧ counter v 0x000B0010 n = (counter s 0x000B0010 n).inc.1 ∧
      v = { s with strike := v.strike, counters := v.counters, skein := v.skein, upd := v.upd } := by
  have hchans : (countDetection n x s).strike.chans = (setStk n x s).strike.chans := by simp [countDetection]
  refine ⟨?_, fun m hm => ?_, counter_bump _ _ _, ?_⟩
  · rw [stk, hchans]; exact stk_setStk _ _ _
  · rw [stk, hchans]; exact stk_setStk_ne _ _ _ _ hm
  · apply State.eq_of_parts <;> simp [countDetection, setStk]

/-- STRIKE_SAMPLE of an enabled channel. -/
def strikeTaken (t : Time) (n : Nat) (code : BitVec 14) (d : StrikeDecl) (s : State) : State :=
  if !s.strike.run || decide (s.sun.time ≠ t) || decide (t.toNat % 2500 ≠ 0) then s
  else
    let gap := match (stk s n).last with
      | some l => decide (l.toNat + 2500 ≠ t.toNat)
      | none => false
    let x := if gap then afterGap (stk s n) else stk s n
    let y := sampled d n (decide (s.strike.capCh.toNat = n)) t code.toNat x
    if hits (converted d t code.toNat x) then countDetection n y s else setStk n y s

theorem execStrikeSample_eq (t : Time) (n : Fin 32) (code : BitVec 14) (s : State) : execStrikeSample t n code s = .next (
    match stkDecl (advanceTo t s) n.val with
    | none => advanceTo t s
    | some d => strikeTaken t n.val code d (advanceTo t s)) := rfl

theorem strikeSample_runs {t l : Time} {n : Fin 32} {code : BitVec 14} {d : StrikeDecl} {s : State}
    (hd : stkDecl (advanceTo t s) n.val = some d)
    (hrun : (advanceTo t s).strike.run = true) (hnow : (advanceTo t s).sun.time = t) (ht : t.toNat % 2500 = 0)
    (hlast : (stk (advanceTo t s) n.val).last = some l) (hgap : l.toNat + 2500 = t.toNat) :
    exec (.strikeSample t n code) s = .next (
      let x := stk (advanceTo t s) n.val
      let y := sampled d n.val (decide ((advanceTo t s).strike.capCh.toNat = n.val)) t code.toNat x
      if hits (converted d t code.toNat x) then countDetection n.val y (advanceTo t s) else setStk n.val y (advanceTo t s)) := by
  have hcond : (!(advanceTo t s).strike.run || decide ((advanceTo t s).sun.time ≠ t) || decide (t.toNat % 2500 ≠ 0)) = false := by
    rw [hrun, hnow, ht]; simp
  rw [exec_strikeSample, execStrikeSample_eq, hd]
  simp only [strikeTaken, hcond, hlast, hgap, ne_eq, not_true_eq_false, decide_false, Bool.false_eq_true, if_false]

theorem hits_converted (d : StrikeDecl) (t : Time) (code : Nat) (x : StkCh) : hits (converted d t code x) =
    (x.armed && !x.fault && decide (x.thr ≤ (envelope d code x).1.env)) := by
  simp [hits, converted, envelope]

/-- A sample inside a block moves baseline and envelope, and neither the floor nor its threshold. -/
theorem sampled_inBlock {d : StrikeDecl} {n : Nat} {cap : Bool} {t : Time} {code : Nat} {x : StkCh} (hblock : t.toNat / 2500 % 64 ≠ 63) :
    let v := sampled d n cap t code x
    v.b = (envelope d code x).1.b ∧ v.env = (envelope d code x).1.env ∧ v.nf = x.nf := by
  simp only [sampled, blocked, if_neg hblock, opened, shot]
  (repeat' split) <;> simp [converted, envelope]

theorem sampled_hit {d : StrikeDecl} {n : Nat} {cap : Bool} {t : Time} {code : Nat} {x : StkCh} (hblock : t.toNat / 2500 % 64 ≠ 63)
    (hhit : hits (converted d t code x) = true) : let v := sampled d n cap t code x
    v.armed = false ∧ v.dead = d.dead ∧ (d.pre ≤ x.ys.length → v.windows.getLast? = some
      { ch := n, cap := cap, stamp := t, samples := (x.ys.take d.pre).reverse ++ [(envelope d code x).2], left := 63 - d.pre }) := by
  have hys : (shot d (converted d t code x)).ys = x.ys := by unfold shot; (repeat' split) <;> simp [converted, envelope]
  simp only [sampled, blocked, if_neg hblock, hhit, hys]
  refine ⟨?_, ?_, fun hpre => ?_⟩
  · unfold opened; split <;> simp [shot, hhit]
  · unfold opened; split <;> simp [shot, hhit]
  · simp [opened, hpre]

theorem sampled_miss {d : StrikeDecl} {n : Nat} {cap : Bool} {t : Time} {code : Nat} {x : StkCh} (hblock : t.toNat / 2500 % 64 ≠ 63)
    (hmiss : hits (converted d t code x) = false) : let v := sampled d n cap t code x
    v.windows.length = x.windows.length ∧ v.dead = x.dead - 1 ∧
      (x.dead = 0 → v.armed = (x.armed || decide ((envelope d code x).1.env < x.thr))) := by
  simp only [sampled, blocked, if_neg hblock, hmiss, opened, Bool.false_and, Bool.false_eq_true, if_false, shot]
  have hdead : (converted d t code x).dead = x.dead := by simp [converted, envelope]
  refine ⟨?_, ?_, fun hzero => ?_⟩
  · (repeat' split) <;> simp [converted, envelope]
  · rw [hdead]
    rcases Nat.eq_zero_or_pos x.dead with h | h
    · simp only [h, Nat.lt_irrefl, decide_false, Bool.false_eq_true, if_false]
      split <;> simp [hdead, h]
    · simp [h]
  · simp only [hdead, hzero, Nat.lt_irrefl, decide_false, Bool.false_eq_true, if_false]
    split
    case isTrue h => simp_all [converted, envelope]
    case isFalse h => simp_all [converted, envelope]

theorem stk_congr {s v : State} (h : v.strike = s.strike) (n : Nat) : stk v n = stk s n := by rw [stk, h]; rfl

/-! ### Windows, classification and the bins' counts (R200 to R203) -/

theorem strikeWindowCaptured_runs {t : Time} {n : Fin 32} {w : StkWindow} {r : List StkWindow} {s : State}
    (hw : (stk (advanceTo t s) n.val).windows = w :: r) (hleft : w.left = 0) : exec (.strikeWindowCaptured t n) s = .next
      (setStk n.val { stk (advanceTo t s) n.val with windows := r, queue := ((stk (advanceTo t s) n.val).queue ++ [w]).take 8 }
        (advanceTo t s)) := by
  rw [exec_strikeWindowCaptured, execStrikeWindowCaptured]
  simp only [hw, hleft, if_true]

/-- A window classified, without a Bobbin for captures. -/
def classified (ch : Nat) (w : StkWindow) (d : StrikeDecl) (s : State) : State :=
  let v := countStrike ch (classify d w.samples) w.stamp (setStk ch { stk s ch with queue := (stk s ch).queue.tail } s)
  if classify d w.samples = 4 then bump 0x000B0014 ch v else v

theorem cop_setStk (n : Nat) (x : StkCh) (s : State) : cop (setStk n x s) = cop s := rfl

theorem setBin_spec (b : StkBin) (s : State) : openBin (setBin b s) b.index = b ∧
    (∀ i, i ≠ b.index → openBin (setBin b s) i = openBin s i) ∧ ∀ n, stk (setBin b s) n = stk s n := by
  refine ⟨by simp [openBin, setBin], fun i hi => ?_, fun n => rfl⟩
  have hne : decide (b.index = i) = false := decide_eq_false (Ne.symm hi)
  have hfilter : (s.strike.openBins.filter fun c => decide (c.index ≠ b.index)).find? (fun c => decide (c.index = i)) =
      s.strike.openBins.find? fun c => decide (c.index = i) := by
    rw [List.find?_filter]
    refine congrArg (fun p => List.find? p s.strike.openBins) (funext fun c => ?_)
    by_cases hc : c.index = i
    · simp [hc, hi]
    · simp [hc]
  simp only [openBin, setBin, List.find?_cons, hne, hfilter]

theorem openBin_index (s : State) (j : Nat) : (openBin s j).index = j := by
  unfold openBin
  cases h : s.strike.openBins.find? fun b => decide (b.index = j) with
  | none => rfl
  | some b => simpa using List.find?_some h

theorem openBin_setStk (n j : Nat) (x : StkCh) (s : State) : openBin (setStk n x s) j = openBin s j := rfl
theorem nextBin_setStk (n : Nat) (x : StkCh) (s : State) : nextBin (setStk n x s) = nextBin s := rfl

/-- A count that is not at its end goes up by one, in the bin of its stamp alone. -/
theorem countStrike_spec {ch cls : Nat} {stamp : Time} {s : State} (hopen : nextBin s ≤ stamp.toNat / 10000000)
    (hroom : SMap.get (openBin s (stamp.toNat / 10000000)).counts 0 (5 * ch + cls) ≠ 65535) :
    let v := countStrike ch cls stamp s
    let j := stamp.toNat / 10000000
    SMap.get (openBin v j).counts 0 (5 * ch + cls) = SMap.get (openBin s j).counts 0 (5 * ch + cls) + 1 ∧
      (∀ i, i ≠ j → openBin v i = openBin s i) ∧ (∀ n, stk v n = stk s n) ∧ v.counters = s.counters ∧ v.core = s.core := by
  have hcount : countStrike ch cls stamp s = setBin { openBin s (stamp.toNat / 10000000) with
      counts := SMap.put (openBin s (stamp.toNat / 10000000)).counts 0 (5 * ch + cls)
        (SMap.get (openBin s (stamp.toNat / 10000000)).counts 0 (5 * ch + cls) + 1) } s := by
    unfold countStrike
    exact (if_neg (Nat.not_lt.2 hopen)).trans (congrArg (setBin · s) (if_neg hroom))
  rw [hcount]
  obtain ⟨hsame, hother, hstk⟩ := setBin_spec { openBin s (stamp.toNat / 10000000) with
      counts := SMap.put (openBin s (stamp.toNat / 10000000)).counts 0 (5 * ch + cls)
        (SMap.get (openBin s (stamp.toNat / 10000000)).counts 0 (5 * ch + cls) + 1) } s
  rw [openBin_index] at hsame hother
  exact ⟨by rw [hsame, SMap.get_put_same], hother, hstk, rfl, rfl⟩

theorem classified_store (ch : Nat) (w : StkWindow) (d : StrikeDecl) (s : State) : (classified ch w d s).store = s.store := by
  unfold classified
  split <;> simp [setStk]

theorem strikeClassifyDone_runs {t : Time} {g : Fin 4} {ch : Nat} {w : StkWindow} {d : StrikeDecl} {s : State}
    (hnext : nextWindow (advanceTo t s) g.val = some (ch, w)) (hd : stkDecl (advanceTo t s) ch = some d)
    (hcap : (cop (advanceTo t s)).captureBobbin = none) :
    exec (.strikeClassifyDone t g) s = .next (classified ch w d (advanceTo t s)) := by
  rw [exec_strikeClassifyDone, execStrikeClassifyDone]
  simp only [hnext, show stkDecl (setStk _ _ (advanceTo t s)) ch = some d from hd]
  have hcop : (cop (classified ch w d (advanceTo t s))).captureBobbin = none := by
    rw [← hcap, cop, cop, classified_store]
  simp only [classified] at hcop ⊢
  rw [hcop]

theorem classified_spec {ch : Nat} {w : StkWindow} {d : StrikeDecl} {s : State} (hopen : nextBin s ≤ w.stamp.toNat / 10000000)
    (hroom : SMap.get (openBin s (w.stamp.toNat / 10000000)).counts 0 (5 * ch + classify d w.samples) ≠ 65535) :
    let v := classified ch w d s
    let j := w.stamp.toNat / 10000000
    (stk v ch).queue = (stk s ch).queue.tail ∧
      SMap.get (openBin v j).counts 0 (5 * ch + classify d w.samples) =
        SMap.get (openBin s j).counts 0 (5 * ch + classify d w.samples) + 1 ∧
      (∀ i, i ≠ j → openBin v i = openBin s i) ∧
      counter v 0x000B0014 ch = (if classify d w.samples = 4 then (counter s 0x000B0014 ch).inc.1 else counter s 0x000B0014 ch) ∧
      v.core = s.core := by
  obtain ⟨hcount, hother, hstk, hcounters, hcore⟩ := countStrike_spec (ch := ch) (cls := classify d w.samples) (stamp := w.stamp)
    (s := setStk ch { stk s ch with queue := (stk s ch).queue.tail } s) hopen hroom
  simp only [openBin_setStk] at hcount hother
  unfold classified
  generalize hv : countStrike ch (classify d w.samples) w.stamp (setStk ch { stk s ch with queue := (stk s ch).queue.tail } s) = v at *
  have hstrike : (if classify d w.samples = 4 then bump 0x000B0014 ch v else v).strike = v.strike := by split <;> simp
  have hctr : counter v 0x000B0014 ch = counter s 0x000B0014 ch := by unfold counter; rw [hcounters]; rfl
  refine ⟨?_, ?_, fun i hi => ?_, ?_, ?_⟩
  · rw [stk_congr hstrike, hstk, stk_setStk]
  · rw [openBin, hstrike]; exact hcount
  · rw [openBin, hstrike]; exact hother i hi
  · split
    · rw [counter_bump, hctr]
    · exact hctr
  · split
    · simpa using hcore
    · exact hcore

/-! ### What watches a channel (R198, R208) -/

section
variable {t q : Time} {n : Fin 32} {s : State}

theorem strikeFloorHold_runs (hrun : (advanceTo t s).strike.run = true) (hq : (stk (advanceTo t s) n.val).quietAt = some q)
    (hfloor : (stk (advanceTo t s) n.val).floorHold = false) (hdue : q.toNat + 1000000000 ≤ (advanceTo t s).sun.time.toNat) :
    exec (.strikeFloorHold t n) s = .next (raise .warning 0x0B 0x0008 [BitVec.ofNat 32 n.val]
      (setStk n.val { stk (advanceTo t s) n.val with floorHold := true } (advanceTo t s))) := by
  have hcond : ((advanceTo t s).strike.run && !(stk (advanceTo t s) n.val).floorHold && passed (advanceTo t s) q second) = true := by
    rw [hrun, hfloor, show passed _ q second = true from decide_eq_true hdue]; rfl
  rw [exec_strikeFloorHold, execStrikeFloorHold]
  simp only [hq]
  exact congrArg Host.Outcome.next (if_pos hcond)

theorem strikeFaultEnter_runs (hrun : (advanceTo t s).strike.run = true) (hq : (stk (advanceTo t s) n.val).outSince = some q)
    (hfault : (stk (advanceTo t s) n.val).fault = false) (hdue : q.toNat + 10000000 ≤ (advanceTo t s).sun.time.toNat) :
    exec (.strikeFaultEnter t n) s = .next (raise .error 0x0B 0x0008 [BitVec.ofNat 32 n.val]
      (setStk n.val { stk (advanceTo t s) n.val with fault := true, faultAt := (advanceTo t s).sun.time } (advanceTo t s))) := by
  have hcond : ((advanceTo t s).strike.run && !(stk (advanceTo t s) n.val).fault && passed (advanceTo t s) q 10000000) = true := by
    rw [hrun, hfault, show passed _ q _ = true from decide_eq_true hdue]; rfl
  rw [exec_strikeFaultEnter, execStrikeFaultEnter]
  simp only [hq]
  exact congrArg Host.Outcome.next (if_pos hcond)

/-- A fault ends: the bins it spanned are marked, and the floor restarts. -/
def faultOver (n : Nat) (d : StrikeDecl) (s : State) : State :=
  let j := max (nextBin s) ((stk s n).faultAt.toNat / binNs)
  setStk n { stk s n with fault := false, nf := d.initFloor, thr := strikeThr d d.initFloor }
    (markFaults n j (s.sun.time.toNat / binNs + 1 - j) s)

theorem strikeFaultLeave_runs {d : StrikeDecl} (hq : (stk (advanceTo t s) n.val).inSince = some q)
    (hd : stkDecl (advanceTo t s) n.val = some d) (hfault : (stk (advanceTo t s) n.val).fault = true)
    (hdue : q.toNat + 100000000 ≤ (advanceTo t s).sun.time.toNat) :
    exec (.strikeFaultLeave t n) s = .next (faultOver n.val d (advanceTo t s)) := by
  have hcond : ((stk (advanceTo t s) n.val).fault && passed (advanceTo t s) q 100000000) = true := by
    rw [hfault, show passed _ q _ = true from decide_eq_true hdue]; rfl
  rw [exec_strikeFaultLeave, execStrikeFaultLeave]
  simp only [hq, hd]
  exact congrArg Host.Outcome.next ((if_pos hcond).trans (by simp only [faultOver, hq]))
end

/-- Marking bins touches open bins alone. -/
theorem markFaults_bins (ch j k : Nat) (s : State) :
    markFaults ch j k s = { s with strike := { s.strike with openBins := (markFaults ch j k s).strike.openBins } } := by
  induction k generalizing j s with
  | zero => rfl
  | succ k ih => rw [markFaults, ih]; rfl

theorem faultOver_spec (n : Nat) (d : StrikeDecl) (s : State) : let v := faultOver n d s
    stk v n = { stk s n with fault := false, nf := d.initFloor, thr := strikeThr d d.initFloor } ∧
      (∀ m, m ≠ n → stk v m = stk s m) ∧ v = { s with strike := v.strike } := by
  refine ⟨stk_setStk _ _ _, fun m hm => ?_, ?_⟩
  · rw [faultOver, stk_setStk_ne _ _ _ _ hm, markFaults_bins]; rfl
  · simp only [faultOver]
    rw [markFaults_bins]; rfl

/-! ### Bins close (R203 to R205) -/

theorem SMap.get_filter {α : Type} (m : SMap α) (z : α) (p : Nat → Bool) (k : Nat) :
    SMap.get (m.filter fun e => p e.1) z k = if p k then SMap.get m z k else z := by
  induction m with
  | nil => simp [SMap.get]
  | cons e r ih =>
    obtain ⟨j, v⟩ := e
    by_cases hj : j = k
    · subst hj
      cases hp : p j
      · simp [hp, ih]
      · simp [hp, SMap.get]
    · cases hp : p j
      · simp [hp, ih, SMap.get, hj]
      · simp [hp, ih, SMap.get, hj]

theorem closedBin_spec (s : State) (j : Nat) : (closedBin s j).index = (openBin s j).index ∧
    ∀ k, SMap.get (closedBin s j).counts 0 k = if bit (closedBin s j).faults (k / 5) then 0 else SMap.get (openBin s j).counts 0 k := by
  refine ⟨rfl, fun k => ?_⟩
  refine (SMap.get_filter (openBin s j).counts 0 (fun k => !bit (closedBin s j).faults (k / 5)) k).trans ?_
  cases bit (closedBin s j).faults (k / 5) <;> rfl

/-- A bin as it moves into the history. -/
def binClosed (j : Nat) (s : State) : State :=
  { s with strike := { s.strike with
    lastBin := some j, openBins := s.strike.openBins.filter fun c => decide (j < c.index)
    history := (closedBin s j :: s.strike.history).take 100 } }

theorem strikeBinClose_early {t : Time} {s : State}
    (hearly : (advanceTo t s).sun.time.toNat < (nextBin (advanceTo t s) + 1) * 10000000 + 200000) :
    exec (.strikeBinClose t) s = .next (advanceTo t s) := by
  have hcond : (!(advanceTo t s).strike.run ||
      decide ((advanceTo t s).sun.time.toNat < (nextBin (advanceTo t s) + 1) * binNs + 200000)) = true := by
    rw [show decide (_ < (nextBin (advanceTo t s) + 1) * binNs + 200000) = true from decide_eq_true hearly, Bool.or_true]
  rw [exec_strikeBinClose, execStrikeBinClose]
  exact congrArg Host.Outcome.next (if_pos hcond)

theorem strikeBinClose_runs {t : Time} {s : State} (hrun : (advanceTo t s).strike.run = true)
    (hdue : (nextBin (advanceTo t s) + 1) * 10000000 + 200000 ≤ (advanceTo t s).sun.time.toNat)
    (hbobbin : (cop (advanceTo t s)).strikeBobbin = none) (hrates : (cop (advanceTo t s)).rates = []) :
    exec (.strikeBinClose t) s = .next (binClosed (nextBin (advanceTo t s)) (advanceTo t s)) := by
  have hcond : ¬(!(advanceTo t s).strike.run ||
      decide ((advanceTo t s).sun.time.toNat < (nextBin (advanceTo t s) + 1) * binNs + 200000)) = true := by
    rw [hrun, show decide (_ < (nextBin (advanceTo t s) + 1) * binNs + 200000) = false from decide_eq_false (Nat.not_lt.2 hdue)]
    decide
  have hpush (stamp : Time) (l : List Byte) : pushBin stamp l (binClosed (nextBin (advanceTo t s)) (advanceTo t s)) =
      binClosed (nextBin (advanceTo t s)) (advanceTo t s) := by
    rw [pushBin, show (cop (binClosed (nextBin (advanceTo t s)) (advanceTo t s))).strikeBobbin = none from hbobbin]
  rw [exec_strikeBinClose, execStrikeBinClose]
  refine congrArg Host.Outcome.next ((if_neg hcond).trans ?_)
  refine Eq.trans ?_ (hpush (BitVec.ofNat 64 ((nextBin (advanceTo t s) + 1) * binNs))
    (binBytes (binClosed (nextBin (advanceTo t s)) (advanceTo t s)) (closedBin (advanceTo t s) (nextBin (advanceTo t s)))))
  exact congrArg (fun l : List RateDecl => l.foldl _ _) hrates

/-- Settles O42: samples in stages, then a rule per command — what runs it, what it leaves. -/
theorem strikesAreCounted : Obligations.StrikesAreCounted := by
  refine ⟨fun t l n code d s hd hrun hnow ht hlast hgap hblock => ⟨fun harmed hfault hthr =>
    ⟨_, strikeSample_runs hd hrun hnow ht hlast hgap, ?hit⟩, fun hmiss => ⟨_, strikeSample_runs hd hrun hnow ht hlast hgap, ?miss⟩⟩,
    ⟨fun t n w r s hw hleft => ⟨_, strikeWindowCaptured_runs hw hleft, stk_setStk _ _ _, fun m hm => stk_setStk_ne _ _ _ _ hm, rfl⟩,
      fun t g ch w d s hnext hd hcap hopen hroom => ⟨_, strikeClassifyDone_runs hnext hd hcap, classified_spec hopen hroom⟩,
      fun t q n s hrun => ⟨fun hq hfloor hdue => ⟨_, strikeFloorHold_runs hrun hq hfloor hdue, ?floor, raise_raises _ _ _ _ _, by simp⟩,
        fun hq hfault hdue => ⟨_, strikeFaultEnter_runs hrun hq hfault hdue, ?fault, raise_raises _ _ _ _ _, by simp⟩,
        fun d hq hd hfault hdue => ⟨_, strikeFaultLeave_runs hq hd hfault hdue, faultOver_spec _ _ _⟩⟩⟩,
    fun t s => ⟨fun hearly => strikeBinClose_early hearly, fun hrun hdue hbobbin hrates =>
      ⟨_, _, strikeBinClose_runs hrun hdue hbobbin hrates, (closedBin_spec _ _).1, (closedBin_spec _ _).2, rfl, rfl, rfl, rfl⟩⟩⟩
  case hit =>
    generalize advanceTo t s = u at *
    have hhit : hits (converted d t code.toNat (stk u n.val)) = true := by
      have henv : (stk u n.val).thr ≤ (envelope d code.toNat (stk u n.val)).1.env := hthr
      rw [hits_converted, harmed, hfault, decide_eq_true henv]; rfl
    simp only [hhit, if_true]
    obtain ⟨hb, henv, hnf⟩ := sampled_inBlock (d := d) (n := n.val) (cap := decide (u.strike.capCh.toNat = n.val)) (code := code.toNat)
      (x := stk u n.val) hblock
    obtain ⟨hdis, hdead, hwindow⟩ := sampled_hit (d := d) (n := n.val) (cap := decide (u.strike.capCh.toNat = n.val)) hblock hhit
    obtain ⟨hstk, hother, hcount, hframe⟩ := countDetection_spec n.val
      (sampled d n.val (decide (u.strike.capCh.toNat = n.val)) t code.toNat (stk u n.val)) u
    rw [hstk]
    exact ⟨hb, henv, hdis, hdead, hnf, hcount, hwindow, hother, hframe⟩
  case miss =>
    generalize advanceTo t s = u at *
    have hmiss' : hits (converted d t code.toNat (stk u n.val)) = false := by
      rw [hits_converted]
      rcases hmiss with h | h | h
      · rw [h]; rfl
      · rw [h, Bool.not_true, Bool.and_false]; rfl
      · rw [decide_eq_false (Int.not_le.2 h : ¬ (stk u n.val).thr ≤ (envelope d code.toNat (stk u n.val)).1.env), Bool.and_false]
    simp only [hmiss', Bool.false_eq_true, if_false, stk_setStk]
    obtain ⟨hb, henv, -⟩ := sampled_inBlock (d := d) (n := n.val) (cap := decide (u.strike.capCh.toNat = n.val)) (code := code.toNat)
      (x := stk u n.val) hblock
    obtain ⟨hwindows, hdead, harmed⟩ := sampled_miss (d := d) (n := n.val) (cap := decide (u.strike.capCh.toNat = n.val)) hblock hmiss'
    exact ⟨hb, henv, hwindows, hdead, harmed, fun m hm => stk_setStk_ne _ _ _ _ hm, rfl⟩
  case floor => rw [stk_raise, stk_setStk]
  case fault => rw [stk_raise, stk_setStk]

end Sys2Proof.Machine
end

section
/-! PROOFS. Sources of Ply (R212 to R219). -/
namespace Sys2Proof.Machine
open Sys2Proof.Safety

/-! ### What an entry taken leaves -/

/-- A Bobbin taken from: what of the state Ply reads is as it was. -/
structure TakenFrom (b : Nat) (r : List (Nat × BobEntry)) (s t : State) : Prop where
  entries : (bob t b).entries = r
  frame : t = { s with core := { s.core with bobs := t.core.bobs, tasks := t.core.tasks } }

theorem TakenFrom.ply {b : Nat} {r : List (Nat × BobEntry)} {s t : State} (h : TakenFrom b r s t) : t.core.ply = s.core.ply := by
  rw [h.frame]

theorem TakenFrom.plySrc {b : Nat} {r : List (Nat × BobEntry)} {s t : State} (h : TakenFrom b r s t) (n : Nat) :
    plySrc t n = plySrc s n := by
  rw [Machine.plySrc, h.ply]; rfl

theorem TakenFrom.counter {b : Nat} {r : List (Nat × BobEntry)} {s t : State} (h : TakenFrom b r s t) (a n : Nat) :
    counter t a n = counter s a n := by
  rw [h.frame]; rfl

theorem popBob_taken {b o : Nat} {e : BobEntry} {r : List (Nat × BobEntry)} {s : State} (h : (bob s b).entries = (o, e) :: r) :
    ∃ t, popBob b s = (some e, t) ∧ TakenFrom b r s t := by
  obtain ⟨t, hpop, hentries, -, ht⟩ := popBob_cons h
  exact ⟨t, hpop, hentries, ht⟩

theorem headKind_cons {b o : Nat} {e : BobEntry} {r : List (Nat × BobEntry)} {s : State} (h : (bob s b).entries = (o, e) :: r) :
    headKind s b = some (e.bytes[8]?.getD 0).toNat := by rw [headKind, h]

@[simp] theorem bob_setPlySrc (n b : Nat) (x : PlySrcSt) (s : State) : bob (setPlySrc n x s) b = bob s b := rfl

/-! ### SAMPLE entries (R213) -/

section
variable {t : Time} {n : Fin 64} {d : PlySource} {b o : Nat} {e : BobEntry} {r : List (Nat × BobEntry)} {s : State}
  (hd : plyDecl (advanceTo t s) n.val = some d) (hrun : running (advanceTo t s) = true) (hb : d.bobbin = some b)
  (hhead : (bob (advanceTo t s) b).entries = (o, e) :: r)
include hd hrun hb hhead

theorem plySampleEntry_runs (hkind : e.bytes[8]? = some 0) : ∃ u, TakenFrom b r (advanceTo t s) u ∧
    exec (.plySampleEntry t n) s = .next (plyEntry n.val d e u) := by
  obtain ⟨u, hpop, hu⟩ := popBob_taken hhead
  refine ⟨u, hu, ?_⟩
  rw [exec_plySampleEntry, execPlySampleEntry]
  simp [hd, hrun, hb, headKind_cons hhead, hkind, hpop]

theorem plySync_runs (hkind : e.bytes[8]? = some 1) (hmapped : d.mapped = true) : ∃ u, TakenFrom b r (advanceTo t s) u ∧
    exec (.plySync t n) s = .next (match syncModel d (plySrc (advanceTo t s) n.val) (int64Of (e.bytes.take 8)) (e.stamp.toNat : Int) with
      | none => bump 0x000A0014 n.val u
      | some m => alignRecord n.val (unaligned d (plySrc (advanceTo t s) n.val)) (unaligned d m) (setPlySrc n.val m u)) := by
  obtain ⟨u, hpop, hu⟩ := popBob_taken hhead
  refine ⟨u, hu, ?_⟩
  rw [exec_plySync, execPlySync]
  simp only [hd, hrun, hb, headKind_cons hhead, hkind, hpop, hmapped, hu.plySrc]
  rfl
end

/-- The words that bytes spell, one by one. -/
theorem wordsOf_length (n : Nat) (l : List Byte) : (wordsOf n l).length = n := by
  induction n generalizing l with
  | zero => rfl
  | succ n ih => rw [wordsOf, List.length_cons, ih]

theorem getElem?_wordsOf {n i : Nat} (l : List Byte) (h : i < n) :
    (wordsOf n l)[i]? = some (BitVec.ofNat 32 (ofBytes ((l.drop (4 * i)).take 4))) := by
  induction n generalizing l i with
  | zero => omega
  | succ n ih =>
    cases i with
    | zero => rfl
    | succ i =>
      rw [wordsOf, List.getElem?_cons_succ, ih _ (by omega), List.drop_drop]
      congr 4; ring_nf

/-- A sample lands while no epoch is issued. -/
theorem plyLand_unissued {n : Nat} {d : PlySource} {x : PlySample} {s : State} (h : s.core.ply.issuedAt = []) :
    plyLand n d x s = setPlySrc n { plySrc s n with samples := x :: (plySrc s n).samples } s := by
  simp [plyLand, h, bumps]

/-- The sample that a SAMPLE entry brings. -/
def sampleOf (d : PlySource) (e : BobEntry) (x : PlySrcSt) (now : Time) : PlySample :=
  { stamp := e.stamp, landed := now, values := wordsOf d.angles.length (e.bytes.drop 12), ok := true, aligned := !unaligned d x }

theorem plyEntry_sample {n : Nat} {d : PlySource} {e : BobEntry} {s : State} (hkind : e.bytes[8]? = some 0)
    (hcount : e.bytes[9]? = some (BitVec.ofNat 8 d.angles.length)) (hfew : d.angles.length < 256)
    (hlen : e.bytes.length = 12 + 4 * d.angles.length) (hmapped : d.mapped = false) (hissued : s.core.ply.issuedAt = []) :
    plyEntry n d e s = setPlySrc n { plySrc s n with
      samples := sampleOf d e (plySrc s n) s.sun.time :: (plySrc s n).samples } s := by
  have hn : (BitVec.ofNat 8 d.angles.length).toNat = d.angles.length := by simp [Nat.mod_eq_of_lt hfew]
  unfold plyEntry
  simp only [hkind, hcount, Option.getD_some, hn, hlen, valuesOf, hmapped, plyLand_unissued hissued, sampleOf]
  simp

theorem plyEntry_miscounted {n : Nat} {d : PlySource} {e : BobEntry} {s : State}
    (hcount : e.bytes[9]? = some (BitVec.ofNat 8 (d.angles.length + 1))) (hfew : d.angles.length + 1 < 256) :
    plyEntry n d e s = bump 0x000A001C n s := by
  have hn : (BitVec.ofNat 8 (d.angles.length + 1)).toNat = d.angles.length + 1 := by simp [Nat.mod_eq_of_lt hfew]
  unfold plyEntry
  simp only [hcount, Option.getD_some, hn, valuesOf]
  exact if_pos (by simp)

/-! ### Sync entries (R214, R215) -/

theorem syncModel_anchor {d : PlySource} {m : PlySrcSt} {x : Int} {stamp : Time} (h : m.anchored = false) :
    syncModel d m x stamp.toNat = some { m with
      anchored := true, anchorS := x, anchorD := stamp.toNat, rate := 0, good := 0, unal := true, u0 := d.resNs, ts := stamp } := by
  have hts : timeOf (stamp.toNat : Int) = stamp := by simp [timeOf]
  simp [syncModel, h, hts]

theorem syncModel_stood {d : PlySource} {m : PlySrcSt} {x dev : Int} (h : m.anchored = true) (hx : x ≤ m.anchorS) :
    syncModel d m x dev = none := by
  simp [syncModel, h, hx]

theorem syncModel_jump {d : PlySource} {m : PlySrcSt} {x dev : Int} (h : m.anchored = true) (hx : m.anchorS < x)
    (hrho : (d.frameNs : Int) < (dev - mapTime m x).natAbs) : ∃ m', syncModel d m x dev = some m' ∧
      m'.anchorS = x ∧ m'.anchorD = dev ∧ m'.unal = true ∧ m'.good = 0 ∧ m'.rate = m.rate := by
  unfold syncModel
  simp only [h, Bool.not_true, Bool.false_eq_true, if_false, if_neg (Int.not_le.2 hx)]
  exact ⟨_, if_pos hrho, rfl, rfl, rfl, rfl, rfl⟩

theorem alignRecord_core (n : Nat) (was now : Bool) (s : State) : (alignRecord n was now s).core = s.core := by simp

/-- A clock model changed: the source's state is the new one. -/
theorem plySrc_aligned (n : Nat) (was now : Bool) (m : PlySrcSt) (s : State) :
    plySrc (alignRecord n was now (setPlySrc n m s)) n = m := by
  rw [plySrc, alignRecord_core]; exact plySrc_setPlySrc _ _ _

theorem bob_aligned (n b : Nat) (was now : Bool) (m : PlySrcSt) (s : State) :
    bob (alignRecord n was now (setPlySrc n m s)) b = bob s b := by
  rw [bob, alignRecord_core]; rfl

/-- Settles O43: the entry leaves its Bobbin; what is made of it is `plyEntry` or `syncModel`. -/
theorem plySourcesFeed : Obligations.PlySourcesFeed := by
  refine fun t n d b o e r s hd hrun hb hhead => ⟨fun hkind hcount hfew hlen hmapped hissued => ?sample,
    fun hkind hcount hfew => ?miscounted, fun hkind hmapped => ⟨fun hanchor => ?anchor, fun hanchor hx => ?stood,
      fun hanchor hx hrho => ?jump⟩⟩
  case sample =>
    obtain ⟨v, hv, hexec⟩ := plySampleEntry_runs hd hrun hb hhead hkind
    generalize advanceTo t s = u at *
    rw [plyEntry_sample hkind hcount hfew hlen hmapped (by rw [hv.ply]; exact hissued)] at hexec
    refine ⟨_, sampleOf d e (plySrc v n.val) v.sun.time, hexec, ?_, rfl, ?_, wordsOf_length _ _, fun i hi => ?_, hv.entries,
      fun m hm => ?_, ?_, ?_, ?_⟩
    · rw [plySrc_setPlySrc, hv.plySrc]
    · rw [hv.frame]; rfl
    · rw [sampleOf, getElem?_wordsOf _ hi, List.drop_drop]
    · rw [plySrc_setPlySrc_ne _ _ _ _ hm, hv.plySrc]
    all_goals rw [hv.frame]; rfl
  case miscounted =>
    obtain ⟨v, hv, hexec⟩ := plySampleEntry_runs hd hrun hb hhead hkind
    generalize advanceTo t s = u at *
    rw [plyEntry_miscounted hcount hfew] at hexec
    refine ⟨_, hexec, by rw [counter_bump, hv.counter], ?_, ?_⟩
    · rw [bob_congr (s := v) (by simp), hv.entries]
    · rw [← hv.ply]; simp
  case anchor =>
    obtain ⟨v, hv, hexec⟩ := plySync_runs hd hrun hb hhead hkind hmapped
    generalize advanceTo t s = u at *
    rw [syncModel_anchor hanchor] at hexec
    exact ⟨_, hexec, plySrc_aligned _ _ _ _ _, by rw [bob_aligned, hv.entries], by rw [alignRecord_core, hv.frame]; rfl⟩
  case stood =>
    obtain ⟨v, hv, hexec⟩ := plySync_runs hd hrun hb hhead hkind hmapped
    generalize advanceTo t s = u at *
    rw [syncModel_stood hanchor hx] at hexec
    refine ⟨_, hexec, ?_, by rw [counter_bump, hv.counter], ?_⟩
    · rw [← hv.plySrc, plySrc, plySrc, show (bump 0x000A0014 n.val v).core = v.core by simp]
    · rw [bob_congr (s := v) (by simp), hv.entries]
  case jump =>
    obtain ⟨v, hv, hexec⟩ := plySync_runs hd hrun hb hhead hkind hmapped
    generalize advanceTo t s = u at *
    obtain ⟨m, hm, hs, hdev, hunal, hgood, hrate⟩ := syncModel_jump hanchor hx hrho
    rw [hm] at hexec
    refine ⟨_, hexec, ?_⟩
    rw [plySrc_aligned, bob_aligned]
    exact ⟨hs, hdev, hunal, hgood, hrate, hv.entries⟩

end Sys2Proof.Machine
end

section
/-! PROOFS. Ply's epochs, the pose history and yield records (R216 to R230). -/
namespace Sys2Proof.Machine
open Sys2Proof.Safety

/-! ### What an epoch leaves alone (R216, R223) -/

/-- The part of the state that no source, no landing and no aiding touches: the record of the epochs, the pose, the Spindles' memory. -/
def epochSide (s : State) : (Option Time × List (Time × Time) × Nat × List Word × SigStatus) ×
    (SMap Byte × SMap Activation × SMap Bob × SMap TaskState) :=
  ((s.core.ply.lastIssued, s.core.ply.issuedAt, s.core.ply.epochsSec, s.core.ply.pose, s.core.ply.poseStatus),
    s.core.sram, s.core.acts, s.core.bobs, s.core.tasks)

theorem epochSide_of_core {s t : State} (h : t.core = s.core) : epochSide t = epochSide s := by rw [epochSide, h]; rfl

@[simp] theorem epochSide_setPlySrc (n : Nat) (x : PlySrcSt) (s : State) : epochSide (setPlySrc n x s) = epochSide s := rfl
@[simp] theorem epochSide_raise (v : Severity) (b : BitVec 8) (c : BitVec 16) (l : List Word) (s : State) :
    epochSide (raise v b c l s) = epochSide s := rfl
@[simp] theorem epochSide_bump (a n : Nat) (s : State) : epochSide (bump a n s) = epochSide s := epochSide_of_core (by simp)
@[simp] theorem epochSide_alignRecord (n : Nat) (was now : Bool) (s : State) : epochSide (alignRecord n was now s) = epochSide s :=
  epochSide_of_core (by simp)
@[simp] theorem epochSide_freeWords (n : Nat) (s : State) : epochSide (freeWords n s).2 = epochSide s := epochSide_of_core (by simp)
@[simp] theorem epochSide_unalignedValues (d : PlySource) (una : Bool) (vs : Option (List Word)) (s : State) :
    epochSide (unalignedValues d una vs s).2 = epochSide s := epochSide_of_core (by simp)
@[simp] theorem epochSide_noteDeparture (i : Nat) (l : List Sample) (st : SigStatus) (s : State) :
    epochSide (noteDeparture i l st s) = epochSide s := epochSide_of_core (by simp)
@[simp] theorem epochSide_lateRecord (i : Nat) (stamp : Time) (s : State) : epochSide (lateRecord i stamp s) = epochSide s :=
  epochSide_of_core (by simp)
@[simp] theorem epochSide_setRing (i : Nat) (r : SigRing) (s : State) : epochSide (setRing i r s) = epochSide s := rfl

@[simp] theorem epochSide_land (i : Nat) (w : Writer) (q : Word) (t : Time) (st : SigStatus) (s : State) :
    epochSide (land i w q t st s) = epochSide s := by
  unfold land
  dsimp only
  (repeat' split) <;> simp

@[simp] theorem epochSide_gateSource (n : Nat) (d : PlySource) (fails : Bool) (s : State) :
    epochSide (gateSource n d fails s) = epochSide s := by
  unfold gateSource
  dsimp only
  (repeat' split) <;> simp

@[simp] theorem epochSide_gateFails (d : PlySource) (v noise : Word) (s : State) :
    epochSide (gateFails d v noise s).2 = epochSide s := rfl
@[simp] theorem epochSide_excl (x : BitVec 64) (s : State) : epochSide (setPly { s.core.ply with excl := x } s) = epochSide s := rfl

@[simp] theorem epochSide_judgeSource (d : PlySource) (una : Bool) (v : Option (List Word)) (s : State) :
    epochSide (judgeSource d una v s).2 = epochSide s := by
  have hfold (l : List (Word × Nat)) (r : Bool × State) : epochSide (l.foldl (fun r e =>
      let (fails, s) := gateFails d e.1 (d.noise[e.2]?.getD 0) r.2
      (r.1 && fails, gateSource d.number d fails s)) r).2 = epochSide r.2 := by
    induction l generalizing r with
    | nil => rfl
    | cons e l ih => rw [List.foldl_cons, ih]; simp
  unfold judgeSource
  split
  · exact hfold _ _
  · rfl

@[simp] theorem epochSide_landSource (tk : Time) (d : PlySource) (st : SigStatus) (vs : Option (List Word)) (s : State) :
    epochSide (landSource tk d st vs s) = epochSide s := by
  refine foldl_keeps epochSide (fun s (e : Option Nat × Word) => ?_) _ s
  split <;> simp

@[simp] theorem epochSide_turnPrimary (s : State) : epochSide (turnPrimary s) = epochSide s := by
  unfold turnPrimary
  dsimp only
  split <;> rfl

@[simp] theorem epochSide_sourceEpoch (tk : Time) (d : PlySource) (s : State) : epochSide (sourceEpoch tk d s) = epochSide s := by
  unfold sourceEpoch
  extract_lets n
  split
  extract_lets u una
  split
  split
  rename_i fails v hjudged
  extract_lets
  split
  rename_i vs y hvalues
  have hv : epochSide v = epochSide u := (congrArg (fun p => epochSide p.2) hjudged.symm).trans (epochSide_judgeSource _ _ _ _)
  have hy := (congrArg (fun p => epochSide p.2) hvalues.symm).trans (epochSide_unalignedValues _ _ _ _)
  exact (epochSide_landSource _ _ _ _ _).trans (hy.trans (hv.trans (epochSide_alignRecord _ _ _ _)))

@[simp] theorem epochSide_sendAiding (tk : Time) (st : SigStatus) (s : State) : epochSide (sendAiding tk st s) = epochSide s := by
  unfold sendAiding
  split
  · rfl
  · extract_lets k
    split
    · split
      rename_i w v hw
      exact (congrArg (fun p => epochSide p.2) hw.symm).trans (epochSide_freeWords _ _)
    · rfl

/-! ### The epoch in stages (R216 to R226) -/

/-- The sources judged in order of their numbers. -/
def sourcesJudged (tk : Time) (s : State) : State :=
  (sortBy (fun a b => a.number ≤ b.number) (cop s).ply.sources).foldl (fun s d => sourceEpoch tk d s)
    (setPly { (turnPrimary s).core.ply with excl := 0 } (turnPrimary s))

/-- Whether a GNSS position contributes. -/
def gnssContributes (l : List PlySource) (s : State) : Bool := l.any fun d => decide (d.role = .gnssPos) && (plySrc s d.number).contrib

/-- The filter run on the judged sources. -/
def epochFiltered (tk : Time) (l : List PlySource) (s : State) : State :=
  filterEpoch (gnssContributes l s) (if gnssContributes l s then setPly { s.core.ply with lastGnssPos := some tk } s else s)

/-- The epoch recorded as issued. -/
def epochMarked (tk : Time) (s : State) : State :=
  setPly { s.core.ply with
    poseStatus := poseStatusOf tk s, fix := s.core.pos.fix, lastIssued := some tk, epochsSec := s.core.ply.epochsSec + 1
    issuedAt := (tk, s.sun.time) :: s.core.ply.issuedAt } s

/-- An output of an epoch lands where it has a signal. -/
def landAt (tk : Time) (st : SigStatus) (i : Option Nat) (v : Word) (s : State) : State :=
  match i with
  | some i => land i .ply v tk st s
  | none => s

/-- Pose, exclusions and source states land (R223). -/
def epochLanded (tk : Time) (st : SigStatus) (c : PlyDecl) (s : State) : State :=
  let s := (c.pose.zip s.core.ply.pose).foldl (fun s e => landAt tk st e.1 e.2 s) s
  let s := landAt tk .valid c.exclHi (hi32 s.core.ply.excl) (landAt tk .valid c.exclLo (lo32 s.core.ply.excl) s)
  c.sources.foldl (fun s d => landAt tk .valid d.statSig (srcBits d (plySrc s d.number)) s) s

/-- The pose kept for the history where the epoch stands on the 10 ms grid. -/
def tenKept (tk : Time) (st : SigStatus) (s : State) : State :=
  if tk.toNat % 10000000 = 0 then setPly { s.core.ply with lastTen := some (poseEntry tk st s.core.ply.fix s.core.ply.pose) } s else s

/-- An epoch issued. -/
def epochIssued (tk : Time) (s : State) : State :=
  let v := epochFiltered tk (cop s).ply.sources (sourcesJudged tk s)
  sendAiding tk (poseStatusOf tk v) (tenKept tk (poseStatusOf tk v) (epochLanded tk (poseStatusOf tk v) (cop s).ply (epochMarked tk v)))

/-- An epoch is not due (R216). -/
def epochBarred (tk : Time) (s : State) : Bool :=
  let skipped := match s.sun.stepSpan with
    | some (b, a) => decide (b < tk) && decide (tk < a)
    | none => false
  let ordered := match s.core.ply.lastIssued with
    | some l => decide (l < tk)
    | none => true
  !running s || !hasPly s || skipped || decide (tk.toNat % ((cop s).ply.periodMs * 1000000) ≠ 0)
    || decide (s.sun.time.toNat ≠ tk.toNat + (cop s).ply.delayUs * 1000) || !ordered || !decide (s.core.ply.since < tk)

theorem plyEpoch_eq (t tk : Time) (s : State) : exec (.plyEpoch t tk) s =
    .next (if epochBarred tk (advanceTo t s) then advanceTo t s else epochIssued tk (advanceTo t s)) := rfl

theorem plyEpoch_barred {t tk : Time} {s : State} (h : epochBarred tk (advanceTo t s) = true) :
    exec (.plyEpoch t tk) s = .next (advanceTo t s) := by
  rw [plyEpoch_eq, h]; rfl

theorem plyEpoch_runs {t tk : Time} {s : State} (hrun : running (advanceTo t s) = true) (hply : hasPly (advanceTo t s) = true)
    (hspan : (advanceTo t s).sun.stepSpan = none) (hgrid : tk.toNat % ((cop (advanceTo t s)).ply.periodMs * 1000000) = 0)
    (hnow : (advanceTo t s).sun.time.toNat = tk.toNat + (cop (advanceTo t s)).ply.delayUs * 1000)
    (hlast : ∀ l, (advanceTo t s).core.ply.lastIssued = some l → l < tk) (hsince : (advanceTo t s).core.ply.since < tk) :
    exec (.plyEpoch t tk) s = .next (epochIssued tk (advanceTo t s)) := by
  have hdue : epochBarred tk (advanceTo t s) = false := by
    generalize advanceTo t s = u at *
    unfold epochBarred
    cases hl : u.core.ply.lastIssued with
    | none => simp [hrun, hply, hspan, hgrid, hnow, hsince]
    | some l => simp [hrun, hply, hspan, hgrid, hnow, hsince, hlast l hl]
  rw [plyEpoch_eq, hdue]; rfl

theorem plyEpoch_stopped {t tk : Time} {s : State} (h : running (advanceTo t s) = false) :
    exec (.plyEpoch t tk) s = .next (advanceTo t s) := plyEpoch_barred (by
  generalize advanceTo t s = u at *; simp [epochBarred, h])

theorem plyEpoch_skipped {t tk a b : Time} {s : State} (h : (advanceTo t s).sun.stepSpan = some (a, b)) (ha : a < tk) (hb : tk < b) :
    exec (.plyEpoch t tk) s = .next (advanceTo t s) := plyEpoch_barred (by
  generalize advanceTo t s = u at *; simp [epochBarred, h, ha, hb])

theorem plyEpoch_ordered {t tk l : Time} {s : State} (h : (advanceTo t s).core.ply.lastIssued = some l) (hl : tk ≤ l) :
    exec (.plyEpoch t tk) s = .next (advanceTo t s) := plyEpoch_barred (by
  generalize advanceTo t s = u at *; simp [epochBarred, h, BitVec.not_lt.2 hl])

/-! #### What each stage leaves -/

theorem epochSide_sourcesJudged (tk : Time) (s : State) : epochSide (sourcesJudged tk s) = epochSide s :=
  (foldl_keeps epochSide (fun s d => epochSide_sourceEpoch tk d s) _ _).trans
    ((epochSide_excl 0 (turnPrimary s)).trans (epochSide_turnPrimary s))

/-- The fields that an epoch's stages keep among those an instruction of a Spindle does not write. -/
def epochFrame (s : State) : Sys × Outs × CopStore × Sundial := (s.sys, s.outs, s.store, s.sun)

@[simp] theorem epochFrame_landAt (tk : Time) (st : SigStatus) (i : Option Nat) (v : Word) (s : State) :
    epochFrame (landAt tk st i v s) = epochFrame s := by
  cases i <;> simp [landAt, epochFrame]

theorem epochFrame_sendAiding (tk : Time) (st : SigStatus) (s : State) : epochFrame (sendAiding tk st s) = epochFrame s := by
  simp [epochFrame]

@[simp] theorem epochSide_landAt (tk : Time) (st : SigStatus) (i : Option Nat) (v : Word) (s : State) :
    epochSide (landAt tk st i v s) = epochSide s := by
  cases i <;> simp [landAt]

theorem epochFrame_sourcesJudged (tk : Time) (s : State) : epochFrame (sourcesJudged tk s) = epochFrame s :=
  (foldl_keeps epochFrame (fun s d => by simp [epochFrame]) _ _).trans (by simp [epochFrame])

theorem epochSide_epochLanded (tk : Time) (st : SigStatus) (c : PlyDecl) (s : State) :
    epochSide (epochLanded tk st c s) = epochSide s :=
  (foldl_keeps epochSide (fun _ (_ : PlySource) => epochSide_landAt _ _ _ _ _) _ _).trans
    ((epochSide_landAt _ _ _ _ _).trans ((epochSide_landAt _ _ _ _ _).trans
      (foldl_keeps epochSide (fun _ (_ : Option Nat × Word) => epochSide_landAt _ _ _ _ _) _ _)))

theorem epochFrame_epochLanded (tk : Time) (st : SigStatus) (c : PlyDecl) (s : State) :
    epochFrame (epochLanded tk st c s) = epochFrame s :=
  (foldl_keeps epochFrame (fun _ (_ : PlySource) => epochFrame_landAt _ _ _ _ _) _ _).trans
    ((epochFrame_landAt _ _ _ _ _).trans ((epochFrame_landAt _ _ _ _ _).trans
      (foldl_keeps epochFrame (fun _ (_ : Option Nat × Word) => epochFrame_landAt _ _ _ _ _) _ _)))

theorem freeWords_length (n : Nat) (s : State) : (freeWords n s).1.length = n := by
  induction n generalizing s with
  | zero => rfl
  | succ n ih => simp [freeWords, ih]

theorem filterEpoch_spec (g : Bool) (s : State) : let v := filterEpoch g s
    v.core.ply.pose.length = 9 ∧ v.core.ply.issuedAt = s.core.ply.issuedAt ∧ v.core.ply.epochsSec = s.core.ply.epochsSec ∧
      (epochSide v).2 = (epochSide s).2 ∧ epochFrame v = epochFrame s := by
  refine ⟨freeWords_length 9 s, ?_, ?_, ?_, by simp [epochFrame]⟩ <;> simp [filterEpoch, setPly, epochSide]

theorem epochFiltered_spec (tk : Time) (l : List PlySource) (s : State) : let v := epochFiltered tk l s
    v.core.ply.pose.length = 9 ∧ v.core.ply.issuedAt = s.core.ply.issuedAt ∧ v.core.ply.epochsSec = s.core.ply.epochsSec ∧
      (epochSide v).2 = (epochSide s).2 ∧ epochFrame v = epochFrame s := by
  unfold epochFiltered
  cases gnssContributes l s
  · exact filterEpoch_spec _ _
  · exact filterEpoch_spec true (setPly { s.core.ply with lastGnssPos := some tk } s)

theorem poseStatusOf_noImu {tk : Time} {s : State} (h : ∀ d ∈ (cop s).ply.sources, isImu d = false) :
    poseStatusOf tk s = .quarantined := by
  have hany : ((cop s).ply.sources.any fun d => isImu d && (plySrc s d.number).contrib) = false := by
    rw [List.any_eq_false]
    intro d hd
    simp [h d hd]
  simp [poseStatusOf, hany]

theorem tenKept_spec (tk : Time) (st : SigStatus) (s : State) :
    epochSide (tenKept tk st s) = epochSide s ∧ epochFrame (tenKept tk st s) = epochFrame s := by
  unfold tenKept
  split <;> exact ⟨rfl, rfl⟩

theorem epochIssued_spec (tk : Time) (s : State) : let v := epochIssued tk s
    v.core.ply.lastIssued = some tk ∧ v.core.ply.issuedAt = (tk, s.sun.time) :: s.core.ply.issuedAt ∧
      v.core.ply.epochsSec = s.core.ply.epochsSec + 1 ∧ v.core.ply.pose.length = 9 ∧
      ((∀ d ∈ (cop s).ply.sources, isImu d = false) → v.core.ply.poseStatus = .quarantined) ∧
      v.core.sram = s.core.sram ∧ v.core.acts = s.core.acts ∧ v.core.bobs = s.core.bobs ∧ v.core.tasks = s.core.tasks ∧
      v.sys = s.sys ∧ v.outs = s.outs ∧ v.store = s.store := by
  have hjudged := epochSide_sourcesJudged tk s
  have hjudgedFrame := epochFrame_sourcesJudged tk s
  obtain ⟨hpose, hissued, hsec, hspin, hframe⟩ := epochFiltered_spec tk (cop s).ply.sources (sourcesJudged tk s)
  have hside : epochSide (epochIssued tk s) = epochSide (epochMarked tk (epochFiltered tk (cop s).ply.sources (sourcesJudged tk s))) :=
    (epochSide_sendAiding _ _ _).trans ((tenKept_spec _ _ _).1.trans (epochSide_epochLanded _ _ _ _))
  have hrest : epochFrame (epochIssued tk s) = epochFrame (epochFiltered tk (cop s).ply.sources (sourcesJudged tk s)) :=
    (epochFrame_sendAiding _ _ _).trans ((tenKept_spec _ _ _).2.trans (epochFrame_epochLanded _ _ _ _))
  generalize epochFiltered tk (cop s).ply.sources (sourcesJudged tk s) = w at *
  generalize sourcesJudged tk s = j at *
  simp only [epochSide, epochFrame, epochMarked, setPly, Prod.mk.injEq] at *
  obtain ⟨⟨hlast', hissued', hsec', hpose', hstatus'⟩, hsram', hacts', hbobs', htasks'⟩ := hside
  obtain ⟨⟨-, hissuedJ, hsecJ, -, -⟩, hsramJ, hactsJ, hbobsJ, htasksJ⟩ := hjudged
  obtain ⟨hsysJ, houtsJ, hstoreJ, hsunJ⟩ := hjudgedFrame
  obtain ⟨hsramW, hactsW, hbobsW, htasksW⟩ := hspin
  obtain ⟨hsysW, houtsW, hstoreW, hsunW⟩ := hframe
  obtain ⟨hsys', houts', hstore', -⟩ := hrest
  refine ⟨hlast', ?_, ?_, ?_, fun himu => ?_, ?_, ?_, ?_, ?_, ?_, ?_, ?_⟩
  · rw [hissued', hsunW, hsunJ, hissued, hissuedJ]
  · rw [hsec', hsec, hsecJ]
  · rw [hpose', hpose]
  · rw [hstatus']
    refine poseStatusOf_noImu ?_
    rw [cop, hstoreW, hstoreJ]; exact himu
  · rw [hsram', hsramW, hsramJ]
  · rw [hacts', hactsW, hactsJ]
  · rw [hbobs', hbobsW, hbobsJ]
  · rw [htasks', htasksW, htasksJ]
  · rw [hsys', hsysW, hsysJ]
  · rw [houts', houtsW, houtsJ]
  · rw [hstore', hstoreW, hstoreJ]

/-! ### The end of a device-time second (R220) -/

/-- A source judged by its late samples. -/
def lateJudged (total : Nat) (x : PlySrcSt) : PlySrcSt := { x with lateflag := decide (total < 20 * x.lateSec), lateSec := 0 }

/-- The step of the fold over the sources. -/
def lateStep (total : Nat) (s : State) (d : PlySource) : State :=
  let x := plySrc s d.number
  let v := setPlySrc d.number (lateJudged total x) s
  if decide (total < 20 * x.lateSec) = x.lateflag then v
  else raise (if decide (total < 20 * x.lateSec) then .warning else .notice) 0x0A 0x0008 [BitVec.ofNat 32 d.number] v

theorem plyLateflagEval_runs {t : Time} {s : State} (hrun : running (advanceTo t s) = true) (ht : t.toNat % 1000000000 = 0)
    (hnow : (advanceTo t s).sun.time = t) : exec (.plyLateflagEval t) s = .next (
      let v := (cop (advanceTo t s)).ply.sources.foldl (lateStep (advanceTo t s).core.ply.epochsSec) (advanceTo t s)
      setPly { v.core.ply with epochsSec := 0 } v) := by
  have hcond : ¬(!running (advanceTo t s) || decide (t.toNat % second ≠ 0) || decide ((advanceTo t s).sun.time ≠ t)) = true := by
    rw [hrun, hnow]; simp [second, ht]
  rw [exec_plyLateflagEval, execPlyLateflagEval]
  exact congrArg Host.Outcome.next ((if_neg hcond).trans rfl)

theorem lateStep_spec (total : Nat) (s : State) (d : PlySource) : let v := lateStep total s d
    plySrc v d.number = lateJudged total (plySrc s d.number) ∧ (∀ n, n ≠ d.number → plySrc v n = plySrc s n) ∧
      (v.core.sram, v.core.signals, v.sys) = (s.core.sram, s.core.signals, s.sys) := by
  have hcore : (lateStep total s d).core = (setPlySrc d.number (lateJudged total (plySrc s d.number)) s).core := by
    unfold lateStep
    dsimp only
    split <;> simp
  refine ⟨?_, fun n hn => ?_, ?_⟩
  · rw [plySrc, hcore]; exact plySrc_setPlySrc _ _ _
  · rw [plySrc, hcore]; exact plySrc_setPlySrc_ne _ _ _ _ hn
  · rw [hcore]
    unfold lateStep
    dsimp only
    split <;> simp [setPlySrc]

theorem lateFold_other {total n : Nat} {l : List PlySource} (h : n ∉ l.map (·.number)) (s : State) :
    plySrc (l.foldl (lateStep total) s) n = plySrc s n := by
  induction l generalizing s with
  | nil => rfl
  | cons d l ih =>
    obtain ⟨hd, hl⟩ := not_or.1 (List.mem_cons.not.1 h)
    rw [List.foldl_cons, ih hl, (lateStep_spec total s d).2.1 n hd]

/-- Each source is judged once. -/
theorem lateFold_each {total : Nat} {l : List PlySource} (h : (l.map (·.number)).Nodup) (s : State) (d : PlySource) (hd : d ∈ l) :
    plySrc (l.foldl (lateStep total) s) d.number = lateJudged total (plySrc s d.number) := by
  induction l generalizing s with
  | nil => cases hd
  | cons e l ih =>
    obtain ⟨hnot, hnodup⟩ := List.nodup_cons.1 h
    rw [List.foldl_cons]
    rcases List.mem_cons.1 hd with rfl | hl
    · rw [lateFold_other hnot, (lateStep_spec total s d).1]
    · have hne : d.number ≠ e.number := fun heq => hnot (by
        show e.number ∈ _
        rw [← heq]
        exact List.mem_map_of_mem hl)
      rw [ih hnodup _ hl, (lateStep_spec total s e).2.1 _ hne]

/-! ### The pose history (R227) -/

theorem nextPose_first {s : State} (h : s.spool.history = []) (hsoon : s.sun.time.toNat < 250000000000) :
    nextPose s = upTen s.core.ply.since.toNat := by
  have hzero : s.sun.time.toNat - 25599 * tenNs = 0 := by unfold tenNs; omega
  simp only [nextPose, h, hzero]
  exact Nat.max_eq_left (Nat.zero_le _)

/-- Only one instant of the grid is due. -/
theorem one_due {p : Nat} {s : State} (hdue : p ≤ s.sun.time.toNat) (hone : s.sun.time.toNat < p + 10000000) :
    min 25600 (behindTen p s) = 1 := by
  unfold behindTen tenNs
  omega

theorem poseHistoryAppend_runs {t : Time} {s : State} (hrun : running (advanceTo t s) = true) (hply : hasPly (advanceTo t s) = true)
    (hdue : nextPose (advanceTo t s) ≤ (advanceTo t s).sun.time.toNat)
    (hone : (advanceTo t s).sun.time.toNat < nextPose (advanceTo t s) + 10000000) {e : PoseEntry}
    (happend : appendFrom (nextPose (advanceTo t s)) 1 (advanceTo t s) = appendPose e (advanceTo t s))
    (hyields : (cop (advanceTo t s)).ply.yields = []) :
    exec (.poseHistoryAppend t) s = .next (appendPose e (advanceTo t s)) := by
  have hcond : ¬(!running (advanceTo t s) || !hasPly (advanceTo t s)) = true := by rw [hrun, hply]; decide
  have hyields' : (cop (appendPose e (advanceTo t s))).ply.yields = [] := hyields
  rw [exec_poseHistoryAppend, execPoseHistoryAppend]
  refine congrArg Host.Outcome.next ((if_neg hcond).trans ?_)
  simp only [one_due hdue hone, happend, hyields']
  rfl

theorem poseHistoryAppend_stopped {t : Time} {s : State} (h : running (advanceTo t s) = false) :
    exec (.poseHistoryAppend t) s = .next (advanceTo t s) := by
  rw [exec_poseHistoryAppend, execPoseHistoryAppend]
  exact congrArg Host.Outcome.next (if_pos (by rw [h]; rfl))

/-- Without a pose before it an instant of the grid has none. -/
theorem appendFrom_noPose {p : Nat} {s : State} (hdue : p < s.sun.time.toNat) (hten : s.core.ply.lastTen = none)
    (hissued : s.core.ply.issuedAt = []) (hdelay : (cop s).ply.delayUs = 0) : appendFrom p 1 s = appendPose (noPose p) s := by
  unfold appendFrom
  simp only [if_neg (Nat.not_lt.2 hdue.le), hten, hissued, hdelay, List.any_nil, Bool.not_false, Bool.or_true, if_true, Nat.zero_mul,
    Nat.add_zero, if_neg (Nat.not_le.2 hdue)]
  split <;> rfl

/-- The pose of an epoch on the 10 ms grid stands at its instant. -/
theorem appendFrom_pose {p : Nat} {e : PoseEntry} {s : State} (hdue : p ≤ s.sun.time.toNat) (hten : s.core.ply.lastTen = some e)
    (hstamp : e.stamp.toNat = p) (hgrid : p % ((cop s).ply.periodMs * 1000000) = 0) : appendFrom p 1 s = appendPose e s := by
  unfold appendFrom
  simp only [if_neg (Nat.not_lt.2 hdue), if_pos hgrid, hten, if_pos hstamp]
  rfl

/-! ### Yield records (R228 to R230) -/

/-- What reading τ or a width leaves: the yield channels but for the last good τ, the data SRAM, the Bobbins. -/
def yieldSide (s : State) : SMap Byte × SMap Bob × Sys := (s.core.sram, s.core.bobs, s.sys)

theorem yieldSide_readSignal (r : Option Nat) (i : Nat) (f : Fallback) (a b : Time) (s : State) :
    yieldSide (readSignal r i f a b s).2 = yieldSide s ∧ (readSignal r i f a b s).2.core.ply = s.core.ply := by
  unfold readSignal
  dsimp only
  (repeat' split) <;> simp [yieldSide, setRing]

theorem yieldSt_congr {s v : State} (h : v.core.ply = s.core.ply) (n : Nat) : yieldSt v n = yieldSt s n := by rw [yieldSt, h]; rfl

/-- Reading τ changes the last good τ of its channel alone. -/
theorem readTau_spec (n : Nat) (d : YieldDecl) (a : Time) (s : State) : let v := (readTau n d a s).2.2
    yieldSide v = yieldSide s ∧ (∀ c, c ≠ n → yieldSt v c = yieldSt s c) ∧ ∃ l, yieldSt v n = { yieldSt s n with lastTau := l } := by
  obtain ⟨hside, hply⟩ := yieldSide_readSignal none d.delaySig .pass a a s
  unfold readTau
  dsimp only
  split
  · refine ⟨hside, fun c hc => ?_, some (readSignal none d.delaySig .pass a a s).1.value, ?_⟩
    · rw [yieldSt_setYield_ne _ _ _ _ hc, yieldSt_congr hply]
    · rw [yieldSt_setYield, yieldSt_congr hply]
  · exact ⟨hside, fun c _ => yieldSt_congr hply c, (yieldSt s n).lastTau, yieldSt_congr hply n⟩

/-- The record that closes (R228, R229). -/
def closedRecord (x : YieldSt) (d : YieldDecl) (t : Time) (tau0 tau1 : Option Word × Bool) (w : Word) : YieldPending :=
  let startNs : Int := (t.toNat : Int) - (d.periodMs * 1000000 : Nat) - tauNs (tau0.1.getD 0)
  let endNs : Int := (t.toNat : Int) - tauNs (tau1.1.getD 0)
  { tEnd := t, mass := (sumAt x t.toNat).1, width := w, startNs := startNs, endNs := endNs
    delayUs := hold32 (roundDiv (tauNs (tau1.1.getD 0)) 1000).toNat
    flags := setBit (setBit (setBit 0 0 (tau0.2 || tau1.2)) 1 (sumAt x t.toNat).2) 2 (decide (endNs ≤ startNs))
    placed := tau0.1.isSome && tau1.1.isSome }

theorem closedRecord_spec (x : YieldSt) (d : YieldDecl) (t : Time) (tau0 tau1 : Option Word × Bool) (w : Word) :
    let q := closedRecord x d t tau0 tau1 w
    q.tEnd = t ∧ q.mass = (sumAt x t.toNat).1 ∧ q.flags.getLsbD 1 = (sumAt x t.toNat).2 := by
  refine ⟨rfl, rfl, ?_⟩
  have hbit := bit_setBit (setBit (0 : BitVec 6) 0 (tau0.2 || tau1.2)) 1 (sumAt x t.toNat).2 (by decide)
  exact (bit_setBit_ne _ _ (by decide)).trans hbit

/-- A record as it closes, with τ as of the record before. -/
def yieldClosed (ch : Nat) (d : YieldDecl) (t : Time) (tau0 : Option Word × Bool) (s : State) : State :=
  let r := readTau ch d t s
  let w := readSignal none d.widthSig .pass t t r.2.2
  let y := yieldSt w.2 ch
  setYield ch { y with
    sums := y.sums.filter fun e => decide (t.toNat < e.1), prevTau := some (r.1, r.2.1)
    pend := y.pend ++ [closedRecord (yieldSt s ch) d t tau0 (r.1, r.2.1) w.1.value] } w.2

theorem yieldRecordClose_runs {t : Time} {ch : Fin 4} {d : YieldDecl} {j : Nat} {p : Option Word × Bool} {s : State}
    (hd : (cop (advanceTo t s)).ply.yields[ch.val]? = some d) (hrun : running (advanceTo t s) = true)
    (ht : t.toNat % (d.periodMs * 1000000) = 0) (hj : (yieldSt (advanceTo t s) ch.val).nextJ = some j) (hsum : t.toNat < j)
    (hdelay : plyWaits (advanceTo t s) d.delaySig t = false) (hwidth : plyWaits (advanceTo t s) d.widthSig t = false)
    (hp : (yieldSt (advanceTo t s) ch.val).prevTau = some p) :
    exec (.yieldRecordClose t ch) s = .next (yieldClosed ch.val d t p (advanceTo t s)) := by
  generalize hu : advanceTo t s = u at *
  have hcond : ¬(!running u || decide (t.toNat % (d.periodMs * 1000000) ≠ 0) || !decide (t.toNat < j) ||
      plyWaits u d.delaySig t || plyWaits u d.widthSig t) = true := by
    rw [hrun, ht, decide_eq_true hsum, hdelay, hwidth]; decide
  rw [exec_yieldRecordClose, execYieldRecordClose]
  simp only [hu, hd, hj, hp]
  refine congrArg Host.Outcome.next ((if_neg hcond).trans ?_)
  rfl

theorem yieldClosed_spec (ch : Nat) (d : YieldDecl) (t : Time) (tau0 : Option Word × Bool) (s : State) :
    let v := yieldClosed ch d t tau0 s
    let x := yieldSt s ch
    (∃ q, (yieldSt v ch).pend = x.pend ++ [q] ∧ q.tEnd = t ∧ q.mass = (sumAt x t.toNat).1 ∧ q.flags.getLsbD 1 = (sumAt x t.toNat).2) ∧
      (yieldSt v ch).sums = x.sums.filter (fun e => decide (t.toNat < e.1)) ∧ (yieldSt v ch).prevTau.isSome = true ∧
      (∀ c, c ≠ ch → yieldSt v c = yieldSt s c) ∧ yieldSide v = yieldSide s := by
  obtain ⟨hside, hother, l, hsame⟩ := readTau_spec ch d t s
  obtain ⟨hwside, hwply⟩ := yieldSide_readSignal none d.widthSig .pass t t (readTau ch d t s).2.2
  have hy : yieldSt (readSignal none d.widthSig .pass t t (readTau ch d t s).2.2).2 ch = { yieldSt s ch with lastTau := l } :=
    (yieldSt_congr hwply ch).trans hsame
  obtain ⟨hend, hmass, hflag⟩ := closedRecord_spec (yieldSt s ch) d t tau0 ((readTau ch d t s).1, (readTau ch d t s).2.1)
    (readSignal none d.widthSig .pass t t (readTau ch d t s).2.2).1.value
  simp only [yieldClosed, hy, yieldSt_setYield]
  generalize readSignal none d.widthSig .pass t t (readTau ch d t s).2.2 = w at *
  generalize readTau ch d t s = r at *
  refine ⟨⟨_, rfl, hend, hmass, hflag⟩, trivial, rfl, fun c hc => ?_, hwside.trans hside⟩
  exact (yieldSt_setYield_ne _ _ _ _ hc).trans ((yieldSt_congr hwply c).trans (hother c hc))

/-- A record that no pose places, taken from its channel. -/
def unplaced (ch : Nat) (q : YieldPending) (r : List YieldPending) (s : State) : State :=
  let v := setYield ch { yieldSt s ch with pend := r } s
  setPly { v.core.ply with yieldStat := at32 ch 30 ||| (setBit q.flags 4 true).zeroExtend 32 } v

theorem yieldRecordPush_runs {t : Time} {ch : Fin 4} {d : YieldDecl} {q : YieldPending} {r : List YieldPending} {s : State}
    (hd : (cop (advanceTo t s)).ply.yields[ch.val]? = some d) (hpend : (yieldSt (advanceTo t s) ch.val).pend = q :: r)
    (hrun : running (advanceTo t s) = true) (hq : q.placed = false) :
    let zero : Placed := { lat := 0, lon := 0, hgt := 0, heading := 0, speed := 0, fix := 3, gap := false }
    exec (.yieldRecordPush t ch) s = .next (offer d.bobbin q.tEnd 0 (yieldBytes ch.val q (setBit q.flags 4 true) zero zero)
      (unplaced ch.val q r (advanceTo t s))).2 := by
  generalize hu : advanceTo t s = u at *
  have hcond (b : Bool) : ¬(!running u || !(!q.placed || b)) = true := by rw [hrun, hq]; cases b <;> decide
  rw [exec_yieldRecordPush, execYieldRecordPush]
  simp only [hu, hd, hpend]
  refine congrArg Host.Outcome.next ((if_neg (hcond _)).trans ?_)
  simp only [hq]
  rfl

theorem unplaced_spec (ch : Nat) (q : YieldPending) (r : List YieldPending) (s : State) : let v := unplaced ch q r s
    (yieldSt v ch).pend = r ∧ (∀ c, c ≠ ch → yieldSt v c = yieldSt s c) ∧
      v.core.ply.yieldStat = ((BitVec.ofNat 32 ch) <<< 30) ||| (setBit q.flags 4 true).zeroExtend 32 ∧
      v = { s with core := { s.core with ply := v.core.ply } } := by
  refine ⟨congrArg YieldSt.pend (yieldSt_setYield ch { yieldSt s ch with pend := r } s), fun c hc => ?_, rfl, rfl⟩
  exact yieldSt_setYield_ne _ _ { yieldSt s ch with pend := r } _ hc

theorem yieldRecordClose_closes {t : Time} {ch : Fin 4} {d : YieldDecl} {j : Nat} {p : Option Word × Bool} {s : State}
    (hd : (cop (advanceTo t s)).ply.yields[ch.val]? = some d) (hrun : running (advanceTo t s) = true)
    (ht : t.toNat % (d.periodMs * 1000000) = 0) (hj : (yieldSt (advanceTo t s) ch.val).nextJ = some j) (hsum : t.toNat < j)
    (hdelay : plyWaits (advanceTo t s) d.delaySig t = false) (hwidth : plyWaits (advanceTo t s) d.widthSig t = false)
    (hp : (yieldSt (advanceTo t s) ch.val).prevTau = some p) : let u := advanceTo t s
    let x := yieldSt u ch.val
    ∃ v q, exec (.yieldRecordClose t ch) s = .next v ∧ (yieldSt v ch.val).pend = x.pend ++ [q] ∧ q.tEnd = t ∧
      q.mass = (sumAt x t.toNat).1 ∧ q.flags.getLsbD 1 = (sumAt x t.toNat).2 ∧
      (yieldSt v ch.val).sums = x.sums.filter (fun e => decide (t.toNat < e.1)) ∧ (yieldSt v ch.val).prevTau.isSome = true ∧
      (∀ c, c ≠ ch.val → yieldSt v c = yieldSt u c) ∧ v.core.sram = u.core.sram ∧ v.core.bobs = u.core.bobs ∧ v.sys = u.sys := by
  obtain ⟨⟨q, hpend, hq⟩, hsums, hprev, hother, hside⟩ := yieldClosed_spec ch.val d t p (advanceTo t s)
  simp only [yieldSide, Prod.mk.injEq] at hside
  obtain ⟨hend, hmass, hflag⟩ := hq
  exact ⟨_, q, yieldRecordClose_runs hd hrun ht hj hsum hdelay hwidth hp, hpend, hend, hmass, hflag, hsums, hprev, hother, hside⟩

/-- Settles O44: an epoch in stages with what each leaves; a fold over the sources; one instant of the pose grid; a yield record's close and
its push. -/
theorem epochsAndYield : Obligations.EpochsAndYield := by
  refine ⟨⟨fun t tk s => ⟨fun hstop => plyEpoch_stopped hstop, fun hrun hply hspan hgrid hnow hlast hsince =>
      ⟨_, plyEpoch_runs hrun hply hspan hgrid hnow hlast hsince, epochIssued_spec _ _⟩,
      fun a b hspan ha hb => plyEpoch_skipped hspan ha hb, fun l hl hle => plyEpoch_ordered hl hle⟩,
    fun t s hrun ht hnow hnodup => ⟨_, plyLateflagEval_runs hrun ht hnow, ?late⟩⟩,
    fun t s => ⟨fun hstop => poseHistoryAppend_stopped hstop, ?first, ?kept⟩,
    fun t ch d j p s hd hrun ht hj hsum hdelay hwidth hp =>
      yieldRecordClose_closes hd hrun ht hj hsum hdelay hwidth hp, ?push⟩
  case late =>
    generalize advanceTo t s = u at *
    have hside := foldl_keeps (fun s => (s.core.sram, s.core.signals, s.sys))
      (fun s d => (lateStep_spec u.core.ply.epochsSec s d).2.2) (cop u).ply.sources u
    simp only [Prod.mk.injEq] at hside
    obtain ⟨hsram, hsignals, hsys⟩ := hside
    exact ⟨rfl, fun d hd => lateFold_each hnodup u d hd, hsram, hsignals, hsys⟩
  case first =>
    intro hrun hply hyields hhistory hten hissued hdelay _ hdue hone hne hsoon
    have hnext := nextPose_first hhistory hsoon
    refine ⟨_, poseHistoryAppend_runs hrun hply (hnext ▸ hdue) (hnext ▸ hone)
      (appendFrom_noPose (hnext ▸ lt_of_le_of_ne hdue (Ne.symm hne)) hten hissued hdelay) hyields, ?_⟩
    rw [hnext, appendPose, hhistory]
    rfl
  case kept =>
    intro e hrun hply hyields hten hstamp hgrid hdue hone
    exact ⟨_, poseHistoryAppend_runs hrun hply hdue hone (appendFrom_pose hdue hten hstamp hgrid) hyields, rfl⟩
  case push =>
    intro t ch d q r dl y s u zero e hd hpend hrun hq hlane hdl hheld hplace
    have hgate : u.lanes.gate = true := by
      unfold running at hrun
      simp only [Bool.and_eq_true] at hrun
      obtain ⟨⟨⟨hgate, -⟩, -⟩, -⟩ := hrun
      exact hgate
    refine ⟨_, yieldRecordPush_runs hd hpend hrun hq, ?_⟩
    obtain ⟨hpend', hother, hstat, hframe⟩ := unplaced_spec ch.val q r u
    have hpushed := offer_placed (n := d.bobbin) (stamp := q.tEnd) (aux := 0)
      (bytes := yieldBytes ch.val q (setBit q.flags 4 true) zero zero) (s := unplaced ch.val q r u) hlane hgate hdl hheld hplace
    rw [show advanceTo t s = u from rfl, hpushed]
    refine ⟨hpend', hstat, bob_setBob _ _ _, fun m hm => bob_setBob_ne _ _ _ _ hm, hother, ?_⟩
    rw [hframe]; rfl

end Sys2Proof.Machine
end

section
/-! PROOFS. GNSS channels and antennas (R234 to R241). -/
namespace Sys2Proof.Machine
open Sys2Proof.Safety

/-! ### What the search engines touch (R239, R240) -/

/-- The baseband without its search engines and what they look for. -/
def searchSide (s : State) : Gnss := { s.gnss with engines := [], lost := [] }

theorem gnss_of_searchSide {s v : State} (h : searchSide v = searchSide s) :
    v.gnss = { s.gnss with engines := v.gnss.engines, lost := v.gnss.lost } :=
  congrArg (fun g : Gnss => { g with engines := v.gnss.engines, lost := v.gnss.lost }) h

theorem gch_of_searchSide {s v : State} (h : searchSide v = searchSide s) (n : Nat) : gch v n = gch s n := by
  rw [gch, gnss_of_searchSide h]; rfl

theorem antState_of_searchSide {s v : State} (h : searchSide v = searchSide s) (n : Nat) : antState v n = antState s n := by
  rw [antState, gnss_of_searchSide h]; rfl

@[simp] theorem searchSide_setEng (e : Nat) (x : GnssEngine) (s : State) : searchSide (setEng e x s) = searchSide s := rfl

theorem searchSide_engageEngine (e : Nat) (s : State) : searchSide (engageEngine e s) = searchSide s := by
  unfold engageEngine
  dsimp only
  (repeat' split) <;> simp [searchSide, setEng]

theorem searchSide_engageAll (s : State) : searchSide (engageAll s) = searchSide s :=
  foldl_keeps searchSide (fun s e => searchSide_engageEngine e s) _ s

theorem engageEngine_frame (e : Nat) (s : State) : let v := engageEngine e s
    v = { s with gnss := { s.gnss with engines := v.gnss.engines, lost := v.gnss.lost }, free := v.free } := by
  have hgnss := gnss_of_searchSide (searchSide_engageEngine e s)
  apply State.eq_of_parts
  case h15 => exact hgnss
  all_goals simp

theorem engageAll_frame (s : State) : let v := engageAll s
    v = { s with gnss := { s.gnss with engines := v.gnss.engines, lost := v.gnss.lost }, free := v.free } := by
  have hgnss := gnss_of_searchSide (searchSide_engageAll s)
  apply State.eq_of_parts
  case h15 => exact hgnss
  all_goals simp

/-- The same against a state from which channels and lost satellites have changed. -/
theorem engageAll_withChans {s w : State}
    (h : w = { s with gnss := { s.gnss with chans := w.gnss.chans, lost := w.gnss.lost } }) : let v := engageAll w
    v = { s with gnss := { s.gnss with chans := v.gnss.chans, engines := v.gnss.engines, lost := v.gnss.lost }, free := v.free } := by
  have hframe := engageAll_frame w
  have hchans : (engageAll w).gnss.chans = w.gnss.chans := by rw [gnss_of_searchSide (searchSide_engageAll _)]
  generalize engageAll w = v at *
  dsimp only
  rw [hchans]
  exact hframe.trans (congrArg (fun z : State =>
    { z with gnss := { z.gnss with engines := v.gnss.engines, lost := v.gnss.lost }, free := v.free }) h)

theorem warmSearch_gnss (s : State) : (warmSearch s).2.gnss = s.gnss := by simp
theorem nextFree_gnss (s : State) : (nextFree s).2.gnss = s.gnss := by simp

/-- An engine that takes a satellite touches no other engine. -/
theorem eng_engageEngine_ne {e g : Nat} (s : State) (h : g ≠ e) : eng (engageEngine e s) g = eng s g := by
  have hset (x : GnssEngine) (v : State) (hv : v.gnss.engines = s.gnss.engines) : eng (setEng e x v) g = eng s g := by
    rw [eng_setEng_ne _ _ _ _ h, eng, hv]; rfl
  unfold engageEngine
  extract_lets l
  split
  · rfl
  · split
    · split
      rename_i warm v hv
      refine hset _ _ ?_
      exact (congrArg (fun p => p.2.gnss.engines) hv.symm).trans (congrArg Gnss.engines (warmSearch_gnss s))
    · split
      · rfl
      · split
        rename_i w v hv
        split
        rename_i warm v' hv'
        refine hset _ _ ?_
        exact congrArg Gnss.engines ((congrArg (fun p => p.2.gnss) hv'.symm).trans ((warmSearch_gnss v).trans
          ((congrArg (fun p => p.2.gnss) hv.symm).trans (nextFree_gnss s))))

/-- With nothing to look for an engine stays as it is. -/
theorem engageEngine_idle {e : Nat} {s : State} (hlost : s.gnss.lost = []) (hnone : searched s = []) : engageEngine e s = s := by
  have hwanted : wanted s = none := by rw [wanted, hlost]; rfl
  unfold engageEngine
  simp only [hwanted, hnone]
  split <;> rfl

/-! ### Search (R235, R239) -/

section
variable {t : Time} {e : Fin 32} {c : Fin 256} {s : State}

theorem mayTake_idle {u : State} {n : Nat} (g : Nat) (h : (gch u n).state = 0) : mayTake u n g = true := by simp [mayTake, h]

theorem searchCellFound_runs (hsamples : samples (advanceTo t s) = true) (hbusy : (eng (advanceTo t s) e.val).busy = true)
    (hgate : (advanceTo t s).lanes.gate = true) (hidle : (gch (advanceTo t s) c.val).state = 0) :
    exec (.searchCellFound t e c) s = .next (let y := eng (advanceTo t s) e.val
      engageEngine e.val (setEng e.val {} (assign c.val y.signal y.sv y.ant 0 (advanceTo t s)))) := by
  have hcond : ¬(!samples (advanceTo t s) || !(eng (advanceTo t s) e.val).busy || !(advanceTo t s).lanes.gate ||
      !mayTake (advanceTo t s) c.val (groupOf (eng (advanceTo t s) e.val).signal (eng (advanceTo t s) e.val).ant)) = true := by
    rw [hsamples, hbusy, hgate, mayTake_idle _ hidle]; decide
  rw [exec_searchCellFound, execSearchCellFound]
  exact congrArg Host.Outcome.next (if_neg hcond)

theorem searchCellFound_refused (h : mayTake (advanceTo t s) c.val
    (groupOf (eng (advanceTo t s) e.val).signal (eng (advanceTo t s) e.val).ant) = false) :
    exec (.searchCellFound t e c) s = .next (advanceTo t s) := by
  rw [exec_searchCellFound, execSearchCellFound]
  exact congrArg Host.Outcome.next (if_pos (by rw [h]; simp))

section
variable (hsamples : samples (advanceTo t s) = true) (hbusy : (eng (advanceTo t s) e.val).busy = true)
include hsamples hbusy

theorem searchDwellDone_runs : exec (.searchDwellDone t e) s = .next (
    let y := eng (advanceTo t s) e.val
    if y.phase + 64 < windowPhases y.window y.signal then setEng e.val { y with phase := y.phase + 64 } (advanceTo t s)
    else if y.bin + 1 < windowBins (advanceTo t s) y.window then setEng e.val { y with phase := 0, bin := y.bin + 1 } (advanceTo t s)
    else engageEngine e.val (setEng e.val {} (advanceTo t s))) := by
  have hcond : ¬(!samples (advanceTo t s) || !(eng (advanceTo t s) e.val).busy) = true := by rw [hsamples, hbusy]; decide
  rw [exec_searchDwellDone, execSearchDwellDone]
  exact congrArg Host.Outcome.next (if_neg hcond)

theorem searchDwellDone_phase (hphase : (eng (advanceTo t s) e.val).phase + 64 <
    windowPhases (eng (advanceTo t s) e.val).window (eng (advanceTo t s) e.val).signal) : exec (.searchDwellDone t e) s =
      .next (setEng e.val { eng (advanceTo t s) e.val with phase := (eng (advanceTo t s) e.val).phase + 64 } (advanceTo t s)) :=
  (searchDwellDone_runs hsamples hbusy).trans (congrArg Host.Outcome.next (if_pos hphase))

theorem searchDwellDone_bin (hphase : windowPhases (eng (advanceTo t s) e.val).window (eng (advanceTo t s) e.val).signal ≤
      (eng (advanceTo t s) e.val).phase + 64)
    (hbin : (eng (advanceTo t s) e.val).bin + 1 < windowBins (advanceTo t s) (eng (advanceTo t s) e.val).window) :
    exec (.searchDwellDone t e) s = .next (setEng e.val { eng (advanceTo t s) e.val with
      phase := 0, bin := (eng (advanceTo t s) e.val).bin + 1 } (advanceTo t s)) :=
  (searchDwellDone_runs hsamples hbusy).trans (congrArg Host.Outcome.next ((if_neg (Nat.not_lt.2 hphase)).trans (if_pos hbin)))

theorem searchDwellDone_window (hphase : windowPhases (eng (advanceTo t s) e.val).window (eng (advanceTo t s) e.val).signal ≤
      (eng (advanceTo t s) e.val).phase + 64)
    (hbin : windowBins (advanceTo t s) (eng (advanceTo t s) e.val).window ≤ (eng (advanceTo t s) e.val).bin + 1)
    (hlost : (advanceTo t s).gnss.lost = []) (hnone : searched (advanceTo t s) = []) :
    exec (.searchDwellDone t e) s = .next (setEng e.val {} (advanceTo t s)) :=
  (searchDwellDone_runs hsamples hbusy).trans (congrArg Host.Outcome.next ((if_neg (Nat.not_lt.2 hphase)).trans
    ((if_neg (Nat.not_lt.2 hbin)).trans (engageEngine_idle hlost hnone))))
end
end

/-! ### The life of a channel (R236 to R238) -/

section
variable {t : Time} {c : Fin 256} {s : State} (hsamples : samples (advanceTo t s) = true)
include hsamples

/-- A channel behind PULLIN. -/
def pulledIn (now : Time) (x : GnssCh) : GnssCh :=
  { x with state := 2, slip := true, since := now, exclAt := if x.suspect then now else x.exclAt }

theorem channelPullinEnd_runs (h1 : (gch (advanceTo t s) c.val).state = 1) : exec (.channelPullinEnd t c none) s =
    .next (setGch c.val (pulledIn (advanceTo t s).sun.time (gch (advanceTo t s) c.val)) (advanceTo t s)) := by
  have hcond : ¬(!samples (advanceTo t s) || decide ((gch (advanceTo t s) c.val).state ≠ 1)) = true := by rw [hsamples, h1]; decide
  rw [exec_channelPullinEnd, execChannelPullinEnd]
  exact congrArg Host.Outcome.next (if_neg hcond)

theorem channelPullinEnd_hands {h : Fin 256} {k : BitVec 4} (h1 : (gch (advanceTo t s) c.val).state = 1) (hne : h ≠ c)
    (hidle : (gch (advanceTo t s) h.val).state = 0) (hk : l5Of (gch (advanceTo t s) c.val).signal = some k)
    (hcfg : bit (advanceTo t s).gnss.cfg k.toNat = true) (hgate : (advanceTo t s).lanes.gate = true) :
    exec (.channelPullinEnd t c (some h)) s = .next (let x := gch (advanceTo t s) c.val
      assign h.val k x.sv x.ant (handPhase x.signal x.codePhase)
        (setGch c.val (pulledIn (advanceTo t s).sun.time x) (advanceTo t s))) := by
  generalize hu : advanceTo t s = u at *
  have hcond : ¬(!samples u || decide ((gch u c.val).state ≠ 1)) = true := by rw [hsamples, h1]; decide
  have hidle' : (gch (setGch c.val (pulledIn u.sun.time (gch u c.val)) u) h.val).state = 0 := by
    rw [gch_setGch_ne _ _ _ _ (fun heq => hne (Fin.ext heq)), hidle]
  have hfree : (decide (h = c) || !u.lanes.gate || !bit u.gnss.cfg k.toNat ||
      !mayTake (setGch c.val (pulledIn u.sun.time (gch u c.val)) u) h.val (groupOf k (gch u c.val).ant)) = false := by
    rw [decide_eq_false hne, hgate, hcfg, mayTake_idle _ hidle']; rfl
  rw [exec_channelPullinEnd, execChannelPullinEnd]
  simp only [hu]
  refine congrArg Host.Outcome.next ((if_neg hcond).trans ?_)
  simp only [hk]
  exact if_neg (Bool.eq_false_iff.1 hfree)

theorem channelCoastEnter_runs (h2 : (gch (advanceTo t s) c.val).state = 2) : exec (.channelCoastEnter t c) s =
    .next (setGch c.val { gch (advanceTo t s) c.val with state := 3, since := (advanceTo t s).sun.time } (advanceTo t s)) := by
  have hcond : (samples (advanceTo t s) && decide ((gch (advanceTo t s) c.val).state = 2)) = true := by rw [hsamples, h2]; rfl
  rw [exec_channelCoastEnter, execChannelCoastEnter]
  exact congrArg Host.Outcome.next (if_pos hcond)

theorem channelRelock_runs (h3 : (gch (advanceTo t s) c.val).state = 3) : exec (.channelRelock t c) s =
    .next (setGch c.val { gch (advanceTo t s) c.val with state := 1, since := (advanceTo t s).sun.time } (advanceTo t s)) := by
  have hcond : (samples (advanceTo t s) && decide ((gch (advanceTo t s) c.val).state = 3)) = true := by rw [hsamples, h3]; rfl
  rw [exec_channelRelock, execChannelRelock]
  exact congrArg Host.Outcome.next (if_pos hcond)

/-- A channel that COAST ends in IDLE, its satellite to be searched again. -/
def coastLost (c : Nat) (s : State) : State :=
  let x := gch s c
  let v := setGch c { x with state := 0, aid := 0, aided := false } s
  let l : LostSat := { signal := x.signal, sv := x.sv, ant := x.ant, since := v.sun.time, coast := true }
  { v with gnss := { v.gnss with lost := l :: v.gnss.lost } }

/-- A channel that COAST ends in IDLE, and the search for its satellite. -/
def coastOver (c : Nat) (s : State) : State :=
  if !isL1 (gch s c).signal then setGch c { gch s c with state := 0, aid := 0, aided := false } s else engageAll (coastLost c s)

theorem channelCoastTimeout_runs (h3 : (gch (advanceTo t s) c.val).state = 3) (hdue : (gch (advanceTo t s) c.val).since.toNat +
      (if (gch (advanceTo t s) c.val).aided then 10000000000 else 1000000000) ≤ (advanceTo t s).sun.time.toNat) :
    exec (.channelCoastTimeout t c none) s = .next (coastOver c.val (advanceTo t s)) := by
  have hcond : ¬(!samples (advanceTo t s) || decide ((gch (advanceTo t s) c.val).state ≠ 3) ||
      decide ((advanceTo t s).sun.time.toNat < (gch (advanceTo t s) c.val).since.toNat +
        (if (gch (advanceTo t s) c.val).aided then 10 * second else second))) = true := by
    rw [hsamples, h3, show decide (_ < _ + (if (gch (advanceTo t s) c.val).aided then 10 * second else second)) = false from
      decide_eq_false (Nat.not_lt.2 hdue)]
    decide
  rw [exec_channelCoastTimeout, execChannelCoastTimeout]
  exact congrArg Host.Outcome.next (if_neg hcond)

omit hsamples in
theorem spacingChangeApply_runs (hne : (gch (advanceTo t s) c.val).state ≠ 0) : exec (.spacingChangeApply t c) s =
    .next (setGch c.val { gch (advanceTo t s) c.val with spacing := spacingOf (advanceTo t s) (gch (advanceTo t s) c.val).signal }
      (advanceTo t s)) := by
  rw [exec_spacingChangeApply, execSpacingChangeApply]
  exact congrArg Host.Outcome.next (if_pos (decide_eq_true hne))
end

theorem coastOver_spec (c : Nat) (s : State) : let v := coastOver c s
    gch v c = { gch s c with state := 0, aid := 0, aided := false } ∧ (∀ d, d ≠ c → gch v d = gch s d) ∧
      (isL1 (gch s c).signal = false → v.gnss.engines = s.gnss.engines) ∧
      v = { s with gnss := { s.gnss with chans := v.gnss.chans, engines := v.gnss.engines, lost := v.gnss.lost }, free := v.free } := by
  cases hl1 : isL1 (gch s c).signal with
  | false =>
    have hover : coastOver c s = setGch c { gch s c with state := 0, aid := 0, aided := false } s := if_pos (by rw [hl1]; rfl)
    rw [hover]
    exact ⟨gch_setGch _ _ _, fun d hd => gch_setGch_ne _ _ _ _ hd, fun _ => rfl, rfl⟩
  | true =>
    have hover : coastOver c s = engageAll (coastLost c s) := if_neg (by rw [hl1]; decide)
    have hgch (n : Nat) : gch (engageAll (coastLost c s)) n = gch (setGch c { gch s c with state := 0, aid := 0, aided := false } s) n :=
      gch_of_searchSide (searchSide_engageAll _) n
    have hframe := engageAll_withChans (show coastLost c s = { s with gnss := { s.gnss with
      chans := (coastLost c s).gnss.chans, lost := (coastLost c s).gnss.lost } } from rfl)
    rw [hover]
    generalize engageAll (coastLost c s) = v at *
    refine ⟨?_, fun d hd => ?_, fun h => Bool.noConfusion h, hframe⟩
    · rw [hgch, gch_setGch]
    · rw [hgch, gch_setGch_ne _ _ _ _ hd]

/-! ### Antenna biases (R234) -/

theorem antState_setAnt {n : Nat} (hn : n < 2) (v : BitVec 2) (s : State) : antState (setAnt n v s) n = v := by
  unfold setAnt
  split
  case isTrue h => exact h
  case isFalse h =>
    rcases Nat.eq_zero_or_pos n with rfl | hpos
    · rfl
    · obtain rfl : n = 1 := by omega
      rfl

theorem shortAt_setAnt (n : Nat) (v : BitVec 2) (s : State) : (setAnt n v s).gnss.shortAt = s.gnss.shortAt := by
  unfold setAnt
  split
  · rfl
  · simp only [frame_raise]
    split <;> rfl

theorem setAnt_frame (n : Nat) (v : BitVec 2) (s : State) : let w := setAnt n v s
    w = { s with gnss := w.gnss, skein := w.skein, upd := w.upd } := by
  apply State.eq_of_parts <;> simp

/-- The antenna's bias with its claim gone and its engines released. -/
def biasOff (n : Nat) (v : BitVec 2) (s : State) : State :=
  let w := setAnt n v (unqueue 4 (.antenna n) (giveBack 4 (.antenna n) s))
  { w with gnss := { w.gnss with engines := w.gnss.engines.filter fun e => !(e.2.busy && decide (antOf e.2.ant = n)) } }

theorem dropBias_eq (n : Nat) (v : BitVec 2) (s : State) : dropBias n v s = engageAll (biasOff n v s) := rfl

theorem tally_engageAll (s : State) : (engageAll s).tally = s.tally := by simp
theorem tally_setAnt (n : Nat) (v : BitVec 2) (s : State) : (setAnt n v s).tally = s.tally := by simp

theorem dropBias_spec {n : Nat} (hn : n < 2) (v : BitVec 2) (s : State) : let w := dropBias n v s
    antState w n = v ∧ holds w 4 (.antenna n) = false ∧ waits w 4 (.antenna n) = false ∧ w.gnss.shortAt = s.gnss.shortAt ∧
      w.sys = s.sys ∧ w.core = s.core := by
  have htally : (engageAll (biasOff n v s)).tally = (unqueue 4 (.antenna n) (giveBack 4 (.antenna n) s)).tally :=
    (tally_engageAll _).trans (tally_setAnt _ _ _)
  have hside := searchSide_engageAll (biasOff n v s)
  have hsys : (engageAll (biasOff n v s)).sys = s.sys := by simp [biasOff]
  have hcore : (engageAll (biasOff n v s)).core = s.core := by simp [biasOff]
  rw [dropBias_eq]
  generalize engageAll (biasOff n v s) = w at *
  refine ⟨?_, ?_, ?_, ?_, hsys, hcore⟩
  · exact (antState_of_searchSide hside n).trans (antState_setAnt hn _ _)
  · rw [holds_eq (congrArg Ledger.admitted (ledger_congr htally 4)), holds_unqueue, holds_giveBack]
  · rw [waits_eq (congrArg Ledger.queue (ledger_congr htally 4)), waits_unqueue]
  · rw [gnss_of_searchSide hside]
    exact (shortAt_setAnt _ _ _).trans (by simp)

section
variable {t : Time} {n : Fin 2} {s : State}

/-- The instant of a short noted. -/
def shortNoted (n : Nat) (s : State) : State := { s with gnss := { s.gnss with shortAt := SMap.insert s.gnss.shortAt n s.sun.time } }

theorem antennaBiasShort_runs (h : biased (advanceTo t s) n.val = true) :
    exec (.antennaBiasShort t n) s = .next (dropBias n.val 3 (shortNoted n.val (advanceTo t s))) := by
  rw [exec_antennaBiasShort, execAntennaBiasShort]
  exact congrArg Host.Outcome.next (if_pos h)

theorem antennaOpen_runs (h : antState (advanceTo t s) n.val = 1) :
    exec (.antennaOpen t n) s = .next (setAnt n.val 2 (advanceTo t s)) := by
  rw [exec_antennaOpen, execAntennaOpen]
  exact congrArg Host.Outcome.next (if_pos h)

theorem antennaBiasOk_runs (h : antState (advanceTo t s) n.val = 2) :
    exec (.antennaBiasOk t n) s = .next (setAnt n.val 1 (advanceTo t s)) := by
  rw [exec_antennaBiasOk, execAntennaBiasOk]
  exact congrArg Host.Outcome.next (if_pos h)

theorem antennaBiasRetry_runs {x : Time} (h3 : antState (advanceTo t s) n.val = 3)
    (hx : SMap.find (advanceTo t s).gnss.shortAt n.val = some x) (hdue : x.toNat + 1000000000 ≤ (advanceTo t s).sun.time.toNat)
    (hbias : (if n.val = 0 then (advanceTo t s).gnss.bias0 else (advanceTo t s).gnss.bias1) = true) :
    exec (.antennaBiasRetry t n) s = .next (let v := claimBias n.val (shortNoted n.val (advanceTo t s))
      if waits v 4 (.antenna n.val) then setAnt n.val 0 v else v) := by
  have hcond : (decide (antState (advanceTo t s) n.val = 3) && (match SMap.find (advanceTo t s).gnss.shortAt n.val with
      | some x => decide (x.toNat + second ≤ (advanceTo t s).sun.time.toNat)
      | none => false) && (if n.val = 0 then (advanceTo t s).gnss.bias0 else (advanceTo t s).gnss.bias1)) = true := by
    rw [hx, hbias, decide_eq_true h3, Bool.true_and, Bool.and_true]
    exact decide_eq_true hdue
  rw [exec_antennaBiasRetry, execAntennaBiasRetry]
  exact congrArg Host.Outcome.next (if_pos hcond)
end

theorem antAdmitted_spec {n : Nat} (hn : n < 2) (s : State) :
    antState (antAdmitted n s) n = 1 ∧ (antAdmitted n s).tally = s.tally := by
  have hant := (antState_of_searchSide (searchSide_engageAll (setAnt n 1 s)) n).trans (antState_setAnt hn 1 s)
  have htally := (tally_engageAll (setAnt n 1 s)).trans (tally_setAnt n 1 s)
  unfold antAdmitted
  generalize engageAll (setAnt n 1 s) = w at *
  dsimp only
  split
  · exact ⟨hant, htally⟩
  · exact ⟨hant, htally⟩

/-- A bias claimed and admitted: the input is on (R234). -/
theorem claimBias_admits {n : Nat} {s : State} (hn : n < 2) (hold : holds s 4 (.antenna n) = false) (hq : (ledger s 4).queue = [])
    (hf : fits s 4 { owner := .antenna n, c := 100, rest := 100 } = true) : let v := claimBias n s
    antState v n = 1 ∧ holds v 4 (.antenna n) = true ∧ waits v 4 (.antenna n) = false := by
  have hclaim : claimBias n s = antAdmitted n (enter 4 (antennaClaim n) s) := by
    unfold claimBias
    rw [hold, waits_of_empty hq]
    exact submit_admits hq hf
  obtain ⟨hant, htally⟩ := antAdmitted_spec hn (enter 4 (antennaClaim n) s)
  rw [hclaim]
  generalize antAdmitted n (enter 4 (antennaClaim n) s) = w at *
  refine ⟨hant, ?_, ?_⟩
  · rw [holds_eq (congrArg Ledger.admitted (ledger_congr htally 4))]
    exact holds_enter 4 (antennaClaim n) s
  · rw [waits_eq (congrArg Ledger.queue (ledger_congr htally 4))]
    exact waits_of_empty ((queue_enter _ _ _ _).trans hq) _

theorem engageEngine_after (e c : Nat) (y : GnssEngine) (s : State) :
    let v := engageEngine e (setEng e {} (assign c y.signal y.sv y.ant 0 s))
    let bad := s.gnss.suspectSats.contains (y.signal, y.sv, y.ant)
    gch v c = { state := 1, signal := y.signal, sv := y.sv, ant := y.ant, spacing := spacingOf s y.signal, since := s.sun.time
                excl := bad, suspect := bad, cause := if bad then 4 else 0, exclAt := s.sun.time } ∧
      (∀ d, d ≠ c → gch v d = gch s d) ∧ (∀ g, g ≠ e → eng v g = eng s g) ∧
      v = { s with gnss := { s.gnss with chans := v.gnss.chans, engines := v.gnss.engines, lost := v.gnss.lost }, free := v.free } := by
  have hside := (searchSide_engageEngine e (setEng e {} (assign c y.signal y.sv y.ant 0 s))).trans (searchSide_setEng _ _ _)
  refine ⟨?_, fun d hd => ?_, fun g hg => ?_, ?_⟩
  · exact (gch_of_searchSide hside c).trans (gch_setGch _ _ _)
  · exact (gch_of_searchSide hside d).trans (gch_setGch_ne _ _ _ _ hd)
  · exact (eng_engageEngine_ne _ hg).trans (eng_setEng_ne _ _ _ _ hg)
  · have hframe := engageEngine_frame e (setEng e {} (assign c y.signal y.sv y.ant 0 s))
    have hchans : (engageEngine e (setEng e {} (assign c y.signal y.sv y.ant 0 s))).gnss.chans = (assign c y.signal y.sv y.ant 0 s).gnss.chans := by
      rw [gnss_of_searchSide hside]
    generalize engageEngine e (setEng e {} (assign c y.signal y.sv y.ant 0 s)) = v at *
    dsimp only
    rw [hchans]
    exact hframe

/-- Settles O45: a rule per command — what runs it, what it leaves; the search engines touch nothing but themselves. -/
theorem channelsAndAntennas : Obligations.ChannelsAndAntennas := by
  refine ⟨fun t c s hsamples => ⟨fun e hbusy hgate hidle => ⟨_, searchCellFound_runs hsamples hbusy hgate hidle, ?found⟩,
    fun e hmay => searchCellFound_refused hmay, fun e hbusy =>
      ⟨fun hphase => ⟨_, searchDwellDone_phase hsamples hbusy hphase, eng_setEng _ _ _, rfl⟩,
        fun hphase hbin => ⟨_, searchDwellDone_bin hsamples hbusy hphase hbin, eng_setEng _ _ _, rfl⟩,
        fun hphase hbin hlost hnone => ⟨_, searchDwellDone_window hsamples hbusy hphase hbin hlost hnone, eng_setEng _ _ _,
          fun g hg => eng_setEng_ne _ _ _ _ hg, rfl⟩⟩,
    fun h1 => ⟨_, channelPullinEnd_runs hsamples h1, gch_setGch _ _ _, fun d hd => gch_setGch_ne _ _ _ _ hd, rfl⟩,
    fun h k h1 hne hidle hk hcfg hgate => ⟨_, channelPullinEnd_hands hsamples h1 hne hidle hk hcfg hgate, ?hands⟩,
    fun h2 => ⟨_, channelCoastEnter_runs hsamples h2, gch_setGch _ _ _, fun d hd => gch_setGch_ne _ _ _ _ hd, rfl⟩,
    fun h3 => ⟨_, channelRelock_runs hsamples h3, gch_setGch _ _ _, fun d hd => gch_setGch_ne _ _ _ _ hd, rfl⟩,
    fun h3 hdue => ⟨_, channelCoastTimeout_runs hsamples h3 hdue, coastOver_spec _ _⟩,
    fun hne => ⟨_, spacingChangeApply_runs hne, gch_setGch _ _ _, fun d hd => gch_setGch_ne _ _ _ _ hd, rfl⟩⟩,
    fun t n s => ⟨fun hbiased => ⟨_, antennaBiasShort_runs hbiased, ?short⟩,
      fun x h3 hx hdue hbias hold hq hf => ⟨_, antennaBiasRetry_runs h3 hx hdue hbias, ?retry⟩,
      fun h1 => ⟨_, antennaOpen_runs h1, antState_setAnt n.isLt _ _, ?opened, setAnt_frame _ _ _⟩,
      fun h2 => ⟨_, antennaBiasOk_runs h2, antState_setAnt n.isLt _ _, setAnt_frame _ _ _⟩⟩⟩
  case found => exact engageEngine_after _ _ _ _
  case hands =>
    generalize advanceTo t s = u at *
    have hnat : c.val ≠ h.val := fun heq => hne (Fin.ext heq.symm)
    have hc : gch (assign h.val k (gch u c.val).sv (gch u c.val).ant (handPhase (gch u c.val).signal (gch u c.val).codePhase)
        (setGch c.val (pulledIn u.sun.time (gch u c.val)) u)) c.val = pulledIn u.sun.time (gch u c.val) :=
      (gch_setGch_ne _ _ _ _ hnat).trans (gch_setGch _ _ _)
    refine ⟨congrArg GnssCh.state hc, ?_⟩
    dsimp only [assign]
    rw [gch_setGch]
    exact ⟨rfl, rfl, rfl, rfl, rfl⟩
  case short =>
    generalize advanceTo t s = u at *
    obtain ⟨hant, hhold, hwait, hshort, hsys, hcore⟩ := dropBias_spec n.isLt 3 (shortNoted n.val u)
    refine ⟨hant, hhold, hwait, ?_, hsys, hcore⟩
    rw [hshort]
    exact SMap.find_insert_same _ _ _
  case retry =>
    generalize advanceTo t s = u at *
    obtain ⟨hant, hhold, hwait⟩ := claimBias_admits (s := shortNoted n.val u) n.isLt hold hq hf
    dsimp only
    rw [hwait]
    exact ⟨hant, hhold⟩
  case opened =>
    generalize advanceTo t s = u at *
    unfold setAnt
    rw [if_neg (by rw [h1]; decide)]
    exact raise_raises _ _ _ _ _

end Sys2Proof.Machine
end

section
/-! PROOFS. GNSS checks and position solutions (R14, R15, R238 to R249). -/
namespace Sys2Proof.Machine
open Sys2Proof.Safety

/-! ### Maps of channels -/

/-- What holds of the default and of every entry holds of what is read. -/
theorem SMap.get_of_forall {α : Type} {m : SMap α} {d : α} {p : α → Prop} (hd : p d) (h : ∀ e ∈ m, p e.2) (k : Nat) : p (SMap.get m d k) := by
  induction m with
  | nil => exact hd
  | cons e m ih =>
    simp only [SMap.get]
    split
    · exact h e List.mem_cons_self
    · exact ih fun e' he' => h e' (List.mem_cons_of_mem _ he')

theorem SMap.forall_put {α : Type} [DecidableEq α] {m : SMap α} {d v : α} {k : Nat} {p : α → Prop} (hv : p v) (h : ∀ e ∈ m, p e.2) :
    ∀ e ∈ SMap.put m d k v, p e.2 := by
  intro e he
  unfold SMap.put at he
  split at he
  · exact h e (SMap.mem_drop _ _ _ he)
  · rcases SMap.mem_insert _ _ _ _ he with rfl | hm
    · exact hv
    · exact h e hm

/-- A fold that rewrites the channels below `k`, each on its own. -/
theorem foldl_setGch (f : GnssCh → GnssCh) (k : Nat) (s : State) :
    let v := (List.range k).foldl (fun s n => setGch n (f (gch s n)) s) s
    (∀ c, gch v c = if c < k then f (gch s c) else gch s c) ∧ v = { s with gnss := { s.gnss with chans := v.gnss.chans } } := by
  induction k with
  | zero => exact ⟨fun c => rfl, rfl⟩
  | succ k ih =>
    obtain ⟨hget, hframe⟩ := ih
    rw [List.range_succ, List.foldl_append]
    generalize (List.range k).foldl (fun s n => setGch n (f (gch s n)) s) s = v at *
    refine ⟨fun c => ?_, ?_⟩
    · by_cases hc : c = k
      · subst hc
        have hlt : ¬ c < c := Nat.lt_irrefl c
        simp [hget c]
      · have hlt : c < k + 1 ↔ c < k := by omega
        rw [List.foldl_cons, List.foldl_nil, gch_setGch_ne _ _ _ _ hc, hget c]
        simp only [hlt]
    · rw [List.foldl_cons, List.foldl_nil]
      conv_lhs => rw [hframe]
      rfl

/-! ### Aiding (R15, R241) -/

/-- Aiding applied to one channel. -/
def aidOne (s : State) (e : Nat × Word) : State :=
  let x := gch s e.1
  if x.excl || decide (x.state = 0) then s else setGch e.1 { x with aid := scaleAid x.signal e.2, aided := true, aidNew := true } s

theorem gnssAidingApply_runs {t k : Time} {l : List (Nat × Word)} {s : State} (hsamples : samples (advanceTo t s) = true)
    (hgate : (advanceTo t s).lanes.gate = true) (hl : (advanceTo t s).gnss.received = some (k, l)) :
    exec (.gnssAidingApply t) s = .next (l.foldl aidOne { advanceTo t s with gnss := { (advanceTo t s).gnss with
      aidAt := some k, aiding := true, received := none } }) := by
  have hcond : ¬(!samples (advanceTo t s) || !(advanceTo t s).lanes.gate) = true := by rw [hsamples, hgate]; decide
  rw [exec_gnssAidingApply, execGnssAidingApply]
  simp only [hl]
  exact congrArg Host.Outcome.next (if_neg hcond)

theorem aidOne_spec (c : Nat) (w : Word) (s : State) : let v := aidOne s (c, w)
    ((gch s c).excl = false → (gch s c).state ≠ 0 →
        gch v c = { gch s c with aid := scaleAid (gch s c).signal w, aided := true, aidNew := true }) ∧
      ((gch s c).excl = true → gch v c = gch s c) ∧ (∀ d, d ≠ c → gch v d = gch s d) ∧
      v = { s with gnss := { s.gnss with chans := v.gnss.chans } } := by
  unfold aidOne
  dsimp only
  split
  case isTrue h =>
    refine ⟨fun he hs => absurd h (by rw [he, decide_eq_false hs]; decide), fun _ => rfl, fun _ _ => rfl, rfl⟩
  case isFalse h =>
    refine ⟨fun _ _ => gch_setGch _ _ _, fun he => absurd h (by simp [he]), fun d hd => gch_setGch_ne _ _ _ _ hd, rfl⟩

/-- The held rate dropped in the channels below `k`. -/
def aidDropped (k : Nat) (s : State) : State := (List.range k).foldl (fun s n => setGch n { gch s n with aid := 0, aided := false } s) s

theorem aidDropped_spec (k : Nat) (s : State) : let v := aidDropped k s
    (∀ c, gch v c = if c < k then { gch s c with aid := 0, aided := false } else gch s c) ∧
      v = { s with gnss := { s.gnss with chans := v.gnss.chans } } :=
  foldl_setGch (fun x => { x with aid := 0, aided := false }) k s

theorem gnssAidingTimeout_runs {t a : Time} {s : State} (haid : (advanceTo t s).gnss.aiding = true)
    (ha : (advanceTo t s).gnss.aidAt = some a) (hdue : a.toNat + 100000000 ≤ (advanceTo t s).sun.time.toNat) :
    exec (.gnssAidingTimeout t) s = .next (aidDropped 256
      { advanceTo t s with gnss := { (advanceTo t s).gnss with aiding := false } }) := by
  have hcond : ((advanceTo t s).gnss.aiding && decide (a.toNat + 100000000 ≤ (advanceTo t s).sun.time.toNat)) = true := by
    rw [haid, decide_eq_true hdue]; rfl
  rw [exec_gnssAidingTimeout, execGnssAidingTimeout]
  simp only [ha]
  exact congrArg Host.Outcome.next (if_pos hcond)

/-! ### Exclusions and SPOOF (R242, R243) -/

/-- An exclusion ended. -/
def released (c : Nat) (s : State) : State :=
  let x := gch s c
  let v := setGch c { x with excl := false, suspect := false, suspectAt := none, cause := 0 } s
  { v with gnss := { v.gnss with suspectSats := v.gnss.suspectSats.filter fun y => !decide (y = satOf x) } }

theorem gnssExclusionRelease_runs {t : Time} {c : Fin 256} {s : State} (hexcl : (gch (advanceTo t s) c.val).excl = true)
    (hdue : (gch (advanceTo t s) c.val).exclAt.toNat + 30000000000 ≤ (advanceTo t s).sun.time.toNat)
    (hback : (gch (advanceTo t s) c.val).suspect = false ∨ (gch (advanceTo t s) c.val).state ≠ 0) :
    exec (.gnssExclusionRelease t c) s = .next (released c.val (advanceTo t s)) := by
  have hcond : ((gch (advanceTo t s) c.val).excl &&
      decide ((gch (advanceTo t s) c.val).exclAt.toNat + 30 * second ≤ (advanceTo t s).sun.time.toNat) &&
      !((gch (advanceTo t s) c.val).suspect && decide ((gch (advanceTo t s) c.val).state = 0))) = true := by
    rw [hexcl, show decide (_ + 30 * second ≤ _) = true from decide_eq_true hdue]
    rcases hback with h | h
    · rw [h]; rfl
    · rw [decide_eq_false h, Bool.and_false]; rfl
  rw [exec_gnssExclusionRelease, execGnssExclusionRelease]
  exact congrArg Host.Outcome.next (if_pos hcond)

theorem gnssSpoofClear_runs {t : Time} {s : State} (hspoof : (advanceTo t s).gnss.spoof = true)
    (hquiet : ∀ f, (advanceTo t s).gnss.lastFail = some f → f.toNat + 60000000000 ≤ (advanceTo t s).sun.time.toNat) :
    exec (.gnssSpoofClear t) s = .next (raise .notice 0x14 0x0008 []
      { advanceTo t s with gnss := { (advanceTo t s).gnss with spoof := false } }) := by
  have hcond : ((advanceTo t s).gnss.spoof && (match (advanceTo t s).gnss.lastFail with
      | some f => decide (f.toNat + 60 * second ≤ (advanceTo t s).sun.time.toNat)
      | none => true)) = true := by
    rw [hspoof]
    cases hf : (advanceTo t s).gnss.lastFail with
    | none => rfl
    | some f =>
      have hdue : f.toNat + 60 * second ≤ (advanceTo t s).sun.time.toNat := hquiet f hf
      simp only [hdue, decide_true, Bool.and_self]
  rw [exec_gnssSpoofClear, execGnssSpoofClear]
  exact congrArg Host.Outcome.next (if_pos hcond)

/-! ### A clean measurement epoch (R238, R242 to R244) -/

/-- Flagged SPOOF_SUSPECT within the last second. -/
def freshSuspect (now : Time) (x : GnssCh) : Bool :=
  match x.suspectAt with
  | some f => decide (now.toNat ≤ f.toNat + second)
  | none => false

theorem suspects_eq_zero (s : State) : suspects s = 0 ↔ ∀ e ∈ s.gnss.chans, freshSuspect s.sun.time e.2 = false := by
  unfold suspects
  rw [List.length_eq_zero_iff, List.filter_eq_nil_iff]
  exact forall₂_congr fun e _ => by rw [Bool.not_eq_true]; rfl

/-- A channel rewritten without a new flag leaves no suspect where there was none. -/
theorem suspects_setGch {n : Nat} {x : GnssCh} {s : State} (h : suspects s = 0) (hx : x.suspectAt = (gch s n).suspectAt) :
    suspects (setGch n x s) = 0 := by
  rw [suspects_eq_zero] at h ⊢
  have hread : freshSuspect s.sun.time (gch s n) = false := SMap.get_of_forall (p := fun x => freshSuspect s.sun.time x = false) rfl h n
  have hnew : freshSuspect s.sun.time x = false := by rw [← hread, freshSuspect, freshSuspect, hx]
  exact SMap.forall_put (p := fun x => freshSuspect s.sun.time x = false) hnew h

theorem suspects_clearSlips (k : Nat) {s : State} (h : suspects s = 0) :
    suspects ((List.range k).foldl (fun s n => setGch n { gch s n with slip := false } s) s) = 0 := by
  induction k with
  | zero => exact h
  | succ k ih =>
    rw [List.range_succ, List.foldl_append, List.foldl_cons, List.foldl_nil]
    exact suspects_setGch ih rfl

/-- The channel's latched measurement. -/
def latched (m : GnssMeas) (now : Time) (x : GnssCh) : GnssCh :=
  { x with
    pseudorange := m.pseudorange, codePhase := m.codePhase, carrier := m.carrier, doppler := m.doppler, cn0 := m.cn0, slip := m.slip
    resid := m.resid, elev := m.elev, cn0s := (m.cn0.toNat :: x.cn0s).take 20
    lockMs := hold32 ((now.toNat - x.since.toNat) / 1000000) }

theorem latch_eq {m : GnssMeas} {s : State} (h : (gch s m.ch).state = 2) : latch m s = setGch m.ch (latched m s.sun.time (gch s m.ch)) s := by
  unfold latch
  exact if_pos h

theorem clockFails_single {m : GnssMeas} {s : State} (h : (gch s m.ch).resid = none) : clockFails [m] s = [] := by
  cases hr : m.resid <;> simp [clockFails, h, hr]

theorem cn0Risen_single (m : GnssMeas) (s : State) (b : Bool) : cn0Risen s (cn0High s [m] b) = false := by
  have hlen : (cn0High s [m] b).length ≤ 1 := List.length_filter_le _ _
  have hfew : decide (6 ≤ (cn0High s [m] b).length) = false := decide_eq_false (by omega)
  rw [cn0Risen, hfew]; rfl

theorem l5Of_ne (c : BitVec 4) : l5Of c ≠ some c := by revert c; decide

theorem ifreqFails_single (m : GnssMeas) (s : State) : ifreqFails [m] s = ([], s) := by
  simp [ifreqFails, l5Of_ne]

theorem dopplerCheck_stale {m : GnssMeas} {s : State} (h : (gch s m.ch).aidNew = false) : dopplerCheck m s = s := by
  simp [dopplerCheck, h]

theorem dopplerFails_single {m : GnssMeas} {s : State} (h : (gch s m.ch).dopFails < 3) : dopplerFails [m] s = [] := by
  simp [dopplerFails, h]

theorem watchFlat_single (m : GnssMeas) (b : Bool) (s : State) :
    watchFlat [m] b s = { s with gnss := { s.gnss with cn0Since := SMap.drop s.gnss.cn0Since (antOf b) } } := by
  have hlen : ((cn0High s [m] b).map fun m => m.cn0.toNat).length ≤ 1 := by
    rw [List.length_map]; exact List.length_filter_le _ _
  have hflat : cn0Flat ((cn0High s [m] b).map fun m => m.cn0.toNat) = false := by
    rw [cn0Flat, decide_eq_false (by omega)]; rfl
  simp only [watchFlat, hflat, Bool.false_eq_true, if_false]

/-- Without a baseline no path is noisy. -/
theorem watchNoise_unlearned {f : GnssFronts} {s : State} (h : s.gnss.base = []) : watchNoise f s =
    { s with gnss := { s.gnss with badSince := SMap.drop (SMap.drop (SMap.drop (SMap.drop s.gnss.badSince 0) 1) 2) 3 } } := by
  have hquiet (v : State) (hv : v.gnss.base = []) (k : Nat) : noisy f v k = false := by rw [noisy, hv]; rfl
  simp only [watchNoise, show List.range 4 = [0, 1, 2, 3] from rfl, List.foldl_cons, List.foldl_nil, hquiet, h, Bool.false_eq_true, if_false]

/-- The watches of an epoch with one measurement and no baseline: nothing has lasted. -/
def watched (s : State) : State :=
  { s with gnss := { s.gnss with
    cn0Since := SMap.drop (SMap.drop s.gnss.cn0Since 0) 1
    badSince := SMap.drop (SMap.drop (SMap.drop (SMap.drop s.gnss.badSince 0) 1) 2) 3 } }

theorem watches_eq {f : GnssFronts} {m : GnssMeas} {s : State} (h : s.gnss.base = []) :
    watchNoise f (watchFlat [m] true (watchFlat [m] false s)) = watched s := by
  rw [watchFlat_single, watchFlat_single]
  exact watchNoise_unlearned h

theorem find_drops {α : Type} (m : SMap α) {k : Nat} (hk : k < 4) :
    SMap.find (SMap.drop (SMap.drop (SMap.drop (SMap.drop m 0) 1) 2) 3) k = none := by
  interval_cases k <;> simp [SMap.find_drop_ne]

theorem cn0Pattern_watched (s : State) : cn0Pattern false (watched s) = false := by
  simp [cn0Pattern, lasted, watched, SMap.find_drop_ne]

theorem jamBits_watched (s : State) : jamBits (watched s) = 0 := by
  have hlast (k : Nat) (hk : k < 4) : lasted (watched s) (watched s).gnss.badSince k second = false := by
    have hfind : SMap.find (watched s).gnss.badSince k = none := find_drops _ hk
    rw [lasted, hfind]
  simp only [jamBits, show List.range 4 = [0, 1, 2, 3] from rfl, List.foldl_cons, List.foldl_nil, hlast 0 (by decide), hlast 1 (by decide),
    hlast 2 (by decide), hlast 3 (by decide)]
  decide

section
variable {m : GnssMeas} {f : GnssFronts} {s : State}

/-- What a clean epoch notes. -/
theorem noteChecks_clean (hyoung : s.gnss.baseEpochs < 1200) : let v := noteChecks f [m] false false 0 s
    v.gnss.chans = s.gnss.chans ∧ v.gnss.spoof = s.gnss.spoof ∧ v.gnss.jam = 0 ∧ v.gnss.baseEpochs = s.gnss.baseEpochs + 1 ∧
      v.gnss.cn0At = s.gnss.cn0At ∧ v = { s with gnss := v.gnss } := by
  have hy : decide (s.gnss.baseEpochs < 1200) = true := decide_eq_true hyoung
  simp [noteChecks, learnNoise, hy]

/-- The checks over one measurement that nothing speaks against (R242 to R244). -/
theorem runChecks_clean (hstate : (gch s m.ch).state = 2) (haid : (gch s m.ch).aidNew = false) (hdop : (gch s m.ch).dopFails < 3)
    (hresid : (gch s m.ch).resid = none) (hbase : s.gnss.base = []) (hcn0 : s.gnss.cn0At = none) (hyoung : s.gnss.baseEpochs < 1200)
    (hsus : suspects s = 0) : let v := runChecks [m] f s
    v.gnss.chans = (setGch m.ch (latched m s.sun.time (gch s m.ch)) s).gnss.chans ∧ v.gnss.spoof = s.gnss.spoof ∧ v.gnss.jam = 0 ∧
      v.gnss.baseEpochs = s.gnss.baseEpochs + 1 ∧ v = { s with gnss := v.gnss } := by
  have hlatch : [m].foldl (fun s m => latch m s) s = setGch m.ch (latched m s.sun.time (gch s m.ch)) s := latch_eq hstate
  have hdopCheck : [m].foldl (fun s m => dopplerCheck m s) (setGch m.ch (latched m s.sun.time (gch s m.ch)) s) =
      setGch m.ch (latched m s.sun.time (gch s m.ch)) s := dopplerCheck_stale (by rw [gch_setGch]; exact haid)
  have hdopFails : dopplerFails [m] (setGch m.ch (latched m s.sun.time (gch s m.ch)) s) = [] :=
    dopplerFails_single (by rw [gch_setGch]; exact hdop)
  have hsus' : suspects (setGch m.ch (latched m s.sun.time (gch s m.ch)) s) = 0 := suspects_setGch hsus rfl
  unfold runChecks
  simp only [clockFails_single hresid, cn0Risen_single, hlatch, ifreqFails_single, hdopCheck, hdopFails]
  generalize hw : setGch m.ch (latched m s.sun.time (gch s m.ch)) s = w at *
  have hwbase : w.gnss.base = [] := by rw [← hw]; exact hbase
  rw [watches_eq hwbase]
  simp only [Bool.or_self, cn0Pattern_watched, jamBits_watched]
  obtain ⟨hchans, hspoof, hjam, hepochs, hat, hframe⟩ := noteChecks_clean (m := m) (f := f) (s := watched w)
    (show w.gnss.baseEpochs < 1200 by rw [← hw]; exact hyoung)
  have hflag : flagFails [] [] [] (watched w) = watched w := rfl
  have hother : (!(List.isEmpty ([] : List Nat) && List.isEmpty ([] : List Nat) && List.isEmpty ([] : List Nat)) ||
      decide ((0 : BitVec 4) ≠ 0)) = false := by decide
  simp only [hflag, hother]
  generalize noteChecks f [m] false false 0 (watched w) = v at *
  have hvsus : suspects v = 0 := by
    rw [suspects_eq_zero] at hsus' ⊢
    rw [hchans, show v.sun = w.sun by rw [hframe]; rfl]
    exact hsus'
  have hjudge : judgeSpoof (tracking s) v = v := by
    unfold judgeSpoof
    rw [hvsus, hat, show (watched w).gnss.cn0At = none by rw [← hcn0, ← hw]; rfl]
    rfl
  rw [hjudge]
  refine ⟨hchans, hspoof.trans ?_, hjam, hepochs.trans ?_, ?_⟩
  · rw [← hw]; rfl
  · rw [← hw]; rfl
  · rw [hframe, ← hw]; rfl
end

/-- The SLIP flags of the epoch before cleared, in the channels below `k`. -/
def slipsCleared (k : Nat) (s : State) : State := (List.range k).foldl (fun s n => setGch n { gch s n with slip := false } s) s

theorem slipsCleared_spec (k : Nat) (s : State) : let v := slipsCleared k s
    (∀ c, gch v c = if c < k then { gch s c with slip := false } else gch s c) ∧
      v = { s with gnss := { s.gnss with chans := v.gnss.chans } } :=
  foldl_setGch (fun x => { x with slip := false }) k s

theorem suspects_slipsCleared (k : Nat) {s : State} (h : suspects s = 0) : suspects (slipsCleared k s) = 0 := suspects_clearSlips k h

theorem gnssMeasEpoch_runs {t : Time} {m : GnssMeas} {f : GnssFronts} {s : State} (hsamples : samples (advanceTo t s) = true)
    (hgrid : (advanceTo t s).sun.time.toNat % 50000000 = 0) (hstate : (gch (advanceTo t s) m.ch).state = 2) :
    exec (.gnssMeasEpoch t [m] f none) s = .next (gnssNone (engageAll (runChecks [m] f (slipsCleared 256 (advanceTo t s))))) := by
  have hcond : ¬(!samples (advanceTo t s) || decide ((advanceTo t s).sun.time.toNat % 50000000 ≠ 0)) = true := by
    rw [hsamples, hgrid]; decide
  have htracked : tracked (advanceTo t s) [m] = [m] := by simp [tracked, hstate]
  rw [exec_gnssMeasEpoch, execGnssMeasEpoch]
  refine congrArg Host.Outcome.next ((if_neg hcond).trans ?_)
  exact congrArg (fun l => gnssNone (engageAll (runChecks l f (slipsCleared 256 (advanceTo t s))))) htracked

theorem measured_spec {m : GnssMeas} {f : GnssFronts} {s : State} (hch : m.ch < 256) (hstate : (gch s m.ch).state = 2)
    (haid : (gch s m.ch).aidNew = false) (hdop : (gch s m.ch).dopFails < 3) (hresid : (gch s m.ch).resid = none)
    (hspoof : s.gnss.spoof = false) (hcn0 : s.gnss.cn0At = none) (hbase : s.gnss.base = []) (hyoung : s.gnss.baseEpochs < 1200)
    (hsus : suspects s = 0) : let v := gnssNone (engageAll (runChecks [m] f (slipsCleared 256 s)))
    gch v m.ch = latched m s.sun.time (gch s m.ch) ∧ v.gnss.spoof = false ∧ v.gnss.jam = 0 ∧
      v.gnss.baseEpochs = s.gnss.baseEpochs + 1 ∧ v = { s with gnss := v.gnss, sun := { s.sun with jumpOffsets := [] }, free := v.free } := by
  obtain ⟨hget, hframe⟩ := slipsCleared_spec 256 s
  have hsus' : suspects (slipsCleared 256 s) = 0 := suspects_slipsCleared 256 hsus
  generalize slipsCleared 256 s = w at *
  have hx : gch w m.ch = { gch s m.ch with slip := false } := by rw [hget, if_pos hch]
  have hgnss : w.gnss = { s.gnss with chans := w.gnss.chans } := congrArg State.gnss hframe
  have hsun : w.sun = s.sun := (congrArg State.sun hframe).trans rfl
  obtain ⟨hchans, hspoof', hjam, hepochs, hchecked⟩ := runChecks_clean (m := m) (f := f) (s := w) (by rw [hx]; exact hstate)
    (by rw [hx]; exact haid) (by rw [hx]; exact hdop) (by rw [hx]; exact hresid) (by rw [hgnss]; exact hbase)
    (by rw [hgnss]; exact hcn0) (by rw [hgnss]; exact hyoung) hsus'
  generalize runChecks [m] f w = y at *
  have hside := searchSide_engageAll y
  have hengaged := engageAll_frame y
  generalize engageAll y = z at *
  have hz := gnss_of_searchSide hside
  refine ⟨?_, ?_, ?_, ?_, ?_⟩
  · show gch z m.ch = _
    rw [gch_of_searchSide hside, gch, hchans]
    refine (gch_setGch _ _ w).trans ?_
    rw [hx, hsun]; rfl
  · show z.gnss.spoof = _
    rw [hz]; exact hspoof'.trans (by rw [hgnss]; exact hspoof)
  · show z.gnss.jam = _
    rw [hz]; exact hjam
  · show z.gnss.baseEpochs = _
    rw [hz]; exact hepochs.trans (by rw [hgnss])
  · have hparts : z = { s with gnss := z.gnss, free := z.free } :=
      hengaged.trans (by
        dsimp only
        rw [← hz]
        exact (congrArg (fun q : State => { q with gnss := z.gnss, free := z.free }) hchecked).trans
          (congrArg (fun q : State => { q with gnss := z.gnss, free := z.free }) hframe))
    exact congrArg gnssNone hparts

/-! ### Position solutions (R246 to R249, R329) -/

/-- A solution taken (R246, R247, R249, R329), its outputs aside. -/
def solved (sol : Solution) (s : State) : State :=
  let fix := fixOf s sol
  let clean := !s.gnss.spoof && !s.gnss.clkFail
  let posOk := clean && decide (1 ≤ fix) && decide (5 ≤ sol.svUsed)
  let hdgOk := clean && sol.hdgFixed && headingOn s
    && decide (sol.baselineMm ≤ baseLen s + 20) && decide (baseLen s ≤ sol.baselineMm + 20)
  let s := (corrAge s).2
  let p := takeNav sol.nav s.core.pos
  { s with
    core := { s.core with pos := { p with
      fix := fix, svUsed := sol.svUsed, hdgValid := hdgOk, ambFixed := decide (fix = 3), rtcm := [], rtcmBytes := 0
      clock := sol.clock, ambig := sol.ambig
      lastPos := match outputAt sol.outputs 1, outputAt sol.outputs 2 with
        | some a, some b => if posOk then some (a, b) else p.lastPos
        | _, _ => p.lastPos
      ttffMs := match (if posOk then p.searchFrom else none) with
        | some f => hold32 ((s.sun.time.toNat - f.toNat) / 1000000)
        | none => p.ttffMs
      searchFrom := if posOk then none else p.searchFrom } }
    sun := match sol.utc with
      | some u => { s.sun with taiUtc := u.1, leapAnn := u.2.1, leapMjd := u.2.2 }
      | none => s.sun }

/-- An output that no signal declares lands nowhere. -/
theorem landOutput_none {stamp : Time} {posOk hdgOk : Bool} {e : Nat × Word} {s : State}
    (h : ∀ d ∈ (cop s).signals, ∀ k, d.writer ≠ .position k) : landOutput stamp posOk hdgOk e s = s := by
  have hnone : ((cop s).signals.find? fun d => decide (d.writer = .position e.1)) = none :=
    List.find?_eq_none.2 fun d hd => by simpa using h d hd e.1
  rw [landOutput, hnone]

theorem landOutputs_none {stamp : Time} {posOk hdgOk : Bool} {l : List (Nat × Word)} {s : State}
    (h : ∀ d ∈ (cop s).signals, ∀ k, d.writer ≠ .position k) : l.foldl (fun s e => landOutput stamp posOk hdgOk e s) s = s := by
  induction l with
  | nil => rfl
  | cons e l ih => rw [List.foldl_cons, landOutput_none h, ih]

theorem store_corrAge (s : State) : (corrAge s).2.store = s.store := by simp

theorem positionSolution_runs {t : Time} {sol : Solution} {s : State} (hlane : laneActive (advanceTo t s) = true)
    (hrun : (advanceTo t s).gnss.run = true) (hnone : ∀ d ∈ (cop (advanceTo t s)).signals, ∀ k, d.writer ≠ .position k) :
    exec (.positionSolution t sol) s = .next (solved sol (advanceTo t s)) := by
  have hcond : ¬(!laneActive (advanceTo t s) || !(advanceTo t s).gnss.run) = true := by rw [hlane, hrun]; decide
  have hcop : ∀ d ∈ (cop (solved sol (advanceTo t s))).signals, ∀ k, d.writer ≠ .position k := by
    rw [cop, show (solved sol (advanceTo t s)).store = (advanceTo t s).store from store_corrAge _]
    exact hnone
  rw [exec_positionSolution, execPositionSolution]
  refine congrArg Host.Outcome.next ((if_neg hcond).trans ?_)
  exact landOutputs_none hcop

/-- Navigation data touches the stored almanac and ephemerides alone. -/
theorem takeNav_searchFrom (l : List (Bool × Nat × List Byte)) (p : PosSt) : (takeNav l p).searchFrom = p.searchFrom := by
  unfold takeNav
  induction l generalizing p with
  | nil => rfl
  | cons e l ih =>
    rw [List.foldl_cons, ih]
    split <;> rfl

theorem fixOf_eq (s : State) (x : Solution) : fixOf s x = if x.mode = 0 then 0 else if x.mode = 1 ∨ corrFresh s = false then 1
    else if s.core.pos.ambFixed = true ∨ flt 0x40400000 x.ratio = true then 3 else 2 := by
  simp [fixOf]

theorem solved_spec (x : Solution) (s : State) : let v := solved x s
    let fix := fixOf s x
    v.core.pos.fix = fix ∧ v.core.pos.svUsed = x.svUsed ∧ v.core.pos.rtcm = [] ∧ v.core.pos.rtcmBytes = 0 ∧
      v.core.pos.ambFixed = decide (fix = 3) ∧ v.core.pos.ambig = x.ambig ∧ v.core.pos.clock = x.clock ∧
      (x.hdgFixed = false → v.core.pos.hdgValid = false) ∧
      (∀ f, s.gnss.spoof = false → s.gnss.clkFail = false → 1 ≤ fix → 5 ≤ x.svUsed → s.core.pos.searchFrom = some f →
        v.core.pos.ttffMs = hold32 ((s.sun.time.toNat - f.toNat) / 1000000) ∧ v.core.pos.searchFrom = none) ∧
      (x.utc = none → v.sun = s.sun) ∧
      (∀ a b c, x.utc = some (a, b, c) → v.sun = { s.sun with taiUtc := a, leapAnn := b, leapMjd := c }) ∧
      v = { s with core := { s.core with pos := v.core.pos }, sun := v.sun, free := v.free } := by
  have hcore : (corrAge s).2.core = s.core := by simp
  have hsun : (corrAge s).2.sun = s.sun := by simp
  refine ⟨rfl, rfl, rfl, rfl, rfl, rfl, rfl, fun hhdg => ?_, fun f hspoof hclk hfix hsv hf => ?_, fun hutc => ?_,
    fun a b c hutc => ?_, ?_⟩
  · simp [solved, hhdg]
  · have hok : (!s.gnss.spoof && !s.gnss.clkFail && decide (1 ≤ fixOf s x) && decide (5 ≤ x.svUsed)) = true := by
      rw [hspoof, hclk, decide_eq_true hfix, decide_eq_true hsv]; rfl
    have hfrom : (takeNav x.nav (corrAge s).2.core.pos).searchFrom = some f := by rw [takeNav_searchFrom, hcore, hf]
    simp only [solved, hok, if_true, hfrom, hsun, and_self]
  · simp only [solved, hutc, hsun]
  · simp only [solved, hutc, hsun]
  · apply State.eq_of_parts <;> simp [solved]

/-- Settles O46: a rule per command; an epoch that no check speaks against, step by step; a solution with no declared output. -/
theorem positionsAndChecks : Obligations.PositionsAndChecks := by
  refine ⟨fun t s => ⟨fun k c w hsamples hgate hreceived => ⟨_, gnssAidingApply_runs hsamples hgate hreceived, ?apply⟩,
    fun a haid ha hdue => ⟨_, gnssAidingTimeout_runs haid ha hdue, ?timeout⟩,
    fun m f hch hsamples hgrid hstate haid hdop hresid hspoof _ hcn0 _ hbase hyoung hsus =>
      ⟨_, gnssMeasEpoch_runs hsamples hgrid hstate, measured_spec hch hstate haid hdop hresid hspoof hcn0 hbase hyoung hsus⟩,
    fun c hexcl hdue hback => ⟨_, gnssExclusionRelease_runs hexcl hdue hback, gch_setGch _ _ _,
      fun d hd => gch_setGch_ne _ _ _ _ hd, ?gone, rfl⟩,
    fun hspoof hquiet => ⟨_, gnssSpoofClear_runs hspoof hquiet, rfl, raise_raises _ _ _ _ _, rfl⟩⟩,
    fun t x s hlane hrun hnone => ⟨_, positionSolution_runs hlane hrun hnone, ?solution⟩⟩
  case apply =>
    generalize advanceTo t s = u at *
    obtain ⟨haided, hexcl, hother, hframe⟩ := aidOne_spec c w { u with gnss := { u.gnss with aidAt := some k, aiding := true, received := none } }
    rw [List.foldl_cons, List.foldl_nil]
    generalize aidOne { u with gnss := { u.gnss with aidAt := some k, aiding := true, received := none } } (c, w) = v at *
    have hgnss := congrArg State.gnss hframe
    exact ⟨by rw [hgnss], by rw [hgnss], by rw [hgnss], haided, hexcl, hother, by rw [hframe]⟩
  case timeout =>
    generalize advanceTo t s = u at *
    obtain ⟨hget, hframe⟩ := aidDropped_spec 256 { u with gnss := { u.gnss with aiding := false } }
    generalize aidDropped 256 { u with gnss := { u.gnss with aiding := false } } = v at *
    have hgnss := congrArg State.gnss hframe
    exact ⟨by rw [hgnss], fun c hc => (hget c).trans (if_pos hc), by rw [hframe]⟩
  case gone => simp [released]
  case solution => exact fixOf_eq (advanceTo t s) x ▸ solved_spec x _

end Sys2Proof.Machine
end

section
/-! PROOFS. The Sundial and gPTP (R324 to R331). -/
namespace Sys2Proof.Machine
open Sys2Proof.Safety

/-- A record raised, with its code and its arguments. -/
theorem raise_raises_full (v : Severity) (b : BitVec 8) (c : BitVec 16) (l : List Word) (s : State) :
    ∃ r ∈ (raise v b c l s).skein.raised, r.sev = v ∧ r.source = b ∧ r.code = c ∧ r.args = l :=
  ⟨makeRecord v b c l s, List.mem_append_right _ List.mem_cons_self, rfl, rfl, rfl, rfl⟩

/-! ### The Sundial (R324 to R330) -/

section
variable {t : Time} {s : State}

theorem sundialGnssTimeout_runs {l : Time} (hlocked : (advanceTo t s).sun.state = .locked)
    (hl : (advanceTo t s).sun.lastUsable = some l) (hdue : l.toNat + 2000000000 ≤ (advanceTo t s).sun.time.toNat) :
    exec (.sundialGnssTimeout t) s = .next (enterHoldover (advanceTo t s)) := by
  have hlost : loseGnss (advanceTo t s) = enterHoldover (advanceTo t s) := if_pos hlocked
  rw [exec_sundialGnssTimeout, execSundialGnssTimeout]
  simp only [hl]
  exact congrArg Host.Outcome.next ((if_pos hdue).trans hlost)

/-- A PPS edge. -/
def edged (s : State) : State :=
  { s with sun := { s.sun with
    pps0 := ppsEn s 0, pps1 := ppsEn s 1, ppsEnd := some (s.sun.time + BitVec.ofNat 64 (ppsWidth s))
    lastPps := some s.sun.time, stepFlag := false, stepArmed := s.sun.pendingStep.isSome } }

theorem ppsEdge_runs (hrun : (advanceTo t s).sun.run = true) (hsec : (advanceTo t s).sun.time.toNat % 1000000000 = 0)
    (honce : (advanceTo t s).sun.lastPps ≠ some (advanceTo t s).sun.time) : exec (.ppsEdge t) s = .next (edged (advanceTo t s)) := by
  have hcond : ¬(!(advanceTo t s).sun.run || !onSecond (advanceTo t s) ||
      decide ((advanceTo t s).sun.lastPps = some (advanceTo t s).sun.time)) = true := by
    rw [hrun, show onSecond (advanceTo t s) = true from decide_eq_true hsec, decide_eq_false honce]; decide
  rw [exec_ppsEdge, execPpsEdge]
  exact congrArg Host.Outcome.next (if_neg hcond)

theorem ppsPulseEnd_runs {e : Time} {pin : Bool} (he : (advanceTo t s).sun.ppsEnd = some e) (hdue : e ≤ (advanceTo t s).sun.time) :
    exec (.ppsPulseEnd t pin) s = .next (
      if pin then { advanceTo t s with sun := { (advanceTo t s).sun with pps1 := false } }
      else { advanceTo t s with sun := { (advanceTo t s).sun with pps0 := false } }) := by
  generalize hu : advanceTo t s = u at *
  rw [exec_ppsPulseEnd, execPpsPulseEnd, hu]
  dsimp only
  rw [he]
  exact congrArg Host.Outcome.next (if_neg (BitVec.not_lt.2 hdue))

/-- The counter after a step by `o`. -/
def steppedTime (o : Int) (s : State) : Time := s.sun.time + BitVec.ofInt 64 (round10 o)

/-- The Sundial behind a step by `o` (R327). -/
def stepped (o : Int) (s : State) : State :=
  let before := s.sun.time
  let after := steppedTime o s
  let next := (after.toNat / second + 1) * second
  let ends := s.sun.ppsEnd.map fun e => BitVec.ofNat 64 (min (after.toNat + (e.toNat - before.toNat)) (next - 1000))
  { s with sun := { s.sun with
    time := after, pendingStep := none, stepArmed := false, stepFlag := true, known := true, ppsEnd := ends, stepSpan := some (before, after)
    lastPps := if after.toNat % second = 0 then some after else s.sun.lastPps
    tbi := s.sun.tbi + 1, gmPhase := round10 o } }

/-- A step with its count and its record. -/
def stepNoted (o : Int) (s : State) : State :=
  raise .notice 0x03 0x0020 [lo32 s.sun.time, hi32 s.sun.time, lo32 (steppedTime o s), hi32 (steppedTime o s)]
    (bump 0x00030020 0 (stepped o s))

theorem sundialStep_runs {o : Int} (ho : (advanceTo t s).sun.pendingStep = some o) (harmed : (advanceTo t s).sun.stepArmed = true)
    (hsec : (advanceTo t s).sun.time.toNat % 1000000000 = 0) : exec (.sundialStep t) s = .next (stepNoted o (advanceTo t s)) := by
  have hcond : ¬(!(advanceTo t s).sun.stepArmed || !onSecond (advanceTo t s)) = true := by
    rw [harmed, show onSecond (advanceTo t s) = true from decide_eq_true hsec]; decide
  generalize hu : advanceTo t s = u at *
  rw [exec_sundialStep, execSundialStep, hu]
  dsimp only
  rw [ho]
  exact congrArg Host.Outcome.next (if_neg hcond)

theorem stepNoted_spec (o : Int) (s : State) : let v := stepNoted o s
    v.sun.time = s.sun.time + BitVec.ofInt 64 (10 * roundDiv o 10) ∧
      v.sun.pendingStep = none ∧ v.sun.stepArmed = false ∧ v.sun.stepFlag = true ∧ v.sun.known = true ∧ v.sun.tbi = s.sun.tbi + 1 ∧
      counter v 0x00030020 0 = (counter s 0x00030020 0).inc.1 ∧
      (∃ r ∈ v.skein.raised, r.sev = .notice ∧ r.source = 3 ∧ r.code = 0x20 ∧
        r.args = [lo32 s.sun.time, hi32 s.sun.time, lo32 v.sun.time, hi32 v.sun.time]) ∧
      v = { s with sun := v.sun, counters := v.counters, skein := v.skein, upd := v.upd } := by
  have hsun : (stepNoted o s).sun = (stepped o s).sun := by simp [stepNoted]
  refine ⟨?_, ?_, ?_, ?_, ?_, ?_, ?_, ?_, ?_⟩
  · rw [hsun]; rfl
  · rw [hsun]; rfl
  · rw [hsun]; rfl
  · rw [hsun]; rfl
  · rw [hsun]; rfl
  · rw [hsun]; rfl
  · exact counter_bump 0x00030020 0 (stepped o s)
  · rw [hsun]
    exact raise_raises_full _ _ _ _ _
  · apply State.eq_of_parts <;> simp [stepNoted, stepped]

theorem rtcUpdate_runs (hlocked : (advanceTo t s).sun.state = .locked) (hrtc : (advanceTo t s).clock.rtcFail = false) :
    exec (.rtcUpdate t) s = .next { advanceTo t s with sun := { (advanceTo t s).sun with rtc := (advanceTo t s).sun.time, rtcValid := true } } := by
  have hcond : (decide ((advanceTo t s).sun.state = .locked) && !(advanceTo t s).clock.rtcFail) = true := by
    rw [decide_eq_true hlocked, hrtc]; rfl
  rw [exec_rtcUpdate, execRtcUpdate]
  exact congrArg Host.Outcome.next (if_pos hcond)

theorem leapSecond_runs (hann : (advanceTo t s).sun.leapAnn ≠ 0) (hdue : leapInstant (advanceTo t s) ≤ (advanceTo t s).sun.time.toNat) :
    exec (.leapSecond t) s = .next { advanceTo t s with sun := { (advanceTo t s).sun with
      taiUtc := utcAfterLeap (advanceTo t s), leapAnn := 0, leapMjd := 0 } } := by
  have hcond : ¬(decide ((advanceTo t s).sun.leapAnn = 0) || decide ((advanceTo t s).sun.time.toNat < leapInstant (advanceTo t s))) = true := by
    rw [decide_eq_false hann, decide_eq_false (Nat.not_lt.2 hdue)]; decide
  rw [exec_leapSecond, execLeapSecond]
  exact congrArg Host.Outcome.next (if_neg hcond)

/-! ### gPTP (R331) -/

section
variable (hrun : (advanceTo t s).sun.run = true) (hen : bit (advanceTo t s).sun.ptpCfg 0 = true) (hnet : netMain (advanceTo t s) = true)
include hrun hen hnet

theorem ptpRuns_of : ptpRuns (advanceTo t s) = true := by rw [ptpRuns, hrun, hen, hnet]; rfl

theorem gptpPeerDelay_runs (p : Fin 8) (ns : Nat) : exec (.gptpPeerDelay t p ns) s = .next (send (.gptpPdelay p.val)
    { advanceTo t s with sun := { (advanceTo t s).sun with pdelay := SMap.put (advanceTo t s).sun.pdelay 0 p.val ns } }) := by
  rw [exec_gptpPeerDelay, execGptpPeerDelay]
  exact congrArg Host.Outcome.next (if_pos (ptpRuns_of hrun hen hnet))

variable (hvalid : (advanceTo t s).sun.invalid = false)
include hvalid

theorem ptpSends_of (hset : (advanceTo t s).sun.state ≠ .unset) : ptpSends (advanceTo t s) = true := by
  rw [ptpSends, ptpRuns_of hrun hen hnet, hvalid, decide_eq_false hset]; rfl

theorem gptpSyncSend_runs (hset : (advanceTo t s).sun.state ≠ .unset) : exec (.gptpSyncSend t) s = .next (send
    (.gptpSync (advanceTo t s).sun.time (advanceTo t s).sun.tbi (advanceTo t s).sun.gmPhase) (advanceTo t s)) := by
  rw [exec_gptpSyncSend, execGptpSyncSend]
  exact congrArg Host.Outcome.next (if_pos (ptpSends_of hrun hen hnet hvalid hset))

/-- What an Announce sends. -/
def announce (cls acc : Nat) (s : State) : State :=
  send (.gptpAnnounce cls acc s.sun.taiUtc.toNat (BitVec.ofNat 8 (field s.sun.ptpCfg 15 8)) (BitVec.ofNat 8 (field s.sun.ptpCfg 23 16))) s

theorem gptpAnnounceSend_locked (hlocked : (advanceTo t s).sun.state = .locked) :
    exec (.gptpAnnounceSend t) s = .next (announce 6 0x20 (advanceTo t s)) := by
  have hsends := ptpSends_of hrun hen hnet hvalid (by rw [hlocked]; decide)
  rw [exec_gptpAnnounceSend, execGptpAnnounceSend]
  exact congrArg Host.Outcome.next ((if_neg (by rw [hsends]; decide)).trans (if_pos hlocked))

theorem gptpAnnounceSend_holdover (hhold : (advanceTo t s).sun.state = .holdover) :
    exec (.gptpAnnounceSend t) s = .next (announce 7 0xA0 (advanceTo t s)) := by
  have hsends := ptpSends_of hrun hen hnet hvalid (by rw [hhold]; decide)
  rw [exec_gptpAnnounceSend, execGptpAnnounceSend]
  exact congrArg Host.Outcome.next ((if_neg (by rw [hsends]; decide)).trans (if_neg (show ¬(advanceTo t s).sun.state = .locked by rw [hhold]; decide)))
end
end

/-- Settles O47: a rule per command, what runs it and what it leaves. -/
theorem sundialAndGptp : Obligations.SundialAndGptp := by
  refine ⟨fun t s => ⟨fun l hlocked hl hdue => ⟨_, sundialGnssTimeout_runs hlocked hl hdue, rfl⟩,
    fun hrun hsec honce => ⟨_, ppsEdge_runs hrun hsec honce, rfl⟩,
    fun e he hdue => ⟨⟨_, ppsPulseEnd_runs he hdue, rfl⟩, ⟨_, ppsPulseEnd_runs he hdue, rfl⟩⟩,
    fun o ho harmed hsec => ⟨_, sundialStep_runs ho harmed hsec, stepNoted_spec o _⟩,
    fun hlocked hrtc => ⟨_, rtcUpdate_runs hlocked hrtc, rfl⟩,
    fun hann hdue => ⟨_, leapSecond_runs hann hdue, rfl⟩⟩,
    fun t s => ⟨fun hrun hen hnet => ⟨fun hvalid hset => ⟨⟨_, gptpSyncSend_runs hrun hen hnet hvalid hset, rfl⟩,
      fun hlocked => ⟨_, gptpAnnounceSend_locked hrun hen hnet hvalid hlocked, rfl⟩,
      fun hhold => ⟨_, gptpAnnounceSend_holdover hrun hen hnet hvalid hhold, rfl⟩⟩,
      fun p ns => ⟨_, gptpPeerDelay_runs hrun hen hnet p ns, rfl, SMap.get_put_same _ _ _ _, rfl⟩⟩, fun p b => rfl⟩⟩

end Sys2Proof.Machine
end

section
/-! PROOFS. Leases and checkpoints (R303 to R311). -/
namespace Sys2Proof.Machine
open Sys2Proof.Safety

/-! ### Renewals (R303 to R306, R309) -/

theorem running_frame {s v : State} (hlanes : v.lanes = s.lanes) (hsys : v.sys = s.sys) (hclock : v.clock = s.clock) :
    running v = running s := by
  simp only [running, fullGrade, laneStopped, lane, hlanes, hsys, hclock]

/-- Whether the active lane may renew. -/
def renews (s : State) : Bool := atFrame s && laneActive s && s.lanes.gate && !s.clock.lkoFail && !laneStopped s

/-- The lease restarted. -/
def leased (s : State) : State :=
  { s with lanes := { s.lanes with
    leaseIn := s.lanes.lease.vote, guardIn := s.lanes.guard.vote, remain := s.lanes.lease.vote.toNat * lkoNs } }

section
variable {t : Time} {s : State}

theorem whorlRenewal_eq : exec (.whorlRenewal t) s = .next (let u := advanceTo t s
    if !atFrame u || !laneActive u || !u.lanes.gate || u.clock.lkoFail || laneStopped u then u
    else
      let v := checkpointDue (turnLoad (leased u))
      if running v then v else yieldNow v.sun.time v) := rfl

theorem whorlRenewal_stands (h : (advanceTo t s).lanes.holder = none ∨ (advanceTo t s).lanes.gate = false ∨
      (advanceTo t s).clock.lkoFail = true ∨ (advanceTo t s).sun.time.toNat % 1000000 ≠ 0) :
    exec (.whorlRenewal t) s = .next (advanceTo t s) := by
  have hcond : (!atFrame (advanceTo t s) || !laneActive (advanceTo t s) || !(advanceTo t s).lanes.gate ||
      (advanceTo t s).clock.lkoFail || laneStopped (advanceTo t s)) = true := by
    rcases h with h | h | h | h
    · rw [laneActive, h]; simp
    · rw [h]; simp
    · rw [h]; simp
    · rw [atFrame, frameNs, decide_eq_false h]; rfl
  exact whorlRenewal_eq.trans (congrArg Host.Outcome.next (if_pos hcond))

/-- Without a YIELD nothing follows a boundary. -/
theorem yieldNow_none {f : Time} {s : State} (h : s.lanes.yieldAt = none) : yieldNow f s = s := by
  rw [yieldNow, h]

theorem checkpointDue_lanes (s : State) : (checkpointDue s).lanes = s.lanes ∧ (checkpointDue s).sys = s.sys ∧
    (checkpointDue s).clock = s.clock := by
  simp

theorem whorlRenewal_runs (hlane : laneActive (advanceTo t s) = true) (hgate : (advanceTo t s).lanes.gate = true)
    (hframe : (advanceTo t s).sun.time.toNat % 1000000 = 0) (hlko : (advanceTo t s).clock.lkoFail = false)
    (hstop : laneStopped (advanceTo t s) = false) (hyield : running (advanceTo t s) = true ∨ (advanceTo t s).lanes.yieldAt = none) :
    exec (.whorlRenewal t) s = .next (checkpointDue (turnLoad (leased (advanceTo t s)))) := by
  have hcond : ¬(!atFrame (advanceTo t s) || !laneActive (advanceTo t s) || !(advanceTo t s).lanes.gate ||
      (advanceTo t s).clock.lkoFail || laneStopped (advanceTo t s)) = true := by
    rw [show atFrame (advanceTo t s) = true from decide_eq_true hframe, hlane, hgate, hlko, hstop]; decide
  obtain ⟨hlanes, hsys, hclock⟩ := checkpointDue_lanes (turnLoad (leased (advanceTo t s)))
  refine whorlRenewal_eq.trans (congrArg Host.Outcome.next ((if_neg hcond).trans ?_))
  dsimp only
  split
  · rfl
  case isFalse hnot =>
    rcases hyield with hrun | hnone
    · exact absurd ((running_frame hlanes hsys hclock).trans hrun) hnot
    · exact yieldNow_none (by rw [hlanes]; exact hnone)
end

theorem checkpointDue_stopped {s : State} (h : running s = false) : checkpointDue s = s := if_pos (by rw [h]; rfl)

theorem checkpointDue_due {s : State} (hrun : running s = true) (hframe : frameTaken s = false) (hdue : s.spool.due = none)
    (hwritten : s.spool.written = none) : checkpointDue s = { s with spool := { s.spool with
      due := some s.sun.time, saved := [], plyAt := plyKept s.core.ply, posAt := posKept s.core.pos } } := by
  refine (if_neg (by rw [hrun, hframe]; decide)).trans (if_neg ?_)
  rw [hdue, hwritten]; decide

theorem checkpointDue_skipped {s : State} (hrun : running s = true) (hframe : frameTaken s = false)
    (hlate : s.spool.due.isSome = true ∨ s.spool.written.isSome = true) : checkpointDue s = bump 0x00190010 0 s := by
  refine (if_neg (by rw [hrun, hframe]; decide)).trans (if_pos ?_)
  rcases hlate with h | h
  · rw [h]; rfl
  · rw [h, Bool.or_true]

theorem renewed_spec (u : State) : let v := checkpointDue (turnLoad (leased u))
    v.lanes = { u.lanes with leaseIn := u.lanes.lease.vote, guardIn := u.lanes.guard.vote, remain := u.lanes.lease.vote.toNat * 125 } ∧
      (running u = true → frameTaken u = false → u.spool.due = none → u.spool.written = none →
        v.spool.due = some u.sun.time ∧ v.spool.s0 = u.spool.s0 ∧ v.spool.s1 = u.spool.s1) ∧
      (running u = true → frameTaken u = false → (u.spool.due.isSome = true ∨ u.spool.written.isSome = true) →
        v.spool = u.spool ∧ counter v 0x00190010 0 = (counter u 0x00190010 0).inc.1) ∧
      (running u = false → v.spool = u.spool) ∧
      v.core = { u.core with loadBusy := v.core.loadBusy } ∧
      v = { u with lanes := v.lanes, core := v.core, spool := v.spool, counters := v.counters, skein := v.skein, upd := v.upd } := by
  refine ⟨by simp [turnLoad, leased, lkoNs], fun hrun hframe hdue hwritten => ?_, fun hrun hframe hlate => ?_, fun hrun => ?_, ?_, ?_⟩
  · rw [checkpointDue_due (s := turnLoad (leased u)) hrun hframe hdue hwritten]
    exact ⟨rfl, rfl, rfl⟩
  · rw [checkpointDue_skipped (s := turnLoad (leased u)) hrun hframe hlate]
    exact ⟨by simp [turnLoad, leased], counter_bump _ _ (turnLoad (leased u))⟩
  · rw [checkpointDue_stopped (s := turnLoad (leased u)) hrun]
    rfl
  · simp [turnLoad, leased]
  · apply State.eq_of_parts <;> simp [turnLoad, leased]

/-! ### Checkpoints (R309 to R311) -/

/-- The slot that holds no committed checkpoint. -/
def freeSpool (s : State) : Bool :=
  match committedSlot s with
  | some c => !c
  | none => false

theorem committedSlot_ne_free (s : State) : committedSlot s ≠ some (freeSpool s) := by
  unfold freeSpool
  cases committedSlot s with
  | none => exact fun h => nomatch h
  | some c => cases c <;> simp

/-- The checkpoint of `f` written to a slot, not yet committed. -/
def captureIn (b : Bool) (f : Time) (s : State) : State :=
  let v := setSpoolSlot b { copId := (cop s).copId, frame := f, image := buildImage f s, size := BitVec.ofNat 22 (checkpointSize (cop s)) } s
  { v with spool := { v.spool with due := none, saved := [], plyAt := {}, posAt := {}, written := some b } }

theorem captureDue_spec {f : Time} {s : State} (h : s.spool.due = some f) : let v := captureDue s
    let b := freeSpool s
    (spoolSlot v b).frame = f ∧ (spoolSlot v b).committed = false ∧ spoolSlot v (!b) = spoolSlot s (!b) ∧
      v.spool.due = none ∧ v.spool.written = some b ∧ v.spool.history = s.spool.history ∧ v = { s with spool := v.spool } := by
  have hdue : captureDue s = captureIn (freeSpool s) f s := by
    unfold captureDue
    rw [h]
    rfl
  rw [hdue]
  cases freeSpool s <;> exact ⟨rfl, rfl, rfl, rfl, rfl, rfl, rfl⟩

theorem checkpointCapture_runs {t f : Time} {s : State} (hf : (advanceTo t s).spool.due = some f)
    (hlane : laneActive (advanceTo t s) = true) (hgate : (advanceTo t s).lanes.gate = true)
    (hwritten : (advanceTo t s).spool.written = none) (hquiet : ∀ e ∈ (advanceTo t s).core.tasks, ∀ p ∈ e.2.pending, f ≤ p.1) :
    exec (.checkpointCapture t) s = .next (captureDue (advanceTo t s)) := by
  have hbefore : quietBefore f (advanceTo t s) = true := by
    simp only [quietBefore, List.all_eq_true, decide_eq_true_eq]
    exact hquiet
  have hcond : (laneActive (advanceTo t s) && (advanceTo t s).lanes.gate && (advanceTo t s).spool.written.isNone &&
      quietBefore f (advanceTo t s)) = true := by rw [hlane, hgate, hwritten, hbefore]; rfl
  rw [exec_checkpointCapture, execCheckpointCapture]
  simp only [hf]
  exact congrArg Host.Outcome.next (if_pos hcond)

/-- The commit word of a slot. -/
def commitIn (b : Bool) (s : State) : State :=
  let v := setSpoolSlot b { spoolSlot s b with committed := true } s
  { v with spool := { v.spool with written := none } }

theorem commitWritten_spec {b : Bool} {s : State} (h : s.spool.written = some b) : let v := commitWritten s
    spoolSlot v b = { spoolSlot s b with committed := true } ∧ spoolSlot v (!b) = spoolSlot s (!b) ∧ v.spool.written = none ∧
      v = { s with spool := v.spool } := by
  have hcommit : commitWritten s = commitIn b s := by rw [commitWritten, h]; rfl
  rw [hcommit]
  cases b <;> exact ⟨rfl, rfl, rfl, rfl⟩

theorem checkpointCommit_runs {t : Time} {b : Bool} {s : State} (hb : (advanceTo t s).spool.written = some b)
    (hlane : laneActive (advanceTo t s) = true) (hgate : (advanceTo t s).lanes.gate = true)
    (hyield : (advanceTo t s).lanes.yieldAt = none) (hbound : (advanceTo t s).upd.boundary ≠ some (spoolSlot (advanceTo t s) b).frame) :
    exec (.checkpointCommit t) s = .next (commitWritten (advanceTo t s)) := by
  have hcond : (laneActive (advanceTo t s) && (advanceTo t s).lanes.gate) = true := by rw [hlane, hgate]; rfl
  obtain ⟨-, -, -, hframe⟩ := commitWritten_spec hb
  have hafter : afterCommit (spoolSlot (advanceTo t s) b).frame (commitWritten (advanceTo t s)) = commitWritten (advanceTo t s) := by
    refine (if_neg ?_).trans (yieldNow_none ?_)
    · rw [hframe]; exact hbound
    · rw [hframe]; exact hyield
  rw [exec_checkpointCommit, execCheckpointCommit]
  simp only [hb]
  exact congrArg Host.Outcome.next ((if_pos hcond).trans hafter)

/-- Settles O48: a renewal, a capture and a commit, each by what runs it and what it leaves. -/
theorem leasesRenew : Obligations.LeasesRenew :=
  fun _ _ => ⟨fun h => whorlRenewal_stands h, fun hlane hgate hframe hlko hstop hyield =>
    ⟨_, whorlRenewal_runs hlane hgate hframe hlko hstop hyield, renewed_spec _⟩,
    fun _ hf hlane hgate hwritten hquiet =>
      ⟨_, _, checkpointCapture_runs hf hlane hgate hwritten hquiet, committedSlot_ne_free _, captureDue_spec hf⟩,
    fun _ hb hlane hgate hyield hbound => ⟨_, checkpointCommit_runs hb hlane hgate hyield hbound, commitWritten_spec hb⟩⟩

end Sys2Proof.Machine
end

section
/-! PROOFS. Release of the Whorl and switch-over (R12, R25, R88, R259, R260, R305, R312 to R315, R345). -/
namespace Sys2Proof.Machine
open Sys2Proof.Safety

/-! ### Release of the Whorl -/

theorem lane_congr {s t : State} (h : t.lanes = s.lanes) (l : Lane) : lane t l = lane s l := by
  unfold lane
  rw [h]

@[simp] theorem lane_setLane_of_other (l : Lane) (x : LaneSt) (s : State) : lane (setLane l.other x s) l = lane s l := by cases l <;> rfl

theorem dropCore_spec (s : State) : (dropCore s).core = {} ∧ (dropCore s).lanes = { s.lanes with gapOccupancy := (dropCore s).lanes.gapOccupancy } := by
  simp [dropCore]

/-- What stands between the failure of a lane and the start of the other one. -/
def laneReleased (l : Lane) (cause : BitVec 4) (s : State) : State :=
  let s := { s with sys := { s.sys with disarmPending := s.sys.disarmPending || disarmCoincides s } }
  let s := failLane l cause (dropCore s)
  gapOutputs true (closeAllSessions { s with
    lanes := { s.lanes with holder := none, gate := false, remain := 0, yieldAt := none, yieldBy := false, switch := none },
    spool := { s.spool with due := none, saved := [], written := none, plyAt := {}, posAt := {} } })

/-- A released Whorl: nobody holds it, its gate is closed, the failed lane shows its cause, its program and every session are gone. -/
structure Released (l : Lane) (cause : BitVec 4) (s : State) : Prop where
  holder : s.lanes.holder = none
  gate : s.lanes.gate = false
  remain : s.lanes.remain = 0
  state : (lane s l).state = .failed
  cause : (lane s l).cause = cause
  core : s.core = {}
  sessions : s.hank.sessions = []

theorem lane_of_switch {s t : State} (h : t.lanes = { s.lanes with switch := t.lanes.switch }) (l : Lane) : lane t l = lane s l := by
  unfold lane
  rw [h]

theorem Released.keeps {l : Lane} {cause : BitVec 4} {s v : State} (h : Released l cause s)
    (hlanes : v.lanes = { s.lanes with switch := v.lanes.switch }) (hcore : v.core = s.core) (hsess : v.hank.sessions = []) :
    Released l cause v :=
  ⟨hlanes ▸ h.holder, hlanes ▸ h.gate, hlanes ▸ h.remain, lane_of_switch hlanes l ▸ h.state, lane_of_switch hlanes l ▸ h.cause,
    hcore ▸ h.core, hsess⟩

theorem laneReleased_spec (l : Lane) (cause : BitVec 4) (s : State) : let v := laneReleased l cause s
    Released l cause v ∧ v.lanes.switch = none ∧ lane v l.other = lane s l.other ∧ v.sun = s.sun ∧
      v.sys = { s.sys with disarmPending := s.sys.disarmPending || disarmCoincides s } := by
  obtain ⟨hcore, hlanes⟩ := dropCore_spec { s with sys := { s.sys with disarmPending := s.sys.disarmPending || disarmCoincides s } }
  have hother : lane (dropCore { s with sys := { s.sys with disarmPending := s.sys.disarmPending || disarmCoincides s } }) l.other =
      lane s l.other := by
    unfold lane
    rw [hlanes]
  have hsys : (dropCore { s with sys := { s.sys with disarmPending := s.sys.disarmPending || disarmCoincides s } }).sys =
      { s.sys with disarmPending := s.sys.disarmPending || disarmCoincides s } := by simp
  have hsun : (dropCore { s with sys := { s.sys with disarmPending := s.sys.disarmPending || disarmCoincides s } }).sun = s.sun := by simp
  unfold laneReleased
  dsimp only
  generalize dropCore _ = d at *
  refine ⟨⟨?_, ?_, ?_, ?state, ?cause, ?_, ?_⟩, ?_, ?other, ?_, ?_⟩
  case other => cases l <;> simpa [failLane, closeAllSessions, lane, setLane, Lane.other] using hother
  case state | cause => cases l <;> simp [failLane, closeAllSessions, lane, setLane]
  all_goals cases l <;> simp [failLane, hcore, hsys, hsun, closeAllSessions]

/-- A claim to wake, submitted during a switch-over: at most the switch-over's own admission changes in the lanes. -/
theorem submit_wake {l : Lane} {w : Switch} {s : State} (h : s.lanes.switch = some w) : let v := submit 4 (wakeClaim l) s
    (v.lanes.switch = some w ∨ v.lanes.switch = some { w with wakeAdmitted := true }) ∧
      v.lanes = { s.lanes with switch := v.lanes.switch } ∧ v.core = s.core ∧ v.hank = s.hank := by
  have howner : (wakeClaim l).owner = .wake l := rfl
  unfold submit
  (repeat' split) <;> simp [howner, onAdmitted, onRefused, wakeAdmit, h] <;> rw [← h]

/-- The other lane wakes, in a switch-over from this release. -/
def standbyWaking (l : Lane) (cause : BitVec 4) (woken : Bool) (s : State) : State :=
  let o := l.other
  let x := lane s o
  let s := setLane o { x with state := .waking, mgmt := false } s
  let w : Switch := { failed := l, cause := cause, releasedAt := s.sun.time, wakeAdmitted := woken }
  { s with lanes := { s.lanes with switch := some w } }

/-- Its wake is claimed where it is not admitted yet, and NOON becomes AFTERNOON. -/
def wakeStandby (l : Lane) (cause : BitVec 4) (woken : Bool) (s : State) : State :=
  let s := standbyWaking l cause woken s
  let s := if woken then s else submit 4 (wakeClaim l.other) s
  if s.sys.state = .noon then toDay .afternoon .switchOver true s else s

theorem standbyWaking_spec {l : Lane} {s : State} (cause : BitVec 4) (woken : Bool) (h : Released l cause s) :
    let v := standbyWaking l cause woken s
    Released l cause v ∧ (lane v l.other).state = .waking ∧
      v.lanes.switch = some { failed := l, cause := cause, releasedAt := s.sun.time, wakeAdmitted := woken } ∧ v.sys = s.sys := by
  refine ⟨⟨?_, ?_, ?_, ?state, ?cause, ?_, ?_⟩, ?waking, ?_, ?_⟩
  case state => cases l <;> exact h.state
  case cause => cases l <;> exact h.cause
  case waking => cases l <;> rfl
  all_goals cases l <;> simp [standbyWaking, h.holder, h.gate, h.remain, h.core, h.sessions, setLane, Lane.other]

theorem releaseWhorl_eq (l : Lane) (cause : BitVec 4) (s : State) : releaseWhorl l cause s =
    if canTake s l.other then wakeStandby l cause (holds s 4 (.wake l.other)) (laneReleased l cause s)
    else lastLaneFailed (laneReleased l cause s) := rfl

theorem wakeStandby_spec {l : Lane} {cause : BitVec 4} {s : State} (woken : Bool) (h : Released l cause s) : let v := wakeStandby l cause woken s
    Released l cause v ∧ (lane v l.other).state = .waking ∧
      (∃ w, v.lanes.switch = some w ∧ w.failed = l ∧ w.cause = cause ∧ w.releasedAt = s.sun.time ∧ w.guardOver = false ∧
        w.restored = none ∧ (woken = true → w.wakeAdmitted = true)) ∧
      v.sys = { s.sys with state := if s.sys.state = .noon then .afternoon else s.sys.state } := by
  obtain ⟨hrel, hstate, hswitch, hsys⟩ := standbyWaking_spec cause woken h
  generalize hy : standbyWaking l cause woken s = y at *
  have hz : let z := if woken then y else submit 4 (wakeClaim l.other) y
      Released l cause z ∧ (lane z l.other).state = .waking ∧ z.sys = s.sys ∧ ∃ w, z.lanes.switch = some w ∧ w.failed = l ∧ w.cause = cause ∧
        w.releasedAt = s.sun.time ∧ w.guardOver = false ∧ w.restored = none ∧ (woken = true → w.wakeAdmitted = true) := by
    cases woken with
    | true => exact ⟨hrel, hstate, hsys, _, hswitch, rfl, rfl, rfl, rfl, rfl, fun _ => rfl⟩
    | false =>
      obtain ⟨hw, hlanes, hcore, hhank⟩ := submit_wake (l := l.other) hswitch
      have hsys' : (submit 4 (wakeClaim l.other) y).sys = s.sys := by simp [hsys]
      rw [if_neg Bool.false_ne_true]
      generalize submit 4 (wakeClaim l.other) y = z at *
      refine ⟨hrel.keeps hlanes hcore (hhank ▸ hrel.sessions), lane_of_switch hlanes _ ▸ hstate, hsys', ?_⟩
      rcases hw with hw | hw <;> exact ⟨_, hw, rfl, rfl, rfl, rfl, rfl, fun h => absurd h Bool.false_ne_true⟩
  have heq : wakeStandby l cause woken s = (let z := if woken then y else submit 4 (wakeClaim l.other) y
    if z.sys.state = .noon then toDay .afternoon .switchOver true z else z) := by
    unfold wakeStandby
    rw [hy]
  rw [heq]
  generalize (if woken then y else submit 4 (wakeClaim l.other) y) = z at *
  obtain ⟨hrel', hstate', hsys', w, hw⟩ := hz
  dsimp only
  rw [hsys']
  split
  · refine ⟨hrel'.keeps (by simp) (by simp) ((toDay_idle hrel'.sessions).1 ▸ hrel'.sessions), ?_, ⟨w, ?_⟩, ?_⟩
    · rw [lane_congr (s := z) (by simp), hstate']
    · rw [show (toDay .afternoon .switchOver true z).lanes = z.lanes by simp]
      exact hw
    · simp [hsys']
  · exact ⟨hrel', hstate', ⟨w, hw⟩, hsys'⟩

/-- A release with a COLD lane beside it. -/
theorem releaseWhorl_cold {l : Lane} {s : State} (cause : BitVec 4) (h : (lane s l.other).state = .cold) : let v := releaseWhorl l cause s
    Released l cause v ∧ (lane v l.other).state = .waking ∧
      (∃ w, v.lanes.switch = some w ∧ w.failed = l ∧ w.cause = cause ∧ w.releasedAt = s.sun.time ∧ w.guardOver = false ∧
        w.restored = none ∧ (holds s 4 (.wake l.other) = true → w.wakeAdmitted = true)) ∧
      v.sys = { s.sys with
        state := if s.sys.state = .noon then .afternoon else s.sys.state
        disarmPending := s.sys.disarmPending || disarmCoincides s } := by
  have htakes : canTake s l.other = true := by rw [canTake, h]
  obtain ⟨hrel, -, -, hsun, hsys⟩ := laneReleased_spec l cause s
  rw [releaseWhorl_eq, if_pos htakes]
  generalize laneReleased l cause s = y at *
  have hspec := wakeStandby_spec (holds s 4 (.wake l.other)) hrel
  rwa [hsun, hsys] at hspec

/-- What the last lane's failure makes of the day, with no session to tell. -/
theorem lastLaneFailed_spec {l : Lane} {cause : BitVec 4} {s : State} (h : Released l cause s) : let v := lastLaneFailed s
    Released l cause v ∧ v.lanes = s.lanes ∧ v.sys.lock = s.sys.lock ∧ ((s.sys.state = .dusk ∨ s.sys.state = .midnight) → v = s) ∧
      (s.sys.state ≠ .dusk → s.sys.state ≠ .midnight → (s.sys.state = .dawn → s.sys.hold = true ∨ kl15Ends s = false) →
        v.sys.state = .dawn ∧ v.sys.hold = true ∧ v.sys.holdCause = 5 ∧ v.sys.driving = false) ∧
      (s.sys.state = .dawn → s.sys.hold = false → kl15Ends s = true →
        v.sys.state = .dusk ∧ v.sys.hold = false ∧ v.sys.duskStep = 1) := by
  have hhold : let v := enterHold 5 0 .lastLane s
      Released l cause v ∧ v.lanes = s.lanes ∧ v.sys.lock = s.sys.lock ∧
        v.sys.state = .dawn ∧ v.sys.hold = true ∧ v.sys.holdCause = 5 ∧ v.sys.driving = false := by
    have hlanes : (enterHold 5 0 .lastLane s).lanes = s.lanes := by simp
    have hsess : (enterHold 5 0 .lastLane s).hank.sessions = [] := by
      unfold enterHold
      dsimp only
      split <;> simp [(toDay_idle h.sessions).1, h.sessions]
    refine ⟨h.keeps (by rw [hlanes]) (by simp) hsess, hlanes, ?_⟩
    unfold enterHold
    dsimp only
    split <;> simp
  have hdusk : let v := enterDusk .kl15Low s
      Released l cause v ∧ v.lanes = s.lanes ∧ v.sys.lock = s.sys.lock ∧ v.sys.state = .dusk ∧ v.sys.hold = false ∧ v.sys.duskStep = 1 := by
    have hlimp : (limpEnd s).hank.sessions = [] := by simp [h.sessions]
    have hsess : (enterDusk .kl15Low s).hank.sessions = [] := by simp [enterDusk, (toDay_idle hlimp).1, h.sessions]
    refine ⟨h.keeps (by simp) (by simp) hsess, by simp, ?_⟩
    simp [enterDusk]
  unfold lastLaneFailed
  cases hs : s.sys.state <;> dsimp only
  case midnight | dusk => simp [h]
  case dawn =>
    cases hh : s.sys.hold <;> cases hk : kl15Ends s <;> simp_all
  all_goals simp_all

/-- A release with no lane beside it. -/
theorem releaseWhorl_failed {l : Lane} {s : State} (cause : BitVec 4) (h : (lane s l.other).state = .failed) : let v := releaseWhorl l cause s
    Released l cause v ∧ lane v l.other = lane s l.other ∧ v.lanes.switch = none ∧ v.sys.lock = s.sys.lock ∧
      ((s.sys.state = .dusk ∨ s.sys.state = .midnight) →
        v.sys = { s.sys with disarmPending := s.sys.disarmPending || disarmCoincides s }) ∧
      (s.sys.state ≠ .dusk → s.sys.state ≠ .midnight → (s.sys.state = .dawn → s.sys.hold = true ∨ kl15Ends s = false) →
        v.sys.state = .dawn ∧ v.sys.hold = true ∧ v.sys.holdCause = 5 ∧ v.sys.driving = false) ∧
      (s.sys.state = .dawn → s.sys.hold = false → kl15Ends s = true →
        v.sys.state = .dusk ∧ v.sys.hold = false ∧ v.sys.duskStep = 1) := by
  have htakes : canTake s l.other = false := by rw [canTake, h]
  obtain ⟨hrel, hswitch, hother, -, hsys⟩ := laneReleased_spec l cause s
  rw [releaseWhorl_eq, if_neg (by rw [htakes]; decide)]
  generalize laneReleased l cause s = y at *
  obtain ⟨hrel', hlanes, hlock, hdown, hhold, hdusk⟩ := lastLaneFailed_spec hrel
  have hends : kl15Ends y = kl15Ends s := by
    unfold kl15Ends
    rw [hsys]
  rw [hends] at hhold hdusk
  rw [hsys] at hlock hdown hhold hdusk
  refine ⟨hrel', ?_, ?_, hlock, fun hd => ?_, hhold, hdusk⟩
  · rw [lane_congr hlanes, hother]
  · rw [hlanes, hswitch]
  · rw [hdown hd, hsys]

/-- Every release: what stands whatever the other lane is. -/
theorem releaseWhorl_released (l : Lane) (cause : BitVec 4) (s : State) : let v := releaseWhorl l cause s
    Released l cause v ∧ v.sys.lock = s.sys.lock := by
  obtain ⟨hrel, -, -, -, hsys⟩ := laneReleased_spec l cause s
  rw [releaseWhorl_eq]
  generalize laneReleased l cause s = y at *
  split
  · obtain ⟨hrel', -, -, hsys'⟩ := wakeStandby_spec (holds s 4 (.wake l.other)) hrel
    exact ⟨hrel', by rw [hsys', hsys]⟩
  · obtain ⟨hrel', -, hlock, -⟩ := lastLaneFailed_spec hrel
    exact ⟨hrel', by rw [hlock, hsys]⟩

section
variable {t : Time} {l : Lane} {s : State}

/-- The active lane's fault releases the Whorl. -/
theorem laneFault_holder (cause : BitVec 4) (h : s.lanes.holder = some l) : laneFault l cause s = releaseWhorl l cause s := if_pos h

theorem comparatorMismatch_runs (h : (advanceTo t s).lanes.holder = some l) :
    exec (.comparatorMismatch t l) s = .next (releaseWhorl l 1 (advanceTo t s)) :=
  congrArg Host.Outcome.next (laneFault_holder 1 h)

theorem eccUncorrectable_runs (h : (advanceTo t s).lanes.holder = some l) :
    exec (.eccUncorrectable t l) s = .next (releaseWhorl l 2 (advanceTo t s)) :=
  congrArg Host.Outcome.next (laneFault_holder 2 h)

theorem leaseExpiry_runs (h : (advanceTo t s).lanes.holder = some l)
    (hout : ((advanceTo t s).lanes.gate && decide ((advanceTo t s).lanes.remain = 0) && !(advanceTo t s).clock.lkoFail) = true) :
    exec (.leaseExpiry t) s = .next (releaseWhorl l 3 (advanceTo t s)) := by
  rw [exec_leaseExpiry, execLeaseExpiry]
  simp only [h, hout, if_true]

end

/-! ### The parts of a switch-over -/

section
variable {t : Time} {w : Switch} {s : State}

theorem failedSupplyOff_runs (h : (advanceTo t s).lanes.switch = some w) (hf : (lane (advanceTo t s) w.failed).state = .failed) :
    exec (.failedSupplyOff t w.failed) s = .next (let u := returnLane w.failed (advanceTo t s)
      { u with lanes := { u.lanes with switch := some { w with supplyOff := true } } }) := by
  have h' : (returnLane w.failed (advanceTo t s)).lanes.switch = some w := by
    rw [← h]
    exact congrArg Lanes.switch (by simp)
  rw [exec_failedSupplyOff, execFailedSupplyOff]
  simp only [hf, h', if_true]

theorem returnLane_spec (l : Lane) (s : State) : let v := returnLane l s
    holds v 4 (.run l) = false ∧ waits v 4 (.run l) = false ∧ holds v 4 (.wake l) = false ∧ v = { s with tally := v.tally } := by
  refine ⟨by simp [returnLane, holds], by simp [returnLane, waits], ?_, ?_⟩
  · simp [returnLane, holds]
    exact fun _ _ h _ _ => h
  · apply State.eq_of_parts <;> simp [returnLane]

theorem leaseGuardEnd_runs (h : (advanceTo t s).lanes.switch = some w)
    (hg : w.releasedAt.toNat + (advanceTo t s).lanes.guardIn.toNat * 125 ≤ (advanceTo t s).sun.time.toNat)
    (hl : (advanceTo t s).clock.lkoFail = false) : exec (.leaseGuardEnd t) s = .next (let u := advanceTo t s
      { u with lanes := { u.lanes with switch := some { w with guardOver := true } } }) := by
  have hcond : (decide (w.releasedAt.toNat + (advanceTo t s).lanes.guardIn.toNat * lkoNs ≤ (advanceTo t s).sun.time.toNat) &&
      !(advanceTo t s).clock.lkoFail) = true := by
    rw [hl, Bool.not_false, Bool.and_true]
    exact decide_eq_true hg
  rw [exec_leaseGuardEnd, execLeaseGuardEnd]
  simp only [h, hcond, if_true]

theorem standbyWakeDone_runs (h : (advanceTo t s).lanes.switch = some w) (ha : w.wakeAdmitted = true) :
    exec (.standbyWakeDone t) s = .next (let u := setGrade w.failed.other false (advanceTo t s)
      { u with lanes := { u.lanes with switch := some { w with awake := true } } }) := by
  rw [exec_standbyWakeDone, execStandbyWakeDone]
  simp only [h, ha, if_true]

theorem standbyAwake_spec (l : Lane) (w : Option Switch) (s : State) : let u := setGrade l.other false s
    let v : State := { u with lanes := { u.lanes with switch := w } }
    (lane v l.other).clocks = true ∧ (lane v l.other).mgmt = false ∧ (lane v l.other).state = (lane s l.other).state ∧
      lane v l = lane s l ∧ v = { s with lanes := v.lanes } := by
  cases l <;> exact ⟨rfl, rfl, rfl, rfl, rfl⟩

/-- The image restored, and what the switch-over notes of it. -/
def restoredInto (w : Switch) (im : Image) (f : Time) (none_ : Bool) (s : State) : State :=
  let s := restoreImage im s
  { s with lanes := { s.lanes with switch := some { w with restored := some f, noCkpt := none_ } } }

theorem checkpointRestored_runs {im : Image} {f : Time} {none_ : Bool} (h : (advanceTo t s).lanes.switch = some w)
    (ha : w.awake = true) (hr : w.restored = none) (hi : imageToRestore (advanceTo t s) = (im, f, none_)) :
    exec (.checkpointRestored t) s = .next (restoredInto w im f none_ (advanceTo t s)) := by
  have hcond : (w.awake && w.restored.isNone) = true := by rw [ha, hr]; rfl
  rw [exec_checkpointRestored, execCheckpointRestored]
  simp only [h, hcond, hi, if_true]
  rfl

theorem imageToRestore_some {b : Bool} (h : committedSlot s = some b) :
    imageToRestore s = ((spoolSlot s b).image, (spoolSlot s b).frame, false) := by rw [imageToRestore, h]

theorem imageToRestore_none (h : committedSlot s = none) : imageToRestore s = ({}, 0, true) := by rw [imageToRestore, h]

end

/-- Images without constants load none. -/
theorem loadConstants_empty {s : State} (h : ∀ im ∈ (cop s).images, im.consts = []) : loadConstants s = s := by
  unfold loadConstants
  generalize (cop s).images = l at h
  induction l with
  | nil => rfl
  | cons im l ih =>
    rw [List.foldl_cons, h im List.mem_cons_self]
    exact ih fun i hi => h i (List.mem_cons_of_mem _ hi)

/-- A checkpoint's image in a new core, before the constants. -/
def imageLaid (im : Image) (s : State) : State :=
  let keys := (cop s).loops.map fun d => loopKey d.unit d.loop
  { s with core := { ({} : Core) with
    tasks := im.stopped.foldl (fun m e => SMap.put m {} e.1 { ({} : TaskState) with stopped := e.2 }) []
    sram := im.keep
    signals := im.signals.foldl (fun m e => SMap.insert m e.1 { samples := [e.2] }) []
    loops := keys.foldl (fun m k => SMap.put m {} k { SMap.get im.loops {} k with init := some .switchOver }) []
    tables := im.tables, ply := im.ply, pos := im.pos } }

theorem restoreImage_eq (im : Image) (s : State) : restoreImage im s = loadConstants (imageLaid im s) := rfl

theorem restoredInto_spec {w : Switch} {im : Image} {f : Time} {none_ : Bool} {s : State} (h : ∀ i ∈ (cop s).images, i.consts = []) :
    let v := restoredInto w im f none_ s
    v.lanes.switch = some { w with restored := some f, noCkpt := none_ } ∧ v.core.sram = im.keep ∧ v.core.tables = im.tables ∧
      v.core.acts = [] ∧ v.core.bobs = [] ∧ v = { s with core := v.core, lanes := v.lanes } := by
  unfold restoredInto
  rw [restoreImage_eq, loadConstants_empty (s := imageLaid im s) h]
  exact ⟨rfl, rfl, rfl, rfl, rfl, rfl⟩

/-- What a single image's constants leave in data SRAM. -/
theorem restoredInto_sram {w : Switch} {im : Image} {f : Time} {none_ : Bool} {i : SpindleImage} {s : State} (h : (cop s).images = [i]) :
    (restoredInto w im f none_ s).core.sram = (writeBytes i.spindle i.constBase (i.consts.flatMap fun w => bytesOf 4 w.toNat)
      { s with core := { s.core with sram := im.keep } }).core.sram := by
  unfold restoredInto
  rw [restoreImage_eq, loadConstants, show (cop (imageLaid im s)).images = [i] from h]
  rfl

/-! ### The grant -/

/-- The CAN buffers that a gap lost are counted. -/
def buffersLost (occ : SMap Nat) (s : State) : State := occ.foldl (fun s e => bumps (0x0010001C + 0x1000 * e.1) 0 e.2 s) s

/-- The standby has taken the Whorl, and the CAN buffers that the gap lost are counted. -/
def gapClosed (w : Switch) (s : State) : State :=
  let gap := gapCycles w.releasedAt s
  let occ := s.lanes.gapOccupancy
  let s := takeWhorl w.failed.other s
  let s := { s with
    lanes := { s.lanes with switch := none, noCkpt := w.noCkpt, gapOccupancy := [], lastGap := BitVec.ofNat 16 (min gap 65535) } }
  buffersLost occ (closeResponder s)

/-- Its CAN controllers join, and the switch-over is counted and recorded. -/
def switchNoted (w : Switch) (f : Time) (gap : Nat) (s : State) : State :=
  let s := if running s then canJoin s else s
  raise .critical 0x18 0x0014
    [BitVec.ofNat 32 (Lane.num w.failed), w.cause.zeroExtend 32, lo32 f, hi32 f, hold32 gap] (bump 0x00180014 0 s)

theorem whorlGrant_runs {t f : Time} {w : Switch} {s : State} (h : (advanceTo t s).lanes.switch = some w) (hf : w.restored = some f)
    (hframe : atFrame (advanceTo t s) = true) (hl : (advanceTo t s).clock.lkoFail = false) (hg : w.guardOver = true)
    (ha : w.awake = true) : exec (.whorlGrant t) s = .next (engageAll (afterTake
      (switchNoted w f (gapCycles w.releasedAt (advanceTo t s)) (gapClosed w (advanceTo t s))))) := by
  have hcond : (!atFrame (advanceTo t s) || (advanceTo t s).clock.lkoFail || !w.guardOver || !w.awake) = false := by
    rw [hframe, hl, hg, ha]
    rfl
  rw [exec_whorlGrant, execWhorlGrant]
  generalize advanceTo t s = u at *
  simp only [h, hf, hcond, Bool.false_eq_true, if_false]
  rfl

theorem bumps_keeps_counter {addr idx a i n : Nat} (h : ckey a i ≠ ckey addr idx) (s : State) :
    counter (bumps addr idx n s) a i = counter s a i := by
  induction n generalizing s with
  | zero => rfl
  | succ n ih => rw [bumps, ih, counter_bump_ne _ _ _ _ _ h]

/-- The count of switch-overs stands apart from every controller's count of lost buffers. -/
theorem switchCount_ne (n : Nat) : ckey 0x00180014 0 ≠ ckey (0x0010001C + 0x1000 * n) 0 := by
  unfold ckey
  omega

theorem buffersLost_spec (occ : SMap Nat) (s : State) : let v := buffersLost occ s
    v.lanes = s.lanes ∧ v.core = s.core ∧ v.sys = s.sys ∧ v.upd = s.upd ∧ counter v 0x00180014 0 = counter s 0x00180014 0 :=
  ⟨foldl_keeps (·.lanes) (fun s e => by simp) occ s, foldl_keeps (·.core) (fun s e => by simp) occ s,
    foldl_keeps (·.sys) (fun s e => by simp) occ s, foldl_keeps (·.upd) (fun s e => by simp) occ s,
    foldl_keeps (fun s => counter s 0x00180014 0) (fun s (e : Nat × Nat) => bumps_keeps_counter (switchCount_ne e.1) s) occ s⟩

theorem gapClosed_spec (w : Switch) (s : State) : let v := gapClosed w s
    v.lanes.holder = some w.failed.other ∧ v.lanes.gate = true ∧ v.lanes.lastHolder = w.failed.other ∧ v.lanes.switch = none ∧
      (lane v w.failed.other).state = .active ∧ lane v w.failed = lane s w.failed ∧
      v.lanes.remain = s.lanes.lease.vote.toNat * lkoNs ∧
      v.lanes.lastGap = BitVec.ofNat 16 (min (gapCycles w.releasedAt s) 65535) ∧
      counter v 0x00180014 0 = counter s 0x00180014 0 ∧ v.core.sram = s.core.sram ∧ v.core.ply.since = s.sun.time ∧ v.sys = s.sys ∧
      v.upd.step = s.upd.step := by
  obtain ⟨hholder, hgate, hstate, hother, hremain⟩ := takeWhorl_spec w.failed.other s
  have hfailed : w.failed.other.other = w.failed := by cases w.failed <;> rfl
  rw [hfailed] at hother
  have htook : (takeWhorl w.failed.other s).lanes.lastHolder = w.failed.other ∧ (takeWhorl w.failed.other s).core.sram = s.core.sram ∧
      (takeWhorl w.failed.other s).core.ply.since = s.sun.time ∧ (takeWhorl w.failed.other s).counters = s.counters ∧
      (takeWhorl w.failed.other s).sys = s.sys ∧ (takeWhorl w.failed.other s).upd = s.upd := by simp [takeWhorl]
  obtain ⟨hlast, hsram, hsince, hcounters, hsys, hupd⟩ := htook
  unfold gapClosed
  dsimp only
  generalize takeWhorl w.failed.other s = y at *
  generalize gapCycles w.releasedAt s = gap
  generalize hz : closeResponder { y with lanes := _ } = z
  obtain ⟨hzl, hzc, hzs, hzu, hzn⟩ : z.lanes = { y.lanes with
      switch := none, noCkpt := w.noCkpt, gapOccupancy := [], lastGap := BitVec.ofNat 16 (min gap 65535) } ∧ z.core = y.core ∧ z.sys = y.sys ∧
      z.upd = y.upd ∧ z.counters = y.counters := by simp [← hz]
  obtain ⟨hlanes, hcore, hsys', hupd', hcount⟩ := buffersLost_spec s.lanes.gapOccupancy z
  generalize buffersLost s.lanes.gapOccupancy z = v at *
  rw [hzl] at hlanes
  have hlane (l : Lane) : lane v l = lane y l := by
    unfold lane
    rw [hlanes]
  have hcount' : counter v 0x00180014 0 = counter s 0x00180014 0 := by
    rw [hcount]
    unfold counter
    rw [hzn, hcounters]
  refine ⟨hlanes ▸ hholder, hlanes ▸ hgate, hlanes ▸ hlast, hlanes ▸ rfl, (hlane _).symm ▸ hstate, (hlane _).trans hother,
    hlanes ▸ hremain, hlanes ▸ rfl, hcount', ?_, ?_, ?_, ?_⟩
  · rw [hcore, hzc, hsram]
  · rw [hcore, hzc, hsince]
  · rw [hsys', hzs, hsys]
  · rw [hupd', hzu, hupd]

theorem canJoin_core (s : State) : (canJoin s).core.sram = s.core.sram ∧ (canJoin s).core.ply = s.core.ply := by
  unfold canJoin
  refine ⟨foldl_keeps (fun s => s.core.sram) (fun s d => ?_) _ s, foldl_keeps (fun s => s.core.ply) (fun s d => ?_) _ s⟩
  all_goals split <;> rfl

theorem switchNoted_spec (w : Switch) (f : Time) (gap : Nat) (s : State) : let v := switchNoted w f gap s
    v.lanes = s.lanes ∧ v.sys = s.sys ∧ v.upd.step = s.upd.step ∧ v.core.sram = s.core.sram ∧ v.core.ply = s.core.ply ∧
      counter v 0x00180014 0 = (counter s 0x00180014 0).inc.1 ∧
      (∃ r ∈ v.skein.raised, r.sev = .critical ∧ r.source = 24 ∧ r.code = 0x14 ∧
        r.args = [BitVec.ofNat 32 (Lane.num w.failed), w.cause.zeroExtend 32, lo32 f, hi32 f, hold32 gap]) := by
  unfold switchNoted
  dsimp only
  have hjoined : let v := if running s then canJoin s else s
      v.lanes = s.lanes ∧ v.sys = s.sys ∧ v.upd = s.upd ∧ v.core.sram = s.core.sram ∧ v.core.ply = s.core.ply ∧ v.counters = s.counters := by
    dsimp only
    split
    · simp [canJoin_core]
    · exact ⟨rfl, rfl, rfl, rfl, rfl, rfl⟩
  generalize (if running s then canJoin s else s) = y at *
  obtain ⟨hlanes, hsys, hupd, hsram, hply, hcounters⟩ := hjoined
  refine ⟨by simp [hlanes], by simp [hsys], by simp [hupd], by simp [hsram], by simp [hply], ?_, raise_raises_full _ _ _ _ _⟩
  rw [show counter s 0x00180014 0 = counter y 0x00180014 0 by unfold counter; rw [hcounters], ← counter_bump]
  rfl

/-- A new active lane with nothing pending finds nothing to do. -/
theorem afterTake_idle {s : State} (hp : s.sys.disarmPending = false) (hd : s.sys.state ≠ .dusk) (hu : s.upd.step = .none) :
    afterTake s = s := by
  have hlate : lateDisarm s = s := if_pos (by rw [hp]; rfl)
  unfold afterTake
  simp only [hlate, if_neg hd, hu]

theorem whorlGranted_spec {w : Switch} {s : State} (f : Time) (hp : s.sys.disarmPending = false) (hd : s.sys.state ≠ .dusk)
    (hu : s.upd.step = .none) : let v := engageAll (afterTake (switchNoted w f (gapCycles w.releasedAt s) (gapClosed w s)))
    v.lanes.holder = some w.failed.other ∧ v.lanes.gate = true ∧ v.lanes.lastHolder = w.failed.other ∧ v.lanes.switch = none ∧
      (lane v w.failed.other).state = .active ∧ lane v w.failed = lane s w.failed ∧ v.lanes.remain = s.lanes.lease.vote.toNat * lkoNs ∧
      v.lanes.lastGap = BitVec.ofNat 16 (min (gapCycles w.releasedAt s) 65535) ∧
      counter v 0x00180014 0 = (counter s 0x00180014 0).inc.1 ∧ v.core.sram = s.core.sram ∧ v.core.ply.since = s.sun.time ∧
      (∃ r ∈ v.skein.raised, r.sev = .critical ∧ r.source = 24 ∧ r.code = 0x14 ∧
        r.args.take 4 = [BitVec.ofNat 32 (Lane.num w.failed), w.cause.zeroExtend 32, lo32 f, hi32 f]) ∧ v.sys = s.sys := by
  obtain ⟨hholder, hgate, hlast, hswitch, hstate, hother, hremain, hgap, hcount, hsram, hsince, hsys, hupd⟩ := gapClosed_spec w s
  obtain ⟨hlanes, hsys', hupd', hsram', hply, hcount', r, hr, hsev, hsource, hcode, hargs⟩ :=
    switchNoted_spec w f (gapCycles w.releasedAt s) (gapClosed w s)
  generalize switchNoted w f _ (gapClosed w s) = y at *
  generalize gapClosed w s = x at *
  rw [afterTake_idle (by rw [hsys', hsys, hp]) (by rwa [hsys', hsys]) (by rw [hupd', hupd, hu])]
  have hengaged : (engageAll y).lanes = y.lanes ∧ (engageAll y).sys = y.sys ∧ (engageAll y).counters = y.counters ∧
      (engageAll y).core = y.core ∧ (engageAll y).skein = y.skein := by simp
  generalize engageAll y = v at *
  obtain ⟨hvl, hvs, hvn, hvc, hvk⟩ := hengaged
  rw [hlanes] at hvl
  refine ⟨hvl ▸ hholder, hvl ▸ hgate, hvl ▸ hlast, hvl ▸ hswitch, (lane_congr hvl _).symm ▸ hstate, (lane_congr hvl _).trans hother,
    hvl ▸ hremain, hvl ▸ hgap, ?_, ?_, ?_, ⟨r, hvk ▸ hr, hsev, hsource, hcode, by rw [hargs]; rfl⟩, ?_⟩
  · rw [← hcount, ← hcount']
    unfold counter
    rw [hvn]
  · rw [hvc, hsram', hsram]
  · rw [hvc, hply, hsince]
  · rw [hvs, hsys', hsys]

/-- A release as a command brings it about, whatever the other lane is. -/
theorem release_outcome {u : State} (l : Lane) (cause : BitVec 4) : let v := releaseWhorl l cause u
    v.lanes.holder = none ∧ v.lanes.gate = false ∧ v.lanes.remain = 0 ∧
      (lane v l).state = .failed ∧ (lane v l).cause = cause ∧ v.core = {} ∧ v.hank.sessions = [] ∧ v.sys.lock = u.sys.lock :=
  let ⟨h, hlock⟩ := releaseWhorl_released l cause u
  ⟨h.holder, h.gate, h.remain, h.state, h.cause, h.core, h.sessions, hlock⟩

/-- Settles O49: each ground of a release runs the same release, and each part of the switch-over changes its own note alone. -/
theorem whorlChangesHands : Obligations.WhorlChangesHands := by
  unfold Obligations.WhorlChangesHands
  refine ⟨fun t l s hh e he hcond => ?_, fun t w s hw => ⟨fun hf => ?_, fun hg hl => ⟨_, leaseGuardEnd_runs hw hg hl, rfl⟩, fun ha => ?_,
    fun ha hr => ⟨fun b hb hi => ?_, fun b im hb hi => ?_, fun hn hi => ?_⟩, fun f hf ha hg ht hl hp hd hu => ?_⟩⟩
  case refine_1 =>
    have hexec : exec e.1 s = .next (releaseWhorl l e.2.1 (advanceTo t s)) := by
      simp only [List.mem_cons, List.not_mem_nil, or_false] at he
      obtain rfl | rfl | rfl := he
      · exact comparatorMismatch_runs hh
      · exact eccUncorrectable_runs hh
      · exact leaseExpiry_runs hh hcond
    obtain ⟨hholder, hgate, hremain, hstate, hcause, hcore, hsess, hlock⟩ := release_outcome (u := advanceTo t s) l e.2.1
    refine ⟨_, hexec, hholder, hgate, hremain, hstate, hcause, hcore, hsess, hlock, fun hcold => ?_, fun hfail => ?_⟩
    · obtain ⟨-, hwake, hswitch, hsys⟩ := releaseWhorl_cold e.2.1 hcold
      exact ⟨hwake, hswitch, hsys⟩
    · obtain ⟨-, hother, hswitch, -, hdown, hhold, hdusk⟩ := releaseWhorl_failed e.2.1 hfail
      exact ⟨hother, hswitch, hdown, hhold, hdusk⟩
  case refine_2 =>
    have hrun := failedSupplyOff_runs hw hf
    obtain ⟨hholds, hwaits, hwake, hkeep⟩ := returnLane_spec w.failed (advanceTo t s)
    generalize advanceTo t s = u at *
    generalize returnLane w.failed u = y at *
    have hlanes : y.lanes = u.lanes := by rw [hkeep]
    refine ⟨_, hrun, ?_, hholds, hwaits, hwake, ?_⟩
    · rw [← hlanes]
    · rw [hkeep]
  case refine_3 =>
    obtain ⟨hclocks, hmgmt, hstate, hother, hkeep⟩ := standbyAwake_spec w.failed (some { w with awake := true }) (advanceTo t s)
    exact ⟨_, standbyWakeDone_runs hw ha, hclocks, hmgmt, hstate, hother, rfl, hkeep⟩
  case refine_4 => exact ⟨_, checkpointRestored_runs hw ha hr (imageToRestore_some hb), restoredInto_spec hi⟩
  case refine_5 => exact ⟨_, checkpointRestored_runs hw ha hr (imageToRestore_some hb), restoredInto_sram hi⟩
  case refine_6 =>
    obtain ⟨hswitch, hsram, -, hacts, -, hkeep⟩ := restoredInto_spec (w := w) (im := {}) (f := 0) (none_ := true) (s := advanceTo t s)
      (by rw [hi]; exact fun _ h => absurd h List.not_mem_nil)
    exact ⟨_, checkpointRestored_runs hw ha hr (imageToRestore_none hn), hswitch, hsram, hacts, hkeep⟩
  case refine_7 => exact ⟨_, whorlGrant_runs hw hf (decide_eq_true ht) hl hg ha, whorlGranted_spec f hp hd hu⟩

end Sys2Proof.Machine
end

section
/-! PROOFS. Clock failures and the return to the main PLL (R21, R317 to R321). -/
namespace Sys2Proof.Machine
open Sys2Proof.Safety

/-! ### A domain changes its source -/

theorem clkSrc_congr {s t : State} (h : t.clock = s.clock) (d : Nat) : clkSrc t d = clkSrc s d := by
  unfold clkSrc
  rw [h]

/-- Of the clock, a change of source changes the source of its domain alone. -/
theorem toSource_clock (d : Nat) (src : ClkSrc) (s : State) : let v := toSource d src s
    v.clock = { s.clock with src := v.clock.src } ∧ clkSrc v d = src ∧ ∀ e, e ≠ d → clkSrc v e = clkSrc s e := by
  unfold toSource
  split
  case isTrue h => exact ⟨rfl, h, fun _ _ => rfl⟩
  case isFalse =>
    have hclock : ∀ v : State, v.clock = { s.clock with src := SMap.put s.clock.src .main d src } →
        v.clock = { s.clock with src := v.clock.src } ∧ clkSrc v d = src ∧ ∀ e, e ≠ d → clkSrc v e = clkSrc s e := fun v h => by
      unfold clkSrc
      rw [h]
      exact ⟨rfl, SMap.get_put_same .., fun e he => SMap.get_put_ne _ _ _ he⟩
    apply hclock
    dsimp only
    (repeat' split) <;> simp

/-- The domains whose change of source touches nothing but the clock and its count. -/
def quietDomain (d : Nat) : Prop := d = 0 ∨ d = 1 ∨ d = 2 ∨ d = 8

theorem domainEffect_quiet {d : Nat} (h : quietDomain d) (src : ClkSrc) (s : State) : domainEffect d src s = s := by
  rcases h with rfl | rfl | rfl | rfl <;> rfl

/-- What a change between sources does, where nothing hangs on the domain's source. -/
theorem toSource_quiet {d : Nat} (src : ClkSrc) (s : State) (h : quietDomain d ∨ src = .main) : let v := toSource d src s
    v.sun = s.sun ∧ v.core = s.core ∧ v.lanes = s.lanes ∧ counter v 0x00020008 0 = counter s 0x00020008 0 ∧
      (∀ r ∈ s.skein.raised, r ∈ v.skein.raised) ∧
      (clkSrc s d ≠ src → src ≠ .stopped → counter v 0x0002000C 0 = (counter s 0x0002000C 0).inc.1) := by
  have heff : ∀ v : State, (if src = .main then v else domainEffect d src v) = v := fun v => by
    rcases h with h | h
    · rw [domainEffect_quiet h, ite_self]
    · exact if_pos h
  unfold toSource
  simp only [heff]
  split
  case isTrue hs => exact ⟨rfl, rfl, rfl, rfl, fun r hr => hr, fun hne => absurd hs hne⟩
  case isFalse =>
    split
    case isTrue hstop => exact ⟨rfl, rfl, rfl, rfl, fun r hr => hr, fun _ hne => absurd hstop hne⟩
    case isFalse =>
      refine ⟨by simp, by simp, by simp, ?_, fun r hr => bump_mem _ _ _ _ hr, fun _ _ => ?_⟩
      · rw [counter_bump_ne _ _ _ _ _ (by decide)]
        rfl
      · rw [counter_bump]
        rfl

/-! ### What every failure leaves -/

/-- A failure is counted and written CRITICAL. -/
def failNoted (k d : Nat) (s : State) : State := bump 0x00020008 0 (raise .critical 0x02 0x0000 [BitVec.ofNat 32 k, BitVec.ofNat 32 d] s)

theorem failNoted_spec (k d : Nat) (s : State) : let v := failNoted k d s
    counter v 0x00020008 0 = (counter s 0x00020008 0).inc.1 ∧
      (∃ r ∈ v.skein.raised, r.sev = .critical ∧ r.source = 2 ∧ r.args = [BitVec.ofNat 32 k, BitVec.ofNat 32 d]) ∧
      v.clock = s.clock ∧ v = { s with counters := v.counters, skein := v.skein, upd := v.upd } := by
  obtain ⟨r, hr, hsev, hsource, -, hargs⟩ := raise_raises_full .critical 0x02 0x0000 [BitVec.ofNat 32 k, BitVec.ofNat 32 d] s
  refine ⟨?_, ⟨r, bump_mem _ _ _ _ hr, hsev, hsource, hargs⟩, by simp [failNoted], ?_⟩
  · unfold failNoted
    rw [counter_bump]
    rfl
  · apply State.eq_of_parts <;> simp [failNoted]

section
variable {t : Time} {s : State}

theorem failLko_runs (h : (advanceTo t s).sun.run = true) : exec (.clockMonitorFail t .lko) s = .next (let u := advanceTo t s
    failNoted 4 0 { u with clock := { u.clock with lkoFail := true } }) :=
  congrArg Host.Outcome.next (if_neg (by rw [h]; decide))

theorem failRtc_runs (h : (advanceTo t s).sun.run = true) : exec (.clockMonitorFail t .rtc) s = .next (let u := advanceTo t s
    failNoted 5 0 { u with clock := { u.clock with rtcFail := true }, sun := { u.sun with rtcValid := false } }) :=
  congrArg Host.Outcome.next (if_neg (by rw [h]; decide))

/-- A domain's main PLL is marked. -/
def mainMarked (d : Fin 10) (s : State) : State :=
  failNoted 1 d.val { s with clock := { s.clock with
    mainFail := setBit s.clock.mainFail d.val true, failAt := SMap.insert s.clock.failAt d.val s.sun.time } }

theorem failMain_runs {d : Fin 10} (h : (advanceTo t s).sun.run = true) (hd : clkSrc (advanceTo t s) d.val = .main) :
    exec (.clockMonitorFail t (.mainPll d)) s = .next (let u := mainMarked d (advanceTo t s); toSource d.val (fallSource d.val u) u) := by
  rw [exec_clockMonitorFail, execClockMonitorFail]
  generalize advanceTo t s = u at *
  have hd' : clkSrc (mainMarked d u) d.val = .main := (clkSrc_congr (failNoted_spec _ _ _).2.2.1 _).trans hd
  refine (congrArg Host.Outcome.next (if_neg (by rw [h]; decide))).trans ?_
  change Host.Outcome.next (if clkSrc (mainMarked d u) d.val = .main then _ else _) = _
  rw [if_pos hd']
  rfl

/-- A domain's fallback PLL is marked. -/
def fallbackMarked (d : Fin 10) (s : State) : State :=
  failNoted 2 d.val { s with clock := { s.clock with fbFail := setBit s.clock.fbFail d.val true } }

theorem failFallback_runs {d : Fin 10} (h : (advanceTo t s).sun.run = true) (hd : clkSrc (advanceTo t s) d.val = .fallback) :
    exec (.clockMonitorFail t (.fallbackPll d)) s =
      .next (let u := fallbackMarked d (advanceTo t s); toSource d.val (fallSource d.val u) u) := by
  rw [exec_clockMonitorFail, execClockMonitorFail]
  generalize advanceTo t s = u at *
  have hd' : clkSrc (fallbackMarked d u) d.val = .fallback := (clkSrc_congr (failNoted_spec _ _ _).2.2.1 _).trans hd
  refine (congrArg Host.Outcome.next (if_neg (by rw [h]; decide))).trans ?_
  change Host.Outcome.next (if clkSrc (fallbackMarked d u) d.val = .fallback then _ else _) = _
  rw [if_pos hd']
  rfl

end

theorem fallSource_quiet {d : Nat} (h : quietDomain d) (s : State) : fallSource d s =
    if s.clock.rcoFail then .stopped else if bit s.clock.fbFail d then .direct else .fallback := by
  have hd : directAllowed d = true := by rcases h with rfl | rfl | rfl | rfl <;> rfl
  unfold fallSource
  rw [hd]
  cases bit s.clock.fbFail d <;> rfl

theorem fallSource_ne_main (d : Nat) (s : State) : fallSource d s ≠ .main := by
  unfold fallSource
  (repeat' split) <;> decide

/-- What stands behind a failure that is marked, noted and answered by a change of source. -/
theorem fallen_spec {d k : Nat} {c : Clock} {s y : State} (h : quietDomain d)
    (hcount : counter y 0x00020008 0 = (counter s 0x00020008 0).inc.1)
    (hrec : ∃ r ∈ y.skein.raised, r.sev = .critical ∧ r.source = 2 ∧ r.args = [BitVec.ofNat 32 k, BitVec.ofNat 32 d])
    (hclock : y.clock = { c with src := s.clock.src }) (hkeep : y.sun = s.sun ∧ y.core = s.core ∧ y.lanes = s.lanes) :
    let v := toSource d (fallSource d y) y
    (counter v 0x00020008 0 = (counter s 0x00020008 0).inc.1 ∧
      ∃ r ∈ v.skein.raised, r.sev = .critical ∧ r.source = 2 ∧ r.args = [BitVec.ofNat 32 k, BitVec.ofNat 32 d]) ∧
      v.clock = { c with src := v.clock.src } ∧ (∀ e, e ≠ d → clkSrc v e = clkSrc s e) ∧
      clkSrc v d = (if c.rcoFail then .stopped else if bit c.fbFail d then .direct else .fallback) ∧
      v.sun = s.sun ∧ v.core = s.core ∧ v.lanes = s.lanes := by
  obtain ⟨hsun, hcore, hlanes, hcount', hraised, -⟩ := toSource_quiet (fallSource d y) y (.inl h)
  obtain ⟨hclock', hsame, hother⟩ := toSource_clock d (fallSource d y) y
  have hfall := fallSource_quiet h y
  obtain ⟨r, hr, hrec⟩ := hrec
  obtain ⟨hsun', hcore', hlanes'⟩ := hkeep
  rw [hclock] at hfall
  refine ⟨⟨hcount'.trans hcount, r, hraised r hr, hrec⟩, ?_, fun e he => ?_, hsame.trans hfall, hsun.trans hsun', hcore.trans hcore',
    hlanes.trans hlanes'⟩
  · rw [hclock', hclock]
  · rw [hother e he]
    unfold clkSrc
    rw [hclock]

theorem failMain_spec {d : Fin 10} (h : quietDomain d.val) (s : State) :
    let v := toSource d.val (fallSource d.val (mainMarked d s)) (mainMarked d s)
    (counter v 0x00020008 0 = (counter s 0x00020008 0).inc.1 ∧
      ∃ r ∈ v.skein.raised, r.sev = .critical ∧ r.source = 2 ∧ r.args = [BitVec.ofNat 32 1, BitVec.ofNat 32 d.val]) ∧
      bit v.clock.mainFail d.val = true ∧ (∀ e, e ≠ d.val → clkSrc v e = clkSrc s e) ∧
      clkSrc v d.val = (if s.clock.rcoFail then .stopped else if bit s.clock.fbFail d.val then .direct else .fallback) ∧
      v.sun = s.sun ∧ v.core = s.core ∧ v.lanes = s.lanes := by
  obtain ⟨hcount, hrec, hclock, -⟩ := failNoted_spec 1 d.val _
  have hkeep : (mainMarked d s).sun = s.sun ∧ (mainMarked d s).core = s.core ∧ (mainMarked d s).lanes = s.lanes := by simp [mainMarked, failNoted]
  obtain ⟨hnoted, hclock', hother, hsame, hframe⟩ := fallen_spec (c := { s.clock with
    mainFail := setBit s.clock.mainFail d.val true, failAt := SMap.insert s.clock.failAt d.val s.sun.time }) h hcount hrec
    hclock hkeep
  refine ⟨hnoted, ?_, hother, hsame, hframe⟩
  exact (congrArg (fun c : Clock => bit c.mainFail d.val) hclock').trans (bit_setBit _ _ _ d.isLt)

theorem failFallback_spec {d : Fin 10} (h : quietDomain d.val) (s : State) :
    let v := toSource d.val (fallSource d.val (fallbackMarked d s)) (fallbackMarked d s)
    (counter v 0x00020008 0 = (counter s 0x00020008 0).inc.1 ∧
      ∃ r ∈ v.skein.raised, r.sev = .critical ∧ r.source = 2 ∧ r.args = [BitVec.ofNat 32 2, BitVec.ofNat 32 d.val]) ∧
      clkSrc v d.val = (if s.clock.rcoFail then .stopped else .direct) ∧ (∀ e, e ≠ d.val → clkSrc v e = clkSrc s e) ∧
      v.core = s.core ∧ v.lanes = s.lanes := by
  obtain ⟨hcount, hrec, hclock, -⟩ := failNoted_spec 2 d.val _
  have hkeep : (fallbackMarked d s).sun = s.sun ∧ (fallbackMarked d s).core = s.core ∧ (fallbackMarked d s).lanes = s.lanes := by simp [fallbackMarked, failNoted]
  obtain ⟨hnoted, -, hother, hsame, -, hcore, hlanes⟩ := fallen_spec (c := { s.clock with
    fbFail := setBit s.clock.fbFail d.val true }) h hcount hrec hclock hkeep
  refine ⟨hnoted, ?_, hother, hcore, hlanes⟩
  have hbit : bit (setBit s.clock.fbFail d.val true) d.val = true := bit_setBit _ _ _ d.isLt
  exact hsame.trans (by simp [hbit])

/-! ### RCO and REF fail -/

section
variable {t : Time} {s : State}

/-- Domains on RCO stop. -/
def rcoLost (s : State) (d : Nat) : State := if clkSrc s d = .fallback || clkSrc s d = .direct then toSource d .stopped s else s

/-- RCO is marked. -/
def rcoMarked (s : State) : State := failNoted 3 0 { s with clock := { s.clock with rcoFail := true } }

theorem rcoMarked_clock (s : State) : (rcoMarked s).clock = { s.clock with rcoFail := true } := (failNoted_spec 3 0 _).2.2.1

theorem failRco_runs (h : (advanceTo t s).sun.run = true) :
    exec (.clockMonitorFail t .rco) s = .next ((List.range 10).foldl rcoLost (rcoMarked (advanceTo t s))) :=
  congrArg Host.Outcome.next (if_neg (by rw [h]; decide))

/-- Domains on their main PLL fall from it. -/
def refLost (s : State) (d : Nat) : State := if clkSrc s d = .main then toSource d (fallSource d s) s else s

/-- REF is marked and noted, and the Sundial has lost its time. -/
def refMarked (s : State) : State :=
  setInvalid (loseGnss (failNoted 0 0 { s with clock := { s.clock with refFail := true, failAt := SMap.insert s.clock.failAt 10 s.sun.time } }))

theorem failRef_runs (h : (advanceTo t s).sun.run = true) :
    exec (.clockMonitorFail t .ref) s = .next ((List.range 10).foldl refLost (refMarked (advanceTo t s))) :=
  congrArg Host.Outcome.next (if_neg (by rw [h]; decide))

end

theorem rcoLost_fold (l : List Nat) (s : State) : let v := l.foldl rcoLost s
    v.clock.rcoFail = s.clock.rcoFail ∧
      ∀ d, clkSrc v d = if d ∈ l ∧ (clkSrc s d = .fallback ∨ clkSrc s d = .direct) then .stopped else clkSrc s d := by
  induction l generalizing s with
  | nil => simp
  | cons e l ih =>
    have hstep : (rcoLost s e).clock.rcoFail = s.clock.rcoFail ∧
        ∀ d, clkSrc (rcoLost s e) d = if d = e ∧ (clkSrc s d = .fallback ∨ clkSrc s d = .direct) then .stopped else clkSrc s d := by
      obtain ⟨hclock, hsame, hother⟩ := toSource_clock e .stopped s
      unfold rcoLost
      split
      case isTrue h =>
        refine ⟨by rw [hclock], fun d => ?_⟩
        by_cases hd : d = e
        · subst hd
          simp_all
        · simp [hd, hother d hd]
      case isFalse h =>
        refine ⟨rfl, fun d => (if_neg fun hd => h ?_).symm⟩
        obtain ⟨rfl, hd⟩ := hd
        simpa using hd
    obtain ⟨hfail, hsrc⟩ := ih (rcoLost s e)
    refine ⟨hfail.trans hstep.1, fun d => (hsrc d).trans ?_⟩
    rw [hstep.2 d]
    by_cases hd : d = e
    · subst hd
      split <;> simp_all
    · simp [hd]

theorem refMarked_spec (s : State) : let v := refMarked s
    v.clock.refFail = true ∧ v.sun.invalid = true ∧ v.sun.state = if s.sun.state = .locked then .holdover else s.sun.state := by
  obtain ⟨-, -, hclock, hkeep⟩ := failNoted_spec 0 0 { s with clock := { s.clock with
    refFail := true, failAt := SMap.insert s.clock.failAt 10 s.sun.time } }
  have hsun : ∀ y : State, (setInvalid (loseGnss y)).clock = y.clock ∧ (setInvalid (loseGnss y)).sun.invalid = true ∧
      (setInvalid (loseGnss y)).sun.state = if y.sun.state = .locked then .holdover else y.sun.state := fun y => by
    have hlost : (loseGnss y).sun.state = if y.sun.state = .locked then .holdover else y.sun.state := by
      unfold loseGnss enterHoldover
      split <;> rfl
    refine ⟨by simp, ?_, ?_⟩ <;> unfold setInvalid <;> split
    · assumption
    · rfl
    · exact hlost
    · exact hlost
  obtain ⟨hc, hi, hs⟩ := hsun (failNoted 0 0 { s with clock := { s.clock with
    refFail := true, failAt := SMap.insert s.clock.failAt 10 s.sun.time } })
  refine ⟨?_, hi, hs.trans ?_⟩
  · exact (congrArg Clock.refFail hc).trans (congrArg Clock.refFail hclock)
  · rw [hkeep]

/-- A Sundial that is INVALID and has no lock keeps its state and its flag through a change of sources. -/
theorem domainEffect_sun {s : State} (d : Nat) (src : ClkSrc) (hi : s.sun.invalid = true) (hl : s.sun.state ≠ .locked) :
    (domainEffect d src s).sun.invalid = true ∧ (domainEffect d src s).sun.state = s.sun.state := by
  have hlose : ∀ y : State, y.sun = s.sun → (loseGnss y).sun = s.sun := fun y h => by
    rw [loseGnss, if_neg (by rwa [h]), h]
  have hinv : ∀ y : State, y.sun = s.sun → setInvalid y = y := fun y h => if_pos (by rwa [h])
  unfold domainEffect
  split
  case h_3 =>
    have : (gnssStop s).sun = s.sun := by simp [gnssStop, hlose]
    rw [this]
    exact ⟨hi, rfl⟩
  case h_6 =>
    rw [hinv _ (by simp)]
    dsimp only
    split <;> simp [hi]
  case h_1 =>
    rw [foldl_keeps (fun v => v.sun) (fun v p => by split <;> simp) _ s]
    exact ⟨hi, rfl⟩
  all_goals (repeat' split) <;> simp [hi]

theorem toSource_sun {s : State} (d : Nat) (src : ClkSrc) (hi : s.sun.invalid = true) (hl : s.sun.state ≠ .locked) :
    (toSource d src s).sun.invalid = true ∧ (toSource d src s).sun.state = s.sun.state := by
  have hchanged : ∀ y : State, y.sun = s.sun → (if src = .main then y else domainEffect d src y).sun.invalid = true ∧
      (if src = .main then y else domainEffect d src y).sun.state = s.sun.state := fun y h => by
    split
    · rw [h]
      exact ⟨hi, rfl⟩
    · rw [← h] at hi hl ⊢
      exact domainEffect_sun d src hi hl
  unfold toSource
  split
  · exact ⟨hi, rfl⟩
  · apply hchanged
    split <;> simp

theorem refLost_fold (l : List Nat) {s : State} (hi : s.sun.invalid = true) (hl : s.sun.state ≠ .locked) : let v := l.foldl refLost s
    v.clock.refFail = s.clock.refFail ∧ v.sun.invalid = true ∧ v.sun.state = s.sun.state ∧
      (∀ d, clkSrc s d ≠ .main → clkSrc v d ≠ .main) ∧ ∀ d ∈ l, clkSrc v d ≠ .main := by
  induction l generalizing s with
  | nil => exact ⟨rfl, hi, rfl, fun _ h => h, fun _ h => absurd h List.not_mem_nil⟩
  | cons e l ih =>
    have hstep : (refLost s e).clock.refFail = s.clock.refFail ∧ (refLost s e).sun.invalid = true ∧
        (refLost s e).sun.state = s.sun.state ∧ (∀ d, clkSrc s d ≠ .main → clkSrc (refLost s e) d ≠ .main) ∧
        clkSrc (refLost s e) e ≠ .main := by
      obtain ⟨hclock, hsame, hother⟩ := toSource_clock e (fallSource e s) s
      obtain ⟨hinv, hstate⟩ := toSource_sun e (fallSource e s) hi hl
      have hfall : clkSrc (toSource e (fallSource e s) s) e ≠ .main := fun h => fallSource_ne_main e s (hsame.symm.trans h)
      unfold refLost
      split
      case isTrue h =>
        refine ⟨by rw [hclock], hinv, hstate, fun d hd => ?_, hfall⟩
        rw [hother d fun he => hd (he ▸ h)]
        exact hd
      case isFalse h => exact ⟨rfl, hi, rfl, fun _ h => h, h⟩
    obtain ⟨hfail, hinv, hstate, hkeep, hleft⟩ := hstep
    obtain ⟨hfail', hinv', hstate', hkeep', hleft'⟩ := ih hinv (by rwa [hstate])
    refine ⟨hfail'.trans hfail, hinv', hstate'.trans hstate, fun d hd => hkeep' d (hkeep d hd), fun d hd => ?_⟩
    rcases List.mem_cons.1 hd with rfl | hd
    · exact hkeep' d hleft
    · exact hleft' d hd

theorem rcoFailed_spec (l : List Nat) (s : State) (hl : ∀ d, d < 10 → d ∈ l) : let v := l.foldl rcoLost (rcoMarked s)
    v.clock.rcoFail = true ∧
      ∀ d, d < 10 → clkSrc v d = if clkSrc s d = .fallback ∨ clkSrc s d = .direct then .stopped else clkSrc s d := by
  obtain ⟨hfail, hsrc⟩ := rcoLost_fold l (rcoMarked s)
  have hclock := rcoMarked_clock s
  have hsame (d : Nat) : clkSrc (rcoMarked s) d = clkSrc s d := by
    unfold clkSrc
    rw [hclock]
  refine ⟨hfail.trans (by rw [hclock]), fun d hd => (hsrc d).trans ?_⟩
  rw [hsame]
  simp only [hl d hd, true_and]

theorem refFailed_spec (l : List Nat) (s : State) (hl : ∀ d, d < 10 → d ∈ l) : let v := l.foldl refLost (refMarked s)
    v.clock.refFail = true ∧ v.sun.invalid = true ∧ (∀ d, d < 10 → clkSrc v d ≠ .main) ∧
      (s.sun.state = .locked → v.sun.state = .holdover) := by
  obtain ⟨hfail, hinv, hstate⟩ := refMarked_spec s
  have hlocked : (refMarked s).sun.state ≠ .locked := by
    rw [hstate]
    split
    · decide
    · assumption
  obtain ⟨hfail', hinv', hstate', -, hleft⟩ := refLost_fold l hinv hlocked
  refine ⟨hfail'.trans hfail, hinv', fun d hd => hleft d (hl d hd), fun h => ?_⟩
  rw [hstate', hstate, if_pos h]

/-! ### The return to the main PLL -/

/-- A domain is back on its main PLL. -/
def backOnMain (d : Nat) (s : State) : State :=
  toSource d .main { s with clock := { s.clock with refFail := false, mainFail := setBit s.clock.mainFail d false } }

/-- What the domain does then. -/
def resumed (d : Nat) (s : State) : State :=
  match d with
  | 5 =>
    let s := { s with gnss := { s.gnss with clkFail := false } }
    if s.gnss.run then restartBaseband s else s
  | 7 => if timMain s then setDegraded false .notice s else s
  | 9 => if clkSrc s 7 = .main then setDegraded false .notice s else s
  | _ => s

theorem resumed_spec (d : Nat) (s : State) : (resumed d s).clock = s.clock ∧ (resumed d s).counters = s.counters ∧
    (resumed d s).core = s.core := by
  unfold resumed
  split
  case h_1 =>
    dsimp only
    split <;> simp
  all_goals (repeat' split) <;> simp

section
variable {t : Time} {s : State} {d : Fin 10}

theorem clockReturnMain_runs (hs : clkSrc (advanceTo t s) d.val = .fallback) (hf : bit (advanceTo t s).clock.force d.val = false)
    (hst : bit (advanceTo t s).clock.stay d.val = false) (hg : goodFor10s d.val (advanceTo t s) = true) :
    exec (.clockReturnMain t d) s = .next (resumed d.val (backOnMain d.val (advanceTo t s))) := by
  rw [exec_clockReturnMain, execClockReturnMain]
  generalize advanceTo t s = u at *
  exact congrArg Host.Outcome.next (if_neg (by rw [hs, hf, hst, hg]; decide))

theorem clockReturnMain_held (h : bit (advanceTo t s).clock.force d.val = true ∨ bit (advanceTo t s).clock.stay d.val = true) :
    exec (.clockReturnMain t d) s = .next (advanceTo t s) := by
  rw [exec_clockReturnMain, execClockReturnMain]
  generalize advanceTo t s = u at *
  refine congrArg Host.Outcome.next (if_pos ?_)
  rcases h with h | h <;> simp [h]

end

theorem returned_spec {d : Nat} {s : State} (h : clkSrc s d = .fallback) : let v := resumed d (backOnMain d s)
    clkSrc v d = .main ∧ v.clock.refFail = false ∧ (∀ e, e ≠ d → clkSrc v e = clkSrc s e) ∧
      counter v 0x0002000C 0 = (counter s 0x0002000C 0).inc.1 ∧ v.core.sram = s.core.sram := by
  obtain ⟨hclock, hsame, hother⟩ := toSource_clock d .main { s with clock := { s.clock with
    refFail := false, mainFail := setBit s.clock.mainFail d false } }
  obtain ⟨-, hcore, -, -, -, hcount⟩ := toSource_quiet (d := d) .main { s with clock := { s.clock with
    refFail := false, mainFail := setBit s.clock.mainFail d false } } (.inr rfl)
  obtain ⟨hrc, hrn, hrk⟩ := resumed_spec d (backOnMain d s)
  have hne : clkSrc s d ≠ .main := by rw [h]; decide
  refine ⟨(clkSrc_congr hrc d).trans hsame, ?_, fun e he => (clkSrc_congr hrc e).trans (hother e he), ?_, ?_⟩
  · rw [hrc]
    exact congrArg Clock.refFail hclock
  · refine Eq.trans ?_ (hcount hne (by decide))
    unfold counter
    rw [hrn]
    rfl
  · rw [hrk]
    exact congrArg Core.sram hcore

theorem goodFor10s_of {d : Nat} {s : State}
    (h : ∀ k f, (k = 10 ∨ k = d) → SMap.find s.clock.failAt k = some f → f.toNat + 10000000000 ≤ s.sun.time.toNat) :
    goodFor10s d s = true := by
  unfold goodFor10s
  refine List.all_eq_true.2 fun k hk => ?_
  split
  case h_1 f hf =>
    exact decide_eq_true (h k f (by simpa using hk) hf)
  case h_2 => rfl

/-- Settles O50: a failure is marked and noted, then its domains change source one by one, each its own entry alone. -/
theorem clocksFallBack : Obligations.ClocksFallBack := by
  intro t s u noted hrun
  refine ⟨?lko, ?rtc, fun d hd hq => ⟨_, failMain_runs hrun hd, ?main⟩, fun d hd hq => ⟨_, failFallback_runs hrun hd, failFallback_spec hq _⟩, ?rco,
    ?ref, fun d hs hf hst hg => ⟨_, clockReturnMain_runs hs hf hst (goodFor10s_of hg), returned_spec hs⟩,
    fun d h => clockReturnMain_held h⟩
  case lko =>
    obtain ⟨hcount, hrec, hclock, hkeep⟩ := failNoted_spec 4 0 { u with clock := { u.clock with lkoFail := true } }
    refine ⟨_, failLko_runs hrun, ⟨hcount, hrec⟩, hclock, ?_⟩
    rw [hclock]
    exact hkeep
  case rtc =>
    obtain ⟨hcount, hrec, hclock, -⟩ := failNoted_spec 5 0 { u with clock := { u.clock with rtcFail := true }, sun := { u.sun with rtcValid := false } }
    exact ⟨_, failRtc_runs hrun, ⟨hcount, hrec⟩, hclock, by simp [failNoted, u], by simp [failNoted, u], by simp [failNoted, u]⟩
  case main => exact failMain_spec hq _
  case rco =>
    exact ⟨_, failRco_runs hrun, rcoFailed_spec _ (advanceTo t s) fun d hd => List.mem_range.2 hd⟩
  case ref =>
    exact ⟨_, failRef_runs hrun, refFailed_spec _ (advanceTo t s) fun d hd => List.mem_range.2 hd⟩

end Sys2Proof.Machine
end

section
/-! PROOFS. The control registers of loads (R272, R277). -/
namespace Sys2Proof.Machine
open Sys2Proof.Safety

/-- A module in DAWN with an open session, whose load switch 0 waits out a back-off after its command went off: its restart is still due. -/
def restartPending : State :=
  { ({} : State) with
    sys := { powered := true }
    lanes := { la := { state := .active, clocks := true }, holder := some .a, gate := true }
    hank := { sessions := [(0, { isOpen := true, major := 2, minor := 4 })] }
    outs := { lsw := [(0, { backoff := some 100000, restartDue := true })] } }

/-- A request of that session. -/
def clearRequest : Req := { who := 0, seq := 1, at_ := 0 }

theorem clearRequest_taken : Taken clearRequest true true restartPending := by
  unfold Taken
  decide +kernel

/-- LSW_CLEAR forgets the due restart too. -/
theorem restartPending_cleared : ∃ v, exec (.lswClear clearRequest 0) restartPending = .next v ∧ (lsw v 0).restartDue = false :=
  ⟨_, rfl, by decide +kernel⟩

/-- Refutes O51: LSW_CLEAR also drops the restart that was due after the back-off it clears, while the statement has the rest of the channel
stay as it was; a channel whose command went off during its back-off has such a restart. -/
theorem not_controlRegistersAct : ¬ Obligations.ControlRegistersAct := by
  rintro ⟨-, ⟨hloads, -⟩, -⟩
  obtain ⟨hclear, -⟩ := hloads clearRequest 0 restartPending clearRequest_taken
  obtain ⟨v, hv, -, hlsw, -⟩ := hclear 0 (by decide) (by decide +kernel)
  obtain ⟨w, hw, hdropped⟩ := restartPending_cleared
  rw [hv] at hw
  obtain rfl : v = w := by injection hw
  have hdue : (lsw v 0).restartDue = true := (congrArg Lsw.restartDue hlsw).trans (by decide +kernel)
  rw [hdropped] at hdue
  exact Bool.false_ne_true hdue

end Sys2Proof.Machine
end

section
/-! PROOFS. CAN frames: reception, held frames, transmission (R335 to R341, R345). -/
namespace Sys2Proof.Machine
open Sys2Proof.Safety

/-! ### Controllers and their counters -/

theorem can_congr {s t : State} (h : t.core.can = s.core.can) (n : Nat) : can t n = can s n := by
  unfold can
  rw [h]

@[simp] theorem can_bump (a i n : Nat) (s : State) : can (bump a i s) n = can s n := can_congr (by simp) n

@[simp] theorem can_canBump (k o n : Nat) (s : State) : can (canBump k o s) n = can s n := can_bump _ _ _ _

@[simp] theorem can_setBob (b n : Nat) (x : Bob) (s : State) : can (setBob b x s) n = can s n := rfl

@[simp] theorem bob_setCan (b n : Nat) (x : CanSt) (s : State) : bob (setCan n x s) b = bob s b := rfl

@[simp] theorem bob_canBump (b n o : Nat) (s : State) : bob (canBump n o s) b = bob s b := bob_bump _ _ _ _

/-- An event counts at its controller's register. -/
theorem counter_canBump {a n o : Nat} (s : State) (h : a = 0x00100000 + 0x1000 * n + o) : counter (canBump n o s) a 0 = (counter s a 0).inc.1 := by
  subst h
  exact counter_bump _ _ _

theorem counter_canBump_ne {a n o : Nat} (s : State) (h : a ≠ 0x00100000 + 0x1000 * n + o) : counter (canBump n o s) a 0 = counter s a 0 := by
  refine counter_bump_ne _ _ _ _ _ ?_
  unfold ckey
  omega

/-- A controller's register is no Bobbin's. -/
theorem counter_bump_bobbin {a k i : Nat} (s : State) (ha : a < 0x00110000) (hk : k = 0x001D0018 ∨ k = 0x001D001C) :
    counter (bump k i s) a 0 = counter s a 0 := by
  refine counter_bump_ne _ _ _ _ _ ?_
  unfold ckey
  omega

theorem counter_congr {s t : State} (h : t.counters = s.counters) (a i : Nat) : counter t a i = counter s a i := by
  unfold counter
  rw [h]

/-! ### Receive (R335 to R339) -/

@[simp] theorem calm_keeps (x : CanSt) : x.calm.tec = x.tec ∧ x.calm.rec_ = x.rec_ ∧ x.calm.bufs = x.bufs ∧ x.calm.held = x.held := by
  unfold CanSt.calm
  split <;> exact ⟨rfl, rfl, rfl, rfl⟩

/-- What a frame received without error leaves of its controller, and what it moves. -/
theorem recDown_spec (n : Nat) (s : State) : let v := recDown n s
    ((can s n).rec_ ≠ 0 → (can s n).rec_.toNat ≤ 127 → (can v n).rec_ = (can s n).rec_ - 1) ∧
      (128 ≤ (can s n).rec_.toNat → 119 ≤ (can v n).rec_.toNat ∧ (can v n).rec_.toNat ≤ 127) ∧
      (can v n).tec = (can s n).tec ∧ (can v n).bufs = (can s n).bufs ∧ (can v n).held = (can s n).held ∧
      (∀ m, m ≠ n → can v m = can s m) ∧ v = { s with core := { s.core with can := v.core.can }, free := v.free } := by
  unfold recDown
  dsimp only
  split
  case isTrue h0 =>
    refine ⟨fun h => absurd h0 h, fun h => ?_, rfl, rfl, rfl, fun _ _ => rfl, rfl⟩
    rw [h0] at h
    exact absurd h (by decide)
  case isFalse =>
    split
    case isTrue hle =>
      simp only [can_setCan, calm_keeps]
      exact ⟨fun _ _ => trivial, fun h => absurd h (by omega), trivial, trivial, trivial, fun m hm => can_setCan_ne _ _ _ _ hm, rfl⟩
    case isFalse hgt =>
      simp only [nextFree, can_setCan, calm_keeps, BitVec.toNat_ofNat]
      exact ⟨fun _ h => absurd h hgt, fun _ => by omega, trivial, trivial, trivial, fun m hm => can_setCan_ne _ _ _ _ hm, rfl⟩

/-- The first of a numbered list that meets a test, found by what stands before it. -/
theorem find?_zipIdx_first {α : Type} {p : α → Bool} {l : List α} {k : Nat} {x : α} (hk : l[k]? = some x) (hx : p x = true)
    (hfirst : ∀ j < k, ∀ w, l[j]? = some w → p w = false) (i : Nat) :
    (l.zipIdx i).find? (fun e => p e.1) = some (x, i + k) := by
  induction l generalizing k i with
  | nil => exact absurd hk (by simp)
  | cons a l ih =>
    cases k with
    | zero =>
      obtain rfl : a = x := by simpa using hk
      simp [hx]
    | succ k =>
      have ha : p a = false := hfirst 0 (by omega) a rfl
      have := ih (k := k) (by simpa using hk) (fun j hj w hw => hfirst (j + 1) (by omega) w (by simpa using hw)) (i + 1)
      rw [List.zipIdx_cons, List.find?_cons_of_neg (by simpa using ha), this, Nat.add_right_comm, Nat.add_assoc]

/-- The frame is counted before any filter. -/
def frameCounted (n : Nat) (s : State) : State := canBump n 0x18 (recDown n s)

/-- What the filters make of a frame. -/
def filtered (n : Nat) (sof : Time) (f : CanFrame) (l : List CanFilter) (s : State) : State :=
  match l.zipIdx.find? fun e => decide (f.id &&& e.1.mask = e.1.mat) with
  | some (x, k) => runFilter n k sof x f s
  | none => canBump n 0x2C s

theorem frameCounted_frame (n : Nat) (s : State) : let v := frameCounted n s
    v = { s with core := { s.core with can := v.core.can }, counters := v.counters, skein := v.skein, free := v.free } := by
  obtain ⟨-, -, -, -, -, -, hkeep⟩ := recDown_spec n s
  unfold frameCounted
  generalize recDown n s = y at *
  rw [hkeep]
  apply State.eq_of_parts <;> simp [canBump]

section
variable {t : Time} {n : Fin 16} {sof : Time} {f : CanFrame} {d : CanDecl} {s : State} (hd : canDecl (advanceTo t s) n.val = some d)
include hd

theorem canFrameReceived_stands (h : (advanceTo t s).lanes.holder = none ∨ (advanceTo t s).lanes.gate = false ∨
    onBus (can (advanceTo t s) n.val) = false ∨ (f.fdf = true ∧ d.fd = false)) :
    exec (.canFrameReceived t n sof f) s = .next (advanceTo t s) := by
  rw [exec_canFrameReceived, execCanFrameReceived]
  generalize advanceTo t s = u at *
  have hcond : (!laneActive u || !u.lanes.gate || !onBus (can u n.val) || (f.fdf && !d.fd)) = true := by
    rcases h with h | h | h | ⟨h, h'⟩
    · simp [laneActive, h]
    · simp [h]
    · simp [h]
    · simp [h, h']
  simp only [hd, hcond, if_true]

theorem canFrameReceived_runs (hlane : laneActive (advanceTo t s) = true) (hgate : (advanceTo t s).lanes.gate = true)
    (hbus : onBus (can (advanceTo t s) n.val) = true) (hfd : f.fdf = true → d.fd = true) (hdiv : diverted n.val f (advanceTo t s) = false) :
    exec (.canFrameReceived t n sof f) s = .next (filtered n.val sof f d.filters (frameCounted n.val (advanceTo t s))) := by
  rw [exec_canFrameReceived, execCanFrameReceived]
  generalize advanceTo t s = u at *
  have hcond : (!laneActive u || !u.lanes.gate || !onBus (can u n.val) || (f.fdf && !d.fd)) = false := by
    have hfd' : (f.fdf && !d.fd) = false := by
      cases hf : f.fdf
      · rfl
      · rw [hfd hf]
        rfl
    rw [hlane, hgate, hbus, hfd']
    rfl
  have hdiv' : diverted n.val f (frameCounted n.val u) = false := by
    rw [← hdiv, frameCounted_frame]
    rfl
  simp only [hd, hcond, Bool.false_eq_true, if_false]
  exact congrArg Host.Outcome.next (if_neg (by rw [show diverted n.val f (canBump n.val 0x18 (recDown n.val u)) = false from hdiv']; decide))

end

theorem filtered_none {n : Nat} {sof : Time} {f : CanFrame} {l : List CanFilter} {s : State} (h : ∀ x ∈ l, f.id &&& x.mask ≠ x.mat) :
    filtered n sof f l s = canBump n 0x2C s := by
  have hnone : (l.zipIdx.find? fun e => decide (f.id &&& e.1.mask = e.1.mat)) = none :=
    List.find?_eq_none.2 fun e he => by simpa using h e.1 (List.fst_mem_of_mem_zipIdx he)
  unfold filtered
  rw [hnone]

theorem filtered_first {n k : Nat} {sof : Time} {f : CanFrame} {l : List CanFilter} {x : CanFilter} {s : State} (hk : l[k]? = some x)
    (hx : f.id &&& x.mask = x.mat) (hfirst : ∀ j < k, ∀ w, l[j]? = some w → f.id &&& w.mask ≠ w.mat) :
    filtered n sof f l s = runFilter n k sof x f s := by
  have hfound := find?_zipIdx_first (p := fun e : CanFilter => decide (f.id &&& e.mask = e.mat)) hk (decide_eq_true hx)
    (fun j hj w hw => decide_eq_false (hfirst j hj w hw)) 0
  rw [Nat.zero_add] at hfound
  unfold filtered
  rw [hfound]

/-- A filter that queues and nothing else. -/
theorem runFilter_queues {n k : Nat} {sof : Time} {x : CanFilter} {f : CanFrame} {q : Fin 2} {s : State} (hq : x.queue = some q)
    (he : x.extract = []) (hp : x.ply = none) : runFilter n k sof x f s =
      canPush n (2 * n + q.val) { stamp := sof, seq := 0, aux := BitVec.ofNat 16 k, bytes := frameBytes f } s := by
  have hfields : filterFields x = [] := by
    unfold filterFields
    rw [he, hp]
    rfl
  unfold runFilter
  simp only [hfields, hq, he, hp, List.any_nil, Bool.false_eq_true, if_false]
  rfl

theorem frameCounted_spec (n : Nat) (s : State) : let v := frameCounted n s
    counter v (0x00100018 + 0x1000 * n) 0 = (counter s (0x00100018 + 0x1000 * n) 0).inc.1 ∧
      (∀ a, a ≠ 0x00100018 + 0x1000 * n → counter v a 0 = counter s a 0) ∧ (∀ m, can v m = can (recDown n s) m) := by
  have hcount : ∀ a, counter (recDown n s) a 0 = counter s a 0 := fun a => by
    obtain ⟨-, -, -, -, -, -, hkeep⟩ := recDown_spec n s
    rw [hkeep]
    rfl
  refine ⟨?_, fun a ha => ?_, fun m => can_canBump _ _ _ _⟩
  · unfold frameCounted
    rw [counter_canBump _ (by omega), hcount]
  · unfold frameCounted
    rw [counter_canBump_ne _ (by omega), hcount]

theorem unmatched_spec (n : Nat) (s : State) : let v := canBump n 0x2C (frameCounted n s)
    counter v (0x00100018 + 0x1000 * n) 0 = (counter s (0x00100018 + 0x1000 * n) 0).inc.1 ∧
      counter v (0x0010002C + 0x1000 * n) 0 = (counter s (0x0010002C + 0x1000 * n) 0).inc.1 ∧
      (∀ m, can v m = can (recDown n s) m) ∧
      v = { s with core := { s.core with can := v.core.can }, counters := v.counters, skein := v.skein, free := v.free } := by
  obtain ⟨hcount, hothers, hcan⟩ := frameCounted_spec n s
  have hframe := frameCounted_frame n s
  generalize frameCounted n s = y at *
  refine ⟨?_, ?_, fun m => (can_canBump _ _ _ _).trans (hcan m), ?_⟩
  · rw [counter_canBump_ne _ (by omega), hcount]
  · rw [counter_canBump _ (by omega), hothers _ (by omega)]
  · rw [hframe]
    apply State.eq_of_parts <;> simp [canBump]

/-- What a queue's entry leaves, wherever it goes: every other counter of a controller but that of what is lost, and what is no Bobbin. -/
theorem canPush_frame (n b : Nat) (e : BobEntry) (s : State) : let v := canPush n b e s
    (∀ a, a < 0x00110000 → a ≠ 0x00100020 + 0x1000 * n → counter v a 0 = counter s a 0) ∧
      v.core.signals = s.core.signals ∧ v.lanes = s.lanes ∧ v.outs = s.outs := by
  have hoffer : ∀ a, a < 0x00110000 → counter (offer b e.stamp e.aux e.bytes s).2 a 0 = counter s a 0 := fun a ha => by
    unfold offer
    split
    · rfl
    · dsimp only
      split
      · rfl
      · split
        · exact counter_bump_bobbin _ ha (.inl rfl)
        · exact counter_bump_bobbin _ ha (.inr rfl)
  have hsig : (offer b e.stamp e.aux e.bytes s).2.core.signals = s.core.signals := by
    unfold offer
    split
    · rfl
    · dsimp only
      split
      · rfl
      · split <;> simp
  unfold canPush
  split
  case h_1 => exact ⟨fun _ _ _ => rfl, rfl, rfl, rfl⟩
  case h_2 =>
    split
    · dsimp only
      split
      · exact ⟨fun a ha _ => hoffer a ha, hsig, by simp, by simp⟩
      · exact ⟨fun a ha hne => (counter_canBump_ne _ (by omega)).trans (hoffer a ha), by simpa [canBump] using hsig, by simp [canBump], by simp [canBump]⟩
    · dsimp only
      (repeat' split)
      · exact ⟨fun _ _ _ => rfl, rfl, rfl, rfl⟩
      · exact ⟨fun a ha hne => counter_canBump_ne _ (by omega), by simp [canBump], by simp [canBump], by simp [canBump]⟩
      · exact ⟨fun a ha _ => counter_bump_bobbin _ ha (.inr rfl), by simp, by simp, by simp⟩

section
variable {n b : Nat} {e : BobEntry} {d : BobDecl} {s : State} (hd : bobDecl s b = some d) (hdrop : d.dropNew = false)
include hd hdrop

/-- An entry with nothing of its Bobbin held before it is placed where it fits. -/
theorem canPush_placed {y : Bob} (hheld : ∀ h ∈ (can s n).held, h.bobbin ≠ b)
    (hy : (bob s b).place d.size { e with seq := (bob s b).seq } = some y) :
    canPush n b e s = setBob b { y with seq := y.seq + 1 } s := by
  have hbehind : ((can s n).held.any fun h => decide (h.bobbin = b)) = false := List.any_eq_false.2 fun h hh => by simpa using hheld h hh
  unfold canPush
  simp only [hd, hdrop, hbehind, hy, Bool.false_eq_true, if_false]

/-- An entry behind held ones, with eight of them, is lost. -/
theorem canPush_lost (hfull : 8 ≤ (can s n).held.length) (hheld : ∃ h ∈ (can s n).held, h.bobbin = b) :
    canPush n b e s = canBump n 0x20 s := by
  obtain ⟨h, hh, hb⟩ := hheld
  have hbehind : ((can s n).held.any fun h => decide (h.bobbin = b)) = true := List.any_eq_true.2 ⟨h, hh, decide_eq_true hb⟩
  unfold canPush
  simp only [hd, hdrop, hbehind, hfull, Bool.false_eq_true, if_false, if_true]

end

/-- What queueing a frame that is counted leaves. -/
theorem queued_spec {n b : Nat} {e : BobEntry} {d : BobDecl} {s : State} (hn : n < 16) (hd : bobDecl s b = some d) :
    let v := canPush n b e (frameCounted n s)
    counter v (0x00100018 + 0x1000 * n) 0 = (counter s (0x00100018 + 0x1000 * n) 0).inc.1 ∧
      (∀ y, (∀ h ∈ (can s n).held, h.bobbin ≠ b) → d.dropNew = false →
        (bob s b).place d.size { e with seq := (bob s b).seq } = some y →
        bob v b = { y with seq := y.seq + 1 } ∧ can v n = can (recDown n s) n) ∧
      (d.dropNew = false → 8 ≤ (can s n).held.length → (∃ h ∈ (can s n).held, h.bobbin = b) →
        counter v (0x00100020 + 0x1000 * n) 0 = (counter s (0x00100020 + 0x1000 * n) 0).inc.1 ∧
        can v n = can (recDown n s) n ∧ bob v b = bob s b) ∧
      v.core.signals = s.core.signals ∧ v.lanes = s.lanes ∧ v.outs = s.outs := by
  obtain ⟨hcount, hothers, hcan⟩ := frameCounted_spec n s
  obtain ⟨-, -, -, -, hheld, -, -⟩ := recDown_spec n s
  have hframe := frameCounted_frame n s
  have hd' : bobDecl (frameCounted n s) b = some d := by rw [hframe]; exact hd
  have hbob : bob (frameCounted n s) b = bob s b := by rw [hframe]; rfl
  have hheld' : (can (frameCounted n s) n).held = (can s n).held := by rw [hcan, hheld]
  have hrest : (frameCounted n s).core.signals = s.core.signals ∧ (frameCounted n s).lanes = s.lanes ∧ (frameCounted n s).outs = s.outs := by
    rw [hframe]
    exact ⟨rfl, rfl, rfl⟩
  generalize frameCounted n s = x at *
  obtain ⟨hkeep, hsig, hlanes, houts⟩ := canPush_frame n b e x
  refine ⟨(hkeep _ (by omega) (by omega)).trans hcount, fun y hfree hdrop hy => ?_, fun hdrop hfull hex => ?_, hsig.trans hrest.1,
    hlanes.trans hrest.2.1, houts.trans hrest.2.2⟩
  · rw [canPush_placed hd' hdrop (hheld' ▸ hfree) (hbob.symm ▸ hy), can_setBob]
    exact ⟨bob_setBob _ _ _, hcan n⟩
  · rw [canPush_lost hd' hdrop (hheld' ▸ hfull) (hheld' ▸ hex), counter_canBump _ (by omega), hothers _ (by omega), can_canBump, bob_canBump]
    exact ⟨rfl, hcan n, hbob⟩

/-! ### Held frames (R106, R339) -/

theorem heldFits_first {s : State} {h : CanHeld} {r : List CanHeld} {d : BobDecl} {y : Bob} (hd : bobDecl s h.bobbin = some d)
    (hy : (bob s h.bobbin).place d.size h.entry = some y) : heldFits s [] (h :: r) = some (h, y, r) := by
  unfold heldFits
  simp [hd, hy]

/-- What a held frame placed makes of the state. -/
def heldDelivered (n : Nat) (s : State) : State :=
  match heldFits s [] (can s n).held with
  | some (h, y, rest) => setBob h.bobbin y (setCan n { can s n with held := rest } s)
  | none => s

theorem canRxHeldDeliver_stands {t : Time} {n : Fin 16} {s : State} (h : (advanceTo t s).lanes.gate = false) :
    exec (.canRxHeldDeliver t n) s = .next (advanceTo t s) := by
  rw [exec_canRxHeldDeliver, execCanRxHeldDeliver]
  simp only [h, Bool.not_false, Bool.or_true, if_true]

theorem canRxHeldDeliver_runs {t : Time} {n : Fin 16} {s : State} (hlane : laneActive (advanceTo t s) = true)
    (hgate : (advanceTo t s).lanes.gate = true) : exec (.canRxHeldDeliver t n) s = .next (heldDelivered n.val (advanceTo t s)) := by
  rw [exec_canRxHeldDeliver, execCanRxHeldDeliver]
  simp only [hlane, hgate, Bool.not_true, Bool.or_self, Bool.false_eq_true, if_false]
  rfl

theorem heldDelivered_spec (n : Nat) (s : State) : let v := heldDelivered n s
    (∀ h r d y, (can s n).held = h :: r → bobDecl s h.bobbin = some d → (bob s h.bobbin).place d.size h.entry = some y →
      bob v h.bobbin = y ∧ can v n = { can s n with held := r }) ∧
      ((can s n).held = [] → v = s) ∧ v = { s with core := v.core } := by
  refine ⟨fun h r d y hheld hd hy => ?_, fun hheld => ?_, ?_⟩
  · unfold heldDelivered
    rw [hheld, heldFits_first hd hy]
    exact ⟨bob_setBob _ _ _, can_setCan _ _ _⟩
  · unfold heldDelivered
    rw [hheld]
    rfl
  · unfold heldDelivered
    split <;> rfl

/-! ### Transmit (R340, R341) -/

/-- The head of a Bobbin taken, by what `take` says of it. -/
theorem popBob_take {b : Nat} {e : BobEntry} {y : Bob} {s : State} (h : (bob s b).take = some (e, y)) :
    ∃ v, popBob b s = (some e, v) ∧ bob v b = y ∧ v = { s with core := { s.core with bobs := v.core.bobs, tasks := v.core.tasks } } := by
  unfold popBob
  rw [h]
  dsimp only
  split
  · exact ⟨_, rfl, bob_setBob b y s, rfl⟩
  · exact ⟨_, rfl, bob_setBob b y s, rfl⟩

theorem feed_found {l : List (Nat × Nat)} {k b : Nat} (h : (k, b) ∈ l) (huniq : ∀ e ∈ l, e.1 = k → e.2 = b) :
    l.find? (fun e => decide (e.1 = k)) = some (k, b) := by
  cases hf : l.find? fun e => decide (e.1 = k) with
  | none => simpa using List.find?_eq_none.1 hf (k, b) h
  | some e =>
    have hk : e.1 = k := by simpa using List.find?_some hf
    rw [← hk, ← huniq e (List.mem_of_find?_eq_some hf) hk]

/-- A frame loaded into a transmit buffer. -/
def loaded (n k : Nat) (byId : Bool) (x : CanSt) (f : CanFrame) (s : State) : State :=
  setCan n (withBufs byId { x with bufs := SMap.insert x.bufs k f, loadedAt := SMap.insert x.loadedAt k s.sun.time }) s

@[simp] theorem withBufs_keeps (byId : Bool) (x : CanSt) : (withBufs byId x).bufs = x.bufs ∧ (withBufs byId x).loadedAt = x.loadedAt ∧
    (withBufs byId x).tec = x.tec ∧ (withBufs byId x).rec_ = x.rec_ := by
  unfold withBufs
  (repeat' split) <;> exact ⟨rfl, rfl, rfl, rfl⟩

section
variable {t : Time} {n : Fin 16} {k : Fin 3} {d : CanDecl} {s : State} (hd : canDecl (advanceTo t s) n.val = some d)

section
variable {b : Nat} (hfeed : (k.val, b) ∈ d.feeds) (huniq : ∀ e ∈ d.feeds, e.1 = k.val → e.2 = b)
include hd hfeed huniq

theorem canTxBufferLoad_stands (h : let x := can (advanceTo t s) n.val
    (advanceTo t s).lanes.gate = false ∨ x.listen = true ∨ x.state = .off ∨ x.state = .busOff ∨ x.state = .recovering) :
    exec (.canTxBufferLoad t n k) s = .next (advanceTo t s) := by
  rw [exec_canTxBufferLoad, execCanTxBufferLoad]
  generalize advanceTo t s = u at *
  have hcond : (!laneActive u || !u.lanes.gate || !(onBus (can u n.val) || decide ((can u n.val).state = .integrating)) ||
      (can u n.val).listen || (SMap.find (can u n.val).bufs k.val).isSome) = true := by
    rcases h with h | h | h | h | h <;> simp [h, onBus]
  simp only [hd, feed_found hfeed huniq, hcond, if_true]

theorem canTxBufferLoad_runs {e : BobEntry} {v : State} (hlane : laneActive (advanceTo t s) = true)
    (hgate : (advanceTo t s).lanes.gate = true) (hbus : onBus (can (advanceTo t s) n.val) = true)
    (hlisten : (can (advanceTo t s) n.val).listen = false) (hempty : SMap.find (can (advanceTo t s) n.val).bufs k.val = none)
    (hpop : popBob b (advanceTo t s) = (some e, v)) :
    exec (.canTxBufferLoad t n k) s = .next (match feedFrame e with
      | none => canBump n.val 0x1C v
      | some f => loaded n.val k.val d.txById (can (advanceTo t s) n.val) f v) := by
  rw [exec_canTxBufferLoad, execCanTxBufferLoad]
  generalize advanceTo t s = u at *
  have hcond : (!laneActive u || !u.lanes.gate || !(onBus (can u n.val) || decide ((can u n.val).state = .integrating)) ||
      (can u n.val).listen || (SMap.find (can u n.val).bufs k.val).isSome) = false := by
    simp [hlane, hgate, hbus, hlisten, hempty]
  simp only [hd, feed_found hfeed huniq, hcond, hpop, Bool.false_eq_true, if_false]
  rfl

end

theorem loaded_spec {n k b : Nat} {byId : Bool} {f : CanFrame} {s v : State}
    (hv : v = { s with core := { s.core with bobs := v.core.bobs, tasks := v.core.tasks } }) : let w := loaded n k byId (can s n) f v
    bob w b = bob v b ∧ SMap.find (can w n).bufs k = some f ∧ SMap.find (can w n).loadedAt k = some s.sun.time ∧
      (∀ j, j ≠ k → SMap.find (can w n).bufs j = SMap.find (can s n).bufs j) ∧ w = { s with core := w.core } := by
  have hsun : v.sun = s.sun := by rw [hv]
  refine ⟨rfl, ?_, ?_, fun j hj => ?_, ?_⟩
  · simp [loaded]
  · simp [loaded, hsun]
  · simp only [loaded, can_setCan, withBufs_keeps]
    exact SMap.find_insert_ne _ _ hj
  · unfold loaded
    rw [hv]
    rfl

theorem discarded_spec {n b : Nat} {s v : State} (hv : v = { s with core := { s.core with bobs := v.core.bobs, tasks := v.core.tasks } }) :
    let w := canBump n 0x1C v
    bob w b = bob v b ∧ can w n = can s n ∧ counter w (0x0010001C + 0x1000 * n) 0 = (counter s (0x0010001C + 0x1000 * n) 0).inc.1 := by
  refine ⟨bob_canBump _ _ _ _, ?_, ?_⟩
  · rw [can_canBump, hv]
    rfl
  · rw [counter_canBump _ (by omega), hv]
    rfl

/-- The frame of a buffer has left it. -/
def transmitted (n k : Nat) (byId : Bool) (f : CanFrame) (s : State) : State :=
  send (.canFrame n f) (canBump n 0x14 (setCan n (emptyBuf byId k (can s n).tecDown) s))

@[simp] theorem tecDown_keeps (x : CanSt) : x.tecDown.rec_ = x.rec_ ∧ x.tecDown.bufs = x.bufs ∧ (x.tec ≠ 0 → x.tecDown.tec = x.tec - 1) := by
  unfold CanSt.tecDown
  split
  · next h => exact ⟨rfl, rfl, fun h' => absurd h h'⟩
  · simp

theorem emptyBuf_keeps (byId : Bool) (k : Nat) (x : CanSt) : let y := emptyBuf byId k x
    SMap.find y.bufs k = none ∧ SMap.find y.loadedAt k = none ∧ (∀ j, j ≠ k → SMap.find y.bufs j = SMap.find x.bufs j) ∧ y.tec = x.tec ∧
      y.rec_ = x.rec_ := by
  unfold emptyBuf
  dsimp only
  simp only [withBufs_keeps]
  exact ⟨SMap.find_drop_same _ _, SMap.find_drop_same _ _, fun j hj => SMap.find_drop_ne _ hj, trivial, trivial⟩

section
variable {f : CanFrame} (hf : SMap.find (can (advanceTo t s) n.val).bufs k.val = some f)
include hf

theorem canFrameTransmitted_stands (h : (advanceTo t s).lanes.gate = false) :
    exec (.canFrameTransmitted t n k) s = .next (advanceTo t s) := by
  rw [exec_canFrameTransmitted, execCanFrameTransmitted]
  simp only [hf, h, Bool.and_false, Bool.false_and, Bool.false_eq_true, if_false]

include hd in
theorem canFrameTransmitted_runs (hlane : laneActive (advanceTo t s) = true) (hgate : (advanceTo t s).lanes.gate = true)
    (hbus : onBus (can (advanceTo t s) n.val) = true) (hlisten : (can (advanceTo t s) n.val).listen = false)
    (hatt : (can (advanceTo t s) n.val).attempt = some k.val) :
    exec (.canFrameTransmitted t n k) s = .next (transmitted n.val k.val d.txById f (advanceTo t s)) := by
  rw [exec_canFrameTransmitted, execCanFrameTransmitted]
  generalize advanceTo t s = u at *
  simp only [hf, hd, hlane, hgate, hbus, hlisten, hatt, Bool.not_false, Bool.and_self, decide_true, Bool.true_or, if_true, Option.map_some,
    Option.getD_some]
  rfl

end

theorem transmitted_spec (n k : Nat) (byId : Bool) (f : CanFrame) (s : State) : let v := transmitted n k byId f s
    v.sent = .canFrame n f :: s.sent ∧ SMap.find (can v n).bufs k = none ∧
      (∀ j, j ≠ k → SMap.find (can v n).bufs j = SMap.find (can s n).bufs j) ∧
      counter v (0x00100014 + 0x1000 * n) 0 = (counter s (0x00100014 + 0x1000 * n) 0).inc.1 ∧
      ((can s n).tec ≠ 0 → (can v n).tec = (can s n).tec - 1) ∧ (can v n).rec_ = (can s n).rec_ ∧
      v = { s with core := v.core, counters := v.counters, skein := v.skein, sent := v.sent } := by
  obtain ⟨hbuf, -, hothers, htec, hrec⟩ := emptyBuf_keeps byId k (can s n).tecDown
  obtain ⟨hrec', hbufs', htec'⟩ := tecDown_keeps (can s n)
  have hcan : can (transmitted n k byId f s) n = emptyBuf byId k (can s n).tecDown :=
    (can_canBump n 0x14 n _).trans (can_setCan _ _ _)
  refine ⟨by simp [transmitted, send, canBump], ?_, fun j hj => ?_, ?_, fun h => ?_, ?_, ?_⟩
  · rw [hcan, hbuf]
  · rw [hcan, hothers j hj, hbufs']
  · exact counter_canBump _ (by omega)
  · rw [hcan, htec, htec' h]
  · rw [hcan, hrec, hrec']
  · apply State.eq_of_parts <;> simp [transmitted, send, canBump]

/-- A buffer that has stood too long is emptied, counted and written. -/
def timedOut (n k : Nat) (byId : Bool) (s : State) : State :=
  raise .warning 0x10 (canCode n 0x1C) [BitVec.ofNat 32 n, BitVec.ofNat 32 k]
    (canBump n 0x1C (setCan n (emptyBuf byId k (can s n)) s))

section
variable {l : Time} (hl : SMap.find (can (advanceTo t s) n.val).loadedAt k.val = some l)
include hd hl

theorem canTxTimeout_runs (h : l.toNat + d.txTimeoutMs * 1000000 ≤ (advanceTo t s).sun.time.toNat) :
    exec (.canTxTimeout t n k) s = .next (timedOut n.val k.val d.txById (advanceTo t s)) := by
  have hp : passed (advanceTo t s) l (d.txTimeoutMs * 1000000) = true := decide_eq_true h
  rw [exec_canTxTimeout, execCanTxTimeout]
  simp only [hd, hl, hp, if_true]
  rfl

theorem canTxTimeout_stands (h : (advanceTo t s).sun.time.toNat < l.toNat + d.txTimeoutMs * 1000000) :
    exec (.canTxTimeout t n k) s = .next (advanceTo t s) := by
  have hp : passed (advanceTo t s) l (d.txTimeoutMs * 1000000) = false := decide_eq_false (by omega)
  rw [exec_canTxTimeout, execCanTxTimeout]
  simp only [hd, hl, hp, Bool.false_eq_true, if_false]

end
end

theorem timedOut_spec (n k : Nat) (byId : Bool) (s : State) : let v := timedOut n k byId s
    SMap.find (can v n).bufs k = none ∧ SMap.find (can v n).loadedAt k = none ∧
      counter v (0x0010001C + 0x1000 * n) 0 = (counter s (0x0010001C + 0x1000 * n) 0).inc.1 ∧
      (∃ r ∈ v.skein.raised, r.sev = .warning ∧ r.source = 16 ∧ r.args = [BitVec.ofNat 32 n, BitVec.ofNat 32 k]) ∧
      v = { s with core := v.core, counters := v.counters, skein := v.skein, upd := v.upd } := by
  obtain ⟨hbuf, hload, -⟩ := emptyBuf_keeps byId k (can s n)
  have hcan : can (timedOut n k byId s) n = emptyBuf byId k (can s n) := (can_canBump n 0x1C n _).trans (can_setCan _ _ _)
  obtain ⟨r, hr, hsev, hsource, -, hargs⟩ := raise_raises_full .warning 0x10 (canCode n 0x1C) [BitVec.ofNat 32 n, BitVec.ofNat 32 k]
    (canBump n 0x1C (setCan n (emptyBuf byId k (can s n)) s))
  refine ⟨?_, ?_, ?_, ⟨r, hr, hsev, hsource, hargs⟩, ?_⟩
  · rw [hcan, hbuf]
  · rw [hcan, hload]
  · exact counter_canBump _ (by omega)
  · apply State.eq_of_parts <;> simp [timedOut, canBump]

/-- Settles O52: reception, the held frames and the three transmit events, each from what its command does to its controller. -/
theorem canFramesPass : Obligations.CanFramesPass := by
  unfold Obligations.CanFramesPass
  refine ⟨⟨fun t n sof f d s hd => ⟨canFrameReceived_stands hd, fun hlane hgate hbus hfd hdiv => ⟨fun hnone => ?unmatched, ?matched⟩⟩,
      fun t n s => ⟨canRxHeldDeliver_stands, fun hlane hgate => ⟨_, canRxHeldDeliver_runs hlane hgate, heldDelivered_spec _ _⟩⟩⟩,
    fun t n k d s hd => ⟨fun b hfeed huniq => ⟨canTxBufferLoad_stands hd hfeed huniq, ?load⟩, fun f hf => ⟨?sent, canFrameTransmitted_stands hf⟩,
      fun l hl => ⟨fun h => ⟨_, canTxTimeout_runs hd hl h, timedOut_spec _ _ _ _⟩, canTxTimeout_stands hd hl⟩⟩⟩
  case unmatched =>
    obtain ⟨hdown, hhigh, htec, hbufs, -, hothers, -⟩ := recDown_spec n.val (advanceTo t s)
    obtain ⟨hcount, hlost, hcan, hframe⟩ := unmatched_spec n.val (advanceTo t s)
    refine ⟨_, (canFrameReceived_runs hd hlane hgate hbus hfd hdiv).trans (congrArg Host.Outcome.next (filtered_none hnone)), hcount, hlost,
      ?_, ?_, ?_, ?_, fun m hm => (hcan m).trans (hothers m hm), hframe⟩
    all_goals rw [hcan]
    · exact hdown
    · exact hhigh
    · exact htec
    · exact hbufs
  case matched =>
    intro k x q b hk hx hfirst hq he hp hb
    exact ⟨_, (canFrameReceived_runs hd hlane hgate hbus hfd hdiv).trans (congrArg Host.Outcome.next
      ((filtered_first hk hx hfirst).trans (runFilter_queues hq he hp))), queued_spec n.isLt hb⟩
  case load =>
    intro hlane hgate hbus hlisten hempty e y htake
    obtain ⟨v, hpop, hy, hv⟩ := popBob_take htake
    have hrun := canTxBufferLoad_runs hd hfeed huniq hlane hgate hbus hlisten hempty hpop
    cases hff : feedFrame e with
    | none =>
      rw [hff] at hrun
      obtain ⟨hbob, hcan, hcount⟩ := discarded_spec (n := n.val) (b := b) hv
      exact ⟨_, hrun, hbob.trans hy, nofun, fun _ => ⟨hcan, hcount⟩⟩
    | some g =>
      rw [hff] at hrun
      obtain ⟨hbob, hbuf, hat, hothers, hframe⟩ := loaded_spec (n := n.val) (k := k.val) (b := b) (byId := d.txById) (f := g) hv
      refine ⟨_, hrun, hbob.trans hy, fun f hf => ?_, nofun⟩
      obtain rfl : g = f := by injection hf
      exact ⟨hbuf, hat, hothers, hframe⟩
  case sent =>
    intro hlane hgate hbus hlisten hatt
    exact ⟨_, canFrameTransmitted_runs hd hf hlane hgate hbus hlisten hatt, transmitted_spec _ _ _ _ _⟩

end Sys2Proof.Machine
end

section
/-! PROOFS. CAN fault confinement (R322, R342 to R345). -/
namespace Sys2Proof.Machine
open Sys2Proof.Safety

/-! ### Protocol errors (R342) -/

/-- The state that the error counters decide. -/
def errorState (tec rec_ : BitVec 9) : CanState :=
  if 256 ≤ tec.toNat then .busOff else if 128 ≤ tec.toNat || 128 ≤ rec_.toNat then .errorPassive else .errorActive

/-- A controller with an error counted and kept. -/
def errorKept (n : Nat) (tx data : Bool) (c : BitVec 3) (tec rec_ : BitVec 9) (d : CanDecl) (s : State) : State :=
  canBump n 0x24 (setCan n { can s n with
    tec := tec, rec_ := rec_, state := errorState tec rec_, lastErr := flag tx 4 ||| flag data 3 ||| c.zeroExtend 32
    attempt := chooseBuf d.txById (can s n).bufs } s)

/-- A controller that goes bus-off discards its buffers, with an ERROR, and recovers by itself where declared. -/
def busOffEntered (n : Nat) (d : CanDecl) (s : State) : State :=
  let s := raise .error 0x10 (canCode n 0) [BitVec.ofNat 32 n] (dropBufs n s)
  if d.autoRec then setCan n { can s n with state := .recovering } s else s

/-- A controller that turns error-passive writes a WARNING. -/
def warned (n : Nat) (new was : CanState) (s : State) : State :=
  if new = .errorPassive && decide (was = .errorActive) then raise .warning 0x10 (canCode n 0) [BitVec.ofNat 32 n] s else s

/-- What an error makes of the controller, which was in the state `was`. -/
def errorTaken (n : Nat) (new was : CanState) (d : CanDecl) (s : State) : State :=
  if new = .busOff then busOffEntered n d s else warned n new was s

theorem warned_spec (n : Nat) (new was : CanState) (s : State) : let v := warned n new was s
    (∀ m, can v m = can s m) ∧ counter v (0x00100024 + 0x1000 * n) 0 = counter s (0x00100024 + 0x1000 * n) 0 ∧
      v = { s with core := v.core, counters := v.counters, skein := v.skein, upd := v.upd } ∧
      (new = .errorPassive → was = .errorActive →
        ∃ r ∈ v.skein.raised, r.sev = .warning ∧ r.source = 16 ∧ r.args = [BitVec.ofNat 32 n]) := by
  obtain ⟨r, hr, hsev, hsource, -, hargs⟩ := raise_raises_full .warning 0x10 (canCode n 0) [BitVec.ofNat 32 n] s
  unfold warned
  split
  case isTrue => exact ⟨fun _ => rfl, rfl, rfl, fun _ _ => ⟨r, hr, hsev, hsource, hargs⟩⟩
  case isFalse h => exact ⟨fun _ => rfl, rfl, rfl, fun hn hw => absurd (by rw [hn, hw]; rfl) h⟩

theorem canProtocolError_runs {t : Time} {n : Fin 16} {tx data : Bool} {c : BitVec 3} {tec rec_ : BitVec 9} {d : CanDecl} {s : State}
    (hd : canDecl (advanceTo t s) n.val = some d) (hlane : laneActive (advanceTo t s) = true) (hgate : (advanceTo t s).lanes.gate = true)
    (hbus : onBus (can (advanceTo t s) n.val) = true) :
    exec (.canProtocolError t n tx data c tec rec_) s = .next (let u := advanceTo t s
      errorTaken n.val (errorState tec rec_) (can u n.val).state d (errorKept n.val tx data c tec rec_ d u)) := by
  rw [exec_canProtocolError, execCanProtocolError]
  generalize advanceTo t s = u at *
  simp only [hd, hlane, hgate, hbus, Bool.not_true, Bool.or_self, Bool.false_eq_true, if_false]
  rfl

theorem errorKept_spec (n : Nat) (tx data : Bool) (c : BitVec 3) (tec rec_ : BitVec 9) (d : CanDecl) (s : State) :
    let v := errorKept n tx data c tec rec_ d s
    (can v n).tec = tec ∧ (can v n).rec_ = rec_ ∧ (can v n).state = errorState tec rec_ ∧ (can v n).bufs = (can s n).bufs ∧
      (can v n).held = (can s n).held ∧
      counter v (0x00100024 + 0x1000 * n) 0 = (counter s (0x00100024 + 0x1000 * n) 0).inc.1 ∧ (∀ m, m ≠ n → can v m = can s m) ∧
      v = { s with core := v.core, counters := v.counters, skein := v.skein, upd := v.upd } := by
  have hcan : can (errorKept n tx data c tec rec_ d s) n = { can s n with
      tec := tec, rec_ := rec_, state := errorState tec rec_, lastErr := flag tx 4 ||| flag data 3 ||| c.zeroExtend 32
      attempt := chooseBuf d.txById (can s n).bufs } := (can_canBump _ _ _ _).trans (can_setCan _ _ _)
  dsimp only
  rw [hcan]
  refine ⟨rfl, rfl, rfl, rfl, rfl, counter_canBump _ (by omega), fun m hm => ?_, ?_⟩
  · exact (can_canBump _ _ _ _).trans (can_setCan_ne _ _ _ _ hm)
  · apply State.eq_of_parts <;> simp [errorKept, canBump]

@[simp] theorem can_bumps (a i k n : Nat) (s : State) : can (bumps a i k s) n = can s n := can_congr (by simp) n

theorem dropBufs_spec (n : Nat) (s : State) : let v := dropBufs n s
    can v n = { can s n with bufs := [], loadedAt := [], attempt := none } ∧ (∀ m, m ≠ n → can v m = can s m) ∧
      (∀ a, a ≠ 0x0010001C + 0x1000 * n → counter v a 0 = counter s a 0) ∧
      v = { s with core := v.core, counters := v.counters, skein := v.skein, upd := v.upd } := by
  refine ⟨(can_bumps _ _ _ _ _).trans (can_setCan _ _ _), fun m hm => (can_bumps _ _ _ _ _).trans (can_setCan_ne _ _ _ _ hm),
    fun a ha => ?_, ?_⟩
  · refine (bumps_keeps_counter ?_ _).trans rfl
    unfold ckey
    omega
  · apply State.eq_of_parts <;> simp [dropBufs]

@[simp] theorem can_raise (v : Severity) (b : BitVec 8) (c : BitVec 16) (l : List Word) (n : Nat) (s : State) :
    can (raise v b c l s) n = can s n := rfl

theorem busOffEntered_spec (n : Nat) (d : CanDecl) (s : State) (hs : (can s n).state = .busOff) : let v := busOffEntered n d s
    can v n = { can s n with bufs := [], loadedAt := [], attempt := none, state := if d.autoRec then .recovering else .busOff } ∧
      (∀ m, m ≠ n → can v m = can s m) ∧ counter v (0x00100024 + 0x1000 * n) 0 = counter s (0x00100024 + 0x1000 * n) 0 ∧
      (∃ r ∈ v.skein.raised, r.sev = .error ∧ r.source = 16 ∧ r.args = [BitVec.ofNat 32 n]) ∧
      v = { s with core := v.core, counters := v.counters, skein := v.skein, upd := v.upd } := by
  obtain ⟨hcan, hothers, hcount, hframe⟩ := dropBufs_spec n s
  obtain ⟨r, hr, hsev, hsource, -, hargs⟩ := raise_raises_full .error 0x10 (canCode n 0) [BitVec.ofNat 32 n] (dropBufs n s)
  have hrest : let y := raise .error 0x10 (canCode n 0) [BitVec.ofNat 32 n] (dropBufs n s)
      can y n = can (dropBufs n s) n ∧ (∀ m, can y m = can (dropBufs n s) m) ∧
        counter y (0x00100024 + 0x1000 * n) 0 = counter (dropBufs n s) (0x00100024 + 0x1000 * n) 0 ∧
        y = { s with core := y.core, counters := y.counters, skein := y.skein, upd := y.upd } := by
    refine ⟨rfl, fun _ => rfl, rfl, ?_⟩
    rw [hframe]
    rfl
  unfold busOffEntered
  generalize raise .error 0x10 (canCode n 0) [BitVec.ofNat 32 n] (dropBufs n s) = y at *
  generalize dropBufs n s = x at *
  obtain ⟨-, hsame, hcount', hframe'⟩ := hrest
  have hcount24 : counter y (0x00100024 + 0x1000 * n) 0 = counter s (0x00100024 + 0x1000 * n) 0 := hcount'.trans (hcount _ (by omega))
  have hcany : can y n = { can s n with bufs := [], loadedAt := [], attempt := none } := (hsame n).trans hcan
  cases d.autoRec with
  | false =>
    refine ⟨hcany.trans ?_, fun m hm => (hsame m).trans (hothers m hm), hcount24, ⟨r, hr, hsev, hsource, hargs⟩, hframe'⟩
    rw [if_neg Bool.false_ne_true, ← hs]
  | true =>
    refine ⟨(can_setCan _ _ _).trans (by rw [hcany]; rfl), fun m hm => ?_, hcount24, ⟨r, hr, hsev, hsource, hargs⟩, ?_⟩
    · exact (can_setCan_ne _ _ _ _ hm).trans ((hsame m).trans (hothers m hm))
    · dsimp only [setCan]
      rw [hframe']
      rfl

theorem errorState_busOff {tec rec_ : BitVec 9} : errorState tec rec_ = .busOff ↔ 256 ≤ tec.toNat := by
  unfold errorState
  (repeat' split) <;> simp_all

theorem errorState_passive {tec rec_ : BitVec 9} (h : tec.toNat < 256) (h' : 128 ≤ tec.toNat ∨ 128 ≤ rec_.toNat) :
    errorState tec rec_ = .errorPassive := by
  unfold errorState
  rw [if_neg (by omega), if_pos (by simpa using h')]

/-- What a protocol error leaves of the controller and of the rest. -/
theorem errorTaken_spec (n : Nat) (tx data : Bool) (c : BitVec 3) (tec rec_ : BitVec 9) (d : CanDecl) (s : State) :
    let x := can s n
    let v := errorTaken n (errorState tec rec_) x.state d (errorKept n tx data c tec rec_ d s)
    (can v n).tec = tec ∧ (can v n).rec_ = rec_ ∧
      (can v n).state = (if 256 ≤ tec.toNat then (if d.autoRec then .recovering else .busOff)
        else if 128 ≤ tec.toNat ∨ 128 ≤ rec_.toNat then .errorPassive else .errorActive) ∧
      (256 ≤ tec.toNat → (can v n).bufs = [] ∧
        (∃ r ∈ v.skein.raised, r.sev = .error ∧ r.source = 16 ∧ r.args = [BitVec.ofNat 32 n])) ∧
      (tec.toNat < 256 → (can v n).bufs = x.bufs) ∧
      (tec.toNat < 256 → (128 ≤ tec.toNat ∨ 128 ≤ rec_.toNat) → x.state = .errorActive →
        (∃ r ∈ v.skein.raised, r.sev = .warning ∧ r.source = 16 ∧ r.args = [BitVec.ofNat 32 n])) ∧
      (can v n).held = x.held ∧ counter v (0x00100024 + 0x1000 * n) 0 = (counter s (0x00100024 + 0x1000 * n) 0).inc.1 ∧
      (∀ m, m ≠ n → can v m = can s m) ∧
      v = { s with core := v.core, counters := v.counters, skein := v.skein, upd := v.upd } := by
  obtain ⟨htec, hrec, hstate, hbufs, hheld, hcount, hothers, hframe⟩ := errorKept_spec n tx data c tec rec_ d s
  generalize errorKept n tx data c tec rec_ d s = y at *
  unfold errorTaken
  dsimp only
  by_cases hoff : 256 ≤ tec.toNat
  · rw [if_pos (errorState_busOff.2 hoff)]
    rw [errorState_busOff.2 hoff] at hstate
    obtain ⟨hcan, hothers', hcount', hrecord, hframe'⟩ := busOffEntered_spec n d y hstate
    generalize busOffEntered n d y = v at *
    rw [hcan]
    refine ⟨htec, hrec, ?_, fun _ => ⟨rfl, hrecord⟩, fun h => absurd h (by omega), fun h => absurd h (by omega), hheld, hcount'.trans hcount,
      fun m hm => (hothers' m hm).trans (hothers m hm), ?_⟩
    · rw [if_pos hoff]
    · rw [hframe', hframe]
  · rw [if_neg fun h => hoff (errorState_busOff.1 h)]
    have hnew : errorState tec rec_ = if 128 ≤ tec.toNat ∨ 128 ≤ rec_.toNat then .errorPassive else .errorActive := by
      unfold errorState
      rw [if_neg hoff]
      simp
    obtain ⟨hcan, hc, hf, hw⟩ := warned_spec n (errorState tec rec_) (can s n).state y
    generalize warned n (errorState tec rec_) (can s n).state y = v at *
    rw [hcan]
    refine ⟨htec, hrec, ?_, fun h => absurd h hoff, fun _ => hbufs, fun hlt hp hx => hw (errorState_passive hlt hp) hx, hheld,
      hc.trans hcount, fun m hm => (hcan m).trans (hothers m hm), ?_⟩
    · rw [hstate, if_neg hoff, hnew]
    · rw [hf, hframe]

/-! ### Recovery, integration, listen-only (R342 to R344) -/

/-- A controller back on the bus, its counters at zero. -/
def rejoined (n : Nat) (s : State) : State := setCan n { can s n with state := .errorActive, tec := 0, rec_ := 0 } s

section
variable {t : Time} {n : Fin 16} {s : State}

theorem canBusOffRecovered_runs (h : (can (advanceTo t s) n.val).state = .recovering) :
    exec (.canBusOffRecovered t n) s = .next (rejoined n.val (advanceTo t s)) := congrArg Host.Outcome.next (if_pos h)

theorem canIntegrated_runs (h : (can (advanceTo t s) n.val).state = .integrating) :
    exec (.canIntegrated t n) s = .next (rejoined n.val (advanceTo t s)) := congrArg Host.Outcome.next (if_pos h)

theorem canListenApply_runs (h : (can (advanceTo t s) n.val).state ≠ .off) : exec (.canListenApply t n) s = .next (let u := advanceTo t s
    setCan n.val { can u n.val with listen := wantsListen n.val u } u) := congrArg Host.Outcome.next (if_neg h)

end

theorem setCan_frame (n : Nat) (x : CanSt) (s : State) : setCan n x s = { s with core := (setCan n x s).core } := rfl

/-! ### CAN_CTRL (R342, R343) -/

/-- A write of CAN_CTRL with a lane: listen-only as bit 0 asks, recovery where bit 1 does. -/
theorem writeReg_canCtrl {who : Requester} (n : Fin 16) (v : Word) {s : State} (h : laneActive s = true) :
    writeReg who (0x00100010 + 0x1000 * n.val) v s = done (let u := canListen n.val (bit v 0) s; if bit v 1 then canRecover n.val u else u) := by
  have hn := n.isLt
  have hblock : (0x00100010 + 0x1000 * n.val) / 65536 = 0x10 := by omega
  have hoff : (0x00100010 + 0x1000 * n.val) % 65536 % 4096 = 0x10 := by omega
  have hreg : (0x00100010 + 0x1000 * n.val) % 65536 / 4096 = n.val := by omega
  have hlane : noLane s (0x00100010 + 0x1000 * n.val) = false := by rw [noLane, h, Bool.not_true, Bool.and_false]
  have hwide : wideAt s (0x00100010 + 0x1000 * n.val) = none := by
    unfold wideAt
    split
    case h_9 => rfl
    all_goals omega
  have hhi : loOfHi (0x00100010 + 0x1000 * n.val) = none := by
    unfold loOfHi
    rw [if_neg]
    simp
    omega
  have hcount : counterIndex (perReq s who) (0x00100010 + 0x1000 * n.val) = none := by
    simp [counterIndex, hblock, hoff]
  simp only [writeReg, hlane, hwide, hhi, hcount, hblock, hoff, hreg, Option.isSome_none, Bool.false_eq_true, if_false, if_true]

theorem writeReg_canCtrl_noLane {who : Requester} (n : Fin 16) (v : Word) {s : State} (h : laneActive s = false) :
    writeReg who (0x00100010 + 0x1000 * n.val) v s = done s := by
  have hblock : (0x00100010 + 0x1000 * n.val) / 65536 = 0x10 := by omega
  unfold writeReg
  rw [noLane, hblock, h]
  rfl

/-- CAN_RECOVER writes LISTEN as it stands. -/
theorem canRecover_ctrl (b : Bool) : bit ((2 : Word) ||| flag b 0) 0 = b ∧ bit ((2 : Word) ||| flag b 0) 1 = true := by
  cases b <;> decide

theorem canListen_ctrl (b : Bool) : bit (flag b 0 : Word) 0 = b ∧ bit (flag b 0 : Word) 1 = false := by
  cases b <;> decide

section
variable {r : Req} {n : Fin 16} {s : State} (h : Taken r true true s)
include h

theorem canRecover_runs (hlane : laneActive (arrived r s) = true) (hoff : (can (arrived r s) n.val).state = .busOff) :
    exec (.canRecover r n) s = .next (answer r (.ack []) (let u := arrived r s
      setCan n.val { can u n.val with state := .recovering } (setCan n.val (can u n.val) u))) := by
  obtain ⟨hb0, hb1⟩ := canRecover_ctrl (can s n.val).listenCtrl
  have hcan : can s n.val = can (arrived r s) n.val := (can_congr (by simp [arrived]) _).symm
  rw [exec_canRecover, execCanRecover, asWrite, serve_taken _ _ _ _ _ h, writeReg_canCtrl _ _ hlane, hb0, hb1, hcan]
  generalize arrived r s = u at *
  have hlisten : canListen n.val (can u n.val).listenCtrl u = setCan n.val (can u n.val) u := if_pos hlane
  have hback : can (setCan n.val (can u n.val) u) n.val = can u n.val := can_setCan _ _ _
  have hrecover : canRecover n.val (setCan n.val (can u n.val) u) =
      setCan n.val { can u n.val with state := .recovering } (setCan n.val (can u n.val) u) := by
    unfold canRecover
    rw [hback, if_pos]
    rw [show laneActive (setCan n.val (can u n.val) u) = laneActive u from rfl, hlane, hoff]
    rfl
  rw [hlisten, if_pos rfl, hrecover]
  rfl

theorem canListenWrite_runs (on : Bool) : exec (.canListenWrite r n on) s = .next (answer r (.ack []) (canListen n.val on (arrived r s))) := by
  obtain ⟨hb0, hb1⟩ := canListen_ctrl on
  rw [exec_canListenWrite, execCanListenWrite, asWrite, serve_taken _ _ _ _ _ h]
  generalize arrived r s = u
  cases hlane : laneActive u with
  | true =>
    rw [writeReg_canCtrl _ _ hlane, hb0, hb1]
    rfl
  | false =>
    rw [writeReg_canCtrl_noLane _ _ hlane, canListen, hlane]
    rfl

end

/-- Settles O53: the outcome of an error by the counters, and each other event as one change of its controller. -/
theorem canConfinesFaults : Obligations.CanConfinesFaults := by
  unfold Obligations.CanConfinesFaults
  refine ⟨fun t n tx data c tec rec_ d s hd hlane hgate hbus =>
      ⟨_, canProtocolError_runs hd hlane hgate hbus, errorTaken_spec _ _ _ _ _ _ _ _⟩,
    fun t n s => ⟨fun i hi hx => ?_, fun hx => ⟨_, canListenApply_runs hx, can_setCan _ _ _, rfl⟩⟩,
    fun r n on s h => ⟨fun hlane hoff => ?_, ?_⟩⟩
  · have hexec : exec i.1 s = .next (rejoined n.val (advanceTo t s)) := by
      simp only [List.mem_cons, List.not_mem_nil, or_false] at hi
      obtain rfl | rfl := hi
      · exact canBusOffRecovered_runs hx
      · exact canIntegrated_runs hx
    exact ⟨_, hexec, can_setCan _ _ _, fun m hm => can_setCan_ne _ _ _ _ hm, rfl⟩
  · exact ⟨_, canRecover_runs h hlane hoff, rfl, can_setCan _ _ _, rfl⟩
  · refine ⟨_, canListenWrite_runs h on, rfl, fun hlane => ?_, fun hlane => ?_, ?_⟩
    · rw [canListen, hlane]
      exact can_setCan _ _ _
    · rw [canListen, hlane]
      rfl
    · unfold canListen
      split <;> rfl

end Sys2Proof.Machine
end

section
/-! PROOFS. The Skein's records and its clear (R365, R369 to R376). -/
namespace Sys2Proof.Machine
open Sys2Proof.Safety

/-! ### What records raised leave of the Skein -/

/-- The Skein without the records raised. -/
def Skein.settled (x : Skein) : Skein := { x with raised := [] }

@[simp] theorem Skein.settled_raised (x : Skein) (l : List Raised) : Skein.settled { x with raised := l } = x.settled := rfl

theorem Skein.eq_of_settled {x y : Skein} (h : x.settled = y.settled) : x = { y with raised := x.raised } := by
  obtain ⟨⟩ := x
  obtain ⟨⟩ := y
  simp_all [Skein.settled]

@[simp] theorem settled_raise (v : Severity) (b : BitVec 8) (c : BitVec 16) (l : List Word) (s : State) :
    (raise v b c l s).skein.settled = s.skein.settled := rfl

@[simp] theorem settled_bump (a i : Nat) (s : State) : (bump a i s).skein.settled = s.skein.settled := by
  unfold bump
  dsimp only
  split <;> rfl

@[simp] theorem settled_mend (addr : Nat) (s : State) : (mend addr s).skein.settled = s.skein.settled := by
  unfold mend
  dsimp only
  rw [foldl_keeps (fun s => s.skein.settled) (fun s m => by split <;> simp)]
  unfold tripRewrite
  split <;> rfl

@[simp] theorem settled_readReg (who : Requester) (addr : Nat) (s : State) : (readReg who addr s).2.skein.settled = s.skein.settled := by
  unfold readReg
  (repeat' split) <;> simp

@[simp] theorem settled_snapshots (l : List Word) (s : State) : (snapshots l s).2.skein.settled = s.skein.settled := by
  induction l generalizing s with
  | nil => rfl
  | cons a l ih =>
    refine (ih _).trans ?_
    exact settled_readReg _ _ _

@[simp] theorem settled_numbered (seq : BitVec 64) (e : Raised) (s : State) : (numbered seq e s).2.skein.settled = s.skein.settled :=
  settled_snapshots _ _

/-! ### The writer takes a record (R369 to R372) -/

/-- A record without registers to read is numbered as it stands. -/
theorem numbered_plain {e : Raised} (seq : BitVec 64) (s : State) (ha : e.addrs = []) (hl : e.args.length ≤ 12) :
    (numbered seq e s).2 = s ∧ (numbered seq e s).1.seq = seq ∧ (numbered seq e s).1.ev = e ∧ (numbered seq e s).1.trunc = false ∧
      (numbered seq e s).1.snaps.map (·.2) = e.args := by
  have hsnaps : ∀ n, snapshots (e.addrs.take n) s = ([], s) := fun n => by rw [ha, List.take_nil]; rfl
  have hlong : ¬ 12 < e.args.length := by omega
  have hargs : ((e.args.take 12).zipIdx.map fun p => (BitVec.ofNat 32 (0x80000000 + p.2), p.1)).map Prod.snd = e.args := by
    rw [List.map_map, List.take_of_length_le hl]
    exact List.zipIdx_map_fst 0 e.args
  unfold numbered
  simp only [hsnaps, List.append_nil]
  refine ⟨trivial, trivial, trivial, ?_, hargs⟩
  simp [hlong, ha]

section
variable {t : Time} {s : State} {e : Raised} {rest : List Raised} (hp : (advanceTo t s).sys.powered = true)
  (hr : (advanceTo t s).skein.raised = e :: rest)
include hp hr

/-- The Skein once the oldest record is taken and numbered. -/
def taken (rest : List Raised) (s : State) : State := { s with skein := { s.skein with raised := rest, seq := s.skein.seq + 1 } }

/-- The oldest record, numbered. -/
def oldestNumbered (e : Raised) (rest : List Raised) (s : State) : Record × State := numbered (s.skein.seq + 1) e (taken rest s)

/-- The oldest record, numbered and buffered. -/
def buffered (e : Raised) (rest : List Raised) (s : State) : State :=
  let n := oldestNumbered e rest s
  eventRecord n.1 { n.2 with skein := { n.2.skein with buffer := n.2.skein.buffer ++ [n.1] } }

theorem recordReceive_full (hb : 256 ≤ (advanceTo t s).skein.buffer.length) :
    exec (.skeinRecordReceive t) s = .next (bump (0x001A0010 + 4 * e.sev.code) 0 (taken rest (advanceTo t s))) := by
  rw [exec_skeinRecordReceive, execSkeinRecordReceive]
  generalize advanceTo t s = u at *
  simp only [hp, receiveOne, hr, hb, if_true]
  rfl

theorem recordReceive_buffered (hb : (advanceTo t s).skein.buffer.length < 256) :
    exec (.skeinRecordReceive t) s = .next (buffered e rest (advanceTo t s)) := by
  have hb' : ¬ 256 ≤ (advanceTo t s).skein.buffer.length := by omega
  rw [exec_skeinRecordReceive, execSkeinRecordReceive]
  generalize advanceTo t s = u at *
  simp only [hp, receiveOne, hr, hb', if_true, if_false]
  rfl

end

theorem dropped_spec (a : Nat) (rest : List Raised) (s : State) : let v := bump a 0 (taken rest s)
    v.skein.seq = s.skein.seq + 1 ∧ v.skein.buffer = s.skein.buffer ∧ counter v a 0 = (counter s a 0).inc.1 ∧
      v = { s with skein := v.skein, counters := v.counters } := by
  have hskein := Skein.eq_of_settled (settled_bump a 0 (taken rest s))
  refine ⟨?_, ?_, counter_bump _ _ _, ?_⟩
  · rw [hskein]
    rfl
  · rw [hskein]
    rfl
  · apply State.eq_of_parts <;> simp [taken]

theorem buffered_spec {e : Raised} (rest : List Raised) (s : State) (ha : e.addrs = []) (hl : e.args.length ≤ 12) :
    let r := (oldestNumbered e rest s).1
    let v := buffered e rest s
    v.skein.seq = s.skein.seq + 1 ∧ v.skein.raised = rest ∧ v.skein.buffer = s.skein.buffer ++ [r] ∧ r.seq = s.skein.seq + 1 ∧
      r.ev = e ∧ r.trunc = false ∧ r.snaps.map (·.2) = e.args ∧ v.skein.ring = s.skein.ring ∧
      v = { s with skein := v.skein, hank := v.hank, sent := v.sent } := by
  obtain ⟨hstate, hseq, hev, htrunc, hargs⟩ := numbered_plain (s.skein.seq + 1) (taken rest s) ha hl
  dsimp only [buffered, oldestNumbered]
  rw [hstate]
  refine ⟨by simp [taken], by simp [taken], by simp [taken], hseq, hev, htrunc, hargs, by simp [taken], ?_⟩
  apply State.eq_of_parts <;> simp [taken]

/-! ### A record goes to flash (R259, R372, R373) -/

theorem skeinBurst_admits {s : State} (hq : (ledger s 4).queue = []) (hf : fits s 4 (flashClaim 2 s.tally.bursts) = true) :
    ∃ b, burst 2 none s = (true, b, enter 4 (flashClaim 2 s.tally.bursts) (burstNumbered s)) := by
  have hadmit : submit 4 (flashClaim 2 s.tally.bursts) (burstNumbered s) = enter 4 (flashClaim 2 s.tally.bursts) (burstNumbered s) := by
    rw [submit_admits (s := burstNumbered s) hq hf]
    rfl
  have hholds : holds (enter 4 (flashClaim 2 s.tally.bursts) (burstNumbered s)) 4 (.flash 2 s.tally.bursts) = true :=
    holds_enter _ (flashClaim 2 s.tally.bursts) _
  simp only [burst, burstNumbered] at hadmit hholds ⊢
  rw [hadmit, hholds]
  exact ⟨_, rfl⟩

/-- A record on its way to flash, the buffer without it. -/
def flashing (b : Option Nat) (rest : List Record) (s : State) : State :=
  let s := enter 4 (flashClaim 2 s.tally.bursts) (burstNumbered s)
  { s with skein := { s.skein with burst := b, buffer := rest } }

theorem skeinFlashWrite_idle {t : Time} {s : State} (h : (advanceTo t s).skein.buffer = []) :
    exec (.skeinFlashWrite t) s = .next (advanceTo t s) := by
  have hnone : nextRecord (advanceTo t s).skein.buffer = none := by rw [h]; rfl
  rw [exec_skeinFlashWrite, execSkeinFlashWrite]
  simp only [hnone]

theorem skeinFlashWrite_runs {t : Time} {s : State} {r : Record} {rest : List Record} (hp : (advanceTo t s).sys.powered = true)
    (hc : (advanceTo t s).skein.clearing = false) (hre : restarts (advanceTo t s) 41 = false) (hb : (advanceTo t s).skein.burst = none)
    (hf : fits (advanceTo t s) 4 (flashClaim 2 (advanceTo t s).tally.bursts) = true) (hq : (ledger (advanceTo t s) 4).queue = [])
    (hn : nextRecord (advanceTo t s).skein.buffer = some (r, rest)) :
    ∃ b, exec (.skeinFlashWrite t) s = .next (writeRecord r (flashing b rest (advanceTo t s))) := by
  rw [exec_skeinFlashWrite, execSkeinFlashWrite]
  generalize advanceTo t s = u at *
  obtain ⟨b, hburst⟩ := skeinBurst_admits hq hf
  refine ⟨b, ?_⟩
  simp only [hn, hp, hc, hre, hb, hburst, Bool.not_true, Bool.or_self, Bool.false_eq_true, if_false, if_true]
  rfl

/-- Where the ring has room for a record, it takes the first free slot. -/
theorem written_spec {r : Record} {rest : List Record} (b : Option Nat) {s : State} (hring : s.skein.ring.length < 262144)
    (hroom : r.ev.sev = .critical ∨ otherHeld s.skein.ring < 245760) : let v := writeRecord r (flashing b rest s)
    v.skein.ring = SMap.insert s.skein.ring (firstFree s.skein.ring 0) r ∧ v.skein.buffer = rest ∧ v.skein.seq = s.skein.seq ∧
      v.core = s.core ∧ v.sys = s.sys ∧ v.outs = s.outs := by
  have hring' : (flashing b rest s).skein.ring = s.skein.ring := by simp [flashing, burstNumbered]
  have hplace : placeRecord (flashing b rest s).skein.seq r s.skein.ring = some (SMap.insert s.skein.ring (firstFree s.skein.ring 0) r) := by
    have hslots : s.skein.ring.length < ringSlots := hring
    have hother : (decide (r.ev.sev = .critical) || decide (otherHeld s.skein.ring < otherSlots)) = true := by
      have hslots' : otherHeld s.skein.ring < 245760 ↔ otherHeld s.skein.ring < otherSlots := Iff.rfl
      rw [hslots'] at hroom
      simpa using hroom
    unfold placeRecord
    simp only [hslots, hother, decide_true, Bool.and_self, if_true]
  unfold writeRecord
  rw [hring', hplace]
  refine ⟨rfl, rfl, ?_, ?_, ?_, ?_⟩ <;> simp [flashing, burstNumbered]

theorem nextRecord_critical {r : Record} {rest : List Record} (h : r.ev.sev = .critical) :
    nextRecord (r :: rest) = some (r, (r :: rest).filter fun x => decide (x.seq ≠ r.seq)) := by
  unfold nextRecord
  rw [List.find?_cons_of_pos (by simpa using h)]

theorem nextRecord_oldest {r : Record} {rest : List Record} (h : ∀ x ∈ r :: rest, x.ev.sev ≠ .critical) :
    nextRecord (r :: rest) = some (r, rest) := by
  unfold nextRecord
  rw [List.find?_eq_none.2 fun x hx => by simpa using h x hx]

/-! ### Clearing (R375, R376) -/

theorem writeReg_sknCtrl (who : Requester) (v : Word) (s : State) : writeReg who 0x001A0024 v s = done (writeSknCtrl v s) := by
  simp [writeReg, noLane, perLaneBlock, wideAt, loOfHi, counterIndex, writeSkein]

theorem sknCtrlNewchal_runs {r : Req} {s : State} (h : Taken r true true s) :
    exec (.sknCtrlNewchal r) s = .next (answer r (.ack []) (newChallenge (arrived r s))) := by
  rw [exec_sknCtrlNewchal, execSknCtrlNewchal, asWrite, serve_taken _ _ _ _ _ h, writeReg_sknCtrl]
  rfl

theorem sknCtrlClear_runs {r : Req} {s : State} (h : Taken r true true s) :
    exec (.sknCtrlClear r) s = .next (answer r (.ack []) (startClear (arrived r s))) := by
  rw [exec_sknCtrlClear, execSknCtrlClear, asWrite, serve_taken _ _ _ _ _ h, writeReg_sknCtrl]
  rfl

theorem newChallenge_live (s : State) : challengeLive (newChallenge s) = true := by
  unfold challengeLive newChallenge nextFree
  simp

section
variable {s : State} (hc : s.skein.clearing = false)
include hc

theorem startClear_expired (hl : challengeLive s = false) : startClear s =
    raise .warning 0x1A 0x0024 [] { s with skein := { s.skein with chal := none, clrRes := 3 } } := by
  unfold startClear
  simp only [hc, hl, Bool.not_false, Bool.false_eq_true, if_false, if_true]

theorem startClear_bad (hl : challengeLive s = true) (ht : tokenOk s = false) : startClear s =
    raise .warning 0x1A 0x0024 [] { s with skein := { s.skein with chal := none, clrRes := 2 } } := by
  unfold startClear
  simp only [hc, hl, ht, Bool.not_false, Bool.not_true, Bool.false_eq_true, if_false, if_true]

/-- What the buffer held, written out as a clear starts. -/
def bufferWritten (s : State) : State := s.skein.buffer.foldl (fun s r => writeRecord r s) { s with skein := { s.skein with chal := none } }

theorem startClear_good (hl : challengeLive s = true) (ht : tokenOk s = true) (hn : clearsHeld s.skein.ring < 4096) : startClear s =
    (let u := bufferWritten s
     { u with skein := { u.skein with buffer := [], clearing := true, lastBeforeClear := u.skein.seq, seq := u.skein.seq + 1 } }) := by
  have hn' : ¬ 4096 ≤ clearsHeld s.skein.ring := by omega
  refine (if_neg (by rw [hc]; decide)).trans ?_
  refine (if_neg (by rw [hl]; decide)).trans ?_
  refine (if_neg (by rw [ht]; decide)).trans ?_
  exact (if_neg hn').trans rfl

end

theorem bufferWritten_spec (s : State) : let v := bufferWritten s
    v.skein.seq = s.skein.seq ∧ v.skein.chal = none ∧ v.core = s.core ∧ v.outs = s.outs ∧ v.sys = s.sys := by
  have hskein : ∀ (r : Record) (t : State), (writeRecord r t).skein.seq = t.skein.seq ∧ (writeRecord r t).skein.chal = t.skein.chal := by
    intro r t
    unfold writeRecord
    split
    · exact ⟨rfl, rfl⟩
    · rw [Skein.eq_of_settled (settled_bump _ _ t)]
      exact ⟨rfl, rfl⟩
  refine ⟨?_, ?_, by simp [bufferWritten], by simp [bufferWritten], by simp [bufferWritten]⟩
  · exact foldl_keeps (fun s => s.skein.seq) (fun t r => (hskein r t).1) _ _
  · exact foldl_keeps (fun s => s.skein.chal) (fun t r => (hskein r t).2) _ _

theorem writeReg_sknKey (who : Requester) (n : Fin 16) (v : Word) (s : State) : writeReg who (0x001A0080 + 4 * n.val) v s =
    guarded 3 (decide (v ≠ SMap.get s.skein.key 0 n.val)) (fun s => done (writeSknKey n.val v s)) s := by
  have hn := n.isLt
  have hblock : (0x001A0080 + 4 * n.val) / 65536 = 0x1A := by omega
  have hoff : (0x001A0080 + 4 * n.val) % 65536 = 0x80 + 4 * n.val := by omega
  have hreg : (0x80 + 4 * n.val - 0x80) / 4 = n.val := by omega
  have hlane : noLane s (0x001A0080 + 4 * n.val) = false := by rw [noLane, hblock]; rfl
  have hwide : wideAt s (0x001A0080 + 4 * n.val) = none := by
    unfold wideAt
    split
    case h_9 => rfl
    all_goals omega
  have hhi : loOfHi (0x001A0080 + 4 * n.val) = none := by
    unfold loOfHi
    rw [if_neg]
    simp
    omega
  have hcount : counterIndex (perReq s who) (0x001A0080 + 4 * n.val) = none := by
    simp [counterIndex, hblock, hoff]
    omega
  have hskein : writeReg who (0x001A0080 + 4 * n.val) v s = writeSkein who (0x80 + 4 * n.val) v s := by
    simp only [writeReg, hlane, hwide, hhi, hcount, hblock, hoff, Option.isSome_none, Bool.false_eq_true, if_false]
  have htoken : (decide (0x40 ≤ 0x80 + 4 * n.val) && decide (0x80 + 4 * n.val < 0x80)) = false := by simp
  have hkey : (decide (0x80 ≤ 0x80 + 4 * n.val) && decide (0x80 + 4 * n.val < 0xC0)) = true := by
    simp
    omega
  rw [hskein]
  unfold writeSkein
  dsimp only
  split
  case h_4 => simp only [htoken, hkey, hreg, Bool.false_eq_true, if_false, if_true]
  all_goals omega

theorem sknKeyWrite_runs {r : Req} {n : Fin 16} {x : Word} {s : State} (h : Taken r true true s)
    (hl : lockedBit (arrived r s) 3 = false) :
    exec (.sknKeyWrite r n x) s = .next (answer r (.ack []) (writeSknKey n.val x (arrived r s))) := by
  rw [exec_sknKeyWrite, execSknKeyWrite, asWrite, serve_taken _ _ _ _ _ h, writeReg_sknKey, guarded, hl]
  rfl

theorem sknKeyWrite_locked {r : Req} {n : Fin 16} {x : Word} {s : State} (h : Taken r true true s)
    (hl : lockedBit (arrived r s) 3 = true) (hx : x ≠ SMap.get (arrived r s).skein.key 0 n.val) :
    exec (.sknKeyWrite r n x) s = .next (answer r (.nak .locked 0) (bump 0x00010014 0 (arrived r s))) := by
  rw [exec_sknKeyWrite, execSknKeyWrite, asWrite, serve_taken _ _ _ _ _ h, writeReg_sknKey, guarded, hl, decide_eq_true hx]
  rfl

/-! ### The challenge expires, and a clear ends (R376) -/

section
variable {t : Time} {s : State}

theorem challengeExpiry_runs (hs : (advanceTo t s).skein.chal.isSome = true)
    (ht : (advanceTo t s).skein.chalAt.toNat + 60000000000 ≤ (advanceTo t s).sun.time.toNat) : exec (.skeinChallengeExpiry t) s =
    .next { advanceTo t s with skein := { (advanceTo t s).skein with chal := none } } := by
  have hdead : challengeLive (advanceTo t s) = false := by
    unfold challengeLive
    rw [decide_eq_false (by omega), Bool.and_false]
  refine congrArg Host.Outcome.next (if_pos ?_)
  rw [hs, hdead]
  rfl

theorem challengeExpiry_stands (h : challengeLive (advanceTo t s) = true) :
    exec (.skeinChallengeExpiry t) s = .next (advanceTo t s) := by
  refine congrArg Host.Outcome.next (if_neg ?_)
  rw [h, Bool.not_true, Bool.and_false]
  decide

theorem skeinClearDone_stands (h : distaffRuns (advanceTo t s) = false) : exec (.skeinClearDone t) s = .next (advanceTo t s) :=
  congrArg Host.Outcome.next (if_neg (by rw [h]; decide))

theorem skeinClearDone_runs (h : distaffRuns (advanceTo t s) = true) : exec (.skeinClearDone t) s = .next (clearDone (advanceTo t s)) :=
  congrArg Host.Outcome.next (if_pos h)

end

/-- The clear record, as raised: it names the last SEQ before the clear and what was erased at each severity. -/
def clearRaised (s : State) : Raised :=
  let gone := s.skein.ring.filter fun e => cleared s.skein.lastBeforeClear e.2
  let count := fun (v : Severity) => BitVec.ofNat 32 (gone.filter fun e => decide (e.2.ev.sev = v)).length
  { makeRecord .critical 0x1A 0x0000
      [lo32 s.skein.lastBeforeClear, hi32 s.skein.lastBeforeClear, count .critical, count .error, count .warning, count .notice,
        count .trace] s with clear := true }

theorem clearDone_eq {s : State} (h : s.skein.clearing = true) : clearDone s =
    (let kept := s.skein.ring.filter fun e => !cleared s.skein.lastBeforeClear e.2
     let n := numbered (s.skein.lastBeforeClear + 1) (clearRaised s) s
     eventRecord n.1 { n.2 with
       skein := { n.2.skein with ring := SMap.insert kept (firstFree kept 0) n.1, clearing := false, clrRes := 1 }
       upd := { n.2.upd with critical := n.2.upd.critical || decide (n.2.upd.step = .trial) } }) := by
  unfold clearDone
  rw [h]
  rfl

theorem clearDone_spec {s : State} (h : s.skein.clearing = true) :
    let kept := s.skein.ring.filter fun e => !cleared s.skein.lastBeforeClear e.2
    let v := clearDone s
    ∃ r : Record, v.skein.clearing = false ∧ v.skein.clrRes = 1 ∧ r.seq = s.skein.lastBeforeClear + 1 ∧ r.ev.sev = .critical ∧
      r.ev.clear = true ∧ v.skein.ring = SMap.insert kept (firstFree kept 0) r ∧ v.skein.buffer = s.skein.buffer ∧
      v.skein.seq = s.skein.seq ∧ v.core = s.core ∧ (trigAddrs s 0x1A 0 = [] → v.outs = s.outs ∧ v.sys = s.sys) := by
  have hskein := Skein.eq_of_settled (settled_numbered (s.skein.lastBeforeClear + 1) (clearRaised s) s)
  have hplain : trigAddrs s 0x1A 0 = [] → (numbered (s.skein.lastBeforeClear + 1) (clearRaised s) s).2 = s := fun ha =>
    (numbered_plain (e := clearRaised s) _ s ha (show (clearRaised s).args.length ≤ 12 from (by decide : 7 ≤ 12))).1
  have hcore : (numbered (s.skein.lastBeforeClear + 1) (clearRaised s) s).2.core = s.core := by simp
  dsimp only
  rw [clearDone_eq h]
  have hseq : (numbered (s.skein.lastBeforeClear + 1) (clearRaised s) s).1.seq = s.skein.lastBeforeClear + 1 := rfl
  have hev : (numbered (s.skein.lastBeforeClear + 1) (clearRaised s) s).1.ev = clearRaised s := rfl
  generalize numbered (s.skein.lastBeforeClear + 1) (clearRaised s) s = n at *
  refine ⟨n.1, by simp, by simp, hseq, by rw [hev]; rfl, by rw [hev]; rfl, by simp, ?_, ?_, ?_, fun ha => ?_⟩
  · simp
    rw [hskein]
  · simp
    rw [hskein]
  · simp [hcore]
  · simp [hplain ha]

theorem not_cleared_of_clear {last : BitVec 64} {r : Record} (h : r.ev.clear = true) : cleared last r = false := by
  unfold cleared
  rw [h]
  rfl

theorem cleared_last {r : Record} (h : r.ev.clear = false) : cleared r.seq r = true := by
  unfold cleared
  rw [h, BitVec.sub_self]
  rfl

/-- Settles O55: the writer, the flash, and the clear, each from what its command does to the Skein. -/
theorem skeinKeepsRecords : Obligations.SkeinKeepsRecords := by
  unfold Obligations.SkeinKeepsRecords
  refine ⟨fun t s => ⟨fun e rest hp hr hb ha hl =>
        ⟨_, (oldestNumbered e rest (advanceTo t s)).1, recordReceive_buffered hp hr hb, buffered_spec rest (advanceTo t s) ha hl⟩,
      fun e rest hp hr hb => ⟨_, recordReceive_full hp hr hb, dropped_spec _ rest (advanceTo t s)⟩,
      fun hp hc hre hb hf hq hlen => ⟨fun r rest hbuf hcrit => ?critical, fun r rest hbuf hnone hroom => ?oldest⟩, skeinFlashWrite_idle⟩,
    fun r n x s h => ⟨?newchal, fun hc hl => ?expired, fun hc hl ht => ?bad, fun hc hl ht hn => ?good, fun hl => ?key, fun hl hx => ?locked⟩,
    fun t s => ⟨fun hs ht => ⟨_, challengeExpiry_runs hs ht, rfl⟩, challengeExpiry_stands, skeinClearDone_stands, fun hd hc => ?done⟩⟩
  case critical =>
    obtain ⟨b, hrun⟩ := skeinFlashWrite_runs hp hc hre hb hf hq ((congrArg nextRecord hbuf).trans (nextRecord_critical hcrit))
    exact ⟨_, hrun, written_spec b hlen (.inl hcrit)⟩
  case oldest =>
    obtain ⟨b, hrun⟩ := skeinFlashWrite_runs hp hc hre hb hf hq ((congrArg nextRecord hbuf).trans (nextRecord_oldest hnone))
    obtain ⟨hring, hbuffer, hseq, -⟩ := written_spec (r := r) (rest := rest) b hlen (.inr hroom)
    exact ⟨_, hrun, hring, hbuffer, hseq⟩
  case newchal => exact ⟨_, sknCtrlNewchal_runs h, rfl, rfl, newChallenge_live _, rfl⟩
  case expired =>
    obtain ⟨e, he, hsev, hsource, hcode, -⟩ := raise_raises_full .warning 0x1A 0x0024 []
      { arrived r s with skein := { (arrived r s).skein with chal := none, clrRes := 3 } }
    have hrun := sknCtrlClear_runs h
    rw [startClear_expired hc hl] at hrun
    exact ⟨_, hrun, rfl, rfl, hc, rfl, rfl, e, he, hsev, hsource, hcode⟩
  case bad =>
    have hrun := sknCtrlClear_runs h
    rw [startClear_bad hc hl ht] at hrun
    exact ⟨_, hrun, rfl, rfl, rfl, hc, rfl⟩
  case good =>
    have hrun := sknCtrlClear_runs h
    rw [startClear_good hc hl ht hn] at hrun
    obtain ⟨hseq, hchal, hcore, houts, hsys⟩ := bufferWritten_spec (arrived r s)
    exact ⟨_, hrun, rfl, rfl, hchal, rfl, hseq, congrArg (· + 1) hseq, hcore, houts, hsys⟩
  case key =>
    obtain ⟨e, he, hsev, hsource, hcode, -⟩ := raise_raises_full .warning 0x1A (BitVec.ofNat 16 (0x80 + 4 * n.val)) []
      { arrived r s with skein := { (arrived r s).skein with key := SMap.put (arrived r s).skein.key 0 n.val x } }
    exact ⟨_, sknKeyWrite_runs h hl, rfl, SMap.get_put_same _ _ _ _, fun m hm => SMap.get_put_ne _ _ _ hm, e, he, hsev, hsource, hcode⟩
  case locked =>
    have hkey : (bump 0x00010014 0 (arrived r s)).skein.key = (arrived r s).skein.key := by
      rw [Skein.eq_of_settled (settled_bump 0x00010014 0 (arrived r s))]
    exact ⟨_, sknKeyWrite_locked h hl hx, rfl, hkey⟩
  case done =>
    obtain ⟨r, hclearing, hres, hseq, hsev, hclear, hring, hbuf, hseq', hcore, hplain⟩ := clearDone_spec hc
    refine ⟨_, r, skeinClearDone_runs hd, hclearing, hres, hseq, hsev, hclear, hring, fun e he hcl => ?_, fun e he hcl hlast hkept => ?_, hbuf,
      hseq', hcore, hplain⟩
    · exact List.mem_filter.2 ⟨he, by rw [not_cleared_of_clear hcl]; rfl⟩
    · have := (List.mem_filter.1 hkept).2
      rw [← hlast, cleared_last hcl] at this
      exact absurd this (by decide)

end Sys2Proof.Machine
end

section
/-! PROOFS. The panel's frames and its charge balance (R401 to R406). -/
namespace Sys2Proof.Machine
open Sys2Proof.Safety

/-! ### Pixels, and maps by pixel -/

theorem mem_pixels {j : PanelJob} {p : Nat} : p ∈ pixels j ↔ ∃ y < j.h, ∃ x < j.w, 1280 * (j.y + y) + j.x + x = p := by
  simp [pixels]

/-- Inside the panel's widest line, the pixels of a region are all different. -/
theorem pixels_nodup {j : PanelJob} (h : j.x + j.w ≤ 1280) : (pixels j).Nodup := by
  unfold pixels
  refine List.nodup_flatMap.2 ⟨fun y _ => List.nodup_range.map fun a b (hab : _ = _) => by omega, ?_⟩
  refine List.pairwise_lt_range.imp fun {y z} (hyz : y < z) p hy hz => ?_
  obtain ⟨a, ha, rfl⟩ := List.mem_map.1 hy
  obtain ⟨b, hb, hab⟩ := List.mem_map.1 hz
  have ha := List.mem_range.1 ha
  have hb := List.mem_range.1 hb
  omega

/-- Writing a value for each key of a list. -/
theorem get_foldl_put {α : Type} [DecidableEq α] (d : α) (f : Nat → α) (l : List Nat) (m : SMap α) (p : Nat) :
    SMap.get (l.foldl (fun m p => SMap.put m d p (f p)) m) d p = if p ∈ l then f p else SMap.get m d p := by
  induction l generalizing m with
  | nil => rfl
  | cons q l ih =>
    rw [List.foldl_cons, ih]
    by_cases hl : p ∈ l
    · rw [if_pos hl, if_pos (List.mem_cons_of_mem _ hl)]
    · rw [if_neg hl]
      by_cases hq : p = q
      · subst hq
        rw [SMap.get_put_same, if_pos List.mem_cons_self]
      · rw [SMap.get_put_ne _ _ _ hq, if_neg (by simp [hl, hq])]

/-! ### One frame of an update (R402) -/

/-- One pixel of a job's frame. -/
def drivePixel (j : PanelJob) (s : State) (p : Nat) : State :=
  let l := SMap.get s.panel.ledger 0 p + charge (codeAt s j p j.frame)
  setPanel { s.panel with
    ledger := SMap.put s.panel.ledger 0 p (clampInt (-32767) 32767 l)
    dcsat := s.panel.dcsat || decide (32767 < l.natAbs) } s

theorem driveFrame_eq (j : PanelJob) (s : State) : driveFrame j s = (pixels j).foldl (drivePixel j) s := rfl

/-- What a frame leaves: the ledger of each driven pixel moves by its own charge, nothing else but DCSAT. -/
structure Driven (j : PanelJob) (l : List Nat) (s v : State) : Prop where
  frame : v = { s with panel := { s.panel with ledger := v.panel.ledger, dcsat := v.panel.dcsat } }
  driven : ∀ p ∈ l, SMap.get v.panel.ledger 0 p =
    clampInt (-32767) 32767 (SMap.get s.panel.ledger 0 p + charge (codeAt s j p j.frame))
  others : ∀ p, p ∉ l → SMap.get v.panel.ledger 0 p = SMap.get s.panel.ledger 0 p

/-- A pixel's code looks at the committed levels and at its own ledger. -/
theorem codeAt_congr {s t : State} (j : PanelJob) {p : Nat} (k : Nat) (hc : s.panel.committed = t.panel.committed)
    (hl : SMap.get s.panel.ledger 0 p = SMap.get t.panel.ledger 0 p) : codeAt s j p k = codeAt t j p k := by
  unfold codeAt jobCodes levelFrom levelTo
  rw [hc, hl]

theorem drivePixels_driven (j : PanelJob) {l : List Nat} (hl : l.Nodup) (s : State) : Driven j l s (l.foldl (drivePixel j) s) := by
  induction l generalizing s with
  | nil => exact ⟨rfl, fun p hp => absurd hp List.not_mem_nil, fun _ _ => rfl⟩
  | cons q l ih =>
    obtain ⟨hq, hl⟩ := List.nodup_cons.1 hl
    obtain ⟨hframe, hdriven, hothers⟩ := ih hl (drivePixel j s q)
    have hsame : SMap.get (drivePixel j s q).panel.ledger 0 q =
      clampInt (-32767) 32767 (SMap.get s.panel.ledger 0 q + charge (codeAt s j q j.frame)) := SMap.get_put_same _ _ _ _
    have hne : ∀ p, p ≠ q → SMap.get (drivePixel j s q).panel.ledger 0 p = SMap.get s.panel.ledger 0 p :=
      fun p hp => SMap.get_put_ne _ _ _ hp
    refine ⟨by rw [List.foldl_cons, hframe]; rfl, fun p hp => ?_, fun p hp => ?_⟩
    · obtain rfl | hp := List.mem_cons.1 hp
      · exact (hothers _ hq).trans hsame
      · have hpq : p ≠ q := fun h => hq (h ▸ hp)
        rw [List.foldl_cons, hdriven p hp, hne p hpq, codeAt_congr j j.frame (s := drivePixel j s q) (t := s) rfl (hne p hpq)]
    · obtain ⟨hpq, hp⟩ := not_or.1 (mt List.mem_cons.2 hp)
      exact (hothers p hp).trans (hne p hpq)

theorem driveFrame_driven {j : PanelJob} (h : j.x + j.w ≤ 1280) (s : State) : Driven j (pixels j) s (driveFrame j s) :=
  drivePixels_driven j (pixels_nodup h) s

section
variable {t : Time} {temp : BitVec 8} {s : State}

theorem panelFrame_off (h : panelRuns (advanceTo t s) = false) : exec (.panelFrameBoundary t temp) s = .next (advanceTo t s) :=
  congrArg Host.Outcome.next (if_pos (by rw [h]; rfl))

end

/-- One update runs, nothing waits: the panel after a frame of it. -/
def framed (j : PanelJob) (s : State) : State := startPending [] [] (stepJob j s)

theorem stepJob_eq {j : PanelJob} (hk : j.frame < j.frames) (s : State) : stepJob j s =
    (let v := driveFrame j s
     let move := fun (l : List PanelJob) => l.map fun k => if k.gen = j.gen then { k with frame := k.frame + 1 } else k
     setPanel { v.panel with jobs := move v.panel.jobs, journal := move v.panel.journal } v) :=
  if_neg (by omega)

theorem framed_spec {j : PanelJob} {s : State} (hjobs : s.panel.jobs = [j]) (hk : j.frame < j.frames) (hw : j.x + j.w ≤ 1280) :
    let v := framed j s
    v.panel.jobs = [{ j with frame := j.frame + 1 }] ∧ v.panel.recovering = s.panel.recovering ∧ v.panel.committed = s.panel.committed ∧
      v.panel.flashLedger = s.panel.flashLedger ∧ v.panel.rails = s.panel.rails ∧ v = { s with panel := v.panel } ∧
      v.panel.ledger = (driveFrame j s).panel.ledger := by
  have hframe := (driveFrame_driven hw s).frame
  unfold framed startPending
  rw [stepJob_eq hk]
  generalize driveFrame j s = v at *
  have hjobs' : v.panel.jobs = [j] := by rw [hframe]; exact hjobs
  dsimp only [setPanel]
  refine ⟨?_, ?_, ?_, ?_, ?_, ?_, rfl⟩
  · rw [hjobs', List.map_cons, List.map_nil, if_pos rfl]
  all_goals rw [hframe]

theorem panelFrame_steps {t : Time} {temp : BitVec 8} {s : State} {j : PanelJob} (hruns : panelRuns (advanceTo t s) = true)
    (hrails : (advanceTo t s).panel.rails = true) (hjobs : (advanceTo t s).panel.jobs = [j])
    (hrec : (advanceTo t s).panel.recovering = []) (hqueue : (advanceTo t s).panel.queue = []) (hk : j.frame < j.frames)
    (hw : j.x + j.w ≤ 1280) : exec (.panelFrameBoundary t temp) s =
      .next (framed j (setPanel { (advanceTo t s).panel with temp := temp } (advanceTo t s))) := by
  rw [exec_panelFrameBoundary, execPanelFrameBoundary]
  generalize advanceTo t s = u at *
  have hone : (setPanel { u.panel with temp := temp } u).panel.jobs = [j] := hjobs
  have hrec' : (setPanel { u.panel with temp := temp } u).panel.recovering = [] := hrec
  have hqueue' : (setPanel { u.panel with temp := temp } u).panel.queue = [] := hqueue
  have hrails' : (setPanel { u.panel with temp := temp } u).panel.rails = true := hrails
  generalize setPanel { u.panel with temp := temp } u = w at *
  obtain ⟨hjobs', hrec'', -⟩ := framed_spec hone hk hw
  have hframe := (driveFrame_driven hw w).frame
  have hstep : stepFrame w = stepJob j w ∧ (stepJob j w).panel.queue = [] := by
    have hkeep : (stepJob j w).panel.recovering = [] ∧ (stepJob j w).panel.queue = [] := by
      rw [stepJob_eq hk, hframe]
      exact ⟨hrec', hqueue'⟩
    refine ⟨?_, hkeep.2⟩
    unfold stepFrame
    rw [hone]
    simp only [List.foldl_cons, List.foldl_nil, hkeep.1]
  have hbusy : ((framed j w).panel.jobs.isEmpty && (framed j w).panel.recovering.isEmpty && (framed j w).panel.idleFrom.isNone) = false := by
    rw [hjobs']
    rfl
  simp only [hruns, Bool.not_true, Bool.false_eq_true, if_false, hrails', hstep.1, hstep.2]
  exact congrArg Host.Outcome.next (if_neg (by rw [← framed, hbusy]; decide))

/-! ### An update completes (R402, R403, R406) -/

/-- A flash burst that is admitted, at once or by now, is only the Tally's concern. -/
theorem burst_go {who : Nat} {cur : Option Nat} {s : State} (hwho : who ≠ 1) (h : (∃ b, cur = some b ∧ waits s 4 (.flash who b) = false) ∨
    (cur = none ∧ (ledger s 4).queue = [] ∧ fits s 4 (flashClaim who s.tally.bursts) = true)) :
    ∃ b y, burst who cur s = (true, b, { s with tally := y }) := by
  obtain ⟨b, rfl, hw⟩ | ⟨rfl, hq, hf⟩ := h
  · exact ⟨_, s.tally, by simp only [burst, hw]; rfl⟩
  · have hq' : (ledger (burstNumbered s) 4).queue = [] := hq
    have hf' : fits (burstNumbered s) 4 (flashClaim who s.tally.bursts) = true := hf
    have hadmit : submit 4 (flashClaim who s.tally.bursts) (burstNumbered s) = enter 4 (flashClaim who s.tally.bursts) (burstNumbered s) := by
      rw [submit_admits hq' hf']
      exact if_neg hwho
    have hholds : holds (enter 4 (flashClaim who s.tally.bursts) (burstNumbered s)) 4 (.flash who s.tally.bursts) = true :=
      holds_enter _ (flashClaim who s.tally.bursts) _
    have hframe : enter 4 (flashClaim who s.tally.bursts) (burstNumbered s) =
        { s with tally := (enter 4 (flashClaim who s.tally.bursts) (burstNumbered s)).tally } := by
      apply State.eq_of_parts <;> simp [burstNumbered]
    simp only [burst, burstNumbered] at hadmit hholds hframe ⊢
    rw [hadmit, hholds, hframe]
    exact ⟨_, _, rfl⟩

/-- Stress is all that a finished update adds. -/
theorem addStress_frame (j : PanelJob) (s : State) :
    addStress j s = { s with panel := { s.panel with stress := (addStress j s).panel.stress } } := by
  unfold addStress
  generalize pixels j = l
  induction l generalizing s with
  | nil => rfl
  | cons p l ih =>
    rw [List.foldl_cons, ih]
    split <;> rfl

theorem levelTo_tally (s : State) (y : Tally) (j : PanelJob) (p : Nat) : levelTo { s with tally := y } j p = levelTo s j p := rfl

/-- Update `n`, finished: its region stands in the flash panel store. -/
def completed (n : Nat) (j : PanelJob) (s : State) : State :=
  let levels := (pixels j).map fun p => (p, levelTo s j p)
  let s := storeRegion j (addStress j s)
  let jobs := s.panel.jobs.eraseIdx n
  setPanel { s.panel with
    jobs := jobs, committed := levels.foldl (fun m e => SMap.put m 0 e.1 e.2) s.panel.committed
    idleFrom := if jobs.isEmpty && s.panel.recovering.isEmpty then some s.sun.time else s.panel.idleFrom } s

theorem updateComplete_runs {t : Time} {n : Nat} {s : State} {j : PanelJob} (hruns : panelRuns (advanceTo t s) = true)
    (hj : (advanceTo t s).panel.jobs[n]? = some j) (hk : j.frames ≤ j.frame)
    (hburst : (∃ b, j.burst = some b ∧ waits (advanceTo t s) 4 (.flash 3 b) = false) ∨ (j.burst = none ∧
      (ledger (advanceTo t s) 4).queue = [] ∧ fits (advanceTo t s) 4 (flashClaim 3 (advanceTo t s).tally.bursts) = true)) :
    ∃ y, exec (.panelUpdateComplete t n) s = .next (completed n j { advanceTo t s with tally := y }) := by
  rw [exec_panelUpdateComplete, execPanelUpdateComplete]
  generalize advanceTo t s = u at *
  obtain ⟨b, y, hgo⟩ := burst_go (by decide) hburst
  have hk' : ¬ j.frame < j.frames := by omega
  refine ⟨y, ?_⟩
  simp only [hj, hk', hruns, hgo, decide_false, Bool.not_true, Bool.or_false, Bool.false_eq_true, if_false]
  rfl

theorem completed_spec (n : Nat) (j : PanelJob) (s : State) : let v := completed n j s
    v.panel.jobs = s.panel.jobs.eraseIdx n ∧ v.panel.journal = s.panel.journal.filter (fun k => decide (k.gen ≠ j.gen)) ∧
      (∀ p, SMap.get v.panel.committed 0 p = if p ∈ pixels j then levelTo s j p else SMap.get s.panel.committed 0 p) ∧
      (∀ p, SMap.get v.panel.flashLedger 0 p = if p ∈ pixels j then SMap.get s.panel.ledger 0 p else SMap.get s.panel.flashLedger 0 p) ∧
      v.panel.ledger = s.panel.ledger ∧ v = { s with panel := v.panel } := by
  have hframe := addStress_frame j s
  unfold completed storeRegion
  generalize hlevel : levelTo s j = level
  generalize addStress j s = v at *
  dsimp only [setPanel]
  rw [hframe]
  refine ⟨rfl, rfl, fun p => ?_, get_foldl_put 0 _ _ _, rfl, rfl⟩
  rw [List.foldl_map]
  exact get_foldl_put 0 level _ _ p

/-- Settles O60: a frame is a fold over different pixels, a completion stores the whole region. -/
theorem panelKeepsBalance : Obligations.PanelKeepsBalance := by
  unfold Obligations.PanelKeepsBalance
  refine fun t temp j s => ⟨panelFrame_off, fun hruns hrails hjobs hrec hqueue hk hw => ?frame, fun n hruns hj hk hburst => ?done⟩
  case frame =>
    obtain ⟨hjobs', -, hcommitted, hflash, -, hstate, hledger⟩ :=
      framed_spec (s := setPanel { (advanceTo t s).panel with temp := temp } (advanceTo t s)) hjobs hk hw
    obtain ⟨-, hdriven, hothers⟩ := driveFrame_driven hw (setPanel { (advanceTo t s).panel with temp := temp } (advanceTo t s))
    rw [← hledger] at hdriven hothers
    exact ⟨_, panelFrame_steps hruns hrails hjobs hrec hqueue hk hw, hjobs', hdriven, hothers, hcommitted, hflash, hstate⟩
  case done =>
    obtain ⟨y, hrun⟩ := updateComplete_runs hruns hj hk hburst
    obtain ⟨hjobs, hjournal, hcommitted, hflash, hledger, hstate⟩ := completed_spec n j { advanceTo t s with tally := y }
    refine ⟨_, hrun, hjobs, hjournal, fun p hp => ?_, fun p hp => ?_, hledger, by rw [hstate], by rw [hstate]⟩
    · rw [hcommitted, hflash, if_pos hp, if_pos hp]
      exact ⟨rfl, rfl⟩
    · rw [hcommitted, hflash, if_neg hp, if_neg hp]
      exact ⟨rfl, rfl⟩

end Sys2Proof.Machine
end

section
/-! PROOFS. The panel's tables, requests, rails and recovery (R396 to R408). -/
namespace Sys2Proof.Machine
open Sys2Proof.Safety

/-! ### Tables (R400) -/

section
variable {t : Time} {w : WaveTable} {s : State}

theorem tableLoad_bad (h : tableOk w = false) : exec (.panelTableLoad t w) s =
    .next (raise .error 0x1B 0x0000 [8] (setPanel { (advanceTo t s).panel with notable := true } (advanceTo t s))) :=
  congrArg Host.Outcome.next (if_pos (by rw [h]; rfl))

theorem tableLoad_running (h : tableOk w = true) (h1 : (advanceTo t s).upd.step ≠ .staged) (h2 : (advanceTo t s).upd.step ≠ .switching) :
    exec (.panelTableLoad t w) s = .next (setPanel { (advanceTo t s).panel with table := w, notable := false } (advanceTo t s)) := by
  refine congrArg Host.Outcome.next ((if_neg (by rw [h]; decide)).trans ?_)
  cases hs : (advanceTo t s).upd.step <;> simp_all

theorem tableLoad_staged (h : tableOk w = true) (h1 : (advanceTo t s).upd.step = .staged) :
    exec (.panelTableLoad t w) s = .next (setPanel { (advanceTo t s).panel with nextTable := some w } (advanceTo t s)) := by
  refine congrArg Host.Outcome.next ((if_neg (by rw [h]; decide)).trans ?_)
  rw [h1]

end

/-- A record below CRITICAL is only the Skein's concern. -/
theorem raise_frame (v : Severity) (b : BitVec 8) (c : BitVec 16) (l : List Word) (s : State) (h : v ≠ .critical) :
    raise v b c l s = { s with skein := (raise v b c l s).skein } := by
  have hupd : (raise v b c l s).upd = s.upd := by
    have hcritical : (s.upd.critical || (decide (v = .critical) && decide (s.upd.step = .trial))) = s.upd.critical := by
      rw [decide_eq_false h, Bool.false_and, Bool.or_false]
    exact congrArg (fun c => { s.upd with critical := c }) hcritical
  apply State.eq_of_parts <;> simp
  exact hupd

/-! ### Requests (R404, R407) -/

/-- The word that PNL_REQ.GO writes. -/
def goWord (mode : BitVec 2) (w : BitVec 11) (h : BitVec 10) : Word :=
  0x80000000 ||| (mode.zeroExtend 32 <<< 29) ||| (w.zeroExtend 32 <<< 16) ||| h.zeroExtend 32

theorem field_eq_extract {n : Nat} (v : BitVec n) (hi lo : Nat) : field v hi lo = (v.extractLsb' lo (hi + 1 - lo)).toNat := by
  simp [field]

theorem bit_goWord (mode : BitVec 2) (w : BitVec 11) (h : BitVec 10) : bit (goWord mode w h) 31 = true := by
  simp [bit, goWord]

theorem mode_goWord (mode : BitVec 2) (w : BitVec 11) (h : BitVec 10) : BitVec.ofNat 2 (field (goWord mode w h) 30 29) = mode := by
  rw [field_eq_extract, BitVec.ofNat_toNat]
  ext i hi
  interval_cases i <;> simp [goWord]

theorem width_goWord (mode : BitVec 2) (w : BitVec 11) (h : BitVec 10) : BitVec.ofNat 11 (field (goWord mode w h) 26 16) = w := by
  rw [field_eq_extract, BitVec.ofNat_toNat]
  ext i hi
  interval_cases i <;> simp [goWord]

theorem height_goWord (mode : BitVec 2) (w : BitVec 11) (h : BitVec 10) : (goWord mode w h).truncate 10 = h := by
  ext i hi
  simp [goWord]

theorem writeReg_pnlReq (who : Requester) (mode : BitVec 2) (w : BitVec 11) (h : BitVec 10) (s : State) :
    writeReg who 0x001B0018 (goWord mode w h) s = panelRequest (perReq s who).pnlPos mode w h s := by
  have hpanel : writeReg who 0x001B0018 (goWord mode w h) s = writePanel who 0x18 (goWord mode w h) s := by
    simp [writeReg, noLane, perLaneBlock, wideAt, loOfHi, counterIndex]
  rw [hpanel]
  simp only [writePanel, bit_goWord, mode_goWord, width_goWord, height_goWord, if_true]

theorem pnlReqGo_runs {r : Req} {mode : BitVec 2} {w : BitVec 11} {h : BitVec 10} {s : State} (ht : Taken r true true s) :
    exec (.pnlReqGo r mode w h) s =
      (let a := panelRequest (perReq (arrived r s) r.who).pnlPos mode w h (arrived r s)
       .next (answer r a.1 a.2)) := by
  rw [exec_pnlReqGo, execPnlReqGo, asWrite, serve_taken _ _ _ _ _ ht, ← goWord, writeReg_pnlReq]

/-- The update that a request asks for. -/
def askedJob (pos : Word) (mode : BitVec 2) (w : BitVec 11) (h : BitVec 10) : PanelJob :=
  { x := field pos 10 0, y := field pos 25 16, w := w.toNat, h := h.toNat, mode := mode.toNat }

/-- Whether a request's region and mode are the panel's. -/
def jobFits (g : PanelDecl) (j : PanelJob) : Bool :=
  decide (1 ≤ j.w) && decide (1 ≤ j.h) && decide (j.x + j.w ≤ g.width) && decide (j.y + j.h ≤ g.height) && decide (j.mode < 3)

theorem jobFits_of {g : PanelDecl} {j : PanelJob} (h1 : 1 ≤ j.w) (h2 : 1 ≤ j.h) (h3 : j.x + j.w ≤ g.width) (h4 : j.y + j.h ≤ g.height)
    (h5 : j.mode < 3) : jobFits g j = true := by
  simp [jobFits, h3, h4, h5]
  omega

theorem jobFits_not {g : PanelDecl} {j : PanelJob} (h : j.w = 0 ∨ j.h = 0 ∨ g.width < j.x + j.w ∨ g.height < j.y + j.h ∨ j.mode = 3) :
    jobFits g j = false := by
  by_contra hfit
  simp [jobFits] at hfit
  omega

section
variable {pos : Word} {mode : BitVec 2} {w : BitVec 11} {h : BitVec 10} {s : State} {g : PanelDecl} (hg : s.panel.geom = some g)
include hg

theorem panelRequest_misfit (hfit : jobFits g (askedJob pos mode w h) = false) : panelRequest pos mode w h s = (.nak .badValue 0, s) := by
  unfold panelRequest
  refine if_pos ?_
  dsimp only
  rw [hg]
  exact congrArg (! ·) hfit

/-- A request that fits comes to the panel's own state. -/
theorem panelRequest_fitting (hfit : jobFits g (askedJob pos mode w h) = true) : panelRequest pos mode w h s =
    (let p := s.panel
     let j := askedJob pos mode w h
     let same := fun (k : PanelJob) => decide (k.x = j.x) && decide (k.y = j.y) && decide (k.w = j.w) && decide (k.h = j.h)
     if decide (s.sys.state = .dusk) || p.notable || !panelRuns s then (.nak .wrongState 0, s)
     else if p.journal.any fun k => overlaps j k && !p.jobs.any fun m => decide (m.gen = k.gen) then (.busy 100, s)
     else if p.queue.any same then
       (.ack [], setPanel { p with queue := p.queue.map fun k => if same k then { k with mode := j.mode } else k } s)
     else if 16 ≤ p.queue.length then (.busy 100, s)
     else (.ack [], wantRails (setPanel { p with queue := p.queue ++ [j] } s))) := by
  unfold panelRequest
  refine if_neg ?_
  dsimp only
  rw [hg]
  exact Bool.not_eq_true _ ▸ congrArg (! ·) hfit

theorem panelRequest_closed (hfit : jobFits g (askedJob pos mode w h) = true) (hc : s.panel.notable = true ∨ s.sys.state = .dusk) :
    panelRequest pos mode w h s = (.nak .wrongState 0, s) := by
  rw [panelRequest_fitting hg hfit]
  refine if_pos ?_
  obtain hc | hc := hc <;> simp [hc]

section
variable (hfit : jobFits g (askedJob pos mode w h) = true) (hday : s.sys.state ≠ .dusk) (htable : s.panel.notable = false)
  (hruns : panelRuns s = true) (hjournal : ∀ k ∈ s.panel.journal, overlaps (askedJob pos mode w h) k = false)
  (hqueue : ∀ k ∈ s.panel.queue, ¬(k.x = (askedJob pos mode w h).x ∧ k.y = (askedJob pos mode w h).y ∧
    k.w = (askedJob pos mode w h).w ∧ k.h = (askedJob pos mode w h).h))
include hfit hday htable hruns hjournal hqueue

theorem panelRequest_open : panelRequest pos mode w h s = if 16 ≤ s.panel.queue.length then (.busy 100, s)
    else (.ack [], wantRails (setPanel { s.panel with queue := s.panel.queue ++ [askedJob pos mode w h] } s)) := by
  rw [panelRequest_fitting hg hfit]
  refine (if_neg ?_).trans ((if_neg ?_).trans (if_neg ?_))
  · simp [hday, htable, hruns]
  · simp only [List.any_eq_true, not_exists, not_and]
    intro k hk
    rw [hjournal k hk, Bool.false_and]
    decide
  · simpa [and_assoc] using hqueue

end
end

/-- The rail claim changes nothing of the panel but that it is submitted. -/
theorem submit_panelClaim (s : State) :
    (submit 4 panelClaim s).panel = { s.panel with railClaim := (submit 4 panelClaim s).panel.railClaim } := by
  have hkept : ∀ v : State, v.panel = s.panel → v.panel = { s.panel with railClaim := v.panel.railClaim } := fun v h => by rw [h]
  have hrefused : ∀ v : State, v.panel = s.panel → (onRefused panelClaim.owner v).panel =
      { s.panel with railClaim := (onRefused panelClaim.owner v).panel.railClaim } := fun v h => by rw [← h]; rfl
  unfold submit
  split
  · exact hrefused s rfl
  split
  · exact hkept _ rfl
  split
  · have hpanel : (enter 4 panelClaim s).panel = s.panel := by simp
    exact hkept _ hpanel
  split
  · exact hrefused _ (by simp)
  · exact hkept _ (by simp)

theorem wantRails_panel (s : State) : (wantRails s).panel = { s.panel with railClaim := (wantRails s).panel.railClaim } := by
  have hgo : ∀ c : Bool, (if c = true then s else submit 4 panelClaim (setPanel { s.panel with railClaim := true } s)).panel =
      { s.panel with
        railClaim := (if c = true then s else submit 4 panelClaim (setPanel { s.panel with railClaim := true } s)).panel.railClaim } := by
    rintro (_ | _)
    · exact submit_panelClaim _
    · rfl
  exact hgo _

theorem writeReg_pnlVcom (who : Requester) (v : Word) (s : State) : writeReg who 0x001B000C v s =
    if 280 < field v 8 0 then refuse .badValue s else done { s with panel := { s.panel with vcom := v.truncate 9 } } := by
  simp [writeReg, noLane, perLaneBlock, wideAt, loOfHi, counterIndex, writePanel]

theorem pnlVcom_runs {r : Req} {x : Word} {s : State} (h : Taken r true true s) (hx : field x 8 0 ≤ 280) :
    exec (.pnlVcomWrite r x) s = .next (answer r (.ack [])
      { arrived r s with panel := { (arrived r s).panel with vcom := x.truncate 9 } }) := by
  rw [exec_pnlVcomWrite, execPnlVcomWrite, asWrite, serve_taken _ _ _ _ _ h, writeReg_pnlVcom, if_neg (by omega)]
  rfl

theorem pnlVcom_refused {r : Req} {x : Word} {s : State} (h : Taken r true true s) (hx : 280 < field x 8 0) :
    exec (.pnlVcomWrite r x) s = .next (answer r (.nak .badValue 0) (arrived r s)) := by
  rw [exec_pnlVcomWrite, execPnlVcomWrite, asWrite, serve_taken _ _ _ _ _ h, writeReg_pnlVcom, if_pos hx]
  rfl

/-! ### Rails (R396, R398) -/

section
variable {t : Time} {s : State}

theorem railsUp_runs (hr : panelRuns (advanceTo t s) = true) (hc : (advanceTo t s).panel.railClaim = true)
    (hh : holds (advanceTo t s) 4 .panel = true) : exec (.panelRailsUp t) s = .next { advanceTo t s with
      panel := { (advanceTo t s).panel with rails := true, idleFrom := some (advanceTo t s).sun.time } } :=
  congrArg Host.Outcome.next (if_pos (by rw [hr, hc, hh]; rfl))

theorem railsUp_waits (h : (advanceTo t s).panel.railClaim = false ∨ holds (advanceTo t s) 4 .panel = false) :
    exec (.panelRailsUp t) s = .next (advanceTo t s) :=
  congrArg Host.Outcome.next (if_neg (by obtain h | h := h <;> rw [h] <;> simp))

theorem railIdle_runs {i : Time} (hi : (advanceTo t s).panel.idleFrom = some i) (hr : (advanceTo t s).panel.rails = true)
    (hj : (advanceTo t s).panel.jobs = []) (hrec : (advanceTo t s).panel.recovering = [])
    (ht : i.toNat + 1000000000 ≤ (advanceTo t s).sun.time.toNat) : exec (.panelRailIdle t) s = .next (railsOff (advanceTo t s)) := by
  rw [exec_panelRailIdle, execPanelRailIdle]
  generalize advanceTo t s = u at *
  have hpassed : passed u i second = true := decide_eq_true ht
  rw [hi]
  exact congrArg Host.Outcome.next (if_pos (by rw [hr, hj, hrec, hpassed]; rfl))

theorem railFault_runs (h : (advanceTo t s).panel.rails = true) : exec (.panelRailFault t) s =
    .next (let v := panelAbandon (advanceTo t s)
      raise .error 0x1B 0x0000 [16] (setPanel { v.panel with railf := true, railFaultAt := some v.sun.time } v)) :=
  congrArg Host.Outcome.next (if_neg (by rw [h]; decide))

theorem railFault_off (h : (advanceTo t s).panel.rails = false) : exec (.panelRailFault t) s = .next (advanceTo t s) :=
  congrArg Host.Outcome.next (if_pos (by rw [h]; rfl))

end

theorem railsOff_spec (s : State) : let v := railsOff s
    v.panel = { s.panel with rails := false, railClaim := false, idleFrom := none } ∧ holds v 4 .panel = false ∧
      v = { s with panel := v.panel, tally := v.tally } := by
  refine ⟨by simp [railsOff, setPanel], by simp [railsOff], ?_⟩
  apply State.eq_of_parts <;> simp

theorem panelAbandon_spec (s : State) : let v := panelAbandon s
    v.panel = { s.panel with jobs := [], recovering := [], rails := false, railClaim := false, idleFrom := none } ∧
      holds v 4 .panel = false ∧ v = { s with panel := v.panel, tally := v.tally } := by
  obtain ⟨hpanel, hholds, -⟩ := railsOff_spec (unflash 3 (setPanel { s.panel with jobs := [], recovering := [] } s))
  refine ⟨?_, hholds, ?_⟩
  · rw [panelAbandon, hpanel]
    simp [setPanel]
  · apply State.eq_of_parts <;> simp

/-! ### Recovery (R408) -/

section
variable {t : Time} {s : State} {j : PanelJob}

theorem recovery_none (h : interrupted (advanceTo t s) = none) (b : Bool) : exec (.panelRecovery t b) s = .next (advanceTo t s) := by
  rw [exec_panelRecovery, execPanelRecovery]
  generalize advanceTo t s = u at *
  dsimp only
  rw [h]

/-- Once DAWN is past its self-test, an interrupted update is resolved. -/
theorem recovery_runs (hj : interrupted (advanceTo t s) = some j) (hr : panelRuns (advanceTo t s) = true)
    (hd : (advanceTo t s).sys.state = .dawn → (advanceTo t s).sys.dawn ≠ .supplies ∧ (advanceTo t s).sys.dawn ≠ .plls ∧
      (advanceTo t s).sys.dawn ≠ .selfTest) (b : Bool) : exec (.panelRecovery t b) s = .next
        (if b && decide (j.frames ≤ j.frame) then keepStored j (advanceTo t s) else wantRails (clearJob j (advanceTo t s))) := by
  rw [exec_panelRecovery, execPanelRecovery]
  generalize advanceTo t s = u at *
  have hlate : (decide (u.sys.state = .dawn) && (match u.sys.dawn with
      | .supplies | .plls | .selfTest => true
      | _ => false)) = false := by
    by_cases hstate : u.sys.state = .dawn
    · obtain ⟨h1, h2, h3⟩ := hd hstate
      cases hdawn : u.sys.dawn <;> simp_all
    · rw [decide_eq_false hstate, Bool.false_and]
  dsimp only
  rw [hj]
  refine congrArg Host.Outcome.next (if_neg fun hearly => ?_)
  rw [hr] at hearly
  exact absurd (hlate.symm.trans hearly) (by decide)

end

theorem get_rebuiltLedger (s : State) (j : PanelJob) (m : SMap Int) (p : Nat) : SMap.get (rebuiltLedger s j m) 0 p =
    if p ∈ pixels j then clampInt (-32767) 32767 (SMap.get s.panel.flashLedger 0 p + chargeSoFar s j p) else SMap.get m 0 p :=
  get_foldl_put 0 _ _ _ p

theorem keepStored_spec (j : PanelJob) (s : State) : let v := keepStored j s
    v.panel.journal = s.panel.journal.filter (fun k => decide (k.gen ≠ j.gen)) ∧
      (∀ p ∈ pixels j, SMap.get v.panel.committed 0 p = levelTo s j p ∧
        SMap.get v.panel.ledger 0 p = clampInt (-32767) 32767 (SMap.get s.panel.flashLedger 0 p + chargeSoFar s j p) ∧
        SMap.get v.panel.flashLedger 0 p = SMap.get v.panel.ledger 0 p) ∧
      (∀ p, p ∉ pixels j → SMap.get v.panel.committed 0 p = SMap.get s.panel.committed 0 p ∧
        SMap.get v.panel.ledger 0 p = SMap.get s.panel.ledger 0 p) ∧
      v = { s with panel := { s.panel with
        journal := v.panel.journal, committed := v.panel.committed, ledger := v.panel.ledger, flashLedger := v.panel.flashLedger
        stress := v.panel.stress } } := by
  have hframe := addStress_frame j s
  have hcommitted : ∀ p, SMap.get (keepStored j s).panel.committed 0 p =
      if p ∈ pixels j then levelTo s j p else SMap.get s.panel.committed 0 p := get_foldl_put 0 _ _ _
  have hledger : ∀ p, SMap.get (keepStored j s).panel.ledger 0 p = _ := get_rebuiltLedger s j s.panel.ledger
  have hflash : ∀ p, SMap.get (keepStored j s).panel.flashLedger 0 p = _ := get_rebuiltLedger s j s.panel.flashLedger
  refine ⟨rfl, fun p hp => ⟨?_, ?_, ?_⟩, fun p hp => ⟨?_, ?_⟩, ?_⟩
  · rw [hcommitted, if_pos hp]
  · rw [hledger, if_pos hp]
  · rw [hledger, hflash, if_pos hp, if_pos hp]
  · rw [hcommitted, if_neg hp]
  · rw [hledger, if_neg hp]
  · unfold keepStored
    dsimp only [setPanel]
    generalize addStress j s = v at *
    rw [hframe]

/-- The clear of an interrupted update joins the recoveries. -/
theorem clearJob_spec (j : PanelJob) (s : State) : let v := wantRails (clearJob j s)
    ∃ n, v.panel.recovering = s.panel.recovering ++ [n] ∧ n.stage = 1 ∧ n.gen = j.gen ∧ n.frame = 0 ∧ v.panel.journal = s.panel.journal ∧
      v.panel.committed = s.panel.committed ∧ v.core = s.core ∧ v.sys = s.sys := by
  have hpanel := wantRails_panel (clearJob j s)
  have hrec : ∃ n : PanelJob, (clearJob j s).panel.recovering = s.panel.recovering ++ [n] ∧ n.stage = 1 ∧ n.gen = j.gen ∧ n.frame = 0 :=
    ⟨_, rfl, rfl, rfl, rfl⟩
  obtain ⟨n, hn, hstage, hgen, hframe⟩ := hrec
  refine ⟨n, ?_, hstage, hgen, hframe, ?_, ?_, by simp, by simp⟩
  · rw [hpanel]
    exact hn
  · rw [hpanel]
    rfl
  · rw [hpanel]
    rfl

/-- Settles O59: what a table load and a request answer, and the rails and the recovery, each by its condition. -/
theorem panelRequestsAndSupply : Obligations.PanelRequestsAndSupply := by
  unfold Obligations.PanelRequestsAndSupply
  refine ⟨⟨fun t w s => ⟨fun h => ?bad, fun h h1 h2 => tableLoad_running h h1 h2, fun h h1 => tableLoad_staged h h1⟩,
      fun r mode w h g x s ht => ⟨fun hg h1 h2 h3 h4 h5 => ⟨fun hday htable hruns hjournal hqueue => ⟨fun hroom => ?go, fun hfull hmajor => ?busy⟩,
        fun hc => ?closed⟩, fun hg hbad => ?misfit, fun hx => ?vcom, fun hx => ?vcomBad⟩⟩,
    fun t s => ⟨railsUp_runs, railsUp_waits, fun i hi hr hj hrec ht => ?idle, fun h => ?fault, railFault_off, recovery_none,
      fun j hj hr hd => ⟨fun hk => ?kept, fun b hb => ?cleared⟩⟩⟩
  case bad =>
    have hraise := raise_frame .error 0x1B 0x0000 [8] (setPanel { (advanceTo t s).panel with notable := true } (advanceTo t s)) (by decide)
    exact ⟨_, tableLoad_bad h, rfl, rfl, hraise⟩
  case go =>
    have hfit := jobFits_of (j := askedJob (perReq (arrived r s) r.who).pnlPos mode w h) h1 h2 h3 h4 h5
    have hrun := pnlReqGo_runs (mode := mode) (w := w) (h := h) ht
    rw [panelRequest_open hg hfit hday htable hruns hjournal hqueue, if_neg (by omega)] at hrun
    refine ⟨_, hrun, rfl, ?_, ?_, ?_⟩
    · simp only [frame_answer]
      exact wantRails_panel _
    · simp
    · simp
  case busy =>
    have hfit := jobFits_of (j := askedJob (perReq (arrived r s) r.who).pnlPos mode w h) h1 h2 h3 h4 h5
    have hrun := pnlReqGo_runs (mode := mode) (w := w) (h := h) ht
    rw [panelRequest_open hg hfit hday htable hruns hjournal hqueue, if_pos hfull] at hrun
    refine ⟨_, hrun, ?_, by simp⟩
    simpa [Replied, answer, send] using hmajor
  case closed =>
    have hfit := jobFits_of (j := askedJob (perReq (arrived r s) r.who).pnlPos mode w h) h1 h2 h3 h4 h5
    have hrun := pnlReqGo_runs (mode := mode) (w := w) (h := h) ht
    rw [panelRequest_closed hg hfit hc] at hrun
    exact ⟨_, hrun, rfl, rfl⟩
  case misfit =>
    have hfit := jobFits_not (j := askedJob (perReq (arrived r s) r.who).pnlPos mode w h) hbad
    have hrun := pnlReqGo_runs (mode := mode) (w := w) (h := h) ht
    rw [panelRequest_misfit hg hfit] at hrun
    exact ⟨_, hrun, rfl, rfl⟩
  case vcom => exact ⟨_, pnlVcom_runs ht hx, rfl, rfl⟩
  case vcomBad => exact ⟨_, pnlVcom_refused ht hx, rfl, rfl⟩
  case idle => exact ⟨_, railIdle_runs hi hr hj hrec ht, railsOff_spec _⟩
  case fault =>
    obtain ⟨hpanel, hholds, hframe⟩ := panelAbandon_spec (advanceTo t s)
    have hrun := railFault_runs h
    generalize panelAbandon (advanceTo t s) = v at *
    obtain ⟨e, he, hsev, hsource, -, hargs⟩ := raise_raises_full .error 0x1B 0x0000 [16]
      (setPanel { v.panel with railf := true, railFaultAt := some v.sun.time } v)
    have hraise := raise_frame .error 0x1B 0x0000 [16] (setPanel { v.panel with railf := true, railFaultAt := some v.sun.time } v) (by decide)
    have hsun : v.sun = (advanceTo t s).sun := by rw [hframe]
    refine ⟨_, hrun, ?_, hholds, ⟨e, he, hsev, hsource, hargs⟩, hraise.trans ?_⟩
    · dsimp only [setPanel, raise]
      rw [hpanel, hsun]
    · dsimp only [setPanel, raise]
      rw [hframe]
  case kept =>
    have hrun := recovery_runs hj hr hd true
    rw [decide_eq_true hk] at hrun
    exact ⟨_, hrun, keepStored_spec j (advanceTo t s)⟩
  case cleared =>
    have hrun := recovery_runs hj hr hd b
    rw [if_neg (by obtain rfl | hb := hb <;> simp [*])] at hrun
    obtain ⟨n, h⟩ := clearJob_spec j (advanceTo t s)
    exact ⟨_, n, hrun, h⟩

end Sys2Proof.Machine
end

section
/-! PROOFS. The Ibyar relay (R378 to R383). -/
namespace Sys2Proof.Machine
open Sys2Proof.Safety

/-! ### What the relay holds (R382) -/

theorem relayOf_congr {s t : State} (h : t.upd.relays = s.upd.relays) (id : BitVec 64) : relayOf t id = relayOf s id := by
  unfold relayOf
  rw [h]

theorem relayOf_id {s : State} {id : BitVec 64} {r : Relay} (h : relayOf s id = some r) : r.id = id := by
  simpa using List.find?_some h

theorem relayOf_setRelay (r : Relay) (s : State) : relayOf (setRelay r s) r.id = some r := by
  have hsame : (fun x : Relay => decide ((if x.id = r.id then r else x).id = r.id)) = fun x => decide (x.id = r.id) := by
    funext x
    by_cases hx : x.id = r.id <;> simp [hx]
  unfold relayOf setRelay
  dsimp only
  split
  next hany =>
    obtain ⟨x, hx⟩ := Option.isSome_iff_exists.1 (List.find?_isSome.2 (List.any_eq_true.1 hany))
    have hxid : x.id = r.id := by simpa using List.find?_some hx
    rw [List.find?_map, Function.comp_def, hsame, hx, Option.map_some, if_pos hxid]
  next hnone =>
    have hnone' : s.upd.relays.find? (fun x => decide (x.id = r.id)) = none := by
      rw [List.find?_eq_none]
      exact fun x hx hd => hnone (List.any_eq_true.2 ⟨x, hx, hd⟩)
    rw [List.find?_append, hnone']
    simp

theorem relayOf_set {r : Relay} {id : BitVec 64} (h : r.id = id) (s : State) : relayOf (setRelay r s) id = some r :=
  h ▸ relayOf_setRelay r s

theorem setRelay_frame (r : Relay) (s : State) : setRelay r s = { s with upd := { s.upd with relays := (setRelay r s).upd.relays } } := rfl

theorem relayOf_dropRelay_same (id : BitVec 64) (s : State) : relayOf (dropRelay id s) id = none := by
  unfold relayOf dropRelay
  rw [List.find?_eq_none]
  intro r hr
  simpa using (List.mem_filter.1 hr).2

theorem relayOf_dropRelay_ne {id j : BitVec 64} (h : id ≠ j) (s : State) : relayOf (dropRelay j s) id = relayOf s id := by
  unfold relayOf dropRelay
  rw [List.find?_filter]
  congr 1
  funext r
  by_cases hr : r.id = id <;> simp [hr, h]

/-! ### A flash burst of the relay (R259, R382) -/

/-- A set is completed only while it is in reception. -/
theorem completeSet_idle {s : State} (h : s.upd.step ≠ .receiving) : completeSet s = s := by
  unfold completeSet
  split
  next hs _ => exact absurd hs h
  next => rfl

/-- What a burst leaves while no set is in flight. -/
structure BurstKeeps (s v : State) : Prop where
  core : v.core = s.core
  step : v.upd.step = s.upd.step
  man : v.upd.man = s.upd.man
  counter : Machine.counter v 0x001C0020 0 = Machine.counter s 0x001C0020 0
  sys : v.sys = s.sys

theorem BurstKeeps.trans {s u v : State} (h : BurstKeeps s u) (h' : BurstKeeps u v) : BurstKeeps s v :=
  ⟨h'.core.trans h.core, h'.step.trans h.step, h'.man.trans h.man, h'.counter.trans h.counter, h'.sys.trans h.sys⟩

theorem burstDone_keeps {s : State} (h : s.upd.step = .none) (n : Nat) :
    BurstKeeps s (burstDone n s) ∧ (burstDone n s).upd.relays = s.upd.relays := by
  have hidle : s.upd.step ≠ .receiving := by rw [h]; decide
  unfold burstDone
  split
  · rw [completeSet_idle (by exact hidle)]
    exact ⟨⟨rfl, rfl, rfl, rfl, rfl⟩, rfl⟩
  · exact ⟨⟨rfl, rfl, rfl, rfl, rfl⟩, rfl⟩

theorem submit_flash_keeps {s : State} (h : s.upd.step = .none) (n : Nat) : let v := submit 4 (flashClaim 1 n) s
    BurstKeeps s v ∧ v.upd.relays = s.upd.relays := by
  have hrefusal : Machine.counter (recordRefusal 4 (.flash 1 n) s) 0x001C0020 0 = Machine.counter s 0x001C0020 0 :=
    counter_bump_ne 0x00040044 0 0x001C0020 0 s (by decide)
  have hqueued : Machine.counter (enqueue 4 (flashClaim 1 n) s) 0x001C0020 0 = Machine.counter s 0x001C0020 0 :=
    (counter_bump_ne 0x00040040 0 0x001C0020 0 _ (by decide)).trans rfl
  have henter : (enter 4 (flashClaim 1 n) s).upd = s.upd := by simp
  unfold submit
  split
  · exact ⟨⟨rfl, rfl, rfl, rfl, rfl⟩, rfl⟩
  split
  · exact ⟨⟨by simp, by simp, by simp, rfl, by simp⟩, by simp⟩
  split
  · obtain ⟨hkeeps, hrelays⟩ := burstDone_keeps (s := enter 4 (flashClaim 1 n) s) (by rw [henter, h]) n
    exact ⟨.trans ⟨by simp, by rw [henter], by rw [henter], counter_congr (by simp) _ _, by simp⟩ hkeeps,
      hrelays.trans (congrArg Upd.relays henter)⟩
  split
  · have hrefused : onRefused (flashClaim 1 n).owner (recordRefusal 4 (flashClaim 1 n).owner s) = recordRefusal 4 (.flash 1 n) s := rfl
    rw [hrefused]
    exact ⟨⟨by simp, by simp, by simp, hrefusal, by simp⟩, by simp⟩
  · exact ⟨⟨by simp, by simp, by simp, hqueued, by simp⟩, by simp⟩

/-- A relay entry that a burst may have emptied again of what it was to store. -/
def SameEntry (q r : Relay) : Prop := q.id = r.id ∧ q.man = r.man ∧ q.chunks = r.chunks ∧ q.waiting = r.waiting

theorem loseBurst_keeps (s : State) (b : Burst) : BurstKeeps s (loseBurst s b) := by
  unfold loseBurst
  dsimp only
  split <;> exact ⟨rfl, rfl, rfl, rfl, rfl⟩

theorem loseBurst_entry {s : State} {b : Burst} {r : Relay} (hb : b.segment = true) (h : relayOf s b.id = some r) :
    ∃ q, relayOf (loseBurst s b) b.id = some q ∧ SameEntry q r := by
  have hid := relayOf_id h
  have hs : ∀ x y, relayOf { s with upd := { s.upd with bursts := x, held := y } } b.id = some r := fun _ _ => h
  unfold loseBurst
  dsimp only
  rw [hs]
  dsimp only
  rw [if_pos hb]
  exact ⟨{ r with segs := SMap.drop r.segs b.index }, relayOf_set (r := { r with segs := SMap.drop r.segs b.index }) hid _, rfl, rfl, rfl, rfl⟩

/-- A burst of the relay as it is numbered. -/
def burstAsked (id : BitVec 64) (k : Nat) (segment : Bool) (s : State) : State :=
  { s with
    tally := { s.tally with bursts := s.tally.bursts + 1 }
    upd := { s.upd with bursts := s.upd.bursts ++ [{ n := s.tally.bursts, id := id, index := k, segment := segment }] } }

theorem relayBurst_eq (id : BitVec 64) (k : Nat) (segment : Bool) (s : State) : relayBurst id k segment s =
    (let v := submit 4 (flashClaim 1 s.tally.bursts) (burstAsked id k segment s)
     if holds v 4 (.flash 1 s.tally.bursts) || waits v 4 (.flash 1 s.tally.bursts) then v
     else loseBurst v { n := s.tally.bursts, id := id, index := k, segment := segment }) := rfl

theorem relayBurst_keeps {s : State} (h : s.upd.step = .none) {id : BitVec 64} (k : Nat) {r : Relay} (hr : relayOf s id = some r) :
    let v := relayBurst id k true s
    BurstKeeps s v ∧ ∃ q, relayOf v id = some q ∧ SameEntry q r := by
  obtain ⟨hkeeps, hrelays⟩ := submit_flash_keeps (s := burstAsked id k true s) h s.tally.bursts
  have hkeeps' := BurstKeeps.trans (s := s) (u := burstAsked id k true s) ⟨rfl, rfl, rfl, rfl, rfl⟩ hkeeps
  dsimp only
  rw [relayBurst_eq]
  generalize submit 4 (flashClaim 1 s.tally.bursts) (burstAsked id k true s) = v at *
  dsimp only
  have hr' := (relayOf_congr hrelays id).trans hr
  split
  · exact ⟨hkeeps', r, hr', rfl, rfl, rfl, rfl⟩
  · exact ⟨hkeeps'.trans (loseBurst_keeps _ _), loseBurst_entry rfl hr'⟩

/-- A burst that fits behind an empty queue is admitted and acknowledged at once. -/
theorem relayBurst_admits {s : State} (hb : s.upd.bursts = []) (hq : (ledger s 4).queue = [])
    (hf : fits s 4 (flashClaim 1 s.tally.bursts) = true) (id : BitVec 64) (k : Nat) (segment : Bool) :
    ∃ y, relayBurst id k segment s = completeSet (send (.ibyarAck id k segment) { s with tally := y }) := by
  have henter : enter 4 (flashClaim 1 s.tally.bursts) (burstAsked id k segment s) =
      { burstAsked id k segment s with tally := (enter 4 (flashClaim 1 s.tally.bursts) (burstAsked id k segment s)).tally } := by
    apply State.eq_of_parts <;> simp
  have hholds : holds (enter 4 (flashClaim 1 s.tally.bursts) (burstAsked id k segment s)) 4 (.flash 1 s.tally.bursts) = true :=
    holds_enter _ (flashClaim 1 s.tally.bursts) _
  have hsubmit : submit 4 (flashClaim 1 s.tally.bursts) (burstAsked id k segment s) =
      burstDone s.tally.bursts (enter 4 (flashClaim 1 s.tally.bursts) (burstAsked id k segment s)) :=
    submit_admits hq hf
  rw [henter] at hsubmit hholds
  generalize (enter 4 (flashClaim 1 s.tally.bursts) (burstAsked id k segment s)).tally = y at *
  have hdone : burstDone s.tally.bursts { burstAsked id k segment s with tally := y } =
      completeSet (send (.ibyarAck id k segment) { s with tally := y }) := by
    have hupd : { s.upd with bursts := [] } = s.upd := by rw [← hb]
    unfold burstDone burstAsked
    simp only [hb, List.nil_append, List.find?_cons_of_pos, decide_true, List.filter_cons, List.filter_nil, ne_eq, not_true_eq_false,
      decide_false, Bool.false_eq_true, if_false, hupd]
  have htally : (completeSet (send (.ibyarAck id k segment) { s with tally := y })).tally = y := by simp
  refine ⟨y, ?_⟩
  rw [relayBurst_eq, hsubmit, hdone]
  refine if_pos ?_
  rw [holds_eq (s := { burstAsked id k segment s with tally := y }) (congrArg _ (ledger_congr htally 4)) (.flash 1 s.tally.bursts), Bool.or_eq_true]
  exact .inl hholds

/-! ### A manifest wholly held (R378, R382, R383) -/

theorem parseManifest_id {id : BitVec 64} {l : List Byte} {m : Manifest} (h : parseManifest id l = some m) : m.id = id ∧ 1 ≤ m.chunks := by
  unfold parseManifest at h
  dsimp only at h
  split at h
  next hc =>
    cases h
    simp only [Bool.and_eq_true, decide_eq_true_eq] at hc
    exact ⟨rfl, hc.1.1.2⟩
  next => cases h

theorem completeSet_waits {s : State} {m : Manifest} (hm : s.upd.man = some m) (h : s.upd.held.length < m.chunks) : completeSet s = s := by
  unfold completeSet
  split
  next m' _ hm' =>
    cases hm.symm.trans hm'
    rw [decide_eq_false (by omega)]
    rfl
  next => rfl

/-- The set in flight that another one replaces is gone. -/
def clearOld (m : Manifest) (s : State) : State :=
  match s.upd.man with
  | some old => if old.id = m.id then s else dropRelay old.id s
  | none => s

theorem clearOld_spec (m : Manifest) (s : State) : relayOf (clearOld m s) m.id = relayOf s m.id ∧ (clearOld m s).core = s.core ∧
    (clearOld m s).sys = s.sys := by
  unfold clearOld
  split
  · split
    · exact ⟨rfl, rfl, rfl⟩
    next hne => exact ⟨relayOf_dropRelay_ne (Ne.symm hne) s, rfl, rfl⟩
  · exact ⟨rfl, rfl, rfl⟩

/-- A set in flight as it begins. -/
def begun (m : Manifest) (s : State) : State :=
  { s with upd := { s.upd with
    man := some m, held := ((relayOf s m.id).map fun r => r.chunks.map (·.1)).getD [], refuse := 0, revertedBlocked := false
    activating := none, mode := 0 } }

theorem startSet_none {m : Manifest} {s : State} (ht : m.target = patus) (h : s.upd.step = .none) :
    startSet m s = completeSet (setStep .receiving (begun m (clearOld m s))) := by
  refine (if_neg (by simpa using ht)).trans ?_
  rw [h]
  rfl

theorem startSet_begins {m : Manifest} {s : State} {r : Relay} (ht : m.target = patus) (h : s.upd.step = .none)
    (hr : relayOf s m.id = some r) (hc : r.chunks = []) (hm : 1 ≤ m.chunks) : let v := startSet m s
    v.upd.step = .receiving ∧ v.upd.man = some m ∧ v.upd.held = [] ∧ v.upd.refuse = 0 ∧ relayOf v m.id = some r ∧ v.core = s.core ∧
      v.sys = s.sys := by
  obtain ⟨hrelay, hcore, hsys⟩ := clearOld_spec m s
  have hheld : (begun m (clearOld m s)).upd.held = [] := by
    unfold begun
    dsimp only
    rw [hrelay, hr, Option.map_some, Option.getD_some, hc]
    rfl
  have hupd : (setStep .receiving (begun m (clearOld m s))).upd = { (begun m (clearOld m s)).upd with step := .receiving } := by
    simp [setStep]
  have hwaits := completeSet_waits (s := setStep .receiving (begun m (clearOld m s))) (m := m) (by rw [hupd]; rfl)
    (by rw [hupd, hheld]; exact hm)
  dsimp only
  rw [startSet_none ht h, hwaits]
  refine ⟨by rw [hupd], by rw [hupd]; rfl, by rw [hupd]; exact hheld, by rw [hupd]; rfl, ?_, ?_, ?_⟩
  · refine (relayOf_congr (s := clearOld m s) ?_ _).trans (hrelay.trans hr)
    rw [hupd]
    rfl
  · rw [frame_setStep_core]
    exact hcore
  · rw [frame_setStep_sys]
    exact hsys

theorem manifestHeld_discards {id : BitVec 64} {l : List Byte} {s : State} (h : parseManifest id l = none ∨
    ∃ m, parseManifest id l = some m ∧ m.target = patus ∧ manifestSigned l m = false) :
    manifestHeld id l s = dropRelay id (bump 0x001C0020 0 s) := by
  unfold manifestHeld
  obtain h | ⟨m, h, ht, hs⟩ := h
  · rw [h]
  · rw [h]
    exact if_pos (by rw [ht, hs]; rfl)

theorem manifestHeld_starts {id : BitVec 64} {l : List Byte} {m : Manifest} {s : State} {r : Relay} (h : parseManifest id l = some m)
    (ht : m.target = patus) (hs : manifestSigned l m = true) (hstep : s.upd.step = .none) (hr : relayOf s id = some r)
    (hc : r.chunks = []) (hw : r.waiting = []) : let v := manifestHeld id l s
    v.upd.step = .receiving ∧ v.upd.man = some m ∧ v.upd.held = [] ∧ v.upd.refuse = 0 ∧ (∃ q, relayOf v id = some q ∧ q.man = some m) ∧
      v.core = s.core ∧ v.sys = s.sys := by
  obtain ⟨hid, hm⟩ := parseManifest_id h
  have hrid := relayOf_id hr
  have hset : relayOf (setRelay { r with man := some m, waiting := [] } s) m.id = some { r with man := some m, waiting := [] } :=
    relayOf_set (r := { r with man := some m, waiting := [] }) (hrid.trans hid.symm) s
  obtain ⟨hstep', hman, hheld, hrefuse, hrelay, hcore, hsys⟩ := startSet_begins ht (s := setRelay { r with man := some m, waiting := [] } s)
    hstep hset hc hm
  have hheldEq : manifestHeld id l s =
      (let v := startSet m (setRelay { r with man := some m, waiting := [] } s)
       if dnUp v then (List.range m.segments).foldl (fun s k => sendSegment id k s) v else v) := by
    unfold manifestHeld
    rw [h]
    refine (if_neg (by rw [hs]; simp)).trans ?_
    rw [hr]
    dsimp only
    rw [hw, List.foldl_nil]
  dsimp only
  rw [hheldEq]
  generalize startSet m (setRelay { r with man := some m, waiting := [] } s) = v at *
  have hsent : ∀ n, ((List.range n).foldl (fun s k => sendSegment id k s) v).upd = v.upd ∧
      ((List.range n).foldl (fun s k => sendSegment id k s) v).core = v.core ∧
      ((List.range n).foldl (fun s k => sendSegment id k s) v).sys = v.sys := fun n =>
    ⟨foldl_keeps (fun s => s.upd) (fun s k => by simp) _ _, foldl_keeps (fun s => s.core) (fun s k => by simp) _ _,
      foldl_keeps (fun s => s.sys) (fun s k => by simp) _ _⟩
  dsimp only
  split
  · obtain ⟨hupd, hcore', hsys'⟩ := hsent m.segments
    rw [hupd, hcore', hsys']
    exact ⟨hstep', hman, hheld, hrefuse, ⟨_, (relayOf_congr (congrArg Upd.relays hupd) id).trans (hid ▸ hrelay), rfl⟩, hcore, hsys⟩
  · exact ⟨hstep', hman, hheld, hrefuse, ⟨_, hid ▸ hrelay, rfl⟩, hcore, hsys⟩

/-! ### Manifests and chunks arrive (R382) -/

section
variable {t : Time} {id : BitVec 64} {k : Nat} {b : List Byte} {s : State}

theorem ibyarManifest_off (h : engineRuns (advanceTo t s) = false ∨ upUp (advanceTo t s) = false) :
    exec (.ibyarManifest t id k b) s = .next (advanceTo t s) :=
  congrArg Host.Outcome.next (if_pos (by obtain h | h := h <;> rw [h] <;> simp))

/-- The relay entry that a first segment opens. -/
def relayOpened (id : BitVec 64) (k : Nat) (b : List Byte) (s : State) : Relay := { id := id, segs := SMap.insert [] k b, newAt := s.sun.time }

section
variable (he : engineRuns (advanceTo t s) = true) (hup : upUp (advanceTo t s) = true)
include he hup

theorem ibyarManifest_opens (hr : relayOf (advanceTo t s) id = none) : exec (.ibyarManifest t id k b) s =
    .next (let u := advanceTo t s
      let v := relayBurst id k true (setRelay (relayOpened id k b u) u)
      match (relayOpened id k b u).bytes with
      | some l => manifestHeld id l v
      | none => v) := by
  rw [exec_ibyarManifest, execIbyarManifest]
  generalize advanceTo t s = u at *
  refine congrArg Host.Outcome.next ((if_neg (by rw [he, hup]; decide)).trans ?_)
  rw [hr]
  rfl

theorem ibyarChunk_waits {r : Relay} (hr : relayOf (advanceTo t s) id = some r) (hm : r.man = none) (hw : ∀ c ∈ r.waiting, c.1 ≠ k) :
    exec (.ibyarChunk t id k b) s = .next (setRelay { r with waiting := r.waiting ++ [(k, b)], newAt := (advanceTo t s).sun.time }
      (advanceTo t s)) := by
  have hnew : (r.waiting.any fun c => decide (c.1 = k)) = false := by simpa using hw
  rw [exec_ibyarChunk, execIbyarChunk]
  generalize advanceTo t s = u at *
  refine congrArg Host.Outcome.next ((if_neg (by rw [he, hup]; decide)).trans ?_)
  dsimp only
  rw [hr, Option.getD_some, hm]
  exact if_neg (by rw [hnew]; decide)

theorem ibyarChunk_runs {r : Relay} {m : Manifest} (hr : relayOf (advanceTo t s) id = some r) (hm : r.man = some m) :
    exec (.ibyarChunk t id k b) s = .next (takeChunk id m k b (advanceTo t s)) := by
  rw [exec_ibyarChunk, execIbyarChunk]
  generalize advanceTo t s = u at *
  refine congrArg Host.Outcome.next ((if_neg (by rw [he, hup]; decide)).trans ?_)
  dsimp only
  rw [hr, Option.getD_some, hm]

end
end

section
variable {id : BitVec 64} {m : Manifest} {k : Nat} {b : List Byte} {s : State} {r : Relay} (hr : relayOf s id = some r) (hk : k < m.chunks)
  (hf : SMap.find r.chunks k = none)
include hr hk hf

theorem takeChunk_bad (hl : m.lists k b = false) : takeChunk id m k b s = send (.ibyarRequest id k false) (bump 0x001C0020 0 s) := by
  unfold takeChunk
  rw [hr]
  exact (if_neg (by omega)).trans ((if_neg (by rw [hf]; decide)).trans (if_pos (by rw [hl]; rfl)))

/-- A chunk of the set in reception, stored. -/
def chunkStored (r : Relay) (k : Nat) (b : List Byte) (s : State) : State :=
  let v := setRelay { r with chunks := SMap.insert r.chunks k b, newAt := s.sun.time } s
  { v with upd := { v.upd with held := k :: v.upd.held } }

theorem takeChunk_good (hl : m.lists k b = true) (ht : m.target = patus) (hm : s.upd.man = some m) (hid : m.id = id)
    (hstep : s.upd.step = .receiving) : takeChunk id m k b s =
      (let v := completeSet (relayBurst id k false (chunkStored r k b s))
       if dnUp v then sendChunk id k v else v) := by
  have hmine : ∀ x, (decide ((setRelay x s).upd.step = .receiving) && decide ((setRelay x s).upd.man.map Manifest.id = some id)) = true := by
    intro x
    rw [setRelay_frame]
    simp [hstep, hm, hid]
  unfold takeChunk
  rw [hr]
  refine (if_neg (by omega)).trans ((if_neg (by rw [hf]; decide)).trans ((if_neg (by rw [hl]; decide)).trans ((if_neg (by simp [ht])).trans ?_)))
  dsimp only
  rw [if_pos (hmine _)]
  rfl

end

/-- Whether a transport is up is no matter of a set's completion. -/
theorem dnUp_completeSet (s : State) : dnUp (completeSet s) = dnUp s := by
  have hchain : (completeSet s).upd.chain = s.upd.chain := by
    unfold completeSet
    (repeat' split) <;> simp [setStep]
  unfold dnUp
  rw [hchain]
  unfold transportUp netMain can
  simp [hchain]

theorem completeSet_receiving {s : State} {m : Manifest} (hstep : s.upd.step = .receiving) (hm : s.upd.man = some m)
    (hb : s.upd.bursts = []) : completeSet s = if m.chunks ≤ s.upd.held.length then setStep .verified s else s := by
  unfold completeSet
  rw [hstep, hm, hb]
  simp

theorem setStep_sent (st : UpdStep) (s : State) {x : Sent} (h : x ∈ s.sent) : x ∈ (setStep st s).sent := by
  have hto : ∀ who code args t, x ∈ t.sent → x ∈ (eventTo who code args t).sent := fun who code args t hx => by
    unfold eventTo
    dsimp only
    split
    · exact List.mem_cons_of_mem _ hx
    · exact hx
  exact hto _ _ _ _ (hto _ _ _ _ (hto _ _ _ _ (hto _ _ _ _ (hto _ _ _ _ h))))

theorem chunkTaken_spec {id : BitVec 64} {m : Manifest} {k : Nat} {b : List Byte} {s : State} {r : Relay} (hr : relayOf s id = some r)
    (hm : s.upd.man = some m) (hstep : s.upd.step = .receiving) (hb : s.upd.bursts = []) (hq : (ledger s 4).queue = [])
    (hf : fits s 4 (flashClaim 1 s.tally.bursts) = true) (hdn : dnUp s = false) :
    let v := completeSet (relayBurst id k false (chunkStored r k b s))
    dnUp v = false ∧ relayOf v id = some { r with chunks := SMap.insert r.chunks k b, newAt := s.sun.time } ∧
      .ibyarAck id k false ∈ v.sent ∧ v.upd.held = k :: s.upd.held ∧ v.core = s.core ∧ v.sys = s.sys ∧
      v.upd.step = (if m.chunks ≤ s.upd.held.length + 1 then .verified else .receiving) := by
  obtain ⟨y, hburst⟩ := relayBurst_admits (s := chunkStored r k b s) hb hq hf id k false
  dsimp only
  rw [hburst]
  have hdn' : dnUp (send (.ibyarAck id k false) { chunkStored r k b s with tally := y }) = false := hdn
  have hone := completeSet_receiving (s := send (.ibyarAck id k false) { chunkStored r k b s with tally := y }) hstep hm hb
  have hrelay : relayOf (send (.ibyarAck id k false) { chunkStored r k b s with tally := y }) id =
      some { r with chunks := SMap.insert r.chunks k b, newAt := s.sun.time } :=
    relayOf_set (r := { r with chunks := SMap.insert r.chunks k b, newAt := s.sun.time }) (show r.id = id from relayOf_id hr) s
  have htwice : ∀ w : State, w.upd.step = .receiving → w.upd.man = some m → w.upd.bursts = [] →
      completeSet (completeSet w) = completeSet w := fun w h1 h2 h3 => by
    have h := completeSet_receiving h1 h2 h3
    by_cases hc : m.chunks ≤ w.upd.held.length
    · rw [if_pos hc] at h
      rw [h]
      exact completeSet_idle (by simp [setStep])
    · rw [if_neg hc] at h
      rw [h, h]
  rw [htwice (send (.ibyarAck id k false) { chunkStored r k b s with tally := y }) hstep hm hb, dnUp_completeSet]
  refine ⟨hdn', ?_⟩
  rw [hone]
  have hlen : (send (.ibyarAck id k false) { chunkStored r k b s with tally := y }).upd.held.length = s.upd.held.length + 1 := rfl
  rw [hlen]
  split
  · have hupd := fun w => (show (setStep .verified w).upd = { w.upd with step := .verified } by simp [setStep])
    refine ⟨?_, setStep_sent _ _ List.mem_cons_self, ?_, ?_, ?_, ?_⟩
    · exact (relayOf_congr (by rw [hupd]) id).trans hrelay
    · rw [hupd]
      rfl
    · rw [frame_setStep_core]
      rfl
    · rw [frame_setStep_sys]
      rfl
    · rw [hupd]
  · exact ⟨hrelay, List.mem_cons_self, rfl, rfl, rfl, hstep⟩

/-! ### Downstream (R381, R382) -/

theorem SMap.get_of_find {α : Type} {m : SMap α} {k : Nat} {v : α} (d : α) (h : SMap.find m k = some v) : SMap.get m d k = v := by
  induction m with
  | nil => cases h
  | cons e m ih =>
    unfold SMap.find at h
    unfold SMap.get
    split at h
    next he => rw [if_pos he, Option.some.inj h]
    next he => rw [if_neg he, ih h]

theorem sendChunk_eq {id : BitVec 64} {k : Nat} {s : State} {r : Relay} {b : List Byte} (hr : relayOf s id = some r)
    (hc : SMap.find r.chunks k = some b) : sendChunk id k s =
      send (.ibyarChunk id k b) (setRelay { r with sentAt := SMap.insert r.sentAt k s.sun.time } s) := by
  have hb : SMap.get r.chunks [] k = b := SMap.get_of_find _ hc
  unfold sendChunk
  rw [hr]
  dsimp only
  rw [hb]

section
variable {t : Time} {id : BitVec 64} {k : Nat} {s : State} {r : Relay} (he : engineRuns (advanceTo t s) = true)
  (hdn : dnUp (advanceTo t s) = true) (hr : relayOf (advanceTo t s) id = some r)
include he hdn hr

/-- A relay entry once downstream has a chunk. -/
def relayAcked (r : Relay) (k : Nat) : Relay :=
  { r with dnAcked := k :: r.dnAcked, sentAt := SMap.drop r.sentAt k, resends := SMap.drop r.resends k }

theorem ibyarAck_runs {m : Manifest} (hm : r.man = some m) (hk : r.dnAcked.contains k = false) : exec (.ibyarAck t id k false) s =
    .next (let u := { advanceTo t s with upd := { (advanceTo t s).upd with dnLost := false } }
      if m.target ≠ patus && decide (m.chunks ≤ r.dnAcked.length + 1) then dropRelay id u else setRelay (relayAcked r k) u) := by
  rw [exec_ibyarAck, execIbyarAck]
  generalize advanceTo t s = u at *
  refine congrArg Host.Outcome.next ((if_neg (by rw [he, hdn]; decide)).trans ?_)
  rw [hr]
  refine (if_neg (by decide)).trans ?_
  dsimp only
  rw [hk]
  split
  next m' hm' =>
    cases hm.symm.trans hm'
    rfl
  next hm' => cases hm.symm.trans hm'

theorem ibyarRequest_chunk {b : List Byte} (hc : SMap.find r.chunks k = some b) : exec (.ibyarRequest t id k false) s =
    .next (send (.ibyarChunk id k b) (setRelay { r with sentAt := SMap.insert r.sentAt k (advanceTo t s).sun.time } (advanceTo t s))) := by
  rw [exec_ibyarRequest, execIbyarRequest]
  generalize advanceTo t s = u at *
  refine congrArg Host.Outcome.next ((if_neg (by rw [he, hdn]; decide)).trans ?_)
  rw [hr]
  dsimp only
  rw [if_neg (by decide), hc]
  exact (if_pos rfl).trans (sendChunk_eq hr hc)

theorem ibyarRequest_missing (hc : SMap.find r.chunks k = none) : exec (.ibyarRequest t id k false) s = .next (advanceTo t s) := by
  rw [exec_ibyarRequest, execIbyarRequest]
  generalize advanceTo t s = u at *
  refine congrArg Host.Outcome.next ((if_neg (by rw [he, hdn]; decide)).trans ?_)
  rw [hr]
  dsimp only
  rw [if_neg (by decide), hc]
  exact if_neg (by decide)

theorem ibyarRequest_segment {b : List Byte} (hm : r.man.isSome = true) (hc : SMap.find r.segs k = some b) :
    exec (.ibyarRequest t id k true) s = .next (send (.ibyarManifest id k b) (advanceTo t s)) := by
  have hb : SMap.get r.segs [] k = b := SMap.get_of_find _ hc
  rw [exec_ibyarRequest, execIbyarRequest]
  generalize advanceTo t s = u at *
  refine congrArg Host.Outcome.next ((if_neg (by rw [he, hdn]; decide)).trans ?_)
  rw [hr]
  dsimp only
  rw [if_pos rfl, hm, hc]
  refine (if_pos rfl).trans ?_
  unfold sendSegment
  rw [hr]
  dsimp only
  rw [hb]

end

/-- A resend as it leaves, counted. -/
def resent (r : Relay) (id : BitVec 64) (k : Nat) (b : List Byte) (s : State) : State :=
  let n := SMap.get r.resends 0 k + 1
  send (.ibyarChunk id k b) (setRelay { r with resends := SMap.put r.resends 0 k n, sentAt := SMap.insert r.sentAt k s.sun.time }
    (bump 0x001C0024 0 (setRelay { r with resends := SMap.put r.resends 0 k n } s)))

/-- Whether a chunk's ACK has been waited for long enough. -/
def resendDue (r : Relay) (k : Nat) (s : State) : Bool :=
  match SMap.find r.sentAt k with
  | some x => passed s x (if s.upd.dnLost then 10000000000 else 200000000)
  | none => true

theorem resendDue_of {r : Relay} {k : Nat} {s : State}
    (h : ∀ x, SMap.find r.sentAt k = some x → x.toNat + (if s.upd.dnLost then 10000000000 else 200000000) ≤ s.sun.time.toNat) :
    resendDue r k s = true := by
  unfold resendDue
  cases hx : SMap.find r.sentAt k with
  | none => rfl
  | some x => exact decide_eq_true (h x hx)

theorem ibyarResend_runs {t : Time} {id : BitVec 64} {k : Nat} {s : State} {r : Relay} {b : List Byte}
    (he : engineRuns (advanceTo t s) = true) (hdn : dnUp (advanceTo t s) = true) (hr : relayOf (advanceTo t s) id = some r)
    (hc : SMap.find r.chunks k = some b) (hm : r.man.isSome = true) (hk : r.dnAcked.contains k = false)
    (hdue : resendDue r k (advanceTo t s) = true) : exec (.ibyarResendTimeout t id k) s =
    .next (let v := resent r id k b (advanceTo t s)
      if 8 ≤ SMap.get r.resends 0 k + 1 && !v.upd.dnLost then
        raise .warning 0x1C 0x0000 [] { v with upd := { v.upd with dnLost := true } }
      else v) := by
  rw [exec_ibyarResendTimeout, execIbyarResendTimeout]
  generalize advanceTo t s = u at *
  have hman : r.man.isNone = false := by rw [← Option.not_isSome, hm]; rfl
  have hrelay : relayOf (bump 0x001C0024 0 (setRelay { r with resends := SMap.put r.resends 0 k (SMap.get r.resends 0 k + 1) } u)) id =
      some { r with resends := SMap.put r.resends 0 k (SMap.get r.resends 0 k + 1) } :=
    (relayOf_congr (by simp) id).trans
      (relayOf_set (r := { r with resends := SMap.put r.resends 0 k (SMap.get r.resends 0 k + 1) }) (show r.id = id from relayOf_id hr) u)
  have hsend : sendChunk id k (bump 0x001C0024 0 (setRelay { r with resends := SMap.put r.resends 0 k (SMap.get r.resends 0 k + 1) } u)) =
      resent r id k b u := by
    rw [sendChunk_eq hrelay hc]
    unfold resent
    simp
  have hgo : ((SMap.find r.chunks k).isNone || r.man.isNone || r.dnAcked.contains k || !resendDue r k u) = false := by
    rw [hc, hman, hk, hdue]
    rfl
  refine congrArg Host.Outcome.next ((if_neg (by rw [he, hdn]; decide)).trans ?_)
  rw [hr]
  refine (if_neg (fun h => absurd (hgo.symm.trans h) (by decide))).trans ?_
  dsimp only
  rw [hsend]

theorem ibyarResend_early {t : Time} {id : BitVec 64} {k : Nat} {s : State} {r : Relay} {x : Time}
    (he : engineRuns (advanceTo t s) = true) (hdn : dnUp (advanceTo t s) = true) (hr : relayOf (advanceTo t s) id = some r)
    (hx : SMap.find r.sentAt k = some x)
    (ht : (advanceTo t s).sun.time.toNat < x.toNat + (if (advanceTo t s).upd.dnLost then 10000000000 else 200000000)) :
    exec (.ibyarResendTimeout t id k) s = .next (advanceTo t s) := by
  rw [exec_ibyarResendTimeout, execIbyarResendTimeout]
  generalize advanceTo t s = u at *
  have hdue : resendDue r k u = false := by
    unfold resendDue
    rw [hx]
    exact decide_eq_false (by omega)
  refine congrArg Host.Outcome.next ((if_neg (by rw [he, hdn]; decide)).trans ?_)
  rw [hr]
  have hstop : ((SMap.find r.chunks k).isNone || r.man.isNone || r.dnAcked.contains k || !resendDue r k u) = true := by
    rw [hdue]
    simp
  exact if_pos hstop

theorem resent_spec {r : Relay} {id : BitVec 64} (k : Nat) (b : List Byte) {s : State} (hid : r.id = id) : let v := resent r id k b s
    v.sent = .ibyarChunk id k b :: s.sent ∧ counter v 0x001C0024 0 = (counter s 0x001C0024 0).inc.1 ∧
      relayOf v id = some { r with
        resends := SMap.put r.resends 0 k (SMap.get r.resends 0 k + 1), sentAt := SMap.insert r.sentAt k s.sun.time } ∧
      v.upd.dnLost = s.upd.dnLost ∧ v.upd.step = s.upd.step ∧
      v = { s with upd := v.upd, counters := v.counters, skein := v.skein, sent := v.sent } := by
  refine ⟨?_, ?_, ?_, ?_, ?_, ?_⟩
  · simp [resent, send]
  · refine (counter_congr (s := bump 0x001C0024 0 (setRelay { r with resends := SMap.put r.resends 0 k (SMap.get r.resends 0 k + 1) } s))
      (by simp [resent]) _ _).trans ((counter_bump _ _ _).trans ?_)
    rw [counter_congr (s := s) (by simp)]
  · exact relayOf_set (r := { r with
      resends := SMap.put r.resends 0 k (SMap.get r.resends 0 k + 1), sentAt := SMap.insert r.sentAt k s.sun.time }) hid _
  · simp [resent, setRelay]
  · simp [resent, setRelay]
  · apply State.eq_of_parts <;> simp [resent]

theorem requestTimeout_runs {t : Time} {r : Relay} {k : Nat} {g : Bool} {s : State} (he : engineRuns (advanceTo t s) = true)
    (hup : upUp (advanceTo t s) = true) (hr : (advanceTo t s).upd.relays = [r]) (hm : r.missing = some (k, g))
    (ht : r.newAt.toNat + 500000000 ≤ (advanceTo t s).sun.time.toNat) : exec (.ibyarRequestTimeout t) s =
      .next { advanceTo t s with
        upd := { (advanceTo t s).upd with relays := [{ r with newAt := (advanceTo t s).sun.time }] }
        sent := .ibyarRequest r.id k g :: (advanceTo t s).sent } := by
  rw [exec_ibyarRequestTimeout, execIbyarRequestTimeout]
  generalize advanceTo t s = u at *
  have hpassed : passed u r.newAt 500000000 = true := decide_eq_true ht
  refine congrArg Host.Outcome.next ((if_neg (by rw [he, hup]; decide)).trans ?_)
  rw [hr, List.foldl_cons, List.foldl_nil, hm]
  dsimp only
  rw [hpassed, if_pos rfl]
  simp [setRelay, send, hr]

/-- Settles O56: what upstream sends and what downstream answers, each from the relay entry that it moves. -/
theorem updatesPassTheRelay : Obligations.UpdatesPassTheRelay := by
  unfold Obligations.UpdatesPassTheRelay
  refine ⟨⟨fun t id k b s => ⟨ibyarManifest_off, fun he hup hr => ⟨fun hnone hb hstep hq hf => ?segment, fun l hl hbad hstep => ?discarded,
        fun l m hl hm ht hs hstep => ?starts⟩⟩,
      fun t id k b r s he hup hr => ⟨fun hm hw => ⟨_, ibyarChunk_waits he hup hr hm hw, ?waits, rfl⟩,
        fun m hm hk hf => ⟨fun hl => ?bad, fun hl ht hman hid hstep hb hq hfit hdn => ?good⟩⟩⟩,
    fun t id k r s he hdn hr => ⟨fun m hm hk => ⟨fun ht hall => ?acked, fun ht => ?kept⟩, fun b hc => ?request,
      ibyarRequest_missing he hdn hr, fun b hm hc => ibyarRequest_segment he hdn hr hm hc, fun b hc hm hk hdue => ?resend,
      fun x hx ht => ibyarResend_early he hdn hr hx ht⟩,
    fun t r k g s he hup hr hm ht => requestTimeout_runs he hup hr hm ht⟩
  case segment =>
    have hrun := ibyarManifest_opens (k := k) (b := b) he hup hr
    obtain ⟨y, hburst⟩ := relayBurst_admits (s := setRelay (relayOpened id k b (advanceTo t s)) (advanceTo t s)) hb hq hf id k true
    have hidle : (send (.ibyarAck id k true) { setRelay (relayOpened id k b (advanceTo t s)) (advanceTo t s) with tally := y }).upd.step ≠
        .receiving := fun h => absurd (hstep.symm.trans h) (by decide)
    rw [completeSet_idle hidle] at hburst
    dsimp only at hrun
    rw [show (relayOpened id k b (advanceTo t s)).bytes = none from hnone, hburst] at hrun
    exact ⟨_, hrun, relayOf_setRelay (relayOpened id k b (advanceTo t s)) (advanceTo t s), rfl, rfl, rfl, rfl, rfl⟩
  case discarded =>
    have hrun := ibyarManifest_opens (k := k) (b := b) he hup hr
    obtain ⟨hkeeps, -⟩ := relayBurst_keeps (s := setRelay (relayOpened id k b (advanceTo t s)) (advanceTo t s)) hstep (id := id) k
      (relayOf_setRelay (relayOpened id k b (advanceTo t s)) (advanceTo t s))
    dsimp only at hrun
    rw [show (relayOpened id k b (advanceTo t s)).bytes = some l from hl] at hrun
    dsimp only at hrun
    rw [manifestHeld_discards hbad] at hrun
    generalize relayBurst id k true (setRelay (relayOpened id k b (advanceTo t s)) (advanceTo t s)) = v at *
    obtain ⟨hcore, hstep', hman, hcount, hsys⟩ := hkeeps
    refine ⟨_, hrun, relayOf_dropRelay_same _ _, ?_, ?_, ?_, ?_, ?_⟩
    · have hupd : (dropRelay id (bump 0x001C0020 0 v)).upd.step = v.upd.step := by simp [dropRelay]
      exact hupd.trans hstep'
    · have hupd : (dropRelay id (bump 0x001C0020 0 v)).upd.man = v.upd.man := by simp [dropRelay]
      exact hupd.trans hman
    · simpa using hcore
    · simpa using hsys
    · exact (counter_congr (s := bump 0x001C0020 0 v) rfl _ _).trans ((counter_bump _ _ _).trans
        (congrArg (fun c : Counter => c.inc.1) (hcount.trans (counter_congr rfl _ _))))
  case starts =>
    have hrun := ibyarManifest_opens (k := k) (b := b) he hup hr
    obtain ⟨hkeeps, q, hq, -, -, hchunks, hwaiting⟩ := relayBurst_keeps
      (s := setRelay (relayOpened id k b (advanceTo t s)) (advanceTo t s)) hstep (id := id) k
      (relayOf_setRelay (relayOpened id k b (advanceTo t s)) (advanceTo t s))
    dsimp only at hrun
    rw [show (relayOpened id k b (advanceTo t s)).bytes = some l from hl] at hrun
    dsimp only at hrun
    generalize relayBurst id k true (setRelay (relayOpened id k b (advanceTo t s)) (advanceTo t s)) = v at *
    obtain ⟨hcore, hstep', -, -, hsys⟩ := hkeeps
    obtain ⟨hstep2, hman, hheld, hrefuse, ⟨p, hp, hpm⟩, hcore2, hsys2⟩ :=
      manifestHeld_starts hm ht hs (hstep'.trans hstep) hq hchunks hwaiting
    exact ⟨_, p, hrun, hstep2, hman, hheld, hrefuse, hp, hpm, hcore2.trans hcore, hsys2.trans hsys⟩
  case waits =>
    exact relayOf_set (r := { r with waiting := r.waiting ++ [(k, b)], newAt := (advanceTo t s).sun.time })
      (show r.id = id from relayOf_id hr) _
  case bad =>
    have hrun := ibyarChunk_runs (k := k) (b := b) he hup hr hm
    rw [takeChunk_bad hr hk hf hl] at hrun
    refine ⟨_, hrun, by simp [send], ?_, by simp, ?_⟩
    · exact (counter_congr (s := bump 0x001C0020 0 (advanceTo t s)) rfl _ _).trans (counter_bump _ _ _)
    · apply State.eq_of_parts <;> simp
  case good =>
    have hrun := ibyarChunk_runs (k := k) (b := b) he hup hr hm
    obtain ⟨hdn', hrest⟩ := chunkTaken_spec (b := b) hr hman hstep hb hq hfit hdn
    rw [takeChunk_good hr hk hf hl ht hman hid hstep] at hrun
    dsimp only at hrun
    rw [if_neg (by rw [hdn']; decide)] at hrun
    exact ⟨_, hrun, hrest⟩
  case acked =>
    have hrun := ibyarAck_runs he hdn hr hm hk
    dsimp only at hrun
    rw [if_pos (by simpa using ⟨ht, hall⟩)] at hrun
    exact ⟨_, hrun, relayOf_dropRelay_same _ _, rfl⟩
  case kept =>
    have hrun := ibyarAck_runs he hdn hr hm hk
    dsimp only at hrun
    rw [if_neg (by simp [ht])] at hrun
    exact ⟨_, hrun, relayOf_set (r := relayAcked r k) (show r.id = id from relayOf_id hr) _, rfl⟩
  case request =>
    exact ⟨_, ibyarRequest_chunk he hdn hr hc, rfl, relayOf_set (r := { r with sentAt := SMap.insert r.sentAt k (advanceTo t s).sun.time })
      (show r.id = id from relayOf_id hr) _, rfl⟩
  case resend =>
    have hrun := ibyarResend_runs he hdn hr hc hm hk (resendDue_of hdue)
    obtain ⟨hsent, hcount, hrelay, hlost, hstep, hframe⟩ := resent_spec k b (s := advanceTo t s) (relayOf_id hr)
    generalize resent r id k b (advanceTo t s) = v at *
    dsimp only at hrun
    by_cases hmany : 8 ≤ SMap.get r.resends 0 k + 1 ∧ v.upd.dnLost = false
    · obtain ⟨h8, hnot⟩ := hmany
      rw [if_pos (by simp [h8, hnot])] at hrun
      have hraise := raise_frame .warning 0x1C 0x0000 [] { v with upd := { v.upd with dnLost := true } } (by decide)
      have hupd : (raise .warning 0x1C 0x0000 [] { v with upd := { v.upd with dnLost := true } }).upd = { v.upd with dnLost := true } := by
        rw [hraise]
      refine ⟨_, hrun, hsent, hcount, (relayOf_congr (s := v) (by rw [hupd]) id).trans hrelay, ?_, ?_, ?_⟩
      · rw [hupd, decide_eq_true h8, Bool.or_true]
      · rw [hupd]
        exact hstep
      · rw [hupd, hraise, hframe]
    · have hsame : v.upd.dnLost = ((advanceTo t s).upd.dnLost || decide (8 ≤ SMap.get r.resends 0 k + 1)) := by
        rw [← hlost]
        by_cases h8 : 8 ≤ SMap.get r.resends 0 k + 1
        · have hset : v.upd.dnLost = true := by simpa [h8] using hmany
          rw [hset, Bool.true_or]
        · rw [decide_eq_false h8, Bool.or_false]
      rw [if_neg (by simpa using hmany)] at hrun
      exact ⟨_, hrun, hsent, hcount, hrelay, hsame, hstep, hframe⟩

end Sys2Proof.Machine
end

section
/-! PROOFS. Trial, commit and revert (R383, R389 to R393). -/
namespace Sys2Proof.Machine
open Sys2Proof.Safety

/-! ### What a warm reset leaves of the update (R390) -/

/-- Which set runs, and whether one has reverted. -/
def Upd.version (x : Upd) : UpdStep × BitVec 31 × Bool × Bool := (x.step, x.runFw, x.slot, x.revertedBlocked)

theorem loseBurst_version (s : State) (b : Burst) : (loseBurst s b).upd.version = s.upd.version := by
  unfold loseBurst
  dsimp only
  split <;> rfl

theorem gapOutputs_version (neutral : Bool) (s : State) : (gapOutputs neutral s).upd.version = s.upd.version := by
  have hqueue : ∀ (l : List Nat) s, (l.foldl (fun s k => discardQueued k s) s).upd = s.upd :=
    foldl_keeps (fun s => s.upd) fun s n => by simp
  have hlost : ∀ s : State, (loseBursts s).upd.version = s.upd.version := fun s =>
    foldl_keeps (fun s => s.upd.version) loseBurst_version _ s
  have hsol : ∀ (l : List Nat) s, (l.foldl (fun s n => gapSol neutral n s) s).upd = s.upd :=
    foldl_keeps (fun s => s.upd) fun s n => by simp
  have hlsw : ∀ (l : List Nat) s, (l.foldl (fun s n => gapLsw n s) s).upd = s.upd :=
    foldl_keeps (fun s => s.upd) fun s n => by simp
  unfold gapOutputs
  dsimp only
  rw [hlsw, hsol]
  dsimp only
  rw [hlost]
  dsimp only
  rw [hqueue, bumps_leaves]

/-- The count of reverts (R390) stands apart from every controller's count of lost buffers. -/
theorem revertCount_ne (n : Nat) : ckey 0x001C0028 0 ≠ ckey (0x0010001C + 0x1000 * n) 0 := by
  unfold ckey
  omega

/-- A reset that carries a revert out keeps its count. -/
theorem resetRegs_reverts {s : State} (h : s.upd.step = .reverted) : counter (resetRegs s) 0x001C0028 0 = counter s 0x001C0028 0 := by
  unfold counter resetRegs
  dsimp only
  rw [h]
  exact SMap.get_filter s.counters {} (fun k => countsOn (decide (UpdStep.reverted = UpdStep.reverted)) (k % 0x200000)) (ckey 0x001C0028 0)

theorem warmOutputs_reverts {s : State} (h : s.upd.step = .reverted) :
    counter (warmOutputs s) 0x001C0028 0 = counter s 0x001C0028 0 := by
  have hcan : ∀ s, counter (dropCanBuffers s) 0x001C0028 0 = counter s 0x001C0028 0 := fun s =>
    foldl_keeps (fun s => counter s 0x001C0028 0) (fun s (e : Nat × CanSt) => bumps_keeps_counter (revertCount_ne e.1) s) _ s
  have hqueue : ∀ (l : List Nat) s, counter (l.foldl (fun s k => discardQueued k s) s) 0x001C0028 0 = counter s 0x001C0028 0 :=
    foldl_keeps (fun s => counter s 0x001C0028 0) fun s k => (bumps_keeps_counter (addr := 0x00040048) (idx := 0) (by decide) _).trans rfl
  have hgap : ∀ s, counter (gapOutputs false s) 0x001C0028 0 = counter s 0x001C0028 0 := fun s => by
    unfold gapOutputs
    dsimp only
    refine Eq.trans ?_ ((hqueue (List.range 5) (bumps 0x00040048 0
      ((List.range 32).filter fun n => decide ((sol s n).phase = .groupQ)).length s)).trans
      (bumps_keeps_counter (addr := 0x00040048) (idx := 0) (by decide) s))
    generalize (List.range 5).foldl (fun s k => discardQueued k s) _ = w
    exact counter_congr (by simp) _ _
  have hlimp : ∀ s, counter (limpEnd s) 0x001C0028 0 = counter s 0x001C0028 0 := fun s => counter_congr (by simp) _ _
  unfold warmOutputs
  refine (counter_congr (s := gapOutputs false (limpEnd (dropCanBuffers (resetRegs s)))) (by simp) _ _).trans ?_
  rw [hgap, hlimp, hcan, resetRegs_reverts h]

theorem warmReset_reverts {s : State} (code : BitVec 4) (why : DayCause) (hp : s.sys.powered = true) (hm : s.sys.state ≠ .midnight)
    (h : s.upd.step = .reverted) : let v := warmReset code why s
    v.upd.version = s.upd.version ∧ counter v 0x001C0028 0 = counter s 0x001C0028 0 := by
  dsimp only
  rw [warmReset_runs code why hp hm]
  have hversion : (warmOutputs s).upd.version = s.upd.version := by
    have hlimp : (limpEnd (dropCanBuffers (resetRegs s))).upd = s.upd := by simp [resetRegs]
    have hreturned : (warmOutputs s).upd = (gapOutputs false (limpEnd (dropCanBuffers (resetRegs s)))).upd := by simp [warmOutputs]
    rw [hreturned, gapOutputs_version, hlimp]
  have hcount := warmOutputs_reverts h
  generalize warmOutputs s = u at *
  refine ⟨?_, (counter_congr ?_ _ _).trans hcount⟩
  · have hdawn : (startDawn code 0 true false why (warmBase u)).upd = (warmBase u).upd := by simp [startDawn]
    rw [hdawn]
    exact hversion
  · have hdawn : (startDawn code 0 true false why (warmBase u)).counters = (warmBase u).counters := by simp [startDawn]
    rw [hdawn]
    rfl

/-! ### Failed health (R389, R390) -/

theorem setStep_upd (st : UpdStep) (s : State) : (setStep st s).upd = { s.upd with step := st } := by simp [setStep]

theorem standbyOld_setStep (st : UpdStep) (s : State) : standbyOld (setStep st s) = standbyOld s := by
  have hlane : ∀ l, lane (setStep st s) l = lane s l := lane_congr (by simp)
  unfold standbyOld standbyCold
  rw [frame_setStep_lanes, setStep_upd]
  simp only [hlane]

theorem restoreSettings_oldFw (s : State) : (restoreSettings s).upd.oldFw = s.upd.oldFw := by
  have hrec : ∀ (k : Settings) n (t : State), (restoreRecord k n t).upd.oldFw = t.upd.oldFw :=
    fun k n t => by unfold restoreRecord; split <;> rfl
  unfold restoreSettings
  split
  · exact foldl_keeps (fun s => s.upd.oldFw) (fun s n => by split <;> simp [hrec]) _ _
  · rfl

/-- The old set runs again, and the revert counts. -/
theorem oldSetBack_spec (s : State) : let v := oldSetBack s
    v.upd.version = (s.upd.step, s.upd.oldFw, !s.upd.slot, true) ∧ counter v 0x001C0028 0 = (counter s 0x001C0028 0).inc.1 ∧
      v.sys = s.sys := by
  have hcounters : (restoreSettings s).counters = s.counters := by simp
  refine ⟨?_, ?_, by simp⟩
  · simp [oldSetBack, Upd.version, restoreSettings_oldFw]
  · refine (counter_congr (s := bump 0x001C0028 0 (restoreSettings s)) (by simp [oldSetBack]) _ _).trans ?_
    rw [counter_bump, counter_congr hcounters]

theorem failHealth_transfer {s : State} (h : standbyOld s = true) : let v := failHealth s
    v.upd.step = .reverted ∧ v.upd.revertHand = true ∧ v.upd.handReady = 2 ∧ v.upd.healthOk = false ∧ v.panel.hold = true ∧
      v.core = s.core ∧ v.sys = s.sys ∧ v.lanes = s.lanes := by
  have hgo : failHealth s = (let v := setStep .reverted s
      { v with
        upd := { v.upd with revertHand := true, handReady := 2, healthOk := false, mode := 2 }
        panel := { v.panel with hold := true } }) := if_pos ((standbyOld_setStep .reverted s).trans h)
  rw [hgo]
  refine ⟨?_, rfl, rfl, rfl, rfl, ?_, ?_, ?_⟩ <;> simp [setStep_upd]

theorem failHealth_resets {s : State} (h : standbyOld s = false) (hp : s.sys.powered = true) (hm : s.sys.state ≠ .midnight) :
    let v := failHealth s
    v.upd.step = .reverted ∧ v.upd.runFw = s.upd.oldFw ∧ v.upd.slot = !s.upd.slot ∧ v.upd.revertedBlocked = true ∧
      v.sys.state = .dawn ∧ v.sys.warm = true ∧ v.lanes.holder = none ∧ v.core = {} ∧
      counter v 0x001C0028 0 = (counter s 0x001C0028 0).inc.1 := by
  have hgo : failHealth s = warmReset 1 .warmReset (oldSetBack (setStep .reverted s)) :=
    if_neg (by rw [standbyOld_setStep, h]; decide)
  obtain ⟨hversion, hcount, hsys⟩ := oldSetBack_spec (setStep .reverted s)
  rw [setStep_upd] at hversion
  rw [frame_setStep_sys] at hsys
  rw [counter_congr (t := setStep .reverted s) (s := s) (by simp)] at hcount
  rw [hgo]
  generalize oldSetBack (setStep .reverted s) = u at *
  have hp' : u.sys.powered = true := by rw [hsys, hp]
  have hm' : u.sys.state ≠ .midnight := by rw [hsys]; exact hm
  have hstep : u.upd.step = .reverted := congrArg Prod.fst hversion
  obtain ⟨hstate, -, -, hwarm, -, hholder, -, -, -, -, hcore, -⟩ := warmReset_spec 1 .warmReset hp' hm'
  obtain ⟨hversion', hcount'⟩ := warmReset_reverts 1 .warmReset hp' hm' hstep
  have hv := hversion'.trans hversion
  exact ⟨congrArg (·.1) hv, congrArg (·.2.1) hv, congrArg (·.2.2.1) hv, congrArg (·.2.2.2) hv, hstate, hwarm, hholder, hcore,
    hcount'.trans hcount⟩

/-! ### The trial's end (R389 to R391) -/

section
variable {t : Time} {s : State}

theorem trialHealthOk_waits (hh : healthy (advanceTo t s) = false) : exec (.trialHealthOk t) s = .next (advanceTo t s) :=
  congrArg Host.Outcome.next (if_neg (by generalize advanceTo t s = u at *; simp [hh]))

theorem trialExpired_early (ht : (advanceTo t s).sun.time.toNat < (advanceTo t s).upd.trialEnd.toNat) :
    exec (.trialExpired t) s = .next (advanceTo t s) :=
  congrArg Host.Outcome.next (if_neg (by generalize advanceTo t s = u at *; simp [BitVec.le_def, ht]))

section
variable (hstep : (advanceTo t s).upd.step = .trial) (hok : (advanceTo t s).upd.healthOk = false)
include hstep hok

theorem trialHealthOk_runs (hh : healthy (advanceTo t s) = true) : exec (.trialHealthOk t) s =
    .next (commitSet { advanceTo t s with upd := { (advanceTo t s).upd with healthOk := true } }) :=
  congrArg Host.Outcome.next (if_pos (by generalize advanceTo t s = u at *; simp [hstep, hok, hh]))

theorem trialExpired_runs (ht : (advanceTo t s).upd.trialEnd.toNat ≤ (advanceTo t s).sun.time.toNat) :
    exec (.trialExpired t) s = .next (failHealth (advanceTo t s)) :=
  congrArg Host.Outcome.next (if_pos (by generalize advanceTo t s = u at *; simp [hstep, hok, BitVec.le_def, ht]))

theorem settingsMigration_good : exec (.settingsMigrationDone t true) s = .next { advanceTo t s with
    upd := { (advanceTo t s).upd with migrated := true, trialFrom := (advanceTo t s).sun.time } } :=
  congrArg Host.Outcome.next ((if_neg (by generalize advanceTo t s = u at *; simp [hstep, hok])).trans (if_pos rfl))

theorem settingsMigration_bad : exec (.settingsMigrationDone t false) s = .next (failHealth (advanceTo t s)) :=
  congrArg Host.Outcome.next ((if_neg (by generalize advanceTo t s = u at *; simp [hstep, hok])).trans (if_neg (by decide)))

end

theorem commitSet_spec (s : State) : let v := commitSet s
    v.upd.step = .committed ∧ v.upd.healthOk = s.upd.healthOk ∧ v.upd.slot = s.upd.slot ∧ v.upd.runFw = s.upd.runFw ∧
      (∀ l, s.lanes.holder = some l → (lane s l.other).state = .cold → (lane v l.other).state = .updating ∧ lane v l = lane s l) ∧
      v.core = s.core ∧ v.sys = s.sys := by
  unfold commitSet
  dsimp only
  have hupd := setStep_upd .committed { s with panel := { s.panel with oldTable := none }, upd := { s.upd with activating := none, mode := 0, kept := none } }
  have hlanes : (setStep .committed { s with
    panel := { s.panel with oldTable := none }, upd := { s.upd with activating := none, mode := 0, kept := none } }).lanes = s.lanes := by simp
  have hcore : (setStep .committed { s with
    panel := { s.panel with oldTable := none }, upd := { s.upd with activating := none, mode := 0, kept := none } }).core = s.core := by simp
  have hsys : (setStep .committed { s with
    panel := { s.panel with oldTable := none }, upd := { s.upd with activating := none, mode := 0, kept := none } }).sys = s.sys := by simp
  generalize setStep .committed { s with
    panel := { s.panel with oldTable := none }, upd := { s.upd with activating := none, mode := 0, kept := none } } = w at *
  have hlane := lane_congr hlanes
  rw [hlanes]
  split
  next l hl =>
    have hcold : standbyCold w = decide ((lane s l.other).state = .cold) := by
      unfold standbyCold
      rw [hlanes, hl]
      simp only [hlane]
    split
    next =>
      refine ⟨by simp [hupd], by simp [hupd], by simp [hupd], by simp [hupd], fun l' hl' _ => ?_, by simp [hcore], by simp [hsys]⟩
      cases hl.symm.trans hl'
      exact ⟨by simp, (lane_setLane_of_other l _ _).trans (hlane l)⟩
    next hnot =>
      refine ⟨by rw [hupd], by rw [hupd], by rw [hupd], by rw [hupd], fun l' hl' hc => ?_, hcore, hsys⟩
      cases hl.symm.trans hl'
      rw [hcold, decide_eq_true hc] at hnot
      exact absurd rfl hnot
  next hnone =>
    refine ⟨by rw [hupd], by rw [hupd], by rw [hupd], by rw [hupd], fun l' hl' => ?_, hcore, hsys⟩
    cases hnone.symm.trans hl'

/-- The journal at rest behind a commit. -/
def commitOver (s : State) : State := setStep .none { s with upd := { s.upd with man := none, held := [], healthOk := false } }

/-- The standby once its copy has verified, or failed. -/
def standbyCopied (ok : Bool) (l : Lane) (s : State) : State :=
  if ok then setLane l.other { lane s l.other with state := .cold, slot := s.upd.slot } s else standbyLost (failLane l.other 6 s)

theorem updateCommitDone_runs {l : Lane} (hstep : (advanceTo t s).upd.step = .committed) (hl : (advanceTo t s).lanes.holder = some l)
    (hstate : (lane (advanceTo t s) l.other).state = .updating) (hclocks : (lane (advanceTo t s) l.other).clocks = false) (ok : Bool) :
    exec (.updateCommitDone t ok) s = .next (commitOver (standbyCopied ok l (advanceTo t s))) := by
  rw [exec_updateCommitDone, execUpdateCommitDone]
  generalize advanceTo t s = u at *
  have hcopy : (decide ((lane u l.other).state = .updating) && !(lane u l.other).clocks) = true := by simp [hstate, hclocks]
  refine congrArg Host.Outcome.next ((if_neg (by simp [hstep])).trans ?_)
  rw [hl]
  dsimp only
  rw [if_pos hcopy]
  rfl

end

theorem commitOver_spec (s : State) : let v := commitOver s
    v.upd.step = .none ∧ v.upd.man = none ∧ v.lanes = s.lanes ∧ v.core = s.core := by
  have hupd := setStep_upd .none { s with upd := { s.upd with man := none, held := [], healthOk := false } }
  exact ⟨congrArg Upd.step hupd, congrArg Upd.man hupd, frame_setStep_lanes _ _, frame_setStep_core _ _⟩

theorem standbyLost_spec (s : State) : (standbyLost s).lanes = s.lanes ∧ (standbyLost s).core = s.core := by
  unfold standbyLost
  split <;> simp

/-! ### UPD_CTRL (R393) -/

theorem writeReg_updCtrl (who : Requester) (v : Word) (s : State) : writeReg who 0x001C0004 v s = done (writeUpdCtrl v s) := by
  simp [writeReg, noLane, perLaneBlock, wideAt, loOfHi, counterIndex, writeUpdate]

section
variable {r : Req} {s : State} (h : Taken r true true s)
include h

theorem updCtrlConfirm_runs : exec (.updCtrlConfirm r) s = .next (answer r (.ack []) (confirmTrial (arrived r s))) := by
  rw [exec_updCtrlConfirm, execUpdCtrlConfirm, asWrite, serve_taken _ _ _ _ _ h, writeReg_updCtrl]
  rfl

theorem updCtrlReject_runs : exec (.updCtrlReject r) s = .next (answer r (.ack []) (rejectTrial (arrived r s))) := by
  rw [exec_updCtrlReject, execUpdCtrlReject, asWrite, serve_taken _ _ _ _ _ h, writeReg_updCtrl]
  rfl

theorem updCtrlRestage_runs : exec (.updCtrlRestage r) s = .next (answer r (.ack []) (restageSet (arrived r s))) := by
  rw [exec_updCtrlRestage, execUpdCtrlRestage, asWrite, serve_taken _ _ _ _ _ h, writeReg_updCtrl]
  rfl

end

theorem restageSet_verified {m : Manifest} {s : State} (hstep : s.upd.step = .reverted) (hm : s.upd.man = some m)
    (hb : s.upd.revertedBlocked = true) (hc : chunksVerify m s = true) :
    restageSet s = setStep .staged { s with upd := { s.upd with revertedBlocked := false } } := by
  unfold restageSet
  rw [hstep, hm]
  dsimp only
  rw [hb, hc]
  rfl

theorem restageSet_damaged {m : Manifest} {s : State} (hstep : s.upd.step = .reverted) (hm : s.upd.man = some m)
    (hb : s.upd.revertedBlocked = true) (hc : chunksVerify m s = false) : restageSet s = bump 0x001C0020 0 s := by
  unfold restageSet
  rw [hstep, hm]
  dsimp only
  rw [hb, hc]
  rfl

/-- Settles O58: the verdict on a trial, what carries it out, and the end of the commit. -/
theorem trialsAreJudged : Obligations.TrialsAreJudged := by
  unfold Obligations.TrialsAreJudged
  refine ⟨fun t s => ⟨fun hstep hok => ⟨fun hh => ⟨_, trialHealthOk_runs hstep hok hh, ?commits⟩, trialHealthOk_waits,
        fun ht => ⟨fun h => ⟨_, trialExpired_runs hstep hok ht, failHealth_transfer h⟩,
          fun h hp hm => ⟨_, trialExpired_runs hstep hok ht, failHealth_resets h hp hm⟩⟩,
        trialExpired_early, settingsMigration_good hstep hok,
        ⟨fun h => ⟨failHealth (advanceTo t s), settingsMigration_bad hstep hok, failHealth_transfer h⟩,
          fun h hp hm => ⟨_, settingsMigration_bad hstep hok, failHealth_resets h hp hm⟩⟩⟩,
      fun l hstep hl hstate hclocks => ⟨⟨_, updateCommitDone_runs hstep hl hstate hclocks true, ?copied⟩,
        ⟨_, updateCommitDone_runs hstep hl hstate hclocks false, ?lost⟩⟩⟩,
    fun r s h => ⟨fun hstep => ⟨_, updCtrlConfirm_runs h, ?confirmed⟩, fun hstep hok hold => ⟨_, updCtrlReject_runs h, ?rejected⟩,
      fun hstep => ⟨_, updCtrlReject_runs h, ?idle⟩,
      fun m hstep hm hb => ⟨fun hc => ⟨_, updCtrlRestage_runs h, ?restaged⟩, fun hc => ⟨_, updCtrlRestage_runs h, ?damaged⟩⟩⟩⟩
  case commits => exact commitSet_spec { advanceTo t s with upd := { (advanceTo t s).upd with healthOk := true } }
  case copied =>
    obtain ⟨hstep', hman, hlanes, hcore⟩ := commitOver_spec (standbyCopied true l (advanceTo t s))
    refine ⟨hstep', hman, (lane_congr hlanes _).trans (lane_setLane _ _ _), (lane_congr hlanes _).trans (lane_setLane_of_other _ _ _),
      hcore.trans ?_⟩
    simp [standbyCopied]
  case lost =>
    obtain ⟨hstep', -, hlanes, hcore⟩ := commitOver_spec (standbyCopied false l (advanceTo t s))
    obtain ⟨hlanes', hcore'⟩ := standbyLost_spec (failLane l.other 6 (advanceTo t s))
    have hlane := lane_congr (hlanes.trans hlanes')
    refine ⟨hstep', (congrArg LaneSt.state (hlane _)).trans ?_, (congrArg LaneSt.cause (hlane _)).trans ?_,
      (hlane _).trans (lane_setLane_of_other _ _ _), hcore.trans (hcore'.trans ?_)⟩
    all_goals simp [failLane]
  case confirmed =>
    rw [confirmTrial, if_pos hstep]
    exact ⟨rfl, rfl⟩
  case rejected =>
    have hgo : rejectTrial (arrived r s) = failHealth (arrived r s) := if_pos (by rw [hstep, hok]; rfl)
    obtain ⟨hstep', hhand, -, -, -, hcore, hsys, -⟩ := failHealth_transfer hold
    rw [hgo]
    generalize failHealth (arrived r s) = v at *
    exact ⟨rfl, by simpa using hstep', by simpa using hhand, by simpa using hcore, by simpa using hsys⟩
  case idle =>
    have hgo : rejectTrial (arrived r s) = arrived r s := if_neg (by rw [decide_eq_false hstep, Bool.false_and]; decide)
    rw [hgo]
    exact ⟨rfl, rfl⟩
  case restaged =>
    rw [restageSet_verified hstep hm hb hc]
    have hupd := setStep_upd .staged { arrived r s with upd := { (arrived r s).upd with revertedBlocked := false } }
    have hframe : setStep .staged { arrived r s with upd := { (arrived r s).upd with revertedBlocked := false } } = { arrived r s with
        upd := (setStep .staged { arrived r s with upd := { (arrived r s).upd with revertedBlocked := false } }).upd
        hank := (setStep .staged { arrived r s with upd := { (arrived r s).upd with revertedBlocked := false } }).hank
        sent := (setStep .staged { arrived r s with upd := { (arrived r s).upd with revertedBlocked := false } }).sent } := by
      apply State.eq_of_parts <;> simp
    generalize setStep .staged { arrived r s with upd := { (arrived r s).upd with revertedBlocked := false } } = v at *
    refine ⟨rfl, ?_, ?_, ?_⟩
    · simp [hupd]
    · simp [hupd]
    · rw [hframe]
      rfl
  case damaged =>
    rw [restageSet_damaged hstep hm hb hc]
    refine ⟨rfl, by simp, ?_⟩
    exact (counter_congr (s := bump 0x001C0020 0 (arrived r s)) rfl _ _).trans (counter_bump _ _ _)

end Sys2Proof.Machine
end

section
/-! PROOFS. A pause that closes the gate over a waiting flash burst (R264, R386). -/
namespace Sys2Proof.Machine
open Sys2Proof.Safety

/-- A module whose pause has reached its boundary, checkpoint B written, while the flash burst of a manifest's segment still waits for
admission. -/
def pauseWithBurst : State :=
  { ({} : State) with
    sys := { powered := true }
    lanes := { la := { state := .active, clocks := true }, holder := some .a, gate := true }
    spool := { written := some false }
    upd := {
      step := .switching, mode := 1, activating := some 1, boundary := some 0
      relays := [{ id := 7, segs := [(0, [1])] }], bursts := [{ n := 0, id := 7, index := 0, segment := true }] } }

/-- The close of the gate drops the burst with what else the lane had queued (R264). -/
theorem pauseWithBurst_closed : ∃ v, exec (.checkpointCommit 0) pauseWithBurst = .next v ∧ v.upd.bursts = [] :=
  ⟨_, rfl, by decide +kernel⟩

/-- Refutes O57: as a pause closes the gate, the flash bursts that the relay waits for are lost and their chunks and segments forgotten, while
the statement has the update engine change in nothing but PAUSE's progress and boundary; a pause with a burst in the queue shows it. -/
theorem not_updatesActivate : ¬ Obligations.UpdatesActivate := by
  rintro ⟨⟨-, hpause⟩, -⟩
  obtain ⟨-, hcommit, -⟩ := hpause 0 .a pauseWithBurst (by decide +kernel)
  obtain ⟨v, hv, -, -, -, hupd, -⟩ := hcommit false (by decide +kernel) (by decide +kernel) (by decide +kernel) (by decide +kernel)
  obtain ⟨w, hw, hlost⟩ := pauseWithBurst_closed
  rw [hv] at hw
  obtain rfl : v = w := by injection hw
  have hkept : v.upd.bursts ≠ [] := by
    rw [congrArg Upd.bursts hupd]
    decide +kernel
  exact hkept hlost

end Sys2Proof.Machine
end

section
/-! PROOFS. What the invariants of every step look at, and instructions of a Spindle that leave it as it is (R11, R24, R304, R372). -/
namespace Sys2Proof.Machine
open Sys2Proof.Safety

/-! ### What the invariants look at -/

/-- What the invariants see of the day's state. -/
def Sys.watched (x : Sys) : DayState × Bool × BitVec 8 × BitVec 16 × Bool := (x.state, x.hold, x.holdCause, x.refusal, x.disarmPending)

theorem Sys.watched_of_fields {x y : Sys} (h1 : x.state = y.state) (h2 : x.hold = y.hold) (h3 : x.holdCause = y.holdCause)
    (h4 : x.refusal = y.refusal) (h5 : x.disarmPending = y.disarmPending) : x.watched = y.watched := by
  unfold Sys.watched
  rw [h1, h2, h3, h4, h5]

@[simp] theorem Sys.watched_day (x : Sys) : x.day.watched = x.watched := rfl

@[simp] theorem Sys.watched_mk (powered state hold holdCause refusal dawn warm held stayDawn holdOff duskStep kl15 dawnAt latched pending cause
    line flag run done lock onTime subNs armedAt driving autoarm disarmPending disarmedAt ov hot pgnd huLow huReady tplate huMs warned offAt) :
    Sys.watched ⟨powered, state, hold, holdCause, refusal, dawn, warm, held, stayDawn, holdOff, duskStep, kl15, dawnAt, latched, pending, cause,
      line, flag, run, done, lock, onTime, subNs, armedAt, driving, autoarm, disarmPending, disarmedAt, ov, hot, pgnd, huLow, huReady,
      tplate, huMs, warned, offAt⟩ = (state, hold, holdCause, refusal, disarmPending) := rfl

@[simp] theorem Sys.watched_fields (x : Sys) : (x.state, x.hold, x.holdCause, x.refusal, x.disarmPending) = x.watched := rfl

/-- What the invariants see of the module: the Whorl and its gate, the Skein's buffer, the day. -/
def watch (s : State) : (Option Lane × Bool) × List Record × DayState × Bool × BitVec 8 × BitVec 16 × Bool :=
  (s.lanes.whorl, s.skein.kept.2, s.sys.watched)

/-- A command that moves nothing the invariants look at. -/
def Quiet (s : State) (o : Result) : Prop :=
  match o with
  | .next t => watch t = watch s
  | _ => True

@[simp] theorem quiet_next (s t : State) : Quiet s (.next t) ↔ watch t = watch s := Iff.rfl

@[simp] theorem advanceTo_watched (t : Time) (s : State) : (advanceTo t s).sys.watched = s.sys.watched :=
  Sys.watched_of_fields (by simp) (by simp) (by simp) (by simp) (by simp)

theorem Sys.watched_of_day {x y : Sys} (h : x.day = y.day) : x.watched = y.watched :=
  show x.day.watched = y.day.watched by rw [h]

@[simp] theorem elapse_watched (dt : Nat) (s : State) : (elapse dt s).sys.watched = s.sys.watched := rfl

@[simp] theorem tick_watched (s : State) : (tick s).sys.watched = s.sys.watched := by
  unfold tick
  dsimp only
  split <;> simp

@[simp] theorem tripRewrite_watched (addr : Nat) (s : State) : (tripRewrite addr s).sys.watched = s.sys.watched :=
  Sys.watched_of_day (tripRewrite_day addr s)

@[simp] theorem mend_watched (addr : Nat) (s : State) : (mend addr s).sys.watched = s.sys.watched := Sys.watched_of_day (mend_day addr s)

@[simp] theorem readReg_watched (who : Requester) (addr : Nat) (s : State) : (readReg who addr s).2.sys.watched = s.sys.watched :=
  Sys.watched_of_day (readReg_day who addr s)

@[simp] theorem snapshots_watched (l : List Word) (s : State) : (snapshots l s).2.sys.watched = s.sys.watched :=
  Sys.watched_of_day (snapshots_day l s)

@[simp] theorem setLocks_watched (bits : BitVec 5) (s : State) : (setLocks bits s).sys.watched = s.sys.watched := rfl

theorem watch_foldl {α : Type} (f : State → α → State) (h : ∀ s a, watch (f s a) = watch s) (l : List α) (s : State) :
    watch (l.foldl f s) = watch s :=
  foldl_keeps watch h l s

/-! ### Instructions of a Spindle -/

theorem quiet_onSpindle (x : Slot) (level charge : Nat) (legal : Bool) (f : Activation → State → State) (s : State)
    (h : ∀ y s, watch (f y s) = watch s) : Quiet s (onSpindle x level charge legal f s) := by
  unfold onSpindle
  split
  · rfl
  · dsimp only
    (repeat' split) <;> simp [h] <;> simp [watch]

@[simp] theorem quiet_onRegs (x : Slot) (level charge : Nat) (f : Activation → Activation) (s : State) : Quiet s (onRegs x level charge f s) :=
  quiet_onSpindle _ _ _ _ _ _ fun y s => by simp [watch]

@[simp] theorem quiet_intoG (x : Slot) (level charge : Nat) (d a b : GReg) (f : Word → Word → Word) (s : State) :
    Quiet s (intoG x level charge d a b f s) :=
  quiet_onRegs _ _ _ _ _

@[simp] theorem quiet_intoG1 (x : Slot) (level charge : Nat) (d a : GReg) (f : Word → Word) (s : State) :
    Quiet s (intoG1 x level charge d a f s) :=
  quiet_onRegs _ _ _ _ _

@[simp] theorem quiet_intoP (x : Slot) (level charge : Nat) (d : PReg) (a b : GReg) (f : Word → Word → Bool) (s : State) :
    Quiet s (intoP x level charge d a b f s) :=
  quiet_onRegs _ _ _ _ _

@[simp] theorem quiet_intoPP (x : Slot) (d a b : PReg) (f : Bool → Bool → Bool) (s : State) : Quiet s (intoPP x d a b f s) :=
  quiet_onRegs _ _ _ _ _

@[simp] theorem quiet_loadInto (x : Slot) (n : Nat) (d a : GReg) (imm : BitVec 13) (ext : Nat → Word) (s : State) :
    Quiet s (loadInto x n d a imm ext s) :=
  quiet_onSpindle _ _ _ _ _ _ fun y s => by
    dsimp only [watch]
    (repeat' split) <;> simp

@[simp] theorem quiet_storeFrom (x : Slot) (n : Nat) (data a : GReg) (imm : BitVec 13) (s : State) :
    Quiet s (storeFrom x n data a imm s) :=
  quiet_onSpindle _ _ _ _ _ _ fun y s => by
    dsimp only [watch]
    (repeat' split) <;> simp

@[simp] theorem quiet_readInto (x : Slot) (level : Nat) (d : GReg) (h : Byte) (ix : GReg) (sel : Nat) (s : State) :
    Quiet s (readInto x level d h ix sel s) :=
  quiet_onSpindle _ _ _ _ _ _ fun y s => by simp [watch]

theorem quiet_onOutput (x : Slot) (h : BitVec 6) (f note : Chan → Activation → State → State) (s : State)
    (hf : ∀ c y s, watch (f c y s) = watch s) (hn : ∀ c y s, watch (note c y s) = watch s) : Quiet s (onOutput x h f note s) :=
  quiet_onSpindle _ _ _ _ _ _ fun y s => by
    have hact (sp : Nat) (a : Activation) (s : State) : watch (setAct sp a s) = watch s := by simp [watch]
    split
    · simp [watch]
    · rw [hact]
      split
      · exact hf _ y s
      · split
        · exact hn _ y s
        · rfl

end Sys2Proof.Machine
end

section
/-! PROOFS. Commands that leave what the invariants look at as it is: each is made of operations that do. -/
namespace Sys2Proof.Machine
open Sys2Proof.Safety

/-! ### Sundial -/

theorem quiet_execSundialGnssTimeout (t : Time) (s : State) : Quiet s (execSundialGnssTimeout t s) := by
  unfold execSundialGnssTimeout
  simp only [quiet_next]
  dsimp only [watch]
  (repeat' split) <;> simp

theorem quiet_execPpsEdge (t : Time) (s : State) : Quiet s (execPpsEdge t s) := by
  unfold execPpsEdge
  simp only [quiet_next]
  dsimp only [watch]
  (repeat' split) <;> simp

theorem quiet_execPpsPulseEnd (t : Time) (pin : Bool) (s : State) : Quiet s (execPpsPulseEnd t pin s) := by
  unfold execPpsPulseEnd
  simp only [quiet_next]
  dsimp only [watch]
  (repeat' split) <;> simp

theorem quiet_execSundialStep (t : Time) (s : State) : Quiet s (execSundialStep t s) := by
  unfold execSundialStep
  simp only [quiet_next]
  dsimp only [watch]
  (repeat' split) <;> simp

theorem quiet_execRtcUpdate (t : Time) (s : State) : Quiet s (execRtcUpdate t s) := by
  simp [execRtcUpdate, watch]

theorem quiet_execLeapSecond (t : Time) (s : State) : Quiet s (execLeapSecond t s) := by
  unfold execLeapSecond
  simp only [quiet_next]
  dsimp only [watch]
  (repeat' split) <;> simp

theorem quiet_execGptpSyncSend (t : Time) (s : State) : Quiet s (execGptpSyncSend t s) := by
  unfold execGptpSyncSend
  simp only [quiet_next]
  dsimp only [watch]
  (repeat' split) <;> simp

theorem quiet_execGptpAnnounceSend (t : Time) (s : State) : Quiet s (execGptpAnnounceSend t s) := by
  unfold execGptpAnnounceSend
  simp only [quiet_next]
  dsimp only [watch]
  (repeat' split) <;> simp

theorem quiet_execGptpPeerDelay (t : Time) (port : Fin 8) (delayNs : Nat) (s : State) : Quiet s (execGptpPeerDelay t port delayNs s) := by
  unfold execGptpPeerDelay
  simp only [quiet_next]
  dsimp only [watch]
  (repeat' split) <;> simp

theorem quiet_execGptpAnnounceReceived (t : Time) (_port : Fin 8) (_priority1 : Byte) (s : State) :
    Quiet s (execGptpAnnounceReceived t _port _priority1 s) := by
  simp [execGptpAnnounceReceived, watch]

/-! ### Gnss -/

theorem quiet_execGnssAidingTimeout (t : Time) (s : State) : Quiet s (execGnssAidingTimeout t s) := by
  unfold execGnssAidingTimeout
  simp only [quiet_next]
  dsimp only [watch]
  (repeat' split) <;> simp

theorem quiet_execGnssExclusionRelease (t : Time) (ch : Fin 256) (s : State) : Quiet s (execGnssExclusionRelease t ch s) := by
  unfold execGnssExclusionRelease
  simp only [quiet_next]
  dsimp only [watch]
  (repeat' split) <;> simp

theorem quiet_execGnssSpoofClear (t : Time) (s : State) : Quiet s (execGnssSpoofClear t s) := by
  unfold execGnssSpoofClear
  simp only [quiet_next]
  dsimp only [watch]
  (repeat' split) <;> simp

theorem quiet_execPositionSolution (t : Time) (sol : Solution) (s : State) : Quiet s (execPositionSolution t sol s) := by
  unfold execPositionSolution
  simp only [quiet_next]
  dsimp only [watch]
  (repeat' split) <;> simp

theorem quiet_execRtcmFrame (t : Time) (bytes : List Byte) (crcOk : Bool) (msg : Nat) (s : State) :
    Quiet s (execRtcmFrame t bytes crcOk msg s) := by
  unfold execRtcmFrame
  simp only [quiet_next]
  dsimp only [watch]
  (repeat' split) <;> simp

theorem quiet_execSearchCellFound (t : Time) (engine : Fin 32) (ch : Fin 256) (s : State) :
    Quiet s (execSearchCellFound t engine ch s) := by
  unfold execSearchCellFound
  simp only [quiet_next]
  dsimp only [watch]
  (repeat' split) <;> simp

theorem quiet_execSearchDwellDone (t : Time) (engine : Fin 32) (s : State) : Quiet s (execSearchDwellDone t engine s) := by
  unfold execSearchDwellDone
  simp only [quiet_next]
  dsimp only [watch]
  (repeat' split) <;> simp

theorem quiet_execChannelPullinEnd (t : Time) (ch : Fin 256) (handover : Option (Fin 256)) (s : State) :
    Quiet s (execChannelPullinEnd t ch handover s) := by
  unfold execChannelPullinEnd
  simp only [quiet_next]
  dsimp only [watch]
  (repeat' split) <;> simp

theorem quiet_execChannelCoastEnter (t : Time) (ch : Fin 256) (s : State) : Quiet s (execChannelCoastEnter t ch s) := by
  unfold execChannelCoastEnter
  simp only [quiet_next]
  dsimp only [watch]
  (repeat' split) <;> simp

theorem quiet_execChannelCoastTimeout (t : Time) (ch : Fin 256) (engine : Option (Fin 32)) (s : State) :
    Quiet s (execChannelCoastTimeout t ch engine s) := by
  unfold execChannelCoastTimeout
  simp only [quiet_next]
  dsimp only [watch]
  (repeat' split) <;> simp

theorem quiet_execChannelRelock (t : Time) (ch : Fin 256) (s : State) : Quiet s (execChannelRelock t ch s) := by
  unfold execChannelRelock
  simp only [quiet_next]
  dsimp only [watch]
  (repeat' split) <;> simp

theorem quiet_execSpacingChangeApply (t : Time) (ch : Fin 256) (s : State) : Quiet s (execSpacingChangeApply t ch s) := by
  unfold execSpacingChangeApply
  simp only [quiet_next]
  dsimp only [watch]
  (repeat' split) <;> simp

theorem quiet_execAntennaBiasShort (t : Time) (ant : Fin 2) (s : State) : Quiet s (execAntennaBiasShort t ant s) := by
  unfold execAntennaBiasShort
  simp only [quiet_next]
  dsimp only [watch]
  (repeat' split) <;> simp

theorem quiet_execAntennaBiasRetry (t : Time) (ant : Fin 2) (s : State) : Quiet s (execAntennaBiasRetry t ant s) := by
  unfold execAntennaBiasRetry
  simp only [quiet_next]
  dsimp only [watch]
  (repeat' split) <;> simp

theorem quiet_execAntennaOpen (t : Time) (ant : Fin 2) (s : State) : Quiet s (execAntennaOpen t ant s) := by
  unfold execAntennaOpen
  simp only [quiet_next]
  dsimp only [watch]
  (repeat' split) <;> simp

theorem quiet_execAntennaBiasOk (t : Time) (ant : Fin 2) (s : State) : Quiet s (execAntennaBiasOk t ant s) := by
  unfold execAntennaBiasOk
  simp only [quiet_next]
  dsimp only [watch]
  (repeat' split) <;> simp

/-! ### Control -/

theorem quiet_execLdc (x : Slot) (d : GReg) (imm : BitVec 13) (s : State) : Quiet s (execLdc x d imm s) := by
  unfold execLdc
  exact quiet_onSpindle _ _ _ _ _ _ fun y s => by
    dsimp only [watch]
    (repeat' split) <;> simp

theorem quiet_execBr (x : Slot) (imm : BitVec 13) (s : State) : Quiet s (execBr x imm s) := by
  unfold execBr
  exact quiet_onSpindle _ _ _ _ _ _ fun y s => by simp [watch]

theorem quiet_execLoop (x : Slot) (a : GReg) (imm : BitVec 13) (s : State) : Quiet s (execLoop x a imm s) := by
  unfold execLoop
  simp only [quiet_next]
  dsimp only [watch]
  (repeat' split) <;> simp

theorem quiet_execNext (x : Slot) (s : State) : Quiet s (execNext x s) := by
  unfold execNext
  exact quiet_onSpindle _ _ _ _ _ _ fun y s => by
    dsimp only [watch]
    (repeat' split) <;> simp

theorem quiet_execBrk (x : Slot) (s : State) : Quiet s (execBrk x s) := by
  unfold execBrk
  exact quiet_onSpindle _ _ _ _ _ _ fun y s => by
    dsimp only [watch]
    (repeat' split) <;> simp

theorem quiet_execEnd (x : Slot) (s : State) : Quiet s (execEnd x s) := by
  unfold execEnd
  exact quiet_onSpindle _ _ _ _ _ _ fun y s => by simp [watch]

theorem quiet_execTrap (x : Slot) (imm : BitVec 13) (s : State) : Quiet s (execTrap x imm s) := by
  unfold execTrap
  exact quiet_onSpindle _ _ _ _ _ _ fun y s => by simp [watch]

theorem quiet_execBar (x : Slot) (n : Fin 16) (s : State) : Quiet s (execBar x n s) := by
  unfold execBar
  exact quiet_onSpindle _ _ _ _ _ _ fun y s => by
    dsimp only [watch]
    (repeat' split) <;> simp

theorem quiet_execBarrierResume (t : Time) (group : Fin 16) (ti : Time) (s : State) : Quiet s (execBarrierResume t group ti s) := by
  unfold execBarrierResume
  simp only [quiet_next]
  dsimp only [watch]
  (repeat' split) <;> simp

theorem quiet_execTimeNow (x : Slot) (d : GReg) (hi : Bool) (s : State) : Quiet s (execTimeNow x d hi s) := by
  unfold execTimeNow
  exact quiet_onSpindle _ _ _ _ _ _ fun y s => by
    dsimp only [watch]
    (repeat' split) <;> simp

/-! ### Signals -/

theorem quiet_execSigWr (x : Slot) (ix : GReg) (h : Byte) (st : BitVec 4) (a : GReg) (s : State) : Quiet s (execSigWr x ix h st a s) := by
  unfold execSigWr
  exact quiet_onSpindle _ _ _ _ _ _ fun y s => by
    dsimp only [watch]
    (repeat' split) <;> simp

theorem quiet_execBobPush (x : Slot) (d : PReg) (b : Fin 16) (addr len : GReg) (s : State) : Quiet s (execBobPush x d b addr len s) := by
  unfold execBobPush
  exact quiet_onSpindle _ _ _ _ _ _ fun y s => by
    dsimp only [watch]
    (repeat' split) <;> simp

theorem quiet_execBobPeek (x : Slot) (d : GReg) (b : Fin 16) (sel : BitVec 5) (s : State) : Quiet s (execBobPeek x d b sel s) := by
  unfold execBobPeek
  exact quiet_onSpindle _ _ _ _ _ _ fun y s => by
    dsimp only [watch]
    (repeat' split) <;> simp

theorem quiet_execBobbinWaitResume (t : Time) (b : Nat) (s : State) : Quiet s (execBobbinWaitResume t b s) := by
  unfold execBobbinWaitResume
  simp only [quiet_next]
  dsimp only [watch]
  (repeat' split) <;> simp

/-! ### Twist -/

theorem quiet_execLawIn (x : Slot) (l : BitVec 6) (sel : BitVec 4) (a : GReg) (s : State) : Quiet s (execLawIn x l sel a s) := by
  unfold execLawIn
  exact quiet_onSpindle _ _ _ _ _ _ fun y s => by
    dsimp only [watch]
    (repeat' split) <;> simp

theorem quiet_execLawStep (x : Slot) (l : BitVec 6) (s : State) : Quiet s (execLawStep x l s) := by
  unfold execLawStep
  exact quiet_onSpindle _ _ _ _ _ _ fun y s => by simp [watch]

theorem quiet_execLawOut (x : Slot) (d : GReg) (l : BitVec 6) (sel : BitVec 4) (s : State) : Quiet s (execLawOut x d l sel s) := by
  unfold execLawOut
  exact quiet_onSpindle _ _ _ _ _ _ fun y s => by
    dsimp only [watch]
    (repeat' split) <;> simp

theorem quiet_execSigWaitResume (t : Time) (sp : Fin 64) (s : State) : Quiet s (execSigWaitResume t sp s) := by
  unfold execSigWaitResume
  simp only [quiet_next]
  dsimp only [watch]
  (repeat' split) <;> simp

/-! ### Tasks -/

theorem quiet_execTaskReleasePeriodic (t : Time) (task : Nat) (s : State) : Quiet s (execTaskReleasePeriodic t task s) := by
  unfold execTaskReleasePeriodic
  simp only [quiet_next]
  dsimp only [watch]
  (repeat' split) <;> simp

theorem quiet_execTaskReleaseArrival (t : Time) (task : Nat) (s : State) : Quiet s (execTaskReleaseArrival t task s) := by
  unfold execTaskReleaseArrival
  simp only [quiet_next]
  dsimp only [watch]
  (repeat' split) <;> simp

theorem quiet_execActivationStart (t : Time) (sp : Fin 64) (s : State) : Quiet s (execActivationStart t sp s) := by
  unfold execActivationStart
  simp only [quiet_next]
  dsimp only [watch]
  (repeat' split) <;> simp

/-! ### Lanes -/

theorem quiet_execCheckpointCapture (t : Time) (s : State) : Quiet s (execCheckpointCapture t s) := by
  unfold execCheckpointCapture
  simp only [quiet_next]
  dsimp only [watch]
  (repeat' split) <;> simp

theorem quiet_execFailedSupplyOff (t : Time) (l : Lane) (s : State) : Quiet s (execFailedSupplyOff t l s) := by
  unfold execFailedSupplyOff
  simp only [quiet_next]
  dsimp only [watch]
  (repeat' split) <;> simp

theorem quiet_execLeaseGuardEnd (t : Time) (s : State) : Quiet s (execLeaseGuardEnd t s) := by
  unfold execLeaseGuardEnd
  simp only [quiet_next]
  dsimp only [watch]
  (repeat' split) <;> simp

theorem quiet_execStandbyWakeDone (t : Time) (s : State) : Quiet s (execStandbyWakeDone t s) := by
  unfold execStandbyWakeDone
  simp only [quiet_next]
  dsimp only [watch]
  (repeat' split) <;> simp

theorem quiet_execCheckpointRestored (t : Time) (s : State) : Quiet s (execCheckpointRestored t s) := by
  unfold execCheckpointRestored
  simp only [quiet_next]
  dsimp only [watch]
  (repeat' split) <;> simp

/-! ### Outputs -/

theorem quiet_execOutSw (x : Slot) (h : BitVec 6) (a : GReg) (s : State) : Quiet s (execOutSw x h a s) := by
  unfold execOutSw
  exact quiet_onSpindle _ _ _ _ _ _ fun y s => by
    dsimp only [watch]
    (repeat' split) <;> simp

theorem quiet_execOutPwm (x : Slot) (h : BitVec 6) (a : GReg) (s : State) : Quiet s (execOutPwm x h a s) := by
  unfold execOutPwm
  exact quiet_onSpindle _ _ _ _ _ _ fun y s => by
    dsimp only [watch]
    (repeat' split) <;> simp

/-! ### LoadSwitch -/

theorem quiet_execTallyQueueAdmit (t : Time) (supply : Fin 5) (s : State) : Quiet s (execTallyQueueAdmit t supply s) := by
  unfold execTallyQueueAdmit
  simp only [quiet_next]
  dsimp only [watch]
  (repeat' split) <;> simp

theorem quiet_execTallyClaimRefused (t : Time) (supply : Fin 5) (ch : Chan) (s : State) :
    Quiet s (execTallyClaimRefused t supply ch s) := by
  unfold execTallyClaimRefused
  simp only [quiet_next]
  dsimp only [watch]
  (repeat' split) <;> simp

theorem quiet_execTallyTransientEnd (t : Time) (supply : Fin 5) (index : Nat) (s : State) :
    Quiet s (execTallyTransientEnd t supply index s) := by
  unfold execTallyTransientEnd
  simp only [quiet_next]
  dsimp only [watch]
  (repeat' split) <;> simp

theorem quiet_execVbatClaimWaitWarn (t : Time) (index : Nat) (s : State) : Quiet s (execVbatClaimWaitWarn t index s) := by
  unfold execVbatClaimWaitWarn
  simp only [quiet_next]
  dsimp only [watch]
  (repeat' split) <;> simp

theorem quiet_execLswLimitEngage (t : Time) (ch : Fin 48) (current : BitVec 16) (s : State) :
    Quiet s (execLswLimitEngage t ch current s) := by
  unfold execLswLimitEngage
  simp only [quiet_next]
  dsimp only [watch]
  (repeat' split) <;> simp

theorem quiet_execLswTrip (t : Time) (ch : Fin 48) (s : State) : Quiet s (execLswTrip t ch s) := by
  unfold execLswTrip
  simp only [quiet_next]
  dsimp only [watch]
  (repeat' split) <;> simp

theorem quiet_execLswThermalLatch (t : Time) (ch : Fin 48) (s : State) : Quiet s (execLswThermalLatch t ch s) := by
  unfold execLswThermalLatch
  simp only [quiet_next]
  dsimp only [watch]
  (repeat' split) <;> simp

theorem quiet_execLswThermalRelease (t : Time) (ch : Fin 48) (s : State) : Quiet s (execLswThermalRelease t ch s) := by
  unfold execLswThermalRelease
  simp only [quiet_next]
  dsimp only [watch]
  (repeat' split) <;> simp

theorem quiet_execLswBackoffEnd (t : Time) (ch : Fin 48) (s : State) : Quiet s (execLswBackoffEnd t ch s) := by
  unfold execLswBackoffEnd
  simp only [quiet_next]
  dsimp only [watch]
  (repeat' split) <;> simp

theorem quiet_execPwmPeriodStart (t : Time) (ch : Chan) (current : BitVec 16) (cal : Option (BitVec 16)) (s : State) :
    Quiet s (execPwmPeriodStart t ch current cal s) := by
  unfold execPwmPeriodStart
  simp only [quiet_next]
  dsimp only [watch]
  (repeat' split) <;> simp

theorem quiet_execPwmUndrivenSettle (t : Time) (ch : Fin 48) (s : State) : Quiet s (execPwmUndrivenSettle t ch s) := by
  unfold execPwmUndrivenSettle
  simp only [quiet_next]
  dsimp only [watch]
  (repeat' split) <;> simp

theorem quiet_execBankUndervoltage (t : Time) (bank : Fin 4) (s : State) : Quiet s (execBankUndervoltage t bank s) := by
  unfold execBankUndervoltage
  simp only [quiet_next]
  dsimp only [watch]
  (repeat' split) <;> simp

theorem quiet_execBankUvRestart (t : Time) (bank : Fin 4) (halfVolts : BitVec 7) (s : State) :
    Quiet s (execBankUvRestart t bank halfVolts s) := by
  unfold execBankUvRestart
  simp only [quiet_next]
  dsimp only [watch]
  (repeat' split) <;> simp

theorem quiet_execBankOvervoltage (t : Time) (bank : Fin 4) (s : State) : Quiet s (execBankOvervoltage t bank s) := by
  unfold execBankOvervoltage
  simp only [quiet_next]
  dsimp only [watch]
  (repeat' split) <;> simp

theorem quiet_execBankOvRestart (t : Time) (bank : Fin 4) (s : State) : Quiet s (execBankOvRestart t bank s) := by
  unfold execBankOvRestart
  simp only [quiet_next]
  dsimp only [watch]
  (repeat' split) <;> simp

/-! ### Inputs -/

theorem quiet_execAdcSlot (t : Time) (a : Fin 12) (code : BitVec 16) (cal : Option (Int × Int)) (s : State) :
    Quiet s (execAdcSlot t a code cal s) := by
  unfold execAdcSlot
  simp only [quiet_next]
  dsimp only [watch]
  (repeat' split) <;> simp

theorem quiet_execAdcCalAgeExpired (t : Time) (a : Fin 12) (s : State) : Quiet s (execAdcCalAgeExpired t a s) := by
  unfold execAdcCalAgeExpired
  simp only [quiet_next]
  dsimp only [watch]
  (repeat' split) <;> simp

theorem quiet_execAinBurdenOpen (t : Time) (input : Fin 96) (s : State) : Quiet s (execAinBurdenOpen t input s) := by
  unfold execAinBurdenOpen
  simp only [quiet_next]
  dsimp only [watch]
  (repeat' split) <;> simp

theorem quiet_execAinBurdenClose (t : Time) (input : Fin 96) (s : State) : Quiet s (execAinBurdenClose t input s) := by
  unfold execAinBurdenClose
  simp only [quiet_next]
  dsimp only [watch]
  (repeat' split) <;> simp

theorem quiet_execFreqEdge (t : Time) (input : Fin 96) (s : State) : Quiet s (execFreqEdge t input s) := by
  unfold execFreqEdge
  simp only [quiet_next]
  dsimp only [watch]
  (repeat' split) <;> simp

theorem quiet_execShaftEdge (t : Time) (track : Fin 16) (heldNs : Nat) (reverse : Bool) (s : State) :
    Quiet s (execShaftEdge t track heldNs reverse s) := by
  unfold execShaftEdge
  simp only [quiet_next]
  dsimp only [watch]
  (repeat' split) <;> simp

theorem quiet_execShaftIndexEdge (t : Time) (track : Fin 16) (s : State) : Quiet s (execShaftIndexEdge t track s) := by
  unfold execShaftIndexEdge
  simp only [quiet_next]
  dsimp only [watch]
  (repeat' split) <;> simp

theorem quiet_execShaftGridSample (t : Time) (track : Fin 16) (s : State) : Quiet s (execShaftGridSample t track s) := by
  unfold execShaftGridSample
  simp only [quiet_next]
  dsimp only [watch]
  (repeat' split) <;> simp

theorem quiet_execShaftStop (t : Time) (track : Fin 16) (s : State) : Quiet s (execShaftStop t track s) := by
  unfold execShaftStop
  simp only [quiet_next]
  dsimp only [watch]
  (repeat' split) <;> simp

theorem quiet_execPsi5SyncPulse (t : Time) (port : Fin 12) (s : State) : Quiet s (execPsi5SyncPulse t port s) := by
  unfold execPsi5SyncPulse
  simp only [quiet_next]
  dsimp only [watch]
  (repeat' split) <;> simp

theorem quiet_execPsi5Frame (t : Time) (port : Fin 12) (slot : Fin 4) (startBit : Time) (f : Psi5Frame) (s : State) :
    Quiet s (execPsi5Frame t port slot startBit f s) := by
  unfold execPsi5Frame
  simp only [quiet_next]
  dsimp only [watch]
  (repeat' split) <;> simp

theorem quiet_execSentFrame (t : Time) (port : Fin 12) (calPulse : Time) (f : SentFrame) (s : State) :
    Quiet s (execSentFrame t port calPulse f s) := by
  unfold execSentFrame
  simp only [quiet_next]
  dsimp only [watch]
  (repeat' split) <;> simp

theorem quiet_execPortSupplyOvercurrent (t : Time) (port : Fin 12) (s : State) : Quiet s (execPortSupplyOvercurrent t port s) := by
  unfold execPortSupplyOvercurrent
  simp only [quiet_next]
  dsimp only [watch]
  (repeat' split) <;> simp

theorem quiet_execPortSupplyRetry (t : Time) (port : Fin 12) (s : State) : Quiet s (execPortSupplyRetry t port s) := by
  unfold execPortSupplyRetry
  simp only [quiet_next]
  dsimp only [watch]
  (repeat' split) <;> simp

theorem quiet_execSupCurrentLimit (t : Time) (sup : Fin 16) (s : State) : Quiet s (execSupCurrentLimit t sup s) := by
  unfold execSupCurrentLimit
  simp only [quiet_next]
  dsimp only [watch]
  (repeat' split) <;> simp

theorem quiet_execSupRetry (t : Time) (sup : Fin 16) (s : State) : Quiet s (execSupRetry t sup s) := by
  unfold execSupRetry
  simp only [quiet_next]
  dsimp only [watch]
  (repeat' split) <;> simp

theorem quiet_execSupSettled (t : Time) (sup : Fin 16) (s : State) : Quiet s (execSupSettled t sup s) := by
  unfold execSupSettled
  simp only [quiet_next]
  dsimp only [watch]
  (repeat' split) <;> simp

theorem quiet_execImuSample (t : Time) (values : List Word) (temp : BitVec 16) (fullScale : Bool) (s : State) :
    Quiet s (execImuSample t values temp fullScale s) := by
  unfold execImuSample
  simp only [quiet_next]
  dsimp only [watch]
  (repeat' split) <;> simp

/-! ### Strike -/

theorem quiet_execStrikeFloorHold (t : Time) (ch : Fin 32) (s : State) : Quiet s (execStrikeFloorHold t ch s) := by
  unfold execStrikeFloorHold
  simp only [quiet_next]
  dsimp only [watch]
  (repeat' split) <;> simp

theorem quiet_execStrikeWindowCaptured (t : Time) (ch : Fin 32) (s : State) : Quiet s (execStrikeWindowCaptured t ch s) := by
  unfold execStrikeWindowCaptured
  simp only [quiet_next]
  dsimp only [watch]
  (repeat' split) <;> simp

theorem quiet_execStrikeClassifyDone (t : Time) (engine : Fin 4) (s : State) : Quiet s (execStrikeClassifyDone t engine s) := by
  unfold execStrikeClassifyDone
  simp only [quiet_next]
  dsimp only [watch]
  (repeat' split) <;> simp

theorem quiet_execStrikeBinClose (t : Time) (s : State) : Quiet s (execStrikeBinClose t s) := by
  unfold execStrikeBinClose
  simp only [quiet_next]
  dsimp only [watch]
  (repeat' split) <;> simp

theorem quiet_execStrikeFaultEnter (t : Time) (ch : Fin 32) (s : State) : Quiet s (execStrikeFaultEnter t ch s) := by
  unfold execStrikeFaultEnter
  simp only [quiet_next]
  dsimp only [watch]
  (repeat' split) <;> simp

theorem quiet_execStrikeFaultLeave (t : Time) (ch : Fin 32) (s : State) : Quiet s (execStrikeFaultLeave t ch s) := by
  unfold execStrikeFaultLeave
  simp only [quiet_next]
  dsimp only [watch]
  (repeat' split) <;> simp

/-! ### Ply -/

theorem quiet_execPlyLateflagEval (t : Time) (s : State) : Quiet s (execPlyLateflagEval t s) := by
  unfold execPlyLateflagEval
  simp only [quiet_next, watch]
  (repeat' split) <;> simp (disch := (intros; (repeat' split) <;> simp))

theorem quiet_execPoseHistoryAppend (t : Time) (s : State) : Quiet s (execPoseHistoryAppend t s) := by
  unfold execPoseHistoryAppend
  simp only [quiet_next]
  dsimp only [watch]
  (repeat' split) <;> simp

theorem quiet_execYieldRecordClose (t : Time) (ch : Fin 4) (s : State) : Quiet s (execYieldRecordClose t ch s) := by
  unfold execYieldRecordClose
  simp only [quiet_next]
  dsimp only [watch]
  (repeat' split) <;> simp

theorem quiet_execYieldRecordPush (t : Time) (ch : Fin 4) (s : State) : Quiet s (execYieldRecordPush t ch s) := by
  unfold execYieldRecordPush
  simp only [quiet_next]
  dsimp only [watch]
  (repeat' split) <;> simp

/-! ### Can -/

theorem quiet_execCanRxHeldDeliver (t : Time) (ctrl : Fin 16) (s : State) : Quiet s (execCanRxHeldDeliver t ctrl s) := by
  unfold execCanRxHeldDeliver
  simp only [quiet_next]
  dsimp only [watch]
  (repeat' split) <;> simp

theorem quiet_execCanFrameTransmitted (t : Time) (ctrl : Fin 16) (buf : Fin 3) (s : State) :
    Quiet s (execCanFrameTransmitted t ctrl buf s) := by
  unfold execCanFrameTransmitted
  simp only [quiet_next]
  dsimp only [watch]
  (repeat' split) <;> simp

theorem quiet_execCanTxTimeout (t : Time) (ctrl : Fin 16) (buf : Fin 3) (s : State) : Quiet s (execCanTxTimeout t ctrl buf s) := by
  unfold execCanTxTimeout
  simp only [quiet_next]
  dsimp only [watch]
  (repeat' split) <;> simp

theorem quiet_execCanProtocolError (t : Time) (ctrl : Fin 16) (tx data : Bool) (code : BitVec 3) (tec rec_ : BitVec 9) (s : State) :
    Quiet s (execCanProtocolError t ctrl tx data code tec rec_ s) := by
  unfold execCanProtocolError
  simp only [quiet_next]
  dsimp only [watch]
  (repeat' split) <;> simp

theorem quiet_execCanBusOffRecovered (t : Time) (ctrl : Fin 16) (s : State) : Quiet s (execCanBusOffRecovered t ctrl s) := by
  unfold execCanBusOffRecovered
  simp only [quiet_next]
  dsimp only [watch]
  (repeat' split) <;> simp

theorem quiet_execCanIntegrated (t : Time) (ctrl : Fin 16) (s : State) : Quiet s (execCanIntegrated t ctrl s) := by
  unfold execCanIntegrated
  simp only [quiet_next]
  dsimp only [watch]
  (repeat' split) <;> simp

theorem quiet_execCanListenApply (t : Time) (ctrl : Fin 16) (s : State) : Quiet s (execCanListenApply t ctrl s) := by
  unfold execCanListenApply
  simp only [quiet_next]
  dsimp only [watch]
  (repeat' split) <;> simp

/-! ### Ethernet -/

theorem quiet_execEthFrameReceived (t : Time) (port : Fin 10) (f : EthFrame) (s : State) : Quiet s (execEthFrameReceived t port f s) := by
  unfold execEthFrameReceived
  simp only [quiet_next]
  dsimp only [watch]
  (repeat' split) <;> simp

theorem quiet_execEthFrameEgress (t : Time) (port : Fin 10) (s : State) : Quiet s (execEthFrameEgress t port s) := by
  unfold execEthFrameEgress
  simp only [quiet_next]
  dsimp only [watch]
  (repeat' split) <;> simp

theorem quiet_execGateListAdvance (t : Time) (port : Fin 8) (s : State) : Quiet s (execGateListAdvance t port s) := by
  unfold execGateListAdvance
  simp only [quiet_next]
  dsimp only [watch]
  (repeat' split) <;> simp

theorem quiet_execEthLinkDown (t : Time) (port : Fin 8) (s : State) : Quiet s (execEthLinkDown t port s) := by
  unfold execEthLinkDown
  simp only [quiet_next]
  dsimp only [watch]
  (repeat' split) <;> simp

theorem quiet_execEthLinkUp (t : Time) (port : Fin 8) (sqi : BitVec 3) (s : State) : Quiet s (execEthLinkUp t port sqi s) := by
  unfold execEthLinkUp
  simp only [quiet_next]
  dsimp only [watch]
  (repeat' split) <;> simp

theorem quiet_execMacEntryAgeing (t : Time) (addr : BitVec 48) (s : State) : Quiet s (execMacEntryAgeing t addr s) := by
  simp [execMacEntryAgeing, watch]

/-! ### Panel -/

theorem quiet_execPanelTableLoad (t : Time) (w : WaveTable) (s : State) : Quiet s (execPanelTableLoad t w s) := by
  unfold execPanelTableLoad
  simp only [quiet_next]
  dsimp only [watch]
  (repeat' split) <;> simp

theorem quiet_execPanelFrameBoundary (t : Time) (temp : BitVec 8) (s : State) : Quiet s (execPanelFrameBoundary t temp s) := by
  unfold execPanelFrameBoundary
  simp only [quiet_next]
  dsimp only [watch]
  (repeat' split) <;> simp

theorem quiet_execPanelUpdateComplete (t : Time) (index : Nat) (s : State) : Quiet s (execPanelUpdateComplete t index s) := by
  unfold execPanelUpdateComplete
  simp only [quiet_next]
  dsimp only [watch]
  (repeat' split) <;> simp

theorem quiet_execPanelRailsUp (t : Time) (s : State) : Quiet s (execPanelRailsUp t s) := by
  unfold execPanelRailsUp
  simp only [quiet_next]
  dsimp only [watch]
  (repeat' split) <;> simp

theorem quiet_execPanelRailIdle (t : Time) (s : State) : Quiet s (execPanelRailIdle t s) := by
  unfold execPanelRailIdle
  simp only [quiet_next]
  dsimp only [watch]
  (repeat' split) <;> simp

theorem quiet_execPanelRailFault (t : Time) (s : State) : Quiet s (execPanelRailFault t s) := by
  unfold execPanelRailFault
  simp only [quiet_next]
  dsimp only [watch]
  (repeat' split) <;> simp

theorem quiet_execPanelRecovery (t : Time) (flashHasGen : Bool) (s : State) : Quiet s (execPanelRecovery t flashHasGen s) := by
  unfold execPanelRecovery
  simp only [quiet_next]
  dsimp only [watch]
  (repeat' split) <;> simp

/-! ### Clocks -/

theorem quiet_execClockReturnMain (t : Time) (d : Fin 10) (s : State) : Quiet s (execClockReturnMain t d s) := by
  unfold execClockReturnMain
  simp only [quiet_next]
  dsimp only [watch]
  (repeat' split) <;> simp

/-! ### Solenoid -/

theorem quiet_execSolRiseDone (t : Time) (ch : Fin 32) (s : State) : Quiet s (execSolRiseDone t ch s) := by
  unfold execSolRiseDone
  simp only [quiet_next]
  dsimp only [watch]
  (repeat' split) <;> simp

theorem quiet_execSolArmatureMove (t : Time) (ch : Fin 32) (s : State) : Quiet s (execSolArmatureMove t ch s) := by
  unfold execSolArmatureMove
  simp only [quiet_next]
  dsimp only [watch]
  (repeat' split) <;> simp

theorem quiet_execSolRiseTimeout (t : Time) (ch : Fin 32) (s : State) : Quiet s (execSolRiseTimeout t ch s) := by
  unfold execSolRiseTimeout
  simp only [quiet_next]
  dsimp only [watch]
  (repeat' split) <;> simp

theorem quiet_execSolPeakEnd (t : Time) (ch : Fin 32) (s : State) : Quiet s (execSolPeakEnd t ch s) := by
  unfold execSolPeakEnd
  simp only [quiet_next]
  dsimp only [watch]
  (repeat' split) <;> simp

theorem quiet_execSolFallDone (t : Time) (ch : Fin 32) (s : State) : Quiet s (execSolFallDone t ch s) := by
  unfold execSolFallDone
  simp only [quiet_next]
  dsimp only [watch]
  (repeat' split) <;> simp

theorem quiet_execSolFallTimeout (t : Time) (ch : Fin 32) (s : State) : Quiet s (execSolFallTimeout t ch s) := by
  unfold execSolFallTimeout
  simp only [quiet_next]
  dsimp only [watch]
  (repeat' split) <;> simp

theorem quiet_execSolHoldEnd (t : Time) (ch : Fin 32) (s : State) : Quiet s (execSolHoldEnd t ch s) := by
  unfold execSolHoldEnd
  simp only [quiet_next]
  dsimp only [watch]
  (repeat' split) <;> simp

theorem quiet_execSolDeferExpired (t : Time) (ch : Fin 32) (s : State) : Quiet s (execSolDeferExpired t ch s) := by
  unfold execSolDeferExpired
  simp only [quiet_next]
  dsimp only [watch]
  (repeat' split) <;> simp

theorem quiet_execSolLowSideTrip (t : Time) (ch : Fin 32) (s : State) : Quiet s (execSolLowSideTrip t ch s) := by
  simp [execSolLowSideTrip, watch]

theorem quiet_execSolHighSideTrip (t : Time) (group : Fin 8) (s : State) : Quiet s (execSolHighSideTrip t group s) := by
  simp [execSolHighSideTrip, watch]

theorem quiet_execNeutralRampEnd (t : Time) (ch : Fin 32) (s : State) : Quiet s (execNeutralRampEnd t ch s) := by
  unfold execNeutralRampEnd
  simp only [quiet_next]
  dsimp only [watch]
  (repeat' split) <;> simp

theorem quiet_execSolCalOld (t : Time) (ch : Fin 32) (s : State) : Quiet s (execSolCalOld t ch s) := by
  unfold execSolCalOld
  simp only [quiet_next]
  dsimp only [watch]
  (repeat' split) <;> simp

theorem quiet_execSolCoilEstimate (t : Time) (ch : Fin 32) (milliOhm : Nat) (s : State) :
    Quiet s (execSolCoilEstimate t ch milliOhm s) := by
  unfold execSolCoilEstimate
  simp only [quiet_next]
  dsimp only [watch]
  (repeat' split) <;> simp

theorem quiet_execPgndFault (t : Time) (s : State) : Quiet s (execPgndFault t s) := by
  unfold execPgndFault
  simp only [quiet_next]
  dsimp only [watch]
  (repeat' split) <;> simp

/-! ### Skein -/

theorem quiet_execSkeinChallengeExpiry (t : Time) (s : State) : Quiet s (execSkeinChallengeExpiry t s) := by
  unfold execSkeinChallengeExpiry
  simp only [quiet_next]
  dsimp only [watch]
  (repeat' split) <;> simp

/-! ### Update -/

theorem quiet_execIbyarManifest (t : Time) (id : BitVec 64) (segment : Nat) (bytes : List Byte) (s : State) :
    Quiet s (execIbyarManifest t id segment bytes s) := by
  unfold execIbyarManifest
  simp only [quiet_next]
  dsimp only [watch]
  (repeat' split) <;> simp

theorem quiet_execIbyarChunk (t : Time) (id : BitVec 64) (index : Nat) (bytes : List Byte) (s : State) :
    Quiet s (execIbyarChunk t id index bytes s) := by
  unfold execIbyarChunk
  simp only [quiet_next]
  dsimp only [watch]
  (repeat' split) <;> simp

theorem quiet_execIbyarAck (t : Time) (id : BitVec 64) (index : Nat) (segment : Bool) (s : State) :
    Quiet s (execIbyarAck t id index segment s) := by
  unfold execIbyarAck
  simp only [quiet_next]
  dsimp only [watch]
  (repeat' split) <;> simp

theorem quiet_execIbyarRequest (t : Time) (id : BitVec 64) (index : Nat) (segment : Bool) (s : State) :
    Quiet s (execIbyarRequest t id index segment s) := by
  unfold execIbyarRequest
  simp only [quiet_next]
  dsimp only [watch]
  (repeat' split) <;> simp

theorem quiet_execIbyarRequestTimeout (t : Time) (s : State) : Quiet s (execIbyarRequestTimeout t s) := by
  unfold execIbyarRequestTimeout
  simp only [quiet_next, watch]
  (repeat' split) <;> simp (disch := (intros; (repeat' split) <;> simp))

theorem quiet_execIbyarResendTimeout (t : Time) (id : BitVec 64) (index : Nat) (s : State) :
    Quiet s (execIbyarResendTimeout t id index s) := by
  unfold execIbyarResendTimeout
  simp only [quiet_next]
  dsimp only [watch]
  (repeat' split) <;> simp

theorem quiet_execUpdateStagingDone (t : Time) (libOk : Bool) (s : State) : Quiet s (execUpdateStagingDone t libOk s) := by
  unfold execUpdateStagingDone
  simp only [quiet_next]
  dsimp only [watch]
  (repeat' split) <;> simp

theorem quiet_execPauseRebootDone (t : Time) (s : State) : Quiet s (execPauseRebootDone t s) := by
  unfold execPauseRebootDone
  simp only [quiet_next]
  dsimp only [watch]
  (repeat' split) <;> simp

theorem quiet_execPauseRestoreDone (t : Time) (s : State) : Quiet s (execPauseRestoreDone t s) := by
  unfold execPauseRestoreDone
  simp only [quiet_next]
  dsimp only [watch]
  (repeat' split) <;> simp

theorem quiet_execHandoverRestoreDone (t : Time) (s : State) : Quiet s (execHandoverRestoreDone t s) := by
  unfold execHandoverRestoreDone
  simp only [quiet_next]
  dsimp only [watch]
  (repeat' split) <;> simp

theorem quiet_execTrialHealthOk (t : Time) (s : State) : Quiet s (execTrialHealthOk t s) := by
  unfold execTrialHealthOk
  simp only [quiet_next]
  dsimp only [watch]
  (repeat' split) <;> simp

/-! ### Day -/

theorem quiet_execArmOutputStart (t : Time) (s : State) : Quiet s (execArmOutputStart t s) := by
  unfold execArmOutputStart
  simp only [quiet_next]
  dsimp only [watch]
  (repeat' split) <;> simp

theorem quiet_execHoldupStart (t : Time) (s : State) : Quiet s (execHoldupStart t s) := by
  unfold execHoldupStart
  simp only [quiet_next]
  dsimp only [watch]
  (repeat' split) <;> simp

theorem quiet_execHuReady (t : Time) (ms : Nat) (s : State) : Quiet s (execHuReady t ms s) := by
  unfold execHuReady
  simp only [quiet_next]
  dsimp only [watch]
  (repeat' split) <;> simp

theorem quiet_execPlateHot (t : Time) (temp : BitVec 8) (s : State) : Quiet s (execPlateHot t temp s) := by
  unfold execPlateHot
  simp only [quiet_next]
  dsimp only [watch]
  (repeat' split) <;> simp

/-! ### Host -/

theorem quiet_execHello (r : Req) (m : HelloMsg) (s : State) : Quiet s (execHello r m s) := by
  unfold execHello
  simp only [quiet_next]
  dsimp only [watch]
  (repeat' split) <;> simp

theorem quiet_execDistaffEntryWaitWarning (t : Time) (s : State) : Quiet s (execDistaffEntryWaitWarning t s) := by
  unfold execDistaffEntryWaitWarning
  simp only [quiet_next]
  dsimp only [watch]
  (repeat' split) <;> simp

theorem quiet_execFuncRestartDone (t : Time) (fn : Fin 45) (s : State) : Quiet s (execFuncRestartDone t fn s) := by
  unfold execFuncRestartDone
  simp only [quiet_next]
  dsimp only [watch]
  (repeat' split) <;> simp

theorem quiet_execDistaffWatchdogMiss (t : Time) (s : State) : Quiet s (execDistaffWatchdogMiss t s) := by
  unfold execDistaffWatchdogMiss
  simp only [quiet_next]
  dsimp only [watch]
  (repeat' split) <;> simp

theorem quiet_execHankAuthFail (t : Time) (s : State) : Quiet s (execHankAuthFail t s) := by
  unfold execHankAuthFail
  simp only [quiet_next]
  dsimp only [watch]
  (repeat' split) <;> simp

theorem quiet_execHankSessionTimeout (t : Time) (who : Requester) (s : State) : Quiet s (execHankSessionTimeout t who s) := by
  unfold execHankSessionTimeout
  simp only [quiet_next]
  dsimp only [watch]
  (repeat' split) <;> simp

theorem quiet_execServiceFrameBad (t : Time) (s : State) : Quiet s (execServiceFrameBad t s) := by
  simp [execServiceFrameBad, watch]

end Sys2Proof.Machine
end

section
/-! PROOFS. Commands that go through lists and still leave what the invariants look at as it is. -/
namespace Sys2Proof.Machine
open Sys2Proof.Safety

theorem quiet_execGnssAidingApply (t : Time) (s : State) : Quiet s (execGnssAidingApply t s) := by
  unfold execGnssAidingApply
  simp only [quiet_next]
  split
  · simp [watch]
  · split
    · simp [watch]
    · rw [watch_foldl _ fun s e => by split <;> simp [watch]]
      simp [watch]

theorem quiet_execGnssMeasEpoch (t : Time) (meas : List GnssMeas) (fronts : GnssFronts) (offset : Option Int) (s : State) :
    Quiet s (execGnssMeasEpoch t meas fronts offset s) := by
  have hadv : watch (advanceTo t s) = watch s := by simp [watch]
  have hslip (u : State) :
      watch ((List.range 256).foldl (fun s n => let x := gch s n; setGch n { x with slip := false } s) u) = watch u :=
    watch_foldl _ (fun s n => by simp [watch]) _ u
  unfold execGnssMeasEpoch
  extract_lets u l v w
  rw [quiet_next, ← hadv]
  split
  · rfl
  · have hw : watch w = watch u := (show watch w = watch v by simp [watch, w]).trans (hslip u)
    rw [← show watch w = watch (advanceTo t s) from hw]
    clear_value w
    (repeat' split) <;> simp [watch]

theorem quiet_execBobPop (x : Slot) (d : GReg) (b : Fin 16) (addr len : GReg) (s : State) : Quiet s (execBobPop x d b addr len s) := by
  unfold execBobPop
  refine quiet_onSpindle _ _ _ _ _ _ fun y s => ?_
  dsimp only
  split
  · simp [watch]
  · rename_i n _
    have h : watch (popBob n s).2 = watch s := by simp [watch]
    split
    · simp [watch]
    · split <;> rename_i heq <;> rw [heq] at h <;> rw [← h] <;> simp [watch]

theorem quiet_execOutSolCur (x : Slot) (h : BitVec 6) (a : GReg) (s : State) : Quiet s (execOutSolCur x h a s) :=
  quiet_onOutput _ _ _ _ _ (fun c y s => by cases c <;> simp [watch]) fun _ _ _ => rfl

theorem quiet_execOutSolProf (x : Slot) (h : BitVec 6) (a : GReg) (s : State) : Quiet s (execOutSolProf x h a s) :=
  quiet_onOutput _ _ _ _ _ (fun c y s => by cases c <;> simp [watch]) fun _ _ _ => rfl

theorem quiet_execOutSolRel (x : Slot) (h : BitVec 6) (s : State) : Quiet s (execOutSolRel x h s) :=
  quiet_onOutput _ _ _ _ _ (fun c y s => by cases c <;> simp [watch]) fun _ _ _ => rfl

theorem quiet_execDirInputHigh (t : Time) (dir : Fin 16) (s : State) : Quiet s (execDirInputHigh t dir s) := by
  unfold execDirInputHigh
  simp only [quiet_next]
  rw [watch_foldl _ fun s n => by split <;> simp [watch]]
  simp [watch]

theorem quiet_execDirInputLow100ms (t : Time) (dir : Fin 16) (s : State) : Quiet s (execDirInputLow100ms t dir s) := by
  unfold execDirInputLow100ms
  simp only [quiet_next]
  rw [watch_foldl _ fun s n => by split <;> simp [watch]]
  simp [watch]

theorem quiet_execStrikeSample (t : Time) (ch : Fin 32) (code : BitVec 14) (s : State) : Quiet s (execStrikeSample t ch code s) := by
  have hadv : watch (advanceTo t s) = watch s := by simp [watch]
  unfold execStrikeSample
  extract_lets u x gap
  rw [quiet_next, ← hadv]
  split
  · rfl
  · split
    · rfl
    · clear_value gap
      split
      extract_lets _ _ _ _ _ _ _ _ _ _ w
      have hw : watch w = watch u := by simp [watch, w]
      split
      · exact (show watch _ = watch w by simp [watch]).trans hw
      · exact hw

theorem quiet_execPlySampleEntry (t : Time) (source : Fin 64) (s : State) : Quiet s (execPlySampleEntry t source s) := by
  have hadv : watch (advanceTo t s) = watch s := by simp [watch]
  unfold execPlySampleEntry
  simp only [quiet_next]
  rw [← hadv]
  split
  · rfl
  · split
    · rfl
    · split
      · rename_i b _
        have h : watch (popBob b (advanceTo t s)).2 = watch (advanceTo t s) := by simp [watch]
        split
        · rfl
        · split <;> rename_i heq <;> rw [heq] at h <;> rw [← h]
          simp [watch]
      · split <;> simp [watch]

theorem quiet_execPlySync (t : Time) (source : Fin 64) (s : State) : Quiet s (execPlySync t source s) := by
  have hadv : watch (advanceTo t s) = watch s := by simp [watch]
  unfold execPlySync
  simp only [quiet_next]
  rw [← hadv]
  split
  · rfl
  · split
    · rfl
    · rename_i b _
      have h : watch (popBob b (advanceTo t s)).2 = watch (advanceTo t s) := by simp [watch]
      split
      · rfl
      · split <;> rename_i heq <;> rw [heq] at h <;> rw [← h]
        dsimp only
        (repeat' split) <;> simp [watch]

theorem quiet_execCanFrameReceived (t : Time) (ctrl : Fin 16) (sof : Time) (f : CanFrame) (s : State) :
    Quiet s (execCanFrameReceived t ctrl sof f s) := by
  have hadv : watch (advanceTo t s) = watch s := by simp [watch]
  have hcount (u : State) : watch (canBump ctrl 0x18 (recDown ctrl u)) = watch u := by
    unfold recDown
    dsimp only
    (repeat' split) <;> simp [watch]
  unfold execCanFrameReceived
  simp only [quiet_next]
  rw [← hadv]
  split
  · rfl
  · split
    · rfl
    · rw [← hcount (advanceTo t s)]
      (repeat' split) <;> simp [watch]

theorem quiet_execCanTxBufferLoad (t : Time) (ctrl : Fin 16) (buf : Fin 3) (s : State) : Quiet s (execCanTxBufferLoad t ctrl buf s) := by
  have hadv : watch (advanceTo t s) = watch s := by simp [watch]
  unfold execCanTxBufferLoad
  simp only [quiet_next]
  rw [← hadv]
  split
  · rfl
  · split
    · rfl
    · rename_i b _
      have h : watch (popBob b (advanceTo t s)).2 = watch (advanceTo t s) := by simp [watch]
      split
      · rfl
      · split <;> rename_i heq <;> rw [heq] at h <;> rw [← h]
        split <;> simp [watch]

theorem quiet_execPgndRecover (t : Time) (s : State) : Quiet s (execPgndRecover t s) := by
  unfold execPgndRecover
  simp only [quiet_next]
  split
  · simp [watch]
  · rw [watch_foldl _ fun s b => ?_]
    · simp [watch]
    · split
      · rfl
      · have hpump (g n : Nat) (u : State) : watch (pumpGroup g n u) = watch u := by simp [watch]
        rw [hpump, hpump]
        exact watch_foldl _ (fun s c => by cases c <;> simp [watch]) _ s

theorem quiet_execTriplicateScrub (t : Time) (s : State) : Quiet s (execTriplicateScrub t s) := by
  unfold execTriplicateScrub
  simp only [quiet_next]
  split
  · simp [watch]
  · rw [watch_foldl _ fun s a => by simp [watch]]
    simp [watch]

theorem quiet_execStreamOutSend (t : Time) (chan : Nat) (s : State) : Quiet s (execStreamOutSend t chan s) := by
  have hadv : watch (advanceTo t s) = watch s := by simp [watch]
  unfold execStreamOutSend
  simp only [quiet_next]
  rw [← hadv]
  split
  · rename_i b w _ _
    have h : watch (popBob b (advanceTo t s)).2 = watch (advanceTo t s) := by simp [watch]
    split
    · rfl
    · split <;> rename_i heq <;> rw [heq] at h <;> rw [← h]
      split <;> simp [watch]
  · rfl

theorem quiet_execLogicSuppliesUp (t : Time) (s : State) : Quiet s (execLogicSuppliesUp t s) := by
  unfold execLogicSuppliesUp goStep
  simp only [quiet_next, watch]
  (repeat' split) <;> simp

theorem quiet_execRefPllsLocked (t : Time) (refOk : Bool) (s : State) : Quiet s (execRefPllsLocked t refOk s) := by
  unfold execRefPllsLocked goStep
  simp only [quiet_next, watch]
  (repeat' split) <;> simp

theorem watch_toSource (d : Nat) (x : ClkSrc) (s : State) : watch (toSource d x s) = watch s := by simp [watch]

theorem quiet_execClockMonitorFail (t : Time) (m : ClockMon) (s : State) : Quiet s (execClockMonitorFail t m s) := by
  have hadv : watch (advanceTo t s) = watch s := by simp [watch]
  unfold execClockMonitorFail
  generalize advanceTo t s = u at hadv
  rw [quiet_next, ← hadv]
  dsimp only
  split
  · rfl
  · cases m with
    | ref | rco =>
      refine (watch_foldl _ (fun v d => ?_) _ _).trans (by simp [watch])
      split
      · exact watch_toSource _ _ v
      · rfl
    | mainPll d | fallbackPll d =>
      dsimp only
      split <;> simp [watch]
    | lko | rtc => simp [watch]

theorem quiet_execPlyEpoch (t tk : Time) (s : State) : Quiet s (execPlyEpoch t tk s) := by
  have hadv : watch (advanceTo t s) = watch s := by simp [watch]
  have hply (x : PlySt) (v : State) : watch (setPly x v) = watch v := by simp [watch]
  have hland (i : Option Nat) (x : Word) (st : SigStatus) (v : State) : watch (match i with
      | some i => land i .ply x tk st v
      | none => v) = watch v := by
    cases i <;> simp [watch]
  unfold execPlyEpoch
  generalize advanceTo t s = u at hadv
  extract_lets u c skipped ordered turned _ sourced gnss _ fixed filtered st _ issued put posed excluded stats _ kept
  rw [quiet_next, ← hadv]
  have hput (i : Option Nat) (x : Word) (v : State) : watch (put i x v) = watch v := hland i x .valid v
  have hturned : watch turned = watch u := by simp [watch, turned]
  have hsourced : watch sourced = watch turned := (watch_foldl _ (fun v d => by simp [watch]) _ _).trans (hply _ _)
  have hfixed : watch fixed = watch sourced := by
    unfold fixed
    split
    · exact hply _ _
    · rfl
  have hissued : watch issued = watch fixed := (hply _ _).trans (by simp [watch, filtered])
  have hposed : watch posed = watch issued := watch_foldl _ (fun v (e : Option Nat × Word) => hland e.1 e.2 st v) _ _
  have hexcluded : watch excluded = watch posed := (hput _ _ _).trans (hput _ _ _)
  have hstats : watch stats = watch excluded := watch_foldl _ (fun v d => hput _ _ v) _ _
  have hkept : watch kept = watch stats := by
    unfold kept
    split
    · exact hply _ _
    · rfl
  have hsent : watch (sendAiding tk st kept) = watch kept := by
    clear_value kept st
    simp [watch]
  split
  · rfl
  · exact hsent.trans (hkept.trans (hstats.trans (hexcluded.trans (hposed.trans (hissued.trans (hfixed.trans (hsourced.trans hturned)))))))

end Sys2Proof.Machine
end

section
/-! PROOFS. The invariants through changes of the day and of the Whorl (R11, R24, R32, R37, R304). -/
namespace Sys2Proof.Machine
open Sys2Proof.Safety

/-! ### The invariants as what is watched -/

/-- The hold's invariant on what is watched of the day. -/
def DaySound (d : DayState × Bool × BitVec 8 × BitVec 16 × Bool) : Prop :=
  (d.2.1 = true → d.1 = .dawn ∧ d.2.2.2.2 = false) ∧ (d.2.1 = false → d.2.2.1 = 0) ∧ (d.2.2.1 ≠ 3 → d.2.2.1 ≠ 4 → d.2.2.2.1 = 0)

theorem inv_iff (s : State) :
    Inv s ↔ (s.lanes.whorl.2 = true → s.lanes.whorl.1.isSome = true) ∧ s.skein.kept.2.length ≤ 256 ∧ DaySound s.sys.watched := Iff.rfl

theorem inv_of_watch {s t : State} (h : watch t = watch s) (hi : Inv s) : Inv t := by
  obtain ⟨hw, hk, hd⟩ : t.lanes.whorl = s.lanes.whorl ∧ t.skein.kept.2 = s.skein.kept.2 ∧ t.sys.watched = s.sys.watched := by
    simpa [watch] using h
  rw [inv_iff] at hi ⊢
  rwa [hw, hk, hd]

/-- The day changes, and the Whorl and the Skein's buffer stay. -/
theorem inv_of_day {s t : State} (hw : t.lanes.whorl = s.lanes.whorl) (hk : t.skein.kept.2 = s.skein.kept.2) (hd : DaySound t.sys.watched)
    (hg : GateHeld s) (hb : BufferFits s) : Inv t := by
  rw [inv_iff, hw, hk]
  exact ⟨hg, hb, hd⟩

/-- The gate is closed, and the Skein's buffer stays. -/
theorem inv_of_closed {s t : State} (hw : t.lanes.whorl.2 = false) (hk : t.skein.kept.2 = s.skein.kept.2) (hd : DaySound t.sys.watched)
    (hb : BufferFits s) : Inv t := by
  rw [inv_iff, hw, hk]
  exact ⟨fun h => absurd h Bool.false_ne_true, hb, hd⟩

theorem daySound_awake (d : DayState) (p : Bool) : DaySound (d, false, 0, 0, p) :=
  ⟨fun h => absurd h Bool.false_ne_true, fun _ => rfl, fun _ _ => rfl⟩

theorem daySound_hold (cause : BitVec 8) (refusal : BitVec 16) :
    DaySound (.dawn, true, cause, if cause = 3 || cause = 4 then refusal else 0, false) :=
  ⟨fun _ => ⟨rfl, rfl⟩, fun h => absurd h.symm Bool.false_ne_true, fun h3 h4 => by
    have h3 : cause ≠ 3 := h3
    have h4 : cause ≠ 4 := h4
    exact if_neg (by simpa only [Bool.or_eq_true, decide_eq_true_eq, not_or] using ⟨h3, h4⟩)⟩

/-- Outside DAWN the hold's registers are clear. -/
theorem awake_of_inv {s : State} (hi : Inv s) (h : s.sys.state ≠ .dawn) : s.sys.hold = false :=
  Bool.eq_false_iff.2 fun hh => h (hi.2.2.1 hh).1

/-! ### Days -/

theorem toDay_watched (new : DayState) (cause : DayCause) (fault : Bool) (s : State) :
    (toDay new cause fault s).sys.watched = (new, s.sys.hold, s.sys.holdCause, s.sys.refusal, s.sys.disarmPending) := by
  simp [toDay]

theorem enterHold_watched (cause : BitVec 8) (refusal : BitVec 16) (why : DayCause) (s : State) :
    (enterHold cause refusal why s).sys.watched = (.dawn, true, cause, if cause = 3 || cause = 4 then refusal else 0, false) := by
  unfold enterHold
  dsimp only
  split <;> simp [toDay]

theorem enterDusk_watched (why : DayCause) (s : State) : (enterDusk why s).sys.watched = (.dusk, false, 0, 0, false) := by
  simp [enterDusk, toDay]

theorem startDawn_watched (code line : BitVec 4) (warm fault : Bool) (why : DayCause) (s : State) :
    (startDawn code line warm fault why s).sys.watched = (.dawn, false, 0, 0, false) := by
  simp [startDawn, toDay]

/-- Another day state where no hold stands. -/
theorem inv_toDay (new : DayState) (cause : DayCause) (fault : Bool) {s : State} (hh : s.sys.hold = false) (hi : Inv s) :
    Inv (toDay new cause fault s) := by
  refine inv_of_day (by simp) (by simp) ?_ hi.1 hi.2.1
  rw [toDay_watched, hh]
  exact ⟨fun h => absurd h Bool.false_ne_true, fun _ => hi.2.2.2.1 hh, hi.2.2.2.2⟩

theorem inv_enterHold (cause : BitVec 8) (refusal : BitVec 16) (why : DayCause) {s : State} (hi : Inv s) :
    Inv (enterHold cause refusal why s) :=
  inv_of_day (by simp) (by simp) (enterHold_watched .. ▸ daySound_hold cause refusal) hi.1 hi.2.1

theorem inv_enterDusk (why : DayCause) {s : State} (hi : Inv s) : Inv (enterDusk why s) :=
  inv_of_day (by simp) (by simp) (enterDusk_watched .. ▸ daySound_awake _ _) hi.1 hi.2.1

theorem inv_startDawn (code line : BitVec 4) (warm fault : Bool) (why : DayCause) {s : State} (hi : Inv s) :
    Inv (startDawn code line warm fault why s) :=
  inv_of_day (by simp) (by simp) (startDawn_watched .. ▸ daySound_awake _ _) hi.1 hi.2.1

theorem inv_reachHold (cause : BitVec 8) (refusal : BitVec 16) {s : State} (hi : Inv s) : Inv (reachHold cause refusal s) := by
  unfold reachHold
  split
  · exact inv_enterDusk _ hi
  · exact inv_enterHold _ _ _ hi

theorem inv_warmResetBy (fault : Bool) (code : BitVec 4) (why : DayCause) {s : State} (hi : Inv s) : Inv (warmResetBy fault code why s) := by
  unfold warmResetBy
  split
  · exact hi
  · exact inv_of_closed (by simp) (by simp) (startDawn_watched .. ▸ daySound_awake _ _) hi.2.1

theorem inv_warmReset (code : BitVec 4) (why : DayCause) {s : State} (hi : Inv s) : Inv (warmReset code why s) :=
  inv_warmResetBy _ _ _ hi

theorem disarmNow_watched (s : State) : (disarmNow s).sys.watched = (.morning, s.sys.hold, s.sys.holdCause, s.sys.refusal, false) := by
  simp [disarmNow, toDay]

theorem inv_disarmNow {s : State} (hh : s.sys.hold = false) (hi : Inv s) : Inv (disarmNow s) := by
  refine inv_of_day (by simp) (by simp) ?_ hi.1 hi.2.1
  rw [disarmNow_watched, hh]
  exact ⟨fun h => absurd h Bool.false_ne_true, fun _ => hi.2.2.2.1 hh, hi.2.2.2.2⟩

/-- A pending DISARM is dropped. -/
theorem inv_disarmed {s t : State} (hw : t.lanes.whorl = s.lanes.whorl) (hk : t.skein.kept.2 = s.skein.kept.2)
    (hd : t.sys.watched = (s.sys.state, s.sys.hold, s.sys.holdCause, s.sys.refusal, false)) (hi : Inv s) : Inv t := by
  refine inv_of_day hw hk ?_ hi.1 hi.2.1
  rw [hd]
  exact ⟨fun h => ⟨(hi.2.2.1 h).1, rfl⟩, hi.2.2.2⟩

/-- A DISARM comes to wait where no hold stands. -/
theorem inv_disarming {s t : State} (p : Bool) (hw : t.lanes.whorl = s.lanes.whorl) (hk : t.skein.kept.2 = s.skein.kept.2)
    (hd : t.sys.watched = (s.sys.state, s.sys.hold, s.sys.holdCause, s.sys.refusal, p)) (hp : p = true → s.sys.hold = false)
    (hi : Inv s) : Inv t := by
  refine inv_of_day hw hk ?_ hi.1 hi.2.1
  rw [hd]
  refine ⟨fun h => ⟨(hi.2.2.1 h).1, Bool.eq_false_iff.2 fun ht => ?_⟩, hi.2.2.2⟩
  exact absurd (hp ht) (by simpa using h)

theorem inv_lateDisarm {s : State} (hi : Inv s) : Inv (lateDisarm s) := by
  unfold lateDisarm
  split
  · exact hi
  · split
    case h_1 h => exact inv_disarmNow (awake_of_inv hi (by simp [h])) hi
    case h_2 h => exact inv_disarmNow (awake_of_inv hi (by simp [h])) hi
    case h_3 => exact inv_disarmed (by simp) (by simp) (by simp) hi
    case h_4 => exact inv_disarmed (by simp) (by simp) (by simp) hi

theorem inv_lastLaneFailed {s : State} (hi : Inv s) : Inv (lastLaneFailed s) := by
  unfold lastLaneFailed
  split
  · exact hi
  · exact hi
  · split
    · exact inv_enterHold _ _ _ hi
    · split
      · exact inv_enterDusk _ hi
      · exact inv_enterHold _ _ _ hi
  · exact inv_enterHold _ _ _ hi

/-- A DISARM that coincides finds the module in MORNING, so in no hold. -/
theorem awake_of_coincides {s : State} (hi : Inv s) (h : disarmCoincides s = true) : s.sys.hold = false := by
  refine awake_of_inv hi fun hd => ?_
  simp [disarmCoincides, hd] at h

theorem inv_standbyLost {s : State} (hi : Inv s) : Inv (standbyLost s) := by
  unfold standbyLost
  split
  · rename_i h
    exact inv_toDay _ _ _ (awake_of_inv hi (by simp [h])) hi
  · exact hi

theorem inv_laneReleased (l : Lane) (cause : BitVec 4) {s : State} (hi : Inv s) : Inv (laneReleased l cause s) := by
  obtain ⟨hrel, -, -, -, hsys⟩ := laneReleased_spec l cause s
  have hk : (laneReleased l cause s).skein.kept.2 = s.skein.kept.2 := by simp [laneReleased]
  have hday : Inv { s with sys := { s.sys with disarmPending := s.sys.disarmPending || disarmCoincides s } } := by
    refine inv_disarming (s := s) (s.sys.disarmPending || disarmCoincides s) rfl rfl (by simp) (fun h => ?_) hi
    rcases Bool.or_eq_true_iff.1 h with h | h
    · exact Bool.eq_false_iff.2 fun hh => absurd (hi.2.2.1 hh).2 (by simp [h])
    · exact awake_of_coincides hi h
  refine inv_of_closed hrel.gate hk ?_ hi.2.1
  rw [hsys]
  exact hday.2.2

theorem inv_wakeStandby (l : Lane) (cause : BitVec 4) (woken : Bool) {s : State} (hi : Inv s) : Inv (wakeStandby l cause woken s) := by
  have hz : Inv (if woken then standbyWaking l cause woken s else submit 4 (wakeClaim l.other) (standbyWaking l cause woken s)) := by
    refine inv_of_watch ?_ hi
    split <;> simp [watch, standbyWaking]
  unfold wakeStandby
  dsimp only
  generalize (if woken then standbyWaking l cause woken s else _) = z at hz
  split
  · rename_i h
    exact inv_toDay _ _ _ (awake_of_inv hz (by simp [h])) hz
  · exact hz

theorem inv_releaseWhorl (l : Lane) (cause : BitVec 4) {s : State} (hi : Inv s) : Inv (releaseWhorl l cause s) := by
  rw [releaseWhorl_eq]
  split
  · exact inv_wakeStandby _ _ _ (inv_laneReleased l cause hi)
  · exact inv_lastLaneFailed (inv_laneReleased l cause hi)

theorem inv_yieldNow (f : Time) {s : State} (hi : Inv s) : Inv (yieldNow f s) := by
  unfold yieldNow
  split
  · split
    · exact inv_releaseWhorl _ _ hi
    · exact hi
  · exact hi

/-- A gate that closes. -/
theorem inv_pauseClose {s : State} (hi : Inv s) : Inv (pauseClose s) := by
  have hday : Inv { s with sys := { s.sys with disarmPending := disarmCoincides s } } :=
    inv_disarming (s := s) (disarmCoincides s) rfl rfl (by simp) (awake_of_coincides hi) hi
  refine inv_of_closed (by simp [pauseClose]) (by simp [pauseClose]) ?_ hi.2.1
  rw [show (pauseClose s).sys.watched = ({ s.sys with disarmPending := disarmCoincides s } : Sys).watched by simp [pauseClose]]
  exact hday.2.2

theorem inv_afterCommit (f : Time) {s : State} (hi : Inv s) : Inv (afterCommit f s) := by
  unfold afterCommit
  split
  · split
    · exact inv_of_watch (by simp [watch]) hi
    · exact inv_pauseClose hi
  · exact inv_yieldNow f hi

theorem inv_pauseBoundary {s : State} (hi : Inv s) : Inv (pauseBoundary s) := by
  have hstep : Inv (setStep .switching s) := inv_of_watch (by simp [watch]) hi
  unfold pauseBoundary
  dsimp only
  split
  · exact inv_pauseClose hstep
  · split
    · exact inv_pauseClose (inv_of_watch (by simp [watch]) hstep)
    · exact inv_of_watch (by simp [watch]) hstep

theorem inv_updatingFailed (l : Lane) (cause : BitVec 4) {s : State} (hi : Inv s) : Inv (updatingFailed l cause s) := by
  have hfail : Inv (failLane l cause { s with upd := { s.upd with lastHandoverEnd := some s.sun.time } }) :=
    inv_of_watch (by simp [watch]) hi
  unfold updatingFailed
  dsimp only
  split
  · exact inv_warmResetBy _ _ _ (inv_of_watch (by simp [watch]) hfail)
  · split
    · exact inv_warmResetBy _ _ _ (inv_of_watch (by simp [watch]) hfail)
    · exact inv_standbyLost (inv_of_watch (by simp [watch]) hfail)

theorem inv_laneFault (l : Lane) (cause : BitVec 4) {s : State} (hi : Inv s) : Inv (laneFault l cause s) := by
  unfold laneFault
  split
  · exact inv_releaseWhorl _ _ hi
  · split
    · split
      · exact inv_lastLaneFailed (inv_of_watch (by simp [watch]) hi)
      · exact hi
    · split
      · exact inv_updatingFailed _ _ hi
      · exact hi

theorem inv_afterTake {s : State} (hi : Inv s) : Inv (afterTake s) := by
  unfold afterTake
  extract_lets v _ w old
  have hw : Inv w := by
    refine inv_of_watch ?_ (inv_lateDisarm hi)
    show watch (if v.sys.state = .dusk then { v with sys := { v.sys with duskStep := 2 } } else v) = watch v
    split <;> simp [watch]
  clear_value w old
  split
  · split
    · exact inv_of_watch (by simp [watch]) hw
    · exact inv_warmResetBy _ _ _ (inv_of_watch (by simp [watch]) hw)
  · split <;> exact inv_of_watch (by simp [watch]) hw
  · split
    · exact inv_of_watch (by simp [watch]) hw
    · exact hw
  · exact hw

/-- Whoever takes the Whorl holds it: its gate may stand open. -/
theorem inv_takeWhorl (l : Lane) {s : State} (hi : Inv s) : Inv (takeWhorl l s) := by
  obtain ⟨-, hbuf, hday⟩ := hi
  have hk : (takeWhorl l s).skein.kept = s.skein.kept := by simp
  have hd : (takeWhorl l s).sys.watched = s.sys.watched := by simp
  rw [inv_iff, hk, hd]
  exact ⟨fun _ => rfl, hbuf, hday⟩

end Sys2Proof.Machine
end

section
/-! PROOFS. The invariants through the Skein's buffer, through power, and through DAWN and DUSK (R32, R372). -/
namespace Sys2Proof.Machine
open Sys2Proof.Safety

/-! ### The Skein's buffer -/

/-- The buffer changes, within its bound, and nothing else that is watched. -/
theorem inv_of_buffer {s t : State} (hw : t.lanes.whorl = s.lanes.whorl) (hd : t.sys.watched = s.sys.watched)
    (hk : t.skein.kept.2.length ≤ 256) (hi : Inv s) : Inv t := by
  rw [inv_iff, hw, hd]
  exact ⟨hi.1, hk, hi.2.2⟩

@[simp] theorem watch_writeRecord (r : Record) (s : State) : watch (writeRecord r s) = watch s := by
  unfold writeRecord
  split
  · rfl
  · simp [watch]

@[simp] theorem numbered_watched (seq : BitVec 64) (e : Raised) (s : State) : (numbered seq e s).2.sys.watched = s.sys.watched :=
  Sys.watched_of_day (numbered_day seq e s)

@[simp] theorem numbered_buffer (seq : BitVec 64) (e : Raised) (s : State) : (numbered seq e s).2.skein.buffer = s.skein.buffer :=
  Skein.buffer_of_kept (kept_numbered seq e s)

theorem inv_receiveOne {s : State} (hi : Inv s) : Inv (receiveOne s) := by
  unfold receiveOne
  split
  · exact hi
  · dsimp only
    split
    · exact inv_of_watch (by simp [watch]) hi
    · rename_i hroom
      refine inv_of_buffer (by simp) (by simp) ?_ hi
      simpa using Nat.succ_le_of_lt (not_le.1 hroom)

theorem inv_receiveMany (n : Nat) {s : State} (hi : Inv s) : Inv (receiveMany n s) := by
  induction n generalizing s with
  | zero => exact hi
  | succ n ih => exact ih (inv_receiveOne hi)

theorem inv_flushSkein {s : State} (hi : Inv s) : Inv (flushSkein s) := by
  unfold flushSkein
  extract_lets t l
  have ht : Inv t := inv_receiveMany _ hi
  refine inv_of_watch (watch_foldl _ (fun s r => watch_writeRecord r s) l _) ?_
  exact inv_of_buffer (s := t) rfl rfl (by simp) ht

theorem inv_startClear {s : State} (hi : Inv s) : Inv (startClear s) := by
  unfold startClear
  split
  · exact hi
  · dsimp only
    split
    · exact inv_of_watch (by simp [watch]) hi
    · split
      · exact inv_of_watch (by simp [watch]) hi
      · split
        · exact inv_of_watch (by simp [watch]) hi
        · have hw : watch (s.skein.buffer.foldl (fun s r => writeRecord r s) { s with skein := { s.skein with chal := none } }) = watch s :=
            (watch_foldl _ (fun s r => watch_writeRecord r s) _ _).trans (by simp [watch])
          exact inv_of_buffer (s := s.skein.buffer.foldl (fun s r => writeRecord r s) { s with skein := { s.skein with chal := none } })
            rfl rfl (by simp) (inv_of_watch hw hi)

theorem watch_clearDone (s : State) : watch (clearDone s) = watch s := by
  by_cases h : s.skein.clearing = true
  · rw [clearDone_eq h]
    generalize clearRaised s = e
    simp [watch]
    rfl
  · rw [clearDone, if_pos (by simpa using h)]

theorem inv_writeSknCtrl (v : Word) {s : State} (hi : Inv s) : Inv (writeSknCtrl v s) := by
  have hchal : Inv (if bit v 1 then newChallenge s else s) := by
    split
    · exact inv_of_watch (by simp [watch]) hi
    · exact hi
  unfold writeSknCtrl
  dsimp only
  split
  · exact inv_startClear hchal
  · exact hchal

theorem nextRecord_shorter {l rest : List Record} {r : Record} (h : nextRecord l = some (r, rest)) : rest.length ≤ l.length := by
  cases l with
  | nil => cases h
  | cons a l =>
    unfold nextRecord at h
    dsimp only at h
    split at h
    · cases h
      exact List.length_filter_le _ _
    · cases h
      simp

/-! ### Power -/

/-- A module in the dark, whose day shows no hold. -/
theorem inv_powerOff (t : Time) (s : State) : Inv (powerOff t s) := by
  rw [inv_iff]
  exact ⟨fun h => absurd h Bool.false_ne_true, Nat.zero_le _, daySound_awake _ _⟩

theorem inv_enterMidnight (s : State) : Inv (enterMidnight s) := by
  rw [inv_iff]
  exact ⟨fun h => absurd h Bool.false_ne_true, Nat.zero_le _, daySound_awake _ _⟩

theorem inv_coldDawn (code line : BitVec 4) (why : DayCause) {s : State} (hi : Inv s) : Inv (coldDawn code line why s) :=
  inv_of_watch (s := startDawn code line false false why { s with sys := { s.sys with powered := true, offAt := none } }) (by simp [watch, coldDawn])
    (inv_startDawn _ _ _ _ _ (inv_of_watch (by simp [watch]) hi))

theorem inv_fromOff (t : Time) {s : State} (hi : Inv s) : Inv (fromOff t s) := by
  have hback : Inv (spendBackup t s) := inv_of_watch (by simp [watch]) hi
  have hfree : Inv (nextBool (spendBackup t s)).2 := inv_of_watch (by simp [watch]) hback
  unfold fromOff
  extract_lets brief u
  have hpick : Inv (if brief then nextBool u else (false, u)).2 := by
    split
    · exact hfree
    · exact hback
  generalize (if brief then nextBool u else (false, u)) = p at hpick
  obtain ⟨warm, v⟩ := p
  cases warm with
  | true => exact inv_startDawn _ _ _ _ _ (inv_of_watch (s := v) (by simp [watch]) hpick)
  | false => exact inv_coldDawn _ _ _ hpick

/-! ### The steps of DAWN and DUSK -/

theorem watch_goStep (d : DawnStep) (s : State) : watch (goStep d s) = watch s := by simp [watch, goStep]

theorem watch_goDusk (n : Nat) (s : State) : watch (goDusk n s) = watch s := by simp [watch, goDusk]

theorem watch_duskOutputs (s : State) : watch (duskOutputs s) = watch s := by
  unfold duskOutputs
  dsimp only
  split <;> simp [watch]

theorem inv_reachNoCop (cause : BitVec 8) (refusal : BitVec 16) {s : State} (hi : Inv s) : Inv (reachNoCop cause refusal s) := by
  unfold reachNoCop
  dsimp only
  split
  · exact inv_of_watch (by simp [watch]) (inv_reachHold cause refusal hi)
  · exact inv_reachHold cause refusal hi

/-- The hold's cause becomes a refusal's: REFUSAL may hold a code. -/
theorem inv_refusedInHold {s t : State} {cause : BitVec 8} {code : BitVec 16} (hc : cause = 3 ∨ cause = 4) (hh : s.sys.hold = true)
    (hw : t.lanes.whorl = s.lanes.whorl) (hk : t.skein.kept.2 = s.skein.kept.2)
    (hd : t.sys.watched = (s.sys.state, s.sys.hold, cause, code, s.sys.disarmPending)) (hi : Inv s) : Inv t := by
  refine inv_of_day hw hk ?_ hi.1 hi.2.1
  rw [hd]
  refine ⟨hi.2.2.1, fun h => absurd (hh.symm.trans h) Bool.true_eq_false.mp, fun h3 h4 => ?_⟩
  exact (hc.elim h3 h4).elim

theorem inv_copRefused (f : CopFault) {s : State} (hi : Inv s) : Inv (copRefused f s) := by
  have hc : (if f.code = 0x0105 then 4 else 3 : BitVec 8) = 3 ∨ (if f.code = 0x0105 then 4 else 3 : BitVec 8) = 4 := by
    split
    · exact .inr rfl
    · exact .inl rfl
  unfold copRefused
  extract_lets u x y v cause z w
  have hv : Inv v := inv_of_watch (by simp [watch, v, u]) hi
  have hw : Inv w := by
    unfold w
    split
    · split
      · rename_i hh
        exact inv_refusedInHold (code := f.code) hc hh (by simp) (by simp) (by simp [cause, z]) hv
      · exact inv_reachNoCop _ _ hv
    · exact hv
  clear_value w
  exact inv_of_watch (by simp [watch]) hw

theorem inv_copPassed (r : CopResult) {s : State} (hi : Inv s) : Inv (copPassed r s) := by
  unfold copPassed
  extract_lets u _ v _ _ w
  have hu : Inv u := by
    refine inv_of_watch ?_ hi
    unfold u
    split <;> simp [watch]
  have hw : Inv w := by
    refine inv_of_watch ?_ hu
    unfold w
    split <;> simp [watch, goStep, v]
  clear_value w
  exact inv_of_watch (by simp [watch]) hw

/-- The day of MORNING, before its outputs and ports are set up. -/
theorem inv_morning {s t : State} (hw : t.lanes.whorl = s.lanes.whorl) (hk : t.skein.kept.2 = s.skein.kept.2)
    (hd : ∃ d p, t.sys.watched = (d, false, 0, 0, p)) (hi : Inv s) : Inv t := by
  obtain ⟨d, p, hd⟩ := hd
  exact inv_of_day hw hk (hd ▸ daySound_awake d p) hi.1 hi.2.1

theorem inv_enterMorning {s : State} (hi : Inv s) : Inv (enterMorning s) := by
  unfold enterMorning
  split
  · exact inv_enterDusk _ (inv_of_watch (by simp [watch]) hi)
  · refine inv_morning ?_ ?_ ⟨.morning, s.sys.disarmPending, ?_⟩ hi
    · simp (disch := intros; simp)
    · simp (disch := intros; simp)
    · simp (disch := intros; simp)

theorem inv_armNow (why : DayCause) {s : State} (hh : s.sys.hold = false) (hi : Inv s) : Inv (armNow why s) := by
  obtain ⟨hsys, -, hlanes, -⟩ := armNow_spec why s
  refine inv_of_day (s := s) (by rw [hlanes]) (by simp) ?_ hi.1 hi.2.1
  rw [hsys]
  exact ⟨fun h => absurd (hh.symm.trans h) Bool.false_ne_true, hi.2.2.2⟩

theorem inv_holdOff {s : State} (hi : Inv s) : Inv (holdOff s) := inv_of_watch (by simp [watch, holdOff]) hi

theorem inv_failHealth {s : State} (hi : Inv s) : Inv (failHealth s) := by
  unfold failHealth
  dsimp only
  split
  · exact inv_of_watch (by simp [watch]) hi
  · exact inv_warmReset _ _ (inv_of_watch (by simp [watch]) hi)

theorem inv_rejectTrial {s : State} (hi : Inv s) : Inv (rejectTrial s) := by
  unfold rejectTrial
  split
  · exact inv_failHealth hi
  · exact hi

end Sys2Proof.Machine
end

section
/-! PROOFS. The invariants through register writes and through the service of requests (R32, R376). -/
namespace Sys2Proof.Machine
open Sys2Proof.Safety

/-! ### Registers -/


theorem inv_writeSysCtrl (v : Word) {s : State} (hi : Inv s) : Inv (writeSysCtrl v s).2 := by
  unfold writeSysCtrl
  extract_lets dusk off _ u w
  split
  · exact hi
  · have hu : Inv u := by
      show Inv (if bit v 18 then { s with sys := { s.sys with stayDawn := bit v 2 } } else s)
      split
      · exact inv_of_watch (by simp [watch]) hi
      · exact hi
    have hw : Inv w := by
      show Inv (if off then holdOff u else u)
      split
      · exact inv_holdOff hu
      · exact hu
    show Inv (if dusk then enterDusk .sysDusk w else w)
    split
    · exact inv_enterDusk _ hw
    · exact hw

theorem inv_writeUpdCtrl (v : Word) {s : State} (hi : Inv s) : Inv (writeUpdCtrl v s) := by
  unfold writeUpdCtrl
  extract_lets u w
  have hu : Inv u := by
    show Inv (if bit v 0 then confirmTrial s else s)
    split
    · exact inv_of_watch (by simp [watch]) hi
    · exact hi
  have hw : Inv w := by
    show Inv (if bit v 1 then rejectTrial u else u)
    split
    · exact inv_rejectTrial hu
    · exact hu
  split
  · exact inv_of_watch (by simp [watch]) hw
  · exact hw

theorem inv_writeUpdate (off : Nat) (v : Word) {s : State} (hi : Inv s) : Inv (writeUpdate off v s).2 := by
  unfold writeUpdate
  split
  · exact inv_writeUpdCtrl v hi
  · split <;> exact inv_of_watch (by simp [watch, done, refuse]) hi
  · exact inv_of_watch (by simp [watch, done]) hi
  · exact inv_of_watch (by simp [watch, done]) hi
  · exact hi

theorem inv_guarded (lock : Nat) (changes : Bool) (f : State → Reply × State) {s : State} (hf : Inv (f s).2) (hi : Inv s) :
    Inv (guarded lock changes f s).2 := by
  unfold guarded
  split
  · exact inv_of_watch (by simp [watch]) hi
  · exact hf

theorem inv_writeSkein (who : Requester) (off : Nat) (v : Word) {s : State} (hi : Inv s) : Inv (writeSkein who off v s).2 := by
  have hplain {t : Reply × State} (h : watch t.2 = watch s) : Inv t.2 := inv_of_watch h hi
  unfold writeSkein
  extract_lets k e put
  split
  · exact inv_writeSknCtrl v hi
  · exact hplain (by simp [watch, keep])
  · split <;> exact hplain (by simp [watch, done, refuse, put])
  · split
    · exact hplain rfl
    · split
      · exact inv_guarded _ _ _ (inv_of_watch (by simp [watch, done]) hi) hi
      · split
        · split <;> exact hplain (by simp [watch, done, refuse, put])
        · exact hi

theorem inv_writeReg (who : Requester) (addr : Nat) (v : Word) {s : State} (hi : Inv s) : Inv (writeReg who addr v s).2 := by
  have hplain {t : Reply × State} (h : watch t.2 = watch s) : Inv t.2 := inv_of_watch h hi
  unfold writeReg
  split
  · exact hi
  · split
    · exact hplain (by simp [watch, done])
    · split
      · exact hplain (by simp [watch, done])
      · split
        · exact hplain (by split <;> simp [watch, done])
        · dsimp only
          split
          case h_1 =>
            split
            · exact inv_writeSysCtrl v hi
            · split <;> exact hplain (by simp [watch, done])
          case h_2 =>
            split
            · exact inv_guarded _ _ _ (hplain (by simp [watch, done])) hi
            · exact hi
          case h_3 =>
            split
            · exact hplain (by simp [watch])
            · split <;> exact hplain (by simp [watch, done])
          case h_9 | h_13 | h_15 =>
            split
            · exact hplain (by simp [watch, keep])
            · exact hi
          case h_14 =>
            split
            · exact hplain (by split <;> simp [watch, done])
            · exact hi
          case h_17 =>
            split
            · split <;> exact hplain (by simp [watch, done, refuse])
            · exact hi
          case h_18 =>
            split
            · split
              · exact hplain (by simp [watch])
              · exact hi
            · (repeat' split) <;> exact hplain (by simp [watch, done])
          case h_19 => exact inv_writeSkein who _ v hi
          case h_21 => exact inv_writeUpdate _ v hi
          all_goals exact hplain (by simp [watch, done])

/-! ### Requests -/

theorem inv_meetServer (r : Req) (in1x responderToo : Bool) {k : State → State} (hk : ∀ s : State, Inv s → Inv (k s)) {s : State} (hi : Inv s) :
    Inv (meetServer r in1x responderToo k s) := by
  have hadv : Inv (advanceTo r.at_ s) := inv_of_watch (by simp [watch]) hi
  unfold meetServer
  dsimp only
  generalize advanceTo r.at_ s = u at hadv
  split
  · exact inv_of_watch (by simp [watch]) hadv
  · split
    · exact inv_of_watch (by simp [watch]) hadv
    · have hsess : Inv (setSession r.who { session u r.who with lastValid := u.sun.time } u) := inv_of_watch (by simp [watch]) hadv
      generalize setSession r.who _ u = v at hsess
      split
      · exact inv_of_watch (by simp [watch]) hsess
      · have hanswer (rep : Reply) : Inv (answer r rep v) := inv_of_watch (by simp [watch]) hsess
        split
        · exact hsess
        · split
          · exact hanswer _
          · split
            · exact hanswer _
            · split
              · exact hanswer _
              · split
                · exact hanswer _
                · exact hk v hsess

theorem inv_serveThen (r : Req) (in1x responderToo : Bool) {f : State → Reply × State} {g : State → State}
    (hf : ∀ s : State, Inv s → Inv (f s).2) (hg : ∀ s : State, Inv s → Inv (g s)) {s : State} (hi : Inv s) :
    Inv (serveThen r in1x responderToo f g s) := by
  refine inv_meetServer r in1x responderToo (fun u hu => ?_) hi
  have hfu := hf u hu
  generalize f u = p at hfu
  obtain ⟨rep, v⟩ := p
  have hanswer (rep : Reply) : Inv (answer r rep v) := inv_of_watch (by simp [watch]) hfu
  cases rep with
  | ack l => exact hg _ (hanswer _)
  | _ => exact hanswer _

theorem inv_serve (r : Req) (in1x responderToo : Bool) {f : State → Reply × State} (hf : ∀ s : State, Inv s → Inv (f s).2)
    {s : State} (hi : Inv s) : Inv (serve r in1x responderToo f s) :=
  inv_serveThen r in1x responderToo hf (fun _ h => h) hi

theorem inv_atAddr (addr : Word) {f : State → Reply × State} {s : State} (hf : Inv (f s).2) (hi : Inv s) : Inv (atAddr addr f s).2 := by
  unfold atAddr
  split
  · exact hf
  · exact hi

theorem watch_readReg (who : Requester) (addr : Nat) (s : State) : watch (readReg who addr s).2 = watch s := by simp [watch]

theorem watch_indRead (who : Requester) (s : State) : watch (indRead who s).2 = watch s := by simp [watch]

theorem inv_mend (addr : Nat) {s : State} (hi : Inv s) : Inv (mend addr s) := inv_of_watch (by simp [watch]) hi

theorem watch_readMany (who : Requester) (win : Bool) (addr n : Nat) (s : State) : watch (readMany who win addr n s).2 = watch s := by
  induction n generalizing addr s with
  | zero => rfl
  | succ n ih =>
    have hone : watch (if win then indRead who s else readReg who addr s).2 = watch s := by
      split
      · exact watch_indRead who s
      · exact watch_readReg who addr s
    exact (ih _ _).trans hone

theorem inv_writeMany (who : Requester) (win : Bool) (addr : Word) (l : List Word) {s : State} (hi : Inv s) :
    Inv (writeMany who win addr l s).2 := by
  induction l generalizing addr s with
  | nil => exact hi
  | cons v l ih =>
    unfold writeMany
    split
    · exact ih _ (inv_of_watch (by simp [watch]) hi)
    · have hw := inv_writeReg who addr.toNat v hi
      generalize writeReg who addr.toNat v s = p at hw
      obtain ⟨rep, u⟩ := p
      cases rep with
      | ack => exact ih _ hw
      | _ => exact hw

theorem inv_block (who : Requester) (addr : Word) (count win : Nat) {f : Bool → State → Reply × State}
    (hf : ∀ (w : Bool) (s : State), Inv s → Inv (f w s).2)
    {s : State} (hi : Inv s) : Inv (block who addr count win f s).2 := by
  unfold block
  split
  · exact hi
  · split
    · split
      · exact hf _ _ hi
      · exact hi
    · split
      · exact hi
      · split
        · exact hi
        · exact hf _ _ (inv_of_watch (s := s) (by simp [watch]) hi)

theorem inv_maskedWrite (who : Requester) (addr mask v : Word) {s : State} (hi : Inv s) : Inv (maskedWrite who addr mask v s).2 := by
  have hafter (p : Word) (r : Reply × State) (hr : Safety.Inv r.2) :
      Safety.Inv (match r.1 with
        | .ack _ =>
          if addr.toNat = 0x001F0008 then (Reply.ack [(indRead who (setPerReq who { perReq r.2 who with indAddr := p } r.2)).1], r.2)
          else
            let (w, s) := readReg who addr.toNat r.2
            (Reply.ack [w], s)
        | _ => r).2 := by
    obtain ⟨rep, u⟩ := r
    cases rep with
    | ack =>
      dsimp only
      split
      · exact hr
      · exact inv_of_watch (watch_readReg who addr.toNat u) hr
    | _ => exact hr
  unfold maskedWrite
  extract_lets a acc after u
  split
  · split
    · exact hi
    · exact hafter _ _ (inv_writeReg who _ _ hi)
  · split
    · exact hi
    · exact hafter _ _ (inv_writeReg who _ _ (inv_mend _ hi))

end Sys2Proof.Machine
end

section
/-! PROOFS. Requests, and commands of the lanes, keep the invariants. -/
namespace Sys2Proof.Machine
open Sys2Proof.Safety

/-- A command that answers with a next state answers with one that keeps the invariants. -/
def Sound (o : Result) : Prop :=
  match o with
  | .next t => Safety.Inv t
  | _ => True

theorem Quiet.sound {s : State} {o : Result} (h : Quiet s o) (hi : Inv s) : Sound o :=
  match o with
  | .next _ => inv_of_watch h hi
  | .fault _ => trivial
  | .refused _ => trivial

theorem inv_advanceTo (t : Time) {s : State} (hi : Inv s) : Inv (advanceTo t s) := inv_of_watch (by simp [watch]) hi

/-! ### Requests that write registers, or wait for the Distaff -/

theorem sound_asWrite (r : Req) (addr : Nat) (v : Word) {s : State} (hi : Inv s) : Sound (asWrite r addr v s) :=
  inv_serve r true true (fun _ h => inv_writeReg r.who addr v h) hi

theorem sound_queued (cls : Nat) (r : Req) (c : Instr) (in1x responderToo : Bool) {s : State} (hi : Inv s) :
    Sound (.next (meetServer r in1x responderToo (queueRequest cls r c) s)) :=
  inv_meetServer r in1x responderToo (fun _ h => inv_of_watch (by simp [watch]) h) hi

theorem sound_execLaneCtrlYield (r : Req) {s : State} (hi : Inv s) : Sound (execLaneCtrlYield r s) :=
  inv_serve r true true (fun _ h => inv_of_watch (by simp [watch]) h) hi

theorem sound_execLkTimingWrite (r : Req) (guard : Bool) (v : Word) {s : State} (hi : Inv s) : Sound (execLkTimingWrite r guard v s) :=
  inv_serve r true true (fun _ h => inv_of_watch (by simp [watch]) h) hi

theorem sound_execRegRd (r : Req) (addr : Word) {s : State} (hi : Inv s) : Sound (execRegRd r addr s) :=
  inv_serve r true true (fun u h => inv_atAddr addr (inv_of_watch (watch_readReg r.who addr.toNat u) h) h) hi

theorem sound_execRegWr (r : Req) (addr v : Word) {s : State} (hi : Inv s) : Sound (execRegWr r addr v s) :=
  inv_serve r true true (fun _ h => inv_atAddr addr (inv_writeReg r.who addr.toNat v h) h) hi

theorem sound_execRegWrm (r : Req) (addr mask v : Word) {s : State} (hi : Inv s) : Sound (execRegWrm r addr mask v s) :=
  inv_serve r false true (fun _ h => inv_atAddr addr (inv_maskedWrite r.who addr mask v h) h) hi

theorem sound_execBlockRd (r : Req) (addr : Word) (count win : Nat) {s : State} (hi : Inv s) : Sound (execBlockRd r addr count win s) :=
  inv_serve r true true (fun _ h => inv_block r.who addr count win
    (fun w u hu => inv_of_watch (watch_readMany r.who w addr.toNat count u) hu) h) hi

theorem sound_execBlockWr (r : Req) (addr : Word) (win : Nat) (words : List Word) {s : State} (hi : Inv s) :
    Sound (execBlockWr r addr win words s) :=
  inv_serve r true true (fun _ h => inv_block r.who addr words.length win (fun w _ hu => inv_writeMany r.who w addr words hu) h) hi

theorem sound_execCounterSatClear (r : Req) (addr : Word) {s : State} (hi : Inv s) : Sound (execCounterSatClear r addr s) :=
  inv_serve r true true (fun _ h => inv_atAddr addr (inv_writeReg r.who addr.toNat 0x80000000 h) h) hi

theorem sound_execStreamHostWrite (r : Req) (chan : Nat) (p : StreamPayload) {s : State} (hi : Inv s) : Sound (execStreamHostWrite r chan p s) := by
  refine inv_serve r false false (fun u hu => ?_) hi
  dsimp only
  split
  · exact hu
  · split
    · exact inv_of_watch (by simp [watch, done]) hu
    · split
      · exact inv_of_watch (by simp [watch]) hu
      · split
        · exact hu
        · exact inv_of_watch (watch_foldl _ (fun v x => by simp [watch]) _ u) hu
      · exact hu

theorem sound_execStreamSubscribe (r : Req) (chan : Nat) (sub : Bool) {s : State} (hi : Inv s) : Sound (execStreamSubscribe r chan sub s) := by
  refine inv_serve r true false (fun u hu => inv_of_watch ?_ hu) hi
  dsimp only
  (repeat' split) <;> rfl

theorem sound_execFuncReinit (r : Req) (mask : BitVec 64) {s : State} (hi : Inv s) : Sound (execFuncReinit r mask s) := by
  refine inv_meetServer r false false (fun u hu => inv_of_watch ?_ hu) hi
  dsimp only
  (repeat' split) <;> simp [watch]

theorem sound_execArm (r : Req) {s : State} (hi : Inv s) : Sound (execArm r s) := by
  refine inv_serve r true false (fun u hu => ?_) hi
  split
  · exact hu
  · rename_i h
    refine inv_armNow .arm (awake_of_inv hu fun hd => h ?_) hu
    simp [hd]

theorem sound_execDisarm (r : Req) {s : State} (hi : Inv s) : Sound (execDisarm r s) := by
  have hleave {u : State} (hd : u.sys.state ≠ .dawn) (hu : Inv u) :
      Inv (if u.lanes.gate then disarmNow u else { u with sys := { u.sys with disarmPending := true } }) := by
    have hh := awake_of_inv hu hd
    split
    · exact inv_disarmNow hh hu
    · exact inv_disarming (s := u) true rfl rfl rfl (fun _ => hh) hu
  refine inv_serve r true false (fun u hu => ?_) hi
  split
  · exact hu
  · split
    case h_1 h => exact hleave (by simp [h]) hu
    case h_2 h => exact hleave (by simp [h]) hu
    case h_3 =>
      split
      · exact inv_of_watch (by simp [watch, done]) hu
      · exact hu
    case h_4 => exact hu

theorem sound_execWarmReset (r : Req) {s : State} (hi : Inv s) : Sound (execWarmReset r s) :=
  inv_serveThen r true true (fun _ h => h) (fun _ h => inv_warmReset 1 .warmReset h) hi

/-! ### Lanes and the Whorl -/

theorem sound_execWhorlRenewal (t : Time) {s : State} (hi : Inv s) : Sound (execWhorlRenewal t s) := by
  have hadv := inv_advanceTo t hi
  unfold execWhorlRenewal
  generalize advanceTo t s = u at hadv
  show Safety.Inv _
  dsimp only
  split
  · exact hadv
  · split
    · exact inv_of_watch (by simp [watch]) hadv
    · exact inv_yieldNow _ (inv_of_watch (by simp [watch]) hadv)

theorem sound_execCheckpointCommit (t : Time) {s : State} (hi : Inv s) : Sound (execCheckpointCommit t s) := by
  have hadv := inv_advanceTo t hi
  unfold execCheckpointCommit
  generalize advanceTo t s = u at hadv
  show Safety.Inv _
  split
  · split
    · exact inv_afterCommit _ (inv_of_watch (by simp [watch]) hadv)
    · exact hadv
  · exact hadv

theorem sound_execComparatorMismatch (t : Time) (l : Lane) {s : State} (hi : Inv s) : Sound (execComparatorMismatch t l s) :=
  inv_laneFault l 1 (inv_advanceTo t hi)

theorem sound_execEccUncorrectable (t : Time) (l : Lane) {s : State} (hi : Inv s) : Sound (execEccUncorrectable t l s) :=
  inv_laneFault l 2 (inv_advanceTo t hi)

theorem sound_execLeaseExpiry (t : Time) {s : State} (hi : Inv s) : Sound (execLeaseExpiry t s) := by
  have hadv := inv_advanceTo t hi
  unfold execLeaseExpiry
  generalize advanceTo t s = u at hadv
  show Safety.Inv _
  split
  · split
    · exact inv_releaseWhorl _ _ hadv
    · exact hadv
  · exact hadv

theorem inv_gapClosed (w : Switch) {s : State} (hi : Inv s) : Inv (gapClosed w s) := by
  have htake := inv_takeWhorl w.failed.other hi
  unfold gapClosed buffersLost
  extract_lets gap occ u _ v
  have hv : Inv (closeResponder v) := inv_of_watch (s := v) (by simp [watch]) (inv_of_watch (s := u) rfl htake)
  exact inv_of_watch (watch_foldl _ (fun x e => by simp [watch]) occ (closeResponder v)) hv

theorem inv_switchNoted (w : Switch) (f : Time) (gap : Nat) {s : State} (hi : Inv s) : Inv (switchNoted w f gap s) := by
  refine inv_of_watch ?_ hi
  unfold switchNoted
  dsimp only
  split <;> simp [watch]

theorem watch_engageAll (s : State) : watch (engageAll s) = watch s := by simp [watch]

theorem sound_execWhorlGrant (t : Time) {s : State} (hi : Inv s) : Sound (execWhorlGrant t s) := by
  have hadv := inv_advanceTo t hi
  unfold execWhorlGrant
  generalize advanceTo t s = u at hadv
  show Safety.Inv _
  dsimp only
  split
  · rename_i w _
    split
    · rename_i f _
      split
      · exact hadv
      · exact inv_of_watch (watch_engageAll _) (inv_afterTake (inv_switchNoted w f (gapCycles w.releasedAt u) (inv_gapClosed w hadv)))
    · exact hadv
  · exact hadv

theorem sound_execColdLaneScrub (t : Time) (corrected : Nat) (fault : Bool) {s : State} (hi : Inv s) :
    Sound (execColdLaneScrub t corrected fault s) := by
  have hadv := inv_advanceTo t hi
  unfold execColdLaneScrub
  generalize advanceTo t s = u at hadv
  show Safety.Inv _
  dsimp only
  split
  · split
    · split
      · exact inv_standbyLost (inv_of_watch (by simp [watch]) hadv)
      · exact inv_of_watch (by simp [watch]) hadv
    · exact hadv
  · exact hadv

end Sys2Proof.Machine
end

section
/-! PROOFS. Commands of the Skein, of updates and of the day keep the invariants. -/
namespace Sys2Proof.Machine
open Sys2Proof.Safety

/-! ### The Skein -/

theorem sound_execSkeinRecordReceive (t : Time) {s : State} (hi : Inv s) : Sound (execSkeinRecordReceive t s) := by
  have hadv := inv_advanceTo t hi
  unfold execSkeinRecordReceive
  generalize advanceTo t s = u at hadv
  show Safety.Inv _
  split
  · exact inv_receiveOne hadv
  · exact hadv

theorem sound_execSkeinFlashWrite (t : Time) {s : State} (hi : Inv s) : Sound (execSkeinFlashWrite t s) := by
  have hadv := inv_advanceTo t hi
  unfold execSkeinFlashWrite
  generalize advanceTo t s = u at hadv
  show Safety.Inv _
  dsimp only
  split
  · exact hadv
  · rename_i r rest hnext
    have hburst : watch (burst 2 u.skein.burst u).2.2 = watch u := by simp [watch]
    split
    · exact hadv
    · generalize burst 2 u.skein.burst u = p at hburst
      obtain ⟨go, b, v⟩ := p
      have hv : Inv v := inv_of_watch hburst hadv
      dsimp only
      split
      · refine inv_of_watch (watch_writeRecord r _) (inv_of_buffer (s := v) rfl rfl ?_ hv)
        exact (nextRecord_shorter hnext).trans hadv.2.1
      · exact inv_of_watch (s := v) rfl hv

theorem sound_execSkeinClearDone (t : Time) {s : State} (hi : Inv s) : Sound (execSkeinClearDone t s) := by
  have hadv := inv_advanceTo t hi
  unfold execSkeinClearDone
  generalize advanceTo t s = u at hadv
  show Safety.Inv _
  split
  · exact inv_of_watch (watch_clearDone u) hadv
  · exact hadv

/-! ### Updates -/

theorem sound_execActivationBoundary (t : Time) {s : State} (hi : Inv s) : Sound (execActivationBoundary t s) := by
  have hadv := inv_advanceTo t hi
  unfold execActivationBoundary
  generalize advanceTo t s = u at hadv
  show Safety.Inv _
  dsimp only
  split
  · exact hadv
  · split
    · split
      · exact inv_of_watch (by simp [watch]) hadv
      · split
        · exact inv_of_watch (by simp [watch]) hadv
        · exact hadv
    · split
      · split
        · exact hadv
        · split
          · exact inv_pauseBoundary hadv
          · split
            · exact inv_of_watch (by simp [watch]) hadv
            · exact inv_of_watch (by simp [watch]) hadv
      · exact hadv

theorem watch_beginTrial (s : State) : watch (beginTrial s) = watch s := by simp [watch]

theorem watch_switchParts (toNew : Bool) (s : State) : watch (switchParts toNew s) = watch s := by simp [watch]

theorem watch_rejoin (s : State) : watch (rejoin s) = watch s := by simp [watch]

theorem sound_execPauseGateOpen (t : Time) {s : State} (hi : Inv s) : Sound (execPauseGateOpen t s) := by
  have hadv := inv_advanceTo t hi
  unfold execPauseGateOpen
  generalize advanceTo t s = u at hadv
  show Safety.Inv _
  dsimp only
  split
  · rename_i l _
    split
    · exact hadv
    · refine inv_of_watch (watch_engageAll _) (inv_lateDisarm (inv_of_watch (s := takeWhorl l u) ?_ (inv_takeWhorl l hadv)))
      rw [watch_beginTrial, watch_switchParts, watch_rejoin]
  · exact hadv

theorem sound_execHandoverBootDone (t : Time) (ok : Bool) {s : State} (hi : Inv s) : Sound (execHandoverBootDone t ok s) := by
  have hadv := inv_advanceTo t hi
  unfold execHandoverBootDone
  generalize advanceTo t s = u at hadv
  show Safety.Inv _
  dsimp only
  split
  · split
    · exact hadv
    · split
      · exact inv_of_watch (by simp [watch]) hadv
      · exact inv_updatingFailed _ _ hadv
  · exact hadv

theorem watch_oldSetBack (s : State) : watch (oldSetBack s) = watch s := by simp [watch]

/-- The program that a handover lays out in the other lane. -/
def coreHandedOver (im : Image) (s : State) : State :=
  let s := closeAllSessions (restoreImage im (dropCore s))
  { s with spool := { s.spool with due := none, saved := [], written := none, plyAt := {}, posAt := {} } }

/-- The Whorl changes hands, and the change is counted and recorded. -/
def handoverNoted (l : Lane) (r : Image × Time × Bool) (s : State) : State :=
  let s := takeWhorl l.other (coreHandedOver r.1 s)
  let s := returnLane l (setLane l { lane s l with state := .cold, mgmt := false, clocks := false } s)
  let s := rejoin { s with lanes := { s.lanes with noCkpt := r.2.2 }, upd := { s.upd with lastHandoverEnd := some s.sun.time } }
  raise .critical 0x18 0x0014 [BitVec.ofNat 32 (Lane.num l), 4, lo32 r.2.1, hi32 r.2.1, 0] (bump 0x00180014 0 s)

theorem watch_coreHandedOver (im : Image) (s : State) : watch (coreHandedOver im s) = watch s := by simp [watch, coreHandedOver]

theorem inv_handoverNoted (l : Lane) (r : Image × Time × Bool) {s : State} (hi : Inv s) : Inv (handoverNoted l r s) := by
  have htake := inv_takeWhorl l.other (inv_of_watch (watch_coreHandedOver r.1 s) hi)
  unfold handoverNoted
  dsimp only
  generalize takeWhorl l.other (coreHandedOver r.1 s) = u at htake
  exact inv_of_watch (by simp [watch]) htake

theorem sound_execWhorlTransfer (t : Time) {s : State} (hi : Inv s) : Sound (execWhorlTransfer t s) := by
  have hadv := inv_advanceTo t hi
  unfold execWhorlTransfer
  generalize advanceTo t s = u at hadv
  show Safety.Inv _
  dsimp only
  split
  · rename_i l _
    split
    · exact hadv
    · have hnoted := inv_handoverNoted l (imageToRestore u) hadv
      have hset : Inv (if (handoverNoted l (imageToRestore u) u).upd.revertHand then oldSetBack (handoverNoted l (imageToRestore u) u)
          else beginTrial (switchParts true (handoverNoted l (imageToRestore u) u))) := by
        refine inv_of_watch ?_ hnoted
        split
        · exact watch_oldSetBack _
        · rw [watch_beginTrial, watch_switchParts]
      exact inv_of_watch (watch_engageAll _) (inv_lateDisarm hset)
  · exact hadv

theorem sound_execTrialExpired (t : Time) {s : State} (hi : Inv s) : Sound (execTrialExpired t s) := by
  have hadv := inv_advanceTo t hi
  unfold execTrialExpired
  generalize advanceTo t s = u at hadv
  show Safety.Inv _
  split
  · exact inv_failHealth hadv
  · exact hadv

theorem sound_execUpdateCommitDone (t : Time) (copyOk : Bool) {s : State} (hi : Inv s) : Sound (execUpdateCommitDone t copyOk s) := by
  have hadv := inv_advanceTo t hi
  unfold execUpdateCommitDone
  generalize advanceTo t s = u at hadv
  show Safety.Inv _
  split
  · exact hadv
  · extract_lets v w
    have hv : Inv v := by
      unfold v
      split
      · dsimp only
        split
        · split
          · exact inv_of_watch (by simp [watch]) hadv
          · exact inv_standbyLost (inv_of_watch (by simp [watch]) hadv)
        · exact hadv
      · exact hadv
    clear_value v
    exact inv_of_watch (by simp [watch]) hv

theorem sound_execSettingsMigrationDone (t : Time) (ok : Bool) {s : State} (hi : Inv s) : Sound (execSettingsMigrationDone t ok s) := by
  have hadv := inv_advanceTo t hi
  unfold execSettingsMigrationDone
  generalize advanceTo t s = u at hadv
  show Safety.Inv _
  split
  · exact hadv
  · split
    · exact inv_of_watch (by simp [watch]) hadv
    · exact inv_failHealth hadv

/-! ### Power, and what starts a DAWN -/

theorem sound_execVbatQualified (t : Time) {s : State} (hi : Inv s) : Sound (execVbatQualified t s) := by
  have hadv := inv_advanceTo t hi
  unfold execVbatQualified
  generalize advanceTo t s = u at hadv
  show Safety.Inv _
  split
  · exact inv_fromOff t hadv
  · split
    · exact inv_coldDawn _ _ _ (inv_powerOff t u)
    · exact hadv

theorem sound_execKl15Rising (t : Time) {s : State} (hi : Inv s) : Sound (execKl15Rising t s) := by
  have hadv := inv_advanceTo t hi
  unfold execKl15Rising
  generalize advanceTo t s = u at hadv
  show Safety.Inv _
  dsimp only
  have hon : Inv { u with sys := { u.sys with kl15 := true } } := inv_of_watch (s := u) rfl hadv
  split
  · exact inv_coldDawn _ _ _ hon
  · exact hon

theorem sound_execWakeLineAsserted (t : Time) (line : Fin 4) {s : State} (hi : Inv s) : Sound (execWakeLineAsserted t line s) := by
  have hadv := inv_advanceTo t hi
  unfold execWakeLineAsserted
  generalize advanceTo t s = u at hadv
  show Safety.Inv _
  split
  · exact inv_coldDawn _ _ _ hadv
  · exact hadv

theorem sound_execRtcAlarm (t : Time) {s : State} (hi : Inv s) : Sound (execRtcAlarm t s) := by
  have hadv := inv_advanceTo t hi
  unfold execRtcAlarm
  generalize advanceTo t s = u at hadv
  show Safety.Inv _
  split
  · exact inv_coldDawn _ _ _ hadv
  · exact hadv

theorem sound_execMidnightPendingWake (t : Time) {s : State} (hi : Inv s) : Sound (execMidnightPendingWake t s) := by
  have hadv := inv_advanceTo t hi
  unfold execMidnightPendingWake
  generalize advanceTo t s = u at hadv
  show Safety.Inv _
  split
  · exact inv_coldDawn _ _ _ hadv
  · exact hadv

theorem sound_execResetNAsserted (t : Time) {s : State} (hi : Inv s) : Sound (execResetNAsserted t s) :=
  inv_warmReset 2 .resetN (inv_advanceTo t hi)

theorem sound_execKl15Low200ms (t : Time) {s : State} (hi : Inv s) : Sound (execKl15Low200ms t s) := by
  have hadv := inv_advanceTo t hi
  unfold execKl15Low200ms
  generalize advanceTo t s = u at hadv
  show Safety.Inv _
  dsimp only
  split
  · exact hadv
  · have hoff : Inv { u with sys := { u.sys with kl15 := false } } := inv_of_watch (s := u) rfl hadv
    split
    · exact hoff
    · split
      case h_1 | h_2 | h_3 => exact inv_enterDusk _ hoff
      case h_4 =>
        split
        · exact inv_enterDusk _ hoff
        · exact inv_of_watch (s := u) rfl hadv
      case h_5 => exact inv_of_watch (s := u) rfl hadv
      case h_6 => exact hoff

theorem inv_testTook (a b imu panel : Bool) {s : State} (hi : Inv s) : Inv (testTook a b imu panel s) := by
  have htested : Inv (selfTested a b imu panel s) := inv_of_watch (by simp [watch, selfTested]) hi
  unfold testTook
  dsimp only
  generalize selfTested a b imu panel s = u at htested
  have hclaim : Inv (if a then u else enter 4 (runClaim .b) (returnLane .a u)) := by
    refine inv_of_watch ?_ htested
    split <;> simp [watch]
  exact inv_of_watch (s := takeWhorl (chosen a) _) (by simp [watch]) (inv_takeWhorl _ hclaim)

/-- With a lane chosen, DAWN goes on, in the hold where it is to stay. -/
theorem inv_testOver {s : State} (hi : Inv s) : Inv (if s.sys.stayDawn && s.sys.warm then
    (if (reachHold 6 0 s).sys.hold then goStep .distaff (reachHold 6 0 s) else reachHold 6 0 s) else goStep .distaff s) := by
  have hgo {u : State} (hu : Inv u) : Inv (goStep .distaff u) := inv_of_watch (watch_goStep _ u) hu
  split
  · split
    · exact hgo (inv_reachHold 6 0 hi)
    · exact inv_reachHold 6 0 hi
  · exact hgo hi

theorem sound_execSelfTestComplete (t : Time) (passA passB imuOk panelFitted : Bool) {s : State} (hi : Inv s) :
    Sound (execSelfTestComplete t passA passB imuOk panelFitted s) := by
  have hadv := inv_advanceTo t hi
  unfold execSelfTestComplete
  generalize advanceTo t s = u at hadv
  show Safety.Inv _
  dsimp only
  split
  · exact hadv
  · split
    · exact inv_reachHold _ _ (inv_of_watch (s := u) (by simp [watch]) hadv)
    · exact inv_testOver (inv_testTook passA passB imuOk panelFitted hadv)

theorem watch_distaffUp (s : State) : watch (biasesClaimed (searching (distaffFresh s))) = watch s := by
  have hfresh : watch (distaffFresh s) = watch s := by simp [watch, distaffFresh]
  have hsearch (u : State) : watch (searching u) = watch u := by
    unfold searching
    split <;> simp [watch]
  have hbias (c : Bool) (n : Nat) (u : State) : watch (if c then claimBias n u else u) = watch u := by
    split <;> simp [watch]
  exact (hbias _ 1 _).trans ((hbias _ 0 _).trans ((hsearch _).trans hfresh))

theorem sound_execDistaffBooted (t : Time) {s : State} (hi : Inv s) : Sound (execDistaffBooted t s) := by
  have hadv := inv_advanceTo t hi
  unfold execDistaffBooted
  generalize advanceTo t s = u at hadv
  show Safety.Inv _
  dsimp only
  split
  · exact hadv
  · exact inv_of_watch ((watch_goStep .journal _).trans (watch_distaffUp u)) hadv

theorem sound_execJournalRecovery (t : Time) {s : State} (hi : Inv s) : Sound (execJournalRecovery t s) := by
  have hadv := inv_advanceTo t hi
  unfold execJournalRecovery
  generalize advanceTo t s = u at hadv
  show Safety.Inv _
  split
  · exact inv_of_watch (by simp [watch, goStep]) hadv
  · exact hadv

theorem sound_execCopReadDone (t : Time) {s : State} (hi : Inv s) : Sound (execCopReadDone t s) := by
  have hadv := inv_advanceTo t hi
  unfold execCopReadDone
  generalize advanceTo t s = u at hadv
  show Safety.Inv _
  dsimp only
  split
  · exact hadv
  · split
    · exact inv_reachNoCop _ _ hadv
    · split
      · exact inv_reachNoCop _ _ hadv
      · exact inv_of_watch (by simp [watch, goStep]) hadv

theorem sound_execCopValidationDone (t : Time) (c : Cop) {s : State} (hi : Inv s) : Sound (execCopValidationDone t c s) := by
  have hadv := inv_advanceTo t hi
  unfold execCopValidationDone
  generalize advanceTo t s = u at hadv
  show Safety.Inv _
  dsimp only
  split
  · exact hadv
  · split
    · exact hadv
    · split
      · exact inv_copRefused _ (inv_of_watch (by simp [watch]) hadv)
      · exact inv_copPassed _ (inv_of_watch (by simp [watch]) hadv)

theorem sound_execStandbyCopyDone (t : Time) (ok : Bool) {s : State} (hi : Inv s) : Sound (execStandbyCopyDone t ok s) := by
  have hadv := inv_advanceTo t hi
  unfold execStandbyCopyDone
  generalize advanceTo t s = u at hadv
  show Safety.Inv _
  dsimp only
  split
  · split
    · exact hadv
    · refine inv_enterMorning (inv_of_watch ?_ hadv)
      (repeat' split) <;> simp [watch]
  · exact hadv

theorem sound_execAutoarm (t : Time) {s : State} (hi : Inv s) : Sound (execAutoarm t s) := by
  have hadv := inv_advanceTo t hi
  unfold execAutoarm
  generalize advanceTo t s = u at hadv
  show Safety.Inv _
  split
  · rename_i h
    have hm : u.sys.state = .morning := by
      simp only [Bool.and_eq_true, decide_eq_true_eq] at h
      exact h.1.1.1.1.1.1
    have hday : Inv { u with sys := { u.sys with autoarmDone := true } } := inv_of_watch (s := u) rfl hadv
    exact inv_armNow .autoarm (awake_of_inv hadv (by simp [hm])) hday
  · exact hadv

theorem sound_execDuskStepDone (t : Time) {s : State} (hi : Inv s) : Sound (execDuskStepDone t s) := by
  have hadv := inv_advanceTo t hi
  unfold execDuskStepDone
  generalize advanceTo t s = u at hadv
  show Safety.Inv _
  split
  · exact hadv
  · split
    · split
      · exact inv_of_watch (by simp [watch, goDusk]) hadv
      · exact hadv
    · split
      · exact hadv
      · refine inv_of_watch ?_ hadv
        rw [watch_goDusk, watch_duskOutputs]
        split <;> simp [watch]
    · exact inv_of_watch (watch_goDusk 4 u) hadv
    · split
      · exact inv_of_watch (by simp [watch, goDusk]) hadv
      · exact hadv
    · split
      · exact inv_enterMidnight _
      · exact hadv

theorem sound_execDuskTimeout (t : Time) {s : State} (hi : Inv s) : Sound (execDuskTimeout t s) := by
  have hadv := inv_advanceTo t hi
  unfold execDuskTimeout
  generalize advanceTo t s = u at hadv
  show Safety.Inv _
  split
  · exact hadv
  · exact inv_enterMidnight _

theorem sound_execHoldupStepsComplete (t : Time) (vbatBack : Bool) {s : State} (hi : Inv s) : Sound (execHoldupStepsComplete t vbatBack s) := by
  have hadv := inv_advanceTo t hi
  unfold execHoldupStepsComplete
  generalize advanceTo t s = u at hadv
  show Safety.Inv _
  dsimp only
  split
  · exact hadv
  · have hflush : Inv (panelHoldup (flushSkein (copyEmergency u))) :=
      inv_of_watch (s := flushSkein (copyEmergency u)) (by simp [watch]) (inv_flushSkein (inv_of_watch (by simp [watch]) hadv))
    split
    · exact inv_coldDawn _ _ _ (inv_powerOff t _)
    · exact inv_of_watch (s := panelHoldup (flushSkein (copyEmergency u))) rfl hflush

theorem sound_execHoldupExhausted (t : Time) {s : State} (hi : Inv s) : Sound (execHoldupExhausted t s) := by
  have hadv := inv_advanceTo t hi
  unfold execHoldupExhausted
  generalize advanceTo t s = u at hadv
  show Safety.Inv _
  split
  · exact inv_powerOff t u
  · exact hadv

/-! ### The Distaff's service -/

theorem watch_replyQueued (r : Req) (p : Reply × State) : watch (replyQueued r p).2 = watch p.2 := by simp [watch, replyQueued]

theorem watch_runQueued (c : Instr) (s : State) : watch (runQueued c s).2 = watch s := by
  unfold runQueued
  split
  case h_1 => simp [watch]
  case h_3 r offset bytes =>
    have hdata : watch (copData r.who offset bytes s).2 = watch s := by simp [watch]
    split
    · rename_i heq
      rw [watch_replyQueued, ← hdata, heq]
    · rename_i heq
      rw [← hdata, heq]
  case h_8 => rfl
  all_goals exact (watch_replyQueued _ _).trans (by simp [watch])

theorem sound_execDistaffQueueService (t : Time) (serviceUs : Nat) {s : State} (hi : Inv s) : Sound (execDistaffQueueService t serviceUs s) := by
  have hadv := inv_advanceTo t hi
  unfold execDistaffQueueService
  generalize advanceTo t s = u at hadv
  show Safety.Inv _
  dsimp only
  split
  · exact hadv
  · split
    · exact hadv
    · rename_i i turn _
      split
      · exact hadv
      · rename_i e _
        have hrun : Inv (runQueued e.cmd { u with distaff := { u.distaff with queue := u.distaff.queue.eraseIdx i } }).2 :=
          inv_of_watch (watch_runQueued e.cmd _) (inv_of_watch (s := u) rfl hadv)
        generalize runQueued e.cmd _ = p at hrun
        obtain ⟨ran, v⟩ := p
        cases ran with
        | false => exact inv_of_watch (s := v) rfl hrun
        | true => exact inv_of_watch (s := v) rfl hrun

end Sys2Proof.Machine
end

section
/-! PROOFS. Every command, so every step, keeps the invariants. -/
namespace Sys2Proof.Machine
open Sys2Proof.Safety

theorem sound_of_eq {c : Instr} {s : State} {o : Result} (h : exec c s = o) (ho : Sound o) : Sound (exec c s) := h ▸ ho

/-- Every command keeps the invariants. -/
theorem sound_exec (c : Instr) {s : State} (hi : Inv s) : Sound (exec c s) := by
  cases c with
  | copLoadBegin => exact sound_of_eq (exec_copLoadBegin ..) (sound_queued _ _ _ _ _ hi)
  | copLoadData => exact sound_of_eq (exec_copLoadData ..) (sound_queued _ _ _ _ _ hi)
  | copLoadCommit => exact sound_of_eq (exec_copLoadCommit ..) (sound_queued _ _ _ _ _ hi)
  | copLoadRevert => exact sound_of_eq (exec_copLoadRevert ..) (sound_queued _ _ _ _ _ hi)
  | copLoadAbort => exact sound_of_eq (exec_copLoadAbort ..) (sound_queued _ _ _ _ _ hi)
  | activate => exact sound_of_eq (exec_activate ..) (sound_queued _ _ _ _ _ hi)
  | sysCtrlDusk => exact sound_of_eq (exec_sysCtrlDusk ..) (sound_asWrite _ _ _ hi)
  | sysCtrlHoldOff => exact sound_of_eq (exec_sysCtrlHoldOff ..) (sound_asWrite _ _ _ hi)
  | sysCtrlStayDawn => exact sound_of_eq (exec_sysCtrlStayDawn ..) (sound_asWrite _ _ _ hi)
  | sysLockSet => exact sound_of_eq (exec_sysLockSet ..) (sound_asWrite _ _ _ hi)
  | indCtrlWrite => exact sound_of_eq (exec_indCtrlWrite ..) (sound_asWrite _ _ _ hi)
  | indDataWrite => exact sound_of_eq (exec_indDataWrite ..) (sound_asWrite _ _ _ hi)
  | twiRcClear => exact sound_of_eq (exec_twiRcClear ..) (sound_asWrite _ _ _ hi)
  | lswClear => exact sound_of_eq (exec_lswClear ..) (sound_asWrite _ _ _ hi)
  | lswLimpEn => exact sound_of_eq (exec_lswLimpEn ..) (sound_asWrite _ _ _ hi)
  | lswDirMapWrite => exact sound_of_eq (exec_lswDirMapWrite ..) (sound_asWrite _ _ _ hi)
  | lswRetryMaxWrite => exact sound_of_eq (exec_lswRetryMaxWrite ..) (sound_asWrite _ _ _ hi)
  | solClear => exact sound_of_eq (exec_solClear ..) (sound_asWrite _ _ _ hi)
  | clkSrcWrite => exact sound_of_eq (exec_clkSrcWrite ..) (sound_asWrite _ _ _ hi)
  | sunPpsCfgWrite => exact sound_of_eq (exec_sunPpsCfgWrite ..) (sound_asWrite _ _ _ hi)
  | canRecover => exact sound_of_eq (exec_canRecover ..) (sound_asWrite _ _ _ hi)
  | canListenWrite => exact sound_of_eq (exec_canListenWrite ..) (sound_asWrite _ _ _ hi)
  | sknCtrlNewchal => exact sound_of_eq (exec_sknCtrlNewchal ..) (sound_asWrite _ _ _ hi)
  | sknCtrlClear => exact sound_of_eq (exec_sknCtrlClear ..) (sound_asWrite _ _ _ hi)
  | sknKeyWrite => exact sound_of_eq (exec_sknKeyWrite ..) (sound_asWrite _ _ _ hi)
  | updCtrlConfirm => exact sound_of_eq (exec_updCtrlConfirm ..) (sound_asWrite _ _ _ hi)
  | updCtrlReject => exact sound_of_eq (exec_updCtrlReject ..) (sound_asWrite _ _ _ hi)
  | updCtrlRestage => exact sound_of_eq (exec_updCtrlRestage ..) (sound_asWrite _ _ _ hi)
  | pnlReqGo => exact sound_of_eq (exec_pnlReqGo ..) (sound_asWrite _ _ _ hi)
  | pnlVcomWrite => exact sound_of_eq (exec_pnlVcomWrite ..) (sound_asWrite _ _ _ hi)
  | tallyLimitWrite => exact sound_of_eq (exec_tallyLimitWrite ..) (sound_asWrite _ _ _ hi)
  | add => exact sound_of_eq (exec_add ..) ((quiet_intoG ..).sound hi)
  | sub => exact sound_of_eq (exec_sub ..) ((quiet_intoG ..).sound hi)
  | mul => exact sound_of_eq (exec_mul ..) ((quiet_intoG ..).sound hi)
  | mulh => exact sound_of_eq (exec_mulh ..) ((quiet_intoG ..).sound hi)
  | mulhu => exact sound_of_eq (exec_mulhu ..) ((quiet_intoG ..).sound hi)
  | div => exact sound_of_eq (exec_div ..) ((quiet_intoG ..).sound hi)
  | divu => exact sound_of_eq (exec_divu ..) ((quiet_intoG ..).sound hi)
  | rem => exact sound_of_eq (exec_rem ..) ((quiet_intoG ..).sound hi)
  | remu => exact sound_of_eq (exec_remu ..) ((quiet_intoG ..).sound hi)
  | and_ => exact sound_of_eq (exec_and_ ..) ((quiet_intoG ..).sound hi)
  | or_ => exact sound_of_eq (exec_or_ ..) ((quiet_intoG ..).sound hi)
  | xor => exact sound_of_eq (exec_xor ..) ((quiet_intoG ..).sound hi)
  | andn => exact sound_of_eq (exec_andn ..) ((quiet_intoG ..).sound hi)
  | shl => exact sound_of_eq (exec_shl ..) ((quiet_intoG ..).sound hi)
  | shr => exact sound_of_eq (exec_shr ..) ((quiet_intoG ..).sound hi)
  | sra => exact sound_of_eq (exec_sra ..) ((quiet_intoG ..).sound hi)
  | rol => exact sound_of_eq (exec_rol ..) ((quiet_intoG ..).sound hi)
  | min => exact sound_of_eq (exec_min ..) ((quiet_intoG ..).sound hi)
  | max => exact sound_of_eq (exec_max ..) ((quiet_intoG ..).sound hi)
  | minu => exact sound_of_eq (exec_minu ..) ((quiet_intoG ..).sound hi)
  | maxu => exact sound_of_eq (exec_maxu ..) ((quiet_intoG ..).sound hi)
  | qadd => exact sound_of_eq (exec_qadd ..) ((quiet_intoG ..).sound hi)
  | qsub => exact sound_of_eq (exec_qsub ..) ((quiet_intoG ..).sound hi)
  | qmul16 => exact sound_of_eq (exec_qmul16 ..) ((quiet_intoG ..).sound hi)
  | qmul31 => exact sound_of_eq (exec_qmul31 ..) ((quiet_intoG ..).sound hi)
  | qshl => exact sound_of_eq (exec_qshl ..) ((quiet_intoG ..).sound hi)
  | fadd => exact sound_of_eq (exec_fadd ..) ((quiet_intoG ..).sound hi)
  | fsub => exact sound_of_eq (exec_fsub ..) ((quiet_intoG ..).sound hi)
  | fmul => exact sound_of_eq (exec_fmul ..) ((quiet_intoG ..).sound hi)
  | fdiv => exact sound_of_eq (exec_fdiv ..) ((quiet_intoG ..).sound hi)
  | fmin => exact sound_of_eq (exec_fmin ..) ((quiet_intoG ..).sound hi)
  | fmax => exact sound_of_eq (exec_fmax ..) ((quiet_intoG ..).sound hi)
  | clz => exact sound_of_eq (exec_clz ..) ((quiet_intoG1 ..).sound hi)
  | popc => exact sound_of_eq (exec_popc ..) ((quiet_intoG1 ..).sound hi)
  | addi => exact sound_of_eq (exec_addi ..) ((quiet_intoG1 ..).sound hi)
  | andi => exact sound_of_eq (exec_andi ..) ((quiet_intoG1 ..).sound hi)
  | ori => exact sound_of_eq (exec_ori ..) ((quiet_intoG1 ..).sound hi)
  | xori => exact sound_of_eq (exec_xori ..) ((quiet_intoG1 ..).sound hi)
  | shli => exact sound_of_eq (exec_shli ..) ((quiet_intoG1 ..).sound hi)
  | shri => exact sound_of_eq (exec_shri ..) ((quiet_intoG1 ..).sound hi)
  | srai => exact sound_of_eq (exec_srai ..) ((quiet_intoG1 ..).sound hi)
  | roli => exact sound_of_eq (exec_roli ..) ((quiet_intoG1 ..).sound hi)
  | movi => exact sound_of_eq (exec_movi ..) ((quiet_intoG1 ..).sound hi)
  | qneg => exact sound_of_eq (exec_qneg ..) ((quiet_intoG1 ..).sound hi)
  | qabs => exact sound_of_eq (exec_qabs ..) ((quiet_intoG1 ..).sound hi)
  | fsqrt => exact sound_of_eq (exec_fsqrt ..) ((quiet_intoG1 ..).sound hi)
  | fabs => exact sound_of_eq (exec_fabs ..) ((quiet_intoG1 ..).sound hi)
  | fneg => exact sound_of_eq (exec_fneg ..) ((quiet_intoG1 ..).sound hi)
  | f2i => exact sound_of_eq (exec_f2i ..) ((quiet_intoG1 ..).sound hi)
  | i2f => exact sound_of_eq (exec_i2f ..) ((quiet_intoG1 ..).sound hi)
  | f2q16 => exact sound_of_eq (exec_f2q16 ..) ((quiet_intoG1 ..).sound hi)
  | q162f => exact sound_of_eq (exec_q162f ..) ((quiet_intoG1 ..).sound hi)
  | f2q31 => exact sound_of_eq (exec_f2q31 ..) ((quiet_intoG1 ..).sound hi)
  | q312f => exact sound_of_eq (exec_q312f ..) ((quiet_intoG1 ..).sound hi)
  | ldw => exact sound_of_eq (exec_ldw ..) ((quiet_loadInto ..).sound hi)
  | ldh => exact sound_of_eq (exec_ldh ..) ((quiet_loadInto ..).sound hi)
  | ldhu => exact sound_of_eq (exec_ldhu ..) ((quiet_loadInto ..).sound hi)
  | ldb => exact sound_of_eq (exec_ldb ..) ((quiet_loadInto ..).sound hi)
  | ldbu => exact sound_of_eq (exec_ldbu ..) ((quiet_loadInto ..).sound hi)
  | stw => exact sound_of_eq (exec_stw ..) ((quiet_storeFrom ..).sound hi)
  | sth => exact sound_of_eq (exec_sth ..) ((quiet_storeFrom ..).sound hi)
  | stb => exact sound_of_eq (exec_stb ..) ((quiet_storeFrom ..).sound hi)
  | ffma => exact sound_of_eq (exec_ffma ..) ((quiet_onRegs ..).sound hi)
  | ieqi => exact sound_of_eq (exec_ieqi ..) ((quiet_onRegs ..).sound hi)
  | inei => exact sound_of_eq (exec_inei ..) ((quiet_onRegs ..).sound hi)
  | ilti => exact sound_of_eq (exec_ilti ..) ((quiet_onRegs ..).sound hi)
  | igei => exact sound_of_eq (exec_igei ..) ((quiet_onRegs ..).sound hi)
  | timeTi => exact sound_of_eq (exec_timeTi ..) ((quiet_onRegs ..).sound hi)
  | ieq => exact sound_of_eq (exec_ieq ..) ((quiet_intoP ..).sound hi)
  | ine => exact sound_of_eq (exec_ine ..) ((quiet_intoP ..).sound hi)
  | ilt => exact sound_of_eq (exec_ilt ..) ((quiet_intoP ..).sound hi)
  | ige => exact sound_of_eq (exec_ige ..) ((quiet_intoP ..).sound hi)
  | iltu => exact sound_of_eq (exec_iltu ..) ((quiet_intoP ..).sound hi)
  | igeu => exact sound_of_eq (exec_igeu ..) ((quiet_intoP ..).sound hi)
  | feq => exact sound_of_eq (exec_feq ..) ((quiet_intoP ..).sound hi)
  | fne => exact sound_of_eq (exec_fne ..) ((quiet_intoP ..).sound hi)
  | flt => exact sound_of_eq (exec_flt ..) ((quiet_intoP ..).sound hi)
  | fle => exact sound_of_eq (exec_fle ..) ((quiet_intoP ..).sound hi)
  | fgt => exact sound_of_eq (exec_fgt ..) ((quiet_intoP ..).sound hi)
  | fge => exact sound_of_eq (exec_fge ..) ((quiet_intoP ..).sound hi)
  | pand => exact sound_of_eq (exec_pand ..) ((quiet_intoPP ..).sound hi)
  | por => exact sound_of_eq (exec_por ..) ((quiet_intoPP ..).sound hi)
  | pxor => exact sound_of_eq (exec_pxor ..) ((quiet_intoPP ..).sound hi)
  | pandn => exact sound_of_eq (exec_pandn ..) ((quiet_intoPP ..).sound hi)
  | pnot => exact sound_of_eq (exec_pnot ..) ((quiet_intoPP ..).sound hi)
  | pmov => exact sound_of_eq (exec_pmov ..) ((quiet_intoPP ..).sound hi)
  | sigRd => exact sound_of_eq (exec_sigRd ..) ((quiet_readInto ..).sound hi)
  | sigSt => exact sound_of_eq (exec_sigSt ..) ((quiet_readInto ..).sound hi)
  | sigAge => exact sound_of_eq (exec_sigAge ..) ((quiet_readInto ..).sound hi)
  | vbatQualified => exact sound_of_eq (exec_vbatQualified ..) (sound_execVbatQualified _ hi)
  | kl15Rising => exact sound_of_eq (exec_kl15Rising ..) (sound_execKl15Rising _ hi)
  | wakeLineAsserted => exact sound_of_eq (exec_wakeLineAsserted ..) (sound_execWakeLineAsserted _ _ hi)
  | rtcAlarm => exact sound_of_eq (exec_rtcAlarm ..) (sound_execRtcAlarm _ hi)
  | kl15Low200ms => exact sound_of_eq (exec_kl15Low200ms ..) (sound_execKl15Low200ms _ hi)
  | midnightPendingWake => exact sound_of_eq (exec_midnightPendingWake ..) (sound_execMidnightPendingWake _ hi)
  | resetNAsserted => exact sound_of_eq (exec_resetNAsserted ..) (sound_execResetNAsserted _ hi)
  | logicSuppliesUp => exact sound_of_eq (exec_logicSuppliesUp ..) ((quiet_execLogicSuppliesUp ..).sound hi)
  | refPllsLocked => exact sound_of_eq (exec_refPllsLocked ..) ((quiet_execRefPllsLocked ..).sound hi)
  | selfTestComplete => exact sound_of_eq (exec_selfTestComplete ..) (sound_execSelfTestComplete _ _ _ _ _ hi)
  | distaffBooted => exact sound_of_eq (exec_distaffBooted ..) (sound_execDistaffBooted _ hi)
  | journalRecovery => exact sound_of_eq (exec_journalRecovery ..) (sound_execJournalRecovery _ hi)
  | copReadDone => exact sound_of_eq (exec_copReadDone ..) (sound_execCopReadDone _ hi)
  | copValidationDone => exact sound_of_eq (exec_copValidationDone ..) (sound_execCopValidationDone _ _ hi)
  | standbyCopyDone => exact sound_of_eq (exec_standbyCopyDone ..) (sound_execStandbyCopyDone _ _ hi)
  | arm => exact sound_of_eq (exec_arm ..) (sound_execArm _ hi)
  | autoarm => exact sound_of_eq (exec_autoarm ..) (sound_execAutoarm _ hi)
  | armOutputStart => exact sound_of_eq (exec_armOutputStart ..) ((quiet_execArmOutputStart ..).sound hi)
  | disarm => exact sound_of_eq (exec_disarm ..) (sound_execDisarm _ hi)
  | duskStepDone => exact sound_of_eq (exec_duskStepDone ..) (sound_execDuskStepDone _ hi)
  | duskTimeout => exact sound_of_eq (exec_duskTimeout ..) (sound_execDuskTimeout _ hi)
  | holdupStart => exact sound_of_eq (exec_holdupStart ..) ((quiet_execHoldupStart ..).sound hi)
  | holdupExhausted => exact sound_of_eq (exec_holdupExhausted ..) (sound_execHoldupExhausted _ hi)
  | huReady => exact sound_of_eq (exec_huReady ..) ((quiet_execHuReady ..).sound hi)
  | hello => exact sound_of_eq (exec_hello ..) ((quiet_execHello ..).sound hi)
  | regRd => exact sound_of_eq (exec_regRd ..) (sound_execRegRd _ _ hi)
  | regWr => exact sound_of_eq (exec_regWr ..) (sound_execRegWr _ _ _ hi)
  | regWrm => exact sound_of_eq (exec_regWrm ..) (sound_execRegWrm _ _ _ _ hi)
  | blockRd => exact sound_of_eq (exec_blockRd ..) (sound_execBlockRd _ _ _ _ hi)
  | blockWr => exact sound_of_eq (exec_blockWr ..) (sound_execBlockWr _ _ _ _ hi)
  | funcReinit => exact sound_of_eq (exec_funcReinit ..) (sound_execFuncReinit _ _ hi)
  | funcRestartDone => exact sound_of_eq (exec_funcRestartDone ..) ((quiet_execFuncRestartDone ..).sound hi)
  | warmReset => exact sound_of_eq (exec_warmReset ..) (sound_execWarmReset _ hi)
  | streamHostWrite => exact sound_of_eq (exec_streamHostWrite ..) (sound_execStreamHostWrite _ _ _ hi)
  | streamSubscribe => exact sound_of_eq (exec_streamSubscribe ..) (sound_execStreamSubscribe _ _ _ hi)
  | streamOutSend => exact sound_of_eq (exec_streamOutSend ..) ((quiet_execStreamOutSend ..).sound hi)
  | hankAuthFail => exact sound_of_eq (exec_hankAuthFail ..) ((quiet_execHankAuthFail ..).sound hi)
  | distaffQueueService => exact sound_of_eq (exec_distaffQueueService ..) (sound_execDistaffQueueService _ _ hi)
  | distaffWatchdogMiss => exact sound_of_eq (exec_distaffWatchdogMiss ..) ((quiet_execDistaffWatchdogMiss ..).sound hi)
  | hankSessionTimeout => exact sound_of_eq (exec_hankSessionTimeout ..) ((quiet_execHankSessionTimeout ..).sound hi)
  | serviceFrameBad => exact sound_of_eq (exec_serviceFrameBad ..) ((quiet_execServiceFrameBad ..).sound hi)
  | counterSatClear => exact sound_of_eq (exec_counterSatClear ..) (sound_execCounterSatClear _ _ hi)
  | loRegisterRead => exact sound_of_eq (exec_loRegisterRead ..) (sound_execRegRd _ _ hi)
  | loRegisterWrite => exact sound_of_eq (exec_loRegisterWrite ..) (sound_execRegWr _ _ _ hi)
  | hiRegisterWrite => exact sound_of_eq (exec_hiRegisterWrite ..) (sound_execRegWr _ _ _ hi)
  | indDataRead => exact sound_of_eq (exec_indDataRead ..) (sound_execRegRd _ _ hi)
  | triplicateScrub => exact sound_of_eq (exec_triplicateScrub ..) ((quiet_execTriplicateScrub ..).sound hi)
  | taskReleasePeriodic => exact sound_of_eq (exec_taskReleasePeriodic ..) ((quiet_execTaskReleasePeriodic ..).sound hi)
  | taskReleaseArrival => exact sound_of_eq (exec_taskReleaseArrival ..) ((quiet_execTaskReleaseArrival ..).sound hi)
  | activationStart => exact sound_of_eq (exec_activationStart ..) ((quiet_execActivationStart ..).sound hi)
  | sigWaitResume => exact sound_of_eq (exec_sigWaitResume ..) ((quiet_execSigWaitResume ..).sound hi)
  | barrierResume => exact sound_of_eq (exec_barrierResume ..) ((quiet_execBarrierResume ..).sound hi)
  | ldc => exact sound_of_eq (exec_ldc ..) ((quiet_execLdc ..).sound hi)
  | br => exact sound_of_eq (exec_br ..) ((quiet_execBr ..).sound hi)
  | loop => exact sound_of_eq (exec_loop ..) ((quiet_execLoop ..).sound hi)
  | next_ => exact sound_of_eq (exec_next_ ..) ((quiet_execNext ..).sound hi)
  | brk => exact sound_of_eq (exec_brk ..) ((quiet_execBrk ..).sound hi)
  | end_ => exact sound_of_eq (exec_end_ ..) ((quiet_execEnd ..).sound hi)
  | trap => exact sound_of_eq (exec_trap ..) ((quiet_execTrap ..).sound hi)
  | bar => exact sound_of_eq (exec_bar ..) ((quiet_execBar ..).sound hi)
  | timeNow => exact sound_of_eq (exec_timeNow ..) ((quiet_execTimeNow ..).sound hi)
  | sigWr => exact sound_of_eq (exec_sigWr ..) ((quiet_execSigWr ..).sound hi)
  | bobPush => exact sound_of_eq (exec_bobPush ..) ((quiet_execBobPush ..).sound hi)
  | bobPop => exact sound_of_eq (exec_bobPop ..) ((quiet_execBobPop ..).sound hi)
  | bobPeek => exact sound_of_eq (exec_bobPeek ..) ((quiet_execBobPeek ..).sound hi)
  | lawIn => exact sound_of_eq (exec_lawIn ..) ((quiet_execLawIn ..).sound hi)
  | lawStep => exact sound_of_eq (exec_lawStep ..) ((quiet_execLawStep ..).sound hi)
  | lawOut => exact sound_of_eq (exec_lawOut ..) ((quiet_execLawOut ..).sound hi)
  | outSw => exact sound_of_eq (exec_outSw ..) ((quiet_execOutSw ..).sound hi)
  | outPwm => exact sound_of_eq (exec_outPwm ..) ((quiet_execOutPwm ..).sound hi)
  | outSolCur => exact sound_of_eq (exec_outSolCur ..) ((quiet_execOutSolCur ..).sound hi)
  | outSolProf => exact sound_of_eq (exec_outSolProf ..) ((quiet_execOutSolProf ..).sound hi)
  | outSolRel => exact sound_of_eq (exec_outSolRel ..) ((quiet_execOutSolRel ..).sound hi)
  | bobbinWaitResume => exact sound_of_eq (exec_bobbinWaitResume ..) ((quiet_execBobbinWaitResume ..).sound hi)
  | adcSlot => exact sound_of_eq (exec_adcSlot ..) ((quiet_execAdcSlot ..).sound hi)
  | adcCalAgeExpired => exact sound_of_eq (exec_adcCalAgeExpired ..) ((quiet_execAdcCalAgeExpired ..).sound hi)
  | ainBurdenOpen => exact sound_of_eq (exec_ainBurdenOpen ..) ((quiet_execAinBurdenOpen ..).sound hi)
  | ainBurdenClose => exact sound_of_eq (exec_ainBurdenClose ..) ((quiet_execAinBurdenClose ..).sound hi)
  | freqEdge => exact sound_of_eq (exec_freqEdge ..) ((quiet_execFreqEdge ..).sound hi)
  | shaftEdge => exact sound_of_eq (exec_shaftEdge ..) ((quiet_execShaftEdge ..).sound hi)
  | shaftIndexEdge => exact sound_of_eq (exec_shaftIndexEdge ..) ((quiet_execShaftIndexEdge ..).sound hi)
  | shaftGridSample => exact sound_of_eq (exec_shaftGridSample ..) ((quiet_execShaftGridSample ..).sound hi)
  | shaftStop => exact sound_of_eq (exec_shaftStop ..) ((quiet_execShaftStop ..).sound hi)
  | psi5SyncPulse => exact sound_of_eq (exec_psi5SyncPulse ..) ((quiet_execPsi5SyncPulse ..).sound hi)
  | psi5Frame => exact sound_of_eq (exec_psi5Frame ..) ((quiet_execPsi5Frame ..).sound hi)
  | sentFrame => exact sound_of_eq (exec_sentFrame ..) ((quiet_execSentFrame ..).sound hi)
  | portSupplyOvercurrent => exact sound_of_eq (exec_portSupplyOvercurrent ..) ((quiet_execPortSupplyOvercurrent ..).sound hi)
  | portSupplyRetry => exact sound_of_eq (exec_portSupplyRetry ..) ((quiet_execPortSupplyRetry ..).sound hi)
  | supCurrentLimit => exact sound_of_eq (exec_supCurrentLimit ..) ((quiet_execSupCurrentLimit ..).sound hi)
  | supRetry => exact sound_of_eq (exec_supRetry ..) ((quiet_execSupRetry ..).sound hi)
  | supSettled => exact sound_of_eq (exec_supSettled ..) ((quiet_execSupSettled ..).sound hi)
  | imuSample => exact sound_of_eq (exec_imuSample ..) ((quiet_execImuSample ..).sound hi)
  | strikeSample => exact sound_of_eq (exec_strikeSample ..) ((quiet_execStrikeSample ..).sound hi)
  | strikeFloorHold => exact sound_of_eq (exec_strikeFloorHold ..) ((quiet_execStrikeFloorHold ..).sound hi)
  | strikeWindowCaptured => exact sound_of_eq (exec_strikeWindowCaptured ..) ((quiet_execStrikeWindowCaptured ..).sound hi)
  | strikeClassifyDone => exact sound_of_eq (exec_strikeClassifyDone ..) ((quiet_execStrikeClassifyDone ..).sound hi)
  | strikeBinClose => exact sound_of_eq (exec_strikeBinClose ..) ((quiet_execStrikeBinClose ..).sound hi)
  | strikeFaultEnter => exact sound_of_eq (exec_strikeFaultEnter ..) ((quiet_execStrikeFaultEnter ..).sound hi)
  | strikeFaultLeave => exact sound_of_eq (exec_strikeFaultLeave ..) ((quiet_execStrikeFaultLeave ..).sound hi)
  | plySampleEntry => exact sound_of_eq (exec_plySampleEntry ..) ((quiet_execPlySampleEntry ..).sound hi)
  | plySync => exact sound_of_eq (exec_plySync ..) ((quiet_execPlySync ..).sound hi)
  | plyEpoch => exact sound_of_eq (exec_plyEpoch ..) ((quiet_execPlyEpoch ..).sound hi)
  | plyLateflagEval => exact sound_of_eq (exec_plyLateflagEval ..) ((quiet_execPlyLateflagEval ..).sound hi)
  | poseHistoryAppend => exact sound_of_eq (exec_poseHistoryAppend ..) ((quiet_execPoseHistoryAppend ..).sound hi)
  | yieldRecordClose => exact sound_of_eq (exec_yieldRecordClose ..) ((quiet_execYieldRecordClose ..).sound hi)
  | yieldRecordPush => exact sound_of_eq (exec_yieldRecordPush ..) ((quiet_execYieldRecordPush ..).sound hi)
  | gnssAidingApply => exact sound_of_eq (exec_gnssAidingApply ..) ((quiet_execGnssAidingApply ..).sound hi)
  | gnssAidingTimeout => exact sound_of_eq (exec_gnssAidingTimeout ..) ((quiet_execGnssAidingTimeout ..).sound hi)
  | gnssMeasEpoch => exact sound_of_eq (exec_gnssMeasEpoch ..) ((quiet_execGnssMeasEpoch ..).sound hi)
  | gnssExclusionRelease => exact sound_of_eq (exec_gnssExclusionRelease ..) ((quiet_execGnssExclusionRelease ..).sound hi)
  | gnssSpoofClear => exact sound_of_eq (exec_gnssSpoofClear ..) ((quiet_execGnssSpoofClear ..).sound hi)
  | positionSolution => exact sound_of_eq (exec_positionSolution ..) ((quiet_execPositionSolution ..).sound hi)
  | searchCellFound => exact sound_of_eq (exec_searchCellFound ..) ((quiet_execSearchCellFound ..).sound hi)
  | searchDwellDone => exact sound_of_eq (exec_searchDwellDone ..) ((quiet_execSearchDwellDone ..).sound hi)
  | channelPullinEnd => exact sound_of_eq (exec_channelPullinEnd ..) ((quiet_execChannelPullinEnd ..).sound hi)
  | channelCoastEnter => exact sound_of_eq (exec_channelCoastEnter ..) ((quiet_execChannelCoastEnter ..).sound hi)
  | channelCoastTimeout => exact sound_of_eq (exec_channelCoastTimeout ..) ((quiet_execChannelCoastTimeout ..).sound hi)
  | channelRelock => exact sound_of_eq (exec_channelRelock ..) ((quiet_execChannelRelock ..).sound hi)
  | antennaBiasShort => exact sound_of_eq (exec_antennaBiasShort ..) ((quiet_execAntennaBiasShort ..).sound hi)
  | antennaBiasRetry => exact sound_of_eq (exec_antennaBiasRetry ..) ((quiet_execAntennaBiasRetry ..).sound hi)
  | antennaOpen => exact sound_of_eq (exec_antennaOpen ..) ((quiet_execAntennaOpen ..).sound hi)
  | rtcmFrame => exact sound_of_eq (exec_rtcmFrame ..) ((quiet_execRtcmFrame ..).sound hi)
  | tallyQueueAdmit => exact sound_of_eq (exec_tallyQueueAdmit ..) ((quiet_execTallyQueueAdmit ..).sound hi)
  | tallyClaimRefused => exact sound_of_eq (exec_tallyClaimRefused ..) ((quiet_execTallyClaimRefused ..).sound hi)
  | tallyTransientEnd => exact sound_of_eq (exec_tallyTransientEnd ..) ((quiet_execTallyTransientEnd ..).sound hi)
  | vbatClaimWaitWarn => exact sound_of_eq (exec_vbatClaimWaitWarn ..) ((quiet_execVbatClaimWaitWarn ..).sound hi)
  | lswLimitEngage => exact sound_of_eq (exec_lswLimitEngage ..) ((quiet_execLswLimitEngage ..).sound hi)
  | lswTrip => exact sound_of_eq (exec_lswTrip ..) ((quiet_execLswTrip ..).sound hi)
  | lswThermalLatch => exact sound_of_eq (exec_lswThermalLatch ..) ((quiet_execLswThermalLatch ..).sound hi)
  | lswThermalRelease => exact sound_of_eq (exec_lswThermalRelease ..) ((quiet_execLswThermalRelease ..).sound hi)
  | lswBackoffEnd => exact sound_of_eq (exec_lswBackoffEnd ..) ((quiet_execLswBackoffEnd ..).sound hi)
  | dirInputHigh => exact sound_of_eq (exec_dirInputHigh ..) ((quiet_execDirInputHigh ..).sound hi)
  | dirInputLow100ms => exact sound_of_eq (exec_dirInputLow100ms ..) ((quiet_execDirInputLow100ms ..).sound hi)
  | pwmPeriodStart => exact sound_of_eq (exec_pwmPeriodStart ..) ((quiet_execPwmPeriodStart ..).sound hi)
  | pwmUndrivenSettle => exact sound_of_eq (exec_pwmUndrivenSettle ..) ((quiet_execPwmUndrivenSettle ..).sound hi)
  | bankUndervoltage => exact sound_of_eq (exec_bankUndervoltage ..) ((quiet_execBankUndervoltage ..).sound hi)
  | bankUvRestart => exact sound_of_eq (exec_bankUvRestart ..) ((quiet_execBankUvRestart ..).sound hi)
  | bankOvervoltage => exact sound_of_eq (exec_bankOvervoltage ..) ((quiet_execBankOvervoltage ..).sound hi)
  | bankOvRestart => exact sound_of_eq (exec_bankOvRestart ..) ((quiet_execBankOvRestart ..).sound hi)
  | solRiseDone => exact sound_of_eq (exec_solRiseDone ..) ((quiet_execSolRiseDone ..).sound hi)
  | solArmatureMove => exact sound_of_eq (exec_solArmatureMove ..) ((quiet_execSolArmatureMove ..).sound hi)
  | solRiseTimeout => exact sound_of_eq (exec_solRiseTimeout ..) ((quiet_execSolRiseTimeout ..).sound hi)
  | solPeakEnd => exact sound_of_eq (exec_solPeakEnd ..) ((quiet_execSolPeakEnd ..).sound hi)
  | solFallDone => exact sound_of_eq (exec_solFallDone ..) ((quiet_execSolFallDone ..).sound hi)
  | solFallTimeout => exact sound_of_eq (exec_solFallTimeout ..) ((quiet_execSolFallTimeout ..).sound hi)
  | solHoldEnd => exact sound_of_eq (exec_solHoldEnd ..) ((quiet_execSolHoldEnd ..).sound hi)
  | solDeferExpired => exact sound_of_eq (exec_solDeferExpired ..) ((quiet_execSolDeferExpired ..).sound hi)
  | solLowSideTrip => exact sound_of_eq (exec_solLowSideTrip ..) ((quiet_execSolLowSideTrip ..).sound hi)
  | solHighSideTrip => exact sound_of_eq (exec_solHighSideTrip ..) ((quiet_execSolHighSideTrip ..).sound hi)
  | neutralRampEnd => exact sound_of_eq (exec_neutralRampEnd ..) ((quiet_execNeutralRampEnd ..).sound hi)
  | solCalOld => exact sound_of_eq (exec_solCalOld ..) ((quiet_execSolCalOld ..).sound hi)
  | solCoilEstimate => exact sound_of_eq (exec_solCoilEstimate ..) ((quiet_execSolCoilEstimate ..).sound hi)
  | pgndFault => exact sound_of_eq (exec_pgndFault ..) ((quiet_execPgndFault ..).sound hi)
  | pgndRecover => exact sound_of_eq (exec_pgndRecover ..) ((quiet_execPgndRecover ..).sound hi)
  | whorlRenewal => exact sound_of_eq (exec_whorlRenewal ..) (sound_execWhorlRenewal _ hi)
  | checkpointCapture => exact sound_of_eq (exec_checkpointCapture ..) ((quiet_execCheckpointCapture ..).sound hi)
  | checkpointCommit => exact sound_of_eq (exec_checkpointCommit ..) (sound_execCheckpointCommit _ hi)
  | comparatorMismatch => exact sound_of_eq (exec_comparatorMismatch ..) (sound_execComparatorMismatch _ _ hi)
  | eccUncorrectable => exact sound_of_eq (exec_eccUncorrectable ..) (sound_execEccUncorrectable _ _ hi)
  | leaseExpiry => exact sound_of_eq (exec_leaseExpiry ..) (sound_execLeaseExpiry _ hi)
  | laneCtrlYield => exact sound_of_eq (exec_laneCtrlYield ..) (sound_execLaneCtrlYield _ hi)
  | failedSupplyOff => exact sound_of_eq (exec_failedSupplyOff ..) ((quiet_execFailedSupplyOff ..).sound hi)
  | leaseGuardEnd => exact sound_of_eq (exec_leaseGuardEnd ..) ((quiet_execLeaseGuardEnd ..).sound hi)
  | standbyWakeDone => exact sound_of_eq (exec_standbyWakeDone ..) ((quiet_execStandbyWakeDone ..).sound hi)
  | checkpointRestored => exact sound_of_eq (exec_checkpointRestored ..) ((quiet_execCheckpointRestored ..).sound hi)
  | whorlGrant => exact sound_of_eq (exec_whorlGrant ..) (sound_execWhorlGrant _ hi)
  | lkTimingWrite => exact sound_of_eq (exec_lkTimingWrite ..) (sound_execLkTimingWrite _ _ _ hi)
  | coldLaneScrub => exact sound_of_eq (exec_coldLaneScrub ..) (sound_execColdLaneScrub _ _ _ hi)
  | clockMonitorFail => exact sound_of_eq (exec_clockMonitorFail ..) ((quiet_execClockMonitorFail ..).sound hi)
  | clockReturnMain => exact sound_of_eq (exec_clockReturnMain ..) ((quiet_execClockReturnMain ..).sound hi)
  | sundialGnssTimeout => exact sound_of_eq (exec_sundialGnssTimeout ..) ((quiet_execSundialGnssTimeout ..).sound hi)
  | sundialStep => exact sound_of_eq (exec_sundialStep ..) ((quiet_execSundialStep ..).sound hi)
  | ppsEdge => exact sound_of_eq (exec_ppsEdge ..) ((quiet_execPpsEdge ..).sound hi)
  | ppsPulseEnd => exact sound_of_eq (exec_ppsPulseEnd ..) ((quiet_execPpsPulseEnd ..).sound hi)
  | rtcUpdate => exact sound_of_eq (exec_rtcUpdate ..) ((quiet_execRtcUpdate ..).sound hi)
  | leapSecond => exact sound_of_eq (exec_leapSecond ..) ((quiet_execLeapSecond ..).sound hi)
  | gptpSyncSend => exact sound_of_eq (exec_gptpSyncSend ..) ((quiet_execGptpSyncSend ..).sound hi)
  | gptpAnnounceSend => exact sound_of_eq (exec_gptpAnnounceSend ..) ((quiet_execGptpAnnounceSend ..).sound hi)
  | gptpPeerDelay => exact sound_of_eq (exec_gptpPeerDelay ..) ((quiet_execGptpPeerDelay ..).sound hi)
  | gptpAnnounceReceived => exact sound_of_eq (exec_gptpAnnounceReceived ..) ((quiet_execGptpAnnounceReceived ..).sound hi)
  | canFrameReceived => exact sound_of_eq (exec_canFrameReceived ..) ((quiet_execCanFrameReceived ..).sound hi)
  | canRxHeldDeliver => exact sound_of_eq (exec_canRxHeldDeliver ..) ((quiet_execCanRxHeldDeliver ..).sound hi)
  | canTxBufferLoad => exact sound_of_eq (exec_canTxBufferLoad ..) ((quiet_execCanTxBufferLoad ..).sound hi)
  | canFrameTransmitted => exact sound_of_eq (exec_canFrameTransmitted ..) ((quiet_execCanFrameTransmitted ..).sound hi)
  | canTxTimeout => exact sound_of_eq (exec_canTxTimeout ..) ((quiet_execCanTxTimeout ..).sound hi)
  | canProtocolError => exact sound_of_eq (exec_canProtocolError ..) ((quiet_execCanProtocolError ..).sound hi)
  | canBusOffRecovered => exact sound_of_eq (exec_canBusOffRecovered ..) ((quiet_execCanBusOffRecovered ..).sound hi)
  | canIntegrated => exact sound_of_eq (exec_canIntegrated ..) ((quiet_execCanIntegrated ..).sound hi)
  | canListenApply => exact sound_of_eq (exec_canListenApply ..) ((quiet_execCanListenApply ..).sound hi)
  | ethFrameReceived => exact sound_of_eq (exec_ethFrameReceived ..) ((quiet_execEthFrameReceived ..).sound hi)
  | ethFrameEgress => exact sound_of_eq (exec_ethFrameEgress ..) ((quiet_execEthFrameEgress ..).sound hi)
  | gateListAdvance => exact sound_of_eq (exec_gateListAdvance ..) ((quiet_execGateListAdvance ..).sound hi)
  | ethLinkDown => exact sound_of_eq (exec_ethLinkDown ..) ((quiet_execEthLinkDown ..).sound hi)
  | ethLinkUp => exact sound_of_eq (exec_ethLinkUp ..) ((quiet_execEthLinkUp ..).sound hi)
  | macEntryAgeing => exact sound_of_eq (exec_macEntryAgeing ..) ((quiet_execMacEntryAgeing ..).sound hi)
  | skeinRecordReceive => exact sound_of_eq (exec_skeinRecordReceive ..) (sound_execSkeinRecordReceive _ hi)
  | skeinFlashWrite => exact sound_of_eq (exec_skeinFlashWrite ..) (sound_execSkeinFlashWrite _ hi)
  | skeinChallengeExpiry => exact sound_of_eq (exec_skeinChallengeExpiry ..) ((quiet_execSkeinChallengeExpiry ..).sound hi)
  | skeinClearDone => exact sound_of_eq (exec_skeinClearDone ..) (sound_execSkeinClearDone _ hi)
  | ibyarManifest => exact sound_of_eq (exec_ibyarManifest ..) ((quiet_execIbyarManifest ..).sound hi)
  | ibyarChunk => exact sound_of_eq (exec_ibyarChunk ..) ((quiet_execIbyarChunk ..).sound hi)
  | ibyarAck => exact sound_of_eq (exec_ibyarAck ..) ((quiet_execIbyarAck ..).sound hi)
  | ibyarRequest => exact sound_of_eq (exec_ibyarRequest ..) ((quiet_execIbyarRequest ..).sound hi)
  | ibyarRequestTimeout => exact sound_of_eq (exec_ibyarRequestTimeout ..) ((quiet_execIbyarRequestTimeout ..).sound hi)
  | ibyarResendTimeout => exact sound_of_eq (exec_ibyarResendTimeout ..) ((quiet_execIbyarResendTimeout ..).sound hi)
  | updateStagingDone => exact sound_of_eq (exec_updateStagingDone ..) ((quiet_execUpdateStagingDone ..).sound hi)
  | activationBoundary => exact sound_of_eq (exec_activationBoundary ..) (sound_execActivationBoundary _ hi)
  | pauseRebootDone => exact sound_of_eq (exec_pauseRebootDone ..) ((quiet_execPauseRebootDone ..).sound hi)
  | pauseRestoreDone => exact sound_of_eq (exec_pauseRestoreDone ..) ((quiet_execPauseRestoreDone ..).sound hi)
  | pauseGateOpen => exact sound_of_eq (exec_pauseGateOpen ..) (sound_execPauseGateOpen _ hi)
  | handoverBootDone => exact sound_of_eq (exec_handoverBootDone ..) (sound_execHandoverBootDone _ _ hi)
  | handoverRestoreDone => exact sound_of_eq (exec_handoverRestoreDone ..) ((quiet_execHandoverRestoreDone ..).sound hi)
  | whorlTransfer => exact sound_of_eq (exec_whorlTransfer ..) (sound_execWhorlTransfer _ hi)
  | trialHealthOk => exact sound_of_eq (exec_trialHealthOk ..) ((quiet_execTrialHealthOk ..).sound hi)
  | trialExpired => exact sound_of_eq (exec_trialExpired ..) (sound_execTrialExpired _ hi)
  | updateCommitDone => exact sound_of_eq (exec_updateCommitDone ..) (sound_execUpdateCommitDone _ _ hi)
  | settingsMigrationDone => exact sound_of_eq (exec_settingsMigrationDone ..) (sound_execSettingsMigrationDone _ _ hi)
  | panelFrameBoundary => exact sound_of_eq (exec_panelFrameBoundary ..) ((quiet_execPanelFrameBoundary ..).sound hi)
  | panelUpdateComplete => exact sound_of_eq (exec_panelUpdateComplete ..) ((quiet_execPanelUpdateComplete ..).sound hi)
  | panelRailsUp => exact sound_of_eq (exec_panelRailsUp ..) ((quiet_execPanelRailsUp ..).sound hi)
  | panelRailIdle => exact sound_of_eq (exec_panelRailIdle ..) ((quiet_execPanelRailIdle ..).sound hi)
  | panelRailFault => exact sound_of_eq (exec_panelRailFault ..) ((quiet_execPanelRailFault ..).sound hi)
  | panelTableLoad => exact sound_of_eq (exec_panelTableLoad ..) ((quiet_execPanelTableLoad ..).sound hi)
  | panelRecovery => exact sound_of_eq (exec_panelRecovery ..) ((quiet_execPanelRecovery ..).sound hi)
  | plateHot => exact sound_of_eq (exec_plateHot ..) ((quiet_execPlateHot ..).sound hi)
  | holdupStepsComplete => exact sound_of_eq (exec_holdupStepsComplete ..) (sound_execHoldupStepsComplete _ _ hi)
  | distaffEntryWaitWarning => exact sound_of_eq (exec_distaffEntryWaitWarning ..) ((quiet_execDistaffEntryWaitWarning ..).sound hi)
  | antennaBiasOk => exact sound_of_eq (exec_antennaBiasOk ..) ((quiet_execAntennaBiasOk ..).sound hi)
  | spacingChangeApply => exact sound_of_eq (exec_spacingChangeApply ..) ((quiet_execSpacingChangeApply ..).sound hi)
  -- the unordered comparison is left: its constructor's name is a keyword of Lean
  | _ => exact sound_of_eq (exec_fun ..) ((quiet_intoP ..).sound hi)

theorem inv_step {s t : State} (hi : Inv s) (h : step s = .next t) : Inv t := by
  unfold step at h
  split at h
  · cases h
    exact inv_of_watch (by simp [watch]) hi
  · rename_i c rest _
    have hsound : Sound (exec c { s with pending := rest }) := sound_exec c (inv_of_watch (s := s) rfl hi)
    rw [h] at hsound
    exact hsound

/-- Settles O4: every command keeps what the invariants look at as it is, or changes it by an operation that keeps them. -/
theorem stepsKeepInvariants : Obligations.StepsKeepInvariants := by
  unfold Obligations.StepsKeepInvariants
  exact fun _ _ hi h => inv_step hi h

end Sys2Proof.Machine
end
